-- ==== Sys2Proof/Word.lean ====
section
/-! DEFINITION. The plainest words of the model: a byte, a string of bytes, and an instant.
Object values travel as bytes (Table 2.1, R34); instants are whole nanoseconds of the chip's own time scale. -/

namespace Sys2Proof

/-- One byte of a message, an object value or a memory word. -/
abbrev Byte := BitVec 8

/-- A string of bytes, first byte first. -/
abbrev Bytes := List Byte

end Sys2Proof
end

