-- ==== Sys2Proof/Syntax.lean ====
section
/-! DEFINITION. The commands of the GE1024: one constructor of `Instr` for each row of spec/opcode_table.json,
and the plain data that its operands are made of. The table gives no row any operand field or bit; the
operands here are what the row's rule names (a message, a written value, a unit, a measured quantity).
The first operand of every command, `t`, is the instant in nanoseconds at which the command arrives
(log entry 2). -/

namespace Sys2Proof

/-! ## Operand data -/

/-- The address of an object: family, instance, subindex (R33). -/
structure Key where
  fam : Nat
  inst : Nat
  sub : Nat
  deriving DecidableEq, Repr

/-- The value of an object. Numeric types of Table 2.1 (BOOL to BITSET32, ID32, and TIME80 as whole
nanoseconds) are `n`; STRING and OCTETS are `b` (R34). -/
inductive Val where
  | n (v : Int)
  | b (bs : Bytes)
  deriving DecidableEq, Repr

/-- The transport of a message (Table 2.15, transport). -/
inductive Path where
  | mgt0 | mgt1 | spi | mesh
  deriving DecidableEq, Repr

/-- Where a message came from, and so where its reply goes (R46, R64). -/
structure Via where
  path : Path
  peer : Bytes
  port : Nat
  deriving DecidableEq, Repr

/-- The party that writes one object record: its role (R36), its session identifier, and its slot
of 1010h (0 where it holds none, as the twin mirror). -/
structure Writer where
  role : Nat
  session : Nat
  slot : Nat
  deriving DecidableEq, Repr

/-- The essence of a global identifier (Table 1.3). -/
inductive Essence where
  | video | audio | anc | timing
  deriving DecidableEq, Repr

/-- A destination of this chip by essence and local index (Tables 1.5 to 1.7). -/
structure Dst where
  ess : Essence
  idx : Nat
  deriving DecidableEq, Repr

/-- One stripe or cell stream of a placement: the stream it is (its feeding unit and its link within it, equal for
the destinations that share it, R93, R156), the plane it crosses, the ingress tile it enters from, the egress tile
it reaches, and its booking in thousands of handshakes a second (R92, R161). -/
structure Stripe where
  feed : Nat
  link : Nat
  plane : Nat
  inTile : Nat
  outTile : Nat
  khs : Nat
  deriving DecidableEq, Repr

/-- A take entry (Table 2.9): identifiers as 32-bit numbers, the instant in nanoseconds. -/
structure TakeEntry where
  dst : Nat
  src : Nat
  mode : Nat
  tb : Nat
  tag : Nat
  instant : Nat
  deriving DecidableEq, Repr

/-- The resources that carry one route (R152): identifiers normalised to the pair (R27), the timing path as
3100h sub 09 codes it, the store where there is one, stripes, ASRC channels, mesh lanes with the Mb/s booked on
each, the mesh hops of the route, and the ns by which the delays of its hops exceed 100 ns each, which add to the
effective playout delay D (R85, R86). -/
structure Placement where
  dst : Nat
  src : Nat
  path : Nat
  store : Option Nat
  stripes : List Stripe
  asrc : List Nat
  lanes : List (Nat × Nat)
  hops : Nat
  delay : Nat
  deriving DecidableEq, Repr

/-- What an SDI receiver has measured and read after it has locked (R203, R204): the mode of Table 8.1, the
format code of the raster and rate in its interlaced or progressive reading, the PsF code of the same
raster (0 where there is none), and the payload ID where one is present: its four bytes, whether it says
PsF, its sampling, its division, and whether it contradicts the measured raster or rate. -/
structure SdiDetect where
  mode : Nat
  format : Nat
  psf : Nat
  pid : Option Nat
  pidPsf : Bool
  pidSampling : Nat
  pidDivision : Nat
  pidContradicts : Bool
  groups : Nat
  deriving DecidableEq, Repr

/-- An ancillary packet of an SDI input (R211, R212): identifiers, space (1 VANC, 2 HANC), line, stream
(1 Y or A, 2 C or B), link, size in words, and whether its checksum is correct. -/
structure AncPacket where
  did : Nat
  sdid : Nat
  space : Nat
  line : Nat
  stream : Nat
  link : Nat
  size : Nat
  checksumOk : Bool
  deriving DecidableEq, Repr

/-- A received RTP packet (R235): where it came in and what its headers carry. -/
structure RxPacket where
  port : Nat
  vlan : Nat
  dstAddr : Bytes
  udp : Nat
  srcAddr : Bytes
  payloadType : Nat
  ssrc : Nat
  seq : Nat
  ts : Nat
  marker : Bool
  inFormat : Bool
  hash : Nat
  deriving DecidableEq, Repr

/-- A frame that a media interface answers or learns from (R223). -/
inductive NeighbourFrame where
  | arpRequest (target : Nat)
  | arpReply (addr : Bytes) (mac : Nat)
  | ndSolicit (target : Bytes)
  | ndAdvert (addr : Bytes) (mac : Nat)
  | echo4 (target : Nat) (data : Bytes)
  | echo6 (target : Bytes) (data : Bytes)
  /-- A frame with a bad FCS, and a PAUSE or priority flow control frame (R222). -/
  | badFcs
  | pause
  deriving DecidableEq, Repr

/-- The staged transport parameters of one IS-05 leg (R251). -/
structure Is05Leg where
  port : Nat
  address : Bytes
  source : Bytes
  udp : Nat
  enabled : Bool
  deriving DecidableEq, Repr

/-- A received PTP message as the instance reads it (R347 to R356). -/
inductive PtpMsg where
  /-- Announce: the master's priority1, class, accuracy, variance, priority2, grandmaster identity,
  steps removed, UTC offset, sender port identity, and the interval it announces at. -/
  | announce (domain p1 cls acc var p2 : Nat) (gm : Bytes) (steps : Nat) (utc : Int) (sender : Bytes)
  /-- Sync with its follow-up information: a measured offset from master and path delay, in ps. -/
  | sync (domain : Nat) (offset : Int) (pathDelay : Int)
  | delayReq (domain : Nat)
  | delayResp (domain : Nat) (pathDelay : Int)
  /-- A message of an unsupported option (R351). -/
  | unsupported
  deriving DecidableEq, Repr

/-- The PTP messages that a port sends (R350). -/
inductive PtpSend where
  | announce | sync | delayReq | delayResp
  deriving DecidableEq, Repr

/-- A training set of a mesh lane (Table 15.4). -/
inductive TrainingSet where
  | announce (serial : Bytes) (chip role ordering vmin vmax lane rev : Nat)
  | echo (turnaround roundTrip : Nat)
  deriving DecidableEq, Repr

/-- Why a mesh link goes down (R402). -/
inductive LinkLoss where
  | lock | alignment | commas | errors | credit
  deriving DecidableEq, Repr

/-- The identity that a twin sends at the handshake (R413), with its present role, readiness and the
home setting it holds; and of the link itself the lanes that have trained (bit n for TWLn) and the one-way delay measured
in training, in ps (R416). -/
structure TwinHello where
  serial : Bytes
  ordering : Nat
  stepping : Bytes
  version : Nat
  peers : List (Nat × Nat)
  epoch : Nat
  home : Nat
  role : Nat
  ready : Bool
  manifest : Bytes
  lanes : Nat
  delay : Nat
  deriving DecidableEq, Repr

/-- A finding of the Barometer (Tables 16.4 and 16.10): its code, its class, its tile or FFh for the chip, and its detail. -/
structure Finding where
  code : Nat
  cls : Nat
  tile : Nat
  detail : Nat
  deriving DecidableEq, Repr

/-- One item that crosses the twin link (Table 16.2). -/
inductive MirrorItem where
  | write (k : Key) (v : Val)
  | place (p : Placement) (switchAt : Nat)
  | release (dst : Nat)
  /-- A store that a placement needs newly, and the store that it deepens (R183). -/
  | store (i purpose src fmt smp stack depth writeTile readTile : Nat) (stripes : List Stripe) (deepens : Option Nat)
  | asrc (ch slice dst src : Nat)
  | hbm (fam inst stack mbps bytes : Nat)
  | alloc (scaler pixels : Nat)
  /-- The decision to pour, with E on the salvo's time base. -/
  | pour (slot gen e tb : Nat)
  | salvoDrop (slot cause : Nat)
  | part (slot gen coord : Nat) (entries : List (TakeEntry × Nat))
  | readDecision (d frame : Nat)
  | turn (scaler : Nat)
  | step (tb : Nat) (delta : Int)
  | tbOffset (tb reading : Nat) (pending : Int)
  | portState (port state : Nat)
  | dpll (k : Nat) (freq model : Int) (valid : Bool)
  | image (layer : Nat) (data : Bytes)
  /-- Both image buffers of a layer, as image values, and its palette (R415). -/
  | buffers (layer : Nat) (front back : List Bytes) (palette : Bytes)
  | exclusion (kind unit : Nat)
  /-- From the standby: whether it is at Ready and in safe state, and its findings (Table 16.4). -/
  | barometer (ready safe : Bool) (findings : List Finding)
  deriving DecidableEq, Repr

/-- A message of domain control between chips (Table 15.2), with the data each kind carries. -/
inductive CtlMsg where
  | heartbeat (chip state rev : Nat)
  /-- A chip's link list (R407), with its mesh ledger: for a lane what is booked and what may be (R173). -/
  | linkList (chip : Nat) (links booked : List (Nat × Nat × Nat))
  | odrath (chip : Nat) (raw : Bytes)
  | salvoQuery (chip slot gen : Nat)
  /-- The coordinator's answer: 0 nothing yet, 1 poured, 2 dropped; E on the salvo's time base where poured. -/
  | salvoAnswer (coord slot outcome e tb : Nat)
  /-- A route that its destination's chip passes to this chip as head, and a chip's answer to a reserve (R173). -/
  | routeAsk (asker dst src mbps limit : Nat)
  | reserved (chip ident code detail : Nat)
  /-- A head's result for a cross-chip route that this chip asked for: the code and detail of a refusal (R173). -/
  | routeResult (dst code detail : Nat)
  | probe (chip : Nat)
  | probeReply (chip : Nat)
  deriving DecidableEq, Repr

/-- A control interconnect request (R471 to R477): initiator, target, identifier, whether it writes, the
bank (6000h instance) it reaches at a bank target, the word address and value, and whether it unlocks a locked
sequence (R477). -/
structure IcReq where
  init : Nat
  target : Nat
  ident : Nat
  write : Bool
  bank : Nat
  addr : Nat
  data : Nat
  last : Bool
  deriving DecidableEq, Repr

/-- The measures of a loudness group at one update (R305), in the units of Table 11.15. -/
structure LoudMeas where
  momentary : Int
  shortTerm : Int
  integrated : Int
  range : Nat
  truePeak : Int
  deriving DecidableEq, Repr

/-- What a bring-up phase found (R511): whether the slots' images pass, stacks that failed training, lanes
that failed calibration, whether the settings slot passes, records of the carry-over block to skip, and
the ms it took. -/
structure PhaseResult where
  ms : Nat
  activeOk : Bool
  otherOk : Bool
  stacksFailed : List Nat
  lanesFailed : List Nat
  settingsOk : Bool
  carryBad : List Nat
  deriving DecidableEq, Repr

/-- One signature record of a destination's frame from the primary, beside what this chip computed (R423). -/
structure SigFrame where
  dst : Nat
  video : Nat
  ownVideo : Nat
  audio : List Nat
  ownAudio : List Nat
  ownFill : Bool
  twinFill : Bool
  twinSafe : Bool
  deriving DecidableEq, Repr

/-! ## The commands -/

/-- The operations and events of the GE1024, one constructor per row of spec/opcode_table.json. -/
inductive Instr where
  -- The Odrath protocol (02)
  /-- READ, R43. -/
  | read (t : Nat) (via : Via) (raw : Bytes)
  /-- READ_DESCRIBE, R45. -/
  | readDescribe (t : Nat) (via : Via) (raw : Bytes)
  /-- WRITE, R60. -/
  | write (t : Nat) (via : Via) (raw : Bytes)
  /-- WRITE_TXN, R60. -/
  | writeTxn (t : Nat) (via : Via) (raw : Bytes)
  /-- GENERIC_OBJECT_WRITE, R37. -/
  | genericObjectWrite (t : Nat) (w : Writer) (k : Key) (v : Val)
  /-- SUBSCRIBE_ADD, R63. -/
  | subscribeAdd (t : Nat) (via : Via) (raw : Bytes)
  /-- SUBSCRIBE_REMOVE, R63. -/
  | subscribeRemove (t : Nat) (via : Via) (raw : Bytes)
  /-- SUBSCRIBE_REMOVE_ALL, R63. -/
  | subscribeRemoveAll (t : Nat) (via : Via) (raw : Bytes)
  /-- EVENT_INTERVAL, R64: the interval of one mode-2 subscription of a session slot ends. -/
  | eventInterval (t : Nat) (slot sub : Nat)
  /-- PERIODIC_REPORT, R64: the interval of one mode-1 subscription ends. `unsent` is how many objects of the
  previous report had not been sent when this one fell due. -/
  | periodicReport (t : Nat) (slot sub unsent : Nat)
  /-- TAKE, R126. -/
  | take (t : Nat) (via : Via) (raw : Bytes)
  /-- PRIORITY_TAKE, R62. -/
  | priorityTake (t : Nat) (via : Via) (raw : Bytes)
  /-- SALVO_PREPARE, R138. -/
  | salvoPrepare (t : Nat) (via : Via) (raw : Bytes)
  /-- SALVO_POUR, R141. -/
  | salvoPour (t : Nat) (via : Via) (raw : Bytes)
  /-- SALVO_DROP, R144. -/
  | salvoDrop (t : Nat) (via : Via) (raw : Bytes)
  /-- BULK_OPEN, R65. -/
  | bulkOpen (t : Nat) (via : Via) (raw : Bytes)
  /-- BULK_CHUNK, R65. -/
  | bulkChunk (t : Nat) (via : Via) (raw : Bytes)
  /-- BULK_CLOSE, R66. -/
  | bulkClose (t : Nat) (via : Via) (raw : Bytes)
  /-- BULK_ABORT, R66. -/
  | bulkAbort (t : Nat) (via : Via) (raw : Bytes)
  /-- BULK_HANDLE_TIMEOUT, R65. -/
  | bulkHandleTimeout (t : Nat) (handle : Nat)
  /-- SPI_SEND_MESSAGE, R48: SPI command 01h with its length and the message's bytes. -/
  | spiSendMessage (t : Nat) (len : Nat) (raw : Bytes)
  /-- SPI_FETCH, R48. -/
  | spiFetch (t : Nat)
  /-- SPI_WAIT_TIMEOUT, R49, with the bytes of the message under way. -/
  | spiWaitTimeout (t : Nat) (raw : Bytes)
  /-- SESSION_IDLE_TIMEOUT, R56. -/
  | sessionIdleTimeout (t : Nat) (slot : Nat)
  /-- SESSION_CLOSE, R540. -/
  | sessionClose (t : Nat) (w : Writer) (slot : Nat)
  /-- KEY_WRITE, R57: the key of a role, written at 1010h[0].05 + role. -/
  | keyWrite (t : Nat) (w : Writer) (role : Nat) (key : Bytes)
  -- Takes, salvos and placement (04 to 06)
  /-- TAKE_CANCEL, R129. -/
  | takeCancel (t : Nat) (w : Writer) (slot : Nat)
  /-- PLACER_TASK_START, R167. -/
  | placerTaskStart (t : Nat)
  /-- PLACEMENT_COMPLETE, R152. -/
  | placementComplete (t : Nat)
  /-- TIMED_TAKE_ARM, R112. -/
  | timedTakeArm (t : Nat) (slot : Nat)
  /-- STORE_PRIMED, R108. -/
  | storePrimed (t : Nat) (store : Nat)
  /-- SWITCH_INSTANT, R109. -/
  | switchInstant (t : Nat) (d : Dst)
  /-- TAKE_LIST_WRITE, R137. -/
  | takeListWrite (t : Nat) (w : Writer) (slot : Nat) (list : Bytes)
  /-- SALVO_RELEASE, R151. -/
  | salvoRelease (t : Nat) (w : Writer) (slot : Nat)
  /-- SALVO_PART_ARRIVAL, R139: the member's entries, each with E on its destination's time base. -/
  | salvoPartArrival (t : Nat) (coord slot gen : Nat) (entries : List (TakeEntry × Nat))
  /-- SALVO_PART_REPORT, R139: a member pair reports its part prepared (code 0), or a refusal and its index. -/
  | salvoPartReport (t : Nat) (slot pair code index : Nat)
  /-- POUR_INSTANT, R141. -/
  | pourInstant (t : Nat) (slot : Nat)
  /-- POUR_DECISION_ACK, R142. -/
  | pourDecisionAck (t : Nat) (slot : Nat)
  /-- POUR_ACK_TIMEOUT, R142. -/
  | pourAckTimeout (t : Nat) (slot : Nat)
  /-- POUR_NOTICE, R143: with E on the salvo's time base, which a salvo on command sets at its pour. -/
  | pourNotice (t : Nat) (coord slot e tb : Nat)
  /-- SALVO_PART_DONE, R143: a member's results, a word of Table 5.10 for each of its list indices. -/
  | salvoPartDone (t : Nat) (slot pair : Nat) (results : List (Nat × Nat))
  /-- SALVO_DROP_NOTICE, R144. -/
  | salvoDropNotice (t : Nat) (coord slot : Nat)
  /-- SALVO_MEMBER_QUERY, R148. -/
  | salvoMemberQuery (t : Nat) (coord slot : Nat)
  /-- SALVO_ORPHAN, R148. -/
  | salvoOrphan (t : Nat) (coord slot : Nat)
  /-- CROSS_CHIP_RESERVE, R173: the head asks this chip to reserve its part of a route. -/
  | crossChipReserve (t : Nat) (head ident : Nat) (part : Placement) (meshIn meshOut : Nat) (mbps : Nat)
  /-- RESERVE_CONFIRM, R173: the head confirms or releases a reserved part. -/
  | reserveConfirm (t : Nat) (head ident : Nat) (confirm : Bool)
  /-- RESERVE_TIMEOUT, R174. -/
  | reserveTimeout (t : Nat) (head ident : Nat)
  /-- HINT_ENABLE, R170. -/
  | hintEnable (t : Nat) (w : Writer) (inst : Nat) (on : Bool)
  /-- REOPTIMISE, R171. -/
  | reoptimise (t : Nat) (w : Writer)
  /-- SOURCE_FRAME_START, R106: line 1 of a frame of video source `s` arrives at `t`. `skew` is the measured
  skew of a quad-link input's links in ns (R205). -/
  | sourceFrameStart (t : Nat) (s skew : Nat)
  /-- SOURCE_ABSENT, R107. -/
  | sourceAbsent (t : Nat) (s : Nat)
  -- Frame stores (07)
  /-- STORE_READ_INSTANT, R184: the read instant of destination `d`. -/
  | storeReadInstant (t : Nat) (d : Nat)
  /-- STORE_DEEPEN_READY, R183. -/
  | storeDeepenReady (t : Nat) (store : Nat)
  /-- RECIRC_WRITE, R193: recirc_of of video source `s`. -/
  | recircWrite (t : Nat) (w : Writer) (s dst : Nat)
  /-- LINE_PLAYOUT, R83: the playout point of one line or packet of video destination `d`. -/
  | linePlayout (t : Nat) (d line : Nat) (onTime : Bool)
  /-- FABRIC_CELL_ERROR, R98: a codeword of a cell as read at a plane input or egress stage. `kind3` tells that
  the cell's kind field reads 11b. -/
  | fabricCellError (t : Nat) (plane inTile outTile : Nat) (word : Nat) (kind3 : Bool) (d : Nat)
  /-- HBM_WORD_ERROR, R195: a word of a stack as read, and what the word belongs to (0 video slot of
  destination `d`, 1 audio, 2 side area). -/
  | hbmWordError (t : Nat) (stack addr : Nat) (word : Nat) (use d : Nat)
  /-- HBM_SCRUB_PERIOD, R196. -/
  | hbmScrubPeriod (t : Nat) (stack : Nat)
  -- SDI ports (08)
  /-- SDI_LANE_LOCKED, R203: the lane's rate in kb/s. -/
  | sdiLaneLocked (t : Nat) (p rate : Nat)
  /-- SDI_FORMAT_DETECTED, R204. -/
  | sdiFormatDetected (t : Nat) (p : Nat) (det : SdiDetect)
  /-- SDI_LOSS_OF_SIGNAL, R217. -/
  | sdiLossOfSignal (t : Nat) (p : Nat)
  /-- SDI_CHECK_ERROR, R206: `kind` 0 line CRC, 1 EDH active picture, 2 EDH full field, 3 TRS or line number. -/
  | sdiCheckError (t : Nat) (p kind : Nat)
  /-- ANC_PACKET_EXTRACT, R211. -/
  | ancPacketExtract (t : Nat) (p : Nat) (pkt : AncPacket)
  /-- ANC_PACKET_INSERT, R212: the free words of the lines from the slot's line on. -/
  | ancPacketInsert (t : Nat) (slot : Nat) (pkt : AncPacket) (room : List Nat)
  -- Packet video (09)
  /-- ETH_LINK_CHANGE, R222. -/
  | ethLinkChange (t : Nat) (p : Nat) (up : Bool)
  /-- ADDRESS_RESOLVE_TIMEOUT, R223: a flow (3700h or 7000h) and its leg (0 A, 1 B). -/
  | addressResolveTimeout (t : Nat) (fam inst leg : Nat)
  /-- FLOW_ENABLE, R225. -/
  | flowEnable (t : Nat) (w : Writer) (fam inst : Nat) (on : Bool)
  /-- GROUP_ENABLE, R227: instance 2048 + g or 4096 + g of 3700h. -/
  | groupEnable (t : Nat) (w : Writer) (inst : Nat) (on : Bool)
  /-- AUDIO_CHANNELS_WRITE, R228. -/
  | audioChannelsWrite (t : Nat) (w : Writer) (inst count : Nat)
  /-- PACKET_LAUNCH, R363: the scheduler of an interface (0 to 1023 port, 1024, 1025 MGT) releases its next
  frame; `delay` is how long after its instant it leaves, in ps. -/
  | packetLaunch (t : Nat) (iface delay : Nat)
  /-- RX_PACKET, R235: a packet that reached a flow's leg. -/
  | rxPacket (t : Nat) (fam inst leg : Nat) (pkt : RxPacket)
  /-- MERGE_LOST_DECLARE, R241. -/
  | mergeLostDeclare (t : Nat) (fam inst seq : Nat)
  /-- FRAME_RELEASE, R237: receive group `g`. -/
  | frameRelease (t : Nat) (g : Nat)
  /-- STANDALONE_RELEASE, R239. -/
  | standaloneRelease (t : Nat) (fam inst seq : Nat)
  /-- LEG_DOWN, R243. -/
  | legDown (t : Nat) (fam inst leg : Nat)
  /-- MERGE_SKEW_CHECK, R242. -/
  | mergeSkewCheck (t : Nat) (fam inst : Nat)
  /-- MCAST_QUERY, R246: a query on the interface of port `p` for a group address (empty: general). -/
  | mcastQuery (t : Nat) (p : Nat) (v6 : Bool) (group : Bytes)
  /-- UNSOLICITED_REPORT, R246. -/
  | unsolicitedReport (t : Nat) (fam inst leg : Nat)
  /-- LEAVE_HOLD_EXPIRY, R247. -/
  | leaveHoldExpiry (t : Nat) (fam inst : Nat)
  /-- MCAST_COMPAT_ENTER, R248. -/
  | mcastCompatEnter (t : Nat) (p : Nat) (v6 : Bool)
  /-- MCAST_COMPAT_EXPIRY, R248. -/
  | mcastCompatExpiry (t : Nat) (p : Nat) (v6 : Bool)
  /-- IS05_ACTIVATION, R251: immediate where `sched` is none, else staged for its TAI instant on TB0. -/
  | is05Activation (t : Nat) (fam inst : Nat) (legs : List Is05Leg) (sched : Option Nat)
  /-- IS05_SCHEDULED_ACTIVATION, R251. -/
  | is05ScheduledActivation (t : Nat) (fam inst : Nat)
  -- Composition (10)
  /-- HEAD_CLASS_WRITE, R256. -/
  | headClassWrite (t : Nat) (w : Writer) (head cls : Nat)
  /-- HEAD_PORT_BIND, R258. -/
  | headPortBind (t : Nat) (w : Writer) (head port : Nat)
  /-- HEAD_READ_INSTANT, R262. -/
  | headReadInstant (t : Nat) (head : Nat)
  /-- SCALER_FRAME_WRITE, R262. -/
  | scalerFrameWrite (t : Nat) (scaler : Nat)
  /-- SCALER_PAIR_WRITE, R268. -/
  | scalerPairWrite (t : Nat) (w : Writer) (scaler other : Nat)
  /-- LAYER_COMMIT, R270. -/
  | layerCommit (t : Nat) (w : Writer) (layer : Nat)
  /-- FLIP_POINT, R271. -/
  | flipPoint (t : Nat) (head : Nat)
  /-- COMMIT_TIMEOUT, R273: commit group 0 to 255. -/
  | commitTimeout (t : Nat) (group : Nat)
  /-- FENCE_RAISE, R272. -/
  | fenceRaise (t : Nat) (w : Writer) (fence value : Nat)
  /-- FENCE_RESET, R272. -/
  | fenceReset (t : Nat) (w : Writer) (fence : Nat)
  /-- GROUP_JOIN, R273: the group instance 2048 to 2303, or FFFFh to leave. -/
  | groupJoin (t : Nat) (w : Writer) (layer group : Nat)
  /-- GROUP_COMMIT, R273. -/
  | groupCommit (t : Nat) (w : Writer) (group : Nat)
  /-- LAYER_CLAIM, R275. -/
  | layerClaim (t : Nat) (w : Writer) (layer : Nat)
  /-- LAYER_TO_RENDERER, R275. -/
  | layerToRenderer (t : Nat) (w : Writer) (layer : Nat)
  /-- LAYER_RELEASE, R275. -/
  | layerRelease (t : Nat) (w : Writer) (layer : Nat)
  /-- IMAGE_WRITE, R277. -/
  | imageWrite (t : Nat) (w : Writer) (layer : Nat) (image : Bytes)
  /-- ELEMENTS_WRITE, R278. -/
  | elementsWrite (t : Nat) (w : Writer) (layer : Nat) (elements : Bytes)
  /-- RENDERER_REDRAW, R278; `done` tells whether the redraw finished before its flip point. -/
  | rendererRedraw (t : Nat) (layer : Nat) (done : Bool)
  /-- MIRROR_IMAGE_ACK, R276. -/
  | mirrorImageAck (t : Nat) (layer : Nat)
  /-- MIRROR_FLIP_ALONE, R276. -/
  | mirrorFlipAlone (t : Nat) (layer : Nat)
  -- Audio (11)
  /-- AUDIO_CLASS_CHANGE, R287. -/
  | audioClassChange (t : Nat) (d : Nat)
  /-- AUDIO_SLIP, R288. -/
  | audioSlip (t : Nat) (d : Nat)
  /-- AUDIO_LEVEL_WRITE, R290: gain, mute or polarity (4100h sub 03 to 05). -/
  | audioLevelWrite (t : Nat) (w : Writer) (d sub : Nat) (v : Int)
  /-- AUDIO_DELAY_WRITE, R290. -/
  | audioDelayWrite (t : Nat) (w : Writer) (d us : Nat)
  /-- TDM_FRAME_START, R296: direction instance 1 to 64 of 4200h; `fits` tells that a transmit member's data are
  in the sample memory, or that a receive member has room (R300). -/
  | tdmFrameStart (t : Nat) (dir : Nat) (fits : Bool)
  /-- SAP_RATE_MEASURE, R297: the measurement in mHz, and its departure from the declared DPLL in ppb. -/
  | sapRateMeasure (t : Nat) (dir mhz ppb : Nat)
  /-- SAP_CLOCK_LOST, R298. -/
  | sapClockLost (t : Nat) (dir : Nat)
  /-- SAP_FS_RETURN, R298. -/
  | sapFsReturn (t : Nat) (dir : Nat)
  /-- START_ARM, R299. -/
  | startArm (t : Nat) (w : Writer)
  /-- START_DISARM, R299. -/
  | startDisarm (t : Nat) (w : Writer)
  /-- START_TRIG_EDGE, R299. -/
  | startTrigEdge (t : Nat) (rising : Bool)
  /-- START_AT_INSTANT, R299. -/
  | startAtInstant (t : Nat)
  /-- SAP_RUN_WRITE, R300. -/
  | sapRunWrite (t : Nat) (w : Writer) (dir : Nat) (run : Bool)
  /-- ASRC_RELOCK, R302. -/
  | asrcRelock (t : Nat) (ch : Nat)
  /-- AES_LOCK, R303: the rate code of 4000h sub 03 and the measurement in mHz. -/
  | aesLock (t : Nat) (n rate mhz : Nat)
  /-- AES_BLOCK_COMPLETE, R285: a complete 24-byte channel-status block of an audio source. -/
  | aesBlockComplete (t : Nat) (src : Nat) (block : Bytes) (crcOk : Bool) (biphase parity : Nat)
  /-- AES_LOS, R303. -/
  | aesLos (t : Nat) (n : Nat)
  /-- LOUDNESS_ENABLE, R305. -/
  | loudnessEnable (t : Nat) (w : Writer) (g : Nat) (on : Bool)
  /-- LOUDNESS_UPDATE, R305. -/
  | loudnessUpdate (t : Nat) (g : Nat) (m : LoudMeas)
  /-- LOUDNESS_RESET, R306. -/
  | loudnessReset (t : Nat) (w : Writer) (g : Nat)
  -- References and DPLLs (12)
  /-- REF_PHASE_SAMPLE, R314: an event of entry `e`; the phase test's MTIE in ns as it now stands, and the entry's
  frequency against XO_IN in ppt over the last 10 s. -/
  | refPhaseSample (t : Nat) (e mtie : Nat) (freq : Int) (format : Nat)
  /-- REF_ACTIVITY_LOST, R317. -/
  | refActivityLost (t : Nat) (e : Nat)
  /-- REF_QUALIFIED, R317. -/
  | refQualified (t : Nat) (e : Nat)
  /-- REF_EVALUATION, R319: the mean frequency of each entry over the observation window, in ppt. -/
  | refEvaluation (t : Nat) (means : List Int)
  /-- SELECTOR_RUN, R321. -/
  | selectorRun (t : Nat) (k : Nat)
  /-- BUILDOUT_COMPLETE, R323: the offset built out against the new entry, in ps. -/
  | buildoutComplete (t : Nat) (k : Nat) (offset : Int)
  /-- DPLL_LOCKED, R322. -/
  | dpllLocked (t : Nat) (k : Nat) (phase : Int)
  /-- FORCE_ENTRY_WRITE, R321. -/
  | forceEntryWrite (t : Nat) (w : Writer) (k e : Nat)
  /-- DPLL_MODE_WRITE, R325: sub 00 mode, 01 frequency, 02 follow_dpll, 03 ratio_num or 04 ratio_den. -/
  | dpllModeWrite (t : Nat) (w : Writer) (k sub v : Nat)
  /-- STEER_WRITE, R328. -/
  | steerWrite (t : Nat) (w : Writer) (k : Nat) (v : Int)
  /-- XO_LOSS, R330. -/
  | xoLoss (t : Nat)
  /-- XO_RETURN, R330. -/
  | xoReturn (t : Nat)
  /-- DPLL_FREERUN_CHECK, R341. -/
  | dpllFreerunCheck (t : Nat) (k : Nat)
  /-- EPOCH_ARM, R334. -/
  | epochArm (t : Nat) (w : Writer) (k : Nat)
  /-- EPOCH_DISARM, R334. -/
  | epochDisarm (t : Nat) (w : Writer) (k : Nat)
  /-- OUTPUT_EPOCH, R334. -/
  | outputEpoch (t : Nat) (k : Nat)
  /-- CKO_ENABLE, R337. -/
  | ckoEnable (t : Nat) (w : Writer) (o : Nat)
  /-- CKO_DISABLE, R337. -/
  | ckoDisable (t : Nat) (w : Writer) (o : Nat)
  /-- PHASE_OFFSET_WRITE, R335. -/
  | phaseOffsetWrite (t : Nat) (w : Writer) (o : Nat) (v : Int)
  /-- SWP_ENABLE, R339. -/
  | swpEnable (t : Nat) (w : Writer) (n : Nat) (on : Bool)
  -- Time bases and PTP (13)
  /-- PTP_MESSAGE_RX, R350. -/
  | ptpMessageRx (t : Nat) (port : Nat) (m : PtpMsg)
  /-- PTP_MESSAGE_TX, R350. -/
  | ptpMessageTx (t : Nat) (port : Nat) (kind : PtpSend)
  /-- ANNOUNCE_TIMEOUT, R347. -/
  | announceTimeout (t : Nat) (port : Nat)
  /-- PTP_NO_MASTER_CHECK, R365. -/
  | ptpNoMasterCheck (t : Nat) (tb : Nat)
  /-- JUMP_ACCEPT, R357. -/
  | jumpAccept (t : Nat) (w : Writer) (tb : Nat)
  /-- JUMP_WITHDRAW, R357. -/
  | jumpWithdraw (t : Nat) (w : Writer) (tb : Nat)
  /-- STEP_INSTANT, R359. -/
  | stepInstant (t : Nat) (tb : Nat)
  /-- TIME_SET, R358: `override` tells that the WRITE_TXN also writes 1 to step_override. -/
  | timeSet (t : Nat) (w : Writer) (tb reading : Nat) (override : Bool)
  /-- LAUNCH_REQUEST, R364. -/
  | launchRequest (t : Nat) (w : Writer) (req : Bytes)
  /-- TS_QUEUE_RELEASE, R362. -/
  | tsQueueRelease (t : Nat) (w : Writer) (tb seq : Nat)
  /-- TS_OVERFLOW_CLEAR, R362. -/
  | tsOverflowClear (t : Nat) (w : Writer) (tb : Nat)
  -- Lanes (14)
  /-- PORT_KIND_WRITE, R18. -/
  | portKindWrite (t : Nat) (w : Writer) (p kind : Nat)
  /-- LANE_SET_ACTIVE, R384. -/
  | laneSetActive (t : Nat) (w : Writer) (l : Nat)
  /-- LANE_SET_IDLE, R383. -/
  | laneSetIdle (t : Nat) (w : Writer) (l : Nat)
  /-- LANE_SET_DORMANT, R383. -/
  | laneSetDormant (t : Nat) (w : Writer) (l : Nat)
  /-- LANE_EXIT_DONE, R384. -/
  | laneExitDone (t : Nat) (l : Nat)
  /-- LANE_UNLOCK, R391. -/
  | laneUnlock (t : Nat) (l : Nat)
  /-- LANE_CODE_ERROR, R381: a wrong disparity, or else a code violation. -/
  | laneCodeError (t : Nat) (l : Nat) (disparity : Bool)
  /-- LREF_LOSS, R376. -/
  | lrefLoss (t : Nat) (tile : Nat)
  /-- LREF_RELOCK, R376. -/
  | lrefRelock (t : Nat) (tile : Nat)
  /-- TXPLL_UNLOCK, R376: `pll` 0 video 1.000, 1 video 1/1.001. -/
  | txpllUnlock (t : Nat) (tile pll : Nat)
  /-- REF_MISMATCH_CHECK, R375: the mean offset of a mesh lane over 1 s, in ppb. -/
  | refMismatchCheck (t : Nat) (l : Nat) (ppb : Int)
  /-- EQ_RESTART, R378. -/
  | eqRestart (t : Nat) (w : Writer) (l : Nat)
  /-- LANE_TEST_START, R387. -/
  | laneTestStart (t : Nat) (w : Writer) (l : Nat)
  /-- LANE_TEST_STOP, R389. -/
  | laneTestStop (t : Nat) (w : Writer) (l : Nat)
  /-- LANE_TEST_FINISH, R389. -/
  | laneTestFinish (t : Nat) (w : Writer) (l : Nat)
  /-- LANE_TEST_DURATION_END, R389. -/
  | laneTestDurationEnd (t : Nat) (l : Nat)
  /-- CHECKER_LOCK, R388: the checker locks or loses lock; bits and errors it counted since its last report. -/
  | checkerLock (t : Nat) (l : Nat) (locked : Bool) (bits errors : Nat)
  /-- INJECT_SINGLE, R390. -/
  | injectSingle (t : Nat) (w : Writer) (l : Nat)
  /-- INJECT_BURST, R390. -/
  | injectBurst (t : Nat) (w : Writer) (l n : Nat)
  -- Mesh and domains (15)
  /-- MESH_LINK_ADMIN, R396. -/
  | meshLinkAdmin (t : Nat) (w : Writer) (l : Nat) (up : Bool)
  /-- MESH_ALIGNED, R380. -/
  | meshAligned (t : Nat) (l : Nat)
  /-- TRAINING_ANNOUNCE, R401. -/
  | trainingAnnounce (t : Nat) (l : Nat)
  /-- TRAINING_SET_RX, R401. -/
  | trainingSetRx (t : Nat) (l : Nat) (set : TrainingSet)
  /-- MESH_LINK_UP, R403. -/
  | meshLinkUp (t : Nat) (l : Nat)
  /-- MESH_LINK_DOWN, R402. -/
  | meshLinkDown (t : Nat) (l : Nat) (cause : LinkLoss)
  /-- MESH_CELL_RX, R398: CRC result, class (0 data, 1 control), and the header codeword as read. -/
  | meshCellRx (t : Nat) (l : Nat) (crcOk : Bool) (cls word : Nat) (d : Nat)
  /-- CREDIT_RETURN, R399. -/
  | creditReturn (t : Nat) (l cls count : Nat)
  /-- CREDIT_TIMEOUT, R400. -/
  | creditTimeout (t : Nat) (l cls : Nat)
  /-- MESH_CONTROL_MESSAGE, R408: `complete` is false where a fragment is missing. -/
  | meshControlMessage (t : Nat) (l : Nat) (complete : Bool) (m : CtlMsg)
  /-- MESH_HEARTBEAT, R407. -/
  | meshHeartbeat (t : Nat)
  /-- LINK_LIST_FLOOD, R407. -/
  | linkListFlood (t : Nat)
  /-- CHIP_LOST, R407. -/
  | chipLost (t : Nat) (chip : Nat)
  /-- PLAN_WRITE, R405. -/
  | planWrite (t : Nat) (w : Writer) (plan : Bytes)
  /-- PLAN_RECEIVED, R405. -/
  | planReceived (t : Nat) (plan : Bytes)
  /-- DOMAIN_ADMISSION, R406. -/
  | domainAdmission (t : Nat)
  /-- HEAD_ELECTION, R409: the group at level `lvl`; the candidates in view as (chip, priority). -/
  | headElection (t : Nat) (lvl : Nat) (cands : List (Nat × Nat))
  /-- HEAD_PRIORITY_HOLD, R409. -/
  | headPriorityHold (t : Nat) (lvl : Nat) (cands : List (Nat × Nat))
  -- The twin (16)
  /-- TWIN_HANDSHAKE, R413. -/
  | twinHandshake (t : Nat) (hello : TwinHello)
  /-- TWIN_HANDSHAKE_TIMEOUT, R413. -/
  | twinHandshakeTimeout (t : Nat)
  /-- TWIN_HEARTBEAT, R418. -/
  | twinHeartbeat (t : Nat)
  /-- TWIN_LANE_DOWN, R417. -/
  | twinLaneDown (t : Nat) (n : Nat)
  /-- TWIN_LINK_DOWN, R417. -/
  | twinLinkDown (t : Nat)
  /-- PRIMARY_DEATH, R429. -/
  | primaryDeath (t : Nat)
  /-- SAFE_STATE_NOTICE_RX, R429. -/
  | safeStateNoticeRx (t : Nat)
  /-- POWER_FAIL_NOTICE_RX, R430. -/
  | powerFailNoticeRx (t : Nat)
  /-- MIRROR_ITEM_RX, R419. -/
  | mirrorItemRx (t : Nat) (seq : Nat) (item : MirrorItem)
  /-- MIRROR_ACK, R420. -/
  | mirrorAck (t : Nat) (seq : Nat)
  /-- CATCH_UP_COMPLETE, R415. -/
  | catchUpComplete (t : Nat)
  /-- SIGNATURE_COMPARE, R423. -/
  | signatureCompare (t : Nat) (f : SigFrame)
  /-- BACKGROUND_BIST, R425: kind and unit of Table 17.11, and the address of the first failing word if any. -/
  | backgroundBist (t : Nat) (kind unit : Nat) (fail : Option Nat)
  /-- BACKGROUND_LOOPBACK, R426. -/
  | backgroundLoopback (t : Nat) (l errors : Nat)
  /-- HANDOVER_REQUEST, R433. -/
  | handoverRequest (t : Nat) (w : Writer)
  /-- HANDOVER_ABORT, R435. -/
  | handoverAbort (t : Nat) (w : Writer)
  /-- HANDOVER_COMMIT, R434. -/
  | handoverCommit (t : Nat)
  /-- HANDOVER_DONE, R434. -/
  | handoverDone (t : Nat)
  /-- TAKEBACK, R436. -/
  | takeback (t : Nat)
  /-- PF_WARNINGS, R430: the levels of the two warnings, true where asserted. -/
  | pfWarnings (t : Nat) (a b : Bool)
  -- Faults (17)
  /-- FAULT_LATCH, R447. -/
  | faultLatch (t : Nat) (src unit detail : Nat)
  /-- BLOCK_RESET_DONE, R444. -/
  | blockResetDone (t : Nat) (src : Nat)
  /-- FAULT_CONDITION_END, R448. -/
  | faultConditionEnd (t : Nat) (src : Nat)
  /-- FAULT_CLEAR, R448. -/
  | faultClear (t : Nat) (w : Writer) (src : Nat)
  /-- FAULT_CLEAR_ALL, R449. -/
  | faultClearAll (t : Nat) (w : Writer)
  /-- AUTO_CLEAR_WRITE, R448. -/
  | autoClearWrite (t : Nat) (w : Writer) (src : Nat) (on : Bool)
  /-- REACTIONS_WRITE, R441. -/
  | reactionsWrite (t : Nat) (w : Writer) (src set : Nat)
  /-- FIRST_RECORD_REARM, R454. -/
  | firstRecordRearm (t : Nat) (w : Writer)
  /-- FAULT_TREE_SELF_CHECK, R439. -/
  | faultTreeSelfCheck (t : Nat) (ok : Bool)
  /-- UNIT_INCLUDE, R456. -/
  | unitInclude (t : Nat) (w : Writer) (entry : Bytes)
  /-- INJECT_ARM, R459. -/
  | injectArm (t : Nat) (w : Writer)
  /-- INJECT_DISARM, R459. -/
  | injectDisarm (t : Nat) (w : Writer)
  -- Memory banks and interconnect (18)
  /-- BANK_IDLE_TIMER, R464: a bank by its 6000h instance. -/
  | bankIdleTimer (t : Nat) (bank : Nat)
  /-- BANK_WAKE, R465. -/
  | bankWake (t : Nat) (bank : Nat)
  /-- BANK_WAKE_DONE, R463. -/
  | bankWakeDone (t : Nat) (bank : Nat)
  /-- SRAM_WORD_ERROR, R469: the session slot or destination concerned, by the bank's use. -/
  | sramWordError (t : Nat) (bank addr : Nat) (word : Nat) (unit : Nat)
  /-- BANK_SCRUB, R470. -/
  | bankScrub (t : Nat) (bank : Nat)
  /-- IC_REQUEST, R475: the requests that reach a target in one handshake slot. -/
  | icRequest (t : Nat) (target : Nat) (reqs : List IcReq)
  /-- IC_RESPONSE, R473: the target answers the oldest request it accepted, or one identifier's at an HBM window. -/
  | icResponse (t : Nat) (target ident : Nat)
  /-- IC_TIMEOUT, R474. -/
  | icTimeout (t : Nat) (target : Nat)
  /-- IC_LOCK_OPEN, R477. -/
  | icLockOpen (t : Nat) (init target ident : Nat)
  /-- IC_LOCK_CUT, R477. -/
  | icLockCut (t : Nat) (target : Nat)
  /-- IC_PRIORITY_WRITE, R476. -/
  | icPriorityWrite (t : Nat) (w : Writer) (init : Nat) (prios : Bytes)
  -- Firmware (19)
  /-- OFFER_MANIFEST, R488. -/
  | offerManifest (t : Nat) (w : Writer) (manifest : Bytes)
  /-- PART_WRITE, R489. -/
  | partWrite (t : Nat) (w : Writer) (part : Nat) (data : Bytes)
  /-- CADDY_DISCARD, R489. -/
  | caddyDiscard (t : Nat) (w : Writer)
  /-- COPY_ABORT, R492. -/
  | copyAbort (t : Nat) (w : Writer)
  /-- KEY_REVOKE, R486. -/
  | keyRevoke (t : Nat) (w : Writer) (slot : Nat)
  /-- ACTIVATION_WRITE, R493. -/
  | activationWrite (t : Nat) (w : Writer) (act : Bytes)
  /-- ACTIVATION_PREPARE_RX, R494. -/
  | activationPrepareRx (t : Nat) (coord : Nat) (act : Bytes) (twinActive : Nat) (twinPeers : List (Nat × Nat))
  /-- ACTIVATION_REPORT_RX, R494. -/
  | activationReportRx (t : Nat) (chip code : Nat)
  /-- ACTIVATION_REPORT_DEADLINE, R494. -/
  | activationReportDeadline (t : Nat)
  /-- ACTIVATION_ABORT, R495. -/
  | activationAbort (t : Nat) (w : Writer)
  /-- ACTIVATION_INSTANT, R496. -/
  | activationInstant (t : Nat)
  /-- PROBATION_END, R497. -/
  | probationEnd (t : Nat)
  /-- CARRY_OVER_APPEND, R500. -/
  | carryOverAppend (t : Nat)
  /-- CARRY_OVER_REGION_SWITCH, R500. -/
  | carryOverRegionSwitch (t : Nat)
  -- Power and bring-up (03, 20, 21)
  /-- VOLTAGE_LOOP_PERIOD, R74. -/
  | voltageLoopPeriod (t : Nat) (die : Nat)
  /-- PACE_MONITOR_WINDOW, R72: the count of a tile's monitor in M handshakes/s. -/
  | paceMonitorWindow (t : Nat) (tile pace : Nat)
  /-- PACE_MARGIN_TIMEOUT, R76. -/
  | paceMarginTimeout (t : Nat) (die : Nat)
  /-- REGULATOR_POLL, R78: whether the regulator acknowledged, READ_VOUT in mV and STATUS_WORD. -/
  | regulatorPoll (t : Nat) (die : Nat) (ack : Bool) (vout status : Nat)
  /-- RAIL_MONITOR_TRIP, R508: a rail 0 to 12, above its high threshold or below its low one, and its reading. -/
  | railMonitorTrip (t : Nat) (rail : Nat) (high : Bool) (mv : Nat)
  /-- BROWNOUT_END, R508: the rail and its lowest reading. -/
  | brownoutEnd (t : Nat) (rail lowest : Nat)
  /-- BROWNOUT_RING_WRITE, R508. -/
  | brownoutRingWrite (t : Nat)
  /-- PWRGD_FALL, R508. -/
  | pwrgdFall (t : Nat)
  /-- RESET_N_LOW, R507. -/
  | resetNLow (t : Nat)
  /-- BRINGUP_START, R509. -/
  | bringupStart (t : Nat)
  /-- BRINGUP_PHASE_DONE, R509. -/
  | bringupPhaseDone (t : Nat) (r : PhaseResult)
  /-- BRINGUP_OVERRUN, R511. -/
  | bringupOverrun (t : Nat)
  /-- BRINGUP_READY, R510. -/
  | bringupReady (t : Nat)
  /-- RESTART_HANDOVER, R513. -/
  | restartHandover (t : Nat) (w : Writer)
  /-- RESTART_NOW, R513. -/
  | restartNow (t : Nat) (w : Writer)
  /-- RESTART_WITH_COPY, R513. -/
  | restartWithCopy (t : Nat) (w : Writer)
  /-- LULL_ENTER, R514. -/
  | lullEnter (t : Nat) (w : Writer)
  /-- LULL_WAKE_WRITE, R516. -/
  | lullWakeWrite (t : Nat) (w : Writer)
  /-- WAKE_N_FALL, R516; `twin` tells that the twin drives the net. -/
  | wakeNFall (t : Nat) (twin : Bool)
  /-- LULL_WAKE_DONE, R517. -/
  | lullWakeDone (t : Nat)
  /-- LULL_WAKE_LATE, R517. -/
  | lullWakeLate (t : Nat)
  /-- UNDERVOLT_TRIP, R80. -/
  | undervoltTrip (t : Nat) (die mv : Nat)
  /-- JTAG_EXTEST, R536. -/
  | jtagExtest (t : Nat)
  /-- TAP_RESET, R536. -/
  | tapReset (t : Nat)
  -- Rows added at the table's end
  /-- ARP_ND_ECHO_FRAME_RX, R223. -/
  | arpNdEchoFrameRx (t : Nat) (p : Nat) (f : NeighbourFrame)
  /-- NMOS_REGISTRATION, R249. -/
  | nmosRegistration (t : Nat) (found : Bool)
  /-- ASRC_ACQUIRED, R302: the settled ratio, Q32.32. -/
  | asrcAcquired (t : Nat) (ch : Nat) (ratio : Int)
  /-- TXPLL_RELOCK, R376. -/
  | txpllRelock (t : Nat) (tile pll : Nat)
  /-- TWIN_LANE_UP, R417. -/
  | twinLaneUp (t : Nat) (n : Nat)
  /-- SALVO_RETENTION_EXPIRY, R147. -/
  | salvoRetentionExpiry (t : Nat) (slot : Nat)
  /-- REFRESH_MODE_CHANGE, R198. -/
  | refreshModeChange (t : Nat) (stack : Nat) (temp : Int)
  deriving DecidableEq, Repr

end Sys2Proof
end

