-- ==== Sys2Proof/Config.lean ====
section
/-! DEFINITION. What an implementation fixes and the spec does not: the free values. Each is an opaque constant
without a body, so no proof can see what it is. `State.free`, which every command advances, gives each command
its own index (log entry 4). -/

namespace Sys2Proof

/-- A free number: the value that the command with index `cmd` finds at its open point `which` (log entry 4). -/
opaque Config.free (cmd which : Nat) : Nat

/-- A free string of bytes of the command `cmd` at its open point `which` (log entry 4). -/
opaque Config.freeBytes (cmd which : Nat) : Bytes

/-- A free integer of the command `cmd` at its open point `which` (log entry 4). -/
opaque Config.freeInt (cmd which : Nat) : Int

end Sys2Proof
end

