-- ==== Sys2Proof/Machine/Base.lean ====
section
/-! DEFINITION. Plain operations on bytes, big-endian numbers, bits and keyed lists that the rest of the machine
shares (R34: multi-byte fields are big-endian, signed types are two's complement). -/

namespace Sys2Proof

/-- The order of addresses: family, instance, subindex. -/
def Key.before (a b : Key) : Bool :=
  a.fam < b.fam || (a.fam == b.fam && (a.inst < b.inst || (a.inst == b.inst && a.sub < b.sub)))

/-- The number in a value; 0 for a string. -/
def Val.int : Val → Int
  | .n i => i
  | .b _ => 0

/-- The bytes of a value; none for a number. -/
def Val.oct : Val → Bytes
  | .n _ => []
  | .b bs => bs

end Sys2Proof

namespace Sys2Proof.Machine

/-! ## Bytes and numbers -/

/-- A big-endian number (R34). -/
def beNat (bs : Bytes) : Nat := bs.foldl (fun a b => a * 256 + b.toNat) 0

/-- The low `n` bytes of a number, big-endian (R34). -/
def beBytes : Nat → Nat → Bytes
  | 0, _ => []
  | n + 1, v => beBytes n (v / 256) ++ [BitVec.ofNat 8 v]

/-- A signed number in `bits` bits from its two's complement reading (R34). -/
def signedOf (bits v : Nat) : Int := if v < 2 ^ (bits - 1) then (v : Int) else (v : Int) - 2 ^ bits

/-- The two's complement reading of an integer in `bits` bits (R34). -/
def twos (bits : Nat) (v : Int) : Nat := (v % (2 ^ bits : Nat)).toNat

/-- `n` bytes from offset `o`; shorter where the string ends. -/
def slice (bs : Bytes) (o n : Nat) : Bytes := (bs.drop o).take n

/-- The big-endian number in `n` bytes at offset `o`. -/
def field (bs : Bytes) (o n : Nat) : Nat := beNat (slice bs o n)

/-- Bit `i` of a number. -/
def bit (v i : Nat) : Bool := v / 2 ^ i % 2 == 1

/-- `v` with bit `i` set or cleared. -/
def withBit (v i : Nat) (on : Bool) : Nat :=
  if bit v i == on then v else if on then v + 2 ^ i else v - 2 ^ i

/-- A Bool as the number that a BOOL object or a bit holds. -/
def b01 (b : Bool) : Nat := if b then 1 else 0

/-- The string cut into words of `n` bytes, whole words only; `fuel` bounds their number. -/
def wordsOf (n : Nat) : Nat → Bytes → List Bytes
  | 0, _ => []
  | f + 1, bs => if bs.length < n || n = 0 then [] else bs.take n :: wordsOf n f (bs.drop n)

/-- The records of `n` bytes that an OCTETS value holds. -/
def records (n : Nat) (bs : Bytes) : List Bytes := wordsOf n bs.length bs

/-- Division rounded up. -/
def ceilDiv (a b : Nat) : Nat := (a + b - 1) / b

/-- Division of integers rounded to the nearest whole number, halves up. -/
def roundDiv (a : Int) (b : Nat) : Int := (2 * a + b).fdiv (2 * b)

/-! ## Keyed lists

A list of pairs with one entry a key; the newest value of a key stands in the place of its first entry. -/

section Keyed
variable {κ α : Type} [DecidableEq κ]

/-- The value of a key. -/
def kfind (l : List (κ × α)) (k : κ) : Option α :=
  match l with
  | [] => none
  | (k', v) :: r => if k' = k then some v else kfind r k

/-- The list without a key. -/
def kdel (l : List (κ × α)) (k : κ) : List (κ × α) := l.filter (fun e => e.1 ≠ k)

/-- The list with a key set: in the place of its first entry, or at the end. -/
def kput (l : List (κ × α)) (k : κ) (v : α) : List (κ × α) :=
  match l with
  | [] => [(k, v)]
  | (k', v') :: r => if k' = k then (k, v) :: r else (k', v') :: kput r k v

/-- A key's value changed by a function where the key is held. -/
def kmod (l : List (κ × α)) (k : κ) (f : α → α) : List (κ × α) :=
  l.map (fun e => if e.1 = k then (e.1, f e.2) else e)

end Keyed

/-- The elements of a list without repeats, first occurrences kept. -/
def nub {α : Type} [DecidableEq α] (l : List α) : List α :=
  (l.foldl (fun acc x => if x ∈ acc then acc else x :: acc) []).reverse

/-- Insertion in the place that an order gives, before the first element that is not below it. -/
def insertBy {α : Type} (lt : α → α → Bool) (x : α) : List α → List α
  | [] => [x]
  | y :: r => if lt y x then y :: insertBy lt x r else x :: y :: r

/-- A list put in order by insertion; equal elements keep their order. -/
def sortBy {α : Type} (lt : α → α → Bool) (l : List α) : List α :=
  l.foldr (fun x acc => insertBy lt x acc) []

/-- The least element by a measure, the first of equals. -/
def minBy {α : Type} (f : α → Nat) : List α → Option α
  | [] => none
  | x :: r => match minBy f r with
    | none => some x
    | some y => if f y < f x then some y else some x

/-- The sum of a measure over a list. -/
def sumBy {α : Type} (f : α → Nat) (l : List α) : Nat := l.foldl (fun a x => a + f x) 0

/-- The sum of an integer measure over a list. -/
def sumByInt {α : Type} (f : α → Int) (l : List α) : Int := l.foldl (fun a x => a + f x) 0

/-- The largest value of a measure over a list, 0 for none. -/
def maxBy {α : Type} (f : α → Nat) (l : List α) : Nat := l.foldl (fun a x => max a (f x)) 0

end Sys2Proof.Machine
end

