-- ==== Sys2Proof/Machine/Dict.lean ====
section
/-! DEFINITION. The object maps of the spec as data: for every object its type, access, minimum role, takes-effect
rule, mirror attribute, range and default, in the order of the map's columns (R33 to R39, Tables 2.1 to 2.3). A
default that the spec gives per instance stands in Machine/Defaults.lean. -/

namespace Sys2Proof.Machine

/-- The types of Table 2.1, in its order. -/
inductive Ty where
  | bool | u8 | u16 | u32 | u64 | s8 | s16 | s32 | s64 | q16 | q32 | enum | bits | str | oct | time | id
  deriving DecidableEq, Repr

/-- The access rights of Table 2.2. -/
inductive Acc where
  | ro | rw | wo | rwi | const
  deriving DecidableEq, Repr

/-- The range of an object as its map states it; a bound that depends on other state is judged with the rules
of the object's family. `iv` is a closed interval, `ivOr` an interval and one further code, `orIv` one code
and an interval, `mask` the bits that may be set, `len` a length in bytes, `chars` a bound in code points. -/
inductive Rng where
  | none
  | iv (lo hi : Int)
  | ivOr (lo hi other : Int)
  | orIv (one lo hi : Int)
  | set (xs : List Int)
  | step (lo hi by' : Int)
  | mask (m : Nat)
  | len (lo hi : Nat)
  | chars (hi : Nat)
  deriving DecidableEq, Repr

/-- One row of an object map. -/
structure Desc where
  sub : Nat
  ty : Ty
  acc : Acc
  role : Nat
  eff : Nat
  mir : Nat
  rng : Rng
  dflt : Sys2Proof.Val
  deriving DecidableEq, Repr

/-- A string of zero bytes. -/
def zeros (n : Nat) : Bytes := List.replicate n 0

/-- Table 0.4, Family 1000h, identity and versions: the object map. -/
def rowsId : List Desc :=
  [⟨0x00, .str, .const, 0, 0, 0, .none, .b [71, 69, 49, 48, 50, 52]⟩,
   ⟨0x01, .enum, .const, 0, 0, 0, .iv 0 1, .n 0⟩,
   ⟨0x02, .str, .const, 0, 0, 0, .len 2 2, .b [65, 49]⟩,
   ⟨0x03, .bits, .const, 0, 0, 0, .none, .n 0⟩,
   ⟨0x04, .u16, .const, 0, 0, 0, .iv 512 1024, .n 0⟩,
   ⟨0x05, .str, .const, 0, 0, 0, .len 16 16, .b []⟩,
   ⟨0x06, .u16, .ro, 0, 0, 0, .ivOr 0 999 1023, .n 1023⟩,
   ⟨0x07, .enum, .ro, 0, 0, 0, .iv 0 2, .n 2⟩,
   ⟨0x08, .str, .ro, 0, 5, 0, .chars 32, .b []⟩,
   ⟨0x09, .oct, .ro, 0, 5, 0, .len 48 48, .b []⟩,
   ⟨0x0a, .u16, .const, 0, 0, 0, .none, .n 256⟩,
   ⟨0x0b, .u16, .ro, 0, 0, 0, .none, .n 0⟩,
   ⟨0x0c, .str, .rw, 2, 0, 0, .chars 64, .b []⟩]

/-- Table 2.14, Family 1010h, instance 0: the object map. -/
def rowsSec : List Desc :=
  [⟨0x00, .u64, .ro, 0, 5, 0, .none, .n 0⟩,
   ⟨0x01, .u16, .const, 0, 0, 0, .none, .n 64⟩,
   ⟨0x02, .u16, .ro, 0, 0, 0, .iv 0 64, .n 0⟩,
   ⟨0x03, .u32, .rw, 2, 0, 0, .iv 5 3600, .n 60⟩,
   ⟨0x04, .u16, .rw, 3, 0, 0, .iv 64 1024, .n 256⟩,
   ⟨0x05, .oct, .wo, 3, 0, 0, .len 32 32, .b []⟩,
   ⟨0x06, .oct, .wo, 3, 0, 0, .len 32 32, .b []⟩,
   ⟨0x07, .oct, .wo, 3, 0, 0, .len 32 32, .b []⟩,
   ⟨0x08, .oct, .wo, 3, 0, 0, .len 32 32, .b []⟩,
   ⟨0x09, .bits, .ro, 0, 0, 0, .none, .n 8⟩,
   ⟨0x0a, .u32, .ro, 0, 0, 0, .none, .n 0⟩,
   ⟨0x0b, .u16, .rw, 3, 5, 0, .iv 1024 65535, .n 7301⟩,
   ⟨0x0c, .bool, .rw, 3, 5, 0, .none, .n 1⟩,
   ⟨0x0d, .u16, .const, 0, 0, 0, .none, .n 16⟩,
   ⟨0x0e, .u32, .ro, 0, 0, 0, .none, .n 0⟩,
   ⟨0x0f, .u32, .ro, 0, 0, 0, .none, .n 0⟩]

/-- Table 2.15, Family 1010h, instances 1–64: the object map. -/
def rowsSlot : List Desc :=
  [⟨0x00, .u32, .ro, 0, 0, 0, .none, .n 0⟩,
   ⟨0x01, .enum, .ro, 0, 0, 0, .none, .n 0⟩,
   ⟨0x02, .enum, .ro, 0, 0, 0, .iv 0 3, .n 0⟩,
   ⟨0x03, .oct, .ro, 0, 0, 0, .len 16 16, .b (zeros 16)⟩,
   ⟨0x04, .u64, .ro, 0, 0, 0, .none, .n 0⟩,
   ⟨0x05, .u16, .ro, 0, 0, 0, .iv 0 256, .n 0⟩,
   ⟨0x06, .u32, .ro, 0, 0, 0, .none, .n 0⟩,
   ⟨0x07, .bool, .wo, 3, 0, 0, .none, .n 0⟩]

/-- Table 4.10, Family 3000h, video sources: the object map. -/
def rowsSrc : List Desc :=
  [⟨0x00, .enum, .ro, 0, 0, 0, .iv 0 6, .n 0⟩,
   ⟨0x01, .str, .rw, 1, 0, 1, .chars 64, .b []⟩,
   ⟨0x02, .enum, .rw, 2, 0, 1, .iv 0 29, .n 0⟩,
   ⟨0x03, .enum, .ro, 0, 0, 0, .iv 0 29, .n 0⟩,
   ⟨0x04, .enum, .ro, 0, 0, 0, .iv 0 2, .n 0⟩,
   ⟨0x05, .u8, .rw, 2, 0, 1, .iv 0 3, .n 0⟩,
   ⟨0x06, .s32, .ro, 0, 0, 0, .none, .n 0⟩,
   ⟨0x07, .u32, .ro, 0, 0, 0, .none, .n 0⟩,
   ⟨0x08, .u16, .ro, 0, 0, 0, .iv 0 4096, .n 0⟩,
   ⟨0x09, .enum, .ro, 0, 0, 0, .iv 0 2, .n 0⟩,
   ⟨0x0a, .bits, .ro, 0, 0, 0, .none, .n 0⟩,
   ⟨0x0b, .enum, .rwi, 2, 0, 1, .iv 0 5, .n 0⟩,
   ⟨0x0c, .enum, .rwi, 2, 0, 1, .iv 1 29, .n 20⟩,
   ⟨0x0d, .u8, .rwi, 2, 0, 1, .iv 0 3, .n 0⟩,
   ⟨0x0e, .s32, .rwi, 2, 0, 1, .iv (-41708334) 41708334, .n 0⟩,
   ⟨0x0f, .id, .rwi, 2, 0, 1, .none, .n 4294967295⟩] ++
  [⟨0x10, .u8, .rwi, 2, 0, 1, .iv 1 16, .n 1⟩,
   ⟨0x11, .u32, .ro, 0, 0, 0, .none, .n 0⟩,
   ⟨0x12, .enum, .rwi, 2, 0, 1, .iv 0 3, .n 0⟩]

/-- Table 4.12, Family 3100h, video destinations: the object map. -/
def rowsDst : List Desc :=
  [⟨0x00, .enum, .ro, 0, 0, 0, .iv 0 6, .n 0⟩,
   ⟨0x01, .str, .rw, 1, 0, 1, .chars 64, .b []⟩,
   ⟨0x02, .enum, .rwi, 2, 0, 1, .iv 1 29, .n 20⟩,
   ⟨0x03, .u8, .rwi, 2, 0, 1, .iv 0 3, .n 0⟩,
   ⟨0x04, .s32, .rwi, 2, 0, 1, .iv (-41708334) 41708334, .n 0⟩,
   ⟨0x05, .u32, .rw, 2, 1, 1, .iv 4000 200000, .n 8000⟩,
   ⟨0x06, .u32, .rw, 2, 1, 1, .iv 2500 20000, .n 3000⟩,
   ⟨0x07, .u32, .ro, 0, 0, 0, .none, .n 8000⟩,
   ⟨0x08, .id, .ro, 0, 0, 0, .none, .n 4294967295⟩,
   ⟨0x09, .enum, .ro, 0, 0, 0, .iv 0 4, .n 0⟩,
   ⟨0x0a, .u16, .ro, 0, 0, 0, .none, .n 7⟩,
   ⟨0x0b, .time, .ro, 0, 0, 0, .none, .n 0⟩,
   ⟨0x0c, .enum, .rw, 2, 0, 1, .iv 0 1, .n 0⟩,
   ⟨0x0d, .u16, .rw, 2, 1, 1, .iv 0 1023, .n 0⟩,
   ⟨0x0e, .id, .rw, 1, 1, 1, .none, .n 0⟩,
   ⟨0x0f, .bits, .rw, 1, 1, 1, .none, .n 4294967295⟩] ++
  [⟨0x10, .u8, .rw, 1, 1, 1, .iv 0 31, .n 0⟩,
   ⟨0x11, .id, .rw, 1, 1, 1, .none, .n 0⟩,
   ⟨0x12, .bits, .rw, 1, 1, 1, .none, .n 4294967295⟩,
   ⟨0x13, .u32, .ro, 0, 0, 0, .none, .n 0⟩,
   ⟨0x14, .u32, .ro, 0, 0, 0, .none, .n 0⟩,
   ⟨0x15, .bits, .ro, 0, 0, 0, .none, .n 0⟩]

/-- Table 5.5, Family 3200h, instance 0: the object map. -/
def rowsTakes : List Desc :=
  [⟨0x00, .u16, .const, 0, 0, 0, .none, .n 4096⟩,
   ⟨0x01, .u16, .ro, 0, 0, 0, .none, .n 0⟩,
   ⟨0x02, .u32, .ro, 0, 0, 0, .none, .n 0⟩,
   ⟨0x03, .u32, .ro, 0, 0, 0, .none, .n 0⟩,
   ⟨0x04, .u32, .ro, 0, 0, 0, .none, .n 0⟩,
   ⟨0x05, .u32, .rw, 2, 0, 1, .iv 1 604800, .n 86400⟩]

/-- Table 5.6, Family 3200h, instances 1–4096: the object map. -/
def rowsTake : List Desc :=
  [⟨0x00, .enum, .ro, 0, 0, 0, .iv 0 8, .n 0⟩,
   ⟨0x01, .id, .ro, 0, 0, 0, .none, .n 4294967295⟩,
   ⟨0x02, .id, .ro, 0, 0, 0, .none, .n 4294967295⟩,
   ⟨0x03, .enum, .ro, 0, 0, 0, .iv 0 2, .n 0⟩,
   ⟨0x04, .u16, .ro, 0, 0, 0, .none, .n 0⟩,
   ⟨0x05, .u32, .ro, 0, 0, 0, .none, .n 0⟩,
   ⟨0x06, .time, .ro, 0, 0, 0, .none, .n 0⟩,
   ⟨0x07, .time, .ro, 0, 0, 0, .none, .n 0⟩,
   ⟨0x08, .time, .ro, 0, 0, 0, .none, .n 0⟩,
   ⟨0x09, .enum, .ro, 0, 0, 0, .none, .n 0⟩,
   ⟨0x0a, .u16, .ro, 0, 0, 0, .none, .n 0⟩,
   ⟨0x0b, .bits, .ro, 0, 0, 0, .none, .n 0⟩,
   ⟨0x0c, .bool, .wo, 1, 0, 0, .none, .n 0⟩]

/-- Table 5.8, Family 3300h, instance 0: the object map. -/
def rowsSalvos : List Desc :=
  [⟨0x00, .u16, .const, 0, 0, 0, .none, .n 256⟩,
   ⟨0x01, .u16, .rw, 2, 0, 1, .iv 5 60000, .n 10⟩,
   ⟨0x02, .u16, .ro, 0, 0, 0, .iv 0 16, .n 0⟩,
   ⟨0x03, .u16, .ro, 0, 0, 0, .iv 0 32, .n 0⟩,
   ⟨0x04, .u32, .ro, 0, 0, 0, .none, .n 0⟩,
   ⟨0x05, .u32, .ro, 0, 0, 0, .none, .n 0⟩]

/-- Table 5.9, Family 3300h, instances 1–256: the object map. -/
def rowsSalvo : List Desc :=
  [⟨0x00, .enum, .ro, 0, 0, 0, .iv 0 5, .n 0⟩,
   ⟨0x01, .u16, .ro, 0, 0, 1, .none, .n 0⟩,
   ⟨0x02, .str, .rw, 1, 0, 1, .chars 64, .b []⟩,
   ⟨0x03, .oct, .rwi, 1, 0, 1, .len 24 1572864, .b []⟩,
   ⟨0x04, .u32, .ro, 0, 0, 0, .iv 0 65536, .n 0⟩,
   ⟨0x05, .u8, .ro, 0, 0, 0, .iv 0 3, .n 0⟩,
   ⟨0x06, .time, .ro, 0, 0, 0, .none, .n 0⟩,
   ⟨0x07, .time, .ro, 0, 0, 0, .none, .n 0⟩,
   ⟨0x08, .u16, .ro, 0, 0, 0, .none, .n 0⟩,
   ⟨0x09, .oct, .ro, 0, 0, 0, .none, .b []⟩,
   ⟨0x0a, .enum, .ro, 0, 0, 0, .none, .n 0⟩,
   ⟨0x0b, .u32, .ro, 0, 0, 0, .none, .n 0⟩,
   ⟨0x0c, .enum, .ro, 0, 0, 0, .iv 0 5, .n 0⟩,
   ⟨0x0d, .oct, .ro, 0, 0, 0, .none, .b []⟩,
   ⟨0x0e, .bits, .ro, 0, 0, 0, .none, .n 0⟩,
   ⟨0x0f, .u32, .ro, 0, 0, 0, .none, .n 0⟩] ++
  [⟨0x10, .bool, .wo, 1, 0, 1, .none, .n 0⟩]

/-- Table 6.11, Family 3400h, instance 0: the object map. -/
def rowsPlacer : List Desc :=
  [⟨0x00, .enum, .ro, 0, 0, 0, .iv 0 2, .n 0⟩,
   ⟨0x01, .u16, .ro, 0, 0, 0, .iv 0 256, .n 0⟩,
   ⟨0x02, .u32, .ro, 0, 0, 0, .none, .n 0⟩,
   ⟨0x03, .u32, .ro, 0, 0, 0, .none, .n 0⟩,
   ⟨0x04, .enum, .ro, 0, 0, 0, .none, .n 0⟩,
   ⟨0x05, .enum, .ro, 0, 0, 0, .none, .n 0⟩,
   ⟨0x06, .id, .ro, 0, 0, 0, .none, .n 4294967295⟩,
   ⟨0x07, .u32, .ro, 0, 0, 0, .none, .n 0⟩,
   ⟨0x08, .u16, .rw, 2, 0, 1, .iv 0 10000, .n 1000⟩,
   ⟨0x09, .u16, .rw, 2, 0, 1, .iv 0 10000, .n 400⟩,
   ⟨0x0a, .u16, .rw, 2, 0, 1, .iv 0 10000, .n 3000⟩,
   ⟨0x0b, .u16, .rw, 2, 0, 1, .iv 0 10000, .n 1⟩,
   ⟨0x0c, .u16, .rw, 2, 0, 1, .iv 0 10000, .n 1⟩,
   ⟨0x0d, .u16, .rw, 2, 0, 1, .iv 0 10000, .n 1⟩,
   ⟨0x0e, .u16, .rw, 2, 0, 1, .iv 0 10000, .n 20⟩,
   ⟨0x0f, .u16, .rw, 2, 0, 1, .iv 0 10000, .n 50⟩] ++
  [⟨0x10, .u8, .rw, 2, 0, 1, .iv 0 16, .n 4⟩,
   ⟨0x11, .u16, .rw, 3, 5, 1, .iv 500 4000, .n 1000⟩,
   ⟨0x12, .bool, .wo, 2, 0, 0, .none, .n 0⟩,
   ⟨0x13, .oct, .ro, 2, 0, 0, .none, .b []⟩,
   ⟨0x14, .u32, .ro, 0, 5, 0, .none, .n 0⟩,
   ⟨0x15, .oct, .ro, 0, 0, 0, .none, .b []⟩,
   ⟨0x16, .u16, .ro, 0, 0, 0, .none, .n 0⟩]

/-- Table 6.13, Family 3400h, instances 1–32, planes: the object map. -/
def rowsPlane : List Desc :=
  [⟨0x00, .enum, .ro, 0, 0, 0, .iv 0 1, .n 0⟩,
   ⟨0x01, .oct, .ro, 0, 0, 0, .none, .b (zeros 32)⟩,
   ⟨0x02, .oct, .ro, 0, 0, 0, .none, .b (zeros 32)⟩,
   ⟨0x03, .u16, .ro, 0, 0, 0, .none, .n 0⟩,
   ⟨0x04, .u16, .ro, 0, 0, 0, .none, .n 0⟩]

/-- Table 6.14, Family 3400h, instances 33–36, HBM stacks: the object map. -/
def rowsStackLed : List Desc :=
  [⟨0x00, .u8, .const, 0, 0, 0, .none, .n 0⟩,
   ⟨0x01, .u32, .const, 0, 0, 0, .none, .n 7000000⟩,
   ⟨0x02, .u32, .ro, 0, 0, 0, .none, .n 0⟩,
   ⟨0x03, .u64, .ro, 0, 0, 0, .none, .n 0⟩,
   ⟨0x04, .u16, .ro, 0, 0, 0, .none, .n 0⟩,
   ⟨0x05, .enum, .ro, 0, 0, 0, .iv 0 1, .n 0⟩]

/-- Table 6.15, Family 3400h, instances 37–68, compositor pools and audio slices: the object map. -/
def rowsPool : List Desc :=
  [⟨0x00, .u32, .const, 0, 0, 0, .none, .n 0⟩,
   ⟨0x01, .u32, .ro, 0, 0, 0, .none, .n 0⟩,
   ⟨0x02, .u8, .ro, 0, 0, 0, .none, .n 0⟩]

/-- Table 6.16, Family 3400h, instances 256–1279, hints: the object map. -/
def rowsHint : List Desc :=
  [⟨0x00, .bool, .rw, 2, 0, 1, .none, .n 0⟩,
   ⟨0x01, .id, .rw, 2, 0, 1, .none, .n 4294967295⟩,
   ⟨0x02, .enum, .rw, 2, 0, 1, .iv 0 5, .n 0⟩,
   ⟨0x03, .enum, .rw, 2, 0, 1, .iv 0 3, .n 1⟩,
   ⟨0x04, .u32, .rw, 2, 0, 1, .none, .n 0⟩,
   ⟨0x05, .u16, .rw, 2, 0, 1, .iv 0 10000, .n 200⟩,
   ⟨0x06, .enum, .ro, 0, 0, 0, .iv 0 3, .n 0⟩,
   ⟨0x07, .str, .rw, 1, 0, 1, .chars 64, .b []⟩]

/-- Table 7.5, Family 3500h, instance 0: the object map. -/
def rowsFsync : List Desc :=
  [⟨0x00, .u32, .rw, 2, 0, 1, .iv 20000 500000, .n 50000⟩,
   ⟨0x01, .u32, .rw, 2, 0, 1, .iv 0 5000000, .n 1000000⟩,
   ⟨0x02, .u16, .rw, 2, 0, 1, .iv 500 10000, .n 2000⟩,
   ⟨0x03, .enum, .rw, 2, 0, 1, .iv 0 1, .n 0⟩,
   ⟨0x04, .u16, .const, 0, 0, 0, .none, .n 2048⟩,
   ⟨0x05, .u16, .ro, 0, 0, 0, .iv 0 2048, .n 0⟩]

/-- Table 7.6, Family 3500h, instances 1–4096, destinations: the object map. -/
def rowsFsd : List Desc :=
  [⟨0x00, .u8, .rw, 1, 1, 1, .iv 0 16, .n 0⟩,
   ⟨0x01, .u16, .ro, 0, 0, 0, .none, .n 65535⟩,
   ⟨0x02, .u32, .ro, 0, 0, 0, .none, .n 0⟩,
   ⟨0x03, .u32, .ro, 0, 0, 0, .none, .n 0⟩,
   ⟨0x04, .u32, .ro, 0, 0, 0, .none, .n 0⟩,
   ⟨0x05, .u32, .ro, 0, 0, 0, .none, .n 0⟩,
   ⟨0x06, .time, .ro, 0, 0, 0, .none, .n 0⟩]

/-- Table 7.7, Family 3500h, instances 8192–10239, stores: the object map. -/
def rowsStore : List Desc :=
  [⟨0x00, .enum, .ro, 0, 0, 0, .iv 0 3, .n 0⟩,
   ⟨0x01, .enum, .ro, 0, 0, 0, .iv 0 1, .n 0⟩,
   ⟨0x02, .id, .ro, 0, 0, 0, .none, .n 4294967295⟩,
   ⟨0x03, .enum, .ro, 0, 0, 0, .none, .n 0⟩,
   ⟨0x04, .u8, .ro, 0, 0, 0, .iv 0 3, .n 0⟩,
   ⟨0x05, .u8, .ro, 0, 0, 0, .iv 2 18, .n 0⟩,
   ⟨0x06, .u16, .ro, 0, 0, 0, .none, .n 0⟩,
   ⟨0x07, .u64, .ro, 0, 0, 0, .none, .n 0⟩,
   ⟨0x08, .u32, .ro, 0, 0, 0, .none, .n 0⟩,
   ⟨0x09, .u32, .ro, 0, 0, 0, .none, .n 0⟩]

/-- Table 7.8, Family 6200h, HBM stacks: the object map. -/
def rowsHbm : List Desc :=
  [⟨0x00, .enum, .ro, 0, 0, 0, .iv 0 3, .n 0⟩,
   ⟨0x01, .u8, .const, 0, 0, 0, .none, .n 0⟩,
   ⟨0x02, .u64, .const, 0, 0, 0, .none, .n 25769803776⟩,
   ⟨0x03, .s16, .ro, 0, 0, 0, .none, .n 0⟩,
   ⟨0x04, .enum, .ro, 0, 0, 0, .iv 0 1, .n 0⟩,
   ⟨0x05, .u32, .ro, 0, 0, 0, .none, .n 0⟩,
   ⟨0x06, .u32, .ro, 0, 0, 0, .none, .n 0⟩,
   ⟨0x07, .u32, .rw, 2, 0, 1, .iv 3600 604800, .n 86400⟩,
   ⟨0x08, .u8, .ro, 0, 0, 0, .iv 0 100, .n 0⟩,
   ⟨0x09, .u16, .rw, 2, 0, 1, .iv 1 1000, .n 16⟩,
   ⟨0x0a, .u64, .ro, 0, 0, 0, .none, .n 0⟩,
   ⟨0x0b, .u32, .ro, 0, 0, 0, .none, .n 0⟩]

/-- Table 8.4, Family 3600h, SDI port services: the object map. -/
def rowsSdi : List Desc :=
  [⟨0x00, .enum, .ro, 0, 0, 0, .none, .n 0⟩,
   ⟨0x01, .enum, .ro, 0, 0, 0, .iv 0 2, .n 0⟩,
   ⟨0x02, .u32, .ro, 0, 0, 0, .none, .n 0⟩,
   ⟨0x03, .enum, .ro, 0, 0, 0, .iv 0 2, .n 0⟩,
   ⟨0x04, .enum, .ro, 0, 0, 0, .iv 0 3, .n 0⟩,
   ⟨0x05, .u32, .ro, 0, 0, 0, .none, .n 0⟩,
   ⟨0x06, .u32, .ro, 0, 0, 0, .none, .n 0⟩,
   ⟨0x07, .u32, .ro, 0, 0, 0, .none, .n 0⟩,
   ⟨0x08, .u32, .ro, 0, 0, 0, .none, .n 0⟩,
   ⟨0x09, .u32, .ro, 0, 0, 0, .none, .n 0⟩,
   ⟨0x0a, .enum, .rwi, 2, 0, 1, .iv 0 1, .n 0⟩,
   ⟨0x0b, .enum, .rwi, 2, 0, 1, .iv 1 2, .n 2⟩,
   ⟨0x0c, .enum, .rwi, 2, 0, 1, .iv 0 3, .n 0⟩,
   ⟨0x0d, .enum, .rwi, 2, 0, 1, .iv 0 1, .n 1⟩,
   ⟨0x0e, .bool, .rw, 2, 0, 1, .none, .n 1⟩,
   ⟨0x0f, .enum, .rw, 2, 1, 1, .iv 0 2, .n 0⟩] ++
  [⟨0x10, .enum, .rw, 2, 1, 1, .iv 0 2, .n 0⟩,
   ⟨0x11, .s32, .rw, 2, 1, 1, .iv (-86400) 86400, .n 0⟩,
   ⟨0x12, .bool, .rw, 2, 1, 1, .none, .n 1⟩,
   ⟨0x13, .bits, .rw, 1, 1, 1, .mask 255, .n 255⟩,
   ⟨0x14, .bits, .ro, 0, 0, 0, .none, .n 0⟩,
   ⟨0x15, .enum, .rw, 2, 0, 1, .iv 0 1, .n 0⟩,
   ⟨0x16, .bits, .ro, 0, 0, 0, .none, .n 0⟩,
   ⟨0x17, .u32, .ro, 0, 0, 0, .none, .n 0⟩,
   ⟨0x18, .enum, .rw, 2, 0, 1, .iv 0 8, .n 0⟩,
   ⟨0x19, .u32, .rw, 2, 0, 1, .iv 100 20000, .n 10000⟩,
   ⟨0x1a, .u32, .ro, 0, 0, 0, .none, .n 0⟩,
   ⟨0x1b, .enum, .ro, 0, 0, 0, .none, .n 0⟩,
   ⟨0x1c, .u32, .ro, 0, 0, 0, .none, .n 0⟩]

/-- Table 8.6, Family 7000h, instances 0–2047, extraction filters: the object map. -/
def rowsAncx : List Desc :=
  [⟨0x00, .u16, .rwi, 2, 0, 1, .ivOr 0 1023 65535, .n 0⟩,
   ⟨0x01, .u8, .rw, 2, 1, 1, .iv 0 255, .n 0⟩,
   ⟨0x02, .u8, .rw, 2, 1, 1, .iv 0 255, .n 0⟩,
   ⟨0x03, .u16, .rw, 2, 1, 1, .none, .n 0⟩,
   ⟨0x04, .enum, .rw, 2, 1, 1, .iv 0 2, .n 0⟩,
   ⟨0x05, .u16, .rw, 2, 1, 1, .iv 1 1125, .n 1⟩,
   ⟨0x06, .u16, .rw, 2, 1, 1, .iv 1 1125, .n 1125⟩,
   ⟨0x07, .enum, .rw, 2, 1, 1, .iv 0 2, .n 0⟩,
   ⟨0x08, .u8, .rw, 2, 1, 1, .ivOr 0 3 255, .n 255⟩,
   ⟨0x09, .u32, .ro, 0, 0, 0, .none, .n 0⟩,
   ⟨0x0a, .u32, .ro, 0, 0, 0, .none, .n 0⟩]

/-- Table 8.7, Family 7000h, instances 2048–4095, insertion slots: the object map. -/
def rowsAnci : List Desc :=
  [⟨0x00, .u16, .rwi, 2, 0, 1, .ivOr 0 1023 65535, .n 0⟩,
   ⟨0x01, .enum, .rw, 2, 1, 1, .iv 1 2, .n 0⟩,
   ⟨0x02, .u16, .rw, 2, 1, 1, .iv 0 1125, .n 0⟩,
   ⟨0x03, .u8, .rw, 2, 1, 1, .iv 1 16, .n 1⟩,
   ⟨0x04, .enum, .rw, 2, 1, 1, .iv 1 2, .n 1⟩,
   ⟨0x05, .u8, .rw, 2, 1, 1, .iv 0 3, .n 0⟩,
   ⟨0x06, .u32, .ro, 0, 0, 0, .none, .n 0⟩,
   ⟨0x07, .u32, .ro, 0, 0, 0, .none, .n 0⟩]

/-- Table 9.8, Family 3700h, instance 0: the object map. -/
def rowsPk : List Desc :=
  [⟨0x00, .u32, .rw, 2, 0, 1, .iv 0 100000000, .n 1000000⟩,
   ⟨0x01, .u16, .rw, 2, 0, 1, .iv 100 10000, .n 1000⟩,
   ⟨0x02, .u8, .rw, 2, 0, 1, .iv 1 7, .n 2⟩,
   ⟨0x03, .u32, .rw, 2, 0, 1, .iv 0 600000, .n 5000⟩,
   ⟨0x04, .u16, .ro, 0, 0, 0, .none, .n 0⟩,
   ⟨0x05, .u32, .rw, 2, 0, 1, .iv 5000 500000, .n 20000⟩,
   ⟨0x06, .u32, .ro, 0, 0, 0, .none, .n 0⟩,
   ⟨0x07, .u32, .ro, 0, 0, 0, .none, .n 0⟩,
   ⟨0x08, .bool, .rw, 3, 5, 1, .none, .n 0⟩,
   ⟨0x09, .u16, .rw, 3, 5, 1, .iv 1024 65535, .n 8080⟩,
   ⟨0x0a, .str, .rw, 3, 0, 1, .none, .b []⟩,
   ⟨0x0b, .bool, .rw, 3, 0, 1, .none, .n 1⟩,
   ⟨0x0c, .enum, .ro, 0, 0, 0, .iv 0 3, .n 0⟩]

/-- Table 9.9, Family 3700h, instances 1–1024, interfaces: the object map. -/
def rowsEth : List Desc :=
  [⟨0x00, .oct, .rwi, 2, 0, 1, .len 6 6, .b []⟩,
   ⟨0x01, .u32, .rwi, 2, 0, 1, .none, .n 0⟩,
   ⟨0x02, .u8, .rwi, 2, 0, 1, .iv 1 31, .n 24⟩,
   ⟨0x03, .u32, .rwi, 2, 0, 1, .none, .n 0⟩,
   ⟨0x04, .oct, .rwi, 2, 0, 1, .len 16 16, .b (zeros 16)⟩,
   ⟨0x05, .u8, .rwi, 2, 0, 1, .iv 1 127, .n 64⟩,
   ⟨0x06, .u16, .rwi, 2, 0, 1, .iv 0 4094, .n 0⟩,
   ⟨0x07, .enum, .rwi, 2, 0, 1, .iv 0 3, .n 0⟩,
   ⟨0x08, .enum, .ro, 0, 0, 0, .iv 0 1, .n 0⟩,
   ⟨0x09, .u8, .rw, 2, 0, 1, .iv 50 98, .n 95⟩,
   ⟨0x0a, .u32, .ro, 0, 0, 0, .none, .n 0⟩,
   ⟨0x0b, .u64, .ro, 0, 0, 0, .none, .n 0⟩,
   ⟨0x0c, .u32, .ro, 0, 0, 0, .none, .n 0⟩,
   ⟨0x0d, .u64, .ro, 0, 0, 0, .none, .n 0⟩,
   ⟨0x0e, .enum, .ro, 0, 0, 0, .iv 0 2, .n 0⟩,
   ⟨0x0f, .enum, .ro, 0, 0, 0, .iv 0 2, .n 0⟩]

/-- Table 9.10, Subindices common to every flow: the object map. -/
def rowsFlow : List Desc :=
  [⟨0x00, .bool, .rw, 2, 0, 1, .none, .n 0⟩,
   ⟨0x01, .u16, .rwi, 2, 0, 1, .ivOr 0 2047 65535, .n 65535⟩,
   ⟨0x02, .u16, .rwi, 2, 0, 1, .ivOr 0 1023 65535, .n 65535⟩,
   ⟨0x03, .oct, .rwi, 2, 0, 1, .len 16 16, .b (zeros 16)⟩,
   ⟨0x04, .u16, .rwi, 2, 0, 1, .iv 1024 65535, .n 5004⟩,
   ⟨0x05, .oct, .rwi, 2, 0, 1, .len 16 16, .b (zeros 16)⟩,
   ⟨0x06, .u16, .rwi, 2, 0, 1, .ivOr 0 1023 65535, .n 65535⟩,
   ⟨0x07, .oct, .rwi, 2, 0, 1, .len 16 16, .b (zeros 16)⟩,
   ⟨0x08, .u16, .rwi, 2, 0, 1, .iv 1024 65535, .n 5004⟩,
   ⟨0x09, .oct, .rwi, 2, 0, 1, .len 16 16, .b (zeros 16)⟩,
   ⟨0x0a, .u8, .rwi, 2, 0, 1, .iv 96 127, .n 0⟩,
   ⟨0x0b, .u32, .rwi, 2, 0, 1, .none, .n 0⟩,
   ⟨0x0c, .u8, .rw, 2, 0, 1, .iv 0 63, .n 0⟩,
   ⟨0x0d, .enum, .ro, 0, 0, 0, .iv 0 4, .n 0⟩,
   ⟨0x0e, .enum, .rw, 2, 0, 1, .iv 0 1, .n 0⟩,
   ⟨0x18, .u32, .rwi, 2, 0, 1, .iv 100000 10000000, .n 1000000⟩] ++
  [⟨0x19, .u64, .ro, 0, 0, 0, .none, .n 0⟩,
   ⟨0x1a, .u64, .ro, 0, 0, 0, .none, .n 0⟩,
   ⟨0x1b, .u32, .ro, 0, 0, 0, .none, .n 0⟩,
   ⟨0x1c, .u32, .ro, 0, 0, 0, .none, .n 0⟩,
   ⟨0x1d, .s32, .ro, 0, 0, 0, .none, .n 0⟩,
   ⟨0x1e, .u32, .ro, 0, 0, 0, .none, .n 0⟩,
   ⟨0x1f, .bool, .wo, 1, 0, 0, .none, .n 0⟩]

/-- Table 9.11, Family 3700h, groups: the object map. -/
def rowsGrp : List Desc :=
  [⟨0x00, .bool, .rw, 2, 0, 1, .none, .n 0⟩,
   ⟨0x01, .oct, .ro, 0, 0, 0, .none, .b []⟩,
   ⟨0x02, .enum, .rwi, 2, 0, 1, .iv 0 2, .n 0⟩,
   ⟨0x03, .u32, .rwi, 2, 0, 1, .iv 0 1000000000, .n 0⟩,
   ⟨0x04, .u32, .ro, 0, 0, 0, .none, .n 0⟩,
   ⟨0x05, .enum, .rwi, 2, 0, 1, .iv 0 2, .n 0⟩,
   ⟨0x06, .u32, .rwi, 2, 0, 1, .none, .n 0⟩,
   ⟨0x07, .u32, .ro, 0, 0, 0, .none, .n 0⟩,
   ⟨0x08, .u32, .ro, 0, 0, 0, .none, .n 0⟩,
   ⟨0x09, .oct, .ro, 0, 0, 0, .none, .b []⟩,
   ⟨0x0a, .u32, .ro, 0, 0, 0, .none, .n 0⟩]

/-- Table 9.12, Video flows, after Table 9.10: the object map. -/
def rowsVflow : List Desc :=
  [⟨0x10, .enum, .rwi, 2, 0, 1, .iv 0 3, .n 0⟩,
   ⟨0x11, .enum, .rwi, 2, 0, 1, .iv 0 2, .n 0⟩,
   ⟨0x12, .enum, .rwi, 2, 0, 1, .iv 0 2, .n 0⟩,
   ⟨0x13, .enum, .rwi, 2, 0, 1, .iv 0 1, .n 0⟩,
   ⟨0x14, .enum, .rwi, 2, 0, 1, .iv 0 2, .n 0⟩,
   ⟨0x15, .u8, .rwi, 2, 0, 1, .iv 0 3, .n 0⟩,
   ⟨0x16, .u32, .ro, 0, 0, 0, .none, .n 0⟩,
   ⟨0x17, .u32, .ro, 0, 0, 0, .none, .n 0⟩,
   ⟨0x20, .u16, .ro, 0, 0, 0, .none, .n 0⟩,
   ⟨0x21, .u16, .ro, 0, 0, 0, .none, .n 0⟩]

/-- Table 9.13, Audio flows, after Table 9.10: the object map. -/
def rowsAflow : List Desc :=
  [⟨0x10, .enum, .rwi, 2, 0, 1, .iv 0 2, .n 1⟩,
   ⟨0x11, .u8, .rwi, 2, 0, 1, .iv 0 64, .n 0⟩,
   ⟨0x12, .enum, .rwi, 2, 0, 1, .iv 0 1, .n 0⟩,
   ⟨0x13, .enum, .rwi, 2, 0, 1, .iv 0 1, .n 0⟩,
   ⟨0x14, .u16, .ro, 0, 0, 0, .none, .n 65535⟩,
   ⟨0x15, .u32, .rw, 2, 0, 1, .iv 250000 100000000, .n 2000000⟩]

/-- Table 10.7, Family 3800h, compositor heads: the object map. -/
def rowsHead : List Desc :=
  [⟨0x00, .enum, .rwi, 2, 0, 1, .iv 0 2, .n 0⟩,
   ⟨0x01, .str, .rw, 1, 0, 1, .chars 64, .b []⟩,
   ⟨0x02, .enum, .rwi, 2, 0, 1, .iv 1 29, .n 20⟩,
   ⟨0x03, .u8, .rwi, 2, 0, 1, .iv 0 3, .n 0⟩,
   ⟨0x04, .s32, .rwi, 2, 0, 1, .iv (-41708334) 41708334, .n 0⟩,
   ⟨0x05, .u32, .rwi, 2, 0, 1, .iv 4000 200000, .n 8000⟩,
   ⟨0x06, .u16, .rwi, 2, 0, 1, .ivOr 0 1023 65535, .n 65535⟩,
   ⟨0x07, .enum, .rwi, 2, 0, 1, .iv 0 3, .n 0⟩,
   ⟨0x08, .enum, .rwi, 2, 0, 1, .iv 0 2, .n 0⟩,
   ⟨0x09, .u32, .rw, 1, 1, 1, .none, .n 67633664⟩,
   ⟨0x0a, .u16, .rw, 1, 1, 1, .ivOr 0 2047 65535, .n 65535⟩,
   ⟨0x0b, .u8, .ro, 0, 0, 0, .iv 0 64, .n 0⟩,
   ⟨0x0c, .enum, .ro, 0, 0, 0, .iv 0 2, .n 0⟩,
   ⟨0x0d, .u32, .ro, 0, 0, 0, .none, .n 0⟩]

/-- Table 10.8, Family 3900h, instances 0–2047, layers: the object map. -/
def rowsLayer : List Desc :=
  [⟨0x00, .u8, .rwi, 2, 1, 2, .ivOr 0 3 255, .n 255⟩,
   ⟨0x01, .u8, .rw, 1, 1, 2, .iv 0 63, .n 0⟩,
   ⟨0x02, .enum, .rw, 1, 1, 2, .iv 0 4, .n 0⟩,
   ⟨0x03, .u8, .rw, 1, 1, 2, .ivOr 0 63 255, .n 255⟩,
   ⟨0x04, .s16, .rw, 1, 1, 2, .iv (-3840) 3840, .n 0⟩,
   ⟨0x05, .s16, .rw, 1, 1, 2, .iv (-2160) 2160, .n 0⟩,
   ⟨0x06, .u16, .rw, 1, 1, 2, .iv 16 3840, .n 16⟩,
   ⟨0x07, .u16, .rw, 1, 1, 2, .iv 16 2160, .n 16⟩,
   ⟨0x08, .enum, .rw, 1, 1, 2, .iv 0 2, .n 0⟩,
   ⟨0x09, .u16, .rw, 1, 1, 2, .iv 0 1024, .n 1024⟩,
   ⟨0x0a, .u16, .rw, 1, 1, 2, .iv 4 1019, .n 64⟩,
   ⟨0x0b, .u16, .rw, 1, 1, 2, .iv 4 1019, .n 940⟩,
   ⟨0x0c, .bool, .rw, 1, 1, 2, .none, .n 0⟩,
   ⟨0x0d, .u32, .rw, 1, 1, 2, .none, .n 67633664⟩,
   ⟨0x0e, .enum, .rw, 1, 1, 2, .iv 0 1, .n 0⟩,
   ⟨0x0f, .bool, .rw, 1, 1, 2, .none, .n 1⟩] ++
  [⟨0x10, .enum, .rw, 1, 0, 2, .iv 0 1, .n 0⟩,
   ⟨0x11, .u16, .rwi, 2, 0, 2, .ivOr 2048 2303 65535, .n 65535⟩,
   ⟨0x12, .u16, .rw, 1, 0, 2, .ivOr 0 1023 65535, .n 65535⟩,
   ⟨0x13, .u64, .rw, 1, 0, 2, .none, .n 0⟩,
   ⟨0x14, .bool, .wo, 1, 0, 2, .none, .n 0⟩,
   ⟨0x15, .oct, .wo, 1, 1, 2, .len 0 16777216, .b []⟩,
   ⟨0x16, .oct, .rw, 1, 1, 2, .len 0 2048, .b []⟩,
   ⟨0x17, .enum, .ro, 0, 0, 0, .iv 0 2, .n 1⟩,
   ⟨0x18, .u32, .ro, 0, 0, 0, .none, .n 0⟩,
   ⟨0x19, .enum, .wo, 1, 0, 0, .none, .n 0⟩,
   ⟨0x1a, .bool, .rw, 2, 0, 1, .none, .n 0⟩,
   ⟨0x1b, .enum, .ro, 0, 0, 0, .iv 0 3, .n 0⟩,
   ⟨0x1c, .oct, .ro, 0, 0, 0, .len 12 12, .b (zeros 12)⟩,
   ⟨0x1d, .u32, .ro, 0, 0, 0, .none, .n 0⟩,
   ⟨0x1e, .u32, .ro, 0, 0, 0, .none, .n 0⟩,
   ⟨0x1f, .str, .rw, 1, 0, 1, .chars 64, .b []⟩]

/-- Table 10.9, Family 3900h, instances 2048–2303, commit groups: the object map. -/
def rowsCgroup : List Desc :=
  [⟨0x00, .u8, .rwi, 2, 0, 1, .ivOr 0 3 255, .n 255⟩,
   ⟨0x01, .oct, .ro, 0, 0, 0, .none, .b []⟩,
   ⟨0x02, .bool, .wo, 1, 0, 2, .none, .n 0⟩,
   ⟨0x03, .u8, .rw, 1, 0, 1, .iv 1 60, .n 2⟩,
   ⟨0x04, .enum, .ro, 0, 0, 0, .iv 0 2, .n 0⟩,
   ⟨0x05, .u32, .ro, 0, 0, 0, .none, .n 0⟩,
   ⟨0x06, .u32, .ro, 0, 0, 0, .none, .n 0⟩]

/-- Table 10.10, Family 3A00h, scalers and line stores: the object map. -/
def rowsScaler : List Desc :=
  [⟨0x00, .u16, .rw, 1, 1, 1, .none, .n 0⟩,
   ⟨0x01, .u16, .rw, 1, 1, 1, .none, .n 0⟩,
   ⟨0x02, .u16, .rw, 1, 1, 1, .none, .n 0⟩,
   ⟨0x03, .u16, .rw, 1, 1, 1, .none, .n 0⟩,
   ⟨0x04, .u16, .rw, 1, 1, 1, .iv 16 3840, .n 480⟩,
   ⟨0x05, .u16, .rw, 1, 1, 1, .iv 16 2160, .n 270⟩,
   ⟨0x06, .u8, .rw, 2, 1, 1, .iv 2 8, .n 4⟩,
   ⟨0x07, .u8, .rw, 2, 0, 1, .ivOr 0 63 255, .n 255⟩,
   ⟨0x08, .u32, .ro, 0, 0, 0, .none, .n 0⟩,
   ⟨0x09, .u32, .ro, 0, 0, 0, .none, .n 0⟩,
   ⟨0x0a, .enum, .ro, 0, 0, 0, .iv 0 2, .n 0⟩,
   ⟨0x0b, .u32, .ro, 0, 0, 0, .none, .n 0⟩,
   ⟨0x0c, .u32, .ro, 0, 0, 0, .none, .n 0⟩,
   ⟨0x0d, .u32, .ro, 0, 0, 0, .none, .n 0⟩]

/-- Table 10.11, Family 3B00h, fences: the object map. -/
def rowsFence : List Desc :=
  [⟨0x00, .u64, .rw, 1, 0, 0, .none, .n 0⟩,
   ⟨0x01, .u16, .ro, 0, 0, 0, .none, .n 0⟩,
   ⟨0x02, .bool, .wo, 2, 0, 0, .none, .n 0⟩,
   ⟨0x03, .str, .rw, 1, 0, 0, .chars 64, .b []⟩]

/-- Table 11.8, Family 4000h, audio sources: the object map. -/
def rowsAsource : List Desc :=
  [⟨0x00, .enum, .ro, 0, 0, 0, .iv 0 6, .n 0⟩,
   ⟨0x01, .str, .rw, 1, 0, 1, .chars 64, .b []⟩,
   ⟨0x02, .bool, .ro, 0, 0, 0, .none, .n 0⟩,
   ⟨0x03, .enum, .ro, 0, 0, 0, .iv 0 4, .n 0⟩,
   ⟨0x04, .u16, .ro, 0, 0, 0, .none, .n 65535⟩,
   ⟨0x05, .bool, .ro, 0, 0, 0, .none, .n 0⟩,
   ⟨0x06, .enum, .rw, 2, 0, 1, .iv 0 2, .n 0⟩,
   ⟨0x07, .s16, .ro, 0, 0, 0, .none, .n (-32768)⟩,
   ⟨0x08, .u16, .ro, 0, 0, 0, .none, .n 0⟩,
   ⟨0x09, .oct, .ro, 0, 0, 0, .len 24 24, .b (zeros 24)⟩,
   ⟨0x0a, .enum, .rwi, 2, 0, 1, .iv 0 1, .n 0⟩,
   ⟨0x0b, .u32, .rwi, 2, 0, 1, .iv 20 20000, .n 1000⟩,
   ⟨0x0c, .s16, .rwi, 2, 0, 1, .iv (-1200) 0, .n (-180)⟩,
   ⟨0x0d, .enum, .rwi, 2, 0, 1, .set [2, 4], .n 2⟩,
   ⟨0x0e, .u8, .rwi, 2, 0, 1, .iv 0 3, .n 0⟩]

/-- Table 11.9, Family 4100h, audio destinations: the object map. -/
def rowsAdest : List Desc :=
  [⟨0x00, .enum, .ro, 0, 0, 0, .iv 0 6, .n 0⟩,
   ⟨0x01, .str, .rw, 1, 0, 1, .chars 64, .b []⟩,
   ⟨0x02, .id, .ro, 0, 0, 0, .none, .n 4294967295⟩,
   ⟨0x03, .s16, .rw, 1, 0, 1, .ivOr (-1000) 180 (-32768), .n 0⟩,
   ⟨0x04, .bool, .rw, 1, 0, 1, .none, .n 0⟩,
   ⟨0x05, .bool, .rw, 1, 0, 1, .none, .n 0⟩,
   ⟨0x06, .u32, .rw, 1, 0, 1, .iv 0 1000000, .n 0⟩,
   ⟨0x07, .u16, .rw, 2, 0, 1, .iv 0 1000, .n 10⟩,
   ⟨0x08, .u16, .rw, 2, 0, 1, .iv 0 100, .n 5⟩,
   ⟨0x09, .enum, .rw, 2, 0, 1, .iv 0 1, .n 0⟩,
   ⟨0x0a, .enum, .ro, 0, 0, 0, .none, .n 0⟩,
   ⟨0x0b, .u16, .ro, 0, 0, 0, .none, .n 65535⟩,
   ⟨0x0c, .u16, .ro, 0, 0, 0, .none, .n 65535⟩,
   ⟨0x0d, .u32, .ro, 0, 0, 0, .none, .n 0⟩,
   ⟨0x0e, .u32, .ro, 0, 0, 0, .none, .n 0⟩,
   ⟨0x0f, .u32, .ro, 0, 0, 0, .none, .n 0⟩] ++
  [⟨0x10, .bits, .ro, 0, 0, 0, .none, .n 0⟩]

/-- Table 11.11, Family 4200h, instance 0: the object map. -/
def rowsSapAll : List Desc :=
  [⟨0x00, .bits, .rw, 2, 0, 1, .none, .n 0⟩,
   ⟨0x01, .bits, .rw, 2, 0, 1, .none, .n 0⟩,
   ⟨0x02, .bool, .wo, 2, 0, 1, .none, .n 0⟩,
   ⟨0x03, .time, .wo, 2, 0, 1, .none, .n 0⟩,
   ⟨0x04, .enum, .rw, 2, 0, 1, .iv 0 1, .n 0⟩,
   ⟨0x05, .enum, .ro, 0, 0, 0, .iv 0 2, .n 0⟩,
   ⟨0x06, .time, .ro, 0, 0, 0, .none, .n 0⟩]

/-- Table 11.12, Family 4200h, instances 1–64, directions: the object map. -/
def rowsSap : List Desc :=
  [⟨0x00, .bool, .rw, 2, 0, 1, .none, .n 0⟩,
   ⟨0x01, .enum, .rwi, 2, 0, 1, .iv 0 1, .n 0⟩,
   ⟨0x02, .u8, .rwi, 2, 0, 1, .iv 0 3, .n 0⟩,
   ⟨0x03, .u8, .rwi, 2, 0, 1, .ivOr 0 3 255, .n 255⟩,
   ⟨0x04, .enum, .rwi, 2, 0, 1, .iv 0 1, .n 0⟩,
   ⟨0x05, .u32, .rwi, 2, 0, 1, .none, .n 4⟩,
   ⟨0x06, .u8, .rwi, 2, 0, 1, .iv 1 64, .n 8⟩,
   ⟨0x07, .enum, .rwi, 2, 0, 1, .iv 0 2, .n 2⟩,
   ⟨0x0a, .enum, .rw, 2, 3, 1, .iv 0 3, .n 0⟩,
   ⟨0x0b, .u64, .rw, 2, 3, 1, .none, .n 255⟩,
   ⟨0x0c, .u64, .ro, 0, 0, 0, .none, .n 255⟩,
   ⟨0x0d, .u8, .rw, 2, 0, 1, .iv 0 3, .n 0⟩,
   ⟨0x0e, .enum, .rw, 2, 3, 1, .iv 0 1, .n 0⟩,
   ⟨0x0f, .u32, .ro, 0, 0, 0, .none, .n 0⟩,
   ⟨0x10, .u32, .ro, 0, 0, 0, .none, .n 0⟩,
   ⟨0x11, .u16, .ro, 0, 0, 0, .none, .n 0⟩] ++
  [⟨0x12, .oct, .ro, 2, 0, 0, .none, .b []⟩,
   ⟨0x13, .enum, .ro, 0, 0, 0, .iv 0 3, .n 0⟩,
   ⟨0x14, .u32, .ro, 0, 0, 0, .none, .n 0⟩]

/-- Table 11.13, Family 4300h, ASRC: the object map. -/
def rowsAsrc : List Desc :=
  [⟨0x00, .u16, .const, 0, 0, 0, .none, .n 2048⟩,
   ⟨0x01, .u16, .ro, 0, 0, 0, .iv 0 2048, .n 0⟩,
   ⟨0x02, .u32, .const, 0, 0, 0, .none, .n 1000000⟩,
   ⟨0x03, .id, .ro, 0, 0, 0, .none, .n 4294967295⟩,
   ⟨0x04, .u32, .ro, 0, 0, 0, .none, .n 0⟩,
   ⟨0x05, .id, .ro, 0, 0, 0, .none, .n 4294967295⟩,
   ⟨0x06, .enum, .ro, 0, 0, 0, .iv 0 3, .n 0⟩,
   ⟨0x07, .q32, .ro, 0, 0, 0, .none, .n 0⟩]

/-- Table 11.14, Family 4400h, AES3 ports: the object map. -/
def rowsAes : List Desc :=
  [⟨0x00, .enum, .ro, 0, 0, 0, .iv 0 1, .n 0⟩,
   ⟨0x01, .enum, .ro, 0, 0, 0, .none, .n 0⟩,
   ⟨0x02, .u32, .ro, 0, 0, 0, .none, .n 0⟩,
   ⟨0x03, .bool, .rw, 2, 0, 1, .none, .n 0⟩,
   ⟨0x04, .enum, .rw, 2, 0, 1, .iv 0 1, .n 0⟩,
   ⟨0x05, .u8, .rw, 2, 0, 1, .iv 0 3, .n 0⟩,
   ⟨0x06, .u32, .ro, 0, 0, 0, .none, .n 0⟩,
   ⟨0x07, .u32, .ro, 0, 0, 0, .none, .n 0⟩,
   ⟨0x08, .u32, .ro, 0, 0, 0, .none, .n 0⟩]

/-- Table 11.15, Family 4500h, loudness groups: the object map. -/
def rowsLoud : List Desc :=
  [⟨0x00, .bool, .rw, 2, 0, 1, .none, .n 0⟩,
   ⟨0x01, .oct, .rwi, 2, 0, 1, .len 8 128, .b []⟩,
   ⟨0x02, .s16, .ro, 0, 0, 0, .none, .n (-32768)⟩,
   ⟨0x03, .s16, .ro, 0, 0, 0, .none, .n (-32768)⟩,
   ⟨0x04, .s16, .ro, 0, 0, 0, .none, .n (-32768)⟩,
   ⟨0x05, .u16, .ro, 0, 0, 0, .none, .n 0⟩,
   ⟨0x06, .s16, .ro, 0, 0, 0, .none, .n (-32768)⟩,
   ⟨0x07, .bool, .wo, 1, 0, 0, .none, .n 0⟩,
   ⟨0x08, .s16, .rw, 1, 0, 1, .iv (-700) 0, .n (-230)⟩,
   ⟨0x09, .u16, .rw, 1, 0, 1, .iv 1 100, .n 10⟩,
   ⟨0x0a, .s16, .rw, 1, 0, 1, .iv (-200) 0, .n (-10)⟩,
   ⟨0x0b, .str, .rw, 1, 0, 1, .chars 64, .b []⟩,
   ⟨0x0c, .bits, .ro, 0, 0, 0, .none, .n 0⟩]

/-- Table 12.13, Family 5000h, instance 0: the object map. -/
def rowsRefAll : List Desc :=
  [⟨0x00, .bool, .rw, 2, 0, 1, .none, .n 1⟩,
   ⟨0x01, .u32, .rw, 2, 0, 1, .iv 10 3600, .n 60⟩,
   ⟨0x02, .u32, .rw, 2, 0, 1, .iv 1 10000, .n 50⟩,
   ⟨0x03, .u32, .rw, 2, 0, 1, .iv 10 100000, .n 1000⟩,
   ⟨0x04, .u32, .rw, 2, 0, 1, .iv 100 86400, .n 1000⟩,
   ⟨0x05, .u32, .rw, 2, 0, 1, .iv 100 500000, .n 10000⟩,
   ⟨0x06, .u16, .rw, 2, 0, 1, .iv 1 3600, .n 10⟩,
   ⟨0x07, .u16, .const, 0, 0, 0, .none, .n 10⟩]

/-- Table 12.14, Family 5000h, instances 1–16, entries: the object map. -/
def rowsRef : List Desc :=
  [⟨0x00, .enum, .rwi, 2, 0, 1, .iv 0 5, .n 0⟩,
   ⟨0x01, .u16, .rwi, 2, 0, 1, .none, .n 0⟩,
   ⟨0x02, .enum, .rwi, 2, 0, 1, .iv 0 5, .n 0⟩,
   ⟨0x03, .enum, .rwi, 2, 0, 1, .iv 0 21, .n 0⟩,
   ⟨0x04, .u8, .rw, 2, 0, 1, .iv 0 15, .n 15⟩,
   ⟨0x05, .bits, .rw, 2, 0, 1, .mask 15, .n 1⟩,
   ⟨0x06, .u32, .rw, 2, 0, 1, .iv 1 1000000, .n 0⟩,
   ⟨0x07, .enum, .rwi, 2, 0, 1, .iv 0 1, .n 0⟩,
   ⟨0x08, .enum, .ro, 0, 0, 0, .none, .n 0⟩,
   ⟨0x09, .s32, .ro, 0, 0, 0, .none, .n 0⟩,
   ⟨0x0a, .enum, .ro, 0, 0, 0, .none, .n 0⟩,
   ⟨0x0b, .bits, .ro, 0, 0, 0, .none, .n 0⟩,
   ⟨0x0c, .u32, .ro, 0, 0, 0, .none, .n 0⟩,
   ⟨0x0d, .u32, .ro, 0, 0, 0, .none, .n 0⟩,
   ⟨0x0e, .str, .rw, 1, 0, 1, .chars 64, .b []⟩]

/-- Table 12.16, Family 5100h, instances 0–3: the object map. -/
def rowsDpll : List Desc :=
  [⟨0x00, .enum, .rwi, 2, 0, 1, .iv 0 2, .n 0⟩,
   ⟨0x01, .u64, .rwi, 2, 0, 1, .iv 2000000000000 3200000000000, .n 2970000000000⟩,
   ⟨0x02, .u8, .rwi, 2, 0, 1, .iv 0 3, .n 0⟩,
   ⟨0x03, .u32, .rwi, 2, 0, 1, .iv 1 4294967295, .n 0⟩,
   ⟨0x04, .u32, .rwi, 2, 0, 1, .iv 1 4294967295, .n 0⟩,
   ⟨0x05, .u32, .rw, 2, 0, 1, .iv 100 100000000, .n 100000⟩,
   ⟨0x06, .enum, .rw, 2, 0, 1, .iv 0 3, .n 3⟩,
   ⟨0x07, .u32, .rw, 2, 0, 1, .iv 100 100000000, .n 1000000⟩,
   ⟨0x08, .u32, .rw, 2, 0, 1, .orIv 0 1000 1000000000, .n 25000⟩,
   ⟨0x09, .s64, .rw, 1, 0, 1, .iv (-50000000000) 50000000000, .n 0⟩,
   ⟨0x0a, .u8, .rw, 2, 0, 1, .ivOr 0 15 255, .n 255⟩,
   ⟨0x0b, .s32, .ro, 0, 0, 0, .none, .n 0⟩,
   ⟨0x0c, .enum, .rw, 2, 0, 1, .iv 0 1, .n 0⟩,
   ⟨0x0d, .u8, .rw, 2, 0, 1, .iv 0 3, .n 0⟩,
   ⟨0x0e, .time, .rw, 2, 0, 1, .none, .n 0⟩,
   ⟨0x0f, .bool, .wo, 2, 0, 1, .none, .n 0⟩] ++
  [⟨0x10, .enum, .ro, 0, 0, 0, .iv 0 2, .n 0⟩,
   ⟨0x11, .enum, .ro, 0, 0, 0, .iv 0 3, .n 0⟩,
   ⟨0x12, .u8, .ro, 0, 0, 0, .iv 0 15, .n 255⟩,
   ⟨0x13, .s64, .ro, 0, 0, 0, .none, .n 0⟩,
   ⟨0x14, .s64, .ro, 0, 0, 0, .none, .n 0⟩,
   ⟨0x15, .bool, .ro, 0, 0, 0, .none, .n 0⟩,
   ⟨0x17, .u32, .ro, 0, 0, 0, .none, .n 0⟩,
   ⟨0x18, .u32, .rw, 2, 0, 1, .iv 60 86400, .n 600⟩,
   ⟨0x19, .u32, .rw, 2, 0, 1, .iv 1 600, .n 10⟩,
   ⟨0x1a, .u32, .rw, 2, 0, 1, .iv 10 100000, .n 1000⟩,
   ⟨0x1b, .u32, .ro, 0, 0, 0, .none, .n 0⟩,
   ⟨0x1c, .u32, .ro, 0, 0, 0, .none, .n 0⟩,
   ⟨0x1d, .u32, .rw, 2, 0, 1, .iv 1 10000, .n 1000⟩]

/-- Table 12.17, Family 5100h, instance 4, oscillator: the object map. -/
def rowsXo : List Desc :=
  [⟨0x00, .enum, .rw, 3, 5, 0, .iv 0 2, .n 2⟩,
   ⟨0x01, .enum, .rw, 3, 0, 0, .iv 0 1, .n 0⟩,
   ⟨0x02, .enum, .ro, 0, 0, 0, .iv 0 1, .n 0⟩]

/-- Table 12.18, Family 5200h, instances 0–23: the object map. -/
def rowsCko : List Desc :=
  [⟨0x00, .bool, .rw, 2, 0, 1, .none, .n 0⟩,
   ⟨0x01, .u8, .rw, 2, 4, 1, .iv 0 3, .n 0⟩,
   ⟨0x02, .u32, .rw, 2, 4, 1, .iv 2 4294967295, .n 20⟩,
   ⟨0x03, .enum, .rwi, 2, 0, 1, .iv 0 5, .n 0⟩,
   ⟨0x04, .u16, .rw, 2, 0, 1, .none, .n 350⟩,
   ⟨0x05, .s64, .rw, 1, 0, 1, .none, .n 0⟩,
   ⟨0x06, .u32, .rw, 2, 0, 1, .iv 1 10000, .n 1000⟩,
   ⟨0x07, .u32, .rw, 2, 4, 1, .none, .n 0⟩,
   ⟨0x08, .bool, .rw, 2, 0, 1, .none, .n 0⟩,
   ⟨0x09, .enum, .rw, 2, 0, 1, .iv 0 1, .n 0⟩,
   ⟨0x0a, .bool, .rw, 2, 0, 1, .none, .n 0⟩,
   ⟨0x0b, .u64, .ro, 0, 0, 0, .none, .n 0⟩,
   ⟨0x0c, .s64, .ro, 0, 0, 0, .none, .n 0⟩,
   ⟨0x0d, .enum, .ro, 0, 0, 0, .iv 0 3, .n 0⟩,
   ⟨0x0e, .str, .rw, 1, 0, 1, .chars 64, .b []⟩]

/-- Table 12.19, Family 5200h, instance 24, bank supplies: the object map. -/
def rowsVddo : List Desc :=
  [⟨0x00, .enum, .rw, 3, 5, 0, .iv 0 2, .n 0⟩,
   ⟨0x01, .enum, .rw, 3, 5, 0, .iv 0 2, .n 0⟩,
   ⟨0x02, .enum, .rw, 3, 5, 0, .iv 0 2, .n 0⟩,
   ⟨0x03, .enum, .rw, 3, 5, 0, .iv 0 2, .n 0⟩]

/-- Table 12.20, Family 5300h, sync-word ports: the object map. -/
def rowsSwp : List Desc :=
  [⟨0x00, .bool, .rw, 2, 0, 1, .none, .n 0⟩,
   ⟨0x01, .enum, .rwi, 2, 0, 1, .none, .n 2⟩,
   ⟨0x02, .bool, .rwi, 2, 0, 1, .none, .n 0⟩,
   ⟨0x03, .u8, .rwi, 2, 0, 1, .iv 0 3, .n 0⟩,
   ⟨0x04, .u8, .rwi, 2, 0, 1, .iv 0 3, .n 0⟩,
   ⟨0x05, .s64, .rw, 1, 0, 1, .iv (-41708334000) 41708334000, .n 0⟩,
   ⟨0x06, .u32, .rw, 2, 0, 1, .iv 1 10000, .n 1000⟩,
   ⟨0x07, .u32, .rw, 2, 0, 1, .iv 0 10000, .n 0⟩,
   ⟨0x08, .enum, .ro, 0, 0, 0, .iv 0 2, .n 0⟩,
   ⟨0x09, .u32, .ro, 0, 0, 0, .none, .n 0⟩,
   ⟨0x0a, .str, .rw, 1, 0, 1, .chars 64, .b []⟩]

/-- Table 13.9, Family 5400h, time bases: the object map. -/
def rowsTb : List Desc :=
  [⟨0x00, .enum, .rwi, 2, 0, 1, .iv 0 3, .n 0⟩,
   ⟨0x01, .u8, .rwi, 2, 0, 1, .iv 0 3, .n 0⟩,
   ⟨0x02, .enum, .rwi, 2, 0, 1, .iv 0 2, .n 0⟩,
   ⟨0x03, .enum, .rw, 2, 0, 1, .iv 0 1, .n 0⟩,
   ⟨0x04, .u8, .rwi, 2, 0, 1, .none, .n 0⟩,
   ⟨0x05, .u8, .rw, 2, 0, 1, .iv 0 255, .n 128⟩,
   ⟨0x06, .u8, .rw, 2, 0, 1, .iv 0 255, .n 128⟩,
   ⟨0x07, .enum, .ro, 0, 0, 0, .iv 0 5, .n 0⟩,
   ⟨0x08, .time, .ro, 0, 0, 0, .none, .n 0⟩,
   ⟨0x09, .u32, .ro, 0, 0, 0, .none, .n 0⟩,
   ⟨0x0a, .s64, .ro, 0, 0, 0, .none, .n 0⟩,
   ⟨0x0b, .s64, .ro, 0, 0, 0, .none, .n 0⟩,
   ⟨0x0c, .oct, .ro, 0, 0, 0, .none, .b (zeros 8)⟩,
   ⟨0x0d, .u16, .ro, 0, 0, 0, .none, .n 0⟩,
   ⟨0x0e, .u8, .ro, 0, 0, 0, .none, .n 248⟩,
   ⟨0x0f, .s16, .rw, 2, 0, 1, .none, .n 37⟩] ++
  [⟨0x10, .u32, .rw, 2, 0, 1, .iv 100 1000000000, .n 1000⟩,
   ⟨0x11, .s64, .ro, 0, 0, 0, .none, .n 0⟩,
   ⟨0x12, .time, .rw, 2, 0, 1, .none, .n 0⟩,
   ⟨0x13, .bool, .wo, 2, 0, 1, .none, .n 0⟩,
   ⟨0x14, .enum, .ro, 0, 0, 0, .iv 0 3, .n 0⟩,
   ⟨0x15, .time, .wo, 2, 0, 1, .none, .n 0⟩,
   ⟨0x16, .bool, .wo, 2, 0, 1, .none, .n 0⟩,
   ⟨0x17, .bool, .rw, 2, 0, 1, .none, .n 0⟩,
   ⟨0x18, .u32, .ro, 0, 0, 0, .none, .n 0⟩,
   ⟨0x19, .u32, .ro, 0, 0, 0, .none, .n 0⟩,
   ⟨0x1a, .str, .rw, 1, 0, 1, .chars 64, .b []⟩,
   ⟨0x1d, .bool, .rw, 2, 0, 1, .none, .n 0⟩,
   ⟨0x1e, .u32, .rw, 2, 0, 1, .iv 60 86400, .n 3600⟩]

/-- Table 13.10, Family 5500h, PTP ports: the object map. -/
def rowsPtp : List Desc :=
  [⟨0x00, .bool, .rw, 2, 0, 1, .none, .n 0⟩,
   ⟨0x01, .u8, .rwi, 2, 0, 1, .iv 0 3, .n 0⟩,
   ⟨0x02, .u16, .rwi, 2, 0, 1, .ivOr 0 1025 65535, .n 65535⟩,
   ⟨0x03, .enum, .rwi, 2, 0, 1, .iv 0 2, .n 0⟩,
   ⟨0x04, .enum, .rwi, 2, 0, 1, .iv 0 2, .n 0⟩,
   ⟨0x05, .s8, .rw, 2, 0, 1, .none, .n 0⟩,
   ⟨0x06, .s8, .rw, 2, 0, 1, .none, .n 0⟩,
   ⟨0x07, .u8, .rw, 2, 0, 1, .iv 2 10, .n 3⟩,
   ⟨0x08, .s8, .rw, 2, 0, 1, .none, .n 0⟩,
   ⟨0x09, .bool, .rw, 2, 0, 1, .none, .n 0⟩,
   ⟨0x0a, .bool, .rw, 2, 0, 1, .none, .n 0⟩,
   ⟨0x0b, .s32, .rw, 2, 0, 1, .none, .n 0⟩,
   ⟨0x0c, .s32, .rw, 2, 0, 1, .none, .n 0⟩,
   ⟨0x0d, .s32, .rw, 2, 0, 1, .none, .n 0⟩,
   ⟨0x0e, .enum, .ro, 0, 0, 0, .none, .n 3⟩,
   ⟨0x0f, .oct, .ro, 0, 0, 0, .none, .b []⟩] ++
  [⟨0x10, .u8, .rw, 2, 0, 1, .iv 0 63, .n 46⟩,
   ⟨0x11, .u32, .ro, 0, 0, 0, .none, .n 0⟩,
   ⟨0x12, .u32, .ro, 0, 0, 0, .none, .n 0⟩,
   ⟨0x13, .u32, .ro, 0, 0, 0, .none, .n 0⟩]

/-- Table 13.11, Family 5600h, timestamp queues: the object map. -/
def rowsTsq : List Desc :=
  [⟨0x00, .u16, .const, 0, 0, 0, .none, .n 32⟩,
   ⟨0x01, .u16, .ro, 0, 0, 0, .iv 0 32, .n 0⟩,
   ⟨0x02, .oct, .ro, 2, 0, 0, .none, .b []⟩,
   ⟨0x03, .u16, .wo, 2, 0, 0, .none, .n 0⟩,
   ⟨0x04, .bits, .ro, 0, 0, 0, .none, .n 0⟩,
   ⟨0x05, .u32, .ro, 0, 0, 0, .none, .n 0⟩,
   ⟨0x06, .bool, .wo, 2, 0, 0, .none, .n 0⟩,
   ⟨0x07, .u16, .ro, 0, 0, 0, .none, .n 0⟩]

/-- Table 13.12, Family 5700h, instance 0: the object map. -/
def rowsLaunch : List Desc :=
  [⟨0x00, .u32, .const, 0, 0, 0, .none, .n 2000⟩,
   ⟨0x01, .oct, .wo, 2, 0, 0, .len 0 1530, .b []⟩,
   ⟨0x02, .u16, .ro, 0, 0, 0, .iv 0 64, .n 0⟩,
   ⟨0x03, .u16, .const, 0, 0, 0, .none, .n 64⟩,
   ⟨0x04, .enum, .rw, 2, 0, 1, .iv 0 1, .n 0⟩,
   ⟨0x05, .u32, .ro, 0, 0, 0, .none, .n 0⟩,
   ⟨0x06, .u32, .ro, 0, 0, 0, .none, .n 0⟩]

/-- Table 13.13, Family 5700h, instances 1–1026, interfaces: the object map. -/
def rowsIfc : List Desc :=
  [⟨0x00, .u64, .ro, 0, 0, 0, .none, .n 0⟩,
   ⟨0x01, .u32, .ro, 0, 0, 0, .none, .n 0⟩,
   ⟨0x02, .u32, .ro, 0, 0, 0, .none, .n 0⟩,
   ⟨0x03, .bool, .wo, 1, 0, 0, .none, .n 0⟩]

/-- Table 14.8, Family 2000h, instances 0–1023, lanes: the object map. -/
def rowsLane : List Desc :=
  [⟨0x00, .enum, .rw, 2, 0, 1, .iv 0 2, .n 0⟩,
   ⟨0x01, .enum, .ro, 0, 0, 0, .iv 0 3, .n 0⟩,
   ⟨0x02, .u32, .ro, 0, 0, 0, .none, .n 2970000⟩,
   ⟨0x03, .enum, .ro, 0, 0, 0, .iv 0 4, .n 1⟩,
   ⟨0x04, .enum, .ro, 0, 0, 0, .iv 0 2, .n 1⟩,
   ⟨0x05, .bool, .rwi, 2, 0, 1, .none, .n 0⟩,
   ⟨0x06, .bool, .rwi, 2, 0, 1, .none, .n 0⟩,
   ⟨0x07, .bool, .ro, 0, 0, 0, .none, .n 0⟩,
   ⟨0x08, .s32, .ro, 0, 0, 0, .none, .n 0⟩,
   ⟨0x09, .u32, .ro, 0, 0, 0, .none, .n 0⟩,
   ⟨0x0a, .u32, .ro, 0, 0, 0, .none, .n 0⟩,
   ⟨0x0b, .u32, .ro, 0, 0, 0, .none, .n 0⟩,
   ⟨0x0c, .bool, .wo, 1, 0, 0, .none, .n 0⟩]

/-- Table 14.9, Family 2000h, instances 1024–1039, tiles: the object map. -/
def rowsTile : List Desc :=
  [⟨0x00, .enum, .rw, 3, 5, 0, .iv 0 5, .n 0⟩,
   ⟨0x01, .enum, .ro, 0, 0, 0, .none, .n 0⟩,
   ⟨0x02, .u8, .rwi, 2, 0, 1, .iv 0 3, .n 0⟩,
   ⟨0x03, .u8, .rwi, 2, 0, 1, .iv 0 3, .n 1⟩,
   ⟨0x04, .bits, .ro, 0, 0, 0, .none, .n 0⟩]

/-- Table 14.11, Family 2100h, lane equalisation: the object map. -/
def rowsEq : List Desc :=
  [⟨0x00, .u8, .ro, 0, 0, 0, .iv 0 31, .n 0⟩,
   ⟨0x01, .oct, .ro, 0, 0, 0, .none, .b (zeros 15)⟩,
   ⟨0x02, .enum, .ro, 0, 0, 0, .iv 0 5, .n 0⟩,
   ⟨0x03, .enum, .rw, 2, 0, 1, .iv 0 3, .n 0⟩,
   ⟨0x04, .u8, .rw, 2, 0, 1, .iv 0 31, .n 8⟩,
   ⟨0x05, .oct, .rw, 2, 0, 1, .len 15 15, .b (zeros 15)⟩,
   ⟨0x06, .enum, .rw, 2, 0, 1, .iv 0 2, .n 1⟩,
   ⟨0x07, .bool, .rw, 2, 0, 1, .none, .n 1⟩,
   ⟨0x08, .u8, .rw, 2, 0, 1, .iv 1 127, .n 64⟩,
   ⟨0x09, .u8, .rw, 2, 0, 1, .iv 1 50, .n 10⟩,
   ⟨0x0a, .u16, .ro, 0, 0, 0, .none, .n 0⟩,
   ⟨0x0b, .u16, .ro, 0, 0, 0, .none, .n 0⟩,
   ⟨0x0c, .u16, .rw, 2, 0, 1, .step 400 1200 50, .n 800⟩,
   ⟨0x0d, .s8, .rw, 2, 0, 1, .iv (-15) 0, .n 0⟩,
   ⟨0x0e, .s8, .rw, 2, 0, 1, .iv (-31) 0, .n 0⟩,
   ⟨0x0f, .bool, .wo, 2, 0, 0, .none, .n 0⟩]

/-- Table 14.12, Family 2200h, lane test: the object map. -/
def rowsLtest : List Desc :=
  [⟨0x00, .enum, .rwi, 2, 0, 0, .iv 0 6, .n 4⟩,
   ⟨0x01, .oct, .rwi, 2, 0, 0, .len 10 10, .b (zeros 10)⟩,
   ⟨0x02, .u32, .rwi, 2, 0, 0, .none, .n 0⟩,
   ⟨0x03, .enum, .rwi, 2, 0, 0, .iv 0 2, .n 0⟩,
   ⟨0x04, .bool, .rwi, 2, 0, 0, .none, .n 1⟩,
   ⟨0x05, .bool, .rwi, 2, 0, 0, .none, .n 1⟩,
   ⟨0x06, .u32, .rwi, 2, 0, 0, .orIv 0 1 604800, .n 0⟩,
   ⟨0x07, .bool, .wo, 2, 0, 0, .none, .n 0⟩,
   ⟨0x08, .bool, .wo, 2, 0, 0, .none, .n 0⟩,
   ⟨0x09, .bool, .wo, 2, 0, 0, .none, .n 0⟩,
   ⟨0x0a, .enum, .ro, 0, 0, 0, .iv 0 4, .n 0⟩,
   ⟨0x0b, .bool, .ro, 0, 0, 0, .none, .n 0⟩,
   ⟨0x0c, .u64, .ro, 0, 0, 0, .none, .n 0⟩,
   ⟨0x0d, .u64, .ro, 0, 0, 0, .none, .n 0⟩,
   ⟨0x0e, .u64, .ro, 0, 0, 0, .none, .n 0⟩,
   ⟨0x0f, .u64, .ro, 0, 0, 0, .none, .n 0⟩] ++
  [⟨0x10, .bool, .wo, 2, 0, 0, .none, .n 0⟩,
   ⟨0x11, .u8, .wo, 2, 0, 0, .iv 2 80, .n 0⟩,
   ⟨0x12, .u32, .ro, 0, 0, 0, .none, .n 0⟩,
   ⟨0x13, .u32, .ro, 0, 0, 0, .none, .n 0⟩]

/-- Table 14.13, Family 2300h, ports: the object map. -/
def rowsPort : List Desc :=
  [⟨0x00, .enum, .rw, 2, 0, 1, .iv 0 6, .n 0⟩,
   ⟨0x01, .u16, .ro, 0, 0, 0, .none, .n 0⟩,
   ⟨0x02, .u8, .ro, 0, 0, 0, .none, .n 1⟩,
   ⟨0x03, .enum, .ro, 0, 0, 0, .iv 0 2, .n 0⟩,
   ⟨0x04, .str, .rw, 1, 0, 1, .chars 64, .b []⟩]

/-- Table 15.8, Family 2400h, instance 0: the object map. -/
def rowsMesh : List Desc :=
  [⟨0x00, .u16, .const, 0, 0, 0, .none, .n 0⟩,
   ⟨0x01, .u16, .const, 0, 0, 0, .none, .n 0⟩,
   ⟨0x02, .enum, .ro, 0, 0, 0, .iv 0 4, .n 0⟩,
   ⟨0x03, .u16, .ro, 0, 0, 0, .iv 0 1000, .n 0⟩,
   ⟨0x04, .oct, .rw, 3, 0, 0, .none, .b []⟩,
   ⟨0x05, .u32, .ro, 0, 0, 0, .none, .n 0⟩,
   ⟨0x06, .u8, .rw, 2, 0, 0, .iv 0 255, .n 128⟩,
   ⟨0x07, .u32, .ro, 0, 0, 0, .none, .n 0⟩,
   ⟨0x08, .u32, .ro, 0, 0, 0, .none, .n 0⟩,
   ⟨0x09, .u32, .ro, 0, 0, 0, .none, .n 0⟩,
   ⟨0x0a, .u32, .ro, 0, 0, 0, .none, .n 0⟩]

/-- Table 15.9, Family 2400h, instances 1–1024, mesh lanes: the object map. -/
def rowsMlink : List Desc :=
  [⟨0x00, .enum, .ro, 0, 0, 0, .iv 0 6, .n 0⟩,
   ⟨0x01, .u16, .ro, 0, 0, 0, .none, .n 1023⟩,
   ⟨0x02, .u16, .ro, 0, 0, 0, .none, .n 65535⟩,
   ⟨0x03, .str, .ro, 0, 0, 0, .none, .b []⟩,
   ⟨0x04, .u16, .ro, 0, 0, 0, .none, .n 0⟩,
   ⟨0x05, .u32, .ro, 0, 0, 0, .none, .n 0⟩,
   ⟨0x06, .enum, .ro, 0, 0, 0, .iv 0 2, .n 0⟩,
   ⟨0x07, .u64, .ro, 0, 0, 0, .none, .n 0⟩,
   ⟨0x08, .u64, .ro, 0, 0, 0, .none, .n 0⟩,
   ⟨0x09, .u32, .ro, 0, 0, 0, .none, .n 0⟩,
   ⟨0x0a, .u32, .ro, 0, 0, 0, .none, .n 0⟩,
   ⟨0x0b, .u32, .ro, 0, 0, 0, .none, .n 0⟩,
   ⟨0x0c, .u32, .ro, 0, 0, 0, .none, .n 0⟩,
   ⟨0x0d, .u16, .rw, 2, 0, 1, .iv 1 10000, .n 100⟩,
   ⟨0x0e, .bool, .rw, 2, 0, 1, .none, .n 1⟩,
   ⟨0x0f, .bool, .wo, 1, 0, 0, .none, .n 0⟩]

/-- Table 15.10, Family 2400h, instances 2048–3071, groups: the object map. -/
def rowsMgroup : List Desc :=
  [⟨0x00, .enum, .ro, 0, 0, 0, .iv 0 3, .n 0⟩,
   ⟨0x01, .u16, .ro, 0, 0, 0, .none, .n 65535⟩,
   ⟨0x02, .u16, .ro, 0, 0, 0, .none, .n 1023⟩,
   ⟨0x03, .u16, .ro, 0, 0, 0, .none, .n 0⟩,
   ⟨0x04, .u32, .ro, 0, 0, 0, .none, .n 0⟩,
   ⟨0x05, .time, .ro, 0, 0, 0, .none, .n 0⟩]

/-- Table 16.7, Family 1300h, instance 0: the object map. -/
def rowsTwin : List Desc :=
  [⟨0x00, .enum, .ro, 0, 0, 0, .iv 0 5, .n 0⟩,
   ⟨0x01, .u16, .rw, 2, 0, 1, .ivOr 0 4095 65535, .n 65535⟩,
   ⟨0x02, .enum, .rw, 3, 0, 1, .iv 0 1, .n 0⟩,
   ⟨0x03, .u32, .ro, 0, 0, 0, .none, .n 0⟩,
   ⟨0x04, .bits, .ro, 0, 0, 0, .none, .n 0⟩,
   ⟨0x05, .u32, .ro, 0, 0, 0, .none, .n 0⟩,
   ⟨0x06, .enum, .ro, 0, 0, 0, .iv 0 4, .n 0⟩,
   ⟨0x07, .u32, .ro, 0, 0, 0, .none, .n 0⟩,
   ⟨0x08, .bool, .wo, 2, 0, 0, .none, .n 0⟩,
   ⟨0x09, .bool, .wo, 2, 0, 0, .none, .n 0⟩,
   ⟨0x0a, .u16, .rw, 2, 0, 1, .iv 5 1000, .n 20⟩,
   ⟨0x0b, .enum, .ro, 0, 0, 0, .iv 0 4, .n 0⟩,
   ⟨0x0c, .u32, .rw, 2, 0, 1, .iv 10 86400, .n 300⟩,
   ⟨0x0d, .u32, .ro, 0, 0, 0, .none, .n 0⟩,
   ⟨0x0e, .u8, .rw, 2, 0, 1, .iv 1 60, .n 3⟩,
   ⟨0x0f, .u16, .rw, 2, 0, 1, .iv 1 3600, .n 10⟩] ++
  [⟨0x10, .u32, .rw, 2, 0, 1, .iv 600 604800, .n 3600⟩,
   ⟨0x11, .u8, .ro, 0, 0, 0, .iv 0 100, .n 0⟩,
   ⟨0x12, .oct, .ro, 0, 0, 0, .none, .b []⟩,
   ⟨0x13, .enum, .ro, 0, 0, 0, .iv 0 6, .n 0⟩,
   ⟨0x14, .time, .ro, 0, 0, 0, .none, .n 0⟩,
   ⟨0x15, .u32, .ro, 0, 0, 0, .none, .n 0⟩,
   ⟨0x16, .bits, .ro, 0, 0, 0, .none, .n 0⟩,
   ⟨0x17, .str, .ro, 0, 0, 0, .none, .b []⟩,
   ⟨0x18, .u32, .ro, 0, 0, 0, .none, .n 0⟩,
   ⟨0x19, .u32, .ro, 0, 0, 0, .none, .n 0⟩,
   ⟨0x1a, .u32, .ro, 0, 0, 0, .none, .n 0⟩,
   ⟨0x1b, .u32, .ro, 0, 0, 0, .none, .n 0⟩]

/-- Table 16.11, Family 1300h, instances 1–16, tiles: the object map. -/
def rowsTwt : List Desc :=
  [⟨0x00, .u8, .ro, 0, 0, 0, .iv 0 100, .n 0⟩,
   ⟨0x01, .enum, .ro, 0, 0, 0, .iv 0 1, .n 0⟩,
   ⟨0x02, .u16, .ro, 0, 0, 0, .none, .n 0⟩,
   ⟨0x03, .id, .ro, 0, 0, 0, .none, .n 4294967295⟩,
   ⟨0x04, .u16, .ro, 0, 0, 0, .none, .n 65535⟩]

/-- Table 17.9, Family 1100h, instance 0: the object map. -/
def rowsFault : List Desc :=
  [⟨0x00, .oct, .ro, 0, 0, 0, .none, .b (zeros 0)⟩,
   ⟨0x01, .bool, .ro, 0, 0, 0, .none, .n 0⟩,
   ⟨0x02, .bool, .ro, 0, 0, 0, .none, .n 0⟩,
   ⟨0x03, .bool, .ro, 0, 0, 0, .none, .n 0⟩,
   ⟨0x04, .bool, .ro, 0, 0, 0, .none, .n 0⟩,
   ⟨0x05, .u32, .ro, 0, 0, 0, .none, .n 0⟩,
   ⟨0x06, .bool, .wo, 2, 0, 0, .none, .n 0⟩,
   ⟨0x07, .u16, .ro, 0, 0, 0, .none, .n 0⟩,
   ⟨0x08, .oct, .ro, 0, 0, 0, .none, .b []⟩,
   ⟨0x09, .bits, .ro, 0, 0, 0, .none, .n 0⟩,
   ⟨0x0a, .bool, .wo, 3, 0, 0, .none, .n 0⟩,
   ⟨0x0b, .u16, .ro, 0, 0, 0, .iv 0 1024, .n 0⟩,
   ⟨0x0c, .oct, .ro, 2, 0, 0, .none, .b []⟩,
   ⟨0x0d, .oct, .ro, 0, 0, 0, .none, .b []⟩,
   ⟨0x0e, .oct, .wo, 3, 0, 1, .len 8 8, .b []⟩,
   ⟨0x0f, .u32, .ro, 0, 0, 0, .none, .n 0⟩] ++
  [⟨0x10, .enum, .rw, 3, 0, 0, .iv 0 6, .n 0⟩,
   ⟨0x11, .u32, .rw, 3, 0, 0, .none, .n 0⟩,
   ⟨0x12, .u8, .rw, 3, 0, 0, .iv 1 2, .n 1⟩,
   ⟨0x13, .bool, .rw, 3, 0, 0, .none, .n 0⟩,
   ⟨0x14, .enum, .ro, 0, 0, 0, .iv 0 2, .n 0⟩,
   ⟨0x15, .u32, .ro, 0, 0, 0, .none, .n 0⟩,
   ⟨0x16, .u16, .rw, 2, 0, 1, .iv 1 10000, .n 64⟩]

/-- Table 17.10, Family 1100h, instances 1–4096, sources: the object map. -/
def rowsFsrc : List Desc :=
  [⟨0x00, .str, .const, 0, 0, 0, .none, .b []⟩,
   ⟨0x01, .enum, .const, 0, 0, 0, .iv 0 3, .n 0⟩,
   ⟨0x02, .bits, .rw, 3, 0, 1, .none, .n 0⟩,
   ⟨0x03, .bits, .const, 0, 0, 0, .none, .n 0⟩,
   ⟨0x04, .enum, .ro, 0, 0, 0, .iv 0 2, .n 0⟩,
   ⟨0x05, .u32, .ro, 0, 0, 0, .none, .n 0⟩,
   ⟨0x06, .time, .ro, 0, 0, 0, .none, .n 0⟩,
   ⟨0x07, .u64, .ro, 0, 0, 0, .none, .n 0⟩,
   ⟨0x08, .bool, .wo, 1, 0, 0, .none, .n 0⟩,
   ⟨0x09, .bool, .rw, 2, 0, 1, .none, .n 0⟩,
   ⟨0x0a, .str, .const, 0, 0, 0, .none, .b []⟩]

/-- Table 18.8, Family 6000h, instance 0: the object map. -/
def rowsBanks : List Desc :=
  [⟨0x00, .u32, .rw, 2, 0, 0, .iv 1 3600, .n 60⟩,
   ⟨0x01, .u32, .rw, 2, 0, 0, .iv 10 600000, .n 1000⟩,
   ⟨0x02, .u32, .rw, 2, 0, 0, .iv 100 3600000, .n 60000⟩,
   ⟨0x03, .u16, .rw, 2, 0, 0, .iv 1 1000, .n 4⟩,
   ⟨0x04, .u16, .ro, 0, 0, 0, .none, .n 0⟩,
   ⟨0x05, .u16, .ro, 0, 0, 0, .none, .n 0⟩,
   ⟨0x06, .u16, .ro, 0, 0, 0, .none, .n 0⟩,
   ⟨0x07, .u64, .ro, 0, 0, 0, .none, .n 0⟩,
   ⟨0x08, .u32, .ro, 0, 0, 0, .none, .n 0⟩]

/-- Table 18.9, Family 6000h, instances 1–2048 and 4096–4143, banks: the object map. -/
def rowsBank : List Desc :=
  [⟨0x00, .enum, .const, 0, 0, 0, .none, .n 0⟩,
   ⟨0x01, .u16, .const, 0, 0, 0, .none, .n 0⟩,
   ⟨0x02, .enum, .ro, 0, 0, 0, .iv 0 4, .n 0⟩,
   ⟨0x03, .u32, .ro, 0, 0, 0, .none, .n 0⟩,
   ⟨0x04, .bool, .ro, 0, 0, 0, .none, .n 0⟩,
   ⟨0x05, .enum, .rw, 3, 0, 0, .iv 0 1, .n 0⟩,
   ⟨0x06, .u32, .ro, 0, 0, 0, .none, .n 0⟩,
   ⟨0x07, .u32, .ro, 0, 0, 0, .none, .n 0⟩,
   ⟨0x08, .u32, .ro, 0, 0, 0, .none, .n 0⟩,
   ⟨0x09, .time, .ro, 0, 0, 0, .none, .n 0⟩]

/-- Table 18.10, Family 6100h, instance 0: the object map. -/
def rowsIc : List Desc :=
  [⟨0x00, .u8, .const, 0, 0, 0, .none, .n 12⟩,
   ⟨0x01, .u8, .const, 0, 0, 0, .none, .n 20⟩,
   ⟨0x02, .u32, .ro, 0, 0, 0, .none, .n 0⟩]

/-- Table 18.11, Family 6100h, instances 1–12, initiators: the object map. -/
def rowsIni : List Desc :=
  [⟨0x00, .oct, .rw, 3, 0, 0, .len 20 20, .b []⟩,
   ⟨0x01, .u8, .ro, 0, 0, 0, .iv 0 16, .n 0⟩,
   ⟨0x02, .u8, .ro, 0, 0, 0, .iv 0 16, .n 0⟩,
   ⟨0x03, .u64, .ro, 0, 0, 0, .none, .n 0⟩,
   ⟨0x04, .u32, .ro, 0, 0, 0, .none, .n 0⟩,
   ⟨0x05, .u32, .ro, 0, 0, 0, .none, .n 0⟩,
   ⟨0x06, .bool, .wo, 1, 0, 0, .none, .n 0⟩]

/-- Table 18.12, Family 6100h, instances 32–51, targets: the object map. -/
def rowsTgt : List Desc :=
  [⟨0x00, .u8, .ro, 0, 0, 0, .none, .n 0⟩,
   ⟨0x01, .u32, .ro, 0, 0, 0, .none, .n 0⟩,
   ⟨0x02, .u32, .ro, 0, 0, 0, .none, .n 0⟩,
   ⟨0x03, .u8, .ro, 0, 0, 0, .none, .n 255⟩,
   ⟨0x04, .u32, .ro, 0, 0, 0, .none, .n 0⟩,
   ⟨0x05, .bool, .wo, 1, 0, 0, .none, .n 0⟩]

/-- Table 19.9, Family 1200h, instance 0: the object map. -/
def rowsFw : List Desc :=
  [⟨0x00, .enum, .ro, 0, 0, 0, .iv 0 4, .n 0⟩,
   ⟨0x01, .oct, .ro, 0, 0, 0, .none, .b (zeros 48)⟩,
   ⟨0x02, .u32, .ro, 0, 0, 0, .none, .n 0⟩,
   ⟨0x03, .bool, .ro, 0, 0, 0, .none, .n 0⟩,
   ⟨0x10, .oct, .wo, 3, 0, 0, .len 0 65536, .b []⟩,
   ⟨0x11, .bits, .ro, 0, 0, 0, .none, .n 0⟩,
   ⟨0x12, .bool, .wo, 3, 0, 0, .none, .n 0⟩,
   ⟨0x13, .u32, .ro, 0, 0, 0, .none, .n 0⟩,
   ⟨0x14, .bool, .wo, 3, 0, 0, .none, .n 0⟩,
   ⟨0x18, .oct, .rw, 3, 0, 0, .none, .b []⟩,
   ⟨0x19, .bool, .wo, 3, 0, 0, .none, .n 0⟩,
   ⟨0x1a, .oct, .ro, 0, 0, 0, .none, .b []⟩,
   ⟨0x1b, .enum, .ro, 0, 0, 0, .iv 0 7, .n 0⟩,
   ⟨0x1c, .enum, .ro, 0, 0, 0, .iv 0 2, .n 0⟩,
   ⟨0x1d, .u32, .ro, 0, 0, 0, .none, .n 0⟩,
   ⟨0x1e, .u32, .ro, 0, 0, 0, .none, .n 0⟩] ++
  [⟨0x1f, .u32, .ro, 0, 0, 0, .none, .n 0⟩,
   ⟨0x20, .time, .ro, 0, 0, 0, .none, .n 0⟩]

/-- Table 19.10, Family 1200h, instances 1–6, parts of the offer: the object map. -/
def rowsPart : List Desc :=
  [⟨0x00, .oct, .wo, 3, 0, 0, .none, .b []⟩,
   ⟨0x01, .enum, .ro, 0, 0, 0, .iv 0 6, .n 0⟩,
   ⟨0x02, .u32, .ro, 0, 0, 0, .none, .n 0⟩,
   ⟨0x03, .u32, .ro, 0, 0, 0, .none, .n 0⟩,
   ⟨0x04, .bool, .ro, 0, 0, 0, .none, .n 0⟩]

/-- Table 19.11, Family 1200h, instances 16–17, image slots: the object map. -/
def rowsImg : List Desc :=
  [⟨0x00, .enum, .ro, 0, 0, 0, .iv 0 3, .n 0⟩,
   ⟨0x01, .u32, .ro, 0, 0, 0, .none, .n 0⟩,
   ⟨0x02, .oct, .ro, 0, 0, 0, .none, .b []⟩,
   ⟨0x03, .u16, .ro, 0, 0, 0, .none, .n 0⟩,
   ⟨0x04, .u8, .ro, 0, 0, 0, .iv 0 3, .n 0⟩,
   ⟨0x05, .time, .ro, 0, 0, 0, .none, .n 0⟩]

/-- Table 19.12, Family 1200h, instances 32–35, key slots: the object map. -/
def rowsKslot : List Desc :=
  [⟨0x00, .enum, .ro, 0, 0, 0, .iv 0 2, .n 1⟩,
   ⟨0x01, .oct, .ro, 0, 0, 0, .none, .b []⟩,
   ⟨0x02, .bool, .wo, 3, 0, 0, .none, .n 0⟩]

/-- Table 20.9, Family 1020h, instance 0: the object map. -/
def rowsBring : List Desc :=
  [⟨0x00, .enum, .ro, 0, 0, 0, .none, .n 0⟩,
   ⟨0x01, .enum, .rw, 3, 5, 0, .iv 0 3, .n 0⟩,
   ⟨0x02, .enum, .wo, 3, 0, 0, .iv 1 3, .n 0⟩,
   ⟨0x03, .oct, .ro, 0, 0, 0, .none, .b (zeros 28)⟩,
   ⟨0x04, .u32, .ro, 0, 0, 0, .none, .n 0⟩,
   ⟨0x05, .u32, .ro, 0, 0, 0, .none, .n 0⟩,
   ⟨0x06, .enum, .ro, 0, 0, 0, .iv 0 5, .n 0⟩,
   ⟨0x07, .u8, .ro, 0, 0, 0, .none, .n 0⟩]

/-- Table 20.10, Family 1400h, instance 0: the object map. -/
def rowsPow : List Desc :=
  [⟨0x00, .enum, .ro, 0, 0, 0, .iv 0 3, .n 0⟩,
   ⟨0x01, .bool, .rw, 2, 0, 1, .none, .n 0⟩,
   ⟨0x02, .enum, .ro, 0, 0, 0, .iv 0 3, .n 0⟩,
   ⟨0x03, .u32, .ro, 0, 0, 0, .none, .n 0⟩,
   ⟨0x04, .u32, .ro, 0, 0, 0, .none, .n 0⟩,
   ⟨0x05, .enum, .rw, 3, 5, 0, .iv 0 1, .n 1⟩,
   ⟨0x06, .u32, .ro, 0, 0, 0, .none, .n 0⟩,
   ⟨0x07, .oct, .ro, 0, 0, 0, .none, .b []⟩,
   ⟨0x08, .bool, .wo, 3, 0, 0, .none, .n 0⟩]

/-- Table 20.11, Family 1400h, instances 1–2, dies: the object map. -/
def rowsDie : List Desc :=
  [⟨0x00, .u8, .rw, 3, 5, 0, .iv 8 119, .n 0⟩,
   ⟨0x01, .u16, .ro, 0, 0, 0, .none, .n 0⟩,
   ⟨0x02, .u16, .ro, 0, 0, 0, .none, .n 0⟩,
   ⟨0x03, .u16, .rw, 2, 0, 0, .iv 125 200, .n 130⟩,
   ⟨0x04, .u16, .rw, 2, 0, 0, .iv 600 800, .n 600⟩,
   ⟨0x05, .u16, .rw, 2, 0, 0, .iv 600 800, .n 800⟩,
   ⟨0x06, .u16, .ro, 0, 0, 0, .none, .n 0⟩,
   ⟨0x07, .u16, .ro, 0, 0, 0, .none, .n 0⟩,
   ⟨0x08, .s16, .ro, 0, 0, 0, .none, .n 0⟩,
   ⟨0x09, .u16, .ro, 0, 0, 0, .none, .n 0⟩,
   ⟨0x0a, .enum, .ro, 0, 0, 0, .iv 0 3, .n 0⟩]

/-- Table 20.12, Family 1400h, instances 16–28, rails: the object map. -/
def rowsRail : List Desc :=
  [⟨0x00, .u16, .ro, 0, 0, 0, .none, .n 0⟩,
   ⟨0x01, .u16, .ro, 0, 0, 0, .none, .n 0⟩,
   ⟨0x02, .u16, .ro, 0, 0, 0, .none, .n 0⟩,
   ⟨0x03, .enum, .ro, 0, 0, 0, .iv 0 2, .n 0⟩,
   ⟨0x04, .bool, .wo, 1, 0, 0, .none, .n 0⟩]

/-- Table 20.13, Family 1400h, instances 32–47, pace monitors: the object map. -/
def rowsPace : List Desc :=
  [⟨0x00, .u16, .ro, 0, 0, 0, .none, .n 0⟩,
   ⟨0x01, .u16, .ro, 0, 0, 0, .none, .n 0⟩]

end Sys2Proof.Machine
end

