-- ==== Sys2Proof/Machine/FaultTable.lean ====
section
/-! DEFINITION. The fault kinds of the GE1024 with their classes: Table 17.1, and Tables 18.7, 19.8 and 20.2 for the
kinds that it leaves to other chapters (R439, R440, R478, R503, R508). A source number is scope × 128 + kind. -/

namespace Sys2Proof.Machine

/-- One fault kind: its number within its scope, whether its scope is a tile, its class and its name. -/
structure FaultKind where
  kind : Nat
  tile : Bool
  cls : Nat
  name : String
  deriving DecidableEq, Repr

/-- The kinds of tile scope. -/
def tileFaults : List FaultKind :=
  [⟨0, true, 1, "LANE_UNLOCK"⟩,
   ⟨1, true, 0, "LANE_CODE"⟩,
   ⟨2, true, 1, "LANE_REF_MISMATCH"⟩,
   ⟨3, true, 1, "TXPLL_UNLOCK"⟩,
   ⟨4, true, 2, "LREF_LOSS"⟩,
   ⟨8, true, 1, "SDI_LOS"⟩,
   ⟨9, true, 0, "SDI_CRC"⟩,
   ⟨10, true, 0, "PAYLOAD_MISMATCH"⟩,
   ⟨11, true, 1, "LINK_SKEW"⟩,
   ⟨12, true, 0, "ANC_OVERFLOW"⟩,
   ⟨16, true, 1, "ETH_LINK"⟩,
   ⟨17, true, 1, "LEG_DOWN"⟩,
   ⟨18, true, 1, "FLOW_LOS"⟩,
   ⟨19, true, 1, "MERGE_SKEW"⟩,
   ⟨20, true, 0, "MCAST_COMPAT"⟩,
   ⟨32, true, 1, "EDGE_LATE"⟩,
   ⟨33, true, 1, "SOURCE_FORMAT"⟩,
   ⟨34, true, 0, "STORE_UNDERRUN"⟩,
   ⟨35, true, 0, "FABRIC_CORRECTED"⟩,
   ⟨36, true, 1, "FABRIC_DISCARD"⟩,
   ⟨37, true, 0, "TAKE_LATE"⟩,
   ⟨48, true, 1, "LINEBUF_FALLBACK"⟩,
   ⟨49, true, 0, "COMMIT_DROPPED"⟩,
   ⟨50, true, 0, "MIRROR_FLIP_ALONE"⟩,
   ⟨64, true, 0, "AUDIO_SLIP"⟩,
   ⟨65, true, 1, "ASRC_SHORT"⟩,
   ⟨66, true, 0, "LOUDNESS_ALARM"⟩,
   ⟨80, true, 1, "SIG_VIDEO"⟩,
   ⟨81, true, 1, "SIG_AUDIO"⟩,
   ⟨82, true, 1, "LOOPBACK_FAIL"⟩]

/-- The kinds of chip scope. -/
def chipFaults : List FaultKind :=
  [⟨0, false, 1, "PACE_MARGIN"⟩,
   ⟨1, false, 2, "PACE_SHORT"⟩,
   ⟨2, false, 1, "AVS_REGULATOR"⟩,
   ⟨3, false, 3, "CORE_UNDERVOLT"⟩,
   ⟨4, false, 1, "THERMAL_HIGH"⟩,
   ⟨5, false, 3, "JUNCTION_LIMIT"⟩,
   ⟨6, false, 1, "PF_SINGLE"⟩,
   ⟨7, false, 3, "SRAM_UNDERVOLT"⟩,
   ⟨8, false, 2, "LANE_RAIL"⟩,
   ⟨9, false, 2, "HBM_RAIL"⟩,
   ⟨10, false, 2, "IO_RAIL"⟩,
   ⟨11, false, 2, "RAIL_HIGH"⟩,
   ⟨12, false, 0, "BROWNOUT_RECORDED"⟩,
   ⟨13, false, 1, "LULL_WAKE_LATE"⟩,
   ⟨16, false, 3, "FAULT_TREE_CHECK"⟩,
   ⟨17, false, 3, "DISPATCH_CHECK"⟩,
   ⟨18, false, 3, "CONFIG_UNCORRECTED"⟩,
   ⟨19, false, 2, "MGMT_WATCHDOG"⟩,
   ⟨32, false, 0, "HBM_CORRECTED"⟩,
   ⟨33, false, 1, "HBM_UNCORRECTED"⟩,
   ⟨34, false, 2, "HBM_STACK_FAIL"⟩,
   ⟨35, false, 2, "PLANE_EXCLUDED"⟩,
   ⟨36, false, 0, "SRAM_CORRECTED"⟩,
   ⟨37, false, 1, "SRAM_UNCORRECTED"⟩,
   ⟨38, false, 2, "BANK_FAIL"⟩,
   ⟨39, false, 1, "IC_LOCK_CUT"⟩,
   ⟨40, false, 1, "IC_DECODE"⟩,
   ⟨41, false, 2, "IC_TIMEOUT"⟩,
   ⟨48, false, 2, "SALVO_ORPHAN"⟩,
   ⟨49, false, 2, "ROUTE_LOST"⟩] ++
  [⟨56, false, 0, "FW_COPY_RESTARTED"⟩,
   ⟨57, false, 2, "FW_FALLBACK"⟩,
   ⟨58, false, 2, "FW_PROBATION_FAILED"⟩,
   ⟨59, false, 1, "FW_VERSION_MIXED"⟩,
   ⟨60, false, 1, "CARRY_OVER_DAMAGED"⟩,
   ⟨61, false, 0, "SETTINGS_DEFAULTED"⟩,
   ⟨62, false, 2, "FLASH_WRITE"⟩,
   ⟨64, false, 0, "REF_DISQUALIFIED"⟩,
   ⟨65, false, 1, "REF_DRIFTING"⟩,
   ⟨66, false, 1, "RANK_CONFLICT"⟩,
   ⟨67, false, 1, "DPLL_HOLDOVER"⟩,
   ⟨68, false, 1, "DPLL_FREERUN"⟩,
   ⟨69, false, 2, "XO_LOSS"⟩,
   ⟨70, false, 1, "TB_JUMP"⟩,
   ⟨71, false, 1, "PTP_NO_MASTER"⟩,
   ⟨72, false, 0, "TS_OVERFLOW"⟩,
   ⟨73, false, 0, "LAUNCH_LATE"⟩,
   ⟨80, false, 0, "SAP_RATE_CHANGE"⟩,
   ⟨81, false, 1, "SAP_RATE"⟩,
   ⟨82, false, 1, "SAP_CLOCK"⟩,
   ⟨83, false, 1, "AES_LOS"⟩,
   ⟨96, false, 0, "MESH_CRC"⟩,
   ⟨97, false, 1, "MESH_LINK_DOWN"⟩,
   ⟨98, false, 1, "MESH_LINK_LONG"⟩,
   ⟨99, false, 1, "MESH_UNMATCHED"⟩,
   ⟨100, false, 1, "PLAN_CONFLICT"⟩,
   ⟨101, false, 2, "MESH_VERSION"⟩,
   ⟨102, false, 0, "HEAD_CHANGED"⟩,
   ⟨103, false, 2, "DOMAIN_NO_QUORUM"⟩,
   ⟨112, false, 2, "TWIN_SPLIT"⟩,
   ⟨113, false, 1, "TWIN_LINK_LONG"⟩,
   ⟨114, false, 1, "TWIN_LANE_DOWN"⟩,
   ⟨115, false, 2, "TWIN_LINK_DOWN"⟩,
   ⟨116, false, 1, "FAILOVER"⟩,
   ⟨117, false, 2, "BIST_FAIL"⟩,
   ⟨118, false, 2, "STALE"⟩,
   ⟨119, false, 2, "CATCHING_UP"⟩]

/-- The kind of a source number, where Table 17.1 assigns it one (R439). -/
def faultKindOf (src : Nat) : Option FaultKind :=
  if src / 128 ≤ 15 then tileFaults.find? (fun f => f.kind = src % 128)
  else if src / 128 = 16 then chipFaults.find? (fun f => f.kind = src % 128) else none

/-- The class of a source; 0 for a reserved one (R440). -/
def faultClass (src : Nat) : Nat := match faultKindOf src with | some f => f.cls | none => 0

/-! ## Source numbers by name -/

/-- LANE_UNLOCK, class 1 (R439). -/
abbrev F.laneUnlock (tile : Nat) : Nat := tile * 128 + 0
/-- LANE_CODE, class 0 (R439). -/
abbrev F.laneCode (tile : Nat) : Nat := tile * 128 + 1
/-- LANE_REF_MISMATCH, class 1 (R439). -/
abbrev F.laneRefMismatch (tile : Nat) : Nat := tile * 128 + 2
/-- TXPLL_UNLOCK, class 1 (R439). -/
abbrev F.txpllUnlock (tile : Nat) : Nat := tile * 128 + 3
/-- LREF_LOSS, class 2 (R439). -/
abbrev F.lrefLoss (tile : Nat) : Nat := tile * 128 + 4
/-- SDI_LOS, class 1 (R439). -/
abbrev F.sdiLos (tile : Nat) : Nat := tile * 128 + 8
/-- SDI_CRC, class 0 (R439). -/
abbrev F.sdiCrc (tile : Nat) : Nat := tile * 128 + 9
/-- PAYLOAD_MISMATCH, class 0 (R439). -/
abbrev F.payloadMismatch (tile : Nat) : Nat := tile * 128 + 10
/-- LINK_SKEW, class 1 (R439). -/
abbrev F.linkSkew (tile : Nat) : Nat := tile * 128 + 11
/-- ANC_OVERFLOW, class 0 (R439). -/
abbrev F.ancOverflow (tile : Nat) : Nat := tile * 128 + 12
/-- ETH_LINK, class 1 (R439). -/
abbrev F.ethLink (tile : Nat) : Nat := tile * 128 + 16
/-- LEG_DOWN, class 1 (R439). -/
abbrev F.legDown (tile : Nat) : Nat := tile * 128 + 17
/-- FLOW_LOS, class 1 (R439). -/
abbrev F.flowLos (tile : Nat) : Nat := tile * 128 + 18
/-- MERGE_SKEW, class 1 (R439). -/
abbrev F.mergeSkew (tile : Nat) : Nat := tile * 128 + 19
/-- MCAST_COMPAT, class 0 (R439). -/
abbrev F.mcastCompat (tile : Nat) : Nat := tile * 128 + 20
/-- EDGE_LATE, class 1 (R439). -/
abbrev F.edgeLate (tile : Nat) : Nat := tile * 128 + 32
/-- SOURCE_FORMAT, class 1 (R439). -/
abbrev F.sourceFormat (tile : Nat) : Nat := tile * 128 + 33
/-- STORE_UNDERRUN, class 0 (R439). -/
abbrev F.storeUnderrun (tile : Nat) : Nat := tile * 128 + 34
/-- FABRIC_CORRECTED, class 0 (R439). -/
abbrev F.fabricCorrected (tile : Nat) : Nat := tile * 128 + 35
/-- FABRIC_DISCARD, class 1 (R439). -/
abbrev F.fabricDiscard (tile : Nat) : Nat := tile * 128 + 36
/-- TAKE_LATE, class 0 (R439). -/
abbrev F.takeLate (tile : Nat) : Nat := tile * 128 + 37
/-- LINEBUF_FALLBACK, class 1 (R439). -/
abbrev F.linebufFallback (tile : Nat) : Nat := tile * 128 + 48
/-- COMMIT_DROPPED, class 0 (R439). -/
abbrev F.commitDropped (tile : Nat) : Nat := tile * 128 + 49
/-- MIRROR_FLIP_ALONE, class 0 (R439). -/
abbrev F.mirrorFlipAlone (tile : Nat) : Nat := tile * 128 + 50
/-- AUDIO_SLIP, class 0 (R439). -/
abbrev F.audioSlip (tile : Nat) : Nat := tile * 128 + 64
/-- ASRC_SHORT, class 1 (R439). -/
abbrev F.asrcShort (tile : Nat) : Nat := tile * 128 + 65
/-- LOUDNESS_ALARM, class 0 (R439). -/
abbrev F.loudnessAlarm (tile : Nat) : Nat := tile * 128 + 66
/-- SIG_VIDEO, class 1 (R439). -/
abbrev F.sigVideo (tile : Nat) : Nat := tile * 128 + 80
/-- SIG_AUDIO, class 1 (R439). -/
abbrev F.sigAudio (tile : Nat) : Nat := tile * 128 + 81
/-- LOOPBACK_FAIL, class 1 (R439). -/
abbrev F.loopbackFail (tile : Nat) : Nat := tile * 128 + 82
/-- PACE_MARGIN, class 1 (R439). -/
abbrev F.paceMargin : Nat := 2048
/-- PACE_SHORT, class 2 (R439). -/
abbrev F.paceShort : Nat := 2049
/-- AVS_REGULATOR, class 1 (R439). -/
abbrev F.avsRegulator : Nat := 2050
/-- CORE_UNDERVOLT, class 3 (R439). -/
abbrev F.coreUndervolt : Nat := 2051
/-- THERMAL_HIGH, class 1 (R439). -/
abbrev F.thermalHigh : Nat := 2052
/-- JUNCTION_LIMIT, class 3 (R439). -/
abbrev F.junctionLimit : Nat := 2053
/-- PF_SINGLE, class 1 (R439). -/
abbrev F.pfSingle : Nat := 2054
/-- SRAM_UNDERVOLT, class 3 (R439). -/
abbrev F.sramUndervolt : Nat := 2055
/-- LANE_RAIL, class 2 (R439). -/
abbrev F.laneRail : Nat := 2056
/-- HBM_RAIL, class 2 (R439). -/
abbrev F.hbmRail : Nat := 2057
/-- IO_RAIL, class 2 (R439). -/
abbrev F.ioRail : Nat := 2058
/-- RAIL_HIGH, class 2 (R439). -/
abbrev F.railHigh : Nat := 2059
/-- BROWNOUT_RECORDED, class 0 (R439). -/
abbrev F.brownoutRecorded : Nat := 2060
/-- LULL_WAKE_LATE, class 1 (R439). -/
abbrev F.lullWakeLate : Nat := 2061
/-- FAULT_TREE_CHECK, class 3 (R439). -/
abbrev F.faultTreeCheck : Nat := 2064
/-- DISPATCH_CHECK, class 3 (R439). -/
abbrev F.dispatchCheck : Nat := 2065
/-- CONFIG_UNCORRECTED, class 3 (R439). -/
abbrev F.configUncorrected : Nat := 2066
/-- MGMT_WATCHDOG, class 2 (R439). -/
abbrev F.mgmtWatchdog : Nat := 2067
/-- HBM_CORRECTED, class 0 (R439). -/
abbrev F.hbmCorrected : Nat := 2080
/-- HBM_UNCORRECTED, class 1 (R439). -/
abbrev F.hbmUncorrected : Nat := 2081
/-- HBM_STACK_FAIL, class 2 (R439). -/
abbrev F.hbmStackFail : Nat := 2082
/-- PLANE_EXCLUDED, class 2 (R439). -/
abbrev F.planeExcluded : Nat := 2083
/-- SRAM_CORRECTED, class 0 (R439). -/
abbrev F.sramCorrected : Nat := 2084
/-- SRAM_UNCORRECTED, class 1 (R439). -/
abbrev F.sramUncorrected : Nat := 2085
/-- BANK_FAIL, class 2 (R439). -/
abbrev F.bankFail : Nat := 2086
/-- IC_LOCK_CUT, class 1 (R439). -/
abbrev F.icLockCut : Nat := 2087
/-- IC_DECODE, class 1 (R439). -/
abbrev F.icDecode : Nat := 2088
/-- IC_TIMEOUT, class 2 (R439). -/
abbrev F.icTimeout : Nat := 2089
/-- SALVO_ORPHAN, class 2 (R439). -/
abbrev F.salvoOrphan : Nat := 2096
/-- ROUTE_LOST, class 2 (R439). -/
abbrev F.routeLost : Nat := 2097
/-- FW_COPY_RESTARTED, class 0 (R439). -/
abbrev F.fwCopyRestarted : Nat := 2104
/-- FW_FALLBACK, class 2 (R439). -/
abbrev F.fwFallback : Nat := 2105
/-- FW_PROBATION_FAILED, class 2 (R439). -/
abbrev F.fwProbationFailed : Nat := 2106
/-- FW_VERSION_MIXED, class 1 (R439). -/
abbrev F.fwVersionMixed : Nat := 2107
/-- CARRY_OVER_DAMAGED, class 1 (R439). -/
abbrev F.carryOverDamaged : Nat := 2108
/-- SETTINGS_DEFAULTED, class 0 (R439). -/
abbrev F.settingsDefaulted : Nat := 2109
/-- FLASH_WRITE, class 2 (R439). -/
abbrev F.flashWrite : Nat := 2110
/-- REF_DISQUALIFIED, class 0 (R439). -/
abbrev F.refDisqualified : Nat := 2112
/-- REF_DRIFTING, class 1 (R439). -/
abbrev F.refDrifting : Nat := 2113
/-- RANK_CONFLICT, class 1 (R439). -/
abbrev F.rankConflict : Nat := 2114
/-- DPLL_HOLDOVER, class 1 (R439). -/
abbrev F.dpllHoldover : Nat := 2115
/-- DPLL_FREERUN, class 1 (R439). -/
abbrev F.dpllFreerun : Nat := 2116
/-- XO_LOSS, class 2 (R439). -/
abbrev F.xoLoss : Nat := 2117
/-- TB_JUMP, class 1 (R439). -/
abbrev F.tbJump : Nat := 2118
/-- PTP_NO_MASTER, class 1 (R439). -/
abbrev F.ptpNoMaster : Nat := 2119
/-- TS_OVERFLOW, class 0 (R439). -/
abbrev F.tsOverflow : Nat := 2120
/-- LAUNCH_LATE, class 0 (R439). -/
abbrev F.launchLate : Nat := 2121
/-- SAP_RATE_CHANGE, class 0 (R439). -/
abbrev F.sapRateChange : Nat := 2128
/-- SAP_RATE, class 1 (R439). -/
abbrev F.sapRate : Nat := 2129
/-- SAP_CLOCK, class 1 (R439). -/
abbrev F.sapClock : Nat := 2130
/-- AES_LOS, class 1 (R439). -/
abbrev F.aesLos : Nat := 2131
/-- MESH_CRC, class 0 (R439). -/
abbrev F.meshCrc : Nat := 2144
/-- MESH_LINK_DOWN, class 1 (R439). -/
abbrev F.meshLinkDown : Nat := 2145
/-- MESH_LINK_LONG, class 1 (R439). -/
abbrev F.meshLinkLong : Nat := 2146
/-- MESH_UNMATCHED, class 1 (R439). -/
abbrev F.meshUnmatched : Nat := 2147
/-- PLAN_CONFLICT, class 1 (R439). -/
abbrev F.planConflict : Nat := 2148
/-- MESH_VERSION, class 2 (R439). -/
abbrev F.meshVersion : Nat := 2149
/-- HEAD_CHANGED, class 0 (R439). -/
abbrev F.headChanged : Nat := 2150
/-- DOMAIN_NO_QUORUM, class 2 (R439). -/
abbrev F.domainNoQuorum : Nat := 2151
/-- TWIN_SPLIT, class 2 (R439). -/
abbrev F.twinSplit : Nat := 2160
/-- TWIN_LINK_LONG, class 1 (R439). -/
abbrev F.twinLinkLong : Nat := 2161
/-- TWIN_LANE_DOWN, class 1 (R439). -/
abbrev F.twinLaneDown : Nat := 2162
/-- TWIN_LINK_DOWN, class 2 (R439). -/
abbrev F.twinLinkDown : Nat := 2163
/-- FAILOVER, class 1 (R439). -/
abbrev F.failover : Nat := 2164
/-- BIST_FAIL, class 2 (R439). -/
abbrev F.bistFail : Nat := 2165
/-- STALE, class 2 (R439). -/
abbrev F.stale : Nat := 2166
/-- CATCHING_UP, class 2 (R439). -/
abbrev F.catchingUp : Nat := 2167

end Sys2Proof.Machine
end

