-- ==== Sys2Proof/Machine/Names.lean ====
section
/-! DEFINITION. The objects of the Odrath dictionary by name: for every row of every object map of the spec, its
address as `O.<map>_<name>`, with the instance as argument where the map has more than one (R33, R40). -/

namespace Sys2Proof.Machine

abbrev O.id_part_name : Key := ⟨0x1000, 0, 0x00⟩
abbrev O.id_ordering_code : Key := ⟨0x1000, 0, 0x01⟩
abbrev O.id_stepping : Key := ⟨0x1000, 0, 0x02⟩
abbrev O.id_tiles_present : Key := ⟨0x1000, 0, 0x03⟩
abbrev O.id_lanes_present : Key := ⟨0x1000, 0, 0x04⟩
abbrev O.id_serial_number : Key := ⟨0x1000, 0, 0x05⟩
abbrev O.id_chip_id : Key := ⟨0x1000, 0, 0x06⟩
abbrev O.id_pair_role : Key := ⟨0x1000, 0, 0x07⟩
abbrev O.id_manifest_version : Key := ⟨0x1000, 0, 0x08⟩
abbrev O.id_manifest_hash : Key := ⟨0x1000, 0, 0x09⟩
abbrev O.id_odrath_version : Key := ⟨0x1000, 0, 0x0a⟩
abbrev O.id_mesh_version : Key := ⟨0x1000, 0, 0x0b⟩
abbrev O.id_chip_label : Key := ⟨0x1000, 0, 0x0c⟩
abbrev O.sec_boot_epoch : Key := ⟨0x1010, 0, 0x00⟩
abbrev O.sec_sessions_max : Key := ⟨0x1010, 0, 0x01⟩
abbrev O.sec_sessions_open : Key := ⟨0x1010, 0, 0x02⟩
abbrev O.sec_idle_timeout : Key := ⟨0x1010, 0, 0x03⟩
abbrev O.sec_replay_window : Key := ⟨0x1010, 0, 0x04⟩
abbrev O.sec_key_viewer : Key := ⟨0x1010, 0, 0x05⟩
abbrev O.sec_key_operator : Key := ⟨0x1010, 0, 0x06⟩
abbrev O.sec_key_engineer : Key := ⟨0x1010, 0, 0x07⟩
abbrev O.sec_key_maintainer : Key := ⟨0x1010, 0, 0x08⟩
abbrev O.sec_keys_set : Key := ⟨0x1010, 0, 0x09⟩
abbrev O.sec_tag_failures : Key := ⟨0x1010, 0, 0x0a⟩
abbrev O.sec_udp_port : Key := ⟨0x1010, 0, 0x0b⟩
abbrev O.sec_spi_enable : Key := ⟨0x1010, 0, 0x0c⟩
abbrev O.sec_priority_depth : Key := ⟨0x1010, 0, 0x0d⟩
abbrev O.sec_priority_overflows : Key := ⟨0x1010, 0, 0x0e⟩
abbrev O.sec_replay_refusals : Key := ⟨0x1010, 0, 0x0f⟩
abbrev O.slot_session (i : Nat) : Key := ⟨0x1010, i, 0x00⟩
abbrev O.slot_role (i : Nat) : Key := ⟨0x1010, i, 0x01⟩
abbrev O.slot_transport (i : Nat) : Key := ⟨0x1010, i, 0x02⟩
abbrev O.slot_peer_address (i : Nat) : Key := ⟨0x1010, i, 0x03⟩
abbrev O.slot_highest_sequence (i : Nat) : Key := ⟨0x1010, i, 0x04⟩
abbrev O.slot_subscriptions (i : Nat) : Key := ⟨0x1010, i, 0x05⟩
abbrev O.slot_events_lost (i : Nat) : Key := ⟨0x1010, i, 0x06⟩
abbrev O.slot_close (i : Nat) : Key := ⟨0x1010, i, 0x07⟩
abbrev O.src_kind (i : Nat) : Key := ⟨0x3000, i, 0x00⟩
abbrev O.src_label (i : Nat) : Key := ⟨0x3000, i, 0x01⟩
abbrev O.src_format_expected (i : Nat) : Key := ⟨0x3000, i, 0x02⟩
abbrev O.src_format_detected (i : Nat) : Key := ⟨0x3000, i, 0x03⟩
abbrev O.src_timing_state (i : Nat) : Key := ⟨0x3000, i, 0x04⟩
abbrev O.src_measure_tb (i : Nat) : Key := ⟨0x3000, i, 0x05⟩
abbrev O.src_ingress_offset (i : Nat) : Key := ⟨0x3000, i, 0x06⟩
abbrev O.src_frame_count (i : Nat) : Key := ⟨0x3000, i, 0x07⟩
abbrev O.src_fanout (i : Nat) : Key := ⟨0x3000, i, 0x08⟩
abbrev O.src_store_state (i : Nat) : Key := ⟨0x3000, i, 0x09⟩
abbrev O.src_status (i : Nat) : Key := ⟨0x3000, i, 0x0a⟩
abbrev O.src_gen_pattern (i : Nat) : Key := ⟨0x3000, i, 0x0b⟩
abbrev O.src_gen_format (i : Nat) : Key := ⟨0x3000, i, 0x0c⟩
abbrev O.src_gen_tb (i : Nat) : Key := ⟨0x3000, i, 0x0d⟩
abbrev O.src_gen_offset (i : Nat) : Key := ⟨0x3000, i, 0x0e⟩
abbrev O.src_recirc_of (i : Nat) : Key := ⟨0x3000, i, 0x0f⟩
abbrev O.src_recirc_delay (i : Nat) : Key := ⟨0x3000, i, 0x10⟩
abbrev O.src_underruns (i : Nat) : Key := ⟨0x3000, i, 0x11⟩
abbrev O.src_gen_sampling (i : Nat) : Key := ⟨0x3000, i, 0x12⟩
abbrev O.dst_kind (i : Nat) : Key := ⟨0x3100, i, 0x00⟩
abbrev O.dst_label (i : Nat) : Key := ⟨0x3100, i, 0x01⟩
abbrev O.dst_format (i : Nat) : Key := ⟨0x3100, i, 0x02⟩
abbrev O.dst_time_base (i : Nat) : Key := ⟨0x3100, i, 0x03⟩
abbrev O.dst_timing_offset (i : Nat) : Key := ⟨0x3100, i, 0x04⟩
abbrev O.dst_base_delay (i : Nat) : Key := ⟨0x3100, i, 0x05⟩
abbrev O.dst_hop_allowance (i : Nat) : Key := ⟨0x3100, i, 0x06⟩
abbrev O.dst_effective_delay (i : Nat) : Key := ⟨0x3100, i, 0x07⟩
abbrev O.dst_source_now (i : Nat) : Key := ⟨0x3100, i, 0x08⟩
abbrev O.dst_path (i : Nat) : Key := ⟨0x3100, i, 0x09⟩
abbrev O.dst_switch_line (i : Nat) : Key := ⟨0x3100, i, 0x0a⟩
abbrev O.dst_last_switch (i : Nat) : Key := ⟨0x3100, i, 0x0b⟩
abbrev O.dst_safe_content (i : Nat) : Key := ⟨0x3100, i, 0x0c⟩
abbrev O.dst_companion_group (i : Nat) : Key := ⟨0x3100, i, 0x0d⟩
abbrev O.dst_follow_audio_base (i : Nat) : Key := ⟨0x3100, i, 0x0e⟩
abbrev O.dst_follow_audio_mask (i : Nat) : Key := ⟨0x3100, i, 0x0f⟩
abbrev O.dst_follow_audio_first (i : Nat) : Key := ⟨0x3100, i, 0x10⟩
abbrev O.dst_follow_anc_base (i : Nat) : Key := ⟨0x3100, i, 0x11⟩
abbrev O.dst_follow_anc_mask (i : Nat) : Key := ⟨0x3100, i, 0x12⟩
abbrev O.dst_late_lines (i : Nat) : Key := ⟨0x3100, i, 0x13⟩
abbrev O.dst_underruns (i : Nat) : Key := ⟨0x3100, i, 0x14⟩
abbrev O.dst_status (i : Nat) : Key := ⟨0x3100, i, 0x15⟩
abbrev O.takes_slots : Key := ⟨0x3200, 0, 0x00⟩
abbrev O.takes_pending : Key := ⟨0x3200, 0, 0x01⟩
abbrev O.takes_takes_accepted : Key := ⟨0x3200, 0, 0x02⟩
abbrev O.takes_takes_late : Key := ⟨0x3200, 0, 0x03⟩
abbrev O.takes_priority_takes : Key := ⟨0x3200, 0, 0x04⟩
abbrev O.takes_timed_horizon : Key := ⟨0x3200, 0, 0x05⟩
abbrev O.take_state (i : Nat) : Key := ⟨0x3200, i, 0x00⟩
abbrev O.take_destination (i : Nat) : Key := ⟨0x3200, i, 0x01⟩
abbrev O.take_source (i : Nat) : Key := ⟨0x3200, i, 0x02⟩
abbrev O.take_mode (i : Nat) : Key := ⟨0x3200, i, 0x03⟩
abbrev O.take_tag (i : Nat) : Key := ⟨0x3200, i, 0x04⟩
abbrev O.take_session (i : Nat) : Key := ⟨0x3200, i, 0x05⟩
abbrev O.take_accepted_at (i : Nat) : Key := ⟨0x3200, i, 0x06⟩
abbrev O.take_instant (i : Nat) : Key := ⟨0x3200, i, 0x07⟩
abbrev O.take_switched_at (i : Nat) : Key := ⟨0x3200, i, 0x08⟩
abbrev O.take_result (i : Nat) : Key := ⟨0x3200, i, 0x09⟩
abbrev O.take_late_frames (i : Nat) : Key := ⟨0x3200, i, 0x0a⟩
abbrev O.take_flags (i : Nat) : Key := ⟨0x3200, i, 0x0b⟩
abbrev O.take_cancel (i : Nat) : Key := ⟨0x3200, i, 0x0c⟩
abbrev O.salvos_slots : Key := ⟨0x3300, 0, 0x00⟩
abbrev O.salvos_pour_lead_default : Key := ⟨0x3300, 0, 0x01⟩
abbrev O.salvos_open_salvos : Key := ⟨0x3300, 0, 0x02⟩
abbrev O.salvos_parts_held : Key := ⟨0x3300, 0, 0x03⟩
abbrev O.salvos_poured : Key := ⟨0x3300, 0, 0x04⟩
abbrev O.salvos_dropped : Key := ⟨0x3300, 0, 0x05⟩
abbrev O.salvo_state (i : Nat) : Key := ⟨0x3300, i, 0x00⟩
abbrev O.salvo_generation (i : Nat) : Key := ⟨0x3300, i, 0x01⟩
abbrev O.salvo_label (i : Nat) : Key := ⟨0x3300, i, 0x02⟩
abbrev O.salvo_take_list (i : Nat) : Key := ⟨0x3300, i, 0x03⟩
abbrev O.salvo_take_count (i : Nat) : Key := ⟨0x3300, i, 0x04⟩
abbrev O.salvo_time_base (i : Nat) : Key := ⟨0x3300, i, 0x05⟩
abbrev O.salvo_execution_time (i : Nat) : Key := ⟨0x3300, i, 0x06⟩
abbrev O.salvo_pour_instant (i : Nat) : Key := ⟨0x3300, i, 0x07⟩
abbrev O.salvo_pour_lead (i : Nat) : Key := ⟨0x3300, i, 0x08⟩
abbrev O.salvo_members (i : Nat) : Key := ⟨0x3300, i, 0x09⟩
abbrev O.salvo_refusal (i : Nat) : Key := ⟨0x3300, i, 0x0a⟩
abbrev O.salvo_refusal_index (i : Nat) : Key := ⟨0x3300, i, 0x0b⟩
abbrev O.salvo_drop_cause (i : Nat) : Key := ⟨0x3300, i, 0x0c⟩
abbrev O.salvo_results (i : Nat) : Key := ⟨0x3300, i, 0x0d⟩
abbrev O.salvo_flags (i : Nat) : Key := ⟨0x3300, i, 0x0e⟩
abbrev O.salvo_prepare_time (i : Nat) : Key := ⟨0x3300, i, 0x0f⟩
abbrev O.salvo_release (i : Nat) : Key := ⟨0x3300, i, 0x10⟩
abbrev O.placer_state : Key := ⟨0x3400, 0, 0x00⟩
abbrev O.placer_queue : Key := ⟨0x3400, 0, 0x01⟩
abbrev O.placer_placements : Key := ⟨0x3400, 0, 0x02⟩
abbrev O.placer_refusals : Key := ⟨0x3400, 0, 0x03⟩
abbrev O.placer_last_refusal : Key := ⟨0x3400, 0, 0x04⟩
abbrev O.placer_last_detail : Key := ⟨0x3400, 0, 0x05⟩
abbrev O.placer_last_refused_dest : Key := ⟨0x3400, 0, 0x06⟩
abbrev O.placer_replacements : Key := ⟨0x3400, 0, 0x07⟩
abbrev O.placer_w_hop : Key := ⟨0x3400, 0, 0x08⟩
abbrev O.placer_w_move : Key := ⟨0x3400, 0, 0x09⟩
abbrev O.placer_w_sync : Key := ⟨0x3400, 0, 0x0a⟩
abbrev O.placer_w_plane : Key := ⟨0x3400, 0, 0x0b⟩
abbrev O.placer_w_link : Key := ⟨0x3400, 0, 0x0c⟩
abbrev O.placer_w_hbm : Key := ⟨0x3400, 0, 0x0d⟩
abbrev O.placer_w_far : Key := ⟨0x3400, 0, 0x0e⟩
abbrev O.placer_w_die : Key := ⟨0x3400, 0, 0x0f⟩
abbrev O.placer_rebalance_moves : Key := ⟨0x3400, 0, 0x10⟩
abbrev O.placer_mesh_reserve : Key := ⟨0x3400, 0, 0x11⟩
abbrev O.placer_reoptimise : Key := ⟨0x3400, 0, 0x12⟩
abbrev O.placer_snapshot : Key := ⟨0x3400, 0, 0x13⟩
abbrev O.placer_tables_version : Key := ⟨0x3400, 0, 0x14⟩
abbrev O.placer_mesh_ledger : Key := ⟨0x3400, 0, 0x15⟩
abbrev O.placer_unplaced : Key := ⟨0x3400, 0, 0x16⟩
abbrev O.plane_state (i : Nat) : Key := ⟨0x3400, i, 0x00⟩
abbrev O.plane_in_booked (i : Nat) : Key := ⟨0x3400, i, 0x01⟩
abbrev O.plane_out_booked (i : Nat) : Key := ⟨0x3400, i, 0x02⟩
abbrev O.plane_peak (i : Nat) : Key := ⟨0x3400, i, 0x03⟩
abbrev O.plane_stripes (i : Nat) : Key := ⟨0x3400, i, 0x04⟩
abbrev O.stackLed_die (i : Nat) : Key := ⟨0x3400, i, 0x00⟩
abbrev O.stackLed_bw_bookable (i : Nat) : Key := ⟨0x3400, i, 0x01⟩
abbrev O.stackLed_bw_booked (i : Nat) : Key := ⟨0x3400, i, 0x02⟩
abbrev O.stackLed_space_booked (i : Nat) : Key := ⟨0x3400, i, 0x03⟩
abbrev O.stackLed_stores (i : Nat) : Key := ⟨0x3400, i, 0x04⟩
abbrev O.stackLed_state (i : Nat) : Key := ⟨0x3400, i, 0x05⟩
abbrev O.pool_capacity (i : Nat) : Key := ⟨0x3400, i, 0x00⟩
abbrev O.pool_booked (i : Nat) : Key := ⟨0x3400, i, 0x01⟩
abbrev O.pool_users (i : Nat) : Key := ⟨0x3400, i, 0x02⟩
abbrev O.hint_enable (i : Nat) : Key := ⟨0x3400, i, 0x00⟩
abbrev O.hint_subject (i : Nat) : Key := ⟨0x3400, i, 0x01⟩
abbrev O.hint_kind (i : Nat) : Key := ⟨0x3400, i, 0x02⟩
abbrev O.hint_action (i : Nat) : Key := ⟨0x3400, i, 0x03⟩
abbrev O.hint_value (i : Nat) : Key := ⟨0x3400, i, 0x04⟩
abbrev O.hint_weight (i : Nat) : Key := ⟨0x3400, i, 0x05⟩
abbrev O.hint_state (i : Nat) : Key := ⟨0x3400, i, 0x06⟩
abbrev O.hint_label (i : Nat) : Key := ⟨0x3400, i, 0x07⟩
abbrev O.fsync_guard : Key := ⟨0x3500, 0, 0x00⟩
abbrev O.fsync_hysteresis : Key := ⟨0x3500, 0, 0x01⟩
abbrev O.fsync_crossfade : Key := ⟨0x3500, 0, 0x02⟩
abbrev O.fsync_loss_action : Key := ⟨0x3500, 0, 0x03⟩
abbrev O.fsync_stores_max : Key := ⟨0x3500, 0, 0x04⟩
abbrev O.fsync_stores : Key := ⟨0x3500, 0, 0x05⟩
abbrev O.fsd_programme_delay (i : Nat) : Key := ⟨0x3500, i, 0x00⟩
abbrev O.fsd_store (i : Nat) : Key := ⟨0x3500, i, 0x01⟩
abbrev O.fsd_latency (i : Nat) : Key := ⟨0x3500, i, 0x02⟩
abbrev O.fsd_drops (i : Nat) : Key := ⟨0x3500, i, 0x03⟩
abbrev O.fsd_repeats (i : Nat) : Key := ⟨0x3500, i, 0x04⟩
abbrev O.fsd_data_adjusts (i : Nat) : Key := ⟨0x3500, i, 0x05⟩
abbrev O.fsd_last_adjust (i : Nat) : Key := ⟨0x3500, i, 0x06⟩
abbrev O.store_state (i : Nat) : Key := ⟨0x3500, i, 0x00⟩
abbrev O.store_purpose (i : Nat) : Key := ⟨0x3500, i, 0x01⟩
abbrev O.store_source (i : Nat) : Key := ⟨0x3500, i, 0x02⟩
abbrev O.store_format (i : Nat) : Key := ⟨0x3500, i, 0x03⟩
abbrev O.store_stack (i : Nat) : Key := ⟨0x3500, i, 0x04⟩
abbrev O.store_depth (i : Nat) : Key := ⟨0x3500, i, 0x05⟩
abbrev O.store_readers (i : Nat) : Key := ⟨0x3500, i, 0x06⟩
abbrev O.store_space (i : Nat) : Key := ⟨0x3500, i, 0x07⟩
abbrev O.store_bw_booked (i : Nat) : Key := ⟨0x3500, i, 0x08⟩
abbrev O.store_frames_written (i : Nat) : Key := ⟨0x3500, i, 0x09⟩
abbrev O.hbm_state (i : Nat) : Key := ⟨0x6200, i, 0x00⟩
abbrev O.hbm_die (i : Nat) : Key := ⟨0x6200, i, 0x01⟩
abbrev O.hbm_capacity (i : Nat) : Key := ⟨0x6200, i, 0x02⟩
abbrev O.hbm_temperature (i : Nat) : Key := ⟨0x6200, i, 0x03⟩
abbrev O.hbm_refresh_mode (i : Nat) : Key := ⟨0x6200, i, 0x04⟩
abbrev O.hbm_corrected (i : Nat) : Key := ⟨0x6200, i, 0x05⟩
abbrev O.hbm_uncorrected (i : Nat) : Key := ⟨0x6200, i, 0x06⟩
abbrev O.hbm_scrub_period (i : Nat) : Key := ⟨0x6200, i, 0x07⟩
abbrev O.hbm_scrub_progress (i : Nat) : Key := ⟨0x6200, i, 0x08⟩
abbrev O.hbm_uncorrected_limit (i : Nat) : Key := ⟨0x6200, i, 0x09⟩
abbrev O.hbm_first_uncorrected (i : Nat) : Key := ⟨0x6200, i, 0x0a⟩
abbrev O.hbm_bw_measured (i : Nat) : Key := ⟨0x6200, i, 0x0b⟩
abbrev O.sdi_rx_mode (i : Nat) : Key := ⟨0x3600, i, 0x00⟩
abbrev O.sdi_rx_state (i : Nat) : Key := ⟨0x3600, i, 0x01⟩
abbrev O.sdi_rx_payload_id (i : Nat) : Key := ⟨0x3600, i, 0x02⟩
abbrev O.sdi_rx_division (i : Nat) : Key := ⟨0x3600, i, 0x03⟩
abbrev O.sdi_rx_sampling (i : Nat) : Key := ⟨0x3600, i, 0x04⟩
abbrev O.sdi_crc_errors (i : Nat) : Key := ⟨0x3600, i, 0x05⟩
abbrev O.sdi_edh_ap_errors (i : Nat) : Key := ⟨0x3600, i, 0x06⟩
abbrev O.sdi_edh_ff_errors (i : Nat) : Key := ⟨0x3600, i, 0x07⟩
abbrev O.sdi_trs_errors (i : Nat) : Key := ⟨0x3600, i, 0x08⟩
abbrev O.sdi_errored_seconds (i : Nat) : Key := ⟨0x3600, i, 0x09⟩
abbrev O.sdi_tx_level (i : Nat) : Key := ⟨0x3600, i, 0x0a⟩
abbrev O.sdi_division (i : Nat) : Key := ⟨0x3600, i, 0x0b⟩
abbrev O.sdi_tx_sampling (i : Nat) : Key := ⟨0x3600, i, 0x0c⟩
abbrev O.sdi_quad_rate (i : Nat) : Key := ⟨0x3600, i, 0x0d⟩
abbrev O.sdi_edh_insert (i : Nat) : Key := ⟨0x3600, i, 0x0e⟩
abbrev O.sdi_payload_id_mode (i : Nat) : Key := ⟨0x3600, i, 0x0f⟩
abbrev O.sdi_tc_mode (i : Nat) : Key := ⟨0x3600, i, 0x10⟩
abbrev O.sdi_tc_offset (i : Nat) : Key := ⟨0x3600, i, 0x11⟩
abbrev O.sdi_tc_drop (i : Nat) : Key := ⟨0x3600, i, 0x12⟩
abbrev O.sdi_audio_groups (i : Nat) : Key := ⟨0x3600, i, 0x13⟩
abbrev O.sdi_audio_present (i : Nat) : Key := ⟨0x3600, i, 0x14⟩
abbrev O.sdi_unrouted_content (i : Nat) : Key := ⟨0x3600, i, 0x15⟩
abbrev O.sdi_status (i : Nat) : Key := ⟨0x3600, i, 0x16⟩
abbrev O.sdi_link_skew (i : Nat) : Key := ⟨0x3600, i, 0x17⟩
abbrev O.sdi_rx_mode_expected (i : Nat) : Key := ⟨0x3600, i, 0x18⟩
abbrev O.sdi_skew_limit (i : Nat) : Key := ⟨0x3600, i, 0x19⟩
abbrev O.sdi_payload_substitutions (i : Nat) : Key := ⟨0x3600, i, 0x1a⟩
abbrev O.sdi_tx_mode (i : Nat) : Key := ⟨0x3600, i, 0x1b⟩
abbrev O.sdi_tc_read (i : Nat) : Key := ⟨0x3600, i, 0x1c⟩
abbrev O.ancx_port (i : Nat) : Key := ⟨0x7000, i, 0x00⟩
abbrev O.ancx_did (i : Nat) : Key := ⟨0x7000, i, 0x01⟩
abbrev O.ancx_sdid (i : Nat) : Key := ⟨0x7000, i, 0x02⟩
abbrev O.ancx_mask (i : Nat) : Key := ⟨0x7000, i, 0x03⟩
abbrev O.ancx_space (i : Nat) : Key := ⟨0x7000, i, 0x04⟩
abbrev O.ancx_line_first (i : Nat) : Key := ⟨0x7000, i, 0x05⟩
abbrev O.ancx_line_last (i : Nat) : Key := ⟨0x7000, i, 0x06⟩
abbrev O.ancx_stream (i : Nat) : Key := ⟨0x7000, i, 0x07⟩
abbrev O.ancx_link (i : Nat) : Key := ⟨0x7000, i, 0x08⟩
abbrev O.ancx_packets (i : Nat) : Key := ⟨0x7000, i, 0x09⟩
abbrev O.ancx_checksum_errors (i : Nat) : Key := ⟨0x7000, i, 0x0a⟩
abbrev O.anci_port (i : Nat) : Key := ⟨0x7000, i, 0x00⟩
abbrev O.anci_space (i : Nat) : Key := ⟨0x7000, i, 0x01⟩
abbrev O.anci_line (i : Nat) : Key := ⟨0x7000, i, 0x02⟩
abbrev O.anci_line_span (i : Nat) : Key := ⟨0x7000, i, 0x03⟩
abbrev O.anci_stream (i : Nat) : Key := ⟨0x7000, i, 0x04⟩
abbrev O.anci_link (i : Nat) : Key := ⟨0x7000, i, 0x05⟩
abbrev O.anci_packets (i : Nat) : Key := ⟨0x7000, i, 0x06⟩
abbrev O.anci_overflows (i : Nat) : Key := ⟨0x7000, i, 0x07⟩
abbrev O.pk_network_allowance : Key := ⟨0x3700, 0, 0x00⟩
abbrev O.pk_report_interval : Key := ⟨0x3700, 0, 0x01⟩
abbrev O.pk_robustness : Key := ⟨0x3700, 0, 0x02⟩
abbrev O.pk_leave_hold : Key := ⟨0x3700, 0, 0x03⟩
abbrev O.pk_flows_enabled : Key := ⟨0x3700, 0, 0x04⟩
abbrev O.pk_audio_launch_lead : Key := ⟨0x3700, 0, 0x05⟩
abbrev O.pk_rejected_packets : Key := ⟨0x3700, 0, 0x06⟩
abbrev O.pk_leg_mismatches : Key := ⟨0x3700, 0, 0x07⟩
abbrev O.pk_nmos_enable : Key := ⟨0x3700, 0, 0x08⟩
abbrev O.pk_nmos_port : Key := ⟨0x3700, 0, 0x09⟩
abbrev O.pk_nmos_registry : Key := ⟨0x3700, 0, 0x0a⟩
abbrev O.pk_nmos_write : Key := ⟨0x3700, 0, 0x0b⟩
abbrev O.pk_nmos_state : Key := ⟨0x3700, 0, 0x0c⟩
abbrev O.eth_mac (i : Nat) : Key := ⟨0x3700, i, 0x00⟩
abbrev O.eth_ipv4_address (i : Nat) : Key := ⟨0x3700, i, 0x01⟩
abbrev O.eth_ipv4_prefix (i : Nat) : Key := ⟨0x3700, i, 0x02⟩
abbrev O.eth_ipv4_gateway (i : Nat) : Key := ⟨0x3700, i, 0x03⟩
abbrev O.eth_ipv6_address (i : Nat) : Key := ⟨0x3700, i, 0x04⟩
abbrev O.eth_ipv6_prefix (i : Nat) : Key := ⟨0x3700, i, 0x05⟩
abbrev O.eth_vlan (i : Nat) : Key := ⟨0x3700, i, 0x06⟩
abbrev O.eth_fec (i : Nat) : Key := ⟨0x3700, i, 0x07⟩
abbrev O.eth_link_state (i : Nat) : Key := ⟨0x3700, i, 0x08⟩
abbrev O.eth_tx_budget (i : Nat) : Key := ⟨0x3700, i, 0x09⟩
abbrev O.eth_tx_booked (i : Nat) : Key := ⟨0x3700, i, 0x0a⟩
abbrev O.eth_rx_frames (i : Nat) : Key := ⟨0x3700, i, 0x0b⟩
abbrev O.eth_rx_fcs_errors (i : Nat) : Key := ⟨0x3700, i, 0x0c⟩
abbrev O.eth_tx_frames (i : Nat) : Key := ⟨0x3700, i, 0x0d⟩
abbrev O.eth_igmp_querier (i : Nat) : Key := ⟨0x3700, i, 0x0e⟩
abbrev O.eth_mld_querier (i : Nat) : Key := ⟨0x3700, i, 0x0f⟩
abbrev O.flow_enable (f i : Nat) : Key := ⟨f, i, 0x00⟩
abbrev O.flow_group (f i : Nat) : Key := ⟨f, i, 0x01⟩
abbrev O.flow_a_port (f i : Nat) : Key := ⟨f, i, 0x02⟩
abbrev O.flow_a_address (f i : Nat) : Key := ⟨f, i, 0x03⟩
abbrev O.flow_a_udp (f i : Nat) : Key := ⟨f, i, 0x04⟩
abbrev O.flow_a_source (f i : Nat) : Key := ⟨f, i, 0x05⟩
abbrev O.flow_b_port (f i : Nat) : Key := ⟨f, i, 0x06⟩
abbrev O.flow_b_address (f i : Nat) : Key := ⟨f, i, 0x07⟩
abbrev O.flow_b_udp (f i : Nat) : Key := ⟨f, i, 0x08⟩
abbrev O.flow_b_source (f i : Nat) : Key := ⟨f, i, 0x09⟩
abbrev O.flow_payload_type (f i : Nat) : Key := ⟨f, i, 0x0a⟩
abbrev O.flow_ssrc (f i : Nat) : Key := ⟨f, i, 0x0b⟩
abbrev O.flow_dscp (f i : Nat) : Key := ⟨f, i, 0x0c⟩
abbrev O.flow_state (f i : Nat) : Key := ⟨f, i, 0x0d⟩
abbrev O.flow_join_mode (f i : Nat) : Key := ⟨f, i, 0x0e⟩
abbrev O.flow_merge_window (f i : Nat) : Key := ⟨f, i, 0x18⟩
abbrev O.flow_a_received (f i : Nat) : Key := ⟨f, i, 0x19⟩
abbrev O.flow_b_received (f i : Nat) : Key := ⟨f, i, 0x1a⟩
abbrev O.flow_lost (f i : Nat) : Key := ⟨f, i, 0x1b⟩
abbrev O.flow_late (f i : Nat) : Key := ⟨f, i, 0x1c⟩
abbrev O.flow_path_diff (f i : Nat) : Key := ⟨f, i, 0x1d⟩
abbrev O.flow_path_diff_max (f i : Nat) : Key := ⟨f, i, 0x1e⟩
abbrev O.flow_clear (f i : Nat) : Key := ⟨f, i, 0x1f⟩
abbrev O.grp_enable (i : Nat) : Key := ⟨0x3700, i, 0x00⟩
abbrev O.grp_members (i : Nat) : Key := ⟨0x3700, i, 0x01⟩
abbrev O.grp_division (i : Nat) : Key := ⟨0x3700, i, 0x02⟩
abbrev O.grp_release_offset (i : Nat) : Key := ⟨0x3700, i, 0x03⟩
abbrev O.grp_release_now (i : Nat) : Key := ⟨0x3700, i, 0x04⟩
abbrev O.grp_tro_mode (i : Nat) : Key := ⟨0x3700, i, 0x05⟩
abbrev O.grp_tro_explicit (i : Nat) : Key := ⟨0x3700, i, 0x06⟩
abbrev O.grp_tro_now (i : Nat) : Key := ⟨0x3700, i, 0x07⟩
abbrev O.grp_active_start (i : Nat) : Key := ⟨0x3700, i, 0x08⟩
abbrev O.grp_sdp (i : Nat) : Key := ⟨0x3700, i, 0x09⟩
abbrev O.grp_underruns (i : Nat) : Key := ⟨0x3700, i, 0x0a⟩
abbrev O.vflow_sampling (f i : Nat) : Key := ⟨f, i, 0x10⟩
abbrev O.vflow_colorimetry (f i : Nat) : Key := ⟨f, i, 0x11⟩
abbrev O.vflow_tcs (f i : Nat) : Key := ⟨f, i, 0x12⟩
abbrev O.vflow_packing (f i : Nat) : Key := ⟨f, i, 0x13⟩
abbrev O.vflow_sender_type (f i : Nat) : Key := ⟨f, i, 0x14⟩
abbrev O.vflow_sub_image (f i : Nat) : Key := ⟨f, i, 0x15⟩
abbrev O.vflow_packets_per_frame (f i : Nat) : Key := ⟨f, i, 0x16⟩
abbrev O.vflow_wire_rate (f i : Nat) : Key := ⟨f, i, 0x17⟩
abbrev O.vflow_cmax (f i : Nat) : Key := ⟨f, i, 0x20⟩
abbrev O.vflow_vrx_full (f i : Nat) : Key := ⟨f, i, 0x21⟩
abbrev O.aflow_encoding (f i : Nat) : Key := ⟨f, i, 0x10⟩
abbrev O.aflow_channels (f i : Nat) : Key := ⟨f, i, 0x11⟩
abbrev O.aflow_sample_rate (f i : Nat) : Key := ⟨f, i, 0x12⟩
abbrev O.aflow_packet_time (f i : Nat) : Key := ⟨f, i, 0x13⟩
abbrev O.aflow_channel_base (f i : Nat) : Key := ⟨f, i, 0x14⟩
abbrev O.aflow_release_offset (f i : Nat) : Key := ⟨f, i, 0x15⟩
abbrev O.head_class (i : Nat) : Key := ⟨0x3800, i, 0x00⟩
abbrev O.head_label (i : Nat) : Key := ⟨0x3800, i, 0x01⟩
abbrev O.head_format (i : Nat) : Key := ⟨0x3800, i, 0x02⟩
abbrev O.head_time_base (i : Nat) : Key := ⟨0x3800, i, 0x03⟩
abbrev O.head_timing_offset (i : Nat) : Key := ⟨0x3800, i, 0x04⟩
abbrev O.head_head_lead (i : Nat) : Key := ⟨0x3800, i, 0x05⟩
abbrev O.head_out_port (i : Nat) : Key := ⟨0x3800, i, 0x06⟩
abbrev O.head_sampling (i : Nat) : Key := ⟨0x3800, i, 0x07⟩
abbrev O.head_colorimetry (i : Nat) : Key := ⟨0x3800, i, 0x08⟩
abbrev O.head_background (i : Nat) : Key := ⟨0x3800, i, 0x09⟩
abbrev O.head_audio_layer (i : Nat) : Key := ⟨0x3800, i, 0x0a⟩
abbrev O.head_layers (i : Nat) : Key := ⟨0x3800, i, 0x0b⟩
abbrev O.head_state (i : Nat) : Key := ⟨0x3800, i, 0x0c⟩
abbrev O.head_frames (i : Nat) : Key := ⟨0x3800, i, 0x0d⟩
abbrev O.layer_head (i : Nat) : Key := ⟨0x3900, i, 0x00⟩
abbrev O.layer_z (i : Nat) : Key := ⟨0x3900, i, 0x01⟩
abbrev O.layer_content (i : Nat) : Key := ⟨0x3900, i, 0x02⟩
abbrev O.layer_scaler (i : Nat) : Key := ⟨0x3900, i, 0x03⟩
abbrev O.layer_x (i : Nat) : Key := ⟨0x3900, i, 0x04⟩
abbrev O.layer_y (i : Nat) : Key := ⟨0x3900, i, 0x05⟩
abbrev O.layer_width (i : Nat) : Key := ⟨0x3900, i, 0x06⟩
abbrev O.layer_height (i : Nat) : Key := ⟨0x3900, i, 0x07⟩
abbrev O.layer_blend (i : Nat) : Key := ⟨0x3900, i, 0x08⟩
abbrev O.layer_opacity (i : Nat) : Key := ⟨0x3900, i, 0x09⟩
abbrev O.layer_key_low (i : Nat) : Key := ⟨0x3900, i, 0x0a⟩
abbrev O.layer_key_high (i : Nat) : Key := ⟨0x3900, i, 0x0b⟩
abbrev O.layer_key_invert (i : Nat) : Key := ⟨0x3900, i, 0x0c⟩
abbrev O.layer_colour (i : Nat) : Key := ⟨0x3900, i, 0x0d⟩
abbrev O.layer_fallback (i : Nat) : Key := ⟨0x3900, i, 0x0e⟩
abbrev O.layer_visible (i : Nat) : Key := ⟨0x3900, i, 0x0f⟩
abbrev O.layer_commit_mode (i : Nat) : Key := ⟨0x3900, i, 0x10⟩
abbrev O.layer_group (i : Nat) : Key := ⟨0x3900, i, 0x11⟩
abbrev O.layer_fence (i : Nat) : Key := ⟨0x3900, i, 0x12⟩
abbrev O.layer_fence_value (i : Nat) : Key := ⟨0x3900, i, 0x13⟩
abbrev O.layer_commit (i : Nat) : Key := ⟨0x3900, i, 0x14⟩
abbrev O.layer_image (i : Nat) : Key := ⟨0x3900, i, 0x15⟩
abbrev O.layer_elements (i : Nat) : Key := ⟨0x3900, i, 0x16⟩
abbrev O.layer_owner (i : Nat) : Key := ⟨0x3900, i, 0x17⟩
abbrev O.layer_owner_session (i : Nat) : Key := ⟨0x3900, i, 0x18⟩
abbrev O.layer_claim (i : Nat) : Key := ⟨0x3900, i, 0x19⟩
abbrev O.layer_mirror (i : Nat) : Key := ⟨0x3900, i, 0x1a⟩
abbrev O.layer_state (i : Nat) : Key := ⟨0x3900, i, 0x1b⟩
abbrev O.layer_in_force (i : Nat) : Key := ⟨0x3900, i, 0x1c⟩
abbrev O.layer_flips (i : Nat) : Key := ⟨0x3900, i, 0x1d⟩
abbrev O.layer_steeped_frames (i : Nat) : Key := ⟨0x3900, i, 0x1e⟩
abbrev O.layer_label (i : Nat) : Key := ⟨0x3900, i, 0x1f⟩
abbrev O.cgroup_head (i : Nat) : Key := ⟨0x3900, i, 0x00⟩
abbrev O.cgroup_members (i : Nat) : Key := ⟨0x3900, i, 0x01⟩
abbrev O.cgroup_commit (i : Nat) : Key := ⟨0x3900, i, 0x02⟩
abbrev O.cgroup_timeout (i : Nat) : Key := ⟨0x3900, i, 0x03⟩
abbrev O.cgroup_state (i : Nat) : Key := ⟨0x3900, i, 0x04⟩
abbrev O.cgroup_flips (i : Nat) : Key := ⟨0x3900, i, 0x05⟩
abbrev O.cgroup_drops (i : Nat) : Key := ⟨0x3900, i, 0x06⟩
abbrev O.scaler_crop_x (i : Nat) : Key := ⟨0x3a00, i, 0x00⟩
abbrev O.scaler_crop_y (i : Nat) : Key := ⟨0x3a00, i, 0x01⟩
abbrev O.scaler_crop_width (i : Nat) : Key := ⟨0x3a00, i, 0x02⟩
abbrev O.scaler_crop_height (i : Nat) : Key := ⟨0x3a00, i, 0x03⟩
abbrev O.scaler_out_width (i : Nat) : Key := ⟨0x3a00, i, 0x04⟩
abbrev O.scaler_out_height (i : Nat) : Key := ⟨0x3a00, i, 0x05⟩
abbrev O.scaler_taps (i : Nat) : Key := ⟨0x3a00, i, 0x06⟩
abbrev O.scaler_pair_with (i : Nat) : Key := ⟨0x3a00, i, 0x07⟩
abbrev O.scaler_need (i : Nat) : Key := ⟨0x3a00, i, 0x08⟩
abbrev O.scaler_allocation (i : Nat) : Key := ⟨0x3a00, i, 0x09⟩
abbrev O.scaler_state (i : Nat) : Key := ⟨0x3a00, i, 0x0a⟩
abbrev O.scaler_frames_written (i : Nat) : Key := ⟨0x3a00, i, 0x0b⟩
abbrev O.scaler_frames_passed (i : Nat) : Key := ⟨0x3a00, i, 0x0c⟩
abbrev O.scaler_fallbacks (i : Nat) : Key := ⟨0x3a00, i, 0x0d⟩
abbrev O.fence_value (i : Nat) : Key := ⟨0x3b00, i, 0x00⟩
abbrev O.fence_waiters (i : Nat) : Key := ⟨0x3b00, i, 0x01⟩
abbrev O.fence_reset (i : Nat) : Key := ⟨0x3b00, i, 0x02⟩
abbrev O.fence_label (i : Nat) : Key := ⟨0x3b00, i, 0x03⟩
abbrev O.asource_kind (i : Nat) : Key := ⟨0x4000, i, 0x00⟩
abbrev O.asource_label (i : Nat) : Key := ⟨0x4000, i, 0x01⟩
abbrev O.asource_present (i : Nat) : Key := ⟨0x4000, i, 0x02⟩
abbrev O.asource_rate (i : Nat) : Key := ⟨0x4000, i, 0x03⟩
abbrev O.asource_clock_domain (i : Nat) : Key := ⟨0x4000, i, 0x04⟩
abbrev O.asource_non_pcm (i : Nat) : Key := ⟨0x4000, i, 0x05⟩
abbrev O.asource_pcm_override (i : Nat) : Key := ⟨0x4000, i, 0x06⟩
abbrev O.asource_peak (i : Nat) : Key := ⟨0x4000, i, 0x07⟩
abbrev O.asource_fanout (i : Nat) : Key := ⟨0x4000, i, 0x08⟩
abbrev O.asource_channel_status (i : Nat) : Key := ⟨0x4000, i, 0x09⟩
abbrev O.asource_gen_kind (i : Nat) : Key := ⟨0x4000, i, 0x0a⟩
abbrev O.asource_gen_frequency (i : Nat) : Key := ⟨0x4000, i, 0x0b⟩
abbrev O.asource_gen_level (i : Nat) : Key := ⟨0x4000, i, 0x0c⟩
abbrev O.asource_gen_rate (i : Nat) : Key := ⟨0x4000, i, 0x0d⟩
abbrev O.asource_gen_dpll (i : Nat) : Key := ⟨0x4000, i, 0x0e⟩
abbrev O.adest_kind (i : Nat) : Key := ⟨0x4100, i, 0x00⟩
abbrev O.adest_label (i : Nat) : Key := ⟨0x4100, i, 0x01⟩
abbrev O.adest_source_now (i : Nat) : Key := ⟨0x4100, i, 0x02⟩
abbrev O.adest_gain (i : Nat) : Key := ⟨0x4100, i, 0x03⟩
abbrev O.adest_mute (i : Nat) : Key := ⟨0x4100, i, 0x04⟩
abbrev O.adest_polarity (i : Nat) : Key := ⟨0x4100, i, 0x05⟩
abbrev O.adest_delay (i : Nat) : Key := ⟨0x4100, i, 0x06⟩
abbrev O.adest_ramp (i : Nat) : Key := ⟨0x4100, i, 0x07⟩
abbrev O.adest_switch_fade (i : Nat) : Key := ⟨0x4100, i, 0x08⟩
abbrev O.adest_cs_mode (i : Nat) : Key := ⟨0x4100, i, 0x09⟩
abbrev O.adest_rate (i : Nat) : Key := ⟨0x4100, i, 0x0a⟩
abbrev O.adest_clock_domain (i : Nat) : Key := ⟨0x4100, i, 0x0b⟩
abbrev O.adest_asrc (i : Nat) : Key := ⟨0x4100, i, 0x0c⟩
abbrev O.adest_latency (i : Nat) : Key := ⟨0x4100, i, 0x0d⟩
abbrev O.adest_slips (i : Nat) : Key := ⟨0x4100, i, 0x0e⟩
abbrev O.adest_clips (i : Nat) : Key := ⟨0x4100, i, 0x0f⟩
abbrev O.adest_status (i : Nat) : Key := ⟨0x4100, i, 0x10⟩
abbrev O.sapAll_start_rx : Key := ⟨0x4200, 0, 0x00⟩
abbrev O.sapAll_start_tx : Key := ⟨0x4200, 0, 0x01⟩
abbrev O.sapAll_arm : Key := ⟨0x4200, 0, 0x02⟩
abbrev O.sapAll_start_at : Key := ⟨0x4200, 0, 0x03⟩
abbrev O.sapAll_trigger_edge : Key := ⟨0x4200, 0, 0x04⟩
abbrev O.sapAll_trigger_state : Key := ⟨0x4200, 0, 0x05⟩
abbrev O.sapAll_last_trigger : Key := ⟨0x4200, 0, 0x06⟩
abbrev O.sap_run (i : Nat) : Key := ⟨0x4200, i, 0x00⟩
abbrev O.sap_clock_role (i : Nat) : Key := ⟨0x4200, i, 0x01⟩
abbrev O.sap_clock_dpll (i : Nat) : Key := ⟨0x4200, i, 0x02⟩
abbrev O.sap_declared_dpll (i : Nat) : Key := ⟨0x4200, i, 0x03⟩
abbrev O.sap_rate (i : Nat) : Key := ⟨0x4200, i, 0x04⟩
abbrev O.sap_framing (i : Nat) : Key := ⟨0x4200, i, 0x05⟩
abbrev O.sap_slots (i : Nat) : Key := ⟨0x4200, i, 0x06⟩
abbrev O.sap_slot_width (i : Nat) : Key := ⟨0x4200, i, 0x07⟩
abbrev O.sap_packing (i : Nat) : Key := ⟨0x4200, i, 0x0a⟩
abbrev O.sap_slot_mask (i : Nat) : Key := ⟨0x4200, i, 0x0b⟩
abbrev O.sap_mask_in_force (i : Nat) : Key := ⟨0x4200, i, 0x0c⟩
abbrev O.sap_time_base (i : Nat) : Key := ⟨0x4200, i, 0x0d⟩
abbrev O.sap_tx_idle (i : Nat) : Key := ⟨0x4200, i, 0x0e⟩
abbrev O.sap_measured_rate (i : Nat) : Key := ⟨0x4200, i, 0x0f⟩
abbrev O.sap_rate_events (i : Nat) : Key := ⟨0x4200, i, 0x10⟩
abbrev O.sap_companion (i : Nat) : Key := ⟨0x4200, i, 0x11⟩
abbrev O.sap_capture (i : Nat) : Key := ⟨0x4200, i, 0x12⟩
abbrev O.sap_state (i : Nat) : Key := ⟨0x4200, i, 0x13⟩
abbrev O.sap_underruns (i : Nat) : Key := ⟨0x4200, i, 0x14⟩
abbrev O.asrc_channels (i : Nat) : Key := ⟨0x4300, i, 0x00⟩
abbrev O.asrc_in_use (i : Nat) : Key := ⟨0x4300, i, 0x01⟩
abbrev O.asrc_group_delay (i : Nat) : Key := ⟨0x4300, i, 0x02⟩
abbrev O.asrc_destination (i : Nat) : Key := ⟨0x4300, i, 0x03⟩
abbrev O.asrc_relocks (i : Nat) : Key := ⟨0x4300, i, 0x04⟩
abbrev O.asrc_source (i : Nat) : Key := ⟨0x4300, i, 0x05⟩
abbrev O.asrc_state (i : Nat) : Key := ⟨0x4300, i, 0x06⟩
abbrev O.asrc_ratio (i : Nat) : Key := ⟨0x4300, i, 0x07⟩
abbrev O.aes_rx_state (i : Nat) : Key := ⟨0x4400, i, 0x00⟩
abbrev O.aes_rx_rate (i : Nat) : Key := ⟨0x4400, i, 0x01⟩
abbrev O.aes_measured_rate (i : Nat) : Key := ⟨0x4400, i, 0x02⟩
abbrev O.aes_tx_enable (i : Nat) : Key := ⟨0x4400, i, 0x03⟩
abbrev O.aes_tx_rate (i : Nat) : Key := ⟨0x4400, i, 0x04⟩
abbrev O.aes_tx_dpll (i : Nat) : Key := ⟨0x4400, i, 0x05⟩
abbrev O.aes_biphase_errors (i : Nat) : Key := ⟨0x4400, i, 0x06⟩
abbrev O.aes_parity_errors (i : Nat) : Key := ⟨0x4400, i, 0x07⟩
abbrev O.aes_crc_errors (i : Nat) : Key := ⟨0x4400, i, 0x08⟩
abbrev O.loud_enable (i : Nat) : Key := ⟨0x4500, i, 0x00⟩
abbrev O.loud_members (i : Nat) : Key := ⟨0x4500, i, 0x01⟩
abbrev O.loud_momentary (i : Nat) : Key := ⟨0x4500, i, 0x02⟩
abbrev O.loud_short_term (i : Nat) : Key := ⟨0x4500, i, 0x03⟩
abbrev O.loud_integrated (i : Nat) : Key := ⟨0x4500, i, 0x04⟩
abbrev O.loud_range (i : Nat) : Key := ⟨0x4500, i, 0x05⟩
abbrev O.loud_true_peak (i : Nat) : Key := ⟨0x4500, i, 0x06⟩
abbrev O.loud_reset (i : Nat) : Key := ⟨0x4500, i, 0x07⟩
abbrev O.loud_target (i : Nat) : Key := ⟨0x4500, i, 0x08⟩
abbrev O.loud_tolerance (i : Nat) : Key := ⟨0x4500, i, 0x09⟩
abbrev O.loud_tp_limit (i : Nat) : Key := ⟨0x4500, i, 0x0a⟩
abbrev O.loud_label (i : Nat) : Key := ⟨0x4500, i, 0x0b⟩
abbrev O.loud_status (i : Nat) : Key := ⟨0x4500, i, 0x0c⟩
abbrev O.refAll_revertive : Key := ⟨0x5000, 0, 0x00⟩
abbrev O.refAll_revert_hold : Key := ⟨0x5000, 0, 0x01⟩
abbrev O.refAll_agreement_tol : Key := ⟨0x5000, 0, 0x02⟩
abbrev O.refAll_drift_window : Key := ⟨0x5000, 0, 0x03⟩
abbrev O.refAll_observation : Key := ⟨0x5000, 0, 0x04⟩
abbrev O.refAll_hard_limit : Key := ⟨0x5000, 0, 0x05⟩
abbrev O.refAll_qualify_time : Key := ⟨0x5000, 0, 0x06⟩
abbrev O.refAll_evaluation : Key := ⟨0x5000, 0, 0x07⟩
abbrev O.ref_source (i : Nat) : Key := ⟨0x5000, i, 0x00⟩
abbrev O.ref_unit (i : Nat) : Key := ⟨0x5000, i, 0x01⟩
abbrev O.ref_cki_kind (i : Nat) : Key := ⟨0x5000, i, 0x02⟩
abbrev O.ref_format (i : Nat) : Key := ⟨0x5000, i, 0x03⟩
abbrev O.ref_priority (i : Nat) : Key := ⟨0x5000, i, 0x04⟩
abbrev O.ref_dpll_mask (i : Nat) : Key := ⟨0x5000, i, 0x05⟩
abbrev O.ref_phase_limit (i : Nat) : Key := ⟨0x5000, i, 0x06⟩
abbrev O.ref_cki_edge (i : Nat) : Key := ⟨0x5000, i, 0x07⟩
abbrev O.ref_state (i : Nat) : Key := ⟨0x5000, i, 0x08⟩
abbrev O.ref_frequency (i : Nat) : Key := ⟨0x5000, i, 0x09⟩
abbrev O.ref_detected_format (i : Nat) : Key := ⟨0x5000, i, 0x0a⟩
abbrev O.ref_status (i : Nat) : Key := ⟨0x5000, i, 0x0b⟩
abbrev O.ref_mtie (i : Nat) : Key := ⟨0x5000, i, 0x0c⟩
abbrev O.ref_disqualifications (i : Nat) : Key := ⟨0x5000, i, 0x0d⟩
abbrev O.ref_label (i : Nat) : Key := ⟨0x5000, i, 0x0e⟩
abbrev O.dpll_mode (i : Nat) : Key := ⟨0x5100, i, 0x00⟩
abbrev O.dpll_frequency (i : Nat) : Key := ⟨0x5100, i, 0x01⟩
abbrev O.dpll_follow_dpll (i : Nat) : Key := ⟨0x5100, i, 0x02⟩
abbrev O.dpll_ratio_num (i : Nat) : Key := ⟨0x5100, i, 0x03⟩
abbrev O.dpll_ratio_den (i : Nat) : Key := ⟨0x5100, i, 0x04⟩
abbrev O.dpll_bandwidth (i : Nat) : Key := ⟨0x5100, i, 0x05⟩
abbrev O.dpll_damping (i : Nat) : Key := ⟨0x5100, i, 0x06⟩
abbrev O.dpll_acq_bandwidth (i : Nat) : Key := ⟨0x5100, i, 0x07⟩
abbrev O.dpll_freq_slew (i : Nat) : Key := ⟨0x5100, i, 0x08⟩
abbrev O.dpll_steer (i : Nat) : Key := ⟨0x5100, i, 0x09⟩
abbrev O.dpll_force_entry (i : Nat) : Key := ⟨0x5100, i, 0x0a⟩
abbrev O.dpll_phase_error (i : Nat) : Key := ⟨0x5100, i, 0x0b⟩
abbrev O.dpll_realign (i : Nat) : Key := ⟨0x5100, i, 0x0c⟩
abbrev O.dpll_epoch_tb (i : Nat) : Key := ⟨0x5100, i, 0x0d⟩
abbrev O.dpll_epoch_at (i : Nat) : Key := ⟨0x5100, i, 0x0e⟩
abbrev O.dpll_epoch_arm (i : Nat) : Key := ⟨0x5100, i, 0x0f⟩
abbrev O.dpll_epoch_state (i : Nat) : Key := ⟨0x5100, i, 0x10⟩
abbrev O.dpll_state (i : Nat) : Key := ⟨0x5100, i, 0x11⟩
abbrev O.dpll_selected (i : Nat) : Key := ⟨0x5100, i, 0x12⟩
abbrev O.dpll_frequency_now (i : Nat) : Key := ⟨0x5100, i, 0x13⟩
abbrev O.dpll_holdover_model (i : Nat) : Key := ⟨0x5100, i, 0x14⟩
abbrev O.dpll_model_valid (i : Nat) : Key := ⟨0x5100, i, 0x15⟩
abbrev O.dpll_bandwidth_now (i : Nat) : Key := ⟨0x5100, i, 0x17⟩
abbrev O.dpll_holdover_window (i : Nat) : Key := ⟨0x5100, i, 0x18⟩
abbrev O.dpll_holdover_guard (i : Nat) : Key := ⟨0x5100, i, 0x19⟩
abbrev O.dpll_lock_window (i : Nat) : Key := ⟨0x5100, i, 0x1a⟩
abbrev O.dpll_time_in_state (i : Nat) : Key := ⟨0x5100, i, 0x1b⟩
abbrev O.dpll_transitions (i : Nat) : Key := ⟨0x5100, i, 0x1c⟩
abbrev O.dpll_realign_slew (i : Nat) : Key := ⟨0x5100, i, 0x1d⟩
abbrev O.xo_xo_frequency (i : Nat) : Key := ⟨0x5100, i, 0x00⟩
abbrev O.xo_xo_class (i : Nat) : Key := ⟨0x5100, i, 0x01⟩
abbrev O.xo_xo_state (i : Nat) : Key := ⟨0x5100, i, 0x02⟩
abbrev O.cko_enable (i : Nat) : Key := ⟨0x5200, i, 0x00⟩
abbrev O.cko_dpll (i : Nat) : Key := ⟨0x5200, i, 0x01⟩
abbrev O.cko_divider (i : Nat) : Key := ⟨0x5200, i, 0x02⟩
abbrev O.cko_format (i : Nat) : Key := ⟨0x5200, i, 0x03⟩
abbrev O.cko_swing (i : Nat) : Key := ⟨0x5200, i, 0x04⟩
abbrev O.cko_phase_offset (i : Nat) : Key := ⟨0x5200, i, 0x05⟩
abbrev O.cko_phase_slew (i : Nat) : Key := ⟨0x5200, i, 0x06⟩
abbrev O.cko_pulse_width (i : Nat) : Key := ⟨0x5200, i, 0x07⟩
abbrev O.cko_squelch (i : Nat) : Key := ⟨0x5200, i, 0x08⟩
abbrev O.cko_disabled_state (i : Nat) : Key := ⟨0x5200, i, 0x09⟩
abbrev O.cko_invert (i : Nat) : Key := ⟨0x5200, i, 0x0a⟩
abbrev O.cko_frequency_now (i : Nat) : Key := ⟨0x5200, i, 0x0b⟩
abbrev O.cko_phase_now (i : Nat) : Key := ⟨0x5200, i, 0x0c⟩
abbrev O.cko_state (i : Nat) : Key := ⟨0x5200, i, 0x0d⟩
abbrev O.cko_label (i : Nat) : Key := ⟨0x5200, i, 0x0e⟩
abbrev O.vddo_vddo_bank0 (i : Nat) : Key := ⟨0x5200, i, 0x00⟩
abbrev O.vddo_vddo_bank1 (i : Nat) : Key := ⟨0x5200, i, 0x01⟩
abbrev O.vddo_vddo_bank2 (i : Nat) : Key := ⟨0x5200, i, 0x02⟩
abbrev O.vddo_vddo_bank3 (i : Nat) : Key := ⟨0x5200, i, 0x03⟩
abbrev O.swp_enable (i : Nat) : Key := ⟨0x5300, i, 0x00⟩
abbrev O.swp_format (i : Nat) : Key := ⟨0x5300, i, 0x01⟩
abbrev O.swp_setup (i : Nat) : Key := ⟨0x5300, i, 0x02⟩
abbrev O.swp_dpll (i : Nat) : Key := ⟨0x5300, i, 0x03⟩
abbrev O.swp_time_base (i : Nat) : Key := ⟨0x5300, i, 0x04⟩
abbrev O.swp_timing_offset (i : Nat) : Key := ⟨0x5300, i, 0x05⟩
abbrev O.swp_phase_slew (i : Nat) : Key := ⟨0x5300, i, 0x06⟩
abbrev O.swp_advance (i : Nat) : Key := ⟨0x5300, i, 0x07⟩
abbrev O.swp_state (i : Nat) : Key := ⟨0x5300, i, 0x08⟩
abbrev O.swp_frames (i : Nat) : Key := ⟨0x5300, i, 0x09⟩
abbrev O.swp_label (i : Nat) : Key := ⟨0x5300, i, 0x0a⟩
abbrev O.tb_role (i : Nat) : Key := ⟨0x5400, i, 0x00⟩
abbrev O.tb_dpll (i : Nat) : Key := ⟨0x5400, i, 0x01⟩
abbrev O.tb_profile (i : Nat) : Key := ⟨0x5400, i, 0x02⟩
abbrev O.tb_time_format (i : Nat) : Key := ⟨0x5400, i, 0x03⟩
abbrev O.tb_domain (i : Nat) : Key := ⟨0x5400, i, 0x04⟩
abbrev O.tb_priority1 (i : Nat) : Key := ⟨0x5400, i, 0x05⟩
abbrev O.tb_priority2 (i : Nat) : Key := ⟨0x5400, i, 0x06⟩
abbrev O.tb_state (i : Nat) : Key := ⟨0x5400, i, 0x07⟩
abbrev O.tb_now (i : Nat) : Key := ⟨0x5400, i, 0x08⟩
abbrev O.tb_now_short (i : Nat) : Key := ⟨0x5400, i, 0x09⟩
abbrev O.tb_offset_from_master (i : Nat) : Key := ⟨0x5400, i, 0x0a⟩
abbrev O.tb_mean_path_delay (i : Nat) : Key := ⟨0x5400, i, 0x0b⟩
abbrev O.tb_grandmaster_id (i : Nat) : Key := ⟨0x5400, i, 0x0c⟩
abbrev O.tb_steps_removed (i : Nat) : Key := ⟨0x5400, i, 0x0d⟩
abbrev O.tb_clock_class (i : Nat) : Key := ⟨0x5400, i, 0x0e⟩
abbrev O.tb_utc_offset (i : Nat) : Key := ⟨0x5400, i, 0x0f⟩
abbrev O.tb_jump_guard (i : Nat) : Key := ⟨0x5400, i, 0x10⟩
abbrev O.tb_jump_pending (i : Nat) : Key := ⟨0x5400, i, 0x11⟩
abbrev O.tb_jump_at (i : Nat) : Key := ⟨0x5400, i, 0x12⟩
abbrev O.tb_jump_accept (i : Nat) : Key := ⟨0x5400, i, 0x13⟩
abbrev O.tb_jump_state (i : Nat) : Key := ⟨0x5400, i, 0x14⟩
abbrev O.tb_time_set (i : Nat) : Key := ⟨0x5400, i, 0x15⟩
abbrev O.tb_step_override (i : Nat) : Key := ⟨0x5400, i, 0x16⟩
abbrev O.tb_guard_at_start (i : Nat) : Key := ⟨0x5400, i, 0x17⟩
abbrev O.tb_jumps_applied (i : Nat) : Key := ⟨0x5400, i, 0x18⟩
abbrev O.tb_jumps_refused (i : Nat) : Key := ⟨0x5400, i, 0x19⟩
abbrev O.tb_label (i : Nat) : Key := ⟨0x5400, i, 0x1a⟩
abbrev O.tb_traceable (i : Nat) : Key := ⟨0x5400, i, 0x1d⟩
abbrev O.tb_holdover_spec (i : Nat) : Key := ⟨0x5400, i, 0x1e⟩
abbrev O.ptp_enable (i : Nat) : Key := ⟨0x5500, i, 0x00⟩
abbrev O.ptp_time_base (i : Nat) : Key := ⟨0x5500, i, 0x01⟩
abbrev O.ptp_interface (i : Nat) : Key := ⟨0x5500, i, 0x02⟩
abbrev O.ptp_transport (i : Nat) : Key := ⟨0x5500, i, 0x03⟩
abbrev O.ptp_delay_mechanism (i : Nat) : Key := ⟨0x5500, i, 0x04⟩
abbrev O.ptp_log_sync (i : Nat) : Key := ⟨0x5500, i, 0x05⟩
abbrev O.ptp_log_announce (i : Nat) : Key := ⟨0x5500, i, 0x06⟩
abbrev O.ptp_announce_timeout (i : Nat) : Key := ⟨0x5500, i, 0x07⟩
abbrev O.ptp_log_min_delay_req (i : Nat) : Key := ⟨0x5500, i, 0x08⟩
abbrev O.ptp_master_only (i : Nat) : Key := ⟨0x5500, i, 0x09⟩
abbrev O.ptp_two_step (i : Nat) : Key := ⟨0x5500, i, 0x0a⟩
abbrev O.ptp_ingress_latency (i : Nat) : Key := ⟨0x5500, i, 0x0b⟩
abbrev O.ptp_egress_latency (i : Nat) : Key := ⟨0x5500, i, 0x0c⟩
abbrev O.ptp_asymmetry (i : Nat) : Key := ⟨0x5500, i, 0x0d⟩
abbrev O.ptp_port_state (i : Nat) : Key := ⟨0x5500, i, 0x0e⟩
abbrev O.ptp_port_identity (i : Nat) : Key := ⟨0x5500, i, 0x0f⟩
abbrev O.ptp_dscp (i : Nat) : Key := ⟨0x5500, i, 0x10⟩
abbrev O.ptp_rx_messages (i : Nat) : Key := ⟨0x5500, i, 0x11⟩
abbrev O.ptp_tx_messages (i : Nat) : Key := ⟨0x5500, i, 0x12⟩
abbrev O.ptp_rx_errors (i : Nat) : Key := ⟨0x5500, i, 0x13⟩
abbrev O.tsq_depth (i : Nat) : Key := ⟨0x5600, i, 0x00⟩
abbrev O.tsq_count (i : Nat) : Key := ⟨0x5600, i, 0x01⟩
abbrev O.tsq_entries (i : Nat) : Key := ⟨0x5600, i, 0x02⟩
abbrev O.tsq_release (i : Nat) : Key := ⟨0x5600, i, 0x03⟩
abbrev O.tsq_status (i : Nat) : Key := ⟨0x5600, i, 0x04⟩
abbrev O.tsq_lost (i : Nat) : Key := ⟨0x5600, i, 0x05⟩
abbrev O.tsq_clear_overflow (i : Nat) : Key := ⟨0x5600, i, 0x06⟩
abbrev O.tsq_next_sequence (i : Nat) : Key := ⟨0x5600, i, 0x07⟩
abbrev O.launch_min_lead : Key := ⟨0x5700, 0, 0x00⟩
abbrev O.launch_request : Key := ⟨0x5700, 0, 0x01⟩
abbrev O.launch_pending : Key := ⟨0x5700, 0, 0x02⟩
abbrev O.launch_requests_max : Key := ⟨0x5700, 0, 0x03⟩
abbrev O.launch_late_action : Key := ⟨0x5700, 0, 0x04⟩
abbrev O.launch_launched : Key := ⟨0x5700, 0, 0x05⟩
abbrev O.launch_late : Key := ⟨0x5700, 0, 0x06⟩
abbrev O.ifc_launched (i : Nat) : Key := ⟨0x5700, i, 0x00⟩
abbrev O.ifc_late_discarded (i : Nat) : Key := ⟨0x5700, i, 0x01⟩
abbrev O.ifc_worst_delay (i : Nat) : Key := ⟨0x5700, i, 0x02⟩
abbrev O.ifc_clear (i : Nat) : Key := ⟨0x5700, i, 0x03⟩
abbrev O.lane_state (i : Nat) : Key := ⟨0x2000, i, 0x00⟩
abbrev O.lane_state_now (i : Nat) : Key := ⟨0x2000, i, 0x01⟩
abbrev O.lane_rate_now (i : Nat) : Key := ⟨0x2000, i, 0x02⟩
abbrev O.lane_coding (i : Nat) : Key := ⟨0x2000, i, 0x03⟩
abbrev O.lane_tx_pll (i : Nat) : Key := ⟨0x2000, i, 0x04⟩
abbrev O.lane_tx_invert (i : Nat) : Key := ⟨0x2000, i, 0x05⟩
abbrev O.lane_rx_invert (i : Nat) : Key := ⟨0x2000, i, 0x06⟩
abbrev O.lane_rx_lock (i : Nat) : Key := ⟨0x2000, i, 0x07⟩
abbrev O.lane_rx_offset (i : Nat) : Key := ⟨0x2000, i, 0x08⟩
abbrev O.lane_lock_losses (i : Nat) : Key := ⟨0x2000, i, 0x09⟩
abbrev O.lane_disparity_errors (i : Nat) : Key := ⟨0x2000, i, 0x0a⟩
abbrev O.lane_code_violations (i : Nat) : Key := ⟨0x2000, i, 0x0b⟩
abbrev O.lane_clear (i : Nat) : Key := ⟨0x2000, i, 0x0c⟩
abbrev O.tile_lref_spread (i : Nat) : Key := ⟨0x2000, i, 0x00⟩
abbrev O.tile_lref_group (i : Nat) : Key := ⟨0x2000, i, 0x01⟩
abbrev O.tile_video_dpll (i : Nat) : Key := ⟨0x2000, i, 0x02⟩
abbrev O.tile_video_dpll_1001 (i : Nat) : Key := ⟨0x2000, i, 0x03⟩
abbrev O.tile_pll_status (i : Nat) : Key := ⟨0x2000, i, 0x04⟩
abbrev O.eq_ctle_code (i : Nat) : Key := ⟨0x2100, i, 0x00⟩
abbrev O.eq_dfe_taps (i : Nat) : Key := ⟨0x2100, i, 0x01⟩
abbrev O.eq_adapt_state (i : Nat) : Key := ⟨0x2100, i, 0x02⟩
abbrev O.eq_eq_mode (i : Nat) : Key := ⟨0x2100, i, 0x03⟩
abbrev O.eq_manual_ctle (i : Nat) : Key := ⟨0x2100, i, 0x04⟩
abbrev O.eq_manual_taps (i : Nat) : Key := ⟨0x2100, i, 0x05⟩
abbrev O.eq_lms_step (i : Nat) : Key := ⟨0x2100, i, 0x06⟩
abbrev O.eq_dfe_enable (i : Nat) : Key := ⟨0x2100, i, 0x07⟩
abbrev O.eq_tap_limit (i : Nat) : Key := ⟨0x2100, i, 0x08⟩
abbrev O.eq_min_transitions (i : Nat) : Key := ⟨0x2100, i, 0x09⟩
abbrev O.eq_eye_height (i : Nat) : Key := ⟨0x2100, i, 0x0a⟩
abbrev O.eq_eye_width (i : Nat) : Key := ⟨0x2100, i, 0x0b⟩
abbrev O.eq_tx_swing (i : Nat) : Key := ⟨0x2100, i, 0x0c⟩
abbrev O.eq_tx_pre (i : Nat) : Key := ⟨0x2100, i, 0x0d⟩
abbrev O.eq_tx_post (i : Nat) : Key := ⟨0x2100, i, 0x0e⟩
abbrev O.eq_restart (i : Nat) : Key := ⟨0x2100, i, 0x0f⟩
abbrev O.ltest_pattern (i : Nat) : Key := ⟨0x2200, i, 0x00⟩
abbrev O.ltest_user_pattern (i : Nat) : Key := ⟨0x2200, i, 0x01⟩
abbrev O.ltest_rate (i : Nat) : Key := ⟨0x2200, i, 0x02⟩
abbrev O.ltest_loopback (i : Nat) : Key := ⟨0x2200, i, 0x03⟩
abbrev O.ltest_generator (i : Nat) : Key := ⟨0x2200, i, 0x04⟩
abbrev O.ltest_checker (i : Nat) : Key := ⟨0x2200, i, 0x05⟩
abbrev O.ltest_duration (i : Nat) : Key := ⟨0x2200, i, 0x06⟩
abbrev O.ltest_start (i : Nat) : Key := ⟨0x2200, i, 0x07⟩
abbrev O.ltest_stop (i : Nat) : Key := ⟨0x2200, i, 0x08⟩
abbrev O.ltest_finish (i : Nat) : Key := ⟨0x2200, i, 0x09⟩
abbrev O.ltest_state (i : Nat) : Key := ⟨0x2200, i, 0x0a⟩
abbrev O.ltest_checker_lock (i : Nat) : Key := ⟨0x2200, i, 0x0b⟩
abbrev O.ltest_bits (i : Nat) : Key := ⟨0x2200, i, 0x0c⟩
abbrev O.ltest_errors (i : Nat) : Key := ⟨0x2200, i, 0x0d⟩
abbrev O.ltest_final_bits (i : Nat) : Key := ⟨0x2200, i, 0x0e⟩
abbrev O.ltest_final_errors (i : Nat) : Key := ⟨0x2200, i, 0x0f⟩
abbrev O.ltest_inject_single (i : Nat) : Key := ⟨0x2200, i, 0x10⟩
abbrev O.ltest_inject_burst (i : Nat) : Key := ⟨0x2200, i, 0x11⟩
abbrev O.ltest_injected (i : Nat) : Key := ⟨0x2200, i, 0x12⟩
abbrev O.ltest_relocks (i : Nat) : Key := ⟨0x2200, i, 0x13⟩
abbrev O.port_kind (i : Nat) : Key := ⟨0x2300, i, 0x00⟩
abbrev O.port_owner_port (i : Nat) : Key := ⟨0x2300, i, 0x01⟩
abbrev O.port_lanes (i : Nat) : Key := ⟨0x2300, i, 0x02⟩
abbrev O.port_state (i : Nat) : Key := ⟨0x2300, i, 0x03⟩
abbrev O.port_label (i : Nat) : Key := ⟨0x2300, i, 0x04⟩
abbrev O.mesh_version_min : Key := ⟨0x2400, 0, 0x00⟩
abbrev O.mesh_version_max : Key := ⟨0x2400, 0, 0x01⟩
abbrev O.mesh_domain_state : Key := ⟨0x2400, 0, 0x02⟩
abbrev O.mesh_chips_reachable : Key := ⟨0x2400, 0, 0x03⟩
abbrev O.mesh_plan : Key := ⟨0x2400, 0, 0x04⟩
abbrev O.mesh_plan_revision : Key := ⟨0x2400, 0, 0x05⟩
abbrev O.mesh_head_priority : Key := ⟨0x2400, 0, 0x06⟩
abbrev O.mesh_control_sent : Key := ⟨0x2400, 0, 0x07⟩
abbrev O.mesh_control_received : Key := ⟨0x2400, 0, 0x08⟩
abbrev O.mesh_forwarded : Key := ⟨0x2400, 0, 0x09⟩
abbrev O.mesh_control_discarded : Key := ⟨0x2400, 0, 0x0a⟩
abbrev O.mlink_state (i : Nat) : Key := ⟨0x2400, i, 0x00⟩
abbrev O.mlink_peer_chip (i : Nat) : Key := ⟨0x2400, i, 0x01⟩
abbrev O.mlink_peer_lane (i : Nat) : Key := ⟨0x2400, i, 0x02⟩
abbrev O.mlink_peer_serial (i : Nat) : Key := ⟨0x2400, i, 0x03⟩
abbrev O.mlink_link_version (i : Nat) : Key := ⟨0x2400, i, 0x04⟩
abbrev O.mlink_delay (i : Nat) : Key := ⟨0x2400, i, 0x05⟩
abbrev O.mlink_symmetry (i : Nat) : Key := ⟨0x2400, i, 0x06⟩
abbrev O.mlink_cells_sent (i : Nat) : Key := ⟨0x2400, i, 0x07⟩
abbrev O.mlink_cells_received (i : Nat) : Key := ⟨0x2400, i, 0x08⟩
abbrev O.mlink_crc_errors (i : Nat) : Key := ⟨0x2400, i, 0x09⟩
abbrev O.mlink_header_corrected (i : Nat) : Key := ⟨0x2400, i, 0x0a⟩
abbrev O.mlink_credit_stalls (i : Nat) : Key := ⟨0x2400, i, 0x0b⟩
abbrev O.mlink_retrains (i : Nat) : Key := ⟨0x2400, i, 0x0c⟩
abbrev O.mlink_error_limit (i : Nat) : Key := ⟨0x2400, i, 0x0d⟩
abbrev O.mlink_admin (i : Nat) : Key := ⟨0x2400, i, 0x0e⟩
abbrev O.mlink_clear (i : Nat) : Key := ⟨0x2400, i, 0x0f⟩
abbrev O.mgroup_kind (i : Nat) : Key := ⟨0x2400, i, 0x00⟩
abbrev O.mgroup_plan_group (i : Nat) : Key := ⟨0x2400, i, 0x01⟩
abbrev O.mgroup_head (i : Nat) : Key := ⟨0x2400, i, 0x02⟩
abbrev O.mgroup_members (i : Nat) : Key := ⟨0x2400, i, 0x03⟩
abbrev O.mgroup_elections (i : Nat) : Key := ⟨0x2400, i, 0x04⟩
abbrev O.mgroup_last_election (i : Nat) : Key := ⟨0x2400, i, 0x05⟩
abbrev O.twin_twin_state : Key := ⟨0x1300, 0, 0x00⟩
abbrev O.twin_lead_output : Key := ⟨0x1300, 0, 0x01⟩
abbrev O.twin_home : Key := ⟨0x1300, 0, 0x02⟩
abbrev O.twin_role_epoch : Key := ⟨0x1300, 0, 0x03⟩
abbrev O.twin_twin_link : Key := ⟨0x1300, 0, 0x04⟩
abbrev O.twin_twin_delay : Key := ⟨0x1300, 0, 0x05⟩
abbrev O.twin_mirror_state : Key := ⟨0x1300, 0, 0x06⟩
abbrev O.twin_mirror_lag : Key := ⟨0x1300, 0, 0x07⟩
abbrev O.twin_handover : Key := ⟨0x1300, 0, 0x08⟩
abbrev O.twin_handover_abort : Key := ⟨0x1300, 0, 0x09⟩
abbrev O.twin_handover_lead : Key := ⟨0x1300, 0, 0x0a⟩
abbrev O.twin_handover_state : Key := ⟨0x1300, 0, 0x0b⟩
abbrev O.twin_hold_time : Key := ⟨0x1300, 0, 0x0c⟩
abbrev O.twin_hold_remaining : Key := ⟨0x1300, 0, 0x0d⟩
abbrev O.twin_sig_threshold : Key := ⟨0x1300, 0, 0x0e⟩
abbrev O.twin_loopback_dwell : Key := ⟨0x1300, 0, 0x0f⟩
abbrev O.twin_bist_period : Key := ⟨0x1300, 0, 0x10⟩
abbrev O.twin_score : Key := ⟨0x1300, 0, 0x11⟩
abbrev O.twin_findings : Key := ⟨0x1300, 0, 0x12⟩
abbrev O.twin_last_cause : Key := ⟨0x1300, 0, 0x13⟩
abbrev O.twin_last_change : Key := ⟨0x1300, 0, 0x14⟩
abbrev O.twin_role_changes : Key := ⟨0x1300, 0, 0x15⟩
abbrev O.twin_pf_state : Key := ⟨0x1300, 0, 0x16⟩
abbrev O.twin_peer_manifest : Key := ⟨0x1300, 0, 0x17⟩
abbrev O.twin_image_rate : Key := ⟨0x1300, 0, 0x18⟩
abbrev O.twin_sig_compared : Key := ⟨0x1300, 0, 0x19⟩
abbrev O.twin_sig_mismatches : Key := ⟨0x1300, 0, 0x1a⟩
abbrev O.twin_sig_excluded : Key := ⟨0x1300, 0, 0x1b⟩
abbrev O.twt_score (i : Nat) : Key := ⟨0x1300, i, 0x00⟩
abbrev O.twt_side (i : Nat) : Key := ⟨0x1300, i, 0x01⟩
abbrev O.twt_findings (i : Nat) : Key := ⟨0x1300, i, 0x02⟩
abbrev O.twt_last_mismatch (i : Nat) : Key := ⟨0x1300, i, 0x03⟩
abbrev O.twt_loopback_lane (i : Nat) : Key := ⟨0x1300, i, 0x04⟩
abbrev O.fault_first_record : Key := ⟨0x1100, 0, 0x00⟩
abbrev O.fault_first_valid : Key := ⟨0x1100, 0, 0x01⟩
abbrev O.fault_safe_state : Key := ⟨0x1100, 0, 0x02⟩
abbrev O.fault_tempest : Key := ⟨0x1100, 0, 0x03⟩
abbrev O.fault_overflow : Key := ⟨0x1100, 0, 0x04⟩
abbrev O.fault_overflow_count : Key := ⟨0x1100, 0, 0x05⟩
abbrev O.fault_rearm : Key := ⟨0x1100, 0, 0x06⟩
abbrev O.fault_latched : Key := ⟨0x1100, 0, 0x07⟩
abbrev O.fault_latched_list : Key := ⟨0x1100, 0, 0x08⟩
abbrev O.fault_pins : Key := ⟨0x1100, 0, 0x09⟩
abbrev O.fault_clear_all : Key := ⟨0x1100, 0, 0x0a⟩
abbrev O.fault_log_count : Key := ⟨0x1100, 0, 0x0b⟩
abbrev O.fault_log : Key := ⟨0x1100, 0, 0x0c⟩
abbrev O.fault_exclusions : Key := ⟨0x1100, 0, 0x0d⟩
abbrev O.fault_include : Key := ⟨0x1100, 0, 0x0e⟩
abbrev O.fault_safe_entries : Key := ⟨0x1100, 0, 0x0f⟩
abbrev O.fault_inject_target : Key := ⟨0x1100, 0, 0x10⟩
abbrev O.fault_inject_unit : Key := ⟨0x1100, 0, 0x11⟩
abbrev O.fault_inject_symbols : Key := ⟨0x1100, 0, 0x12⟩
abbrev O.fault_inject_arm : Key := ⟨0x1100, 0, 0x13⟩
abbrev O.fault_inject_state : Key := ⟨0x1100, 0, 0x14⟩
abbrev O.fault_tree_checks : Key := ⟨0x1100, 0, 0x15⟩
abbrev O.fault_plane_discard_limit : Key := ⟨0x1100, 0, 0x16⟩
abbrev O.fsrc_name (i : Nat) : Key := ⟨0x1100, i, 0x00⟩
abbrev O.fsrc_class (i : Nat) : Key := ⟨0x1100, i, 0x01⟩
abbrev O.fsrc_reactions (i : Nat) : Key := ⟨0x1100, i, 0x02⟩
abbrev O.fsrc_offered (i : Nat) : Key := ⟨0x1100, i, 0x03⟩
abbrev O.fsrc_state (i : Nat) : Key := ⟨0x1100, i, 0x04⟩
abbrev O.fsrc_count (i : Nat) : Key := ⟨0x1100, i, 0x05⟩
abbrev O.fsrc_last_time (i : Nat) : Key := ⟨0x1100, i, 0x06⟩
abbrev O.fsrc_last_context (i : Nat) : Key := ⟨0x1100, i, 0x07⟩
abbrev O.fsrc_clear (i : Nat) : Key := ⟨0x1100, i, 0x08⟩
abbrev O.fsrc_auto_clear (i : Nat) : Key := ⟨0x1100, i, 0x09⟩
abbrev O.fsrc_context_format (i : Nat) : Key := ⟨0x1100, i, 0x0a⟩
abbrev O.banks_scrub_period : Key := ⟨0x6000, 0, 0x00⟩
abbrev O.banks_retention_idle : Key := ⟨0x6000, 0, 0x01⟩
abbrev O.banks_off_idle : Key := ⟨0x6000, 0, 0x02⟩
abbrev O.banks_uncorrected_limit : Key := ⟨0x6000, 0, 0x03⟩
abbrev O.banks_banks_on : Key := ⟨0x6000, 0, 0x04⟩
abbrev O.banks_banks_retention : Key := ⟨0x6000, 0, 0x05⟩
abbrev O.banks_banks_off : Key := ⟨0x6000, 0, 0x06⟩
abbrev O.banks_conflict_stalls : Key := ⟨0x6000, 0, 0x07⟩
abbrev O.banks_starvation_grants : Key := ⟨0x6000, 0, 0x08⟩
abbrev O.bank_use (i : Nat) : Key := ⟨0x6000, i, 0x00⟩
abbrev O.bank_owner (i : Nat) : Key := ⟨0x6000, i, 0x01⟩
abbrev O.bank_state (i : Nat) : Key := ⟨0x6000, i, 0x02⟩
abbrev O.bank_wakes (i : Nat) : Key := ⟨0x6000, i, 0x03⟩
abbrev O.bank_excluded (i : Nat) : Key := ⟨0x6000, i, 0x04⟩
abbrev O.bank_policy (i : Nat) : Key := ⟨0x6000, i, 0x05⟩
abbrev O.bank_corrected (i : Nat) : Key := ⟨0x6000, i, 0x06⟩
abbrev O.bank_uncorrected (i : Nat) : Key := ⟨0x6000, i, 0x07⟩
abbrev O.bank_first_uncorrected (i : Nat) : Key := ⟨0x6000, i, 0x08⟩
abbrev O.bank_last_bist (i : Nat) : Key := ⟨0x6000, i, 0x09⟩
abbrev O.ic_initiators : Key := ⟨0x6100, 0, 0x00⟩
abbrev O.ic_targets : Key := ⟨0x6100, 0, 0x01⟩
abbrev O.ic_error_responses : Key := ⟨0x6100, 0, 0x02⟩
abbrev O.ini_priorities (i : Nat) : Key := ⟨0x6100, i, 0x00⟩
abbrev O.ini_outstanding (i : Nat) : Key := ⟨0x6100, i, 0x01⟩
abbrev O.ini_outstanding_max (i : Nat) : Key := ⟨0x6100, i, 0x02⟩
abbrev O.ini_transactions (i : Nat) : Key := ⟨0x6100, i, 0x03⟩
abbrev O.ini_full_stalls (i : Nat) : Key := ⟨0x6100, i, 0x04⟩
abbrev O.ini_locks_cut (i : Nat) : Key := ⟨0x6100, i, 0x05⟩
abbrev O.ini_clear (i : Nat) : Key := ⟨0x6100, i, 0x06⟩
abbrev O.tgt_busy (i : Nat) : Key := ⟨0x6100, i, 0x00⟩
abbrev O.tgt_wait_max (i : Nat) : Key := ⟨0x6100, i, 0x01⟩
abbrev O.tgt_aged_grants (i : Nat) : Key := ⟨0x6100, i, 0x02⟩
abbrev O.tgt_lock_holder (i : Nat) : Key := ⟨0x6100, i, 0x03⟩
abbrev O.tgt_timeouts (i : Nat) : Key := ⟨0x6100, i, 0x04⟩
abbrev O.tgt_clear (i : Nat) : Key := ⟨0x6100, i, 0x05⟩
abbrev O.fw_caddy_state : Key := ⟨0x1200, 0, 0x00⟩
abbrev O.fw_caddy_hash : Key := ⟨0x1200, 0, 0x01⟩
abbrev O.fw_caddy_version : Key := ⟨0x1200, 0, 0x02⟩
abbrev O.fw_caddy_settings_change : Key := ⟨0x1200, 0, 0x03⟩
abbrev O.fw_offer_manifest : Key := ⟨0x1200, 0, 0x10⟩
abbrev O.fw_parts_missing : Key := ⟨0x1200, 0, 0x11⟩
abbrev O.fw_discard : Key := ⟨0x1200, 0, 0x12⟩
abbrev O.fw_copy_blocks : Key := ⟨0x1200, 0, 0x13⟩
abbrev O.fw_copy_abort : Key := ⟨0x1200, 0, 0x14⟩
abbrev O.fw_activation : Key := ⟨0x1200, 0, 0x18⟩
abbrev O.fw_activation_abort : Key := ⟨0x1200, 0, 0x19⟩
abbrev O.fw_activation_results : Key := ⟨0x1200, 0, 0x1a⟩
abbrev O.fw_activation_state : Key := ⟨0x1200, 0, 0x1b⟩
abbrev O.fw_image_state : Key := ⟨0x1200, 0, 0x1c⟩
abbrev O.fw_probation_remaining : Key := ⟨0x1200, 0, 0x1d⟩
abbrev O.fw_carry_skipped : Key := ⟨0x1200, 0, 0x1e⟩
abbrev O.fw_carry_sequence : Key := ⟨0x1200, 0, 0x1f⟩
abbrev O.fw_last_seal : Key := ⟨0x1200, 0, 0x20⟩
abbrev O.part_data (i : Nat) : Key := ⟨0x1200, i, 0x00⟩
abbrev O.part_part (i : Nat) : Key := ⟨0x1200, i, 0x01⟩
abbrev O.part_version (i : Nat) : Key := ⟨0x1200, i, 0x02⟩
abbrev O.part_length (i : Nat) : Key := ⟨0x1200, i, 0x03⟩
abbrev O.part_held (i : Nat) : Key := ⟨0x1200, i, 0x04⟩
abbrev O.img_state (i : Nat) : Key := ⟨0x1200, i, 0x00⟩
abbrev O.img_version (i : Nat) : Key := ⟨0x1200, i, 0x01⟩
abbrev O.img_hash (i : Nat) : Key := ⟨0x1200, i, 0x02⟩
abbrev O.img_settings_format (i : Nat) : Key := ⟨0x1200, i, 0x03⟩
abbrev O.img_key_slot (i : Nat) : Key := ⟨0x1200, i, 0x04⟩
abbrev O.img_installed_at (i : Nat) : Key := ⟨0x1200, i, 0x05⟩
abbrev O.kslot_state (i : Nat) : Key := ⟨0x1200, i, 0x00⟩
abbrev O.kslot_key_hash (i : Nat) : Key := ⟨0x1200, i, 0x01⟩
abbrev O.kslot_revoke (i : Nat) : Key := ⟨0x1200, i, 0x02⟩
abbrev O.bring_mode : Key := ⟨0x1020, 0, 0x00⟩
abbrev O.bring_mode_next : Key := ⟨0x1020, 0, 0x01⟩
abbrev O.bring_restart : Key := ⟨0x1020, 0, 0x02⟩
abbrev O.bring_phase_times : Key := ⟨0x1020, 0, 0x03⟩
abbrev O.bring_bringup_time : Key := ⟨0x1020, 0, 0x04⟩
abbrev O.bring_starts : Key := ⟨0x1020, 0, 0x05⟩
abbrev O.bring_start_cause : Key := ⟨0x1020, 0, 0x06⟩
abbrev O.bring_failed_starts : Key := ⟨0x1020, 0, 0x07⟩
abbrev O.pow_lull_state : Key := ⟨0x1400, 0, 0x00⟩
abbrev O.pow_lull : Key := ⟨0x1400, 0, 0x01⟩
abbrev O.pow_wake_cause : Key := ⟨0x1400, 0, 0x02⟩
abbrev O.pow_lull_entries : Key := ⟨0x1400, 0, 0x03⟩
abbrev O.pow_last_wake : Key := ⟨0x1400, 0, 0x04⟩
abbrev O.pow_pmbus_rate : Key := ⟨0x1400, 0, 0x05⟩
abbrev O.pow_brownouts : Key := ⟨0x1400, 0, 0x06⟩
abbrev O.pow_brownout_ring : Key := ⟨0x1400, 0, 0x07⟩
abbrev O.pow_brownout_clear : Key := ⟨0x1400, 0, 0x08⟩
abbrev O.die_regulator_address (i : Nat) : Key := ⟨0x1400, i, 0x00⟩
abbrev O.die_setpoint (i : Nat) : Key := ⟨0x1400, i, 0x01⟩
abbrev O.die_vout_read (i : Nat) : Key := ⟨0x1400, i, 0x02⟩
abbrev O.die_target (i : Nat) : Key := ⟨0x1400, i, 0x03⟩
abbrev O.die_v_min (i : Nat) : Key := ⟨0x1400, i, 0x04⟩
abbrev O.die_v_max (i : Nat) : Key := ⟨0x1400, i, 0x05⟩
abbrev O.die_demand (i : Nat) : Key := ⟨0x1400, i, 0x06⟩
abbrev O.die_pace_low (i : Nat) : Key := ⟨0x1400, i, 0x07⟩
abbrev O.die_junction (i : Nat) : Key := ⟨0x1400, i, 0x08⟩
abbrev O.die_regulator_status (i : Nat) : Key := ⟨0x1400, i, 0x09⟩
abbrev O.die_loop_state (i : Nat) : Key := ⟨0x1400, i, 0x0a⟩
abbrev O.rail_reading (i : Nat) : Key := ⟨0x1400, i, 0x00⟩
abbrev O.rail_minimum (i : Nat) : Key := ⟨0x1400, i, 0x01⟩
abbrev O.rail_maximum (i : Nat) : Key := ⟨0x1400, i, 0x02⟩
abbrev O.rail_state (i : Nat) : Key := ⟨0x1400, i, 0x03⟩
abbrev O.rail_clear (i : Nat) : Key := ⟨0x1400, i, 0x04⟩
abbrev O.pace_last (i : Nat) : Key := ⟨0x1400, i, 0x00⟩
abbrev O.pace_lowest (i : Nat) : Key := ⟨0x1400, i, 0x01⟩

end Sys2Proof.Machine
end

