-- ==== Sys2Proof/Machine/Defaults.lean ====
section
/-! DEFINITION. The object at an address: its row of the object maps, and the value that it holds at Ready after a
start with no stored setting (R10), with the defaults that the maps give per instance. -/

namespace Sys2Proof.Machine

/-- The object map that family `f` gives its instance `i`; empty where the family has no such instance (R40). -/
def rowsOf (f i : Nat) : List Desc :=
  match f with
  | 0x1000 => if i = 0 then rowsId else []
  | 0x1010 => if i = 0 then rowsSec else if i ≤ 64 then rowsSlot else []
  | 0x1020 => if i = 0 then rowsBring else []
  | 0x1100 => if i = 0 then rowsFault else if i ≤ 4096 then rowsFsrc else []
  | 0x1200 =>
    if i = 0 then rowsFw else if i ≤ 6 then rowsPart
    else if i = 16 ∨ i = 17 then rowsImg else if 32 ≤ i ∧ i ≤ 35 then rowsKslot else []
  | 0x1300 => if i = 0 then rowsTwin else if i ≤ 16 then rowsTwt else []
  | 0x1400 =>
    if i = 0 then rowsPow else if i ≤ 2 then rowsDie
    else if 16 ≤ i ∧ i ≤ 28 then rowsRail else if 32 ≤ i ∧ i ≤ 47 then rowsPace else []
  | 0x2000 => if i ≤ 1023 then rowsLane else if i ≤ 1039 then rowsTile else []
  | 0x2100 => if i ≤ 1023 then rowsEq else []
  | 0x2200 => if i ≤ 1023 then rowsLtest else []
  | 0x2300 => if i ≤ 1023 then rowsPort else []
  | 0x2400 =>
    if i = 0 then rowsMesh else if i ≤ 1024 then rowsMlink
    else if 2048 ≤ i ∧ i ≤ 3071 then rowsMgroup else []
  | 0x3000 => if i ≤ 4095 then rowsSrc else []
  | 0x3100 => if i ≤ 4095 then rowsDst else []
  | 0x3200 => if i = 0 then rowsTakes else if i ≤ 4096 then rowsTake else []
  | 0x3300 => if i = 0 then rowsSalvos else if i ≤ 256 then rowsSalvo else []
  | 0x3400 =>
    if i = 0 then rowsPlacer else if i ≤ 32 then rowsPlane else if i ≤ 36 then rowsStackLed
    else if i ≤ 68 then rowsPool else if 256 ≤ i ∧ i ≤ 1279 then rowsHint else []
  | 0x3500 =>
    if i = 0 then rowsFsync else if i ≤ 4096 then rowsFsd
    else if 8192 ≤ i ∧ i ≤ 10239 then rowsStore else []
  | 0x3600 => if i ≤ 1023 then rowsSdi else []
  | 0x3700 =>
    if i = 0 then rowsPk else if i ≤ 1024 then rowsEth
    else if 2048 ≤ i ∧ i ≤ 6143 then rowsGrp
    else if 8192 ≤ i ∧ i ≤ 12287 then rowsFlow ++ rowsVflow
    else if 12288 ≤ i ∧ i ≤ 20479 then rowsFlow ++ rowsAflow else []
  | 0x3800 => if i ≤ 63 then rowsHead else []
  | 0x3900 => if i ≤ 2047 then rowsLayer else if i ≤ 2303 then rowsCgroup else []
  | 0x3A00 => if i ≤ 1023 then rowsScaler else []
  | 0x3B00 => if i ≤ 1023 then rowsFence else []
  | 0x4000 => rowsAsource
  | 0x4100 => rowsAdest
  | 0x4200 => if i = 0 then rowsSapAll else if i ≤ 64 then rowsSap else []
  | 0x4300 =>
    if i = 0 then rowsAsrc.filter (fun d => d.sub ≤ 2)
    else if i ≤ 2048 then rowsAsrc.filter (fun d => 3 ≤ d.sub) else []
  | 0x4400 => if i ≤ 15 then rowsAes else []
  | 0x4500 => if 1 ≤ i ∧ i ≤ 1024 then rowsLoud else []
  | 0x5000 => if i = 0 then rowsRefAll else if i ≤ 16 then rowsRef else []
  | 0x5100 => if i ≤ 3 then rowsDpll else if i = 4 then rowsXo else []
  | 0x5200 => if i ≤ 23 then rowsCko else if i = 24 then rowsVddo else []
  | 0x5300 => if i ≤ 3 then rowsSwp else []
  | 0x5400 => if i ≤ 3 then rowsTb else []
  | 0x5500 => if i ≤ 63 then rowsPtp else []
  | 0x5600 => if i ≤ 3 then rowsTsq else []
  | 0x5700 => if i = 0 then rowsLaunch else if i ≤ 1026 then rowsIfc else []
  | 0x6000 =>
    if i = 0 then rowsBanks else if i ≤ 2048 then rowsBank
    else if 4096 ≤ i ∧ i ≤ 4143 then rowsBank else []
  | 0x6100 =>
    if i = 0 then rowsIc else if i ≤ 12 then rowsIni else if 32 ≤ i ∧ i ≤ 51 then rowsTgt else []
  | 0x6200 => if i ≤ 3 then rowsHbm else []
  | 0x7000 =>
    if i ≤ 2047 then rowsAncx else if i ≤ 4095 then rowsAnci
    else if i ≤ 8191 then
      rowsFlow ++ [⟨0x20, .u32, .ro, 0, 0, 0, .none, .n 0⟩] else []
  | _ => []

/-- The row of the object at an address, where there is one (R33). -/
def descOf (k : Key) : Option Desc := (rowsOf k.fam k.inst).find? (fun d => d.sub = k.sub)

/-- The mark of an object whose default the spec makes depend on other state: it is computed when it is read
(`State.read`). No value of an object equals it. -/
def unsetN : Int := -1000000000000000000000

/-- A string literal as bytes. -/
def ascii (s : String) : Bytes := s.toList.map (fun c => BitVec.ofNat 8 c.toNat)

/-- The kind of video source `s` by its index (Table 1.5, R541). -/
def srcKindOf (s : Nat) : Nat :=
  if s < 1024 then 1 else if s < 3072 then 2 else if s < 3136 then 3 else if s < 3200 then 4 else 5

/-- The kind of video destination `d` by its index (Table 1.5, R541). -/
def dstKindOf (d : Nat) : Nat := if d < 1024 then 1 else if d < 3072 then 2 else 3

/-- The kind of an audio index (Table 1.6); generators are sources only. -/
def audioKindOf (i : Nat) : Nat :=
  if i < 32768 then 1 else if i < 61440 then 2 else if i < 63488 then 3 else if i < 63520 then 4
  else if i < 63536 then 5 else 0

/-- The use of an SRAM bank: the row of Table 18.1 (R461). -/
def bankUse (i : Nat) : Nat :=
  if i < 4096 then
    let k := (i - 1) % 128
    if k < 64 then 0 else if k < 80 then 1 else if k < 96 then 2 else if k < 104 then 3
    else if k < 112 then 4 else 5
  else
    let k := (i - 4096) % 24
    if k < 8 then 6 else if k < 16 then 7 else if k < 20 then 8 else if k = 20 then 9
    else if k = 21 then 10 else if k = 22 then 11 else 12

/-- The owner of an SRAM bank: the lane of an egress buffer, the first lane of an ingress buffer, the tile, the
compositor or the slice; FFFFh for a bank of the chip (Table 18.1, R461). -/
def bankOwner (i : Nat) : Nat :=
  if i < 4096 then
    let t := (i - 1) / 128
    let k := (i - 1) % 128
    if k < 64 then 64 * t + k else if k < 80 then 64 * t + 4 * (k - 64) else t
  else
    let d := (i - 4096) / 24
    let k := (i - 4096) % 24
    if k < 8 then 8 * d + k else if k < 16 then 8 * d + k - 8 else 65535

/-- The reaction set that a source offers (R441). -/
def offeredSet (src : Nat) : Nat :=
  1 + 2 + 16 + 32 + 64 + (if src / 128 ≤ 15 then 4 else 0) + (if faultClass src ≥ 2 then 8 else 0)

/-- The default reaction set of a class (Table 17.3). -/
def defaultReactions (cls : Nat) : Nat :=
  match cls with | 0 => 1 | 1 => 1 + 16 | 2 => 1 + 2 + 16 | _ => 1 + 2 + 32 + 64

/-- The default pair priority of an initiator (Table 18.6). -/
def initiatorPriority (i : Nat) : Byte :=
  if i ≤ 3 then 6 else if i ≤ 5 then 8 else if i = 6 then 4 else if i ≤ 8 then 9
  else if i = 9 then 11 else if i = 10 then 12 else 15

/-- The defaults that the maps give per instance, per part, per chip or per flash. What the spec leaves to the chip
or its flash takes the values of log entry 5. -/
def dfltAt (k : Key) : Option Val :=
  let i := k.inst
  match k.fam, k.sub with
  | 0x1000, 0x05 => some (.b (ascii "GE10240000000000"))
  | 0x1000, 0x08 => some (.b (ascii "1.0.0"))
  | 0x1000, 0x09 => some (.b (zeros 48))
  | 0x1010, 0x08 => if i = 0 then some (.b ((List.range 32).map (fun j => BitVec.ofNat 8 (j + 1)))) else none
  | 0x1100, 0x00 =>
    if i = 0 then some (.b (zeros 24))
    else some (.b (match faultKindOf (i - 1) with | some f => ascii f.name | none => []))
  | 0x1100, 0x01 => if i = 0 then none else some (.n (faultClass (i - 1)))
  | 0x1100, 0x02 =>
    if i = 0 then none
    else some (.n (match faultKindOf (i - 1) with | some f => defaultReactions f.cls | none => 0))
  | 0x1100, 0x03 =>
    if i = 0 then none
    else some (.n (match faultKindOf (i - 1) with | some _ => offeredSet (i - 1) | none => 0))
  | 0x1100, 0x09 => if i = 0 then none else some (.n (if faultClass (i - 1) ≤ 1 then 1 else 0))
  | 0x1200, 0x00 => if i = 16 then some (.n 2) else none
  | 0x1200, 0x01 =>
    if i = 16 ∨ i = 17 then some (.n 0x01000000) else if 32 ≤ i then some (.b (zeros 48)) else none
  | 0x1200, 0x02 => if i = 16 ∨ i = 17 then some (.b (zeros 48)) else none
  | 0x1400, 0x00 => if i = 1 then some (.n 0x40) else if i = 2 then some (.n 0x41) else none
  | 0x2300, 0x01 => some (.n i)
  | 0x2400, 0x00 => if i = 0 then some (.n 1) else none
  | 0x2400, 0x01 => if i = 0 then some (.n 1) else none
  | 0x3000, 0x00 => some (.n (srcKindOf i))
  | 0x3100, 0x00 => some (.n (dstKindOf i))
  | 0x3100, 0x0E => some (.n unsetN)
  | 0x3100, 0x0F => if dstKindOf i = 3 then some (.n 0) else none
  | 0x3100, 0x11 => some (.n unsetN)
  | 0x3100, 0x12 => if dstKindOf i = 3 then some (.n 0) else none
  | 0x3100, 0x02 => if dstKindOf i = 3 then some (.n 0) else none
  | 0x3100, 0x05 => if dstKindOf i = 3 then some (.n 0) else none
  | 0x3100, 0x06 => if dstKindOf i = 3 then some (.n 0) else none
  | 0x3100, 0x0A => if dstKindOf i = 3 then some (.n 0) else none
  | 0x3400, 0x00 =>
    if 35 ≤ i ∧ i ≤ 36 then some (.n 1) else if 37 ≤ i ∧ i ≤ 52 then some (.n 1048576)
    else if 53 ≤ i ∧ i ≤ 68 then some (.n 128) else none
  | 0x3700, 0x00 =>
    if 1 ≤ i ∧ i ≤ 1024 then some (.b (beBytes 6 (0x020000000000 + (i - 1)))) else none
  | 0x3700, 0x07 => if 1 ≤ i ∧ i ≤ 1024 then some (.n unsetN) else none
  | 0x3700, 0x0A =>
    if 8192 ≤ i ∧ i ≤ 12287 then some (.n 96) else if 12288 ≤ i then some (.n 97) else none
  | 0x3700, 0x0B => if 8192 ≤ i then some (.n unsetN) else none
  | 0x3700, 0x0C =>
    if 8192 ≤ i ∧ i ≤ 12287 then some (.n 34) else if 12288 ≤ i then some (.n 46) else none
  | 0x4000, 0x00 => some (.n (audioKindOf i))
  | 0x4100, 0x00 => some (.n (if audioKindOf i = 5 then 0 else audioKindOf i))
  | 0x5000, 0x00 => if i = 0 then none else some (.n (if i = 16 then 5 else 0))
  | 0x5000, 0x06 => if i = 0 then none else some (.n unsetN)
  | 0x5100, 0x00 => if i = 0 ∨ i = 4 then none else some (.n 1)
  | 0x5100, 0x03 => match i with | 1 => some (.n 1000) | 2 => some (.n 4096) | 3 => some (.n 625) | _ => none
  | 0x5100, 0x04 => match i with | 1 => some (.n 1001) | 2 => some (.n 4125) | 3 => some (.n 594) | _ => none
  | 0x5400, 0x04 => some (.n unsetN)
  | 0x5500, 0x05 => some (.n unsetN)
  | 0x5500, 0x06 => some (.n unsetN)
  | 0x5500, 0x08 => some (.n unsetN)
  | 0x5500, 0x0F => some (.b (beBytes 10 (i + 1)))
  | 0x6000, 0x00 => if i = 0 then none else some (.n (bankUse i))
  | 0x6000, 0x01 => if i = 0 then none else some (.n (bankOwner i))
  | 0x6100, 0x00 =>
    if 1 ≤ i ∧ i ≤ 12 then some (.b (List.replicate 20 (initiatorPriority (i - 1)))) else none
  | 0x6200, 0x01 => some (.n (i / 2))
  | 0x7000, 0x00 => if i ≤ 4095 then some (.n (i % 2048 / 2)) else none
  | 0x7000, 0x01 => if 2048 ≤ i ∧ i ≤ 4095 then some (.n (i % 2 + 1)) else none
  | 0x7000, 0x04 => if i ≤ 2047 then some (.n (i % 2 + 1)) else none
  | 0x7000, 0x0A => if 4096 ≤ i then some (.n 100) else none
  | 0x7000, 0x0B => if 4096 ≤ i then some (.n unsetN) else none
  | 0x7000, 0x0C => if 4096 ≤ i then some (.n 34) else none
  | _, _ => none

/-- The value that an object holds while `State.objs` does not list it (R10). -/
def dflt (k : Key) : Val :=
  match dfltAt k with
  | some v => v
  | none => match descOf k with | some d => d.dflt | none => .n 0

end Sys2Proof.Machine
end

