-- ==== Sys2Proof/Machine/State.lean ====
section
/-! DEFINITION. The state of the GE1024: plain data. Every object of the Odrath dictionary lives in `State.objs`,
which lists the objects that hold another value than their default (R10, R33); what the spec gives the chip beside
the objects (sessions, queues, paths, timers, journals) stands in the records below. -/

namespace Sys2Proof.Machine

/-! ## Faults and refusals -/

/-- Why the model stops with a fault. No command of the spec stops the GE1024, so no meaning raises one. -/
inductive Fault where
  /-- Never raised; it stands here because the interface asks for a type of faults. Safe. -/
  | none
  deriving DecidableEq, Repr

/-- Why the model refuses a command. -/
inductive Refusal where
  /-- Raised by Machine/Dispatch.lean for a command without a meaning. Safe: nothing is claimed of it. -/
  | notModelled (mnemonic : String)
  deriving DecidableEq, Repr

/-! ## What the chip sends -/

/-- A domain-control or twin notice that the chip sends (Tables 15.2 and 16.2). -/
inductive Notice where
  | part (pair slot gen : Nat) (entries : List (TakeEntry × Nat))
  | partReport (coord slot code index : Nat)
  | pour (pair slot e tb : Nat)
  | partDone (coord slot : Nat) (results : List (Nat × Nat))
  | drop (pair slot : Nat)
  | query (coord slot : Nat)
  | answer (pair slot outcome e tb : Nat)
  /-- A route that its destination's chip passes to its head, with the rate that it books and the hops that its D allows (R87). -/
  | routeToHead (head dst src mbps limit : Nat)
  | reserved (head ident code detail : Nat)
  /-- From a head: the part that a chip is to reserve, with the lanes by which the route comes and leaves, and the route's hops. -/
  | routeReserve (head ident dst src inn out mbps hops : Nat)
  | routeConfirm (head ident : Nat) (ok : Bool)
  | routeResult (dst code detail : Nat)
  | heartbeat
  | linkList (links booked : List (Nat × Nat × Nat))
  | plan (revision : Nat)
  | forward (target : Nat) (raw : Bytes)
  | credit (lane cls count : Nat)
  | training (lane : Nat) (set : TrainingSet)
  | linkDown (lane : Nat) (cause : LinkLoss)
  | twinHello
  | twinHeartbeat
  | safeState
  | powerFail
  | handoverRequest (cause : Nat)
  | handoverCommit
  | probe
  | probeReply
  | activation (pair : Nat) (act : Bytes)
  | activationReport (coord code : Nat)
  | activationAbort (pair : Nat)
  deriving DecidableEq, Repr

/-- The active picture of a line that an output sends: the frame that its path gives, black with silence, or no line or packet at
all (an idle transmitter, or a packet output without data). -/
inductive LineContent where
  | data
  | black
  | nothing
  deriving DecidableEq, Repr

/-- The timecode packet on a line (R210): none, the source's, or one that the chip generates, by its count of frames since
midnight and whether drop-frame counting numbers them. -/
inductive LineCode where
  | none
  | source
  | generated (frames : Nat) (drop : Bool)
  deriving DecidableEq, Repr

/-- A line that an output sends (R83, R207 to R210, R216, Table 17.4): its content, the payload ID (0 none, 1 generated, 2 the
source's), whether it carries an EDH packet, its timecode, and the audio groups embedded. -/
structure LineOut where
  content : LineContent
  payloadId : Nat
  edh : Bool
  code : LineCode
  groups : Nat
  deriving DecidableEq, Repr

/-- What leaves the chip, in order. -/
inductive Out where
  /-- An Odrath message (a reply or an event) on its path (R46, R64). -/
  | msg (via : Via) (raw : Bytes)
  /-- The verdict on one object record of a `Writer` command, by the codes of Table 2.13. -/
  | result (k : Key) (code : Nat)
  /-- An item on the twin link, with its number (Table 16.2). -/
  | mirror (seq : Nat) (item : MirrorItem)
  /-- An acknowledgement on the twin link (R420). -/
  | mirrorAck (seq : Nat)
  /-- A notice to another chip, or to the twin. -/
  | notice (dest : Nat) (n : Notice)
  /-- An RTP packet of a transmit flow: its sequence number, timestamp and SSRC (R224, R229). -/
  | packet (iface : Nat) (fam inst seq ts ssrc : Nat)
  /-- A frame that answers a neighbour (R223). -/
  | neighbour (port kind : Nat) (data : Bytes)
  /-- A membership report, or a leave (R246, R247). -/
  | membership (port : Nat) (group : Bytes) (join : Bool)
  /-- A PTP message of a port (R350): with the clockClass and clockAccuracy that an Announce carries, and the UTC offset of
  its synchronisation metadata TLV where it has one (R352, R353). -/
  | ptp (port : Nat) (kind : PtpSend) (cls acc : Nat) (tlv : Option Int)
  /-- A launch request's frame (R363). -/
  | launch (iface : Nat) (frame : Bytes)
  /-- A PMBus command to a die's regulator: VOUT_COMMAND in mV (R73). -/
  | vout (die mv : Nat)
  /-- A frame that a head composes (R259, R262): its background, and its layers from bottom to top with the window frame
  that each video layer reads. -/
  | composed (head background : Nat) (layers : List (Nat × Nat))
  /-- A TDM frame of a SAP direction: its number, and whether its slots, or the samples given to the matrix, are zero
  (R300). -/
  | tdm (dir frame : Nat) (zero : Bool)
  /-- A line of a destination, by its number, or 0 where a discarded cell would have fed it (R83). -/
  | line (d n : Nat) (l : LineOut)
  /-- An ancillary packet that an insertion slot places: its port, slot, line, space, stream and link (R212). -/
  | ancillary (port slot line space stream link : Nat)
  /-- A handshake response of the control interconnect (R473, R474). -/
  | icResp (init ident : Nat) (error : Bool) (data : Nat)
  /-- WAKE_N driven low for 10 µs (R516). -/
  | wakeN
  /-- A registration of the NMOS node with a registry (R249), with the resources of Table 9.6: the node's label, the pair, and
  the family, instance and group of each sender. One receiver stands for every receive flow, whatever the state (R250). -/
  | nmos (registry label : Bytes) (pair : Nat) (senders : List (Nat × Nat × Nat))
  deriving DecidableEq, Repr

/-! ## Sessions and messages (02) -/

/-- What answers a request later: its path and the header fields that its reply repeats (R46, R55). -/
structure Ticket where
  via : Via
  typ : Nat
  role : Nat
  ident : Nat
  seq : Nat
  target : Nat
  fwd : Bool
  key : Bytes
  slot : Nat
  deriving DecidableEq, Repr

/-- A change queued for a subscription: its number, the object, and the TB0 time of the change (R64). -/
structure QEntry where
  num : Nat
  key : Key
  at' : Nat
  deriving DecidableEq, Repr

/-- An open session (R54, R55): its slot of 1010h, its role and identifier, the role key it opened under, the path
of its latest message, the sequences seen in its window, its last 32 messages with their replies (newest first; no
bytes while a message is not answered), the accepted messages not yet answered, and its event queue. -/
structure Session where
  slot : Nat
  role : Nat
  ident : Nat
  key : Bytes
  via : Via
  lastAt : Nat
  seen : List Nat
  recent : List (Nat × Bytes)
  waiting : List Nat
  evSeq : Nat
  evq : List QEntry
  lost : Nat
  deriving DecidableEq, Repr

/-- A subscription (R63): its session slot, its number, mode, interval in ms, and the pattern it matches. -/
structure Sub where
  slot : Nat
  num : Nat
  mode : Nat
  interval : Nat
  fam : Nat
  inst : Nat
  sub : Nat
  since : Nat
  deriving DecidableEq, Repr

/-- An open bulk transfer (R65): for a write the pieces that have arrived, for a read the value. -/
structure Bulk where
  handle : Nat
  slot : Nat
  key : Key
  write : Bool
  total : Nat
  pieces : List (Nat × Bytes)
  lastAt : Nat
  deriving DecidableEq, Repr

/-- A bulk handle whose BULK_CLOSE was applied: whether as a commit, and until when its number rests (R66). -/
structure Retired where
  handle : Nat
  committed : Bool
  until' : Nat
  deriving DecidableEq, Repr

/-- The protocol side of the chip. `priority` holds the record numbers of the takes in the priority queue (R62);
`held` the replies that wait for the twin's acknowledgement, each with the mirror number it waits for (R420);
`forwards` the requests that this chip, as a head, has forwarded and not yet seen answered (R51). -/
structure Proto where
  sessions : List Session
  subs : List Sub
  bulks : List Bulk
  retired : List Retired
  priority : List Nat
  spiOut : List Bytes
  held : List (Nat × Ticket × Bytes)
  forwards : List Ticket
  factoryKey : Bytes
  deriving DecidableEq, Repr

/-! ## Sources, routes, takes and placement (04 to 07) -/

/-- The timing record of a video source (R106, R107): since when it is present, the instant of its latest frame, and
the measured offsets of the frames of the last second. -/
structure SrcTiming where
  s : Nat
  since : Nat
  last : Nat
  offs : List (Nat × Int)
  deriving DecidableEq, Repr

/-- A take, a re-placement or a salvo entry on its way to the switch (R109 to R114, R129, R143). `slot` is its take
slot (0 for none), `inst` its switch instant S on the destination's time base, `state` as 3200h[n].00 codes it,
`armed` the instant it armed and `switchAt` its eligible switch instant on the destination's time base. -/
structure TakeRec where
  num : Nat
  slot : Nat
  dst : Dst
  src : Nat
  mode : Nat
  prio : Bool
  repl : Bool
  part : Option (Nat × Nat × Nat)
  inst : Option Nat
  ticket : Option Ticket
  state : Nat
  pl : Option Placement
  prime : Option Nat
  switchAt : Option Nat
  deriving DecidableEq, Repr

/-- A route in force: its placement, the placements that it has left and whose bookings are not yet released (R175
step 4), whether it awaits restoration (R176), and whether it follows its video destination (R120). -/
structure Route where
  dst : Dst
  pl : Placement
  old : List Placement
  lost : Bool
  follows : Bool
  deriving DecidableEq, Repr

/-- A task of the placer (R167). -/
inductive Task where
  | take (num : Nat)
  | part (coord slot : Nat)
  | reserve (head ident : Nat) (pl : Placement)
  | reoptimise
  | replace (d : Dst)
  | restore (d : Dst)
  deriving DecidableEq, Repr

/-- A booking of HBM space and bandwidth by its user: the family and instance of the object that owns it. -/
structure HbmBook where
  fam : Nat
  inst : Nat
  stack : Nat
  mbps : Nat
  bytes : Nat
  deriving DecidableEq, Repr

/-- A store (R183 to R187): its object fields as 3500h[8192 + i] shows them (state 1 priming, 2 primed, 3 deepening),
its sampling, the frames it holds as (count, write start), newest first, the frame being written, the tiles that
write and read it, its write stripes, and the store that deepens it. -/
structure StoreRec where
  i : Nat
  state : Nat
  purpose : Nat
  src : Nat
  fmt : Nat
  smp : Nat
  stack : Nat
  depth : Nat
  frames : List (Nat × Nat)
  written : Nat
  writing : Option (Nat × Nat)
  writeTile : Nat
  readTile : Nat
  stripes : List Stripe
  deeper : Option Nat
  deriving DecidableEq, Repr

/-- An ASRC channel in use: its slice, its destination and source audio indices (R158, R301). -/
structure AsrcBook where
  ch : Nat
  slice : Nat
  dst : Nat
  src : Nat
  deriving DecidableEq, Repr

/-- What the placer has worked out for a task (R152): placements by take record, the stores that they need newly, the
stores that these deepen as (old, new), ASRC channels, HBM bookings, scaler allocations, the stripes moved to make
room as (feed, link, new plane) (R157), and the routes that a re-optimisation moves (R171). -/
structure Plan where
  pls : List (Nat × Placement)
  stores : List StoreRec
  deepens : List (Nat × Nat)
  asrc : List AsrcBook
  hbm : List HbmBook
  allocs : List (Nat × Nat)
  moved : List (Nat × Nat × Nat)
  moves : List (Dst × Placement)
  deriving DecidableEq, Repr

/-- What a placement came to: a plan, or the reply code and detail of a refusal with the entry it fell on. -/
inductive Verdict where
  | placed (plan : Plan)
  | refused (code detail index : Nat)
  deriving DecidableEq, Repr

/-- A part of a cross-chip route that this chip has reserved for a head (R173, R174). -/
structure Reserve where
  head : Nat
  ident : Nat
  pl : Placement
  since : Nat
  confirmed : Bool
  deriving DecidableEq, Repr

/-- The placer: its queue, the task under way with its verdict, the tasks that wait until the stripes moved for them
have left the routes named (R157), and its ledgers (R161, R167). -/
structure Placer where
  queue : List Task
  running : Option (Task × Verdict)
  parked : List (Task × List Dst)
  hbm : List HbmBook
  asrc : List AsrcBook
  reserves : List Reserve
  nextNum : Nat
  deriving DecidableEq, Repr

/-- A destination's read state: the frame it read last, the frames still to hold after a change of its programme delay,
and on a standby the frame that the primary's read decision names (R184, R192, R421). -/
structure ReadRec where
  d : Nat
  last : Nat
  hold : Nat
  told : Option Nat
  deriving DecidableEq, Repr

/-- The switching side of the chip. `marks` gives for a video destination bit 0 for a line filled in its present frame,
bit 1 in its last frame, bit 2 while it repeats or substitutes; `finals` the take slots that reached a final state, oldest
first; `discards` holds the instants of the last hour's cell discards by plane, and
`hbmErrs` those of uncorrectable words by stack (Table 17.2, R196); `moving` the stripes that stores leave, with
whether the stream has switched (R175). -/
structure Switching where
  timing : List SrcTiming
  routes : List Route
  takes : List TakeRec
  stores : List StoreRec
  reads : List ReadRec
  marks : List (Nat × Nat)
  finals : List (Nat × Nat)
  discards : List (Nat × Nat)
  hbmErrs : List (Nat × Nat)
  moving : List (Nat × Stripe × Bool)
  deriving DecidableEq, Repr

/-! ## Salvos (05) -/

/-- A salvo that this chip coordinates and has not finished (R138 to R144). `parts` gives each member pair and its
state: 0 sent, 1 prepared, 2 done; `decided` is the instant at which the pour was decided while the twin's
acknowledgement is awaited; `results` holds a word of Table 5.10 by list index. -/
structure Salvo where
  slot : Nat
  gen : Nat
  onCommand : Bool
  p : Nat
  e : Nat
  lead : Nat
  tb : Nat
  accepted : Nat
  parts : List (Nat × Nat)
  decided : Option Nat
  results : List (Nat × Nat)
  deriving DecidableEq, Repr

/-- A part of a salvo that this chip holds as member (R139, R143, R148): its entries with E on each destination's
time base, the take records made for them, and its state: 0 placing, 1 prepared, 2 poured. -/
structure Part where
  coord : Nat
  slot : Nat
  gen : Nat
  entries : List (TakeEntry × Nat)
  takes : List Nat
  state : Nat
  results : List (Nat × Nat)
  deriving DecidableEq, Repr

/-- The salvos of the chip; `kept` holds, by slot, until when a finished salvo is kept for its members (R147). -/
structure Salvos where
  own : List Salvo
  parts : List Part
  kept : List (Nat × Nat)
  deriving DecidableEq, Repr

/-! ## SDI ports (08) and packet video (09) -/

/-- The SDI side, by port: the instant at which an error was last counted (R206), the rate that its lane locked at in
kb/s (R203), and the instant at which a packet of its slots was last discarded (R212). -/
structure Sdi where
  errAt : List (Nat × Nat)
  rate : List (Nat × Nat)
  ovfAt : List (Nat × Nat)
  deriving DecidableEq, Repr

/-- One packet held by a reorder buffer: its extended sequence, RTP timestamp, marker, the instants of its arrival
on legs A and B, and a hash of its content (R238, R241, R242). -/
structure HeldPacket where
  seq : Nat
  ts : Nat
  marker : Bool
  a : Option Nat
  b : Option Nat
  hash : Nat
  deriving DecidableEq, Repr

/-- The receive side of one flow (R235 to R243): the SSRC it follows, the packets held, the sequences missing with
the instant of the first arrival above each, the sequences declared lost, the highest sequence seen, the instant of
the latest packet of each leg, whether each leg is down, the path differences of the last second, and since when
their mean exceeds the window. -/
structure RxFlow where
  fam : Nat
  inst : Nat
  ssrc : Option Nat
  held : List HeldPacket
  missing : List (Nat × Nat)
  lost : List Nat
  top : Option Nat
  lastA : Option Nat
  lastB : Option Nat
  downA : Bool
  downB : Bool
  diffs : List (Nat × Int)
  skewSince : Option Nat
  deriving DecidableEq, Repr

/-- A membership of a receive leg (R246, R247): the unsolicited reports still to send, and when it ends after its
last route has gone. -/
structure Member where
  fam : Nat
  inst : Nat
  leg : Nat
  reports : Nat
  leaveAt : Option Nat
  deriving DecidableEq, Repr

/-- An address that a transmit leg resolves (R223): since when, and the answer. -/
structure Resolve where
  fam : Nat
  inst : Nat
  leg : Nat
  since : Nat
  mac : Option Nat
  deriving DecidableEq, Repr

/-- The staged parameters of an IS-05 connection and the TAI instant of its activation (R251). -/
structure Is05 where
  fam : Nat
  inst : Nat
  legs : List Is05Leg
  at' : Nat
  deriving DecidableEq, Repr

/-- The packet side: receive flows, memberships, address resolution, IS-05 activations, and the cell streams of legs B
that stand on another tile than leg A, by flow (R241). -/
structure Packet where
  rx : List RxFlow
  members : List Member
  resolves : List Resolve
  is05 : List Is05
  legStripes : List (Nat × Stripe)
  deriving DecidableEq, Repr

/-! ## Composition (10) -/

/-- A scaler in use (R262, R264, R267, R269): whether it writes the present frame of its source, whether a frame start of
it has passed since its partner wrote, the start of the frame that it wrote last, its newest complete window frame by
number, and whether it is on its fallback. -/
structure ScalerRec where
  n : Nat
  writing : Bool
  passed : Bool
  wroteAt : Nat
  newest : Nat
  fell : Bool
  deriving DecidableEq, Repr

/-- A pending commit of a lone layer (R270, R271): the first flip point that may carry it, on its head's time base, and
the fence and value read at the commit; FFFFh for no fence, or one that has been reached. -/
structure Commit where
  layer : Nat
  first : Nat
  fence : Nat
  value : Nat
  deriving DecidableEq, Repr

/-- A pending commit of a commit group (R273): its first eligible flip point, and each member's fence and value. -/
structure GroupCommit where
  group : Nat
  first : Nat
  members : List (Nat × Nat × Nat)
  deriving DecidableEq, Repr

/-- One accepted image value (Table 10.4): its rectangle, the palette it uses (empty for RGBA), and its pixels. -/
structure ImageRect where
  fmt : Nat
  x : Nat
  y : Nat
  w : Nat
  h : Nat
  palette : Bytes
  pixels : Bytes
  deriving DecidableEq, Repr

/-- The image buffers of a layer, as the rectangles laid on a clear buffer, later ones on top, and the palette that
persists (R277). -/
structure LayerImage where
  layer : Nat
  front : List ImageRect
  back : List ImageRect
  palette : Bytes
  deriving DecidableEq, Repr

/-- The composition side beside its objects: the scalers in use, pending commits of layers and groups, layers whose
staged image waits for the twin, with the mirror number and since when (R276), image buffers, the window frame that
each video layer shows, and on a standby the one that the primary reads (R262, R421). -/
structure Comp where
  scalers : List ScalerRec
  commits : List Commit
  groups : List GroupCommit
  waits : List (Nat × Nat × Nat)
  images : List LayerImage
  shown : List (Nat × Nat)
  told : List (Nat × Nat)
  deriving DecidableEq, Repr

/-! ## Audio (11) -/

/-- A SAP direction that is armed or runs (R296 to R300), by its 4200h instance: the grid instant on TB0 from which it may
start (none while its armed set waits), the TB0 instant of its first frame, its frame count, the instant of its latest
frame, that of the latest write of mask, packing or idle drive, whether it stops at the end of its frame, and its
sample memory: the mask and packing of each of its latest 64 frames, oldest first, with the index under which their
samples are free (R295, log entry 18). -/
structure SapRec where
  dir : Nat
  grid : Option Nat
  first : Option Nat
  frames : Nat
  latest : Nat
  wroteAt : Nat
  stopping : Bool
  ring : List (Nat × Nat)
  data : Nat
  deriving DecidableEq, Repr

/-- A change of gain, mute or polarity that ramps (R290), or of delay that fades: the destination, its subindex, the value
left, and when the change began. -/
structure Ramp where
  d : Nat
  sub : Nat
  old : Int
  since : Nat
  deriving DecidableEq, Repr

/-- The audio side beside its objects: SAP directions whose measurement confirms their declared DPLL, and those within
1 ppm of it with since when (R297); directions armed or running; the rate of each direction at its last rate event;
the start instant written for the armed set (R299); ramps; sources whose latest block declares non-audio (R285); the
instant of the latest slip by destination (Table 11.10); loudness groups whose reset waits for an update, and
since when their short-term loudness lies above (true) or below its tolerance (R306). -/
structure Audio where
  confirmed : List Nat
  within : List (Nat × Nat)
  saps : List SapRec
  rates : List (Nat × Nat)
  startAt : Option Nat
  ramps : List Ramp
  nonAudio : List Nat
  slipAt : List (Nat × Nat)
  resets : List Nat
  alarms : List (Nat × Bool × Nat)
  deriving DecidableEq, Repr

/-! ## References and time (12, 13) -/

/-- A reference entry as the selector sees it (R314 to R317): the instant of its latest phase sample, its frequency over
the last 10 s in ppt, since when it has passed every test, and since when it has been qualified. -/
structure RefRec where
  e : Nat
  last : Nat
  freq : Int
  passSince : Option Nat
  qualSince : Option Nat
  deriving DecidableEq, Repr

/-- A DPLL beside its objects (R318 to R334): the entry selected last (R324), whether it builds out a change of entry and
the offset built out (R323), since when it is in its state, its frequencies while locked by the evaluation at which they
were taken (R318), the frequency it leaves and when, and the one it moves towards (R327), all in 0.01 ppt, and the
armed epoch E (R334). -/
structure DpllRec where
  k : Nat
  lastSel : Nat
  building : Bool
  offset : Int
  since : Nat
  hist : List (Nat × Int)
  freqFrom : Int
  freqAt : Nat
  freqTo : Int
  epoch : Option Nat
  deriving DecidableEq, Repr

/-- A phase or offset that moves linearly (R335, R340): 0 a clock output's phase, 1 a sync-word port's timing offset, 2 its
advance, of unit `n`: the value it left, in ps, and when. -/
structure Glide where
  kind : Nat
  n : Nat
  start : Int
  since : Nat
  deriving DecidableEq, Repr

/-- The timing block beside its objects: entries, DPLLs, moving phases, when staged values of outputs were accepted as
(output, subindex, instant), and since when outputs and sync-word ports (64 + n) are enabled. -/
structure Timing where
  refs : List RefRec
  dplls : List DpllRec
  glides : List Glide
  staged : List (Nat × Nat × Nat)
  enabled : List (Nat × Nat)
  deriving DecidableEq, Repr

/-- A time base: its reading was `base` ns of TAI at the instant `at'`, and advances by 1 ns per ns (log entry 3) while
`corr` ns are added at `slew` ns a second (R348); `stepped` is its reading right after its latest step, 0 for none
(R359). -/
structure Tb where
  base : Nat
  at' : Nat
  corr : Int
  slew : Nat
  stepped : Nat
  deriving DecidableEq, Repr

/-- A master as its Announce messages describe it (R347). -/
structure PtpMaster where
  p1 : Nat
  cls : Nat
  acc : Nat
  var : Nat
  p2 : Nat
  gm : Bytes
  steps : Nat
  utc : Int
  sender : Bytes
  deriving DecidableEq, Repr

/-- An enabled PTP port (R347): the masters it hears with the instant of the latest Announce of each, the Sync messages
measured since it follows its master, since when it listens, and whether an announce receipt timeout has passed with
no master heard since. -/
structure PtpRec where
  port : Nat
  heard : List (PtpMaster × Nat)
  meas : Nat
  since : Nat
  timedOut : Bool
  deriving DecidableEq, Repr

/-- A time base's PTP instance (R347, R356 to R360): the port and sender that it follows, the consecutive measurements
beyond the guard, whether it has had its first jump since Ready, the step instant accepted, and the instant of the
latest announce receipt timeout with the announce interval of its port. -/
structure TbRec where
  tb : Nat
  follows : Option (Nat × Bytes)
  overs : Nat
  jumped : Bool
  accept : Option Nat
  lostAt : Option (Nat × Nat)
  deriving DecidableEq, Repr

/-- A launch request that is pending (Table 13.7). -/
structure LaunchReq where
  tb : Nat
  stamp : Bool
  iface : Nat
  ident : Nat
  instant : Nat
  frame : Bytes
  deriving DecidableEq, Repr

/-- Time bases and launch beside their objects: PTP ports, instances, launch requests in acceptance order, and the number
of the packet launched last on each leg of a transmit flow, as (family, instance, leg). -/
structure Clocks where
  ports : List PtpRec
  tbs : List TbRec
  launches : List LaunchReq
  lastTx : List ((Nat × Nat × Nat) × Nat)
  deriving DecidableEq, Repr

/-! ## Lanes and mesh (14, 15) -/

/-- The lanes beside their objects: the instant of the latest character error of a mesh lane (R381), and the start of the
test that runs on a lane (R389). -/
structure Lanes where
  codeAt : List (Nat × Nat)
  tests : List (Nat × Nat)
  deriving DecidableEq, Repr

/-- Another chip of the domain as this chip hears it (R407): its latest heartbeat, its state and plan revision, the links of its
latest list as (lane, peer chip, peer lane), and its mesh ledger as it reports it (R173): for a lane what is booked and what may be. -/
structure MeshPeer where
  chip : Nat
  lastBeat : Nat
  state : Nat
  rev : Nat
  links : List (Nat × Nat × Nat)
  booked : List (Nat × Nat × Nat)
  deriving DecidableEq, Repr

/-- A mesh lane beside its objects (R398 to R403): its credits of data and control cells, the instants of the latest
credit of each class, the instants of the cells discarded in the last second, the round trips of the echoes so far in
character times of 0.4 ns, less the turnarounds, whether the far end's announce has been heard, and what the far end's announce said: chip, pair role, version range, lane and plan revision. -/
structure MeshLane where
  lane : Nat
  data : Nat
  ctl : Nat
  dataAt : Nat
  ctlAt : Nat
  errs : List Nat
  echoes : List Nat
  heard : Bool
  peerRole : Nat
  vmin : Nat
  vmax : Nat
  rev : Nat
  deriving DecidableEq, Repr

/-- A chip's part of a cross-chip route: the mesh lanes by which the route comes to it and leaves it, 1 024 for none (R173). -/
structure RoutePart where
  chip : Nat
  inn : Nat
  out : Nat
  deriving DecidableEq, Repr

/-- A cross-chip route that this chip coordinates as head (R173): its number, the chip that asked, destination, source and rate, the
candidates left (the present one first) with their parts in the order of asking, and how many parts have been reserved. -/
structure HeadRoute where
  ident : Nat
  asker : Nat
  dst : Nat
  src : Nat
  mbps : Nat
  cands : List (List RoutePart)
  got : Nat
  deriving DecidableEq, Repr

/-- The mesh and the domain beside their objects. -/
structure Mesh where
  peers : List MeshPeer
  lanes : List MeshLane
  routes : List HeadRoute
  nextRoute : Nat
  deriving DecidableEq, Repr
/-! ## The twin (16) -/

/-- A hand-over that is pending or committed (R433, R434): its cause as 1300h[0].13 codes it, the commit point C on a time
base, and whether a restart waits for its done (R513). -/
structure HandOver where
  cause : Nat
  tb : Nat
  c : Nat
  restart : Bool
  deriving DecidableEq, Repr

/-- The comparison of a destination's signatures (R423): whether of its audio, the frames in a row that differ, the instant
of the latest difference, and whether its finding stands. -/
structure SigRun where
  dst : Nat
  audio : Bool
  run : Nat
  badAt : Nat
  found : Bool
  deriving DecidableEq, Repr

/-- What a standby last reported of itself (Table 16.2): whether it is at Ready and in safe state, and its findings. -/
structure Report where
  ready : Bool
  safe : Bool
  findings : List Finding
  deriving DecidableEq, Repr

/-- The twin beside its objects. The number of the next mirror item and the latest one acknowledged (R420); the items sent
and not yet acknowledged with their instants; the acknowledgement delays of the last second; the marked images
mirrored in the last second, in bytes; the twin as the last handshake knew it; the Barometer reported last, by a standby or to a
primary; the mesh probe (0 none, 1 sent, 2 answered);
a hand-over; since when the Barometer is clear (R436); comparisons; destinations whose next frame is left out of
comparison (R358, R420, R421); failed banks and blocks (R425); lanes whose loopback failed (R426); and whether the chip
lost service by fail-over and has not caught up (R432); and during a catch-up the mirrored objects and the destinations that
the primary has sent (R415). -/
structure Twin where
  seq : Nat
  acked : Nat
  sent : List (Nat × Nat)
  lags : List (Nat × Nat)
  images : List (Nat × Nat)
  hello : Option TwinHello
  report : Option Report
  probe : Nat
  hand : Option HandOver
  clearSince : Option Nat
  sigs : List SigRun
  skip : List Nat
  bist : List (Nat × Nat)
  loops : List Nat
  behind : Bool
  caught : List Key
  caughtDst : List Nat
  deriving DecidableEq, Repr

/-! ## Faults (17) -/

/-- The fault collector beside its objects: the injection armed (target, unit, symbols), the block resets under way
as (source, unit), the outputs that still carry safe content after safe state was left (R452), and the sources whose
condition held when the chip restarted, with their unit and detail: they latch again at Ready (R448); and what a start
raises once the collector has started in phase 0. -/
structure Faults where
  inject : Option (Nat × Nat × Nat)
  injecting : Bool
  resets : List (Nat × Nat)
  safeOut : List Dst
  relatch : List (Nat × Nat × Nat)
  due : List (Nat × Nat × Nat)
  deriving DecidableEq, Repr

/-! ## Memory banks and interconnect (18) -/

/-- A request that waits at a target of the interconnect (R472 to R477): its place in issue order, and the handshake slots
that it has waited. -/
structure IcWait where
  req : IcReq
  num : Nat
  waited : Nat
  deriving DecidableEq, Repr

/-- A request that a target has accepted: its place in issue order, the slots that it has lost at its bank (R467), whether
it has been performed, and then the word that it answers. -/
structure IcTaken where
  req : IcReq
  num : Nat
  losses : Nat
  performed : Bool
  data : Nat
  deriving DecidableEq, Repr

/-- A locked sequence (R477): its beats so far, and whether it has been cut. -/
structure IcLock where
  init : Nat
  target : Nat
  beats : Nat
  cut : Bool
  deriving DecidableEq, Repr

/-- Banks and interconnect beside their objects: the words of banks and of the HBM management windows that hold another
value than 0, by (6000h instance, or 8192 + stack) and word address; the instants of the last hour's uncorrectable words by
bank (R470); and of the interconnect the number of the next request, requests stalled at their initiator (R472), waiting
and accepted ones, responses held for their order, lock requests that wait, and locks. -/
structure Memory where
  words : List ((Nat × Nat) × Nat)
  errs : List (Nat × Nat)
  next : Nat
  stalled : List IcReq
  waiting : List IcWait
  taken : List IcTaken
  held : List (IcTaken × Bool)
  lockWaits : List (Nat × Nat)
  locks : List IcLock
  deriving DecidableEq, Repr

/-! ## Firmware (19) -/

/-- A firmware image as its manifest describes it (R483). -/
structure Image where
  hash : Bytes
  version : Nat
  settings : Nat
  keySlot : Nat
  meshMin : Nat
  meshMax : Nat
  peers : List (Nat × Nat)
  deriving DecidableEq, Repr

/-- A record of the carry-over block (Table 19.7). -/
inductive CarryRec where
  | object (k : Key) (v : Val)
  | route (dst src mode : Nat)
  | timed (e : TakeEntry) (s : Nat)
  | part (salvo coord e : Nat) (entries : List TakeEntry)
  | dpll (k state selected : Nat) (freq model : Int) (valid : Bool)
  | timeBase (tb role reading count : Nat)
  deriving DecidableEq, Repr

/-- This chip's part in an activation (R494 to R498): its coordinator, the activation, whether the chip is the first of its
pair to restart, its stage (0 prepared, 1 restarting, 2 on probation, 3 passed, 4 complete), and the end of its
probation. -/
structure Activation where
  coord : Nat
  raw : Bytes
  first : Bool
  stage : Nat
  until' : Nat
  deriving DecidableEq, Repr

/-- The flash and firmware beside their objects: the images and settings of slots A and B; whether the slot's next start is
the first of a new image; the caddy's manifest; whether the next start copies the caddy, whether a copy has begun and not
flipped (R491), and whether the copy is aborted (R492); the carry-over block, the bytes used in its region; the fault log
and brown-out ring as flash holds them; the chip's part in an activation; on a coordinator the reports of chips; and at a
start what the carry-over block brings at Ready. -/
structure Firmware where
  images : List Image
  settings : List (List (Key × Val))
  newImage : Bool
  caddy : Bytes
  copyDue : Bool
  copying : Bool
  copyOff : Bool
  carry : List CarryRec
  used : Nat
  log : Bytes
  ring : Bytes
  act : Option Activation
  reports : List (Nat × Nat)
  resume : List CarryRec
  deriving DecidableEq, Repr

/-! ## Power and bring-up (20) -/

/-- A brown-out under way (R508): its rail, the instant of its trip, and the TB0 time that its record holds. -/
structure Brownout where
  rail : Nat
  since : Nat
  time : Nat
  deriving DecidableEq, Repr

/-- Power and bring-up beside its objects: the pin READY and since when it is high, the pin BOOT_PH, the supplies' PWRGD and
RESET_N (R509), whether an instruction of the TAP holds the chip (R536), whether PWRGD has fallen since the last start,
the kind of restart a start goes on from (Table 20.9), whether bring-up has restarted for an overrun and whether it is
held (R511), the ms of the phases run, lanes that failed calibration, the dies on which PACE_MARGIN stands and those on
which PACE_SHORT stands (R76), brown-outs under way and the ring as it stood at the last Ready (Table 20.2), and of the voltage
loops by die: since when pace lies above the working margin (R74), the setpoint sent last, and the regulators that fail
(R78); the instant of the wake from Lull under way (R517); and the restart that the command under way ends in, by its cause
as 1020h[0].06 codes it. -/
structure Power where
  ready : Bool
  readyAt : Nat
  bootPh : Nat
  pwrgd : Bool
  resetN : Bool
  tap : Bool
  lost : Bool
  cause : Nat
  overrun : Bool
  stuck : Bool
  times : List Nat
  lanesBad : List Nat
  margin : List Nat
  short : List Nat
  brown : List Brownout
  ringAtReady : Bytes
  above : List (Nat × Nat)
  sent : List (Nat × Nat)
  badReg : List Nat
  wakeAt : Nat
  due : Option Nat
  deriving DecidableEq, Repr

/-! ## The whole -/

/-- The state of the chip. `pending` is the model's own queue of commands that wait (log entry 1), `now` the chip's
own time in ns (log entry 2), `free` the index of the next command's free values (log entry 4), `objs` the objects
that hold another value than their default, sorted by address, `lag` the values still in force of objects whose
latest accepted value has not yet taken effect (R37, R38), and `out` what the chip has sent, oldest first. -/
structure State where
  pending : List Instr
  now : Nat
  free : Nat
  objs : List (Key × Val)
  lag : List (Key × Val)
  out : List Out
  proto : Proto
  sw : Switching
  placer : Placer
  salvos : Salvos
  sdi : Sdi
  packet : Packet
  comp : Comp
  audio : Audio
  timing : Timing
  tbs : List Tb
  clocks : Clocks
  lanes : Lanes
  mesh : Mesh
  twin : Twin
  faults : Faults
  mem : Memory
  fw : Firmware
  power : Power
  deriving DecidableEq, Repr

/-- The machine right after reset: every object at its default, nothing placed, booked, open or latched, READY low
and bring-up not begun. Values that the spec does not give are those of log entry 5. -/
def State.reset : State where
  pending := []
  now := 0
  free := 0
  objs := []
  lag := []
  out := []
  proto := ⟨[], [], [], [], [], [], [], [], (List.range 32).map (fun i => BitVec.ofNat 8 (i + 33))⟩
  sw := ⟨[], [], [], [], [], [], [], [], [], []⟩
  placer := ⟨[], none, [], [], [], [], 1⟩
  salvos := ⟨[], [], []⟩
  sdi := ⟨[], [], []⟩
  packet := ⟨[], [], [], [], []⟩
  comp := ⟨[], [], [], [], [], [], []⟩
  audio := ⟨[], [], [], [], none, [], [], [], [], []⟩
  timing := ⟨[], [], [], [], []⟩
  tbs := List.replicate 4 ⟨0, 0, 0, 0, 0⟩
  clocks := ⟨[], [], [], []⟩
  lanes := ⟨[], []⟩
  mesh := ⟨[], [], [], 1⟩
  twin := ⟨1, 0, [], [], [], none, none, 0, none, none, [], [], [], [], false, [], []⟩
  faults := ⟨none, false, [], [], [], []⟩
  mem := ⟨[], [], 1, [], [], [], [], [], []⟩
  fw := ⟨[⟨zeros 48, 0x01000000, 0, 0, 1, 1, [(0x01000000, 0x01000000)]⟩, ⟨zeros 48, 0x01000000, 0, 0, 1, 1, [(0x01000000, 0x01000000)]⟩],
    [[], []], false, [], false, false, false, [], 0, [], [], none, [], []⟩
  power := ⟨false, 0, 0, false, false, false, true, 0, false, false, [], [], [], [], [], [], [], [], [], 0, none⟩

end Sys2Proof.Machine
end

