-- ==== Sys2Proof/Machine/Ops.lean ====
section
/-! DEFINITION. The named operations on the machine's state: objects, time, outputs, counters (R33 to R38, R67). -/

namespace Sys2Proof.Machine

/-! ## Reply codes (Table 2.13) -/

abbrev C.ok : Nat := 0x00
abbrev C.notReady : Nat := 0x01
abbrev C.denied : Nat := 0x02
abbrev C.type : Nat := 0x03
abbrev C.range : Nat := 0x04
abbrev C.locked : Nat := 0x05
abbrev C.busy : Nat := 0x06
abbrev C.noPath : Nat := 0x07
abbrev C.hbmBw : Nat := 0x08
abbrev C.lineBuf : Nat := 0x09
abbrev C.tooLate : Nat := 0x0A
abbrev C.notOwner : Nat := 0x0B
abbrev C.untested : Nat := 0x0C
abbrev C.stale : Nat := 0x0D
abbrev C.jump : Nat := 0x0E

/-! ## The object store -/

/-- The list with an address set, in the order of addresses. -/
def objPut (k : Key) (v : Val) : List (Key × Val) → List (Key × Val)
  | [] => [(k, v)]
  | (k', v') :: r =>
    if k' = k then (k, v) :: r
    else if k.before k' then (k, v) :: (k', v') :: r
    else (k', v') :: objPut k v r

/-- The canonical form of the object store: addresses strictly rising, and no entry equal to its default. -/
def objsWf : List (Key × Val) → Bool
  | [] => true
  | [(k, v)] => v != dflt k
  | (k, v) :: (k', v') :: r => v != dflt k && k.before k' && objsWf ((k', v') :: r)

/-- The value that an object holds. -/
def State.get (s : State) (k : Key) : Val :=
  match kfind s.objs k with | some v => v | none => dflt k

/-- The object set to a value; an object at its default is not listed. -/
def State.set (s : State) (k : Key) (v : Val) : State :=
  { s with objs := if v = dflt k then kdel s.objs k else objPut k v s.objs }

/-- The object as an integer. -/
def State.int (s : State) (k : Key) : Int := (s.get k).int
/-- The object as a natural number; 0 where it is negative. -/
def State.nat (s : State) (k : Key) : Nat := (s.get k).int.toNat
/-- The object as a string of bytes. -/
def State.oct (s : State) (k : Key) : Bytes := (s.get k).oct
/-- The object as a truth value. -/
def State.flag (s : State) (k : Key) : Bool := (s.get k).int != 0
/-- The object set to a natural number. -/
def State.setN (s : State) (k : Key) (v : Nat) : State := s.set k (.n v)
/-- The object set to an integer. -/
def State.setI (s : State) (k : Key) (v : Int) : State := s.set k (.n v)
/-- The object set to bytes. -/
def State.setB (s : State) (k : Key) (v : Bytes) : State := s.set k (.b v)
/-- The object set to a truth value. -/
def State.setF (s : State) (k : Key) (v : Bool) : State := s.set k (.n (b01 v))
/-- One bit of a BITSET32 object set or cleared. -/
def State.setBit (s : State) (k : Key) (i : Nat) (on : Bool) : State := s.setN k (withBit (s.nat k) i on)
/-- One bit of a BITSET32 object. -/
def State.bit (s : State) (k : Key) (i : Nat) : Bool := Machine.bit (s.nat k) i

/-- The value of an object that is in force: the older one while the latest accepted value has not taken effect
(R37, R38). -/
def State.inForce (s : State) (k : Key) : Val :=
  match kfind s.lag k with | some v => v | none => s.get k
/-- The value in force as a natural number. -/
def State.natNow (s : State) (k : Key) : Nat := (s.inForce k).int.toNat
/-- The value in force as an integer. -/
def State.intNow (s : State) (k : Key) : Int := (s.inForce k).int

/-- An object set to a value that takes effect later: the value in force stays as it was (R37). -/
def State.setLater (s : State) (k : Key) (v : Val) : State :=
  { (s.set k v) with lag := kput s.lag k (s.inForce k) }

/-- The accepted values of the objects that a test selects take effect (Table 2.3). -/
def State.takeEffect (s : State) (p : Key → Bool) : State :=
  { s with lag := s.lag.filter (fun e => !p e.1) }

/-! ## Counters -/

/-- A counter `w` bits wide counts `n` further. The spec does not say what a counter reads after its largest value:
it then reads a free value of its width (log entry 6). -/
def countUp (w n old cmd which : Nat) : Nat :=
  if old + n < 2 ^ w then old + n else Config.free cmd which % 2 ^ w

/-- A counter object of `w` bits counts `n`. -/
def State.count (s : State) (k : Key) (n : Nat := 1) (w : Nat := 32) : State :=
  s.setN k (countUp w n (s.nat k) s.free (k.fam * 16777216 + k.inst * 256 + k.sub))

/-! ## Free values, time and outputs -/

/-- The command's free number at its open point `which` (log entry 4). -/
def State.freeNat (s : State) (which : Nat) : Nat := Config.free s.free which
/-- The command's free bytes at its open point `which`. -/
def State.freeOct (s : State) (which : Nat) : Bytes := Config.freeBytes s.free which
/-- The command's free integer at its open point `which`. -/
def State.freeInt (s : State) (which : Nat) : Int := Config.freeInt s.free which

/-- The number that stands `k` places above `lo` among those that `used` does not list; `used` rises from `lo` on. -/
def nthUnused (used : List Nat) (k lo : Nat) : Nat := used.foldl (fun c u => if u ≤ c then c + 1 else c) (lo + k)

/-- A number from `lo` to `lo + n - 1` that is not used. Which one, where the spec does not say, is a free value (log entry 41). -/
def State.pick (s : State) (used : List Nat) (lo n which : Nat) : Option Nat :=
  let u := sortBy (fun a b => a < b) (nub (used.filter (fun x => lo ≤ x ∧ x < lo + n)))
  if n ≤ u.length then none else some (nthUnused u (s.freeNat which % (n - u.length)) lo)

/-- The chip's time moves to the arrival of a command; time does not run back, and each command has free values of
its own (log entries 2 and 4). -/
def State.advance (s : State) (t : Nat) : State := { s with now := max s.now t, free := s.free + 1 }

/-- Something leaves the chip. -/
def State.emit (s : State) (o : Out) : State := { s with out := s.out ++ [o] }

/-- The part of a time base's correction that `dt` ns have added. -/
def Tb.slewed (b : Tb) (dt : Nat) : Int :=
  let part : Int := ((b.slew * dt / 1000000000 : Nat) : Int)
  if b.corr < 0 then max b.corr (-part) else min b.corr part

/-- A time base's reading at an instant, in ns (log entry 3). -/
def Tb.reading (b : Tb) (now : Nat) : Nat := ((b.base + (now - b.at') : Nat) + b.slewed (now - b.at')).toNat

/-- The reading of time base `n` now, in ns. -/
def State.tbNow (s : State) (n : Nat) : Nat :=
  match s.tbs[n]? with | some b => b.reading s.now | none => 0

/-- A time base changed. -/
def State.modTb (s : State) (n : Nat) (f : Tb → Tb) : State :=
  match s.tbs[n]? with | some b => { s with tbs := s.tbs.set n (f b) } | none => s

/-- A time base goes on from its present reading with `corr` ns to add at `slew` ns a second (R348). -/
def State.correctTb (s : State) (n : Nat) (corr : Int) (slew : Nat) : State :=
  s.modTb n (fun b => { b with base := b.reading s.now, at' := s.now, corr := corr, slew := slew })

/-- What time base `a` reads less what `b` reads. -/
def State.tbDiff (s : State) (a b : Nat) : Int := (s.tbNow a : Int) - (s.tbNow b : Int)

/-- The chip is at Ready (R50, R509). -/
def State.ready (s : State) : Bool := s.power.ready

/-! ## The part, the pair and the domain -/

/-- The part is a GE1024-A1-H (Table 0.3). -/
def State.isH (s : State) : Bool := s.nat O.id_ordering_code == 1
/-- The number of tiles that are present (R2). -/
def State.tiles (s : State) : Nat := if s.isH then 8 else 16
/-- The chip's own ID; 1023 outside any domain (R25). -/
def State.chipId (s : State) : Nat := s.nat O.id_chip_id
/-- The pair ID of a chip ID (R23). -/
def pairOf (chip : Nat) : Nat := if chip = 1023 then 1023 else chip - chip % 2
/-- This chip's pair ID. -/
def State.pairId (s : State) : Nat := pairOf s.chipId
/-- The chip is the standby of its pair. -/
def State.standby (s : State) : Bool := s.nat O.id_pair_role == 1
/-- The chip is the primary of its pair. -/
def State.primary (s : State) : Bool := s.nat O.id_pair_role == 0
/-- Mirroring from this chip to its twin is under way: the chip is primary, and its mirror is current or catches up
(R415, R419). -/
def State.mirroring (s : State) : Bool := s.primary && (s.nat O.twin_mirror_state == 1 || s.nat O.twin_mirror_state == 2)
/-- The service mode in force (Table 20.5). -/
def State.mode (s : State) : Nat := s.nat O.bring_mode
/-- The chip is in a service mode (R449). -/
def State.serviceMode (s : State) : Bool := s.mode != 0

/-- The bytes of a marked image that an item carries. -/
def imageBytes : MirrorItem → Nat
  | .image _ b => b.length
  | _ => 0

/-- An item goes to the twin while mirroring is under way (R419). -/
def State.mirror (s : State) (i : MirrorItem) : State :=
  if s.mirroring then
    { (s.emit (.mirror s.twin.seq i)) with
      twin := { s.twin with
        seq := s.twin.seq + 1,
        sent := s.twin.sent ++ [(s.twin.seq, s.now)],
        images := if imageBytes i = 0 then s.twin.images
          else s.twin.images.filter (fun e => s.now < e.1 + 1000000000) ++ [(s.now, imageBytes i)] } }
  else s

/-- A notice goes to the twin where there is one. -/
def State.tellTwin (s : State) (n : Notice) : State :=
  if s.nat O.id_pair_role == 2 then s else s.emit (.notice 1023 n)

end Sys2Proof.Machine
end

