-- ==== Sys2Proof/Machine/Codec.lean ====
section
/-! DEFINITION. How object values travel (R34, R537, Table 2.1), and the ranges of the object maps. -/

namespace Sys2Proof.Machine

/-- The type code of Table 2.1. -/
def Ty.code : Ty → Nat
  | .bool => 0x01 | .u8 => 0x02 | .u16 => 0x03 | .u32 => 0x04 | .u64 => 0x05 | .s8 => 0x06
  | .s16 => 0x07 | .s32 => 0x08 | .s64 => 0x09 | .q16 => 0x0A | .q32 => 0x0B | .enum => 0x0C
  | .bits => 0x0D | .str => 0x0E | .oct => 0x0F | .time => 0x10 | .id => 0x11

/-- The access code of Table 2.2. -/
def Acc.code : Acc → Nat
  | .ro => 0 | .rw => 1 | .wo => 2 | .rwi => 3 | .const => 4

/-- The bytes of a type's encoding; none for STRING and OCTETS, whose record gives the length. -/
def Ty.width : Ty → Option Nat
  | .bool => some 1 | .u8 => some 1 | .s8 => some 1
  | .u16 => some 2 | .s16 => some 2 | .enum => some 2
  | .u32 => some 4 | .s32 => some 4 | .q16 => some 4 | .bits => some 4 | .id => some 4
  | .u64 => some 8 | .s64 => some 8 | .q32 => some 8
  | .time => some 10
  | .str => none | .oct => none

/-- The type is signed (R34). -/
def Ty.signed : Ty → Bool
  | .s8 | .s16 | .s32 | .s64 | .q16 | .q32 => true
  | _ => false

/-- The nanoseconds of a second. -/
abbrev nsPerSec : Nat := 1000000000

/-- A TIME80 of whole nanoseconds: 48-bit seconds, then 32-bit nanoseconds (Table 2.1). -/
def time80 (ns : Nat) : Bytes := beBytes 6 (ns / nsPerSec) ++ beBytes 4 (ns % nsPerSec)

/-- The nanoseconds that a TIME80 says; none where it is not 10 bytes or its nanoseconds exceed 999 999 999. -/
def time80Of (bs : Bytes) : Option Nat :=
  if bs.length = 10 ∧ field bs 6 4 < nsPerSec then some (field bs 0 6 * nsPerSec + field bs 6 4) else none

/-- The continuation bytes that a UTF-8 leading byte asks for, with the bounds of the first of them; none for a byte
that cannot lead (R537). -/
def utf8Lead (b : Nat) : Option (Nat × Nat × Nat) :=
  if b < 0x80 then some (0, 0x80, 0xBF)
  else if b < 0xC2 then none
  else if b < 0xE0 then some (1, 0x80, 0xBF)
  else if b = 0xE0 then some (2, 0xA0, 0xBF)
  else if b = 0xED then some (2, 0x80, 0x9F)
  else if b < 0xF0 then some (2, 0x80, 0xBF)
  else if b = 0xF0 then some (3, 0x90, 0xBF)
  else if b < 0xF4 then some (3, 0x80, 0xBF)
  else if b = 0xF4 then some (3, 0x80, 0x8F)
  else none

/-- The string is well-formed UTF-8: `n` continuation bytes are still due, the first of them within `lo` to `hi`. -/
def utf8From : Nat → Nat → Nat → Bytes → Bool
  | 0, _, _, [] => true
  | _ + 1, _, _, [] => false
  | 0, _, _, b :: r =>
    match utf8Lead b.toNat with | none => false | some (m, lo, hi) => utf8From m lo hi r
  | n + 1, lo, hi, b :: r => lo ≤ b.toNat && b.toNat ≤ hi && utf8From n 0x80 0xBF r

/-- A well-formed UTF-8 string (R537). -/
def utf8Ok (bs : Bytes) : Bool := utf8From 0 0 0 bs

/-- The code points of a well-formed UTF-8 string (R537). -/
def utf8Count (bs : Bytes) : Nat := (bs.filter (fun b => b.toNat / 64 != 2)).length

/-- The encoding of a value in a type (R34). -/
def encVal (ty : Ty) (v : Val) : Bytes :=
  match ty.width, v with
  | none, v => v.oct
  | some w, v => if ty = .time then time80 v.int.toNat else beBytes w (twos (8 * w) v.int)

/-- The value that bytes say in a type; none where they are not well encoded (R34, R537). -/
def decVal (ty : Ty) (bs : Bytes) : Option Val :=
  match ty with
  | .str => if bs.length ≤ 255 ∧ utf8Ok bs then some (.b bs) else none
  | .oct => some (.b bs)
  | .time => (time80Of bs).map (fun n => .n n)
  | ty =>
    match ty.width with
    | none => none
    | some w =>
      if bs.length ≠ w then none
      else if ty = .bool ∧ beNat bs > 1 then none
      else some (.n (if ty.signed then signedOf (8 * w) (beNat bs) else beNat bs))

/-- A value that a type can hold. -/
def tyFits (ty : Ty) (v : Val) : Bool :=
  match ty, v with
  | .str, .b bs => bs.length ≤ 255 && utf8Ok bs
  | .oct, .b bs => bs.length ≤ 16777216
  | .str, .n _ => false
  | .oct, .n _ => false
  | _, .b _ => false
  | .bool, .n i => 0 ≤ i && i ≤ 1
  | .time, .n i => 0 ≤ i && i < 2 ^ 48 * 1000000000
  | ty, .n i =>
    match ty.width with
    | none => false
    | some w =>
      if ty.signed then decide (-(2 : Int) ^ (8 * w - 1) ≤ i) && decide (i < (2 : Int) ^ (8 * w - 1))
      else decide (0 ≤ i) && decide (i < (2 : Int) ^ (8 * w))

/-- A value within a range of the object maps. -/
def Rng.holds (r : Rng) (v : Val) : Bool :=
  match r, v with
  | .none, _ => true
  | .iv lo hi, .n i => lo ≤ i && i ≤ hi
  | .ivOr lo hi o, .n i => (lo ≤ i && i ≤ hi) || i == o
  | .orIv o lo hi, .n i => (lo ≤ i && i ≤ hi) || i == o
  | .set xs, .n i => xs.contains i
  | .step lo hi st, .n i => lo ≤ i && i ≤ hi && (i - lo) % st == 0
  | .mask m, .n i => i.toNat / (m + 1) == 0
  | .len lo hi, .b bs => lo ≤ bs.length && bs.length ≤ hi
  | .chars hi, .b bs => utf8Count bs ≤ hi
  | _, _ => false

/-- The least value of a range, where it has one (R45, R47). -/
def Rng.least : Rng → Option Int
  | .iv lo _ => some lo
  | .ivOr lo _ o => some (min lo o)
  | .orIv o lo _ => some (min o lo)
  | .set xs => xs.head?
  | .step lo _ _ => some lo
  | .mask _ => some 0
  | .len lo _ => some lo
  | .chars _ => some 0
  | .none => Option.none

/-- The greatest value of a range, where it has one (R45, R47). -/
def Rng.most : Rng → Option Int
  | .iv _ hi => some hi
  | .ivOr _ hi o => some (max hi o)
  | .orIv _ _ hi => some hi
  | .set xs => xs.getLast?
  | .step _ hi _ => some hi
  | .mask m => some m
  | .len _ hi => some hi
  | .chars _ => some 255
  | .none => Option.none

/-- A field of a descriptor: its length and its bytes (R45). -/
def descField (bs : Bytes) : Bytes := beBytes 2 bs.length ++ bs

/-- A bound of a descriptor: the object's own encoding, or a U32 length for STRING and OCTETS (R45, R47). -/
def descBound (ty : Ty) (b : Option Int) : Bytes :=
  match b with
  | none => descField []
  | some i => if ty.width = none then descField (beBytes 4 i.toNat) else descField (encVal ty (.n i))

/-- The descriptor that a describe READ returns (R45, R47). -/
def descriptor (d : Desc) (dv : Val) : Bytes :=
  [BitVec.ofNat 8 d.ty.code, BitVec.ofNat 8 d.acc.code, BitVec.ofNat 8 d.role, BitVec.ofNat 8 d.eff,
   BitVec.ofNat 8 d.mir, 0] ++
  (let e := encVal d.ty dv
   if e.length > 256 then descField [] else descField e) ++
  descBound d.ty d.rng.least ++ descBound d.ty d.rng.most

end Sys2Proof.Machine
end

