-- ==== Sys2Proof/Machine/Formats.lean ====
section
/-! DEFINITION. Formats, rates and modes: Tables 4.4, 8.1, 7.2, 7.3, 3.5 and 3.6, and the frame alignment of
ST 2059-1 (R102, R103). Instants are whole nanoseconds; one that falls between two is taken at the later (log entry 7). -/

namespace Sys2Proof.Machine

/-- The frame rate of a format code as a fraction of frames a second (Table 4.4); 0 for code 0. -/
def frameRate (f : Nat) : Nat × Nat :=
  let r (i : Nat) : Nat × Nat :=
    match i with
    | 0 => (24000, 1001) | 1 => (24, 1) | 2 => (25, 1) | 3 => (30000, 1001)
    | 4 => (30, 1) | 5 => (50, 1) | 6 => (60000, 1001) | _ => (60, 1)
  match f with
  | 0 => (0, 1)
  | 1 => (30000, 1001)
  | 2 => (25, 1)
  | 3 => (50, 1)
  | 4 => (60000, 1001)
  | 5 => (60, 1)
  | 6 => (25, 1)
  | 7 => (30000, 1001)
  | 8 => (30, 1)
  | n => if n ≤ 13 then r (n - 9) else if n ≤ 21 then r (n - 14) else r (n - 22)

/-- The lines of a frame (Table 4.4). -/
def linesOf (f : Nat) : Nat :=
  if f = 0 then 0 else if f = 1 then 525 else if f = 2 then 625 else if f ≤ 5 then 750 else 1125

/-- The switch line of a format (Table 4.4). -/
def switchLineOf (f : Nat) : Nat := if f = 0 then 0 else if f = 1 then 10 else if f = 2 then 6 else 7

/-- The format belongs to the 1/1.001 family. -/
def pulled (f : Nat) : Bool := (frameRate f).2 == 1001

/-- The format is one of the 2160p codes. -/
def is2160 (f : Nat) : Bool := 22 ≤ f && f ≤ 29

/-- The frame period in ns, rounded up. -/
def framePeriod (f : Nat) : Nat :=
  let r := frameRate f
  if r.1 = 0 then 0 else ceilDiv (nsPerSec * r.2) r.1

/-- Frame `n` of a rate begins at this ns of its time base, rounded up (R102). -/
def alignAt (f n : Nat) : Nat :=
  let r := frameRate f
  if r.1 = 0 then 0 else ceilDiv (n * nsPerSec * r.2) r.1

/-- The number of the last frame that begins at or before `t` ns of a time base. -/
def frameIndex (f t : Nat) : Nat :=
  let r := frameRate f
  t * r.1 / (nsPerSec * r.2)

/-- The switch instant of frame `n` less its alignment instant, in ns rounded up (R103): (switch line − 1) lines. -/
def switchOffset (f : Nat) : Nat :=
  let r := frameRate f
  if r.1 = 0 then 0 else ceilDiv ((switchLineOf f - 1) * nsPerSec * r.2) (r.1 * linesOf f)

/-- The first switch instant at or after `t` of a destination of format `f` with timing offset `off` (R102, R103,
R112). Instants before the time base's epoch do not occur. -/
def switchAtOrAfter (f : Nat) (off : Int) (t : Nat) : Nat :=
  let lead : Int := off + switchOffset f
  let n := frameIndex f (((t : Int) - lead).toNat)
  let at' (k : Nat) : Int := alignAt f k + lead
  if (t : Int) ≤ at' n then (at' n).toNat
  else if (t : Int) ≤ at' (n + 1) then (at' (n + 1)).toNat
  else (at' (n + 2)).toNat

/-- The first switch instant after `t`. -/
def switchAfter (f : Nat) (off : Int) (t : Nat) : Nat := switchAtOrAfter f off (t + 1)

/-- An offset wrapped into the half-open span of half a frame period either side of zero (R106). -/
def wrapHalf (p : Nat) (x : Int) : Int :=
  if p = 0 then 0 else (x + (p / 2 : Nat)) % (p : Int) - (p / 2 : Nat)

/-- The offset of an instant of a time base from its format's alignment points (R106). -/
def alignOffset (f t : Nat) : Int :=
  wrapHalf (framePeriod f) ((t : Int) - alignAt f (frameIndex f t))

/-! ## SDI modes (Table 8.1) -/

/-- A row of Table 8.1 holds a format at a sampling (R199). -/
def modeHolds (m f smp : Nat) : Bool :=
  match m with
  | 1 => (f == 1 || f == 2) && smp == 0
  | 2 => 3 ≤ f && f ≤ 18 && smp == 0
  | 3 => (19 ≤ f && f ≤ 21 && smp == 0) || (6 ≤ f && f ≤ 18 && smp != 0)
  | 4 => (19 ≤ f && f ≤ 21 && smp == 0) || (6 ≤ f && f ≤ 18 && smp != 0)
  | 5 => (22 ≤ f && f ≤ 26 && smp == 0) || (19 ≤ f && f ≤ 21 && (smp == 2 || smp == 3))
  | 6 => (27 ≤ f && f ≤ 29 && smp == 0) || (22 ≤ f && f ≤ 26 && smp != 0)
  | 7 => (27 ≤ f && f ≤ 29 && smp == 0) || (22 ≤ f && f ≤ 26 && smp == 2)
  | 8 => 27 ≤ f && f ≤ 29 && smp != 0
  | _ => false

/-- The links of a mode. -/
def modeLinks (m : Nat) : Nat := if m = 7 ∨ m = 8 then 4 else 1

/-- The rate of one link of a mode in kb/s, for a rate family (Table 8.1); rounded to the nearest. -/
def modeRate (m : Nat) (pull : Bool) : Nat :=
  let base := match m with
    | 1 => 270000 | 2 => 1485000 | 3 => 2970000 | 4 => 2970000 | 5 => 5940000 | 6 => 11880000
    | 7 => 2970000 | 8 => 11880000 | _ => 0
  if pull && m != 1 then (base * 1000 + 500) / 1001 else base

/-- The lowest row of Table 8.1 that carries a format and sampling (R92, R200); 0 where none does. -/
def lowestMode (f smp : Nat) : Nat :=
  match [1, 2, 3, 5, 6, 7, 8].find? (fun m => modeHolds m f smp) with | some m => m | none => 0

/-- An output's mode: by its kind of port, its format, sampling, level and quad rate (R200); 0 where no row fits. -/
def outputMode (quad : Bool) (f smp level quadRate : Nat) : Nat :=
  if quad then
    let m := if quadRate = 0 then 7 else 8
    if modeHolds m f smp then m else 0
  else
    match [1, 2, 3, 5, 6].find? (fun m => modeHolds m f smp) with
    | some m => if m = 3 ∧ level = 1 then 4 else m
    | none => 0

/-! ## Stores (R180, R181) -/

/-- The active pixels of a frame. -/
def activePixels (f : Nat) : Nat :=
  if f = 1 then 720 * 486 else if f = 2 then 720 * 576 else if f ≤ 5 then 1280 * 720
  else if f ≤ 21 then 1920 * 1080 else 3840 * 2160

/-- The bits of a pixel by sampling (Table 7.2). -/
def bitsPerPixel (smp : Nat) : Nat := match smp with | 0 => 20 | 1 => 24 | 2 => 30 | _ => 36

/-- The bytes of one slot (R180). -/
def slotBytes (f smp : Nat) : Nat := activePixels f * bitsPerPixel smp / 8 + 131072

/-- The integer frame rate that a stream books at: a rate of the 1/1.001 family at the integer rate above it (R181). -/
def bookedRate (f : Nat) : Nat := ceilDiv (frameRate f).1 (frameRate f).2

/-- What one write or read stream of a store books, in Mb/s (R181). -/
def streamMbps (f smp : Nat) : Nat := ceilDiv (slotBytes f smp * 8 * bookedRate f * 5) 4000000

/-! ## Transmit timing of flow groups (R231, R232) -/

/-- The format is interlaced or PsF. -/
def byFields (f : Nat) : Bool := f == 1 || f == 2 || (6 ≤ f && f ≤ 13)

/-- The lines before the first active line, and the samples of a line and before its first active sample, by the raster
standard of the format (ST 125, ST 296, ST 274). -/
def activeGeometry (f : Nat) : Nat × Nat × Nat :=
  if f = 1 then (20, 858, 138) else if f = 2 then (22, 864, 144)
  else if f = 3 then (25, 1980, 700) else if f ≤ 5 then (25, 1650, 370)
  else
    let lines := if byFields f then 20 else 41
    let r := bookedRate' f
    if r = 25 ∨ r = 50 then (lines, 2640, 720) else if r = 24 then (lines, 2750, 830) else (lines, 2200, 280)
where
  /-- The whole rate of a format. -/
  bookedRate' (f : Nat) : Nat := ceilDiv (frameRate f).1 (frameRate f).2

/-- The line period of a format as a fraction of ns, applied to `n` / `d` lines, to the nearest ns. -/
def linesNs (f n d : Nat) : Nat :=
  let r := frameRate f
  if r.1 = 0 then 0 else (roundDiv ((n * nsPerSec * r.2 : Nat) : Int) (d * r.1 * linesOf f)).toNat

/-- The active start A in ns (R232). -/
def activeStart (f : Nat) : Nat :=
  let g := activeGeometry f
  linesNs f (g.1 * g.2.1 + g.2.2) g.2.1

/-- TRO_DEFAULT of ST 2110-21 in ns. -/
def troDefault (f : Nat) : Nat :=
  let n := if f = 1 then 20 else if f = 2 then 26 else if byFields f then 22 else if f ≤ 5 then 28 else 43
  linesNs f n 1

/-- The least TRO in ns: A and one line period (R232). -/
def troMinimum (f : Nat) : Nat :=
  let g := activeGeometry f
  linesNs f (g.1 * g.2.1 + g.2.2 + g.2.1) g.2.1

/-! ## Delay limits -/

/-- The limit of Table 3.6 on D in ns, by lane rate in kb/s (R87). -/
def delayLimit (rate : Nat) : Nat :=
  if rate > 26000000 then 17000 else if rate > 20000000 then 18000 else if rate > 6000000 then 42000
  else if rate > 3000000 then 86000 else if rate > 1485000 then 174000 else 200000

/-- Where the data of a route enter and leave, for its slow-corner pass latency (Table 3.5). -/
inductive PassKind where
  | sdi | storeRead | toPacket | fromPacket | head
  deriving DecidableEq, Repr

/-- The slow-corner pass latency in ns of a path of so many hops, from tile `a` to tile `b` (Table 3.5, R88). -/
def passLatency (k : PassKind) (a b hops : Nat) : Nat :=
  (match k with
   | .sdi => if a = b then 1500 else if a / 8 = b / 8 then 1700 else 2000
   | .storeRead => 1400
   | .toPacket => 1900
   | .fromPacket => 2000
   | .head => 1600) + 2400 * hops

/-- The booking of a stripe in thousands of handshakes a second, rounded up: rate ÷ 512 bits × 2.5 (Table 6.2). -/
def stripeKhs (kbps : Nat) : Nat := ceilDiv (kbps * 5) 1024

end Sys2Proof.Machine
end

