-- ==== Sys2Proof/Machine/Operands.lean ====
section
/-! DEFINITION. The operand forms of commands: units and their tiles, the existence of objects, global identifiers
(R4, R13, R14, R25 to R31, R33). -/

namespace Sys2Proof.Machine

/-- The value of an object number that names none: FFFFh, FFh or FFFFFFFFh. -/
abbrev none16 : Nat := 0xFFFF
abbrev none8 : Nat := 0xFF
abbrev none32 : Nat := 0xFFFFFFFF

/-! ## Ports and tiles -/

/-- The kind of port `p` as 2300h[p].00 codes it: 0 SDI, 1 quad-link SDI, 2 25GbE, 3 100GbE, 4 400GbE, 5 mesh,
6 member. -/
def State.portKind (s : State) (p : Nat) : Nat := s.nat (O.port_kind p)
/-- The port that owns a lane. -/
def State.ownerPort (s : State) (l : Nat) : Nat := s.nat (O.port_owner_port l)
/-- The lanes of a port kind (Table 1.2). -/
def kindLanes (k : Nat) : Nat := match k with | 1 => 4 | 3 => 4 | 4 => 16 | _ => 1
/-- Port `p` is an SDI port, single-lane or quad-link. -/
def State.isSdi (s : State) (p : Nat) : Bool := s.portKind p == 0 || s.portKind p == 1
/-- Port `p` is an Ethernet port. -/
def State.isEth (s : State) (p : Nat) : Bool := 2 ≤ s.portKind p && s.portKind p ≤ 4
/-- Lane `l` is a member lane of another port (R14). -/
def State.isMember (s : State) (l : Nat) : Bool := s.portKind l == 6
/-- The lanes of a port: itself and its members (R13). -/
def State.portLanes (s : State) (p : Nat) : List Nat := (List.range (kindLanes (s.portKind p))).map (fun i => p + i)
/-- A lane test runs on lane `l` (R386): settling or running. -/
def State.testRuns (s : State) (l : Nat) : Bool := s.nat (O.ltest_state l) == 1 || s.nat (O.ltest_state l) == 2
/-- Every lane of a port is Active, and none of them is under test: it may be taken to, carry flows or take the mesh role
(R383, R387). -/
def State.portOpen (s : State) (p : Nat) : Bool := (s.portLanes p).all (fun l => s.nat (O.lane_state_now l) == 0 && !s.testRuns l)
/-- A mesh lane carries data cells: its link is up, and its pair symmetry matched (R166, R396). -/
def State.linkCarries (s : State) (l : Nat) : Bool := s.nat (O.mlink_state (1 + l)) == 3 && s.nat (O.mlink_symmetry (1 + l)) == 1
/-- Lane `l` exists on this part (R2). -/
def State.laneExists (s : State) (l : Nat) : Bool := l < 64 * s.tiles

/-- The tile that an object instance belongs to, where it belongs to one (R2, R11). -/
def tileOf (k : Key) : Option Nat :=
  let i := k.inst
  match k.fam with
  | 0x1100 => if i = 0 then none else if (i - 1) / 128 ≤ 15 then some ((i - 1) / 128) else none
  | 0x1300 => if i = 0 then none else some (i - 1)
  | 0x1400 => if 32 ≤ i then some (i - 32) else none
  | 0x2000 => if i < 1024 then some (i / 64) else some (i - 1024)
  | 0x2100 => some (i / 64)
  | 0x2200 => some (i / 64)
  | 0x2300 => some (i / 64)
  | 0x2400 => if 1 ≤ i ∧ i ≤ 1024 then some ((i - 1) / 64) else none
  | 0x3000 =>
    if i < 1024 then some (i / 64) else if i < 3072 then none else if i < 3136 then some ((i - 3072) / 4)
    else if i < 3200 then some ((i - 3136) / 4) else none
  | 0x3100 => if i < 1024 then some (i / 64) else if i < 3072 then none else some ((i - 3072) / 64)
  | 0x3400 =>
    if 37 ≤ i ∧ i ≤ 52 then some (i - 37) else if 53 ≤ i ∧ i ≤ 68 then some (i - 53) else none
  | 0x3500 =>
    if 1 ≤ i ∧ i ≤ 1024 then some ((i - 1) / 64)
    else if 3073 ≤ i ∧ i ≤ 4096 then some ((i - 3073) / 64) else none
  | 0x3600 => some (i / 64)
  | 0x3700 => if 1 ≤ i ∧ i ≤ 1024 then some ((i - 1) / 64) else none
  | 0x3800 => some (i / 4)
  | 0x3900 => if i < 2048 then some (i / 128) else some ((i - 2048) / 16)
  | 0x3A00 => some (i / 64)
  | 0x4000 => if i < 32768 then some (i / 2048) else none
  | 0x4100 => if i < 32768 then some (i / 2048) else none
  | 0x5700 => if 1 ≤ i ∧ i ≤ 1024 then some ((i - 1) / 64) else none
  | 0x6000 =>
    if i = 0 then none else if i ≤ 2048 then some ((i - 1) / 128)
    else if bankOwner i < 16 then some (bankOwner i) else none
  | _ => none

/-- An instance of a fused-off unit (R2, R4). -/
def State.fusedOff (s : State) (k : Key) : Bool :=
  match tileOf k with | some t => s.tiles ≤ t | none => false

/-- The subindices that exist only on some kinds of unit (R124, R310). -/
def kindHas (k : Key) : Bool :=
  match k.fam with
  | 0x3000 =>
    let kd := srcKindOf k.inst
    if (0x0B ≤ k.sub ∧ k.sub ≤ 0x0E) ∨ k.sub = 0x12 then kd == 4
    else if k.sub = 0x0F ∨ k.sub = 0x10 then kd == 5 else true
  | 0x4000 => if 0x0A ≤ k.sub ∧ k.sub ≤ 0x0E then audioKindOf k.inst == 5 else true
  | _ => true

/-- The instance names a member lane, or an interface of a port of no Ethernet kind: it names no port (R14, R253). -/
def State.memberInst (s : State) (k : Key) : Bool :=
  match k.fam with
  | 0x2300 => s.isMember k.inst
  | 0x3600 => s.isMember k.inst
  | 0x3000 => k.inst < 1024 && s.isMember k.inst
  | 0x3100 => k.inst < 1024 && s.isMember k.inst
  | 0x3500 => 1 ≤ k.inst && k.inst ≤ 1024 && s.isMember (k.inst - 1)
  | 0x3700 => 1 ≤ k.inst && k.inst ≤ 1024 && !s.isEth (k.inst - 1)
  | _ => false

/-- The flow is a transmit flow, by its family and instance. -/
def flowIsTx (fam inst : Nat) : Bool :=
  if fam = 0x7000 then 6144 ≤ inst
  else (10240 ≤ inst && inst < 12288) || 16384 ≤ inst

/-- The family and instance name a flow (R226). -/
def isFlowInst (fam inst : Nat) : Bool :=
  (fam == 0x3700 && 8192 ≤ inst && inst ≤ 20479) || (fam == 0x7000 && 4096 ≤ inst && inst ≤ 8191)

/-- A flow subindex that does not apply in the flow's direction: it reads 0 and refuses writes (Table 9.10). -/
def flowSubAbsent (k : Key) : Bool :=
  isFlowInst k.fam k.inst &&
    (if flowIsTx k.fam k.inst then
       k.sub == 0x05 || k.sub == 0x09 || k.sub == 0x0E || (0x18 ≤ k.sub && k.sub ≤ 0x1E)
     else k.sub == 0x0C)

/-- A subindex that its unit does not have, though it reads 0 there: the timing of a scaler, its follow set, and the
objects of the other direction of a flow or SAP direction, and the generators as audio destinations; a write is refused
RANGE (R123, R125, R308, R309, Table 9.10). -/
def noWriteHere (k : Key) : Bool :=
  match k.fam with
  | 0x3100 =>
    dstKindOf k.inst == 3 &&
      ((2 ≤ k.sub && k.sub ≤ 6) || k.sub == 0x0C || (0x0E ≤ k.sub && k.sub ≤ 0x12))
  | 0x4100 => 63520 ≤ k.inst
  | 0x4200 => 1 ≤ k.inst && k.inst % 2 == 1 && k.sub == 0x0E
  | _ => flowSubAbsent k

/-- The object exists, as a READ judges it (check 3 of R538). -/
def State.objExists (s : State) (k : Key) : Bool :=
  (descOf k).isSome && kindHas k && !s.fusedOff k

/-- The families of Table 2.4. -/
def families : List Nat :=
  [0x1000, 0x1010, 0x1020, 0x1100, 0x1200, 0x1300, 0x1400, 0x2000, 0x2100, 0x2200, 0x2300, 0x2400, 0x3000,
   0x3100, 0x3200, 0x3300, 0x3400, 0x3500, 0x3600, 0x3700, 0x3800, 0x3900, 0x3A00, 0x3B00, 0x4000, 0x4100,
   0x4200, 0x4300, 0x4400, 0x4500, 0x5000, 0x5100, 0x5200, 0x5300, 0x5400, 0x5500, 0x5600, 0x5700, 0x6000,
   0x6100, 0x6200, 0x7000, 0x7F00]

/-! ## Global identifiers (R25 to R31) -/

/-- The chip field of an identifier. -/
def idChip (i : Nat) : Nat := i / 4194304 % 1024
/-- The essence field: 0 video, 1 audio, 2 ancillary, 3 timing. -/
def idEss (i : Nat) : Nat := i / 1048576 % 4
/-- The direction bit. -/
def idDir (i : Nat) : Nat := i / 524288 % 2
/-- The reserved field. -/
def idRes (i : Nat) : Nat := i / 65536 % 8
/-- The index field. -/
def idIdx (i : Nat) : Nat := i % 65536
/-- An identifier from its fields. -/
def mkId (chip ess dir idx : Nat) : Nat := chip * 4194304 + ess * 1048576 + dir * 524288 + idx

/-- The number of an essence in an identifier. -/
def essCode : Essence → Nat
  | .video => 0 | .audio => 1 | .anc => 2 | .timing => 3
/-- The essence of a number. -/
def essOf (n : Nat) : Essence := match n with | 0 => .video | 1 => .audio | 2 => .anc | _ => .timing

/-- The reply code for an identifier that breaks R28 or R25 in itself: reserved bits, the direction bit of timing, an
index beyond its essence's range or reserved, a reserved chip ID. -/
def idShape (i : Nat) : Nat :=
  if idRes i ≠ 0 then C.range
  else if 1000 ≤ idChip i ∧ idChip i ≤ 1022 then C.range
  else
    let x := idIdx i
    let bad : Bool := match idEss i with
      | 0 => 4096 ≤ x
      | 1 => 63536 ≤ x || (idDir i == 1 && 63520 ≤ x)
      | 2 => 4096 ≤ x
      | _ => idDir i == 1 ||
        !(x ≤ 3 || (16 ≤ x && x ≤ 19) || (32 ≤ x && x ≤ 55) || (64 ≤ x && x ≤ 67) || (128 ≤ x && x ≤ 143))
    if bad then C.range else C.ok

/-- The identifier's chip field names this chip's pair (R25, R27). -/
def State.idHere (s : State) (i : Nat) : Bool :=
  idChip i == 1023 || (s.chipId != 1023 && pairOf (idChip i) == s.pairId)

/-- The identifier as replies carry it: with the pair ID (R27). -/
def State.normId (s : State) (i : Nat) : Nat :=
  if i = none32 then i
  else
    let c := if idChip i = 1023 then s.pairId else pairOf (idChip i)
    mkId c (idEss i) (idDir i) (idIdx i)

/-- The identifier of a destination of this chip. -/
def State.dstId (s : State) (d : Dst) : Nat := mkId s.pairId (essCode d.ess) 1 d.idx
/-- The identifier of a source of this chip. -/
def State.srcId (s : State) (ess idx : Nat) : Nat := mkId s.pairId ess 0 idx

/-- The mode in which a port receives or transmits, for the range of its embedded channels (R30). -/
def State.audioMode (s : State) (p dir : Nat) : Nat :=
  if dir = 1 then
    outputMode (s.portKind p == 1) (s.nat (O.dst_format p)) (s.nat (O.sdi_tx_sampling p))
      (s.nat (O.sdi_tx_level p)) (s.nat (O.sdi_quad_rate p))
  else s.nat (O.sdi_rx_mode p)

/-- A flow channel index that some flow of a direction holds (R30, R228): its flow's instance. -/
def State.flowOfChannel (s : State) (dir idx : Nat) : Option Nat :=
  let base := if dir = 1 then 16384 else 12288
  (s.objs.filter (fun e => e.1.fam == 0x3700 && e.1.sub == 0x14 && base ≤ e.1.inst && e.1.inst < base + 4096)).findSome?
    (fun e =>
      let b := e.2.int.toNat
      if b ≤ idx ∧ idx < b + s.nat (O.aflow_channels 0x3700 e.1.inst) ∧ b ≠ none16 then some e.1.inst else none)

/-- The unit that an index of this chip names exists and can carry the essence (R14, R28, R30, R215, R541): 0, or the
code of the refusal. -/
def State.idUnit (s : State) (ess dir x : Nat) : Nat :=
  match ess with
  | 0 =>
    let k : Key := if dir = 1 then ⟨0x3100, x, 0⟩ else ⟨0x3000, x, 0⟩
    if s.fusedOff k then C.range
    else if x < 1024 ∧ !s.isSdi x then C.range else C.ok
  | 1 =>
    if x < 32768 then
      let p := x / 32
      let c := x % 32
      if !s.laneExists p || !s.isSdi p then C.range
      else
        let m := s.audioMode p dir
        if m = 1 then C.range
        else if 16 ≤ c ∧ m ≠ 0 ∧ m ≠ 6 ∧ m ≠ 8 then C.range else C.ok
    else if x < 61440 then (if (s.flowOfChannel dir x).isSome then C.ok else C.range)
    else C.ok
  | _ => C.ok

/-- A destination identifier of this chip: its destination, or the code of the refusal (R28). -/
def State.judgeDst (s : State) (i : Nat) : Except Nat Dst :=
  if idShape i ≠ 0 then .error (idShape i)
  else if idEss i = 3 ∨ idDir i = 0 then .error C.type
  else if !s.idHere i then .error C.range
  else if s.idUnit (idEss i) 1 (idIdx i) ≠ 0 then .error (s.idUnit (idEss i) 1 (idIdx i))
  else .ok ⟨essOf (idEss i), idIdx i⟩

/-- A source identifier for a destination of an essence: 0, or the code of the refusal (R28). -/
def State.judgeSrc (s : State) (ess : Essence) (i : Nat) : Nat :=
  if idShape i ≠ 0 then idShape i
  else if idEss i ≠ essCode ess ∨ idDir i = 1 then C.type
  else if s.idHere i ∧ s.idUnit (idEss i) 0 (idIdx i) ≠ 0 then s.idUnit (idEss i) 0 (idIdx i)
  else C.ok

end Sys2Proof.Machine
end

