-- ==== Sys2Proof/Machine/Ledger.lean ====
section
/-! DEFINITION. The placer's ledgers, as sums over what is booked (R92, R93, R155, R156, R161, R162, R181, R182). -/

namespace Sys2Proof.Machine

/-- Rated demand: the most that a channel books, in thousands of handshakes a second (R71). -/
abbrev ratedKhs : Nat := 800000
/-- The bookable bandwidth of a stack in Mb/s (R161). -/
abbrev stackMbps : Nat := 7000000
/-- The bookable space of a stack in bytes (Table 7.1). -/
abbrev stackBytes : Nat := 25232932864

/-- The plan of the task under way, where it has one. -/
def State.runningPlan (s : State) : Plan :=
  match s.placer.running with
  | some (_, .placed p) => p
  | _ => ⟨[], [], [], [], [], [], [], []⟩

/-- Every placement that is booked: routes in force and those they have left, takes on their way, reserves, and what
the task under way has worked out (R162). -/
def State.placements (s : State) : List Placement :=
  s.sw.routes.flatMap (fun r => r.pl :: r.old) ++ s.sw.takes.filterMap (fun t => t.pl) ++
    s.placer.reserves.map (fun r => r.pl) ++ s.runningPlan.pls.map (fun e => e.2) ++
    s.runningPlan.moves.map (fun e => e.2)

/-- Every store that is booked. -/
def State.allStores (s : State) : List StoreRec := s.sw.stores ++ s.runningPlan.stores

/-- Every stripe and cell stream that is booked. -/
def State.stripes (s : State) : List Stripe :=
  s.placements.flatMap (fun p => p.stripes) ++ s.allStores.flatMap (fun x => x.stripes) ++
    s.packet.legStripes.map (fun e => e.2)

/-- A stream once for each input channel it books: multicast copies after the ingress stage (R93). -/
def inStreams (l : List Stripe) (plane tile : Nat) : List (Nat × Nat × Nat) :=
  nub ((l.filter (fun x => x.plane = plane ∧ x.inTile = tile)).map (fun x => (x.feed, x.link, x.khs)))

/-- A stream once for each output channel it books (R93). -/
def outStreams (l : List Stripe) (plane tile : Nat) : List (Nat × Nat × Nat) :=
  nub ((l.filter (fun x => x.plane = plane ∧ x.outTile = tile)).map (fun x => (x.feed, x.link, x.khs)))

/-- The booking of a plane's input channel from a tile. -/
def inBooked (l : List Stripe) (plane tile : Nat) : Nat := sumBy (fun x => x.2.2) (inStreams l plane tile)
/-- The booking of a plane's output channel to a tile. -/
def outBooked (l : List Stripe) (plane tile : Nat) : Nat := sumBy (fun x => x.2.2) (outStreams l plane tile)

/-- The highest booking of any channel of a plane. -/
def planePeak (l : List Stripe) (plane : Nat) : Nat :=
  max (maxBy (inBooked l plane) (List.range 16)) (maxBy (outBooked l plane) (List.range 16))

/-- The highest booked demand on any channel of a logic die: the channels of its planes and those of its tiles (R73). -/
def dieDemand (l : List Stripe) (die : Nat) : Nat :=
  max (maxBy (fun p => planePeak l (16 * die + p)) (List.range 16))
    (maxBy (fun t => maxBy (fun p => max (inBooked l p (8 * die + t)) (outBooked l p (8 * die + t))) (List.range 32))
      (List.range 8))

/-- The video destinations that read a store; audio that follows one comes out of the frames it is given (R188). -/
def State.readers (s : State) (i : Nat) : List Dst :=
  nub ((s.placements.filter (fun p => p.store = some i && idEss p.dst == 0)).map (fun p => ⟨essOf (idEss p.dst), idIdx p.dst⟩))

/-- The read streams that a store books: one a reader, and one for a recirculated source (R181, R193). -/
def State.readStreams (s : State) (x : StoreRec) : Nat :=
  if x.purpose = 1 then 1 else (s.readers x.i).length

/-- The bandwidth that a store books, in Mb/s. -/
def State.storeMbps (s : State) (x : StoreRec) : Nat := streamMbps x.fmt x.smp * (1 + s.readStreams x)
/-- The space that a store books, in bytes (R180). -/
def storeBytes (x : StoreRec) : Nat := slotBytes x.fmt x.smp * x.depth

/-- The bandwidth booked on a stack, in Mb/s. -/
def State.stackBw (s : State) (st : Nat) : Nat :=
  sumBy s.storeMbps (s.allStores.filter (fun x => x.stack = st)) +
    sumBy (fun b => b.mbps) ((s.placer.hbm ++ s.runningPlan.hbm).filter (fun b => b.stack = st))

/-- The space booked on a stack, in bytes. -/
def State.stackSpace (s : State) (st : Nat) : Nat :=
  sumBy storeBytes (s.allStores.filter (fun x => x.stack = st)) +
    sumBy (fun b => b.bytes) ((s.placer.hbm ++ s.runningPlan.hbm).filter (fun b => b.stack = st))

/-- The stack is in service (R163, R196). -/
def State.stackUp (s : State) (st : Nat) : Bool :=
  s.nat (O.hbm_state st) == 0 && s.nat (O.stackLed_state (33 + st)) == 0

/-- The ASRC channels booked on a slice. -/
def State.sliceBooked (s : State) (t : Nat) : Nat :=
  ((s.placer.asrc ++ s.runningPlan.asrc).filter (fun a => a.slice = t)).length

/-- The Mb/s booked on a mesh lane (R161). -/
def State.meshBooked (s : State) (l : Nat) : Nat :=
  sumBy (fun p => sumBy (fun e => e.2) (p.lanes.filter (fun e => e.1 = l))) s.placements

/-- What may be booked on a mesh lane, in Mb/s (R161); mesh_reserve in force. -/
def State.meshBookable (s : State) : Nat := 16000 - s.natNow O.placer_mesh_reserve

/-- The route in force of a destination. -/
def State.route (s : State) (d : Dst) : Option Route := s.sw.routes.find? (fun r => r.dst = d)

/-- The routes in force that take a source (given normalised). -/
def State.fanout (s : State) (src : Nat) : List Route := s.sw.routes.filter (fun r => r.pl.src = src)

/-- A destination carries a route, or a take on its way to it. -/
def State.dstBusy (s : State) (d : Dst) : Bool :=
  (s.route d).isSome || s.sw.takes.any (fun t => t.dst = d)

/-- A source feeds a route, or a take on its way. -/
def State.srcBusy (s : State) (src : Nat) : Bool :=
  !(s.fanout src).isEmpty || s.sw.takes.any (fun t => t.src = src)

/-- A free store number (R182). -/
def State.freeStore (s : State) (taken : List Nat) : Option Nat :=
  s.pick (s.allStores.map (fun x => x.i) ++ taken) 0 2048 63

/-- Stores that no reader needs are released (R182). -/
def State.sweepStores (s : State) : State :=
  { s with sw := { s.sw with stores := s.sw.stores.filter (fun x => x.purpose = 1 || !(s.readers x.i).isEmpty ||
      s.sw.stores.any (fun y => y.deeper = some x.i)) } }

end Sys2Proof.Machine
end

