-- ==== Sys2Proof/Machine/Reset.lean ====
section
/-! DEFINITION. Output claims and the entry into safe state (R422, R450), the carry-over block and its seal (R500 to R502),
and restarts: what survives them, and how a start begins (R445, R448, R497, R507, R509, R511, R512). -/

namespace Sys2Proof.Machine

/-! ## Output claims (R422) -/

/-- Every SIDE line is dropped. -/
def State.dropSide (s : State) : State := (List.range 16).foldl (fun st t => st.setN (O.twt_side (1 + t)) 0) s

/-- Every present SIDE line is raised (R429): only in normal mode (R512), at Ready. -/
def State.claimSide (s : State) : State :=
  if s.ready && !s.serviceMode then (List.range s.tiles).foldl (fun st t => st.setN (O.twt_side (1 + t)) 1) s else s

/-- The chip is in safe state (R450). -/
def State.safe (s : State) : Bool := s.flag O.fault_safe_state

/-- The twin link is up: some lane is, and the link is not down (R417). -/
def State.linkIsUp (s : State) : Bool := s.nat O.twin_twin_link % 16 != 0 && !s.bit O.twin_twin_link 5

/-- The standby that reported last can take over on safe state (R429): it is at Ready and not in safe state. -/
def State.twinTakes (s : State) : Bool :=
  s.primary && s.linkIsUp && (match s.twin.report with | some r => r.ready && !r.safe | none => false)

/-- A chip that loses service by fail-over reads standby from that moment, and has to catch up (R432). -/
def State.loseService (s : State) : State :=
  let s1 := ((((s.setN O.id_pair_role 1).count O.twin_role_changes).setN O.twin_last_change (s.tbNow 0)).setN
    O.twin_mirror_state 3).setN O.twin_twin_state 5
  { s1 with twin := { s1.twin with behind := true, report := none, hand := none } }

/-- Safe state is entered (R450): the outputs take their safe content; a chip that claims outputs drops its SIDE lines, and
then the twin gets the notice (R429, R451), and takes over where it can. -/
def State.enterSafe (s : State) : State :=
  if s.safe then s
  else
    let s1 := (((s.setF O.fault_safe_state true).count O.fault_safe_entries).dropSide).tellTwin .safeState
    if s.twinTakes then s1.loseService else s1

/-! ## The carry-over block (R500 to R502) -/

/-- The families whose objects the carry-over block keeps (R501). -/
def carryFamily (f : Nat) : Bool :=
  f == 0x2300 || (0x3000 ≤ f && f ≤ 0x3700) || (0x4000 ≤ f && f ≤ 0x4400) || (0x5000 ≤ f && f ≤ 0x5500) || f == 0x7000

/-- The object is kept in the carry-over block: mirrored, and of one of its families (R501). -/
def carried (k : Key) : Bool := carryFamily k.fam && (match descOf k with | some d => d.mir == 1 | none => false)

/-- The take entry of a pending TIMED take, as the block keeps it. -/
def State.timedEntry (s : State) (r : TakeRec) (inst : Nat) : TakeEntry :=
  ⟨s.dstId r.dst, r.src, r.mode, 0, if r.slot = 0 then 0 else s.nat (O.take_tag r.slot), inst⟩

/-- What the carry-over block holds of the present state (Table 19.7): objects, routes, pending TIMED takes, poured salvo
parts, DPLLs and time bases. The instant of a part's entry is its E on the destination's time base. -/
def State.carryNow (s : State) : List CarryRec :=
  (s.objs.filter (fun e => carried e.1)).map (fun e => .object e.1 e.2) ++
  (s.sw.routes.filter (fun r => !r.follows)).map (fun r => .route r.pl.dst r.pl.src (if r.pl.path = 4 then 1 else 0)) ++
  s.sw.takes.filterMap (fun r => match r.inst, r.part, r.repl with
    | some i, none, false => if r.pl.isSome then some (.timed (s.timedEntry r i) i) else none
    | _, _, _ => none) ++
  (s.salvos.parts.filter (fun p => p.state = 2)).map (fun p =>
    .part (p.slot * 65536 + p.gen) p.coord ((p.entries.head?.map (fun e => e.2)).getD 0)
      (p.entries.map (fun e => { e.1 with instant := e.2 }))) ++
  (List.range 4).map (fun k => .dpll k (s.nat (O.dpll_state k)) (s.nat (O.dpll_selected k)) (s.int (O.dpll_frequency_now k))
    (s.int (O.dpll_holdover_model k)) (s.flag (O.dpll_model_valid k))) ++
  (List.range 4).map (fun n => .timeBase n (s.nat (O.tb_role n))
    ((s.tbs[n]?.map (fun b => b.base)).getD 0) ((s.tbs[n]?.map (fun b => b.at')).getD 0))

/-- The bytes of a record in the journal: its header, body and CRC (R500, Table 19.7). -/
def CarryRec.size : CarryRec → Nat
  | .object k v => 8 + 10 + (match descOf k with | some d => (encVal d.ty v).length | none => 0)
  | .route .. => 8 + 22
  | .timed .. => 8 + 34
  | .part _ _ _ es => 8 + 16 + 24 * es.length
  | .dpll .. => 8 + 21
  | .timeBase .. => 8 + 20

/-- The records that wait unprogrammed (R500). -/
def State.carryWaiting (s : State) : List CarryRec := s.carryNow.filter (fun r => !s.fw.carry.contains r)

/-- The records that wait are programmed into the journal's region; before Ready there are none. -/
def State.programCarry (s : State) : State :=
  if !s.ready then s
  else { s with fw := { s.fw with carry := s.carryNow, used := s.fw.used + sumBy CarryRec.size s.carryWaiting } }

/-- The newest 64 records of the fault log (R443). -/
def State.newestLog (s : State) : Bytes := let l := s.oct O.fault_log; l.drop (l.length - 64 * 24)

/-- The block is sealed (R502): the unprogrammed records, the fault records with the brown-out ring (R508), and a seal
record. -/
def State.seal (s : State) : State :=
  let s1 := s.programCarry
  ({ s1 with fw := { s1.fw with used := s1.fw.used + 19, log := s1.newestLog, ring := s1.oct O.pow_brownout_ring } } : State).setN
    O.fw_last_seal (s1.tbNow 0)

/-! ## Settings and what survives a restart -/

/-- The object is a stored setting: it may be written and read back, and does not stand for an act of the moment (log
entry 24). -/
def isSetting (k : Key) : Bool :=
  (match descOf k with | some d => d.acc == .rw || d.acc == .rwi | none => false) &&
    k != O.fault_inject_arm && k != O.fw_activation && k != O.pow_lull && k != O.bring_mode_next

/-- A class-3 source is latched, by the objects that are listed. -/
def State.classThree (s : State) : Bool :=
  s.objs.any (fun e => e.1.fam == 0x1100 && 1 ≤ e.1.inst && e.1.sub == 0x04 && e.2.int != 0 && faultClass (e.1.inst - 1) == 3)

/-- The object outlives a restart (R57, R414, R445, R454, R504, R511): constants, keys, what flash holds, the bring-up
counts, and, unless PWRGD has fallen, the first-error record, the class-3 sources and the safe state that they hold (R441,
R507). -/
def State.survives (s : State) (lost : Bool) (k : Key) : Bool :=
  (match descOf k with | some d => d.acc == .const | none => false) ||
  (match k.fam with
   | 0x1010 => k.inst == 0 && 5 ≤ k.sub && k.sub ≤ 9
   | 0x1020 => true
   | 0x1100 =>
     !lost && (if k.inst = 0 then k.sub ≤ 1 || (k.sub == 2 && s.classThree)
       else faultClass (k.inst - 1) == 3 && s.nat (O.fsrc_state k.inst) != 0 && 4 ≤ k.sub && k.sub ≤ 7)
   | 0x1200 => true
   | 0x1300 => k == O.twin_role_epoch
   | 0x2400 => k == O.mesh_plan || k == O.mesh_plan_revision
   | _ => k == O.id_manifest_version || k == O.id_manifest_hash)

/-- The active image slot: 0 for A, 1 for B (R481). -/
def State.activeSlot (s : State) : Nat := if s.nat (O.img_state 17) = 2 then 1 else 0

/-- A slot's settings set. -/
def State.putSettings (s : State) (slot : Nat) (l : List (Key × Val)) : State :=
  { s with fw := { s.fw with settings := s.fw.settings.set slot l } }

/-- The settings as they stand, in the active slot (log entry 24). -/
def State.saveSettings (s : State) : State := s.putSettings s.activeSlot (s.objs.filter (fun e => isSetting e.1))

/-- The sources whose condition holds, with their unit and detail. -/
def State.activeFaults (s : State) : List (Nat × Nat × Nat) :=
  (s.objs.filter (fun e => e.1.fam == 0x1100 && 1 ≤ e.1.inst && e.1.sub == 0x04 && e.2 == .n 1)).map (fun e =>
    let c := s.nat (O.fsrc_last_context e.1.inst)
    (e.1.inst - 1, c / 4294967296, c % 4294967296))

/-- Service ends and what only power keeps is lost: the chip stands as before bring-up (R445, R507, R536). Its time bases
read on (log entry 25); with PWRGD fallen they stand. The class-3 sources that stay latched have lost their condition with
the rest, until it latches again. -/
def State.wipe (s0 : State) (lost : Bool) : State :=
  let s := if s0.ready then s0.saveSettings else s0
  let act := s.activeFaults
  let s1 : State := { State.reset with
    pending := s.pending, now := s.now, free := s.free, out := s.out,
    objs := s.objs.filter (fun e => s.survives lost e.1),
    proto := { State.reset.proto with factoryKey := s.proto.factoryKey },
    tbs := if lost then s.tbs.map (fun b => ⟨b.reading s.now, s.now, 0, 0, 0⟩) else s.tbs,
    twin := { State.reset.twin with seq := s.twin.seq, acked := s.twin.seq - 1, behind := s.twin.behind },
    faults := { State.reset.faults with
      relatch := if lost then [] else nub (s.faults.relatch ++ act), due := s.faults.due },
    fw := { s.fw with resume := [], reports := [] },
    power := { State.reset.power with
      pwrgd := s.power.pwrgd, resetN := s.power.resetN, tap := s.power.tap, lost := s.power.lost || lost,
      overrun := s.power.overrun, ringAtReady := s.power.ringAtReady } }
  (act.filter (fun x => faultClass x.1 = 3)).foldl (fun st x => if lost then st else st.setN (O.fsrc_state (x.1 + 1)) 2) s1

/-! ## Starts -/

/-- The pointer record names the other slot (R490): the former active slot becomes the fallback. -/
def State.flipSlot (s : State) : State :=
  let a := s.activeSlot
  let img := (s.fw.images[1 - a]?).getD ⟨[], 0, 0, 0, 0, 0, []⟩
  (((s.setN (O.img_state (16 + a)) 3).setN (O.img_state (17 - a)) 2).setB O.id_manifest_hash img.hash).setB O.id_manifest_version
    (ascii (toString (img.version / 16777216) ++ "." ++ toString (img.version / 65536 % 256) ++ "." ++ toString (img.version % 65536)))

/-- A chip on probation fails it (R497): its pointer flips back to the fallback slot, and FW_PROBATION_FAILED is raised. -/
def State.failProbation (s : State) : State :=
  let s1 := (((s.flipSlot).setN O.fw_image_state 0).setN O.fw_activation_state 6)
  { s1 with
    fw := { s1.fw with act := none, newImage := false },
    faults := { s1.faults with due := s1.faults.due ++ [(F.fwProbationFailed, s1.chipId, 0)] } }

/-- The chip restarts within an activation or is on probation (R497). -/
def State.onProbation (s : State) : Bool :=
  match s.fw.act with | some a => a.stage == 1 || a.stage == 2 | none => false

/-- A start begins at phase 0 (R509): its cause as 1020h[0].06 codes it, and its mode, which is Recovery after three starts
in a row have failed in normal mode (R511, R512). The fault log and the brown-out ring are read back (R443, R508). A
restart of a chip on probation for another cause than PWRGD, RESET_N or the activation fails it (R497); a copy that was
cut off begins again (R491). -/
def State.startUp (s0 : State) (cause : Nat) : State :=
  let s := if s0.onProbation && cause ≠ 0 && cause ≠ 1 && cause ≠ 4 then s0.failProbation else s0
  let next := s.nat O.bring_mode_next
  let mode := if next = 0 ∧ 3 ≤ s.nat O.bring_failed_starts then 3 else next
  let s1 := ((((s.setN O.bring_mode mode).count O.bring_starts).setN O.bring_start_cause cause).setB O.fault_log s.fw.log).setN
    O.fault_log_count (s.fw.log.length / 24)
  let s2 := s1.setB O.pow_brownout_ring s1.fw.ring
  { s2 with
    power := { s2.power with bootPh := 0, lost := false, cause := cause, stuck := false, overrun := s2.power.overrun && cause == 5, times := [], lanesBad := [] },
    faults := { s2.faults with due := s2.faults.due ++ (if s2.fw.copying then [(F.fwCopyRestarted, 0, 0)] else []) } }

/-- A start that has not reached Ready failed to (R511): counted in normal mode. -/
def State.failStart (s : State) : State :=
  if !s.ready && s.mode == 0 then s.setN O.bring_failed_starts (min 255 (s.nat O.bring_failed_starts + 1)) else s

/-- A chip reset or a restart is called for (R445, R513): the chip enters safe state, and restarts when the command under way
has been carried out. -/
def State.askRestart (s0 : State) (cause : Nat) : State :=
  let s := s0.enterSafe
  if s.power.due.isSome then s else { s with power := { s.power with due := some cause } }

/-- A chip reset or a restart (R445, R513): where no class-3 source is latched, the carry-over block is sealed; the fault log's
newest records are written (R443); and bring-up begins from phase 0. The chip keeps safe state through its restart
(R453). -/
def State.restart (s0 : State) (cause : Nat) : State :=
  let s := if cause = 2 ∨ cause = 5 then s0.failStart else s0
  let s1 := if s.classThree then { s with fw := { s.fw with log := s.newestLog } } else s.seal
  ((s1.wipe false).setF O.fault_safe_state true).startUp cause

end Sys2Proof.Machine
end

