-- ==== Sys2Proof/Machine/Faults.lean ====
section
/-! DEFINITION. Fault collection and reaction: latching, reactions, safe state, clearing, the first-error record, the
log, exclusion (R439 to R456), and the symbol code that SRAM, HBM, fabric cells and mesh headers share (R457, R458). -/

namespace Sys2Proof.Machine

/-! ## The symbol code -/

/-- Multiplication in GF(16), built on x⁴ + x + 1 (R457): carry-less product of two elements, then reduction. -/
def gfMul (a b : Nat) : Nat :=
  let p := (if bit b 0 then a else 0) ^^^ (if bit b 1 then a <<< 1 else 0) ^^^
           (if bit b 2 then a <<< 2 else 0) ^^^ (if bit b 3 then a <<< 3 else 0)
  let p := if bit p 6 then p ^^^ (0b10011 <<< 2) else p
  let p := if bit p 5 then p ^^^ (0b10011 <<< 1) else p
  if bit p 4 then p ^^^ 0b10011 else p

/-- The column h_i of symbol `i`: (1, a, b, a² + ab + λb²) with λ = α³ (R457). -/
def gfColumn (i : Nat) : Nat × Nat × Nat × Nat :=
  let a := i % 16
  let b := i / 16
  (1, a, b, gfMul a a ^^^ gfMul a b ^^^ gfMul 8 (gfMul b b))

/-- The syndrome of a 144-bit word as read (R458). -/
def syndrome (w : Nat) : Nat × Nat × Nat × Nat :=
  (List.range 36).foldl (fun (s : Nat × Nat × Nat × Nat) i =>
    let v := w / 2 ^ (4 * i) % 16
    let h := gfColumn i
    (s.1 ^^^ v, s.2.1 ^^^ gfMul v h.2.1, s.2.2.1 ^^^ gfMul v h.2.2.1, s.2.2.2 ^^^ gfMul v h.2.2.2)) (0, 0, 0, 0)

/-- What the decoder makes of a word (R458). -/
inductive Decoded where
  | good
  | corrected (symbol : Nat)
  | uncorrectable
  deriving DecidableEq, Repr

/-- The decoder (R458): a syndrome that is a multiple of one symbol's column names the symbol in error. -/
def decodeWord (w : Nat) : Decoded :=
  let s := syndrome w
  if s = (0, 0, 0, 0) then .good
  else if s.1 = 0 then .uncorrectable
  else
    match (List.range 36).find? (fun j =>
      let h := gfColumn j
      s.2.1 = gfMul s.1 h.2.1 ∧ s.2.2.1 = gfMul s.1 h.2.2.1 ∧ s.2.2.2 = gfMul s.1 h.2.2.2) with
    | some j => .corrected j
    | none => .uncorrectable

/-- The word as the decoder corrects it. -/
def correctWord (w : Nat) : Nat :=
  match decodeWord w with
  | .corrected j => w ^^^ ((syndrome w).1 <<< (4 * j))
  | _ => w

/-! ## Records and lists -/

/-- The unit and detail of a fault as its context word (Table 17.7). -/
def contextWord (unit detail : Nat) : Nat := unit % 4294967296 * 4294967296 + detail % 4294967296

/-- A fault record (Table 17.6). -/
def faultRecord (src cls flags tb0 ctx : Nat) : Bytes :=
  beBytes 2 src ++ beBytes 1 cls ++ beBytes 1 flags ++ time80 tb0 ++ beBytes 8 ctx ++ [0, 0]

/-- The sources that are latched, ascending (R447). -/
def State.latchedList (s : State) : List Nat :=
  (s.objs.filter (fun e => e.1.fam == 0x1100 && 1 ≤ e.1.inst && e.1.sub == 0x04 && e.2.int != 0)).map
    (fun e => e.1.inst - 1)

/-- A source is latched. -/
def State.isLatched (s : State) (src : Nat) : Bool := s.nat (O.fsrc_state (src + 1)) != 0
/-- A source is active: its condition holds (R447). -/
def State.isActive (s : State) (src : Nat) : Bool := s.nat (O.fsrc_state (src + 1)) == 1
/-- The reaction set of a source. -/
def State.reactionsOf (s : State) (src : Nat) : Nat := s.nat (O.fsrc_reactions (src + 1))

/-- A class-3 source is latched (Table 17.9). -/
def State.tempest (s : State) : Bool := s.latchedList.any (fun x => faultClass x = 3)

/-- A source that brings safe state: with its safe_state bit, or its chip_reset bit (R442). -/
def State.bringsSafe (s : State) (src : Nat) : Bool :=
  Machine.bit (s.reactionsOf src) 6 || Machine.bit (s.reactionsOf src) 3

/-- The pins FAULT_N and TEMPEST_N as asserted (R446). -/
def State.faultPins (s : State) : Nat :=
  b01 (s.latchedList.any (fun x => Machine.bit (s.reactionsOf x) 4)) +
    2 * b01 (s.latchedList.any (fun x => Machine.bit (s.reactionsOf x) 5))

/-- Safe state is left (R452): each output comes back to its computed content at its own instant, and a chip that is not
standby claims its outputs again (R412, log entry 26). -/
def State.leaveSafe (s : State) : State :=
  if s.safe then
    let s1 := s.setF O.fault_safe_state false
    let s2 := if s1.standby then s1 else s1.claimSide
    { s2 with
      faults := { s.faults with safeOut := nub (s.faults.safeOut ++ s.sw.routes.map (fun r => r.dst)) } }
  else s

/-- Safe state is left when no latched source brings it any longer (R450, R452); through a restart it stands until Ready
(R453). -/
def State.reviewSafe (s : State) : State :=
  if !s.ready ∨ s.latchedList.any s.bringsSafe then s else s.leaveSafe

/-- The trap: the occurrence is appended to the fault log, which keeps the last 1 024 (R443). -/
def State.appendLog (s : State) (fr : Bytes) : State :=
  let l := s.oct O.fault_log ++ fr
  let l := if l.length > 24576 then l.drop (l.length - 24576) else l
  (s.setB O.fault_log l).setN O.fault_log_count (l.length / 24)

/-- The record of a latching goes into the first-error record, or counts as overflow (R454). -/
def State.captureFirst (s : State) (fr : Bytes) : State :=
  if s.flag O.fault_first_valid then
    (s.setF O.fault_overflow true).count O.fault_overflow_count
  else (s.setB O.fault_first_record fr).setF O.fault_first_valid true

/-- The reactions of a latching (R442): safe state, then the trap, the block reset and the chip reset. The pins
follow from the latched sources (`State.faultPins`). -/
def State.react (s : State) (src unit : Nat) (fr : Bytes) : State :=
  let r := s.reactionsOf src
  let s1 := if s.bringsSafe src then s.enterSafe else s
  let s2 := if Machine.bit r 1 then s1.appendLog fr else s1
  let s3 :=
    if Machine.bit r 2 && !s2.faults.resets.contains (src, unit) then
      { s2 with faults := { s2.faults with resets := s2.faults.resets ++ [(src, unit)] } }
    else s2
  if Machine.bit r 3 then s3.askRestart 2 else s3

/-- The chip is held in reset: PWRGD or RESET_N is low, or the boundary scan drives its pins (R506, R507, R536). -/
def State.heldDown (s : State) : Bool := !s.power.pwrgd || !s.power.resetN || s.power.tap

/-- A fault source becomes active (R447): it latches, keeps its record, captures the first error and reacts; while it
is latched already a further occurrence is counted. A reserved source, and one of a fused-off tile, does not exist
(R4, R439). A chip on probation fails it at a watchdog or configuration fault (R497). While the chip is held in reset its
collector stands: a condition that begins then latches at Ready (log entry 43). -/
def State.latch (s : State) (src unit detail : Nat) : State :=
  if (faultKindOf src).isNone ∨ s.fusedOff ⟨0x1100, src + 1, 0⟩ then s
  else if s.heldDown then { s with faults := { s.faults with relatch := nub (s.faults.relatch ++ [(src, unit, detail)]) } }
  else
    let k := O.fsrc_state (src + 1)
    let was := s.nat k
    let s1 := (s.count (O.fsrc_count (src + 1))).setN k 1
    if was ≠ 0 then s1
    else
      let ctx := contextWord unit detail
      let flags := b01 s.safe + 2 * b01 s.faults.injecting
      let fr := faultRecord src (faultClass src) flags (s.tbNow 0) ctx
      let s2 := (s1.setN (O.fsrc_last_time (src + 1)) (s.tbNow 0)).setN (O.fsrc_last_context (src + 1)) ctx
      let s3 := (s2.captureFirst fr).react src unit fr
      let watched : Bool := match s3.fw.act with | some a => a.stage == 2 | none => false
      if watched && (src == F.mgmtWatchdog || src == F.configUncorrected) then s3.failProbation.askRestart 4 else s3

/-- A latched source is cleared (R448, R449). -/
def State.unlatch (s : State) (src : Nat) : State := (s.setN (O.fsrc_state (src + 1)) 0).reviewSafe

/-- The condition of a source ends (R447, R448): it stays latched until it is cleared, or clears by itself where its
auto_clear says so. In normal service a class-3 source does not. A condition that ends before Ready does not latch again
there. -/
def State.endFault (s0 : State) (src : Nat) : State :=
  let s : State :=
    if s0.faults.relatch.isEmpty then s0
    else { s0 with faults := { s0.faults with relatch := s0.faults.relatch.filter (fun x => x.1 ≠ src) } }
  if s.isActive src then
    if s.flag (O.fsrc_auto_clear (src + 1)) && faultClass src ≤ 2 then s.unlatch src
    else s.setN (O.fsrc_state (src + 1)) 2
  else s

/-- A fault occurs whose condition is momentary: it latches, and its condition has ended. -/
def State.strike (s : State) (src unit detail : Nat) : State := (s.latch src unit detail).endFault src

/-- A fault follows its condition: it latches when the condition begins to hold, and ends with it. -/
def State.follow (s : State) (src unit detail : Nat) (cond : Bool) : State :=
  if cond then (if s.isActive src then s else s.latch src unit detail) else s.endFault src

/-- A fault source that several units share follows the condition of one of them; it ends when no other unit holds it. -/
def State.followShared (s : State) (src unit detail : Nat) (cond others : Bool) : State :=
  if cond then s.follow src unit detail true else if others then s else s.endFault src

/-- The chip-wide tile of a unit of a lane or port number. -/
def laneTile (l : Nat) : Nat := l / 64

/-- An entry of the exclusion list: kind, unit code and a reserved field (Table 17.9, Table 17.11). -/
def exclusionEntry (kind unit : Nat) : Bytes := beBytes 2 kind ++ beBytes 4 unit ++ [0, 0]

/-- The excluded units as (kind, unit). -/
def State.exclusions (s : State) : List (Nat × Nat) :=
  (records 8 (s.oct O.fault_exclusions)).map (fun r => (field r 0 2, field r 2 4))

/-- The exclusion list set; the states of stacks, planes and banks follow it. -/
def State.setExclusions (s : State) (l : List (Nat × Nat)) : State :=
  s.setB O.fault_exclusions (l.flatMap (fun e => exclusionEntry e.1 e.2))

/-- The object that shows a unit's exclusion, and its value when excluded. -/
def State.markUnit (s : State) (kind unit : Nat) (out : Bool) : State :=
  match kind with
  | 0 => (s.setN (O.stackLed_state (33 + unit)) (b01 out)).setN (O.hbm_state unit) (b01 out)
  | 1 => s.setN (O.plane_state (1 + unit)) (b01 out)
  | 2 => s.setF (O.bank_excluded unit) out
  | _ => s

/-- A unit is excluded from placement (R456); for a pair the exclusion crosses to the twin (R166). -/
def State.exclude (s : State) (kind unit : Nat) : State :=
  if s.exclusions.contains (kind, unit) then s
  else
    let s1 := (s.setExclusions (s.exclusions ++ [(kind, unit)])).markUnit kind unit true
    if s1.standby then s1.emit (.mirror 0 (.exclusion kind unit)) else s1.mirror (.exclusion kind unit)

/-- A unit returns to service (R456). -/
def State.include (s : State) (kind unit : Nat) : State :=
  (s.setExclusions (s.exclusions.filter (fun e => e ≠ (kind, unit)))).markUnit kind unit false

/-- The unit named by a kind and code of Table 17.11 exists. -/
def unitExists (kind unit : Nat) : Bool :=
  match kind with
  | 0 => unit < 4
  | 1 => unit < 32
  | 2 => (1 ≤ unit && unit ≤ 2048) || (4096 ≤ unit && unit ≤ 4143)
  | 3 => unit / 65536 < 4 && unit % 65536 < 376
  | _ => false

/-! ## Block resets (R444) -/

/-- What a block reset resets (R444). -/
inductive Block where
  | lane (l : Nat)
  | sdi (p : Nat)
  | packets (tile : Nat)
  | compositor (tile : Nat)
  | audio (tile : Nat)
  | none
  deriving DecidableEq, Repr

/-- The block that a tile fault's record names, by its kind and unit (log entry 29). -/
def blockOf (src unit : Nat) : Block :=
  let k := src % 128
  let out : Block :=
    if idIdx unit < 1024 then .sdi (idIdx unit) else if idIdx unit < 3072 then .packets (src / 128) else .compositor (src / 128)
  if 16 ≤ src / 128 then .none
  else if k ≤ 2 ∨ k = 82 then .lane unit
  else if k ≤ 7 then .none
  else if k ≤ 15 then .sdi unit
  else if k ≤ 31 then .packets (src / 128)
  else if k = 35 ∨ k = 36 then .none
  else if k ≤ 47 then out
  else if k ≤ 63 then .compositor (src / 128)
  else if k ≤ 79 then .audio (src / 128)
  else out

/-- A block is under reset. -/
def State.underReset (s : State) (b : Block) : Bool := b != .none && s.faults.resets.any (fun e => blockOf e.1 e.2 == b)

/-- An armed injection at a target and unit inverts check symbols of the word that meets it, and what follows from the
word carries the injected flag (R459). -/
def State.withInjection (s : State) (target unit word : Nat) (f : State → Nat → State) : State :=
  match s.faults.inject with
  | some (t, u, n) =>
    if t = target ∧ u = unit then
      let s1 : State := { (s.setN O.fault_inject_state 2) with faults := { s.faults with inject := none, injecting := true } }
      let s2 := f s1 (word ^^^ (if n = 1 then 0xF else 0xFF))
      { s2 with faults := { s2.faults with injecting := false } }
    else f s word
  | none => f s word

/-- An injection that is armed at a target and unit fires at its commit point (R459). -/
def State.fireInjection (s : State) : State :=
  { (s.setN O.fault_inject_state 2) with faults := { s.faults with inject := none } }

end Sys2Proof.Machine
end

