-- ==== Sys2Proof/Machine/Sources.lean ====
section
/-! DEFINITION. Sources and destinations as the placer and the switch see them: formats, sampling, division, tiles,
timing, co-timing, audio clocks and follow sets (R85 to R88, R92, R99 to R107, R120, R199 to R204, R227, R228, R257,
R279, R285, R286, R292). -/

namespace Sys2Proof.Machine

/-! ## Members of flow groups (R227, R228) -/

/-- The flows that name group `g`, receive or transmit, of an essence given by its family and instance range, ascending. -/
def State.groupFlows (s : State) (fam lo hi g : Nat) : List Nat :=
  (s.objs.filter (fun e => e.1.fam == fam && e.1.sub == 0x01 && lo ≤ e.1.inst && e.1.inst ≤ hi && e.2 == .n g)).map
    (fun e => e.1.inst)

/-- The video flows of a group. -/
def State.groupVideo (s : State) (tx : Bool) (g : Nat) : List Nat :=
  if tx then s.groupFlows 0x3700 10240 12287 g else s.groupFlows 0x3700 8192 10239 g
/-- The audio flows of a group, ascending. -/
def State.groupAudio (s : State) (tx : Bool) (g : Nat) : List Nat :=
  if tx then s.groupFlows 0x3700 16384 20479 g else s.groupFlows 0x3700 12288 16383 g
/-- The ancillary flows of a group, ascending (7000h instances). -/
def State.groupAnc (s : State) (tx : Bool) (g : Nat) : List Nat :=
  if tx then s.groupFlows 0x7000 6144 8191 g else s.groupFlows 0x7000 4096 6143 g

/-- The group that a flow names. -/
def State.flowGroup (s : State) (fam inst : Nat) : Nat := s.nat (O.flow_group fam inst)

/-- The tile of a flow: that of its leg A's port. -/
def State.flowTile (s : State) (fam inst : Nat) : Nat :=
  let p := s.nat (O.flow_a_port fam inst)
  if p < 1024 then p / 64 else 0

/-- The tile on whose ports a group's members stand (R227). -/
def State.groupTile (s : State) (tx : Bool) (g : Nat) : Nat :=
  match s.groupVideo tx g with | v :: _ => s.flowTile 0x3700 v | [] => 0

/-- The sampling of a group's video. -/
def State.groupSampling (s : State) (tx : Bool) (g : Nat) : Option Nat :=
  match s.groupVideo tx g with | v :: _ => some (s.nat (O.vflow_sampling 0x3700 v)) | [] => none

/-- The instance of a group in 3700h. -/
def groupInst (tx : Bool) (g : Nat) : Nat := if tx then 4096 + g else 2048 + g

/-! ## Video destinations -/

/-- The tile of a video destination. -/
def State.vdstTile (s : State) (d : Nat) : Nat :=
  if d < 1024 then d / 64 else if d < 3072 then s.groupTile true (d - 1024) else (d - 3072) / 64

/-- The sampling that a video destination sends; none for a scaler (R201). -/
def State.vdstSampling (s : State) (d : Nat) : Option Nat :=
  if d < 1024 then some (s.nat (O.sdi_tx_sampling d)) else if d < 3072 then s.groupSampling true (d - 1024) else none

/-- The mode that an SDI output sends (R200). -/
def State.txMode (s : State) (p : Nat) : Nat := s.audioMode p 1

/-- The rate of a video destination's lanes in kb/s (R87). -/
def State.vdstRate (s : State) (d : Nat) : Nat :=
  if d < 1024 then modeRate (s.txMode d) (pulled (s.nat (O.dst_format d)))
  else
    match s.groupVideo true (d - 1024) with
    | v :: _ => if s.portKind (s.nat (O.flow_a_port 0x3700 v)) = 4 then 26562500 else 25781250
    | [] => 25781250

/-- The effective playout delay D of a destination over so many hops (R85), with the values in force. -/
def State.playoutDelay (s : State) (d hops extra : Nat) : Nat :=
  s.natNow (O.dst_base_delay d) + hops * s.natNow (O.dst_hop_allowance d) + extra

/-- D of the destination's current placement (R85). -/
def State.effectiveDelay (s : State) (d : Nat) : Nat :=
  match s.route ⟨.video, d⟩ with
  | some r => s.playoutDelay d r.pl.hops r.pl.delay
  | none => s.playoutDelay d 0 0

/-- The division of a 2160p picture at a destination: 1 SQD, 2 2SI, 0 whole (R202, R245). -/
def State.vdstDivision (s : State) (d : Nat) : Nat :=
  if d < 1024 then (if s.portKind d = 1 then s.nat (O.sdi_division d) else 2)
  else if d < 3072 then s.nat (O.grp_division (groupInst true (d - 1024))) else 0

/-! ## Video sources -/

/-- The tile of a video source; a recirculated source enters at its store's read tile. -/
def State.vsrcTile (s : State) (x : Nat) : Nat :=
  if x < 1024 then x / 64 else if x < 3072 then s.groupTile false (x - 1024)
  else if x < 3136 then (x - 3072) / 4 else if x < 3200 then (x - 3136) / 4
  else
    match s.allStores.find? (fun st => st.purpose = 1 ∧ idIdx st.src = x) with
    | some st => st.readTile
    | none => 0

/-- The video destination that a recirculated source carries. -/
def State.recircOf (s : State) (x : Nat) : Option Nat :=
  let i := s.nat (O.src_recirc_of x)
  if i = none32 then none else some (idIdx i)

/-- The sampling of a video source, where it is known (R99, R201, R204). -/
def State.vsrcSampling (s : State) (x : Nat) : Option Nat :=
  if x < 1024 then (if s.nat (O.sdi_rx_mode x) = 0 then none else some (s.nat (O.sdi_rx_sampling x)))
  else if x < 3072 then s.groupSampling false (x - 1024)
  else if x < 3136 then some (s.nat (O.head_sampling (x - 3072)))
  else if x < 3200 then some (s.nat (O.src_gen_sampling x))
  else match s.recircOf x with | some d => s.vdstSampling d | none => none

/-- The formats, non-zero, that a video source has: expected and detected, or its own (R105, R99, R100, R257). -/
def State.vsrcFormats (s : State) (x : Nat) : List Nat :=
  (if x < 3072 then [s.nat (O.src_format_expected x), s.nat (O.src_format_detected x)]
   else if x < 3136 then [s.nat (O.head_format (x - 3072))]
   else if x < 3200 then [s.nat (O.src_gen_format x)]
   else match s.recircOf x with | some d => [s.nat (O.dst_format d)] | none => []).filter (fun f => f ≠ 0)

/-- The format whose rate times a source: the detected one, or else the expected one. -/
def State.vsrcFormat (s : State) (x : Nat) : Nat :=
  if x < 3072 then
    (if s.nat (O.src_format_detected x) ≠ 0 then s.nat (O.src_format_detected x) else s.nat (O.src_format_expected x))
  else (s.vsrcFormats x).headD 0

/-- The format by which a scaler's need is computed (R266). -/
def State.needFormat (s : State) (x : Nat) : Nat :=
  if x < 3072 ∧ s.nat (O.src_format_expected x) ≠ 0 then s.nat (O.src_format_expected x) else s.vsrcFormat x

/-- The division of a source's 2160p picture (R202, R204, R245); a recirculated source has its destination's. -/
def State.vsrcDivision (s : State) (x : Nat) : Nat :=
  if x < 1024 then
    (if s.nat (O.sdi_rx_division x) ≠ 0 then s.nat (O.sdi_rx_division x)
     else if s.portKind x = 1 then s.nat (O.sdi_division x) else 2)
  else if x < 3072 then s.nat (O.grp_division (groupInst false (x - 1024)))
  else if x < 3200 then 0
  else match s.recircOf x with | some d => s.vdstDivision d | none => 0

/-- A division clash, which needs whole frames (R99, R202, R245). -/
def State.divisionClash (s : State) (x d fmt : Nat) : Bool :=
  is2160 fmt && srcKindOf x != 4 && ((s.vsrcDivision x == 1) != (s.vdstDivision d == 1))

/-- A video source delivers frames: it is timed, or an internal unit that is always settled (R99, R100, R107, R257). -/
def State.vsrcPresent (s : State) (x : Nat) : Bool :=
  if x < 3072 then s.nat (O.src_timing_state x) != 0
  else if x < 3136 then s.nat (O.head_class (x - 3072)) == 1
  else if x < 3200 then true
  else (s.recircOf x).isSome

/-- A video source is settled (R99, R100, R107, R257). -/
def State.vsrcSettled (s : State) (x : Nat) : Bool :=
  if x < 3072 then s.nat (O.src_timing_state x) == 2 else s.vsrcPresent x

/-- The offset of a video source and the time base it stands on (R106, R99, R100, R257). -/
def State.vsrcOffset (s : State) (x : Nat) : Int × Nat :=
  if x < 3072 then (s.int (O.src_ingress_offset x), s.nat (O.src_measure_tb x))
  else if x < 3136 then
    (s.int (O.head_timing_offset (x - 3072)) - s.nat (O.head_head_lead (x - 3072)), s.nat (O.head_time_base (x - 3072)))
  else if x < 3200 then (s.int (O.src_gen_offset x), s.nat (O.src_gen_tb x))
  else
    match s.recircOf x with
    | some d => (s.int (O.dst_timing_offset d) - s.effectiveDelay d, s.nat (O.dst_time_base d))
    | none => (0, 0)

/-- The difference of two time bases as an offset from the alignment points of a format (R106). -/
def State.tbShift (s : State) (f a b : Nat) : Int :=
  let x := s.tbDiff a b
  if 0 ≤ x then alignOffset f x.toNat else -(alignOffset f (-x).toNat)

/-- Δ of a source against a destination with effective playout delay D (R106). -/
def State.coDelta (s : State) (x d delay : Nat) : Int :=
  let f := s.nat (O.dst_format d)
  let o := s.vsrcOffset x
  wrapHalf (framePeriod f)
    (o.1 + s.tbShift f (s.nat (O.dst_time_base d)) o.2 + (delay : Int) - s.int (O.dst_timing_offset d))

/-- The direct window: Δ within 2 µs either side (R86, R106). -/
def inWindow (delta : Int) : Bool := -2000 ≤ delta && delta ≤ 2000

/-- The kind of a route's pass latency (Table 3.5). -/
def passKind (x d : Nat) : PassKind :=
  if 3072 ≤ x ∧ x < 3136 then .head
  else if 3200 ≤ x then .storeRead
  else if 1024 ≤ x ∧ x < 3072 then .fromPacket
  else if 1024 ≤ d then .toPacket else .sdi

/-- The stripes of a route: the rate of each link in kb/s (R92). -/
def State.linkRates (s : State) (x d : Nat) : List Nat :=
  let rx := if x < 1024 then s.nat (O.sdi_rx_mode x) else 0
  let f := if d < 3072 then s.nat (O.dst_format d) else s.vsrcFormat x
  let m := if rx ≠ 0 then rx
    else lowestMode f (match s.vsrcSampling x with | some q => q | none => (s.vdstSampling d).getD 0)
  List.replicate (modeLinks m) (modeRate m (pulled f))

/-! ## Switch instants (R102, R103, R133, R292) -/

/-- How a destination's switch instants lie: on the frames of a format with an offset, or, where `rate` is not 0, on
the frames of an audio rate, `lead` ns after an arm at the earliest (Table 11.4). -/
structure Beat where
  tb : Nat
  fmt : Nat
  off : Int
  rate : Nat
  lead : Nat
  deriving DecidableEq, Repr

/-- The TRO of a transmit group in ns (R232). -/
def State.troNow (s : State) (g : Nat) : Nat :=
  let f := s.nat (O.dst_format (1024 + g))
  match s.nat (O.grp_tro_mode (4096 + g)) with
  | 0 => troDefault f
  | 1 => troMinimum f
  | _ => s.nat (O.grp_tro_explicit (4096 + g))

/-- The beat of a video destination. The switch instant of a transmit group is the launch instant of a frame's first
packet, its TRO after alignment (R103, R232). -/
def State.videoBeat (s : State) (d : Nat) : Beat :=
  let f := s.nat (O.dst_format d)
  let off := s.int (O.dst_timing_offset d)
  ⟨s.nat (O.dst_time_base d), f,
    if 1024 ≤ d ∧ d < 3072 then off + s.troNow (d - 1024) - switchOffset f else off, 0, 0⟩

/-- The hertz of a sample-rate choice of 0 or 1. -/
def rateHz (r : Nat) : Nat := if r = 0 then 48000 else 96000

/-- The video destination that an audio or ancillary destination belongs to, where it belongs to one. -/
def State.leadOf (s : State) (d : Dst) : Option Nat :=
  match d.ess with
  | .video => some d.idx
  | .audio =>
    if d.idx < 32768 then some (d.idx / 32)
    else if d.idx < 61440 then
      match s.flowOfChannel 1 d.idx with
      | some i => let g := s.flowGroup 0x3700 i; if g < 2048 then some (1024 + g) else none
      | none => none
    else none
  | .anc =>
    if d.idx < 2048 then
      let p := s.nat (O.anci_port (2048 + d.idx)); if p < 1024 then some p else none
    else let g := s.flowGroup 0x7000 (4096 + d.idx); if g < 2048 then some (1024 + g) else none
  | .timing => none

/-- The beat of a destination. A standalone flow counts on TB0 (log entry 10). -/
def State.beat (s : State) (d : Dst) : Beat :=
  match s.leadOf d with
  | some v => s.videoBeat v
  | none =>
    if d.ess = .audio ∧ 63488 ≤ d.idx then
      let hz := rateHz (s.nat (O.aes_tx_rate ((d.idx - 63488) / 2)))
      ⟨0, 0, 0, hz, ceilDiv nsPerSec hz⟩
    else if d.ess = .audio ∧ 61440 ≤ d.idx then
      let i := 2 + 2 * ((d.idx - 61440) / 64)
      let hz := rateHz (s.nat (O.sap_rate i))
      ⟨s.nat (O.sap_time_base i), 0, 0, hz, ceilDiv (2 * nsPerSec) (hz * max 1 (s.nat (O.sap_slots i)))⟩
    else if d.ess = .audio then
      match s.flowOfChannel 1 d.idx with
      | some i => ⟨0, 0, 0, if s.nat (O.aflow_packet_time 0x3700 i) = 0 then 1000 else 8000, 125000⟩
      | none => ⟨0, 0, 0, 1000, 125000⟩
    else ⟨0, 0, 0, 1000, 0⟩

/-- The first instant of a rate's grid at or after `t`. -/
def gridAtOrAfter (rate t : Nat) : Nat := ceilDiv (ceilDiv (t * rate) nsPerSec * nsPerSec) rate

/-- The first switch instant at or after `t`, on the beat's time base (R112). -/
def Beat.atOrAfter (b : Beat) (t : Nat) : Nat :=
  if b.rate = 0 then switchAtOrAfter b.fmt b.off t else gridAtOrAfter b.rate t

/-- The eligible switch instant after an arm, with effective playout delay D (R109, Table 11.4). -/
def Beat.eligible (b : Beat) (arm delay : Nat) : Nat :=
  if b.rate = 0 then switchAtOrAfter b.fmt b.off (arm + delay + 1) else gridAtOrAfter b.rate (arm + b.lead)

/-- The period of a beat in ns. -/
def Beat.period (b : Beat) : Nat := if b.rate = 0 then framePeriod b.fmt else ceilDiv nsPerSec b.rate

/-- D of a destination for a placement: its video destination's, 0 where it has none (R85, R121). -/
def State.delayOf (s : State) (d : Dst) (pl : Placement) : Nat :=
  match s.leadOf d with
  | some v => if v < 3072 then s.playoutDelay v pl.hops pl.delay else 0
  | none => 0

/-! ## Audio clocks (R285 to R287) -/

/-- The DPLL that steers a time base. -/
def State.dpllOfTb (s : State) (n : Nat) : Nat := s.nat (O.tb_dpll n)

/-- The SAP direction of an audio index, as its 4200h instance. -/
def sapInst (i dir : Nat) : Nat := 1 + 2 * ((i - 61440) / 64) + dir

/-- A slave SAP direction with a declared DPLL that its measurement confirms (R297). -/
def State.sapConfirmed (s : State) (inst : Nat) : Bool :=
  s.nat (O.sap_declared_dpll inst) != none8 && s.audio.confirmed.contains inst

/-- The audio source index is present (4000h sub 02): its unit delivers samples (R217, R243, R298, R303). -/
def State.audioPresent (s : State) (i : Nat) : Bool :=
  if i < 32768 then
    s.isSdi (i / 32) && s.nat (O.src_timing_state (i / 32)) != 0 && s.bit (O.sdi_audio_present (i / 32)) (i % 32 / 4)
  else if i < 61440 then
    match s.flowOfChannel 0 i with
    | some f => s.nat (O.flow_state 0x3700 f) == 2 || s.nat (O.flow_state 0x3700 f) == 3
    | none => false
  else if i < 63488 then
    s.nat (O.sap_state (sapInst i 0)) == 2 && (i - 61440) % 64 < s.nat (O.sap_slots (sapInst i 0)) &&
      Machine.bit (s.nat (O.sap_mask_in_force (sapInst i 0))) ((i - 61440) % 64)
  else if i < 63520 then s.nat (O.aes_rx_state ((i - 63488) / 2)) == 1
  else i < 63536

/-- The sample rate of an audio source, as 4000h sub 03 codes it. -/
def State.audioRate (s : State) (i : Nat) : Nat :=
  if !s.audioPresent i then 0
  else if i < 32768 then 2
  else if i < 61440 then
    match s.flowOfChannel 0 i with | some f => 2 + 2 * s.nat (O.aflow_sample_rate 0x3700 f) | none => 0
  else if i < 63488 then 2 + 2 * s.nat (O.sap_rate (sapInst i 0))
  else if i < 63520 then s.nat (O.aes_rx_rate ((i - 63488) / 2))
  else s.nat (O.asource_gen_rate i)

/-- The time base of a flow: its group's, or TB0 where it stands alone (R229, log entry 10). -/
def State.flowTb (s : State) (inst : Nat) : Nat :=
  let g := s.flowGroup 0x3700 inst
  if g < 2048 then (if flowIsTx 0x3700 inst then s.nat (O.dst_time_base (1024 + g)) else s.nat (O.src_measure_tb (1024 + g)))
  else 0

/-- The clock domain of an audio source (Table 11.2). -/
def State.srcDomain (s : State) (i : Nat) : Nat :=
  if !s.audioPresent i then none16
  else if i < 32768 then
    if s.vsrcSettled (i / 32) then s.dpllOfTb (s.nat (O.src_measure_tb (i / 32))) else 256 + i / 32
  else if i < 61440 then
    match s.flowOfChannel 0 i with | some f => s.dpllOfTb (s.flowTb f) | none => none16
  else if i < 63488 then
    let inst := sapInst i 0
    if s.nat (O.sap_clock_role inst) = 1 then s.nat (O.sap_clock_dpll inst)
    else if s.sapConfirmed inst then s.nat (O.sap_declared_dpll inst)
    else 2048 + 2 * ((i - 61440) / 64)
  else if i < 63520 then 2112 + (i - 63488) / 2
  else s.nat (O.asource_gen_dpll i)

/-- The clock domain of an audio destination (Table 11.2). -/
def State.dstDomain (s : State) (i : Nat) : Nat :=
  if i < 32768 then s.dpllOfTb (s.nat (O.dst_time_base (i / 32)))
  else if i < 61440 then
    match s.flowOfChannel 1 i with | some f => s.dpllOfTb (s.flowTb f) | none => none16
  else if i < 63488 then
    let inst := sapInst i 1
    if s.nat (O.sap_clock_role inst) = 1 then s.nat (O.sap_clock_dpll inst)
    else if s.sapConfirmed inst then s.nat (O.sap_declared_dpll inst)
    else 2049 + 2 * ((i - 61440) / 64)
  else if i < 63520 then s.nat (O.aes_tx_dpll ((i - 63488) / 2))
  else none16

/-- The sample rate of an audio destination, as 4100h sub 0A codes it. -/
def State.dstRate (s : State) (i : Nat) : Nat :=
  if i < 32768 then 2
  else if i < 61440 then
    match s.flowOfChannel 1 i with | some f => 2 + 2 * s.nat (O.aflow_sample_rate 0x3700 f) | none => 0
  else if i < 63488 then 2 + 2 * s.nat (O.sap_rate (sapInst i 1))
  else if i < 63520 then 2 + 2 * s.nat (O.aes_tx_rate ((i - 63488) / 2))
  else 0

/-- A source channel is non-PCM (R285): by its override, its AM824 flow, or its latest complete block. -/
def State.nonPcm (s : State) (i : Nat) : Bool :=
  match s.nat (O.asource_pcm_override i) with
  | 1 => false
  | 2 => true
  | _ =>
    (32768 ≤ i && i < 61440 &&
      (match s.flowOfChannel 0 i with | some f => s.nat (O.aflow_encoding 0x3700 f) == 2 | none => false)) ||
    s.audio.nonAudio.contains i

/-- The two sample clocks are related: one domain and one rate (R286). An absent source has none to relate. -/
def State.clocksRelated (s : State) (src dst : Nat) : Bool :=
  s.srcDomain src == s.dstDomain dst && s.audioRate src == s.dstRate dst

/-- An ASRC is needed on an audio path: the clocks are unrelated and the source is PCM (R158). -/
def State.asrcNeeded (s : State) (src dst : Nat) : Bool :=
  s.srcDomain src != none16 && !s.clocksRelated src dst && !s.nonPcm src

/-- The tile whose audio slice an audio destination stands on; SAP n on slice n div 4, AES3 ports as log entry 10 says. -/
def State.adstTile (s : State) (i : Nat) : Nat :=
  if i < 32768 then i / 2048
  else if i < 61440 then match s.flowOfChannel 1 i with | some f => s.flowTile 0x3700 f | none => 0
  else if i < 63488 then (i - 61440) / 256
  else (i - 63488) / 4

/-! ## Channels of a video source, and follow sets (R120 to R123, R228, R279) -/

/-- The audio channels of flows in order: ascending flows, and channels within a flow (R228). -/
def State.flowChannels (s : State) (flows : List Nat) : List Nat :=
  flows.flatMap (fun f =>
    let b := s.nat (O.aflow_channel_base 0x3700 f)
    if b = none16 then [] else (List.range (s.nat (O.aflow_channels 0x3700 f))).map (fun c => b + c))

/-- The scaler that a head's audio layer shows, and its source (R279). -/
def State.headAudioSource (s : State) (h : Nat) : Option Nat :=
  let l := s.nat (O.head_audio_layer h)
  if l = none16 then none
  else if s.natNow (O.layer_content l) ≠ 1 then none
  else
    let n := s.natNow (O.layer_scaler l)
    if n = none8 then none
    else (s.route ⟨.video, 3072 + 64 * (h / 4) + n⟩).map (fun r => idIdx r.pl.src)

/-- The audio source of channel `c` of a video source that is not a head or recirculated. -/
def State.plainChannel (s : State) (x c : Nat) : Option Nat :=
  if x < 1024 then
    if s.idUnit 1 0 (32 * x + c) = 0 ∧ c < 32 then some (32 * x + c) else none
  else if x < 3072 then (s.flowChannels (s.groupAudio false (x - 1024)))[c]?
  else none

/-- The default of a follow set's audio base (R123): the identifier's index. -/
def State.defaultAudioBase (s : State) (d : Nat) : Nat :=
  if d < 1024 then 32 * d
  else match s.flowChannels (s.groupAudio true (d - 1024)) with | c :: _ => c | [] => none16

/-- The instances from `base` of 7000h that are assigned to a port, less `base`, ascending: instances 2p and 2p + 1
while they keep their default, and those written (R213). -/
def State.ancOf (s : State) (base p : Nat) : List Nat :=
  let written := (s.objs.filter (fun e => e.1.fam == 0x7000 && e.1.sub == 0 && base ≤ e.1.inst && e.1.inst < base + 2048)).map
    (fun e => e.1.inst - base)
  sortBy (fun a b => a < b) (nub ((written ++ [2 * p, 2 * p + 1]).filter (fun j => s.nat ⟨0x7000, base + j, 0⟩ = p)))

/-- The insertion slots of a port, ascending. -/
def State.portSlots (s : State) (p : Nat) : List Nat := s.ancOf 2048 p

/-- The extraction filters of a port, ascending. -/
def State.portFilters (s : State) (p : Nat) : List Nat := s.ancOf 0 p

/-- The default of a follow set's ancillary base (R123). -/
def State.defaultAncBase (s : State) (d : Nat) : Nat :=
  if d < 1024 then 2 * d
  else match s.groupAnc true (d - 1024) with | f :: _ => f - 4096 | [] => none16

/-- The index of a follow base: the one written, or the default of the destination's kind (R123). -/
def State.followBase (s : State) (k : Key) (dfl : Nat) : Nat :=
  let i := s.intNow k
  if i = unsetN then dfl else if i.toNat = none32 then none16 else idIdx i.toNat

/-- The audio destinations of a follow set, each with its mask bit; the ones that the destination carries (R120). -/
def State.followAudio (s : State) (d : Nat) : List (Nat × Nat) :=
  if 3072 ≤ d then []
  else
    let base := s.followBase (O.dst_follow_audio_base d) (s.defaultAudioBase d)
    if base = none16 then []
    else
      (List.range 32).filterMap (fun i =>
        if Machine.bit (s.natNow (O.dst_follow_audio_mask d)) i ∧ s.idUnit 1 1 (base + i) = 0 ∧ base + i < 63520 ∧
            (base + i < 61440 → s.leadOf ⟨.audio, base + i⟩ = some d) then
          some (i, base + i)
        else none)

/-- The ancillary destinations of a follow set, each with its mask bit (R120). -/
def State.followAnc (s : State) (d : Nat) : List (Nat × Nat) :=
  if 3072 ≤ d then []
  else
    let base := s.followBase (O.dst_follow_anc_base d) (s.defaultAncBase d)
    if base = none16 then []
    else
      (List.range 32).filterMap (fun i =>
        if Machine.bit (s.natNow (O.dst_follow_anc_mask d)) i ∧ base + i < 4096 ∧
            s.leadOf ⟨.anc, base + i⟩ = some d then some (i, base + i) else none)

/-- The source of channel `c` of a video source (R120): for a programme head that of its audio layer (R279), for a
recirculated source what its destination's channel carries; `fuel` bounds the chain. -/
def State.channelOf (s : State) : Nat → Nat → Nat → Option Nat
  | 0, _, _ => none
  | fuel + 1, x, c =>
    if x < 3072 then s.plainChannel x c
    else if x < 3136 then
      match s.headAudioSource (x - 3072) with
      | some y => s.channelOf fuel y c
      | none => none
    else if x < 3200 then none
    else
      match s.recircOf x with
      | none => none
      | some d =>
        match (s.followAudio d).find? (fun e => e.1 = c) with
        | none => none
        | some e => (s.route ⟨.audio, e.2⟩).map (fun r => idIdx r.pl.src)

/-- The ancillary source of the `i`-th extraction filter of a video source (R120). -/
def State.filterOf (s : State) (x i : Nat) : Option Nat :=
  if x < 1024 then (s.portFilters x)[i]?
  else if x < 3072 then ((s.groupAnc false (x - 1024))[i]?).map (fun f => f - 2048)
  else if x < 3200 then none
  else
    match s.recircOf x with
    | none => none
    | some d =>
      match (s.followAnc d).find? (fun e => e.1 = i) with
      | none => none
      | some e => (s.route ⟨.anc, e.2⟩).map (fun r => idIdx r.pl.src)

/-- The audio and ancillary destinations that follow `d` when it takes source `x`, each with the source it takes;
none where the source has no such channel (R120, R121). -/
def State.followPlan (s : State) (d x : Nat) : List (Dst × Option Nat) :=
  let first := s.natNow (O.dst_follow_audio_first d)
  (s.followAudio d).map (fun e => (⟨.audio, e.2⟩, s.channelOf 8 x (first + e.1))) ++
    (s.followAnc d).map (fun e => (⟨.anc, e.2⟩, s.filterOf x e.1))

/-! ## Loops (R101) -/

/-- The video sources that a video source shows or carries directly: a head its scalers' sources, a recirculated
source its destination's. -/
def State.feeds (s : State) (x : Nat) : List Nat :=
  if 3072 ≤ x ∧ x < 3136 then
    let t := (x - 3072) / 4
    (s.sw.routes.filter (fun r => r.dst.ess = .video ∧ 3072 + 64 * t ≤ r.dst.idx ∧ r.dst.idx < 3136 + 64 * t ∧
        (List.range 128).any (fun i => s.natNow (O.layer_head (128 * t + i)) = (x - 3072) % 4 ∧
          s.natNow (O.layer_content (128 * t + i)) = 1 ∧ s.natNow (O.layer_scaler (128 * t + i)) = (r.dst.idx - 3072) % 64))).map
      (fun r => idIdx r.pl.src)
  else if 3200 ≤ x then
    match s.recircOf x with
    | some d => match s.route ⟨.video, d⟩ with | some r => [idIdx r.pl.src] | none => []
    | none => []
  else []

/-- A video source is reached from another through recirculations and heads. -/
def State.reaches (s : State) : Nat → Nat → Nat → Bool
  | 0, _, _ => false
  | fuel + 1, x, target => (s.feeds x).any (fun y => y = target || s.reaches fuel y target)

/-- Taking source `x` to video destination `d` would close a loop (R101): a recirculated source that carries `d`, or a
head that shows the scaler `d`, is `x` or feeds it. -/
def State.closesLoop (s : State) (x d : Nat) : Bool :=
  let from' := ((s.objs.filter (fun e => e.1.fam == 0x3000 && e.1.sub == 0x0F)).map (fun e => e.1.inst)).filter
    (fun r => s.recircOf r = some d)
  let heads := if 3072 ≤ d then
      let t := (d - 3072) / 64
      (List.range 4).map (fun h => 3072 + 4 * t + h) |>.filter (fun h =>
        (List.range 128).any (fun i => s.natNow (O.layer_head (128 * t + i)) = (h - 3072) % 4 ∧
          s.natNow (O.layer_content (128 * t + i)) = 1 ∧ s.natNow (O.layer_scaler (128 * t + i)) = (d - 3072) % 64))
    else []
  (from' ++ heads).any (fun y => y = x || s.reaches 16 x y)

end Sys2Proof.Machine
end

