-- ==== Sys2Proof/Machine/Placing.lean ====
section
/-! DEFINITION. The placer's decision for one destination: the steps of Table 6.1 over the candidates in the order of
R153, with hints, ledgers and costs (R152 to R164, R169, R170, R180 to R183, R262, R265, R266). -/

namespace Sys2Proof.Machine

/-- A refusal: reply code and detail of Table 6.12. -/
abbrev Refuse := Nat × Nat

/-! ## Hints (R169, R170) -/

/-- The enabled hints of a kind whose subject is one of `subs`: their instances. -/
def State.hints (s : State) (kind : Nat) (subs : List Nat) : List Nat :=
  (s.objs.filter (fun e => e.1.fam == 0x3400 && e.1.sub == 0 && 256 ≤ e.1.inst && e.2 == .n 1 &&
      s.nat (O.hint_kind e.1.inst) == kind && subs.contains (s.normId (s.nat (O.hint_subject e.1.inst))))).map
    (fun e => e.1.inst)

/-- A value of a kind is allowed: it matches every require hint and no forbid hint (Table 6.7). -/
def State.hintAllows (s : State) (on : Bool) (kind : Nat) (subs : List Nat) (v : Nat) : Bool :=
  !on || (s.hints kind subs).all (fun h =>
    let same := s.nat (O.hint_value h) == v
    match s.nat (O.hint_action h) with | 0 => same | 3 => !same | _ => true)

/-- The hint term of a value: the weights of the avoid hints it matches less those of the prefer hints (Table 6.3). -/
def State.hintCost (s : State) (on : Bool) (kind : Nat) (subs : List Nat) (v : Nat) : Int :=
  if !on then 0
  else sumByInt (fun h =>
    if s.nat (O.hint_value h) = v then
      match s.nat (O.hint_action h) with
      | 1 => -(s.nat (O.hint_weight h) : Int) | 2 => s.nat (O.hint_weight h) | _ => 0
    else 0) (s.hints kind subs)

/-! ## Planes (R92, R93, R153, R156, R164) -/

/-- A channel's occupancy in permille of rated demand, rounded down. -/
def permille (booked limit : Nat) : Nat := booked * 1000 / limit

/-- The die crossings of a stripe beyond the fewest possible: two through a plane of the other die where both tiles
stand on one die, none between dies (R164). -/
def extraCrossings (inTile outTile plane : Nat) : Nat :=
  if inTile / 8 = outTile / 8 ∧ plane / 16 ≠ inTile / 8 then 2 else 0

/-- A plane on which a stripe may stand after `l`: it is in service, allowed, and its channels stay at or below rated
demand. -/
def State.planeFits (s : State) (on : Bool) (subs : List Nat) (l : List Stripe) (used : List Nat) (inT outT khs p : Nat) :
    Bool :=
  s.nat (O.plane_state (1 + p)) == 0 && !used.contains p && s.hintAllows on 0 subs p &&
    inBooked l p inT + khs ≤ ratedKhs && outBooked l p outT + khs ≤ ratedKhs

/-- The plane and die cost of a stripe on a plane after its booking (R153). -/
def State.planeCost (s : State) (on : Bool) (subs : List Nat) (l : List Stripe) (inT outT khs p : Nat) : Int :=
  (s.nat O.placer_w_plane * max (permille (inBooked l p inT + khs) ratedKhs) (permille (outBooked l p outT + khs) ratedKhs) +
    s.nat O.placer_w_die * extraCrossings inT outT p : Nat) + s.hintCost on 0 subs p

/-- The lowest of a list by an integer measure, the first of equals. -/
def minByInt {α : Type} (f : α → Int) : List α → Option α
  | [] => none
  | x :: r => match minByInt f r with
    | none => some x
    | some y => if f y < f x then some y else some x

/-- The plane of one stripe: that of its stream where it crosses one already, and otherwise the cheapest that fits, the
lowest-numbered on a tie (R153, R156). -/
def State.choosePlane (s : State) (on : Bool) (subs : List Nat) (l : List Stripe) (used : List Nat)
    (feed link inT outT khs : Nat) : Option Nat :=
  match l.find? (fun x => x.feed = feed ∧ x.link = link ∧ x.inTile = inT ∧ s.nat (O.plane_state (1 + x.plane)) = 0) with
  | some x =>
    if l.any (fun y => y.feed = feed ∧ y.link = link ∧ y.plane = x.plane ∧ y.outTile = outT) then some x.plane
    else if outBooked l x.plane outT + khs ≤ ratedKhs then some x.plane else none
  | none =>
    minByInt (s.planeCost on subs l inT outT khs)
      ((List.range 32).filter (s.planeFits on subs l used inT outT khs))

/-- A stripe before it has a plane: feed, link, tiles and booking; `apart` where its plane must differ from those of the
route's other stripes (R92). -/
structure Want where
  feed : Nat
  link : Nat
  inTile : Nat
  outTile : Nat
  khs : Nat
  apart : Bool
  deriving DecidableEq, Repr

/-- The planes of a route's stripes, stripe by stripe (R153); none where one fits nowhere. -/
def State.choosePlanes (s : State) (on : Bool) (subs : List Nat) : List Stripe → List Nat → List Want → Option (List Stripe)
  | _, _, [] => some []
  | l, used, w :: ws =>
    match s.choosePlane on subs l (if w.apart then used else []) w.feed w.link w.inTile w.outTile w.khs with
    | none => none
    | some p =>
      let st : Stripe := ⟨w.feed, w.link, p, w.inTile, w.outTile, w.khs⟩
      (s.choosePlanes on subs (l ++ [st]) (if w.apart then used ++ [p] else used) ws).map (fun r => st :: r)

/-- The plane and die terms of a candidate's stripes: the highest occupancy that it books, and its crossings (R164). -/
def State.stripesCost (s : State) (on : Bool) (subs : List Nat) (l new : List Stripe) : Int :=
  let all := l ++ new
  (s.nat O.placer_w_plane * maxBy (fun x => max (permille (inBooked all x.plane x.inTile) ratedKhs)
      (permille (outBooked all x.plane x.outTile) ratedKhs)) new +
    s.nat O.placer_w_die * sumBy (fun x => extraCrossings x.inTile x.outTile x.plane) new : Nat) +
    sumByInt (fun p => s.hintCost on 0 subs p) (nub (new.map (fun x => x.plane)))

/-- The stream of a destination's store reads. -/
def readFeed (dstId : Nat) : Nat := 4294967296 + dstId

/-- What a route's following audio and ancillary streams book together on a channel, in thousands of handshakes a
second: their bound in R156 (log entry 11). -/
abbrev cellKhs : Nat := 1000

/-! ## HBM (R155, R161, R163, R180 to R183) -/

/-- Any stack is in service. -/
def State.anyStack (s : State) : Bool := (List.range 4).any s.stackUp

/-- A booking of a stack against its ledgers: 0, or 2 for bandwidth or 3 for space (Table 6.12). -/
def State.stackShort (s : State) (st mbps bytes : Nat) : Nat :=
  if s.stackBw st + mbps > stackMbps then 2 else if s.stackSpace st + bytes > stackBytes then 3 else 0

/-- The less-booked stack in service beside a die, the lower on a tie, where it has room (R194, R236, R262). -/
def State.bookBeside (s : State) (die mbps bytes : Nat) : Except Refuse Nat :=
  if !s.anyStack then .error (C.noPath, 13)
  else
    match minBy (fun st => s.stackBw st) ([2 * die, 2 * die + 1].filter s.stackUp) with
    | none => .error (C.noPath, 13)
    | some st =>
      match s.stackShort st mbps bytes with
      | 0 => .ok st
      | 2 => .error (C.hbmBw, 2)
      | _ => .error (C.noPath, 3)

/-- The tiles beside which a store of a stack writes and reads: those of the stack's die, or of die 0 where it holds
none (R155). -/
def State.stackDie (s : State) (st : Nat) : Nat := if s.isH then 0 else st / 2

/-- The tile of a die with the lowest booked load by a measure, the lower on a tie. -/
def lightestTile (die : Nat) (load : Nat → Nat) : Nat :=
  (minBy load ((List.range 8).map (fun i => 8 * die + i))).getD (8 * die)

/-- The booked egress load of a tile over all planes. -/
def egressLoad (l : List Stripe) (t : Nat) : Nat := sumBy (fun p => outBooked l p t) (List.range 32)
/-- The booked ingress load of a tile over all planes. -/
def ingressLoad (l : List Stripe) (t : Nat) : Nat := sumBy (fun p => inBooked l p t) (List.range 32)

/-- The tile that writes a new store (R155). -/
def State.writeTileFor (s : State) (l : List Stripe) (st srcTile : Nat) : Nat :=
  let die := s.stackDie st
  if srcTile / 8 = die then srcTile else lightestTile die (egressLoad l)

/-- The tile that reads a new store for a destination (R155). -/
def State.readTileFor (s : State) (l : List Stripe) (st dstTile : Nat) : Nat :=
  let die := s.stackDie st
  if dstTile / 8 = die then dstTile else lightestTile die (ingressLoad l)

/-! ## ASRC (R158) -/

/-- A free ASRC channel on the first slice, from the destination's tile and then ascending, that has one (R153, R158). -/
def State.freeAsrc (s : State) (on : Bool) (subs : List Nat) (taken : List AsrcBook) (tile : Nat) : Option (Nat × Nat) :=
  let all := s.placer.asrc ++ s.runningPlan.asrc ++ taken
  (tile :: (List.range s.tiles).filter (fun t => t ≠ tile)).findSome? (fun t =>
    if s.hintAllows on 4 subs t then
      (s.pick (all.map (fun a => a.ch)) (128 * t) 128 64).map (fun c => (t, c))
    else none)

/-- The ASRC channels of audio paths, one after another; none where one finds no channel. A path that has one keeps it. -/
def State.bookAsrc (s : State) (on : Bool) : List AsrcBook → List (Nat × Nat) → Option (List AsrcBook)
  | taken, [] => some taken
  | taken, (d, x) :: r =>
    if !s.asrcNeeded x d ∨ s.placer.asrc.any (fun a => a.dst = d ∧ a.src = x) then s.bookAsrc on taken r
    else
      match s.freeAsrc on [s.dstId ⟨.audio, d⟩] taken (s.adstTile d) with
      | none => none
      | some (t, c) => s.bookAsrc on (taken ++ [⟨c, t, d, x⟩]) r

/-! ## Scalers (R262, R263, R265, R266) -/

/-- The pixels and lines of a format's active picture. -/
def rasterOf (f : Nat) : Nat × Nat :=
  if f = 0 then (0, 0) else if f = 1 then (720, 486) else if f = 2 then (720, 576) else if f ≤ 5 then (1280, 720)
  else if f ≤ 21 then (1920, 1080) else (3840, 2160)

/-- A scaler's need for a source format, with the latest accepted settings (R265). -/
def State.scalerNeed (s : State) (n fmt : Nat) : Nat :=
  let h0 := s.nat (O.scaler_crop_height n)
  let h := if h0 = 0 then (rasterOf fmt).2 else h0
  let lines := if byFields fmt then h / 2 else h
  let outH := s.nat (O.scaler_out_height n)
  let outW := s.nat (O.scaler_out_width n)
  if lines ≤ outH then outW * 4 else outW * s.nat (O.scaler_taps n) * ceilDiv lines (max 1 outH)

/-- The source of a scaler: that of its route, or of the latest take on its way. -/
def State.scalerSource (s : State) (n : Nat) : Option Nat :=
  (s.route ⟨.video, 3072 + n⟩).map (fun r => idIdx r.pl.src)

/-- A scaler's own need with the source it carries (R265). -/
def State.needNow (s : State) (n : Nat) : Nat :=
  match s.scalerSource n with | some x => s.scalerNeed n (s.needFormat x) | none => 0

/-- The allocation of a scaler, with the task under way. -/
def State.allocOf (s : State) (n : Nat) : Nat :=
  match s.runningPlan.allocs.find? (fun e => e.1 = n) with
  | some e => e.2
  | none => s.nat (O.scaler_allocation n)

/-- The partner of a paired scaler, by instance. -/
def State.pairWith (s : State) (n : Nat) : Option Nat :=
  let m := s.nat (O.scaler_pair_with n)
  if m = none8 then none else some (64 * (n / 64) + m)

/-- The pixels booked in a compositor's pool; a pair's allocation counts once (R268). -/
def State.poolBooked (s : State) (t : Nat) : Nat :=
  sumBy (fun i =>
    let n := 64 * t + i
    match s.pairWith n with
    | some m => if m < n then 0 else s.allocOf n
    | none => s.allocOf n) (List.range 64)

/-- The pixels of a compositor's pool. -/
abbrev poolPixels : Nat := 1048576

/-- The allocations that follow when scaler `n` needs `need` pixels: of itself, and of its partner (R266, R268). -/
def State.allocsFor (s : State) (n need : Nat) : List (Nat × Nat) :=
  match s.pairWith n with
  | none => [(n, need)]
  | some m => let a := max need (s.needNow m); [(n, a), (m, a)]

/-- The pool after some allocations are set. -/
def State.poolAfter (s : State) (t : Nat) (allocs : List (Nat × Nat)) : Nat :=
  let fresh (n : Nat) : Nat := match allocs.find? (fun e => e.1 = n) with | some e => e.2 | none => s.allocOf n
  sumBy (fun i =>
    let n := 64 * t + i
    match s.pairWith n with
    | some m => if m < n then 0 else fresh n
    | none => fresh n) (List.range 64)

/-- The layers that show a scaler and the head that each stands on. -/
def State.layersOf (s : State) (n : Nat) : List (Nat × Nat) :=
  let t := n / 64
  ((s.objs.filter (fun e => e.1.fam == 0x3900 && e.1.sub == 0x03 && e.1.inst / 128 == t && e.2 == .n (n % 64))).map
    (fun e => e.1.inst)).filterMap (fun l =>
      if s.nat (O.layer_content l) = 1 ∧ s.nat (O.layer_head l) < 4 then some (l, 4 * t + s.nat (O.layer_head l)) else none)

/-- Some programme head takes its audio from a layer that shows the scaler (R262, R279). -/
def State.carriesAudio (s : State) (n : Nat) : Bool :=
  (s.layersOf n).any (fun e => s.nat (O.head_audio_layer e.2) = e.1)

/-- The bytes of one slot of a window store (R262). -/
def State.windowSlot (s : State) (n : Nat) : Nat :=
  s.nat (O.scaler_out_width n) * s.nat (O.scaler_out_height n) * 5 + (if s.carriesAudio n then 131072 else 0)

/-- Mb/s of a window-store stream at a rate in whole frames a second (R181, R262). -/
def windowMbps (bytes rate : Nat) : Nat := ceilDiv (bytes * 8 * rate * 5) 4000000

/-- What a scaler's window store books: Mb/s and bytes (R262). -/
def State.windowBook (s : State) (n fmt : Nat) : Nat × Nat :=
  let b := s.windowSlot n
  (windowMbps b (bookedRate fmt * (if byFields fmt then 2 else 1)) +
     sumBy (fun e => windowMbps b (bookedRate (s.nat (O.head_format e.2)))) (s.layersOf n), 3 * b)

/-! ## Candidates -/

/-- Where a route's data enter this chip: the tile, and for a route over the mesh its hops, extra delay and lanes. -/
structure Entry where
  tile : Nat
  hops : Nat
  extra : Nat
  lanes : List (Nat × Nat)
  deriving DecidableEq, Repr

/-- A candidate that has passed: its placement and what it books newly, with its cost. -/
structure Candidate where
  pl : Placement
  plan : Plan
  cost : Int
  deriving DecidableEq, Repr

/-- An empty plan. -/
def Plan.none : Plan := ⟨[], [], [], [], [], [], [], []⟩

/-- Why a candidate fell: the step of Table 6.1, and the refusal. -/
abbrev Fall := Nat × Refuse

/-- Of the reasons why all candidates fell, the last step reached gives the refusal; at step 4 bandwidth on any stack
goes before space (R152, R163). -/
def refusalOf (fs : List Fall) : Refuse :=
  let top := maxBy (fun f => f.1) fs
  let at' := fs.filter (fun f => f.1 = top)
  match at'.find? (fun f => f.2.1 = C.hbmBw) with
  | some f => f.2
  | none => match at'.getLast? with | some f => f.2 | none => (C.noPath, 0)

/-- The die's booked demand rises, and PACE_MARGIN stands there (R76, R160). -/
def State.marginShort (s : State) (l new : List Stripe) : Bool :=
  s.power.margin.any (fun die => dieDemand l die < dieDemand (l ++ new) die)

/-- A video candidate at a timing path (1 direct, 2 frame sync, 3 programme delay, 4 unaligned direct): steps 4 to 9 with
a stack for a new store. -/
def State.videoCandidate (s : State) (on : Bool) (d x srcId path st : Nat) (e : Entry) : Except Fall Candidate :=
  let dst : Dst := ⟨.video, d⟩
  let dstId := s.dstId dst
  let subs := [srcId, dstId]
  let l := s.stripes
  let outT := s.vdstTile d
  let fmt := if d < 3072 then s.nat (O.dst_format d) else s.needFormat x
  let rates := s.linkRates x d
  let smp := match s.vsrcSampling x with | some q => q | none => (s.vdstSampling d).getD 0
  let n := if d < 3072 then s.nat (O.fsd_programme_delay (1 + d)) else 0
  let stored := path ≠ 1
  let held := s.allStores.find? (fun y => y.src = srcId ∧ y.fmt = fmt ∧ y.purpose = 0 ∧ y.deeper = none ∧ s.stackUp y.stack)
  let share := match held with | some y => n + 2 ≤ y.depth | none => false
  let useSt := match held with | some y => if share then y.stack else st | none => st
  let stream := streamMbps fmt smp
  -- step 4
  let short : Nat :=
    if !stored then 0
    else if share then s.stackShort useSt stream 0
    else s.stackShort useSt (2 * stream) (slotBytes fmt smp * (n + 2))
  let num := if share then held.map (fun y => y.i) else s.freeStore []
  if stored ∧ short = 2 then .error (4, (C.hbmBw, 2))
  else if stored ∧ (short = 3 ∨ num.isNone) then .error (4, (C.noPath, 3))
  else
    let follows := (s.followPlan d x)
    let streams := follows.filter (fun f => f.2.isSome)
    let wTile := s.writeTileFor l useSt e.tile
    let rTile := match held with | some y => if share then y.readTile else s.readTileFor l useSt outT | none => s.readTileFor l useSt outT
    let linked := rates.zip (List.range rates.length)
    let direct := if path = 1 ∨ path = 4 then
        linked.map (fun r => (⟨srcId, r.2, e.tile, outT, stripeKhs r.1, true⟩ : Want)) else []
    let writes := if stored ∧ !share then
        linked.map (fun r => (⟨srcId, r.2, e.tile, wTile, stripeKhs r.1, true⟩ : Want)) else []
    let reads := if stored then
        linked.map (fun r => (⟨readFeed dstId, r.2, rTile, outT, stripeKhs r.1, true⟩ : Want)) else []
    let cells := if streams.isEmpty then [] else
        [(⟨if stored then readFeed dstId else srcId, 100, if stored then rTile else e.tile, outT, cellKhs, false⟩ : Want)]
    -- step 5
    match s.choosePlanes on subs l [] (direct ++ writes ++ reads ++ cells) with
    | none => .error (5, (C.noPath, 1))
    | some ss =>
      let wr := ss.filter (fun y => y.feed = srcId ∧ y.outTile = wTile ∧ stored ∧ !share)
      let own := if stored ∧ !share ∧ path ≠ 4 then ss.filter (fun y => y.feed ≠ srcId) else ss
      -- step 6
      match s.bookAsrc on [] (follows.filterMap (fun f =>
          match f with | (⟨.audio, a⟩, some y) => some (a, y) | _ => none)) with
      | none => .error (6, (C.noPath, 6))
      | some asrc =>
        -- step 7
        let need := if 3072 ≤ d then s.scalerNeed (d - 3072) (s.needFormat x) else 0
        let allocs := if 3072 ≤ d then s.allocsFor (d - 3072) need else []
        let t := (d - 3072) / 64
        let win := s.windowBook (d - 3072) (s.needFormat x)
        let others := s.placer.hbm.filter (fun b => !(b.fam == 0x3A00 && b.inst == d - 3072 && decide (3072 ≤ d)))
        let s' : State := { s with placer := { s.placer with hbm := others } }
        let window : Except Refuse (List HbmBook) :=
          if 3072 ≤ d then
            (s'.bookBeside (t / 8) win.1 win.2).map (fun k => [⟨0x3A00, d - 3072, k, win.1, win.2⟩])
          else .ok []
        if 3072 ≤ d ∧ s.poolAfter t allocs > poolPixels then .error (7, (C.lineBuf, 4))
        else
          match window with
          | .error r => .error (7, r)
          | .ok hbm =>
            -- step 9
            if s.marginShort l ss then .error (9, (C.noPath, 10))
            else
              let store : List StoreRec := if stored ∧ !share then
                  [⟨num.getD 0, 1, 0, srcId, fmt, smp, useSt, n + 2, [], 0, none, wTile, rTile, wr, none⟩] else []
              let deepens := match held with
                | some y => if stored ∧ !share then [(y.i, num.getD 0)] else []
                | none => []
              let pl : Placement :=
                ⟨dstId, srcId, path, if stored then num else none, own, asrc.map (fun a => a.ch), e.lanes,
                 if stored ∧ path ≠ 4 then 0 else e.hops, if stored ∧ path ≠ 4 then 0 else e.extra⟩
              let bwAfter := s.stackBw useSt + (if share then stream else 2 * stream)
              let far := if s.isH then useSt / 2 ≠ 0 else useSt / 2 ≠ outT / 8
              let cost : Int :=
                (s.nat O.placer_w_hop * e.hops : Nat) + s.stripesCost on subs l ss +
                  (if stored then
                    (s.nat O.placer_w_hbm * permille bwAfter stackMbps + s.nat O.placer_w_far * b01 far : Nat) +
                      s.hintCost on 1 subs useSt
                   else 0) +
                  s.hintCost on 5 [dstId] (if path = 3 then 2 else path) +
                  sumByInt (fun a => s.hintCost on 4 [s.dstId ⟨.audio, a.dst⟩] a.slice) asrc
              .ok ⟨pl, ⟨[], store, deepens, asrc, hbm, allocs, [], []⟩, cost⟩

/-- The best of candidates: the cheapest, the first of equals; or the refusal of the step that the last one reached. -/
def bestOf (cs : List (Except Fall Candidate)) : Except Fall Candidate :=
  let good := cs.filterMap (fun c => match c with | .ok v => some v | .error _ => none)
  match minByInt (fun c => c.cost) good with
  | some c => .ok c
  | none =>
    let falls := cs.filterMap (fun c => match c with | .ok _ => none | .error f => some f)
    .error (maxBy (fun f => f.1) falls, refusalOf falls)

/-- The source can be routed to the destination directly: settled, in the direct window, D long enough for the path,
and no whole-frame conversion between divisions (R86, R107, R154, R202, R245). -/
def State.coTimed (s : State) (d x : Nat) (e : Entry) : Bool :=
  let delay := s.playoutDelay d e.hops e.extra
  s.vsrcSettled x && inWindow (s.coDelta x d delay) &&
    passLatency (passKind x d) e.tile (s.vdstTile d) e.hops + 2000 ≤ delay &&
    !s.divisionClash x d (s.nat (O.dst_format d))

/-- The timing paths that step 3 offers for a video destination, before hints (R104, R154, Table 4.5): `mode` 0 CLEAN,
1 QUICK, 2 TIMED. Frame sync is offered beside a direct path only where a timing-path hint concerns the
destination (R170). -/
def State.timingPaths (s : State) (on : Bool) (d x mode : Nat) (co : Bool) : List Nat :=
  let hinted := on && !(s.hints 5 [s.dstId ⟨.video, d⟩]).isEmpty
  if 3072 ≤ d then [1]
  else if s.nat (O.fsd_programme_delay (1 + d)) ≠ 0 then [3]
  else if co then (if hinted then [1, 2] else [1])
  else if mode = 1 ∧ s.vsrcPresent x then (if hinted then [4, 2] else [4])
  else [2]

/-- Steps 2 to 8 for a video route; `forced` gives the timing path where another chip has decided it (R173). -/
def State.videoSteps (s : State) (on : Bool) (d x srcId mode : Nat) (e : Entry) (forced : Option Nat) :
    Except Fall Candidate :=
  let dstId := s.dstId ⟨.video, d⟩
  let limit := if d < 3072 then decide (delayLimit (s.vdstRate d) < s.playoutDelay d e.hops e.extra) else false
  let paths := match forced with
    | some p => [p]
    | none => (s.timingPaths on d x mode (s.coTimed d x e)).filter (fun p =>
        s.hintAllows on 5 [dstId] (if p = 3 then 2 else p))
  if limit then .error (2, (C.noPath, 8))
  else if paths.isEmpty then .error (3, (C.noPath, 11))
  else
    bestOf (paths.flatMap (fun p =>
      if p = 1 then [s.videoCandidate on d x srcId p 0 e]
      else if !s.anyStack then [.error (4, (C.noPath, 13))]
      else
        let sts := (List.range 4).filter (fun k => s.stackUp k && s.hintAllows on 1 [srcId, dstId] k)
        if sts.isEmpty then [.error (4, (C.noPath, 11))]
        else sts.map (fun k => s.videoCandidate on d x srcId p k e)))

/-- The tile at which an audio source enters the fabric. -/
def State.asrcTile (s : State) (i : Nat) : Nat :=
  if i < 32768 then i / 2048
  else if i < 61440 then match s.flowOfChannel 0 i with | some f => s.flowTile 0x3700 f | none => 0
  else if i < 63488 then (i - 61440) / 256
  else if i < 63520 then (i - 63488) / 4 else 0

/-- The tile at which an ancillary source enters the fabric, and at which an ancillary destination leaves it. -/
def State.ancTile (s : State) (dir i : Nat) : Nat :=
  if i < 2048 then
    let p := if dir = 1 then s.nat (O.anci_port (2048 + i)) else s.nat (O.ancx_port i)
    if p < 1024 then p / 64 else 0
  else s.flowTile 0x7000 (if dir = 1 then 4096 + i else 2048 + i)

/-- Steps 5 to 9 for a route of one audio channel or ancillary stream: a cell stream of its own, and an ASRC where the
clocks are unrelated (R91, R158). -/
def State.streamSteps (s : State) (on : Bool) (dst : Dst) (x srcId : Nat) (e : Entry) : Except Fall Candidate :=
  let dstId := s.dstId dst
  let subs := [srcId, dstId]
  let l := s.stripes
  let audio : Bool := dst.ess = .audio
  let outT := if audio then s.adstTile dst.idx else s.ancTile 1 dst.idx
  match s.choosePlanes on subs l [] [⟨srcId, 0, e.tile, outT, cellKhs, false⟩] with
  | none => .error (5, (C.noPath, 1))
  | some ss =>
    match (if audio then s.bookAsrc on [] [(dst.idx, x)] else some []) with
    | none => .error (6, (C.noPath, 6))
    | some asrc =>
      if s.marginShort l ss then .error (9, (C.noPath, 10))
      else
        .ok ⟨⟨dstId, srcId, 1, none, ss, asrc.map (fun a => a.ch), e.lanes, e.hops, e.extra⟩,
          { Plan.none with asrc := asrc },
          (s.nat O.placer_w_hop * e.hops : Nat) + s.stripesCost on subs l ss +
            sumByInt (fun a => s.hintCost on 4 [dstId] a.slice) asrc⟩

/-- Where the data of a source of this chip enter the fabric. -/
def State.localEntry (s : State) (ess : Essence) (x : Nat) : Entry :=
  ⟨match ess with | .audio => s.asrcTile x | .anc => s.ancTile 0 x | _ => s.vsrcTile x, 0, 0, []⟩

/-- Steps 2 to 9 for a route on this chip. -/
def State.steps (s : State) (on : Bool) (dst : Dst) (srcId mode : Nat) (e : Entry) (forced : Option Nat) :
    Except Fall Candidate :=
  match dst.ess with
  | .video => s.videoSteps on dst.idx (idIdx srcId) srcId mode e forced
  | _ => s.streamSteps on dst (idIdx srcId) srcId e

/-- A hint that requires something concerns the route. -/
def State.requires (s : State) (subs : List Nat) : Bool :=
  [0, 1, 2, 3, 4, 5].any (fun k => (s.hints k subs).any (fun h => s.nat (O.hint_action h) = 0))

/-- Steps 2 to 9, with the hints; a route that only its require hints refuse is refused with detail 11 (R170). -/
def State.stepsHinted (s : State) (dst : Dst) (srcId mode : Nat) (e : Entry) (forced : Option Nat) :
    Except Fall Candidate :=
  match s.steps true dst srcId mode e forced with
  | .ok c => .ok c
  | .error f =>
    if s.requires [srcId, s.dstId dst] then
      match s.steps false dst srcId mode e forced with
      | .ok _ => .error (f.1, (C.noPath, 11))
      | .error _ => .error f
    else .error f

/-! ## Making room (R157) -/

/-- The streams on a plane that enter from a tile or leave to one, by their feed and link. -/
def crossing (l : List Stripe) (plane inT outT : Nat) : List (Nat × Nat) :=
  nub ((l.filter (fun x => x.plane = plane ∧ (x.inTile = inT ∨ x.outTile = outT))).map (fun x => (x.feed, x.link)))

/-- A list of stripes with one stream on another plane. -/
def restripe (feed link plane : Nat) (l : List Stripe) : List Stripe :=
  l.map (fun x => if x.feed = feed ∧ x.link = link then { x with plane := plane } else x)

/-- A plane on which every channel of a stream fits, other than its own and those of its route's other stripes. -/
def State.otherPlane (s : State) (l : List Stripe) (feed link plane : Nat) : Option Nat :=
  let own := l.filter (fun x => x.feed = feed ∧ x.link = link)
  let rest := l.filter (fun x => ¬(x.feed = feed ∧ x.link = link))
  let used := (rest.filter (fun x => x.feed = feed ∧ x.link < 100)).map (fun x => x.plane)
  (List.range 32).find? (fun p => p ≠ plane ∧ !used.contains p ∧ s.nat (O.plane_state (1 + p)) = 0 ∧
    own.all (fun x => inBooked rest p x.inTile + x.khs ≤ ratedKhs ∧ outBooked rest p x.outTile + x.khs ≤ ratedKhs))

/-- The placement of a route after up to `k` existing stripes are moved, one at a time, each the first whose move is
possible on the first plane where it stands: the moves, and the candidate (R157; the choice of the stripes is
the model's, log entry 12). `try'` places with the stripes of a list. -/
def State.makeRoom (s : State) (dst : Dst) (srcId mode : Nat) (e : Entry) (forced : Option Nat) :
    Nat → List (Nat × Nat × Nat) → Option (List (Nat × Nat × Nat) × Candidate)
  | 0, _ => none
  | k + 1, done' =>
    let l := s.stripes
    let outT := match dst.ess with
      | .video => s.vdstTile dst.idx | .audio => s.adstTile dst.idx | _ => s.ancTile 1 dst.idx
    let moves := (List.range 32).flatMap (fun p =>
      (crossing l p e.tile outT).filterMap (fun fl =>
        if done'.any (fun m => m.1 = fl.1 ∧ m.2.1 = fl.2) then none
        else (s.otherPlane l fl.1 fl.2 p).map (fun q => (fl.1, fl.2, q))))
    let moved (m : Nat × Nat × Nat) : State :=
      { s with
        sw := { s.sw with
          routes := s.sw.routes.map (fun r => { r with pl := { r.pl with stripes := restripe m.1 m.2.1 m.2.2 r.pl.stripes } }),
          stores := s.sw.stores.map (fun x => { x with stripes := restripe m.1 m.2.1 m.2.2 x.stripes }) } }
    match moves.findSome? (fun m =>
      match (moved m).stepsHinted dst srcId mode e forced with
      | .ok c => some (done' ++ [m], { c with cost := c.cost + s.nat O.placer_w_move * (done'.length + 1) })
      | .error _ => none) with
    | some r => some r
    | none =>
      match moves with
      | [] => none
      | m :: _ => (moved m).makeRoom dst srcId mode e forced k (done' ++ [m])

/-! ## The whole of a placement -/

/-- Step 1 for a source of this chip (R101, R105, R201), with the lanes of the destination's port (R383, R387): the code of
the refusal, or 0. -/
def State.stepOne (s : State) (dst : Dst) (srcId : Nat) : Nat :=
  if dst.ess ≠ .video then 0
  else
    let x := idIdx srcId
    let d := dst.idx
    if s.closesLoop x d then C.range
    else if 3072 ≤ d then 0
    else if d < 1024 ∧ !s.portOpen d then C.busy
    else if (s.vsrcFormats x).any (fun f => f ≠ s.nat (O.dst_format d)) then C.type
    else
      match s.vsrcSampling x, s.vdstSampling d with
      | some a, some b => if a ≠ b then C.type else 0
      | _, _ => 0

/-- The placement of one route on this chip, for a take record `num`: its plan, or the refusal (R152). -/
def State.placeLocal (s : State) (num : Nat) (dst : Dst) (srcId mode : Nat) (e : Entry) (forced : Option Nat) :
    Except Refuse Plan :=
  match s.stepsHinted dst srcId mode e forced with
  | .ok c => .ok { c.plan with pls := [(num, c.pl)] }
  | .error f =>
    if f.1 = 5 ∧ f.2 = (C.noPath, 1) then
      match s.makeRoom dst srcId mode e forced (s.nat O.placer_rebalance_moves) [] with
      | some (ms, _) => .ok { Plan.none with moved := ms }
      | none => .error f.2
    else .error f.2

/-- Two plans as one. -/
def Plan.add (a b : Plan) : Plan :=
  ⟨a.pls ++ b.pls, a.stores ++ b.stores, a.deepens ++ b.deepens, a.asrc ++ b.asrc, a.hbm ++ b.hbm, a.allocs ++ b.allocs,
   a.moved ++ b.moved, a.moves ++ b.moves⟩

end Sys2Proof.Machine
end

