-- ==== Sys2Proof/Machine/Crypto.lean ====
section
/-! DEFINITION. The hashes and the signature that the spec names: SHA-256 and HMAC-SHA-256 of the message tags and
bulk transfers (R52, R66), SHA-384 of manifests and parts (Table 0.4, R482, R489), and ECDSA P-384 over a manifest
(R485). Each follows its published definition (FIPS 180-4, FIPS 198-1, FIPS 186-4), on natural numbers. -/

namespace Sys2Proof.Machine

/-- Addition of 32-bit words. -/
def add32 (a b : Nat) : Nat := (a + b) % 4294967296

/-- Right rotation of a `w`-bit word. -/
def rotr (w x n : Nat) : Nat := (x >>> n) ||| ((x <<< (w - n)) % 2 ^ w)

/-- The eight working variables of a SHA-2 compression. -/
structure ShaState where
  a : Nat
  b : Nat
  c : Nat
  d : Nat
  e : Nat
  f : Nat
  g : Nat
  h : Nat
  deriving DecidableEq, Repr

/-- The constants in which the two SHA-2 hashes differ: the word's width and the rotations of the sums. -/
structure ShaKind where
  w : Nat
  s0 : Nat × Nat × Nat
  s1 : Nat × Nat × Nat
  m0 : Nat × Nat × Nat
  m1 : Nat × Nat × Nat

/-- SHA-256. -/
def sha256Kind : ShaKind := ⟨32, (2, 13, 22), (6, 11, 25), (7, 18, 3), (17, 19, 10)⟩
/-- SHA-384. -/
def sha384Kind : ShaKind := ⟨64, (28, 34, 39), (14, 18, 41), (1, 8, 7), (19, 61, 6)⟩

def sha256K : List Nat :=
  [0x428a2f98, 0x71374491, 0xb5c0fbcf, 0xe9b5dba5, 0x3956c25b, 0x59f111f1, 0x923f82a4, 0xab1c5ed5] ++
  [0xd807aa98, 0x12835b01, 0x243185be, 0x550c7dc3, 0x72be5d74, 0x80deb1fe, 0x9bdc06a7, 0xc19bf174] ++
  [0xe49b69c1, 0xefbe4786, 0x0fc19dc6, 0x240ca1cc, 0x2de92c6f, 0x4a7484aa, 0x5cb0a9dc, 0x76f988da] ++
  [0x983e5152, 0xa831c66d, 0xb00327c8, 0xbf597fc7, 0xc6e00bf3, 0xd5a79147, 0x06ca6351, 0x14292967] ++
  [0x27b70a85, 0x2e1b2138, 0x4d2c6dfc, 0x53380d13, 0x650a7354, 0x766a0abb, 0x81c2c92e, 0x92722c85] ++
  [0xa2bfe8a1, 0xa81a664b, 0xc24b8b70, 0xc76c51a3, 0xd192e819, 0xd6990624, 0xf40e3585, 0x106aa070] ++
  [0x19a4c116, 0x1e376c08, 0x2748774c, 0x34b0bcb5, 0x391c0cb3, 0x4ed8aa4a, 0x5b9cca4f, 0x682e6ff3] ++
  [0x748f82ee, 0x78a5636f, 0x84c87814, 0x8cc70208, 0x90befffa, 0xa4506ceb, 0xbef9a3f7, 0xc67178f2]

def sha384K : List Nat :=
  [0x428a2f98d728ae22, 0x7137449123ef65cd, 0xb5c0fbcfec4d3b2f, 0xe9b5dba58189dbbc] ++
  [0x3956c25bf348b538, 0x59f111f1b605d019, 0x923f82a4af194f9b, 0xab1c5ed5da6d8118] ++
  [0xd807aa98a3030242, 0x12835b0145706fbe, 0x243185be4ee4b28c, 0x550c7dc3d5ffb4e2] ++
  [0x72be5d74f27b896f, 0x80deb1fe3b1696b1, 0x9bdc06a725c71235, 0xc19bf174cf692694] ++
  [0xe49b69c19ef14ad2, 0xefbe4786384f25e3, 0x0fc19dc68b8cd5b5, 0x240ca1cc77ac9c65] ++
  [0x2de92c6f592b0275, 0x4a7484aa6ea6e483, 0x5cb0a9dcbd41fbd4, 0x76f988da831153b5] ++
  [0x983e5152ee66dfab, 0xa831c66d2db43210, 0xb00327c898fb213f, 0xbf597fc7beef0ee4] ++
  [0xc6e00bf33da88fc2, 0xd5a79147930aa725, 0x06ca6351e003826f, 0x142929670a0e6e70] ++
  [0x27b70a8546d22ffc, 0x2e1b21385c26c926, 0x4d2c6dfc5ac42aed, 0x53380d139d95b3df] ++
  [0x650a73548baf63de, 0x766a0abb3c77b2a8, 0x81c2c92e47edaee6, 0x92722c851482353b] ++
  [0xa2bfe8a14cf10364, 0xa81a664bbc423001, 0xc24b8b70d0f89791, 0xc76c51a30654be30] ++
  [0xd192e819d6ef5218, 0xd69906245565a910, 0xf40e35855771202a, 0x106aa07032bbd1b8] ++
  [0x19a4c116b8d2d0c8, 0x1e376c085141ab53, 0x2748774cdf8eeb99, 0x34b0bcb5e19b48a8] ++
  [0x391c0cb3c5c95a63, 0x4ed8aa4ae3418acb, 0x5b9cca4f7763e373, 0x682e6ff3d6b2b8a3] ++
  [0x748f82ee5defb2fc, 0x78a5636f43172f60, 0x84c87814a1f0ab72, 0x8cc702081a6439ec] ++
  [0x90befffa23631e28, 0xa4506cebde82bde9, 0xbef9a3f7b2c67915, 0xc67178f2e372532b] ++
  [0xca273eceea26619c, 0xd186b8c721c0c207, 0xeada7dd6cde0eb1e, 0xf57d4f7fee6ed178] ++
  [0x06f067aa72176fba, 0x0a637dc5a2c898a6, 0x113f9804bef90dae, 0x1b710b35131c471b] ++
  [0x28db77f523047d84, 0x32caab7b40c72493, 0x3c9ebe0a15c9bebc, 0x431d67c49c100d4c] ++
  [0x4cc5d4becb3e42b6, 0x597f299cfc657e2a, 0x5fcb6fab3ad6faec, 0x6c44198c4a475817]

def sha256H : ShaState := ⟨0x6a09e667, 0xbb67ae85, 0x3c6ef372, 0xa54ff53a, 0x510e527f, 0x9b05688c, 0x1f83d9ab, 0x5be0cd19⟩
def sha384H : ShaState := ⟨0xcbbb9d5dc1059ed8, 0x629a292a367cd507, 0x9159015a3070dd17, 0x152fecd8f70e5939, 0x67332667ffc00b31, 0x8eb44a8768581511, 0xdb0c2e0d64f98fa7, 0x47b5481dbefa4fa4⟩

/-- A sum of three rotations. -/
def shaSum (w : Nat) (r : Nat × Nat × Nat) (x : Nat) : Nat :=
  rotr w x r.1 ^^^ rotr w x r.2.1 ^^^ rotr w x r.2.2

/-- A sum of two rotations and a shift. -/
def shaMix (w : Nat) (r : Nat × Nat × Nat) (x : Nat) : Nat :=
  rotr w x r.1 ^^^ rotr w x r.2.1 ^^^ (x >>> r.2.2)

/-- The message schedule as a sliding window: the window's head is used in each round and the word that follows
the window is appended. -/
def shaRounds (k : ShaKind) : List Nat → List Nat → ShaState → ShaState
  | [], _, s => s
  | kt :: ks, win, s =>
    let wt := win.getD 0 0
    let next := (shaMix k.w k.m1 (win.getD 14 0) + win.getD 9 0 + shaMix k.w k.m0 (win.getD 1 0) + wt) % 2 ^ k.w
    let t1 := s.h + shaSum k.w k.s1 s.e + ((s.e &&& s.f) ^^^ ((2 ^ k.w - 1 - s.e) &&& s.g)) + kt + wt
    let t2 := shaSum k.w k.s0 s.a + ((s.a &&& s.b) ^^^ (s.a &&& s.c) ^^^ (s.b &&& s.c))
    shaRounds k ks (win.drop 1 ++ [next])
      ⟨(t1 + t2) % 2 ^ k.w, s.a, s.b, s.c, (s.d + t1) % 2 ^ k.w, s.e, s.f, s.g⟩

/-- One compression: the rounds, then the sum with the state before. -/
def shaBlock (k : ShaKind) (ks : List Nat) (s : ShaState) (block : Bytes) : ShaState :=
  let r := shaRounds k ks ((records (k.w / 8) block).map beNat) s
  let m := 2 ^ k.w
  ⟨(s.a + r.a) % m, (s.b + r.b) % m, (s.c + r.c) % m, (s.d + r.d) % m,
   (s.e + r.e) % m, (s.f + r.f) % m, (s.g + r.g) % m, (s.h + r.h) % m⟩

/-- The padding of a message of `n` bytes: a one bit, zeros, and the length in bits. -/
def shaPad (k : ShaKind) (n : Nat) : Bytes :=
  let blk := 2 * k.w
  let lenB := k.w / 4
  0x80 :: (List.replicate ((blk - (n + 1 + lenB) % blk) % blk) (0 : Byte) ++ beBytes lenB (8 * n))

/-- The state after a whole message. -/
def shaRun (k : ShaKind) (ks : List Nat) (s : ShaState) (bs : Bytes) : ShaState :=
  (records (2 * k.w) (bs ++ shaPad k bs.length)).foldl (shaBlock k ks) s

/-- SHA-256 of a string: 32 bytes. -/
def sha256 (bs : Bytes) : Bytes :=
  let r := shaRun sha256Kind sha256K sha256H bs
  [r.a, r.b, r.c, r.d, r.e, r.f, r.g, r.h].flatMap (beBytes 4)

/-- SHA-384 of a string: 48 bytes. -/
def sha384 (bs : Bytes) : Bytes :=
  let r := shaRun sha384Kind sha384K sha384H bs
  [r.a, r.b, r.c, r.d, r.e, r.f].flatMap (beBytes 8)

/-- HMAC-SHA-256 under a key of at most 64 bytes. -/
def hmac256 (key msg : Bytes) : Bytes :=
  let k := key ++ List.replicate (64 - key.length) (0 : Byte)
  sha256 (k.map (fun b => b ^^^ 0x5c) ++ sha256 (k.map (fun b => b ^^^ 0x36) ++ msg))

/-! ## ECDSA P-384 -/

/-- A power modulo `m`, by squaring over the bits of the exponent; `fuel` bounds their number. -/
def powMod (m : Nat) : Nat → Nat → Nat → Nat
  | 0, _, _ => 1
  | f + 1, b, e =>
    if e = 0 then 1
    else let h := powMod m f (b * b % m) (e / 2)
         if e % 2 = 1 then h * b % m else h

/-- The field prime of P-384. -/
def p384P : Nat := 0xfffffffffffffffffffffffffffffffffffffffffffffffffffffffffffffffeffffffff0000000000000000ffffffff
/-- The group order of P-384. -/
def p384N : Nat := 0xffffffffffffffffffffffffffffffffffffffffffffffffc7634d81f4372ddf581a0db248b0a77aecec196accc52973
/-- The constant b of P-384. -/
def p384B : Nat := 0xb3312fa7e23ee7e4988e056be3f82d19181d9c6efe8141120314088f5013875ac656398d8a2ed19d2a85c8edd3ec2aef
/-- The generator of P-384. -/
def p384G : Nat × Nat :=
  (0xaa87ca22be8b05378eb1c71ef320ad746e1d3b628ba79b9859f741e082542a385502f25dbf55296c3a545e3872760ab7,
   0x3617de4a96262c6f5d9e98bf9292dc29f8f41dbd289a147ce9da3113b5f0b8c00a60b1ce1d7e819d7a431d7c90ea0e5f)

/-- The inverse modulo a prime. -/
def invMod (m a : Nat) : Nat := powMod m 400 (a % m) (m - 2)

/-- The sum of two points of the curve; `none` is the point at infinity. -/
def p384Add (x y : Option (Nat × Nat)) : Option (Nat × Nat) :=
  match x, y with
  | none, y => y
  | x, none => x
  | some (x1, y1), some (x2, y2) =>
    let p := p384P
    if x1 = x2 ∧ (y1 + y2) % p = 0 then none
    else
      let l := if x1 = x2 then (3 * x1 * x1 + (p - 3)) * invMod p (2 * y1) % p
               else (y2 + (p - y1)) * invMod p (x2 + (p - x1)) % p
      let x3 := (l * l + 2 * p - x1 - x2) % p
      some (x3, (l * (x1 + (p - x3)) + (p - y1)) % p)

/-- A multiple of a point, over the bits of the factor; `fuel` bounds their number. -/
def p384Mul : Nat → Nat → Option (Nat × Nat) → Option (Nat × Nat)
  | 0, _, _ => none
  | f + 1, n, x =>
    if n = 0 then none
    else let h := p384Mul f (n / 2) (p384Add x x)
         if n % 2 = 1 then p384Add h x else h

/-- ECDSA verification over P-384: a public key and a signature each of two 48-byte numbers, and the hash. -/
def ecdsaVerify (pub hash sig : Bytes) : Bool :=
  let qx := field pub 0 48
  let qy := field pub 48 48
  let r := field sig 0 48
  let s := field sig 48 48
  let p := p384P
  let onCurve := qx < p && qy < p && (qy * qy) % p == (qx * qx * qx + (p - 3) * qx + p384B) % p
  if pub.length != 96 || sig.length != 96 || !onCurve || r = 0 || r ≥ p384N || s = 0 || s ≥ p384N then false
  else
    let w := invMod p384N s
    let z := beNat hash
    match p384Add (p384Mul 400 (z * w % p384N) (some p384G)) (p384Mul 400 (r * w % p384N) (some (qx, qy))) with
    | none => false
    | some (x, _) => x % p384N == r

end Sys2Proof.Machine
end

