-- ==== Sys2Proof/Machine/Sessions.lean ====
section
/-! DEFINITION. Sessions, tags and replies (R41 to R58): what every command shares of the protocol. -/

namespace Sys2Proof.Machine

/-! ## Headers, tags and replies -/

/-- The key of a role: empty where it is unset (R54, R57, R58). -/
def State.roleKey (s : State) (role : Nat) : Bytes :=
  if role = 4 then s.proto.factoryKey else if role < 4 then s.oct ⟨0x1010, 0, 5 + role⟩ else []

/-- The session key (R52): HMAC-SHA-256 under the role key of "ODRATH-S", the epoch and the session identifier. -/
def sessionKey (key : Bytes) (epoch ident : Nat) : Bytes :=
  hmac256 key (ascii "ODRATH-S" ++ beBytes 8 epoch ++ beBytes 4 ident)

/-- The tag of a message (R52). -/
def messageTag (key : Bytes) (epoch ident : Nat) (msg : Bytes) : Bytes := hmac256 (sessionKey key epoch ident) msg

/-- A message header (Table 2.5). -/
def header (typ flags status role ident seq epoch target len : Nat) : Bytes :=
  beBytes 2 0x4F44 ++ beBytes 2 0x0100 ++ beBytes 1 typ ++ beBytes 1 flags ++ beBytes 1 status ++ beBytes 1 role ++
    beBytes 4 ident ++ beBytes 8 seq ++ beBytes 8 epoch ++ beBytes 2 target ++ beBytes 2 len

/-- The boot epoch that messages of the chip carry: zero until Ready (R50). -/
def State.epoch (s : State) : Nat := if s.ready then s.nat O.sec_boot_epoch else 0

/-- The 32 bytes that stand for the tag of a message between chips, and of a reply under a role whose key is unset: the spec gives
them no key (log entry 8). -/
def State.freeTag (s : State) : Bytes := (List.range 32).map (fun i => BitVec.ofNat 8 (s.freeNat (900 + i)))

/-- A whole message with its tag: under the key, or all zeros before Ready (R50, R52). -/
def State.message (s : State) (path : Path) (key : Bytes) (typ flags status role ident seq target : Nat) (body : Bytes) :
    Bytes :=
  let m := header typ flags status role ident seq s.epoch target body.length ++ body
  m ++ (if !s.ready then zeros 32 else if path = .mesh ∨ key = [] then s.freeTag else messageTag key s.epoch ident m)

/-- A message leaves on a path; over SPI it waits for a fetch (R46, R48). -/
def State.sendOn (s : State) (via : Via) (raw : Bytes) : State :=
  if via.path = .spi then { s with proto := { s.proto with spiOut := s.proto.spiOut ++ [raw] } }
  else s.emit (.msg via raw)

/-- A session changed by its slot. -/
def State.modSession (s : State) (slot : Nat) (f : Session → Session) : State :=
  { s with proto := { s.proto with sessions := s.proto.sessions.map (fun x => if x.slot = slot then f x else x) } }

/-- The open session of a slot. -/
def State.session (s : State) (slot : Nat) : Option Session := s.proto.sessions.find? (fun x => x.slot = slot)

/-- The open session of a role and identifier. -/
def State.sessionOf (s : State) (role ident : Nat) : Option Session :=
  s.proto.sessions.find? (fun x => x.role = role ∧ x.ident = ident)

/-- The reply to a request, in bytes (R41, R67). -/
def State.replyBytes (s : State) (tk : Ticket) (status : Nat) (body : Bytes) : Bytes :=
  s.message tk.via.path tk.key tk.typ (if tk.fwd then 5 else 1) status tk.role tk.ident tk.seq tk.target body

/-- The reply leaves, and is kept for repeats of its message (R55). -/
def State.sendReply (s : State) (tk : Ticket) (raw : Bytes) : State :=
  (s.modSession tk.slot (fun x =>
    if x.role = tk.role ∧ x.ident = tk.ident then
      { x with
        waiting := x.waiting.filter (fun q => q ≠ tk.seq),
        recent := x.recent.map (fun e => if e.1 = tk.seq then (e.1, raw) else e) }
    else x)).sendOn tk.via raw

/-- A request is answered at once. -/
def State.reply (s : State) (tk : Ticket) (status : Nat) (body : Bytes) : State :=
  s.sendReply tk (s.replyBytes tk status body)

/-- A request is answered: where its processing sent items to the twin (`before` is the item number it began with),
the reply waits for the acknowledgement of the last of them (R420). -/
def State.replyMirrored (s : State) (before : Nat) (tk : Ticket) (status : Nat) (body : Bytes) : State :=
  if s.twin.seq = before then s.reply tk status body
  else { s with proto := { s.proto with held := s.proto.held ++ [(s.twin.seq - 1, tk, s.replyBytes tk status body)] } }

/-- Replies that wait for mirror items up to a number leave (R420). -/
def State.releaseHeld (s : State) (acked : Nat) : State :=
  (s.proto.held.filter (fun h => h.1 ≤ acked)).foldl (fun st h => st.sendReply h.2.1 h.2.2)
    { s with proto := { s.proto with held := s.proto.held.filter (fun h => acked < h.1) } }

/-- Every reply that waits for the twin leaves: mirroring has stopped (R420). -/
def State.releaseAllHeld (s : State) : State :=
  s.proto.held.foldl (fun st h => st.sendReply h.2.1 h.2.2) { s with proto := { s.proto with held := [] } }

/-! ## Opening and closing of sessions -/

/-- The number of open sessions shown. -/
def State.showSessions (s : State) : State := s.setN O.sec_sessions_open s.proto.sessions.length

/-- A session closes (R56): its subscriptions end, its bulk transfers abort, and its slot reads free. -/
def State.closeSession (s : State) (slot : Nat) : State :=
  if (s.session slot).isNone then s
  else
    let p := s.proto
    let gone := p.bulks.filter (fun b => b.slot = slot)
    let s1 : State := { s with proto := { p with
      sessions := p.sessions.filter (fun x => x.slot ≠ slot),
      subs := p.subs.filter (fun u => u.slot ≠ slot),
      bulks := p.bulks.filter (fun b => b.slot ≠ slot),
      retired := p.retired ++ gone.map (fun b => ⟨b.handle, false, s.now + 60 * nsPerSec⟩) } }
    (((((((s1.setN (O.slot_session slot) 0).setN (O.slot_role slot) 0).setN (O.slot_transport slot) 0).setB
      (O.slot_peer_address slot) (zeros 16)).setN (O.slot_highest_sequence slot) 0).setN (O.slot_subscriptions slot) 0).setN
      (O.slot_events_lost slot) 0).showSessions

/-- The sessions of a role that were opened under another key than its present one close (R56, R57). -/
def State.closeRekeyed (s : State) (role : Nat) (old : Bytes) : State :=
  (s.proto.sessions.filter (fun x => x.role = role ∧ x.key = old)).foldl (fun st x => st.closeSession x.slot) s

end Sys2Proof.Machine
end

