-- ==== Sys2Proof/Machine/Taking.lean ====
section
/-! DEFINITION. What carries a route from its placement to the switch and after: take slots, arming, switching, follow
sets, release of what a route has left, and the placer's tasks (R108 to R114, R120 to R122, R126 to R132, R162,
R167, R175, R176, R183). -/

namespace Sys2Proof.Machine

/-! ## Take records and slots -/

/-- The take record of a number. -/
def State.takeOf (s : State) (num : Nat) : Option TakeRec := s.sw.takes.find? (fun r => r.num = num)

/-- A take record changed. -/
def State.modTake (s : State) (num : Nat) (f : TakeRec → TakeRec) : State :=
  { s with sw := { s.sw with takes := s.sw.takes.map (fun r => if r.num = num then f r else r) } }

/-- A take record removed. -/
def State.dropTake (s : State) (num : Nat) : State :=
  { s with
    sw := { s.sw with takes := s.sw.takes.filter (fun r => r.num ≠ num) },
    proto := { s.proto with priority := s.proto.priority.filter (fun n => n ≠ num) } }

/-- The take slot that a new take is given (R127): the lowest free one, or else the one whose take reached a final state
longest ago. -/
def State.nextSlot (s : State) : Option Nat :=
  match (List.range 4096).find? (fun i =>
      s.nat (O.take_state (i + 1)) = 0 ∧ !(s.sw.finals.any (fun f => f.1 = i + 1))) with
  | some i => some (i + 1)
  | none => match s.sw.finals with | f :: _ => some f.1 | [] => none

/-- A take's state, shown in its slot; slot 0 is none. -/
def State.showTake (s : State) (slot st : Nat) : State := if slot = 0 then s else s.setN (O.take_state slot) st

/-- A take reaches a final state (5 switched, 6 superseded, 7 cancelled) in its slot. -/
def State.finishTake (s : State) (slot st : Nat) : State :=
  if slot = 0 then s
  else
    let s1 := s.showTake slot st
    { s1 with sw := { s1.sw with finals := s1.sw.finals.filter (fun f => f.1 ≠ slot) ++ [(slot, s.now)] } }

/-- A slot emptied: it reads free. -/
def State.clearSlot (s : State) (slot : Nat) : State :=
  if slot = 0 then s
  else
    (List.range 12).foldl (fun st sub => st.set ⟨0x3200, slot, sub⟩ (dflt ⟨0x3200, slot, sub⟩)) s

/-- One flag of a take slot set (Table 5.7). -/
def State.slotFlag (s : State) (slot bit : Nat) : State := if slot = 0 then s else s.setBit (O.take_flags slot) bit true

/-- The reply of a take whose placement has come to an end: OK, with its slot (R126, R129). It waits for the twin where
the take's placement went to it since item `before` (R420). -/
def State.answerTake (s : State) (r : TakeRec) (before : Nat) : State :=
  match r.ticket with
  | none => s
  | some tk =>
    let s1 := (s.replyMirrored before tk C.ok (beBytes 2 r.slot)).modTake r.num (fun r => { r with ticket := none })
    let s2 := s1.count O.takes_takes_accepted
    if r.prio then s2.count O.takes_priority_takes else s2

/-! ## ASRC channels and stores -/

/-- An ASRC channel shows its route and begins to acquire (R302), or reads free. -/
def State.showAsrc (s : State) (a : AsrcBook) (inUse : Bool) : State :=
  if inUse then
    ((s.setN (O.asrc_destination (1 + a.ch)) (s.dstId ⟨.audio, a.dst⟩)).setN (O.asrc_source (1 + a.ch))
      (s.srcId 1 a.src)).setN (O.asrc_state (1 + a.ch)) 1
  else
    (((s.setN (O.asrc_destination (1 + a.ch)) none32).setN (O.asrc_source (1 + a.ch)) none32).setN
      (O.asrc_state (1 + a.ch)) 0).setN (O.asrc_ratio (1 + a.ch)) 0

/-- ASRC channels booked. -/
def State.takeAsrc (s : State) (l : List AsrcBook) : State :=
  l.foldl (fun st a => st.showAsrc a true) { s with placer := { s.placer with asrc := s.placer.asrc ++ l } }

/-- The ASRC channels that no placement uses are released. -/
def State.sweepAsrc (s : State) : State :=
  let used := s.placements.flatMap (fun p => p.asrc)
  let gone := s.placer.asrc.filter (fun a => !used.contains a.ch)
  gone.foldl (fun st a => st.showAsrc a false)
    { s with placer := { s.placer with asrc := s.placer.asrc.filter (fun a => used.contains a.ch) } }

/-- What no route needs any longer is released: stores, ASRC channels, and the window stores and allocations of
scalers without a route (R162, R182, R265). -/
def State.sweep (s : State) : State :=
  let s1 := s.sweepStores.sweepAsrc
  let idle := s1.placer.hbm.filter (fun b => b.fam = 0x3A00 ∧ !(s1.dstBusy ⟨.video, 3072 + b.inst⟩))
  idle.foldl (fun st b =>
      (st.allocsFor b.inst 0).foldl (fun st e => st.setN (O.scaler_allocation e.1) e.2) st)
    { s1 with placer := { s1.placer with hbm := s1.placer.hbm.filter (fun b => !(idle.contains b)) } }

/-! ## The placer's queue (R167) -/

/-- A task that a request made, which the limit of 256 counts (R167). -/
def Task.requested : Task → Bool
  | .replace _ => false
  | .restore _ => false
  | _ => true

/-- The tasks of requests that wait. -/
def State.queued (s : State) : Nat := (s.placer.queue.filter Task.requested).length

/-- A task goes to the queue. A standby chooses no placements, and queues none (R166). -/
def State.enqueue (s : State) (t : Task) : State :=
  if s.standby || s.placer.queue.contains t then s else { s with placer := { s.placer with queue := s.placer.queue ++ [t] } }

/-- Room has come free in a ledger, or a unit has returned: the routes that could not be restored are tried again, in
ascending order of destination identifier (R176). -/
def State.retryLost (s : State) : State :=
  (sortBy (fun (a b : Route) => a.pl.dst < b.pl.dst) (s.sw.routes.filter (fun r => r.lost))).foldl
    (fun st r => st.enqueue (.restore r.dst)) s

/-- The routes that cannot be restored, or else their end: ROUTE_LOST follows them (R108, R176). -/
def State.reviewLost (s : State) : State :=
  if s.sw.routes.any (fun r => r.lost) then s else s.endFault F.routeLost

/-- A route cannot be restored: it stays as it is, and ROUTE_LOST is raised (R108, R176). -/
def State.loseRoute (s : State) (d : Dst) : State :=
  let s1 : State := { s with sw := { s.sw with
    routes := s.sw.routes.map (fun (r : Route) => if r.dst = d then { r with lost := true } else r) } }
  s1.follow F.routeLost (s.dstId d) 0 true

/-- The routes that cross a failed unit await restoration, in ascending order of destination (R176). -/
def State.failRoutes (s : State) (p : Placement → Bool) : State :=
  ({ s with sw := { s.sw with routes := s.sw.routes.map (fun (r : Route) =>
    if p r.pl && !r.follows then { r with lost := true } else r) } } : State).retryLost

/-- A take on a destination frees what it holds: superseding, cancelling and refusing release all that was booked
(R129, R162). -/
def State.abandonTake (s : State) (num : Nat) : State :=
  let p := s.placer
  let q : List Task := p.queue.filter (fun t => t ≠ .take num)
  let run := match p.running with | some (.take n, v) => if n = num then none else some (Task.take n, v) | r => r
  let s := match s.takeOf num with
    | some r => if r.pl.isSome then s.mirror (.release (s.dstId r.dst)) else s
    | none => s
  (({ s with placer := { p with queue := q, running := run, parked := p.parked.filter (fun e => e.1 ≠ Task.take num) } }).dropTake
    num).sweep.retryLost

/-! ## Superseding and abandoning (R113, R114) -/

/-- A take that arrives supersedes the earlier takes of its destination that have not armed, and abandons a
re-placement that has not armed. -/
def State.supersede (s : State) (d : Dst) (num : Nat) : State :=
  (s.sw.takes.filter (fun r => r.dst = d ∧ r.num ≠ num ∧ r.state ≠ 4 ∧ r.part.isNone)).foldl (fun st r =>
    let st1 := if r.repl then st else (st.answerTake r st.twin.seq).finishTake r.slot 6
    let st2 := { st1 with placer := { st1.placer with
      queue := st1.placer.queue.filter (fun t => t ≠ Task.replace d ∨ !r.repl) } }
    st2.abandonTake r.num) s

/-! ## Arming (R109 to R114) -/

/-- The part that a take belongs to has been poured. -/
def State.partPoured (s : State) (coord slot : Nat) : Bool :=
  s.salvos.parts.any (fun p => p.coord = coord ∧ p.slot = slot ∧ 2 ≤ p.state)

/-- The latest switch instant that an armed take on the destination waits for, on its time base: a poured salvo's takes
count as armed (R113, R128). -/
def State.lastArmed (s : State) (d : Dst) (num : Nat) : Nat :=
  let b := s.beat d
  maxBy (fun r => r.switchAt.getD (match r.inst with | some i => b.atOrAfter i | none => 0))
    (s.sw.takes.filter (fun r => r.dst = d && r.num < num && (r.state == 4 ||
      (match r.part with | some (c, k, _) => s.partPoured c k | none => false))))

/-- The eligible switch instant of a placement that arms now, on the destination's time base: the first one of which S − D
falls after the arm, and after the switch instants of takes armed before it; a timed take that is ready before
S − D switches at S (R109, R112, R113). -/
def State.switchInstantFor (s : State) (r : TakeRec) (pl : Placement) : Nat :=
  let b := s.beat r.dst
  let arm := s.tbNow b.tb
  let delay := s.delayOf r.dst pl
  let prev := s.lastArmed r.dst r.num
  let first := max (b.eligible arm delay) (if prev = 0 then 0 else b.atOrAfter (prev + 1))
  match r.inst with
  | some inst => if arm + delay < inst ∧ prev < inst then inst else first
  | none => first

/-- A take arms: its commit point (R109, R129). A take to a scaler switches with a frame of its source (R104). -/
def State.arm (s : State) (num : Nat) : State :=
  match s.takeOf num with
  | none => s
  | some r =>
    match r.pl with
    | none => s
    | some pl =>
      let at' := s.switchInstantFor r pl
      let scaler := r.dst.ess = .video ∧ 3072 ≤ r.dst.idx
      ((s.modTake num (fun r => { r with state := 4, switchAt := if scaler then none else some at' })).showTake r.slot 4).mirror
        (.place pl (if scaler then 0 else at'))

/-- A take whose path is ready arms, or waits for 1 ms before its instant, or for the pour of its salvo (R112, R143). -/
def State.pathReady (s : State) (num : Nat) : State :=
  match s.takeOf num with
  | none => s
  | some r =>
    let early : Bool := match r.inst with | some inst => s.tbNow (s.beat r.dst).tb + 1000000 < inst | none => false
    let wait : Bool := early || (match r.part with | some (coord, slot, _) => !s.partPoured coord slot | none => false)
    if wait then (s.modTake num (fun r => { r with state := 3 })).showTake r.slot 3 else s.arm num

/-- The store of a number. -/
def State.storeOf (s : State) (i : Nat) : Option StoreRec := s.sw.stores.find? (fun x => x.i = i)

/-- A store holds a complete frame and has been declared so (R108). -/
def State.storeReady (s : State) (i : Nat) : Bool :=
  match s.storeOf i with | some x => x.state == 2 || x.state == 3 | none => false

/-- The source of a placement delivers no frames (Table 4.5). -/
def State.absentSource (s : State) (pl : Placement) : Bool :=
  s.idHere pl.src && idEss pl.src == 0 && !s.vsrcPresent (idIdx pl.src)

/-- A placement has been booked for a take: the path is ready at once, or when its store is primed (Table 4.5). -/
def State.afterPlaced (s : State) (num : Nat) : State :=
  match s.takeOf num with
  | none => s
  | some r =>
    match r.pl with
    | none => s
    | some pl =>
      let ready : Bool := match pl.store with
        | some i => pl.path == 4 || s.storeReady i || s.absentSource pl
        | none => true
      if ready then s.pathReady num else (s.modTake num (fun r => { r with state := 2 })).showTake r.slot 2

/-! ## New records -/

/-- A take record for a re-placement of a destination's route: it has no slot and no reply (R175). -/
def replRec (num : Nat) (d : Dst) (pl : Placement) : TakeRec :=
  ⟨num, 0, d, pl.src, 0, false, true, none, none, none, 1, some pl, none, none⟩

/-- A re-placement of a route begins with its new placement booked; one of the destination that has not armed gives
way to it. -/
def State.startRepl (s : State) (d : Dst) (pl : Placement) : State :=
  let n := s.placer.nextNum
  let s0 := (s.sw.takes.filter (fun r => r.dst = d ∧ r.repl ∧ r.state ≠ 4)).foldl (fun st r => st.dropTake r.num) s
  let s1 : State := { s0 with
    sw := { s0.sw with takes := s0.sw.takes ++ [replRec n d pl] },
    placer := { s0.placer with nextNum := n + 1 } }
  s1.afterPlaced n

/-! ## Follow sets at a switch instant (R120 to R122) -/

/-- The route of a following destination, with the path of its video destination. -/
def followRoute (s : State) (f : Dst) (y : Nat) (lead : Placement) (asrc : List Nat) : Route :=
  ⟨f, ⟨s.dstId f, s.srcId (essCode f.ess) y, lead.path, lead.store, [], asrc, [], lead.hops, lead.delay⟩, [], false, true⟩

/-- The routes with one destination's route set. -/
def putRoute (l : List Route) (r : Route) : List Route :=
  if l.any (fun x => x.dst = r.dst) then l.map (fun x => if x.dst = r.dst then r else x) else l ++ [r]

/-- One following destination takes its channel of the video source; where an ASRC is needed and none is booked or free,
the path runs through its slip buffer and ASRC_SHORT is raised (R120, R121, R288). -/
def State.followOne (s : State) (lead : Placement) (f : Dst × Option Nat) : State :=
  match f.2 with
  | none => { s with sw := { s.sw with routes := s.sw.routes.filter (fun r => r.dst ≠ f.1) } }
  | some y =>
    let need := f.1.ess = .audio ∧ s.asrcNeeded y f.1.idx
    let have' := s.placer.asrc.find? (fun a => a.dst = f.1.idx ∧ a.src = y ∧ f.1.ess = .audio)
    let set (st : State) (a : List Nat) : State :=
      { st with sw := { st.sw with routes := putRoute st.sw.routes (followRoute st f.1 y lead a) } }
    if !need ∧ !(have'.isSome ∧ !s.clocksRelated y f.1.idx) then set s []
    else
      match have' with
      | some a => set s [a.ch]
      | none =>
        match s.freeAsrc true [s.dstId f.1] [] (s.adstTile f.1.idx) with
        | some (t, c) => set (s.takeAsrc [⟨c, t, f.1.idx, y⟩]) [c]
        | none => (set s []).follow (F.asrcShort (s.adstTile f.1.idx)) (s.dstId f.1) 0 true

/-- The audio routes whose PCM path has unrelated clocks and no ASRC channel, for want of a free one (R288). -/
def State.asrcMissing (s : State) : List Route :=
  s.sw.routes.filter (fun r => r.dst.ess = .audio && r.pl.asrc.isEmpty && s.idHere r.pl.src &&
    s.asrcNeeded (idIdx r.pl.src) r.dst.idx)

/-- A route of its own is placed again with a free ASRC channel, where there is one (R287, R288). -/
def State.giveAsrc (s : State) (r : Route) : State :=
  if r.follows ∨ s.sw.takes.any (fun q => q.dst = r.dst ∧ q.repl) then s
  else
    match s.freeAsrc true [s.dstId r.dst] [] (s.adstTile r.dst.idx) with
    | some (t, c) => (s.takeAsrc [⟨c, t, r.dst.idx, idIdx r.pl.src⟩]).startRepl r.dst { r.pl with asrc := [c] }
    | none => s

/-- The paths that found no ASRC channel are tried again, and ASRC_SHORT of a slice ends with the last of them (R288). -/
def State.retryShort (s : State) : State :=
  let s1 := s.asrcMissing.foldl (fun st r => st.giveAsrc r) s
  let left := s1.asrcMissing.map (fun r => s1.adstTile r.dst.idx)
  (List.range 16).foldl (fun st t => if left.contains t then st else st.endFault (F.asrcShort t)) s1

/-- A video destination's route keeps the ASRC channels that its following channels use; the others are released. -/
def State.pruneAsrc (s : State) (d : Nat) : State :=
  let used := (s.sw.routes.filter (fun q => q.follows)).flatMap (fun q => q.pl.asrc)
  { s with sw := { s.sw with routes := s.sw.routes.map (fun r =>
    if r.dst = ⟨.video, d⟩ then { r with pl := { r.pl with asrc := r.pl.asrc.filter (fun c => used.contains c) } } else r) } }

/-- The follow set of a video destination as it stands at its switch instant: its channels follow the source in force, and
those that have left the set are broken away with what they carry (R120 to R122). -/
def State.applyFollow (s : State) (d : Nat) : State :=
  match s.route ⟨.video, d⟩ with
  | none => s
  | some r =>
    let plan := s.followPlan d (idIdx r.pl.src)
    let s1 : State := { s with sw := { s.sw with routes := s.sw.routes.map (fun q =>
      if q.follows ∧ s.leadOf q.dst = some d ∧ !(plan.any (fun f => f.1 = q.dst)) then { q with follows := false } else q) } }
    let s2 := (plan.foldl (fun st f => st.followOne r.pl f) s1).pruneAsrc d
    if s2.placer.asrc.isEmpty ∧ s2.asrcMissing.isEmpty then s2 else s2.sweepAsrc.retryShort

/-- The video destinations whose follow set has a bit for an audio or ancillary destination, with the bit (R122). -/
def State.leadsOf (s : State) (d : Dst) : List (Nat × Nat) :=
  let cand := nub ((s.leadOf d).toList ++
    (s.objs.filter (fun e => e.1.fam == 0x3100 && (e.1.sub == 0x0E || e.1.sub == 0x11))).map (fun e => e.1.inst))
  cand.filterMap (fun v =>
    ((if d.ess = .audio then s.followAudio v else if d.ess = .anc then s.followAnc v else []).find? (fun e => e.2 = d.idx)).map
      (fun e => (v, e.1)))

/-- A take on a following channel breaks it away: its mask bit clears with the take (R122). -/
def State.breakAway (s : State) (d : Dst) : State :=
  if d.ess = .video then s
  else
    (s.leadsOf d).foldl (fun st e =>
      let k := if d.ess = .audio then O.dst_follow_audio_mask e.1 else O.dst_follow_anc_mask e.1
      let st1 := st.setBit k e.2 false
      { st1 with
        lag := st1.lag.map (fun x => if x.1 = k then (x.1, .n (withBit x.2.int.toNat e.2 false)) else x),
        sw := { st1.sw with routes := st1.sw.routes.map (fun r => if r.dst = d then { r with follows := false } else r) } }) s

/-! ## Values that take effect at a switch line (Table 2.3, code 1) -/

/-- The objects whose new values govern from the next switch line of a destination. -/
def State.switchLineKey (s : State) (d : Dst) (k : Key) : Bool :=
  match d.ess with
  | .video =>
    (k.fam == 0x3100 && k.inst == d.idx) || (k.fam == 0x3500 && k.inst == 1 + d.idx) ||
      (k.fam == 0x3600 && d.idx < 1024 && k.inst == d.idx) ||
      (k.fam == 0x7000 && k.inst < 4096 && d.idx < 1024 && s.nat ⟨0x7000, k.inst, 0⟩ == d.idx)
  | _ => false

/-! ## Programme delay (R183, R191, R192) -/

/-- The read state of a destination. -/
def State.readRec (s : State) (d : Nat) : ReadRec :=
  match s.sw.reads.find? (fun r => r.d = d) with | some r => r | none => ⟨d, 0, 0, none⟩

/-- The read state of a destination set. -/
def State.putRead (s : State) (r : ReadRec) : State :=
  { s with sw := { s.sw with reads := s.sw.reads.filter (fun x => x.d ≠ r.d) ++ [r] } }

/-- A change of programme delay comes into force: an increase of k frames holds the present frame for k frames; where
the take's new source starts at this switch line there is no hold (R192). -/
def State.delayChange (s : State) (d old new : Nat) (taken : Bool) : State :=
  let r := s.readRec d
  if old < new ∧ !taken then s.putRead { r with hold := r.hold + (new - old) } else s

/-! ## Switching (R109, R132, R175) -/

/-- The frame periods between S and the instant at which a take switched (R132). -/
def lateFrames (period inst at' : Nat) : Nat :=
  if period = 0 then 0 else (roundDiv ((at' : Int) - (inst : Int)) period).natAbs

/-- A take that has switched reports: its slot, whether late, and its salvo entry (R132, R143). The words of a salvo
part's results stand by entry. -/
def State.reportSwitch (s : State) (r : TakeRec) (pl : Placement) (at' : Nat) : State :=
  let b := s.beat r.dst
  let late : Bool := match r.inst with | some i => i != at' | none => false
  let frames := match r.inst with | some i => lateFrames b.period i at' | none => 0
  let s1 := if r.slot = 0 then s
    else
      let a := (s.finishTake r.slot 5).setN (O.take_switched_at r.slot) at'
      let a := if pl.path = 4 then a.slotFlag r.slot 3 else a
      if s.idHere pl.src then a else a.slotFlag r.slot 4
  let s2 := match r.part with
    | some (coord, slot, i) =>
      { s1 with salvos := { s1.salvos with parts := s1.salvos.parts.map (fun p =>
        if p.coord = coord ∧ p.slot = slot then
          { p with takes := p.takes.filter (fun n => n ≠ r.num),
                   results := kput p.results i (if late then 2 * 65536 + frames % 65536 else 65536) }
        else p) } }
    | none => s1
  if late then
    let a := if r.slot = 0 then s2 else (s2.setN (O.take_late_frames r.slot) (frames % 65536)).slotFlag r.slot 1
    (a.count O.takes_takes_late).strike (F.takeLate (match s.leadOf r.dst with | some v => s.vdstTile v | none => s.adstTile r.dst.idx))
      (s.dstId r.dst) frames
  else s2

/-- A route changes over to a take's placement: what it leaves stays booked until the next frame start (R175 steps 3
and 4). -/
def State.changeOver (s : State) (d : Dst) (pl : Placement) : State :=
  let old := match s.route d with | some r => r.old ++ (if r.follows then [] else [r.pl]) | none => []
  { s with sw := { s.sw with routes := putRoute s.sw.routes ⟨d, pl, old, false, false⟩ } }

/-- One armed take switches at the instant `at'` of its destination's time base (R109). An unaligned direct path whose
store is primed already moves to it by a re-placement (R111). -/
def State.switchOne (s : State) (r : TakeRec) (at' : Nat) : State :=
  match r.pl with
  | none => s
  | some pl =>
    let s1 := (s.changeOver r.dst pl).reportSwitch r pl at'
    let s2 := s1.dropTake r.num
    let s3 := if r.dst.ess = .video then s2.setN (O.dst_last_switch r.dst.idx) at' else s2
    let s4 := if r.dst.ess = .video ∧ r.dst.idx < 3072 ∧ !r.repl then s3.putRead ⟨r.dst.idx, 0, 0, none⟩ else s3
    let s5 := if r.repl then s4.count O.placer_replacements else s4
    let s6 := s5.reviewLost
    match pl.store with
    | some i =>
      if pl.path = 4 ∧ s6.storeReady i then
        s6.startRepl r.dst { pl with path := 2, stripes := pl.stripes.filter (fun x => x.feed ≠ pl.src) }
      else s6
    | none => s6

/-- The bookings that a route has left are released, and what waited for them goes on (R157, R175 step 4, R176). -/
def State.releaseOld (s : State) (p : Route → Bool) : State :=
  if s.sw.routes.any (fun r => p r && !r.old.isEmpty) then
    let s1 : State := { s with sw := { s.sw with routes := s.sw.routes.map (fun r => if p r then { r with old := [] } else r) } }
    let s2 := s1.sweep
    let ready (e : Task × List Dst) : Bool :=
      s2.sw.moving.isEmpty && e.2.all (fun d => !(s2.sw.takes.any (fun r => r.dst = d ∧ r.repl)) &&
        (match s2.route d with | some r => r.old.isEmpty | none => true))
    let s3 : State := { s2 with placer := { s2.placer with
      queue := (s2.placer.parked.filter ready).map (fun e => e.1) ++ s2.placer.queue,
      parked := s2.placer.parked.filter (fun e => !ready e) } }
    s3.retryLost.retryShort
  else s

/-- The armed takes of a destination whose switch instant has come, earliest first. -/
def State.dueTakes (s : State) (d : Dst) : List TakeRec :=
  let t := s.tbNow (s.beat d).tb
  sortBy (fun (a b : TakeRec) => a.switchAt.getD 0 < b.switchAt.getD 0)
    (s.sw.takes.filter (fun r => r.dst = d && r.state == 4 && (match r.switchAt with | some x => x ≤ t | none => false)))

/-- A switch instant of a destination: what its route left earlier is released, the takes that are due switch, values
that take effect at the switch line come into force, and the follow set is applied (R37, R109, R121, R175). -/
def State.switchInstant (s : State) (d : Dst) : State :=
  let s1 := s.releaseOld (fun r => r.dst = d)
  let due := s1.dueTakes d
  let s2 := due.foldl (fun st r => st.switchOne r (r.switchAt.getD 0)) s1
  match d.ess with
  | .video =>
    if d.idx < 3072 then
      let k := O.fsd_programme_delay (1 + d.idx)
      let old := s2.natNow k
      let s3 := s2.takeEffect (s2.switchLineKey d)
      (s3.delayChange d.idx old (s3.natNow k) (due.any (fun r => !r.repl))).applyFollow d.idx
    else s2
  | _ => s2.takeEffect (s2.switchLineKey d)

/-! ## Refusing and cancelling -/

/-- What a placement uses of the kind that a hint concerns (Table 6.6); nothing where the kind does not concern it. -/
def State.hintUses (s : State) (pl : Placement) (kind : Nat) : List Nat :=
  let store := pl.store.bind s.storeOf
  match kind with
  | 0 => nub ((pl.stripes ++ (match store with | some x => x.stripes | none => [])).map (fun x => x.plane))
  | 1 => match store with | some x => [x.stack] | none => []
  | 2 => pl.lanes.map (fun e => s.nat (O.mlink_peer_chip (1 + e.1)))
  | 3 => pl.lanes.map (fun e => e.1)
  | 4 => (s.placer.asrc.filter (fun a => pl.asrc.contains a.ch)).map (fun a => a.slice)
  | _ => if idEss pl.dst = 0 then [if pl.path = 3 then 2 else pl.path] else []

/-- The hints that concern a placement show whether it honours them (3400h[n].06). -/
def State.noteHints (s : State) (pl : Placement) : State :=
  [0, 1, 2, 3, 4, 5].foldl (fun st k =>
    let uses := s.hintUses pl k
    if uses.isEmpty then st
    else (s.hints k [pl.src, pl.dst]).foldl (fun st h =>
      let met := uses.contains (s.nat (O.hint_value h)) == (s.nat (O.hint_action h) ≤ 1 : Bool)
      st.setN (O.hint_state h) (if met then 1 else 2)) st) s

/-- A route is refused for its require hints: where those of its source and of its destination ask for different values, both
read conflict; the others read not honoured (R170). -/
def State.noteHintRefusal (s : State) (src dst : Nat) : State :=
  [0, 1, 2, 3, 4, 5].foldl (fun st k =>
    let req := (s.hints k [src, dst]).filter (fun h => s.nat (O.hint_action h) = 0)
    let clash (h : Nat) : Bool := req.any (fun g =>
      s.normId (s.nat (O.hint_subject g)) != s.normId (s.nat (O.hint_subject h)) && s.nat (O.hint_value g) != s.nat (O.hint_value h))
    req.foldl (fun st h => st.setN (O.hint_state h) (if clash h then 3 else 2)) st) s

/-- A refusal of the placer is recorded (R152). -/
def State.noteRefusal (s : State) (r : Refuse) (dstId : Nat) : State :=
  (((s.count O.placer_refusals).setN O.placer_last_refusal r.1).setN O.placer_last_detail r.2).setN
    O.placer_last_refused_dest dstId

/-- A route is refused: the record, and the states of the hints that refuse it. -/
def State.noteRefused (s : State) (why : Refuse) (src dst : Nat) : State :=
  (if why = (C.noPath, 11) then s.noteHintRefusal src dst else s).noteRefusal why dst

/-- A take is refused by its reply: it leaves no slot and nothing changes (R126, R127). A restoration that is refused leaves its route
lost (R176). -/
def State.refuseTake (s : State) (r : TakeRec) (why : Refuse) : State :=
  let s1 := (s.noteRefused why r.src (s.dstId r.dst)).abandonTake r.num
  let s2 := match r.ticket with | some tk => s1.replyMirrored s1.twin.seq tk why.1 [] | none => s1
  (if r.repl then s2.loseRoute r.dst else s2).clearSlot r.slot

/-- The cancel object of a take slot is written 1 (R129): the code of the reply, and the state. -/
def State.cancelTake (s : State) (slot : Nat) : Except Nat State :=
  match s.nat (O.take_state slot) with
  | 0 => .error C.range
  | 4 => .error C.tooLate
  | 5 => .error C.tooLate
  | 6 => .ok s
  | 7 => .ok s
  | 8 => .ok s
  | _ =>
    match s.sw.takes.find? (fun r => r.slot = slot) with
    | none => .ok s
    | some r => .ok (((s.answerTake r s.twin.seq).finishTake slot 7).abandonTake r.num).retryShort

/-- A video destination's route moves to another path for a reason of the placer's own (R108, R175). -/
def State.askReplace (s : State) (d : Dst) : State :=
  if s.sw.takes.any (fun r => r.dst = d ∧ r.repl) then s else s.enqueue (.replace d)

end Sys2Proof.Machine
end

