-- ==== Sys2Proof/Machine/Domain.lean ====
section
/-! DEFINITION. The domain as a chip sees it: the plan, the groups of the chip and their heads, and the chips in reach
(R19 to R25, R51, R405 to R410). -/

namespace Sys2Proof.Machine

/-- A pair entry of the plan (Table 15.6). -/
structure PlanPair where
  pair : Nat
  group : Nat
  serialA : Bytes
  serialB : Bytes
  deriving DecidableEq, Repr

/-- A group entry of the plan (Table 15.6). -/
structure PlanGroup where
  group : Nat
  parent : Nat
  kind : Nat
  deriving DecidableEq, Repr

/-- The pair entries of a plan. -/
def planPairs (p : Bytes) : List PlanPair :=
  (records 40 (slice p 8 (40 * field p 4 2))).map (fun r => ⟨field r 0 2, field r 2 2, slice r 4 16, slice r 20 16⟩)

/-- The group entries of a plan. -/
def planGroups (p : Bytes) : List PlanGroup :=
  (records 8 (slice p (8 + 40 * field p 4 2) (8 * field p 6 2))).map (fun r => ⟨field r 0 2, field r 2 2, field r 4 1⟩)

/-- The groups from an innermost one outward (R21). -/
def groupPath (gs : List PlanGroup) : Nat → Nat → List Nat
  | 0, _ => []
  | fuel + 1, g =>
    match gs.find? (fun x => x.group = g) with
    | none => []
    | some x => g :: groupPath gs fuel x.parent

/-- The groups of the plan that hold a pair, from the innermost outward. -/
def State.pathOf (s : State) (pair : Nat) : List Nat :=
  let p := s.oct O.mesh_plan
  match (planPairs p).find? (fun x => x.pair = pair) with
  | none => []
  | some x => groupPath (planGroups p) 1000 x.group

/-- The chip has a twin by its role (R19). -/
def State.paired (s : State) : Bool := s.nat O.id_pair_role != 2

/-- The instance of 2400h that shows the group of this chip numbered `g` in the plan: level 0 is the pair of a chip that
has a twin (R21, R411). -/
def State.groupLevel (s : State) (g : Nat) : Option Nat :=
  ((List.range 1024).find? (fun k => s.nat (O.mgroup_kind (2048 + k)) ≠ 0 ∧ s.nat (O.mgroup_plan_group (2048 + k)) = g)).map
    (fun k => 2048 + k)

/-- The head of a group that this chip belongs to; 1023 where it has none (R409, R410). -/
def State.headOf (s : State) (g : Nat) : Nat :=
  match s.groupLevel g with | some i => s.nat (O.mgroup_head i) | none => 1023

/-- This chip heads a group that contains a chip's pair: its own pair or unpaired self while it serves it, or a group of
the plan whose head it is (R19, R51, Salvos of chapter 05). -/
def State.headsOver (s : State) (chip : Nat) : Bool :=
  chip == 1023 || (s.chipId != 1023 && pairOf chip == s.pairId) ||
    (s.chipId != 1023 && (s.pathOf (pairOf chip)).any (fun g => s.headOf g == s.chipId))

/-- The smallest group that contains two pairs (R173). -/
def State.commonGroup (s : State) (a b : Nat) : Option Nat := (s.pathOf a).find? (fun g => (s.pathOf b).contains g)

/-- A chip that this chip hears over the mesh (R407). -/
def State.peer (s : State) (chip : Nat) : Option MeshPeer := s.mesh.peers.find? (fun p => p.chip = chip)

/-- A chip's present primary in a pair: the pair's chip that is in reach and heard as primary, else the even one. -/
def State.servingChip (s : State) (pair : Nat) : Nat :=
  match s.mesh.peers.find? (fun p => pairOf p.chip = pair ∧ p.state = 0) with
  | some p => p.chip
  | none => pair

end Sys2Proof.Machine
end

