-- ==== Sys2Proof/Machine/Placer.lean ====
section
/-! DEFINITION. The placer's tasks (R128, R152, R160, R165 to R176): what a task comes to when the placer takes it up,
what becomes of the result, reserves for heads, and the commands PLACER_TASK_START, PLACEMENT_COMPLETE,
CROSS_CHIP_RESERVE, RESERVE_CONFIRM and RESERVE_TIMEOUT. -/

namespace Sys2Proof.Machine

/-! ## What a task comes to -/

/-- A destination is held by a salvo that is preparing or prepared (R128). -/
def State.salvoHeld (s : State) (d : Dst) : Bool :=
  s.salvos.parts.any (fun p => p.state < 2 && p.entries.any (fun e => idIdx e.1.dst == d.idx && idEss e.1.dst == essCode d.ess))

/-- The plan worked out so far for a task stands in the ledgers while the rest is placed. -/
def State.withPlan (s : State) (t : Task) (p : Plan) : State :=
  { s with placer := { s.placer with running := some (t, .placed p) } }

/-- One take on a destination of this chip, after step 1: its plan. A route from another chip has none here, since its
parts come by reserves (R173). -/
def State.placeTake (s : State) (num : Nat) (d : Dst) (src mode : Nat) : Except Refuse Plan :=
  if !s.idHere src then .ok .none
  else if s.stepOne d src ≠ 0 then .error (s.stepOne d src, 0)
  else s.placeLocal num d src mode (s.localEntry d.ess (idIdx src)) none

/-- The entry at which a present placement's data enter: those of a route over the mesh at its lane's tile. -/
def State.entryOf (s : State) (pl : Placement) : Entry :=
  match pl.lanes with
  | [] => s.localEntry (essOf (idEss pl.src)) (idIdx pl.src)
  | e :: _ => ⟨e.1 / 64, pl.hops, pl.delay, pl.lanes⟩

/-- The machine without a destination's route, as a re-optimisation or a restoration places it. -/
def State.without (s : State) (d : Dst) : State :=
  { s with sw := { s.sw with routes := s.sw.routes.filter (fun r => r.dst ≠ d) } }

/-- The timing path that a route keeps when it is placed again: a frame-synchronised route stays so until the next
take (R108), and an unaligned one moves to its store (R111). -/
def State.keptPath (s : State) (r : Route) : Option Nat :=
  if r.dst.ess ≠ .video ∨ r.pl.path = 1 ∨ 3072 ≤ r.dst.idx then none
  else some (if s.nat (O.fsd_programme_delay (1 + r.dst.idx)) = 0 then 2 else 3)

/-- A route placed again: a CLEAN placement of the source that it carries. A store that only it reads is taken as free
where `alone` says so. -/
def State.replaceRoute (s : State) (r : Route) (alone : Bool) : Except Refuse Plan :=
  if r.lost ∧ s.idHere r.pl.src ∧ s.stepOne r.dst r.pl.src ≠ 0 then .error (s.stepOne r.dst r.pl.src, 0)
  else
    (if alone then s.without r.dst else s).placeLocal 0 r.dst r.pl.src 0 (s.entryOf r.pl)
      (if alone then none else s.keptPath r)

/-- The cost of a present placement, by the terms of Table 6.3 that a candidate's cost has (R164, R171): `s` is the
machine without the route. -/
def State.presentCost (s : State) (pl : Placement) : Int :=
  let dst : Dst := ⟨essOf (idEss pl.dst), idIdx pl.dst⟩
  let outT := match dst.ess with | .video => s.vdstTile dst.idx | .audio => s.adstTile dst.idx | _ => s.ancTile 1 dst.idx
  (s.nat O.placer_w_hop * pl.hops : Nat) + s.stripesCost true [pl.src, pl.dst] s.stripes pl.stripes +
    (match pl.store.bind s.storeOf with
     | some x =>
       let far := if s.isH then x.stack / 2 ≠ 0 else x.stack / 2 ≠ outT / 8
       (s.nat O.placer_w_hbm * permille (s.stackBw x.stack) stackMbps + s.nat O.placer_w_far * b01 far : Nat) +
         s.hintCost true 1 [pl.src, pl.dst] x.stack
     | none => 0) +
    (if dst.ess = .video then s.hintCost true 5 [pl.dst] (if pl.path = 3 then 2 else pl.path) else 0) +
    sumByInt (fun c => s.hintCost true 4 [pl.dst] (c / 128)) pl.asrc

/-- Every stripe of a placement fits beside what is booked already. -/
def State.fitsBeside (s : State) (ss : List Stripe) : Bool :=
  let l := s.stripes ++ ss
  ss.all (fun x => inBooked l x.plane x.inTile ≤ ratedKhs && outBooked l x.plane x.outTile ≤ ratedKhs)

/-- One route of a re-optimisation: it moves where its new placement differs and costs something else, and can be booked
beside the old one (R171). -/
def State.reoptimiseOne (s : State) (r : Route) : Option Plan :=
  let w := s.without r.dst
  match w.stepsHinted r.dst r.pl.src 0 (s.entryOf r.pl) (if (s.hints 5 [r.pl.dst]).isEmpty then s.keptPath r else none) with
  | .ok c =>
    if c.pl ≠ r.pl ∧ c.cost ≠ w.presentCost r.pl ∧ s.fitsBeside (c.pl.stripes) then
      some { c.plan with moves := [(r.dst, c.pl)] }
    else none
  | .error _ => none

/-- A part's takes in list order, on what the earlier ones have booked; the entry whose placement is refused ends it
(R139, R160). Moves that make room for one come first, and the part is then placed anew. -/
def State.placePart (s : State) (t : Task) : Plan → Nat → List (Nat × TakeEntry) → Verdict
  | acc, _, [] => .placed acc
  | acc, i, (num, e) :: r =>
    match s.judgeDst e.dst with
    | .error c => .refused c 0 i
    | .ok d =>
      match ({ (s.withPlan t acc) with power := { s.power with margin := [] } }).placeTake num d (s.normId e.src) 2 with
      | .error f => .refused f.1 f.2 i
      | .ok p => if p.moved.isEmpty then s.placePart t (acc.add p) (i + 1) r else .placed { Plan.none with moved := p.moved }

/-- The tile of a chip's part at which a mesh lane stands. -/
def meshTile (l : Nat) : Nat := l / 64

/-- A mesh lane can carry a further booking (R161): 0, or detail 9 where it is not up or not matched, or 7 where it is full. -/
def State.laneShort (s : State) (lm : Nat × Nat) : Nat :=
  if !s.linkCarries lm.1 then 9
  else if s.meshBookable < s.meshBooked lm.1 + lm.2 then 7 else 0

/-- A part of a cross-chip route on this chip (R173): at the destination's chip the rest of the placement on the timing
path that the head gives, and otherwise one cell or stripe stream from the source or the lane that it comes by to the
lane that it leaves by. The second and later destinations of a source book no lane again (R174). -/
def State.placeReserve (s : State) (pl : Placement) : Except Refuse Plan :=
  let lanes := pl.lanes.filter (fun lm => !(s.placements.any (fun p => p.src = pl.src ∧ p.lanes.any (fun x => x.1 = lm.1))))
  match lanes.findSome? (fun lm => if s.laneShort lm = 0 then none else some (s.laneShort lm)) with
  | some d => .error (C.noPath, d)
  | none =>
    if s.idHere pl.dst then
      let d : Dst := ⟨essOf (idEss pl.dst), idIdx pl.dst⟩
      let tile := match pl.lanes with | e :: _ => meshTile e.1 | [] => 0
      s.placeLocal 0 d pl.src 0 ⟨tile, pl.hops, pl.delay, lanes⟩ (if d.ess = .video then some pl.path else none)
    else
      let inT := if s.idHere pl.src then (s.localEntry (essOf (idEss pl.src)) (idIdx pl.src)).tile
        else match pl.lanes with | e :: _ => meshTile e.1 | [] => 0
      let out := match pl.lanes.getLast? with | some e => e | none => (0, 0)
      let khs := if idEss pl.src = 0 then stripeKhs (1000 * out.2) else cellKhs
      match s.choosePlanes true [pl.src, pl.dst] s.stripes [] [⟨pl.src, 0, inT, meshTile out.1, khs, false⟩] with
      | none => .error (C.noPath, 1)
      | some ss =>
        if s.marginShort s.stripes ss then .error (C.noPath, 10)
        else .ok { Plan.none with pls := [(0, { pl with lanes := lanes, stripes := ss, store := none, asrc := [] })] }

/-- A plan or a refusal as a verdict. -/
def verdictOf (x : Except Refuse Plan) : Verdict :=
  match x with | .ok p => .placed p | .error f => .refused f.1 f.2 0

/-- What a task comes to on the placer's inputs as they stand (R165). -/
def State.judgeTask (s : State) (t : Task) : Verdict :=
  match t with
  | .take num =>
    match s.takeOf num with
    | none => .placed .none
    | some r => if s.salvoHeld r.dst then .refused C.busy 0 0 else verdictOf (s.placeTake num r.dst r.src r.mode)
  | .part coord slot =>
    match s.salvos.parts.find? (fun p => p.coord = coord ∧ p.slot = slot) with
    | none => .placed .none
    | some p => s.placePart t .none 0 (p.takes.zip (p.entries.map (fun e => e.1)))
  | .reserve _ _ pl => verdictOf (s.placeReserve pl)
  | .reoptimise =>
    .placed ((s.sw.routes.filter (fun r => !r.follows)).foldl (fun acc r =>
      match (s.withPlan t acc).reoptimiseOne r with | some p => acc.add p | none => acc) Plan.none)
  | .replace d => match s.route d with | none => .placed .none | some r => verdictOf (s.replaceRoute r false)
  | .restore d => match s.route d with | none => .placed .none | some r => verdictOf (s.replaceRoute r true)

/-- The task that the placer takes up next (R167): priority takes, then restorations in ascending order of destination
(R176), then the rest in order of arrival. -/
def State.nextTask (s : State) : Option Task :=
  let prio (t : Task) : Bool := match t with | .take n => s.proto.priority.contains n | _ => false
  let rest (t : Task) : Bool := match t with | .restore _ => true | _ => false
  let key (t : Task) : Nat := match t with | .restore d => s.dstId d | _ => 0
  match s.placer.queue.find? prio with
  | some t => some t
  | none =>
    match minBy key (s.placer.queue.filter rest) with
    | some t => some t
    | none => s.placer.queue.head?

/-- The head that coordinates a route from a source of another chip: that of the smallest group that contains both
pairs (R173); none where there is no such group or no head in reach. -/
def State.routeHead (s : State) (src : Nat) : Option Nat :=
  match s.commonGroup s.pairId (pairOf (idChip src)) with
  | none => none
  | some g => let h := s.headOf g; if h = 1023 then none else some h

/-- A lost route from another chip of which no part stands is asked for again as a take is, with a record of its own (R173,
R176). -/
def State.askAfar (s : State) (d : Dst) (src : Nat) : State × Task :=
  let n := s.placer.nextNum
  let r : TakeRec := ⟨n, 0, d, src, 0, false, true, none, none, none, 1, none, none, none⟩
  ({ s with sw := { s.sw with takes := s.sw.takes.filter (fun r => ¬(r.dst = d ∧ r.repl ∧ r.state ≠ 4)) ++ [r] },
            placer := { s.placer with nextNum := n + 1 } }, .take n)

/-- The task that stands for a restoration: that of a route from another chip of which no part stands is a take. -/
def State.restoreTask (s : State) (t : Task) : State × Task :=
  match t with
  | .restore d =>
    match s.route d with
    | some r => if r.lost && !s.idHere r.pl.src && r.pl.lanes.isEmpty then s.askAfar d r.pl.src else (s, t)
    | none => (s, t)
  | _ => (s, t)

/-- The rate in Mb/s that a route to a destination of this chip books on the mesh: all its stripes, or one cell stream at its bound
(R161, log entry 76). -/
def State.farMbps (s : State) (d : Dst) : Nat :=
  match d.ess with
  | .video =>
    let f := if d.idx < 3072 then s.nat (O.dst_format d.idx) else 0
    let m := lowestMode f ((s.vdstSampling d.idx).getD 0)
    ceilDiv (modeLinks m * modeRate m (pulled f)) 1000
  | _ => 205

/-- The most hops that the limit on D allows a route to a destination (R87). -/
def State.hopLimit (s : State) (d : Dst) : Nat :=
  match d.ess with
  | .video => if d.idx < 3072 then
      ((List.range 32).filter (fun h => s.playoutDelay d.idx h 0 ≤ delayLimit (s.vdstRate d.idx))).getLast?.getD 0 else 31
  | _ => 31

/-- The takes of a task. -/
def State.takesOf (s : State) (t : Task) : List TakeRec :=
  (match t with
   | .take n => [n]
   | .part c k => (s.salvos.parts.filter (fun (p : Part) => p.coord = c ∧ p.slot = k)).flatMap (fun (p : Part) => p.takes)
   | _ => []).filterMap s.takeOf

/-- The takes of the task that the placer is at. -/
def State.startedTakes (s : State) : List TakeRec :=
  match s.placer.running with | some (t, _) => s.takesOf t | none => []

/-- The placer takes up a task (R165, R167): it passes routes from other chips to their heads (R173). -/
def State.startTask (s0 : State) (t0 : Task) : State :=
  let x := ({ s0 with placer := { s0.placer with queue := s0.placer.queue.filter (fun x => x ≠ t0) } } : State).restoreTask t0
  let s := x.1
  let t := x.2
  let s1 : State := { s with
    placer := { s.placer with queue := s.placer.queue.filter (fun x => x ≠ t), running := some (t, s.judgeTask t) },
    proto := { s.proto with priority := s.proto.priority.filter (fun n => Task.take n ≠ t) } }
  (s.takesOf t).foldl (fun st r =>
    if st.idHere r.src then st
    else match st.routeHead r.src with
      | some h => if h = st.chipId then st
        else st.emit (.notice h (.routeToHead h (st.dstId r.dst) r.src (st.farMbps r.dst) (st.hopLimit r.dst)))
      | none => st) s1

/-! ## Bookings -/

/-- A stripe that is moved leaves its old plane once it has switched (R175): what stores book. -/
def State.moveStoreStripe (s : State) (m : Nat × Nat × Nat) : State :=
  let hit (x : Stripe) : Bool := x.feed = m.1 && x.link = m.2.1
  let olds := s.sw.stores.flatMap (fun x => (x.stripes.filter hit).map (fun y => (x.i, y, false)))
  { s with sw := { s.sw with
      stores := s.sw.stores.map (fun x => { x with stripes := x.stripes ++ (x.stripes.filter hit).map (fun y => { y with plane := m.2.2 }) }),
      moving := s.sw.moving ++ olds } }

/-- A store that a deeper one replaces deepens (R183): state 3, with its heir. -/
def State.markDeepening (s : State) (e : Nat × Nat) : State :=
  { s with sw := { s.sw with stores := s.sw.stores.map (fun x => if x.i = e.1 then { x with state := 3, deeper := some e.2 } else x) } }

/-- What a plan books goes to the twin before the placements that use it (R166, R419). -/
def State.mirrorPlan (s : State) (p : Plan) : State :=
  let s1 := p.stores.foldl (fun st x => st.mirror (.store x.i x.purpose x.src x.fmt x.smp x.stack x.depth x.writeTile x.readTile
    x.stripes ((p.deepens.find? (fun e => e.2 = x.i)).map (fun e => e.1)))) s
  let s2 := p.asrc.foldl (fun st a => st.mirror (.asrc a.ch a.slice a.dst a.src)) s1
  let s3 := p.hbm.foldl (fun st b => st.mirror (.hbm b.fam b.inst b.stack b.mbps b.bytes)) s2
  p.allocs.foldl (fun st e => st.mirror (.alloc e.1 e.2)) s3

/-- The bookings of a plan are made (step 10, R162). -/
def State.book (s0 : State) (p : Plan) : State :=
  let s := s0.mirrorPlan p
  let s1 : State := { s with sw := { s.sw with stores := s.sw.stores ++ p.stores } }
  let s2 := p.deepens.foldl (fun st e => st.markDeepening e) s1
  let s3 := s2.takeAsrc p.asrc
  let owns (b : HbmBook) : Bool := p.hbm.any (fun q => q.fam == b.fam && q.inst == b.inst)
  let s4 : State := { s3 with placer := { s3.placer with hbm := s3.placer.hbm.filter (fun b => !owns b) ++ p.hbm } }
  p.allocs.foldl (fun st e => st.setN (O.scaler_allocation e.1) e.2) s4

/-- A take record gets its placement, which goes to the twin (R152, R419). -/
def State.givePlacement (s : State) (num : Nat) (pl : Placement) : State :=
  ((s.modTake num (fun r => { r with pl := some pl })).noteHints pl).mirror (.place pl 0)

/-- The placer is free for its next task. -/
def State.taskOver (s : State) : State := { s with placer := { s.placer with running := none } }

/-- Stripes are moved to make room, by re-placements of the routes that they carry, and the task waits until they have
left their old planes (R157, R175). -/
def State.makeMoves (s : State) (t : Task) (ms : List (Nat × Nat × Nat)) : State :=
  let touched (pl : Placement) : Bool := pl.stripes.any (fun x => ms.any (fun m => m.1 = x.feed ∧ m.2.1 = x.link))
  let rs := s.sw.routes.filter (fun r => touched r.pl)
  let s1 := rs.foldl (fun st r =>
    st.startRepl r.dst { r.pl with stripes := ms.foldl (fun l m => restripe m.1 m.2.1 m.2.2 l) r.pl.stripes }) s
  let s2 := ms.foldl (fun st m => st.moveStoreStripe m) s1
  { s2 with placer := { s2.placer with parked := s2.placer.parked ++ [(t, rs.map (fun r => r.dst))] } }

/-- A re-placement that the placer has worked out begins; one that changes nothing does not (R175). -/
def State.beginRepl (s : State) (d : Dst) (pl : Placement) : State :=
  match s.route d with
  | none => s
  | some r => if r.pl = pl ∧ !r.lost then s else ((s.noteHints pl).mirror (.place pl 0)).startRepl d pl

/-- A take's placement is complete: booked, answered, and its path ready or waiting for its store (R126, R152). A route
from another chip goes on when its head reports; without a head in reach it is refused BUSY (R174). -/
def State.completeTake (s : State) (num : Nat) (p : Plan) : State :=
  match s.takeOf num with
  | none => s
  | some r =>
    match p.pls.find? (fun e => e.1 = num) with
    | some e =>
      let before := s.twin.seq
      let s1 := ((s.book p).givePlacement num e.2).count O.placer_placements
      let s1 := if (e.2.path = 2 ∨ e.2.path = 4) ∧ e.2.store.isSome then s1.slotFlag r.slot 2 else s1
      (s1.answerTake { r with pl := some e.2 } before).afterPlaced num
    | none => if (s.routeHead r.src).isSome then s else s.refuseTake r (C.busy, 12)

/-- A salvo part's takes are placed (R139): each waits for the pour. -/
def State.completePart (s : State) (p : Plan) : State :=
  let s1 := (s.book p).count O.placer_placements p.pls.length
  p.pls.foldl (fun st e => (st.givePlacement e.1 e.2).afterPlaced e.1) s1

/-- A reserve is booked and reported to its head, or refused (R173). -/
def State.completeReserve (s : State) (head ident : Nat) (v : Verdict) : State :=
  match v with
  | .placed p =>
    match p.pls.head? with
    | some e =>
      let s1 := s.book p
      let s2 : State := { s1 with placer := { s1.placer with reserves := s1.placer.reserves ++ [⟨head, ident, e.2, s.now, false⟩] } }
      if head = s.chipId then s2 else s2.emit (.notice head (.reserved head ident 0 0))
    | none => s
  | .refused c d _ => if head = s.chipId then s else s.emit (.notice head (.reserved head ident c d))

/-! ## Reserves (R173, R174) -/

/-- The reserve of a head and identifier. -/
def State.reserveOf (s : State) (head ident : Nat) : Option Reserve :=
  s.placer.reserves.find? (fun r => r.head = head ∧ r.ident = ident)

/-- A reserve is taken out of the list. -/
def State.dropReserve (s : State) (head ident : Nat) : State :=
  { s with placer := { s.placer with reserves := s.placer.reserves.filter (fun r => ¬(r.head = head ∧ r.ident = ident)) } }

/-- A reserve is released: all that it booked comes free (R162, R173). -/
def State.releaseReserve (s : State) (head ident : Nat) : State :=
  if (s.reserveOf head ident).isSome then (s.dropReserve head ident).sweep.retryLost else s

/-- The head confirms a part: at the destination's chip the take that asked for the route has its placement, and is
answered (R173). -/
def State.confirmReserve (s : State) (head ident : Nat) : State :=
  match s.reserveOf head ident with
  | none => s
  | some rv =>
    match s.sw.takes.find? (fun r => s.dstId r.dst = rv.pl.dst ∧ r.src = rv.pl.src ∧ r.pl.isNone) with
    | some r =>
      let before := s.twin.seq
      let s1 := (((s.dropReserve head ident).givePlacement r.num rv.pl).count O.placer_placements)
      (s1.answerTake { r with pl := some rv.pl } before).afterPlaced r.num
    | none =>
      { s with placer := { s.placer with reserves := s.placer.reserves.map (fun x =>
        if x.head = head ∧ x.ident = ident then { x with confirmed := true } else x) } }

end Sys2Proof.Machine
end

