-- ==== Sys2Proof/Machine/Members.lean ====
section
/-! DEFINITION. Multicast membership of receive flows (R246, R247): who joins, and when. -/

namespace Sys2Proof.Machine

/-- The port of a flow's leg (0 A, 1 B). -/
def State.legPort (s : State) (fam inst leg : Nat) : Nat :=
  if leg = 0 then s.nat (O.flow_a_port fam inst) else s.nat (O.flow_b_port fam inst)
/-- The destination address of a flow's leg. -/
def State.legAddress (s : State) (fam inst leg : Nat) : Bytes :=
  if leg = 0 then s.oct (O.flow_a_address fam inst) else s.oct (O.flow_b_address fam inst)

/-- The legs that a flow has. -/
def State.legs (s : State) (fam inst : Nat) : List Nat := if s.nat (O.flow_b_port fam inst) = none16 then [0] else [0, 1]

/-- An address of 16 bytes that is an IPv4-mapped one. -/
def isV4 (a : Bytes) : Bool := a.take 12 == zeros 10 ++ [0xFF, 0xFF]

/-- A multicast address: 224.0.0.0/4, or FF00::/8. -/
def isMulticast (a : Bytes) : Bool :=
  if isV4 a then (match a[12]? with | some b => b.toNat / 16 == 14 | none => false)
  else (match a.head? with | some b => b == 0xFF | none => false)

/-- The source identifiers that a receive flow feeds: its group's video source and members, or its own channels. -/
def State.flowFeeds (s : State) (fam inst : Nat) : List Nat :=
  let g := s.flowGroup fam inst
  if g < 2048 then [s.srcId 0 (1024 + g)]
  else if fam = 0x7000 then [s.srcId 2 (inst - 2048)]
  else
    let b := s.nat (O.aflow_channel_base fam inst)
    if b = none16 then [] else (List.range (s.nat (O.aflow_channels fam inst))).map (fun c => s.srcId 1 (b + c))

/-- Some route from a receive flow is placed. -/
def State.flowWanted (s : State) (fam inst : Nat) : Bool :=
  let ids := s.flowFeeds fam inst
  s.placements.any (fun p => ids.contains p.src) || s.sw.routes.any (fun r => ids.contains r.pl.src)

/-- The enabled receive flows, as family and instance. -/
def State.rxFlows (s : State) : List (Nat × Nat) :=
  (s.objs.filter (fun e => e.1.sub == 0 && isFlowInst e.1.fam e.1.inst && !flowIsTx e.1.fam e.1.inst && e.2 == .n 1)).map
    (fun e => (e.1.fam, e.1.inst))

/-- A leg joins its group: an unsolicited report now, and the rest of the robustness count at their intervals (R246). -/
def State.joinLeg (s : State) (fam inst leg : Nat) : State :=
  let a := s.legAddress fam inst leg
  let p := s.legPort fam inst leg
  if !isMulticast a ∨ s.packet.members.any (fun m => m.fam = fam ∧ m.inst = inst ∧ m.leg = leg) then s
  else
    ({ s with packet := { s.packet with
        members := s.packet.members ++ [⟨fam, inst, leg, s.nat O.pk_robustness - 1, none⟩] } } : State).emit (.membership p a true)

/-- A flow's legs join. -/
def State.joinFlow (s : State) (fam inst : Nat) : State := (s.legs fam inst).foldl (fun st l => st.joinLeg fam inst l) s

/-- A flow's memberships end. -/
def State.leaveFlow (s : State) (fam inst : Nat) : State :=
  let mine := s.packet.members.filter (fun m => m.fam = fam ∧ m.inst = inst)
  mine.foldl (fun st m => st.emit (.membership (st.legPort fam inst m.leg) (st.legAddress fam inst m.leg) false))
    { s with packet := { s.packet with members := s.packet.members.filter (fun m => ¬(m.fam = fam ∧ m.inst = inst)) } }

/-- The membership of one enabled flow of join mode on demand (R247): from the first placed route, until leave_hold after
the last. -/
def State.reviewMember (s : State) (fam inst : Nat) : State :=
  if s.nat (O.flow_join_mode fam inst) = 0 then s
  else if s.flowWanted fam inst then
    let s1 : State := { s with packet := { s.packet with members := s.packet.members.map (fun m =>
      if m.fam = fam ∧ m.inst = inst then { m with leaveAt := none } else m) } }
    s1.joinFlow fam inst
  else
    { s with packet := { s.packet with members := s.packet.members.map (fun m =>
      if m.fam = fam ∧ m.inst = inst ∧ m.leaveAt.isNone then
        { m with leaveAt := some (s.now + 1000000 * s.nat O.pk_leave_hold) }
      else m) } }

/-- The memberships of all flows that join on demand (R247). -/
def State.reviewMembers (s : State) : State := s.rxFlows.foldl (fun st f => st.reviewMember f.1 f.2) s

end Sys2Proof.Machine
end

