-- ==== Sys2Proof/Machine/Salvos.lean ====
section
/-! DEFINITION. Salvos: take lists, preparing, parts, the pour, drops and lost contact (R136 to R149, R151), with the
placer's completions, and the commands of chapter 05 that are not messages or writes. -/

namespace Sys2Proof.Machine

/-! ## Take entries and lists (R44, R137) -/

/-- A take entry of 24 bytes (Table 2.9): the entry and its reserved field. -/
def takeEntryOf (r : Bytes) : TakeEntry × Nat :=
  (⟨field r 0 4, field r 4 4, field r 8 1, field r 9 1, field r 10 2, (time80Of (slice r 12 10)).getD 0⟩, field r 22 2)

/-- An identifier that breaks no rule of R28 in itself: its fields, and the unit that it names on this chip. -/
def State.idWell (s : State) (i : Nat) : Bool :=
  idShape i == 0 && (!s.idHere i || s.idUnit (idEss i) (idDir i) (idIdx i) == 0)

/-- One entry of a take list after the destinations before it (R137): 0, or the code of its refusal. -/
def State.judgeListEntry (s : State) (seen : List Nat) (r : Bytes) : Nat :=
  if r.length < 24 then C.range
  else
    let (e, res) := takeEntryOf r
    if e.mode = 2 ∨ res ≠ 0 then C.type
    else if 2 < e.mode then C.range
    else if !s.idWell e.dst ∨ !s.idWell e.src then C.range
    else if idEss e.dst = 3 ∨ idDir e.dst = 0 ∨ idEss e.src ≠ idEss e.dst ∨ idDir e.src = 1 then C.type
    else if seen.contains (s.normId e.dst) then C.range
    else if !s.headsOver (idChip e.dst) then C.range
    else C.ok

/-- The first offending entry of a take list: its code and index; the cut entry stands last (R137). -/
def State.judgeList (s : State) : List Nat → Nat → List Bytes → Option (Nat × Nat)
  | _, _, [] => none
  | seen, i, r :: rest =>
    match s.judgeListEntry seen r with
    | 0 => s.judgeList (s.normId (field r 0 4) :: seen) (i + 1) rest
    | c => some (c, i)

/-- A string cut into pieces of 24 bytes, the last of which may be short. -/
def takePieces (bs : Bytes) : List Bytes :=
  records 24 bs ++ (if bs.length % 24 = 0 then [] else [bs.drop (bs.length - bs.length % 24)])

/-- The entries of a slot's list, in order. -/
def State.salvoEntries (s : State) (k : Nat) : List TakeEntry :=
  (records 24 (s.oct (O.salvo_take_list k))).map (fun r => (takeEntryOf r).1)

/-- The slot is idle: empty, loaded, done, or dropped back to loaded. -/
def State.salvoIdle (s : State) (k : Nat) : Bool :=
  s.nat (O.salvo_state k) == 0 || s.nat (O.salvo_state k) == 1 || s.nat (O.salvo_state k) == 5

/-- A write of a slot's take list (R136, R137): the code, and the machine after it. -/
def State.writeTakeList (s : State) (k : Nat) (bs : Bytes) : Nat × State :=
  match s.judgeList [] 0 (takePieces bs) with
  | some (c, i) => (c, s.setN (O.salvo_refusal_index k) i)
  | none =>
    (0, (((s.setB (O.salvo_take_list k) bs).setN (O.salvo_take_count k) (bs.length / 24)).setN (O.salvo_generation k)
      ((s.nat (O.salvo_generation k) + 1) % 65536)).setN (O.salvo_state k) 1)

/-- An idle slot is emptied (Table 5.9, sub 10); its generation and label stay. -/
def State.releaseSalvo (s : State) (k : Nat) : Nat × State :=
  if s.salvoIdle k then
    (0, ([0x00, 0x03, 0x04, 0x05, 0x06, 0x07, 0x08, 0x09, 0x0A, 0x0B, 0x0C, 0x0D, 0x0E, 0x0F] : List Nat).foldl
      (fun st sub => st.set ⟨0x3300, k, sub⟩ (dflt ⟨0x3300, k, sub⟩)) s)
  else (C.busy, s)

/-! ## Records -/

/-- The open salvo of a slot. -/
def State.salvo (s : State) (k : Nat) : Option Salvo := s.salvos.own.find? (fun x => x.slot = k)

/-- An open salvo changed. -/
def State.modSalvo (s : State) (k : Nat) (f : Salvo → Salvo) : State :=
  { s with salvos := { s.salvos with own := s.salvos.own.map (fun x => if x.slot = k then f x else x) } }

/-- The part that this chip holds of a coordinator's salvo. -/
def State.part (s : State) (coord slot : Nat) : Option Part :=
  s.salvos.parts.find? (fun p => p.coord = coord ∧ p.slot = slot)

/-- A part changed. -/
def State.modPart (s : State) (coord slot : Nat) (f : Part → Part) : State :=
  { s with salvos := { s.salvos with parts := s.salvos.parts.map (fun p => if p.coord = coord ∧ p.slot = slot then f p else p) } }

/-- A part removed. -/
def State.removePart (s : State) (coord slot : Nat) : State :=
  { s with salvos := { s.salvos with parts := s.salvos.parts.filter (fun p => ¬(p.coord = coord ∧ p.slot = slot)) } }

/-- The list indices of a pair's entries in a slot's list. -/
def State.pairIndices (s : State) (k pair : Nat) : List Nat :=
  let es := s.salvoEntries k
  (List.range es.length).filter (fun i => match es[i]? with | some e => idChip (s.normId e.dst) = pair | none => false)

/-- A salvo's results shown, a word an entry (Table 5.10). -/
def State.showResults (s : State) (k : Nat) (res : List (Nat × Nat)) : State :=
  s.setB (O.salvo_results k) ((List.range (s.nat (O.salvo_take_count k))).flatMap (fun i =>
    beBytes 4 ((kfind res i).getD 0)))

/-! ## Parts at a member (R139, R143, R144) -/

/-- A part is torn down: its takes' paths, stores and bookings are released, and no destination changes (R144). -/
def State.dropPart (s : State) (coord slot : Nat) : State :=
  match s.part coord slot with
  | none => s
  | some p =>
    let t : Task := .part coord slot
    let s1 : State := { s with placer := { s.placer with
      queue := s.placer.queue.filter (fun x => x ≠ t),
      running := match s.placer.running with | some (x, v) => if x = t then none else some (x, v) | none => none,
      parked := s.placer.parked.filter (fun e => e.1 ≠ t) } }
    (p.takes.foldl (fun st n => st.abandonTake n) s1).removePart coord slot

/-- The takes that all the chip's open parts hold. -/
def State.partTakes (s : State) : Nat := sumBy (fun p => p.entries.length) s.salvos.parts

/-- A part of so many entries can be held (R145, R167). -/
def State.partFits (s : State) (n : Nat) : Bool :=
  s.salvos.parts.length < 32 && s.partTakes + n ≤ 131072 && s.queued < 256

/-- The take record of one entry of a part: its instant E on the destination's time base, where it is set. -/
def State.partTake (s : State) (num coord slot i : Nat) (e : TakeEntry × Nat) : TakeRec :=
  let d : Dst := ⟨essOf (idEss e.1.dst), idIdx e.1.dst⟩
  ⟨num, 0, d, s.normId e.1.src, 2, false, false, some (coord, slot, i),
    if e.2 = 0 then none else some ((s.beat d).atOrAfter e.2), none, 1, none, none, none⟩

/-- A part is taken up: its takes stand as TIMED takes with T = E, and its placement is queued (R139). -/
def State.makePart (s : State) (coord slot gen : Nat) (entries : List (TakeEntry × Nat)) : State :=
  let n := s.placer.nextNum
  let recs := (entries.zip (List.range entries.length)).map (fun e => s.partTake (n + e.2) coord slot e.2 e.1)
  let s1 : State := { s with
    sw := { s.sw with takes := s.sw.takes ++ recs },
    placer := { s.placer with nextNum := n + entries.length },
    salvos := { s.salvos with parts := s.salvos.parts ++ [⟨coord, slot, gen, entries, recs.map (fun r => r.num), 0, []⟩] } }
  (s1.mirror (.part slot gen coord entries)).enqueue (.part coord slot)

/-- The pace of a die's slowest tile, in thousands of handshakes a second (R72). -/
def State.diePace (s : State) (die : Nat) : Nat :=
  1000 * ((minBy (fun x => x) ((List.range 8).map (fun i => s.nat (O.pace_last (32 + 8 * die + i))))).getD 0)

/-- Each die's monitors show pace at least margin_min, 1.25 times, the booked demand (R75, R160). -/
def State.marginMet (s : State) : Bool :=
  let l := s.stripes
  (List.range (s.tiles / 8)).all (fun die => 5 * dieDemand l die ≤ 4 * s.diePace die)

/-- Every take of a part is placed. -/
def State.partPlaced (s : State) (p : Part) : Bool :=
  p.takes.all (fun n => match s.takeOf n with | some r => r.pl.isSome | none => false)

/-! ## The coordinator (R138 to R146) -/

/-- A salvo that is not poured is dropped everywhere (R139, R141, R144, R146); `late` gives the pairs that were not
prepared where the cause is 3. -/
def State.dropSalvo (s : State) (k cause : Nat) (res : List (Nat × Nat)) : State :=
  match s.salvo k with
  | none => s
  | some x =>
    let late := (x.parts.filter (fun p => p.2 = 0)).map (fun p => p.1)
    let s1 := (x.parts.filter (fun p => p.1 ≠ s.pairId)).foldl (fun st p =>
      st.emit (.notice (st.servingChip p.1) (.drop p.1 k))) s
    let s2 := s1.dropPart s.chipId k
    let s3 : State := { s2 with salvos := { s2.salvos with own := s2.salvos.own.filter (fun y => y.slot ≠ k) } }
    let s4 := (((s3.setN (O.salvo_state k) 1).setN (O.salvo_drop_cause k) cause).count O.salvos_dropped).mirror (.salvoDrop k cause)
    if cause = 3 then s4.setB (O.salvo_results k) (late.flatMap (beBytes 2))
    else s4.showResults k ((List.range (s.nat (O.salvo_take_count k))).map (fun i =>
      (i, 4 * 65536 + (kfind res i).getD 0 * 16777216)))

/-- A member reports its part (R139): prepared, or the refusal of one of its entries. -/
def State.partReported (s : State) (k pair code index : Nat) : State :=
  match s.salvo k with
  | none => s
  | some x =>
    if !(x.parts.any (fun p => p.1 = pair ∧ p.2 = 0)) then s
    else if code = 0 then
      let parts := x.parts.map (fun p => if p.1 = pair then (pair, 1) else p)
      let s1 := s.modSalvo k (fun x => { x with parts := parts })
      if parts.all (fun p => p.2 ≠ 0) then
        (s1.setN (O.salvo_state k) 3).setN (O.salvo_prepare_time k) ((s.now - x.accepted) / 1000)
      else s1
    else
      let i := ((s.pairIndices k pair)[index]?).getD index
      ((s.setN (O.salvo_refusal k) code).setN (O.salvo_refusal_index k) i).dropSalvo k 2 [(i, code)]

/-- A part reports to its coordinator, which may be this chip (R139). -/
def State.reportPart (s : State) (coord slot code index : Nat) : State :=
  if coord = s.chipId then s.partReported slot s.pairId code index
  else s.emit (.notice coord (.partReport coord slot code index))

/-- A part whose takes are all placed and whose dies have their margin is prepared (R75, R139, R160). -/
def State.reviewPart (s : State) (p : Part) : State :=
  if p.state = 0 ∧ s.partPlaced p ∧ s.marginMet then
    (s.modPart p.coord p.slot (fun p => { p with state := 1 })).reportPart p.coord p.slot 0 0
  else s

/-- Every part that waits is looked at again. -/
def State.reviewParts (s : State) : State := s.salvos.parts.foldl (fun st p => st.reviewPart p) s

/-- A member's results reach the coordinator (R143): when every part is done, so is the slot. -/
def State.partDone (s : State) (k pair : Nat) (results : List (Nat × Nat)) : State :=
  match s.salvo k with
  | none => s
  | some x =>
    let idx := s.pairIndices k pair
    let res := results.foldl (fun l e => kput l ((idx[e.1]?).getD e.1) e.2) x.results
    let parts := x.parts.map (fun p => if p.1 = pair then (pair, 2) else p)
    let s1 := (s.modSalvo k (fun x => { x with parts := parts, results := res })).showResults k res
    let s2 := if res.any (fun e => e.2 / 65536 % 256 = 2) then s1.setBit (O.salvo_flags k) 2 true else s1
    let s3 := if res.any (fun e => e.2 / 65536 % 256 = 5) then s2.setBit (O.salvo_flags k) 3 true else s2
    if parts.all (fun p => p.2 = 2) then
      { (s3.setN (O.salvo_state k) 5) with salvos := { s3.salvos with own := s3.salvos.own.filter (fun y => y.slot ≠ k) } }
    else s3

/-- A part that is poured and whose takes have all switched or been superseded is done (R143); the primary of the member reports
it. -/
def State.reviewDone (s : State) (p : Part) : State :=
  if p.state = 2 ∧ p.takes.isEmpty then
    let s1 := s.removePart p.coord p.slot
    if p.coord = s.chipId ∨ (s.standby ∧ pairOf p.coord = s.pairId) then s1.partDone p.slot s.pairId p.results
    else if s.standby then s1
    else s1.emit (.notice p.coord (.partDone p.coord p.slot p.results))
  else s

/-- The parts that are done report. -/
def State.reviewDones (s : State) : State := s.salvos.parts.foldl (fun st p => st.reviewDone p) s

/-- A member learns of the pour (R143): its takes arm and switch as TIMED takes with T = E. A salvo on command gets its
E with the pour, on the salvo's time base `tb`. -/
def State.pourPart (s : State) (coord slot e tb : Nat) : State :=
  match s.part coord slot with
  | none => s
  | some p =>
    if p.state = 2 then s
    else
      let inst (r : TakeRec) : Option Nat := match r.inst with
        | some i => some i
        | none =>
          let b := s.beat r.dst
          some (b.atOrAfter ((e : Int) + s.tbDiff b.tb tb).toNat)
      let s1 := s.modPart coord slot (fun p => { p with state := 2 })
      let s2 := p.takes.foldl (fun st n => st.modTake n (fun r => { r with inst := inst r })) s1
      p.takes.foldl (fun st n => match st.takeOf n with
        | some r => if r.state = 3 then st.pathReady n else st
        | none => st) s2

/-- The pour stands: the members are told, and the coordinator's own part is poured (R142, R143). `mirrored` tells that
the twin holds the decision. The whole salvo is kept for 60 s after E (R147). -/
def State.finishPour (s : State) (k : Nat) (mirrored : Bool) : State :=
  match s.salvo k with
  | none => s
  | some x =>
    let at' := s.tbNow x.tb
    let e := if x.onCommand ∧ x.decided.isNone then at' + 1000000 * x.lead else x.e
    let s1 := s.modSalvo k (fun x => { x with decided := none, e := e })
    let s2 := (((s1.setN (O.salvo_state k) 4).setN (O.salvo_pour_instant k) at').setN (O.salvo_execution_time k) e).count
      O.salvos_poured
    let s3 := if mirrored then s2 else s2.setBit (O.salvo_flags k) 1 true
    let s4 : State := { s3 with salvos := { s3.salvos with kept := kput s3.salvos.kept k (s.now + (e - at') + 60 * nsPerSec) } }
    let s5 := (x.parts.filter (fun p => p.1 ≠ s.pairId)).foldl (fun st p =>
      st.emit (.notice (st.servingChip p.1) (.pour p.1 k e x.tb))) s4
    s5.pourPart s.chipId k e x.tb

/-- The pour is decided (R142): with a twin whose mirror is current it waits for the twin's acknowledgement. -/
def State.pourSalvo (s : State) (k : Nat) : State :=
  match s.salvo k with
  | none => s
  | some x =>
    let e := if x.onCommand then s.tbNow x.tb + 1000000 * x.lead else x.e
    if s.mirroring then (s.modSalvo k (fun x => { x with decided := some s.now, e := e })).mirror (.pour k x.gen e x.tb)
    else s.finishPour k false

/-- The instant P of a salvo has come (R141): it pours, or is dropped because a part is not prepared. -/
def State.pourDue (s : State) (k : Nat) : State :=
  match s.salvo k with
  | none => s
  | some x =>
    if x.decided.isSome ∨ s.nat (O.salvo_state k) = 4 then s
    else if x.parts.all (fun p => p.2 ≠ 0) then s.pourSalvo k
    else s.dropSalvo k 3 []

/-- The entries of a pair as its part carries them: E on each destination's time base (R139). The time base of another
chip's destination is known to that chip alone, and gets E as it stands on the salvo's. -/
def State.partEntries (s : State) (k pair tb e : Nat) : List (TakeEntry × Nat) :=
  ((s.salvoEntries k).filter (fun x => idChip (s.normId x.dst) = pair)).map (fun x =>
    if e = 0 then (x, 0)
    else if pair = s.pairId then
      (x, ((e : Int) + s.tbDiff (s.beat ⟨essOf (idEss x.dst), idIdx x.dst⟩).tb tb).toNat)
    else (x, e))

/-- Another open salvo that is not poured holds a destination of the list (R138). -/
def State.listHeld (s : State) (k : Nat) : Bool :=
  let mine := (s.salvoEntries k).map (fun e => s.normId e.dst)
  (s.salvos.own.any (fun x => x.slot ≠ k ∧ s.nat (O.salvo_state x.slot) < 4 ∧
      (s.salvoEntries x.slot).any (fun e => mine.contains (s.normId e.dst)))) ||
    (s.salvos.parts.any (fun p => p.state < 2 ∧ p.entries.any (fun e => mine.contains (s.normId e.1.dst))))

/-- SALVO_PREPARE on a slot of this chip (R138, R139, R145): the code of the reply, and the machine after it. -/
def State.prepareSalvo (s : State) (k tb lead e : Nat) : Nat × State :=
  let l := if lead = 0 then s.nat O.salvos_pour_lead_default else lead
  let p := e - 1000000 * l
  if s.nat (O.salvo_state k) ≠ 1 then (C.range, s)
  else if 3 < tb then (C.range, s)
  else if l < 5 ∨ 60000 < l then (C.range, s)
  else if e ≠ 0 ∧ e < s.tbNow tb + 1000000 + 1000000 * l then (C.range, s)
  else if s.listHeld k then (C.busy, s)
  else
    let es := s.salvoEntries k
    let pairs := nub (es.map (fun x => idChip (s.normId x.dst)))
    let own := (es.filter (fun x => idChip (s.normId x.dst) = s.pairId)).length
    if 16 ≤ s.salvos.own.length ∨ (own ≠ 0 ∧ !s.partFits own) then (C.busy, s)
    else
      let gen := s.nat (O.salvo_generation k)
      let x : Salvo := ⟨k, gen, e = 0, if e = 0 then 0 else p, e, l, tb, s.now, pairs.map (fun q => (q, 0)), none, []⟩
      let s1 : State := { s with salvos := { s.salvos with own := s.salvos.own ++ [x] } }
      let s2 := ((((s1.setN (O.salvo_state k) 2).setN (O.salvo_time_base k) tb).setN (O.salvo_execution_time k) e).setN
        (O.salvo_pour_instant k) x.p).setN (O.salvo_pour_lead k) l
      let s3 := ((((s2.setB (O.salvo_members k) (pairs.flatMap (beBytes 2))).setN (O.salvo_refusal k) 0).setN
        (O.salvo_refusal_index k) 0).setN (O.salvo_drop_cause k) 0).setN (O.salvo_flags k) (b01 (e = 0))
      let s4 := (s3.setN (O.salvo_prepare_time k) 0).showResults k []
      let s5 := (pairs.filter (fun q => q ≠ s.pairId)).foldl (fun st q =>
        st.emit (.notice (st.servingChip q) (.part q k gen (s.partEntries k q tb e)))) s4
      (0, if own = 0 then s5 else s5.makePart s.chipId k gen (s.partEntries k s.pairId tb e))

/-- The slot and generation of a salvo field name a slot of this chip as it stands (R136). -/
def State.salvoNamed (s : State) (f : Nat) : Option Nat :=
  let k := f % 65536
  if 1 ≤ k ∧ k ≤ 256 ∧ s.nat (O.salvo_generation k) = f / 65536 then some k else none

/-- SALVO_POUR on a slot (R141, R142). While the twin's acknowledgement is awaited the salvo counts as poured. -/
def State.askPour (s : State) (k : Nat) : Nat × State :=
  match s.nat (O.salvo_state k), s.salvo k with
  | 4, _ => (0, s)
  | 2, _ => (C.busy, s)
  | 3, some x => if x.decided.isSome then (0, s) else (0, s.pourSalvo k)
  | _, _ => (C.range, s)

/-- SALVO_DROP on a slot (R144). -/
def State.askDrop (s : State) (k : Nat) : Nat × State :=
  match s.nat (O.salvo_state k), s.salvo k with
  | 1, _ => (0, s)
  | 2, _ => (0, s.dropSalvo k 1 [])
  | 3, some x => if x.decided.isSome then (C.tooLate, s) else (0, s.dropSalvo k 1 [])
  | 4, _ => (C.tooLate, s)
  | 5, _ => (C.tooLate, s)
  | _, _ => (C.range, s)

/-- A chip that takes part has been lost before the pour (R146): salvos of this chip with that member are dropped with
cause 4, and the parts of a coordinator that is lost with cause 5. -/
def State.memberLost (s : State) (pair : Nat) : State :=
  (s.salvos.own.filter (fun x => s.nat (O.salvo_state x.slot) < 4 && x.decided.isNone && x.parts.any (fun p => p.1 = pair))).foldl
    (fun st x => st.dropSalvo x.slot 4 []) s

/-- What a coordinator tells a member that asks (R148): 0 nothing yet, 1 poured, 2 dropped. -/
def State.salvoOutcome (s : State) (k gen : Nat) : Nat :=
  match s.salvo k with
  | some x => if x.gen ≠ gen then 2 else if s.nat (O.salvo_state k) = 4 then 1 else 0
  | none => if s.nat (O.salvo_generation k) = gen ∧ s.nat (O.salvo_state k) = 5 then 1 else 2

/-- After a step of a time base (R131, R138): a P on it that is less than 1 ms ahead is due at once, and so are the
takes whose instants are. -/
def State.afterStep (s : State) (tb : Nat) : State :=
  let s1 := (s.salvos.own.filter (fun x => x.tb = tb ∧ !x.onCommand ∧ x.p < s.tbNow tb + 1000000)).foldl
    (fun st x => st.pourDue x.slot) s
  (s1.sw.takes.filter (fun r => r.state = 3 ∧ (s1.beat r.dst).tb = tb)).foldl (fun st r => st.pathReady r.num) s1

/-! ## Completion of placements -/

/-- A task whose placement has been found: its bookings are made and what waited for it goes on (R126, R139, R173, R175). -/
def State.completePlaced (s : State) (t : Task) (p : Plan) : State :=
  match t with
  | .take n => s.completeTake n p
  | .part coord slot =>
    let s2 := s.completePart p
    match (s2.salvos.parts.find? (fun x => x.coord = coord ∧ x.slot = slot)).bind (fun x =>
      (x.takes.zip (List.range x.takes.length)).findSome? (fun e => match s2.takeOf e.1 with
        | some r => if r.pl.isNone ∧ (s2.routeHead r.src).isNone ∧ !s2.idHere r.src then some e.2 else none
        | none => none)) with
    | some i => ((s2.noteRefusal (C.busy, 12) none32).dropPart coord slot).reportPart coord slot C.busy i
    | none => s2.reviewParts
  | .reserve h i _ => s.completeReserve h i (.placed p)
  | .reoptimise => p.moves.foldl (fun st e => st.beginRepl e.1 e.2) (s.book p)
  | .replace d => match p.pls.head? with | some e => (s.book p).beginRepl d e.2 | none => s
  | .restore d => match p.pls.head? with | some e => (s.book p).beginRepl d e.2 | none => s

/-- The source of a destination's route. -/
def State.routeSrc (s : State) (d : Dst) : Nat := match s.route d with | some r => r.pl.src | none => none32

/-- A task whose placement has been refused (R126, R139, R152, R173, R176). -/
def State.completeRefused (s : State) (t : Task) (c d i : Nat) : State :=
  match t with
  | .take n => match s.takeOf n with | some r => s.refuseTake r (c, d) | none => s
  | .part coord slot =>
    let st := match (s.part coord slot).bind (fun p => p.entries[i]?) with
      | some e => s.noteRefused (c, d) (s.normId e.1.src) (s.normId e.1.dst)
      | none => s.noteRefusal (c, d) none32
    (st.dropPart coord slot).reportPart coord slot c i
  | .reserve h j _ => s.completeReserve h j (.refused c d i)
  | .reoptimise => s
  | .replace x => (s.noteRefused (c, d) (s.routeSrc x) (s.dstId x)).loseRoute x
  | .restore x => (s.noteRefused (c, d) (s.routeSrc x) (s.dstId x)).loseRoute x

/-- The task under way comes to its end; where stripes must move first, it waits for them (R152, R157). -/
def State.completeTask (s : State) (t : Task) (v : Verdict) : State :=
  match v with
  | .placed p => if p.moved.isEmpty then s.taskOver.completePlaced t p else s.taskOver.makeMoves t p.moved
  | .refused c d i => s.taskOver.completeRefused t c d i

end Sys2Proof.Machine
end

