-- ==== Sys2Proof/Machine/Stores.lean ====
section
/-! DEFINITION. Frames of sources, frame stores, playout, fabric and HBM errors (R83 to R88, R95 to R108, R116 to R119,
R183 to R196, R205, R264 to R269), with the commands of chapters 04 and 07 that are not messages or writes. -/

namespace Sys2Proof.Machine

/-! ## Marks of a destination's frame -/

/-- The marks of a video destination. -/
def State.mark (s : State) (d : Nat) : Nat := (kfind s.sw.marks d).getD 0

/-- The marks of a video destination set; 0 is not listed. -/
def State.setMark (s : State) (d v : Nat) : State :=
  { s with sw := { s.sw with marks := if v = 0 then kdel s.sw.marks d else kput s.sw.marks d v } }

/-- Some destination of a tile other than `d` has a line filled in its present frame. -/
def State.otherFills (s : State) (d : Nat) : Bool :=
  s.sw.marks.any (fun e => e.1 != d && Machine.bit e.2 0 && s.vdstTile e.1 == s.vdstTile d)

/-! ## What the lines of an output hold (R83, R187, R207 to R210, R216, R450) -/

/-- The lines on which a raster carries the payload ID, the EDH packet and the timecode (Table 8.3). -/
def insertLines (f : Nat) : List Nat × List Nat × List Nat :=
  if f = 0 then ([], [], [])
  else if linesOf f = 525 then ([13, 276], [9, 272], [14, 277])
  else if linesOf f = 625 then ([9, 322], [5, 318], [10, 323])
  else if linesOf f = 750 then ([10], [], [9])
  else ([10, 572], [], [9, 571])

/-- The groups that a mode de-embeds and embeds (R214 to R216). -/
def groupsOf (m groups : Nat) : Nat :=
  if m = 1 ∨ m = 0 then 0 else if m = 6 ∨ m = 8 then groups % 256 else groups % 16

/-- The audio groups that an output embeds (R216). -/
def State.sentGroups (s : State) (d : Nat) : Nat := groupsOf (s.txMode d) (s.natNow (O.sdi_audio_groups d))

/-- A line without picture: black and silence on an SDI output, and no packet on any other (R83). -/
def State.lateLine (s : State) (d : Nat) : LineOut :=
  if d < 1024 then ⟨.black, 0, false, .none, s.sentGroups d⟩ else ⟨.nothing, 0, false, .none, 0⟩

/-- The payload ID on a line, which the chip generates unless it is off (R209). -/
def State.ownPayloadId (s : State) (d line : Nat) : Nat :=
  b01 (s.natNow (O.sdi_payload_id_mode d) != 2 && (insertLines (s.natNow (O.dst_format d))).1.contains line)

/-- The EDH packet on a line of an SD output (R207). -/
def State.edhOn (s : State) (d line : Nat) : Bool :=
  s.flag (O.sdi_edh_insert d) && (insertLines (s.natNow (O.dst_format d))).2.1.contains line

/-- A line of an SDI output in safe state (Table 17.4): as a late line with the payload ID, or none. -/
def State.safeLine (s : State) (d line : Nat) : LineOut :=
  if s.nat (O.dst_safe_content d) = 1 then ⟨.nothing, 0, false, .none, 0⟩
  else { s.lateLine d with payloadId := s.ownPayloadId d line }

/-- A line of an SDI output that carries no route (R208): black with payload ID and silence, or none. -/
def State.unroutedLine (s : State) (d line : Nat) : LineOut :=
  if s.nat (O.sdi_unrouted_content d) = 1 then ⟨.nothing, 0, false, .none, 0⟩
  else { s.lateLine d with payloadId := s.ownPayloadId d line, edh := s.edhOn d line }

/-- A line of an SDI output without a route, or of one in safe state, leaves once the chip is at Ready. -/
def State.plainLine (s : State) (d line : Nat) (l : LineOut) : State :=
  if d < 1024 ∧ s.ready ∧ s.laneExists d ∧ s.isSdi d then s.emit (.line d line l) else s

/-- The frames since midnight on the output's time base, with its offset (R210, log entry 75). -/
def State.codeFrames (s : State) (d : Nat) : Nat :=
  let r := frameRate (s.natNow (O.dst_format d))
  let tod : Int := ((s.tbNow (s.nat (O.dst_time_base d)) : Nat) : Int) + s.intNow (O.sdi_tc_offset d) * nsPerSec
  (tod % ((86400 * nsPerSec : Nat) : Int)).toNat * r.1 / (nsPerSec * r.2)

/-- The timecode on a line (R210), with `has` that the source's packets are there to be sent on. -/
def State.codeOn (s : State) (d line : Nat) (has : Bool) : LineCode :=
  let f := s.natNow (O.dst_format d)
  if !(insertLines f).2.2.contains line then .none
  else match s.natNow (O.sdi_tc_mode d) with
    | 0 => if has then .source else .none
    | 1 => .generated (s.codeFrames d) (pulled f && s.natNow (O.sdi_tc_drop d) == 1)
    | _ => .none

/-- The source of a placement gives nothing (R107); only a source of this chip is judged here. -/
def State.sourceSilent (s : State) (pl : Placement) : Bool := s.idHere pl.src && !s.vsrcPresent (idIdx pl.src)

/-- The source of a placement has a payload ID that agrees with its format: only an SDI input has one (R209). -/
def State.passesId (s : State) (pl : Placement) : Bool :=
  let x := idIdx pl.src
  s.idHere pl.src && x < 1024 && s.nat (O.sdi_rx_payload_id x) != 0 && !s.bit (O.sdi_status x) 3

/-- A line that a route gives (R83, R187, R207, R209, R210): a store whose source is absent repeats its last frame, or gives
black where loss_action says so. -/
def State.dataLine (s : State) (d line : Nat) (pl : Placement) : LineOut :=
  let silent := s.sourceSilent pl
  let c : LineContent := if silent ∧ pl.store.isSome ∧ s.nat O.fsync_loss_action = 1 then .black else .data
  if 1024 ≤ d then ⟨c, 0, false, .none, 0⟩
  else
    let own := s.ownPayloadId d line
    ⟨c, if own = 1 ∧ s.natNow (O.sdi_payload_id_mode d) = 1 ∧ s.passesId pl then 2 else own, s.edhOn d line,
      s.codeOn d line (!silent), s.sentGroups d⟩

/-- A line or packet of a destination is filled, or not sent (R83): counted, and the first one raises EDGE_LATE. -/
def State.fillLine (s : State) (d line : Nat) : State :=
  ((((s.count (O.dst_late_lines d)).setMark d (withBit (s.mark d) 0 true)).follow (F.edgeLate (s.vdstTile d))
    (s.dstId ⟨.video, d⟩) line true)).emit (.line d line (s.lateLine d))

/-- The path of a placement crosses a unit that is out of service (R176). -/
def State.broken (s : State) (pl : Placement) : Bool :=
  pl.stripes.any (fun x => s.nat (O.plane_state (1 + x.plane)) != 0) ||
    (match pl.store.bind s.storeOf with | some x => !s.stackUp x.stack | none => false) ||
    pl.lanes.any (fun l => !s.linkCarries l.1)

/-- The detected format or sampling of a placed source differs from its destination's (R105, R201). -/
def State.formatClash (s : State) (d : Nat) (pl : Placement) : Bool :=
  let x := idIdx pl.src
  d < 3072 && s.idHere pl.src && x < 3072 && s.nat (O.src_format_detected x) != 0 &&
    (s.nat (O.src_format_detected x) != s.nat (O.dst_format d) ||
      (match s.vsrcSampling x, s.vdstSampling d with | some a, some b => a != b | _, _ => false))

/-- SOURCE_FORMAT of a tile follows the routes whose sources carry another format (R105). -/
def State.reviewFormat (s : State) (d : Nat) : State :=
  match s.route ⟨.video, d⟩ with
  | none => s
  | some r =>
    let others := s.sw.routes.any (fun q => q.dst.ess = .video ∧ q.dst.idx ≠ d ∧ s.vdstTile q.dst.idx = s.vdstTile d ∧
      s.formatClash q.dst.idx q.pl)
    s.followShared (F.sourceFormat (s.vdstTile d)) r.pl.dst (s.nat (O.src_format_detected (idIdx r.pl.src))) (s.formatClash d r.pl) others

/-- A time base has stepped, and no alignment point of a format with an offset has passed on its new reading (R359). -/
def State.realigning (s : State) (tb f : Nat) (off : Int) : Bool :=
  match s.tbs[tb]? with
  | none => false
  | some b =>
    b.stepped != 0 &&
      decide ((alignAt f (frameIndex f ((s.tbNow tb : Int) - off).toNat) : Int) + off < b.stepped)

/-! ## Frames of a source (R106, R107) -/

/-- The timing record of a source. -/
def State.srcTiming (s : State) (x : Nat) : Option SrcTiming := s.sw.timing.find? (fun r => r.s = x)

/-- The largest less the smallest of a list of offsets. -/
def spread : List (Nat × Int) → Int
  | [] => 0
  | e :: r => (r.foldl (fun a x => max a x.2) e.2) - (r.foldl (fun a x => min a x.2) e.2)

/-- The offset of an arriving frame is measured and the settled state judged (R106, R107): settled after a second of
presence with every offset of that second within 500 ns. -/
def State.measure (s : State) (x : Nat) : State :=
  let tb := s.nat (O.src_measure_tb x)
  let off := alignOffset (s.vsrcFormat x) (s.tbNow tb)
  let old : SrcTiming := match s.srcTiming x with | some r => r | none => ⟨x, s.now, s.now, []⟩
  let offs := old.offs.filter (fun e => s.now ≤ e.1 + nsPerSec) ++ [(s.now, off)]
  let settled := old.since + nsPerSec ≤ s.now ∧ spread offs ≤ 500
  let s1 : State := { s with sw := { s.sw with
    timing := s.sw.timing.filter (fun r => r.s ≠ x) ++ [⟨x, old.since, s.now, offs⟩] } }
  (s1.setN (O.src_timing_state x) (if settled then 2 else 1)).setI (O.src_ingress_offset x) off

/-! ## Stores (R180 to R187, R193) -/

/-- A store changed. -/
def State.modStore (s : State) (i : Nat) (f : StoreRec → StoreRec) : State :=
  { s with sw := { s.sw with stores := s.sw.stores.map (fun x => if x.i = i then f x else x) } }

/-- The stores that a source writes take its frame start: the frame that they were writing is complete, and the next one
begins. `whole` is false for a frame of a group whose links are skewed (R205). A store of another format than
the source's discards its contents (R187). -/
def State.storeFrame (s : State) (src fmt count : Nat) (whole : Bool) : State :=
  { s with sw := { s.sw with stores := s.sw.stores.map (fun x =>
    if x.src ≠ src then x
    else if fmt ≠ 0 ∧ x.fmt ≠ fmt then { x with frames := [], writing := none, state := if x.state = 2 then 1 else x.state }
    else
      let done' := match x.writing with | some w => if whole then [w] else [] | none => []
      { x with
        frames := (done' ++ x.frames).take (x.depth - 1)
        written := x.written + done'.length
        writing := some (count, s.now) }) } }

/-- A source that has ceased writes no frame (R187). -/
def State.stopStores (s : State) (src : Nat) : State :=
  { s with sw := { s.sw with stores := s.sw.stores.map (fun x => if x.src = src then { x with writing := none } else x) } }

/-- Stripes of stores that move to other planes switch at the first frame start of their source, and leave their old
plane at the next (R175). -/
def State.moveOn (s : State) (src : Nat) : State :=
  let mine (m : Nat × Stripe × Bool) : Bool := m.2.1.feed == src
  let gone := s.sw.moving.filter (fun m => mine m && m.2.2)
  { s with sw := { s.sw with
      moving := (s.sw.moving.filter (fun m => !(mine m && m.2.2))).map (fun m => if mine m then (m.1, m.2.1, true) else m),
      stores := s.sw.stores.map (fun x => { x with stripes := x.stripes.filter (fun y => !(gone.any (fun m => m.1 = x.i ∧ m.2.1 = y))) }) } }

/-! ## Direct routes out of their window (R108) -/

/-- The direct routes of a source whose Δ has left the direct window are placed again through frame sync. -/
def State.watchDelta (s : State) (x : Nat) : State :=
  (s.sw.routes.filter (fun r => r.dst.ess = .video && r.dst.idx < 3072 && r.pl.path == 1 && r.pl.src == s.srcId 0 x &&
      !r.lost && !inWindow (s.coDelta x r.dst.idx (s.playoutDelay r.dst.idx r.pl.hops r.pl.delay)))).foldl
    (fun st r => st.askReplace r.dst) s

/-! ## Scalers at a frame start of their source (R104, R264 to R269) -/

/-- The scalers that carry a source, ascending. -/
def State.scalersOf (s : State) (src : Nat) : List Nat :=
  sortBy (fun a b => a < b) ((s.sw.routes.filter (fun r => r.dst.ess = .video && 3072 ≤ r.dst.idx && r.pl.src == src)).map
    (fun r => r.dst.idx - 3072))

/-- A scaler's crop lies wholly within its source's active picture (R264). -/
def State.cropFits (s : State) (n fmt : Nat) : Bool :=
  let (w, h) := rasterOf fmt
  s.natNow (O.scaler_crop_x n) + (if s.natNow (O.scaler_crop_width n) = 0 then w else s.natNow (O.scaler_crop_width n)) ≤ w &&
    s.natNow (O.scaler_crop_y n) + (if s.natNow (O.scaler_crop_height n) = 0 then h else s.natNow (O.scaler_crop_height n)) ≤ h

/-- A scaler waits for its allocation (R267): its own need exceeds what is booked. -/
def State.scalerShort (s : State) (n : Nat) : Bool :=
  match s.scalerSource n with | some x => s.allocOf n < s.scalerNeed n (s.vsrcFormat x) | none => false

/-- LINEBUF_FALLBACK of a compositor's tile follows its waiting scalers (R267). -/
def State.reviewLinebuf (s : State) (n : Nat) : State :=
  let others := (List.range 64).any (fun i => 64 * (n / 64) + i ≠ n ∧ s.scalerShort (64 * (n / 64) + i))
  s.followShared (F.linebufFallback (n / 64)) n (s.allocOf n) (s.scalerShort n) others

/-- The record of a scaler in use. -/
def State.scalerRec (s : State) (n : Nat) : ScalerRec :=
  match s.comp.scalers.find? (fun r => r.n = n) with | some r => r | none => ⟨n, false, false, 0, 0, false⟩

/-- The record of a scaler set. -/
def State.putScaler (s : State) (r : ScalerRec) : State :=
  { s with comp := { s.comp with scalers := s.comp.scalers.filter (fun x => x.n ≠ r.n) ++ [r] } }

/-- A scaler that can write nothing of its source: it waits for its allocation, or its crop does not fit (R264, R267). -/
def State.scalerFell (s : State) (n : Nat) : Bool :=
  match s.scalerSource n with
  | some x => s.scalerShort n || !s.cropFits n (s.vsrcFormat x)
  | none => false

/-- Entry into fallback is counted (R267), and LINEBUF_FALLBACK follows. -/
def State.reviewScaler (s : State) (n : Nat) : State :=
  let fell := s.scalerFell n
  let r := s.scalerRec n
  let s1 := if r.fell = fell then s else s.putScaler { r with fell := fell }
  (if fell ∧ !r.fell then s1.count (O.scaler_fallbacks n) else s1).reviewLinebuf n

/-- A waiting scaler's allocation grows to its need where the pool allows (R267). -/
def State.growScaler (s : State) (n : Nat) : State :=
  if s.scalerShort n then
    match s.scalerSource n with
    | some x =>
      let al := s.allocsFor n (s.scalerNeed n (s.vsrcFormat x))
      if s.poolAfter (n / 64) al ≤ poolPixels then
        (al.foldl (fun st e => st.setN (O.scaler_allocation e.1) e.2) s).reviewScaler n
      else s.reviewScaler n
    | none => s
  else s.reviewScaler n

/-- A scaler writes this frame, or lets it pass because its partner holds the line store or waits for it (R269). A
standby follows the turns of its primary (R421). -/
def State.scalerTurn (s : State) (n : Nat) : State :=
  let r := s.scalerRec n
  if s.scalerFell n then s.putScaler { r with writing := false }
  else
    match s.pairWith n with
    | none => s.putScaler { r with writing := true, wroteAt := s.now }
    | some m =>
      let q := s.scalerRec m
      let period := match s.scalerSource m with | some x => framePeriod (s.vsrcFormat x) | none => 0
      let busy := q.writing ∧ s.now < q.wroteAt + period
      if busy ∨ (q.passed ∧ r.wroteAt ≠ 0 ∧ q.wroteAt ≤ r.wroteAt) then
        (s.putScaler { r with writing := false, passed := true }).count (O.scaler_frames_passed n)
      else (s.putScaler { r with writing := true, passed := false, wroteAt := s.now }).mirror (.turn n)

/-- The settings of a scaler take effect at its source's frame start (R264). -/
def scalerKey (n : Nat) (k : Key) : Bool := k.fam == 0x3A00 && k.inst == n && k.sub ≤ 6

/-- What a frame start does to one scaler that carries the source. -/
def State.scalerFrame (s : State) (n : Nat) : State :=
  ((s.takeEffect (scalerKey n)).growScaler n).scalerTurn n

/-- The armed takes to scalers of a source switch (R104). The instant is reported on the source's measuring time base. -/
def State.scalerTakes (s : State) (src tb : Nat) : State :=
  (s.sw.takes.filter (fun r => r.state = 4 && r.dst.ess = .video && 3072 ≤ r.dst.idx && r.src == src)).foldl
    (fun st r => st.switchOne r (st.tbNow tb)) s

/-! ## A frame start as a whole (R106) -/

/-- The skew of a quad-link input's links (R205). -/
def State.noteSkew (s : State) (p skew : Nat) : State :=
  if p < 1024 ∧ s.portKind p = 1 then
    let bad (q : Nat) : Bool := s.portKind q == 1 && s.nat (O.sdi_skew_limit q) < s.nat (O.sdi_link_skew q)
    let s1 := s.setN (O.sdi_link_skew p) skew
    let others := (List.range 64).any (fun i => 64 * (p / 64) + i ≠ p ∧ bad (64 * (p / 64) + i))
    s1.followShared (F.linkSkew (p / 64)) p skew (s.nat (O.sdi_skew_limit p) < skew) others
  else s

/-- The source can deliver frames at all: a head's only while it is a programme head (R256). -/
def State.vsrcRuns (s : State) (x : Nat) : Bool := !(3072 ≤ x && x < 3136) || s.nat (O.head_class (x - 3072)) == 1

/-- A frame of video source `x` starts (R106): its offset is measured, its stores take it, old paths are released, takes
to scalers switch, and routes that have left the direct window are placed again. -/
def State.frameStart (s : State) (x skew : Nat) : State :=
  let src := s.srcId 0 x
  let s1 := s.count (O.src_frame_count x)
  let s2 := if x < 3072 then (s1.measure x).noteSkew x skew else s1
  let whole := !(x < 1024 && s2.portKind x == 1 && s2.nat (O.sdi_skew_limit x) < skew)
  let s3 := (s2.storeFrame src (s2.vsrcFormat x) (s2.nat (O.src_frame_count x)) whole).moveOn src
  let s4 := s3.releaseOld (fun r => r.old.any (fun p => p.src = src))
  let s5 := s4.scalerTakes src (s4.vsrcOffset x).2
  let s6 := (s5.scalersOf src).foldl (fun st n => st.scalerFrame n) s5
  let s7 := if 3200 ≤ x then
      (match s6.sw.stores.find? (fun y => y.src = src ∧ y.purpose = 1) with
       | some y => if y.frames.length + 1 < y.depth then s6.count (O.src_underruns x) else s6
       | none => s6)
    else s6
  s7.watchDelta x

/-! ## Read instants (R116 to R118, R184 to R192) -/

/-- The frame that a store gives at a read instant (R184): `last` is 0 where the destination has read none. -/
def chooseFrame (frames : List (Nat × Nat)) (r guard hyst last : Nat) : Option Nat :=
  match minBy (fun f => 4294967296 - f.1) (frames.filter (fun f => f.2 + guard ≤ r)) with
  | none => if last = 0 then none else some last
  | some c =>
    if last = 0 then some c.1
    else if c.1 ≤ last then some last
    else if c.1 = last + 1 then some c.1
    else if c.1 = last + 2 ∧ r < c.2 + guard + hyst then some (last + 1)
    else some c.1

/-- Some following audio channel of a destination carries non-PCM data (R189). -/
def State.nonPcmFollower (s : State) (d : Nat) : Bool :=
  s.sw.routes.any (fun q => q.follows && q.dst.ess = .audio && s.leadOf q.dst == some d && s.idHere q.pl.src &&
    s.nonPcm (idIdx q.pl.src))

/-- The read of a destination at its read instant, from the store of its route (R184). A frame to be read that the store
does not hold is an underrun while its source delivers (R116); the frame given is then the last complete one
(R117, R118). -/
def State.readStore (s : State) (d : Nat) (rt : Route) (x : StoreRec) : State :=
  let rr := s.readRec d
  let tb := s.nat (O.dst_time_base d)
  let frames := x.frames ++ x.writing.toList
  let own := chooseFrame frames s.now (s.nat O.fsync_guard) (s.nat O.fsync_hysteresis) rr.last
  let chosen := match rr.told with
    | some f => if s.standby ∧ x.frames.any (fun e => e.1 = f) then some f else own
    | none => own
  match chosen with
  | none => s
  | some ch =>
    let n := s.natNow (O.fsd_programme_delay (1 + d))
    let rep : Bool := rr.last ≠ 0 ∧ ch = rr.last
    let drop := if rr.last = 0 then 0 else ch - rr.last - 1
    let rd := ch - (n - 1)
    let held := frames.find? (fun e => e.1 = rd)
    let under : Bool := held.isNone && s.absentSource rt.pl == false
    let s1 := (s.putRead ⟨d, ch, rr.hold - 1, none⟩).mirror (.readDecision d ch)
    let s2 := if rep then s1.count (O.fsd_repeats (1 + d)) else s1
    let s3 := if drop = 0 then s2 else s2.count (O.fsd_drops (1 + d)) drop
    let s4 := if rep ∨ drop ≠ 0 then s3.setN (O.fsd_last_adjust (1 + d)) (s.tbNow tb) else s3
    let s5 := if s.nonPcmFollower d then
        s4.count (O.fsd_data_adjusts (1 + d)) (if rep then 1 else if pulled x.fmt then s.freeNat 1 % 2 else 0)
      else s4
    let s6 := s5.setMark d (withBit (s.mark d) 2 under)
    let s7 := if under then
        (s6.count (O.dst_underruns d)).strike (F.storeUnderrun (s.vdstTile d)) rt.pl.dst rd
      else s6
    match held with
    | some h => s7.setN (O.fsd_latency (1 + d)) ((s.now - h.2) + s.effectiveDelay d + s.freeNat 2 % 1401)
    | none => s7

/-- The read instant of a video destination (R184): only a route through a store that has been primed reads one. -/
def State.readInstant (s : State) (d : Nat) : State :=
  match s.route ⟨.video, d⟩ with
  | none => s
  | some rt =>
    match rt.pl.store.bind s.storeOf with
    | none => s
    | some x => if (rt.pl.path = 2 ∨ rt.pl.path = 3) ∧ x.state ≠ 1 then s.readStore d rt x else s

/-! ## Recirculation (R100, R101, R193) -/

/-- A write of a recirculated source's destination (R193): the code, and the machine after it. -/
def State.writeRecirc (s : State) (x i : Nat) : Nat × State :=
  let src := s.srcId 0 x
  let bare : State := { s with sw := { s.sw with stores := s.sw.stores.filter (fun y => ¬(y.purpose = 1 ∧ y.src = src)) } }
  if i = none32 then (0, bare.setN (O.src_recirc_of x) i)
  else
    match s.judgeDst i with
    | .error c => (c, s)
    | .ok d =>
      if d.ess ≠ .video ∨ 3072 ≤ d.idx then (if d.ess ≠ .video then C.type else C.range, s)
      else if (s.route d).any (fun r => idIdx r.pl.src = x ∨ s.reaches 16 (idIdx r.pl.src) x) then (C.range, s)
      else
        let fmt := s.nat (O.dst_format d.idx)
        let smp := (s.vdstSampling d.idx).getD 0
        let tile := s.vdstTile d.idx
        let depth := s.nat (O.src_recirc_delay x) + 1
        match bare.freeStore [], bare.bookBeside (if s.isH then 0 else tile / 8) (2 * streamMbps fmt smp) (slotBytes fmt smp * depth) with
        | none, _ => (C.noPath, s)
        | _, .error r => (r.1, s)
        | some n, .ok k =>
          (0, ({ bare with sw := { bare.sw with stores := bare.sw.stores ++
              [⟨n, 1, 1, src, fmt, smp, k, depth, [], 0, none, tile, tile, [], none⟩] } } : State).setN (O.src_recirc_of x) (s.normId i))

/-- A write of a recirculated source's delay, which its store follows (R193). -/
def State.writeRecircDelay (s : State) (x v : Nat) : Nat × State :=
  let s1 := s.setN (O.src_recirc_delay x) v
  if s.nat (O.src_recirc_of x) = none32 then (0, s1)
  else
    let r := s1.writeRecirc x (s.nat (O.src_recirc_of x))
    if r.1 = 0 then r else (r.1, s)

/-! ## Hints and re-optimisation (R170, R171) -/

/-- A hint is enabled or disabled (R170). -/
def State.writeHint (s : State) (h : Nat) (on : Bool) : Nat × State :=
  let subj := s.normId (s.nat (O.hint_subject h))
  let kind := s.nat (O.hint_kind h)
  if on ∧ s.nat (O.hint_action h) = 0 ∧ (s.hints kind [subj]).any (fun g =>
      g ≠ h ∧ s.nat (O.hint_action g) = 0 ∧ s.nat (O.hint_value g) ≠ s.nat (O.hint_value h)) then (C.busy, s)
  else
    let s1 := s.setF (O.hint_enable h) on
    (0, if on then s1 else s1.setN (O.hint_state h) 0)

/-- A re-optimisation is queued (R167, R171). -/
def State.askReoptimise (s : State) : Nat × State :=
  if 256 ≤ s.queued then (C.busy, s) else (0, s.enqueue .reoptimise)

/-! ## Units that fail (R98, R176, R196, R456) -/

/-- The unit field of a fault that excludes a unit (R456). -/
def excludedUnit (kind unit : Nat) : Nat := kind * 0x10000000 + unit

/-- A plane is excluded: the routes that cross it are restored (R176, R456). -/
def State.excludePlane (s : State) (p : Nat) : State :=
  (s.exclude 1 p).failRoutes (fun pl => pl.stripes.any (fun x => x.plane = p))

/-- A stack is excluded: its stores lose their contents, and what read them is restored elsewhere (R176, R196). -/
def State.excludeStack (s : State) (k : Nat) : State :=
  let s1 := s.exclude 0 k
  let hit := (s1.sw.stores.filter (fun x => x.stack = k)).map (fun x => x.i)
  let s2 : State := { s1 with sw := { s1.sw with stores := s1.sw.stores.map (fun x =>
    if x.stack = k then { x with frames := [], writing := none, state := 1 } else x) } }
  let s3 := s2.failRoutes (fun pl => match pl.store with | some i => hit.contains i | none => false)
  ((s3.sw.stores.filter (fun x => x.stack = k ∧ x.purpose = 1)).map (fun x => idIdx x.src)).foldl
    (fun st x => (st.writeRecirc x (st.nat (O.src_recirc_of x))).2) s3

/-- A discarded cell on a plane counts towards its limit of an hour (Table 17.2). -/
def State.noteDiscard (s : State) (p : Nat) : State :=
  let l := s.sw.discards.filter (fun e => s.now < e.2 + 3600 * nsPerSec) ++ [(p, s.now)]
  let s1 : State := { s with sw := { s.sw with discards := l } }
  if s.nat O.fault_plane_discard_limit < (l.filter (fun e => e.1 = p)).length ∧ !s.exclusions.contains (1, p) then
    (s1.strike F.planeExcluded (excludedUnit 1 p) (l.filter (fun e => e.1 = p)).length).excludePlane p
  else s1

/-- A codeword of a cell as read at a plane input or egress stage (R98). -/
def State.cellWord (s : State) (plane outTile d : Nat) (kind3 : Bool) (word : Nat) : State :=
  if kind3 ∨ decodeWord word = .uncorrectable then
    let s1 := (s.strike (F.fabricDiscard outTile) plane d).noteDiscard plane
    if d < 3072 then s1.fillLine d 0 else s1
  else if decodeWord word = .good then s
  else s.strike (F.fabricCorrected outTile) plane d

/-- A word of a stack as read (R195, R196). -/
def State.hbmWord (s : State) (k addr use d word : Nat) : State :=
  match decodeWord word with
  | .good => s
  | .corrected _ => (s.count (O.hbm_corrected k)).strike F.hbmCorrected k addr
  | .uncorrectable =>
    let first := s.nat (O.hbm_uncorrected k) = 0
    let s1 := (s.count (O.hbm_uncorrected k)).strike F.hbmUncorrected k addr
    let s2 := if first then s1.setN (O.hbm_first_uncorrected k) addr else s1
    let l := s2.sw.hbmErrs.filter (fun e => s.now < e.2 + 3600 * nsPerSec) ++ [(k, s.now)]
    let s3 : State := { s2 with sw := { s2.sw with hbmErrs := l } }
    let s4 := if use = 0 ∧ d < 3072 then s3.fillLine d 0 else s3
    let n := (l.filter (fun e => e.1 = k)).length
    if s.nat (O.hbm_uncorrected_limit k) < n ∧ !s.exclusions.contains (0, k) then
      (s4.strike F.hbmStackFail (excludedUnit 0 k) n).excludeStack k
    else s4

/-- A unit that feeds a video destination is under block reset (R444): its lane, its port's services, its tile's packet engine,
or the compositor of the head that it shows. -/
def State.outputResets (s : State) (d : Nat) (pl : Placement) : Bool :=
  (if d < 1024 then s.underReset (.sdi d) || (s.portLanes d).any (fun l => s.underReset (.lane l))
    else d < 3072 && s.underReset (.packets (s.vdstTile d))) ||
  (let x := idIdx pl.src; 3072 ≤ x && x < 3136 && s.idHere pl.src && s.underReset (.compositor ((x - 3072) / 4)))

/-- Pass mode of the payload ID (R209): where the source has none, or one that contradicts, a generated one is sent in its
place and counted. Only an SDI input has a payload ID. -/
def State.substitute (s : State) (d : Nat) (pl : Placement) : State :=
  if d < 1024 ∧ s.natNow (O.sdi_payload_id_mode d) = 1 ∧ !s.passesId pl then s.count (O.sdi_payload_substitutions d) else s

end Sys2Proof.Machine
end

