-- ==== Sys2Proof/Machine/SdiPorts.lean ====
section
/-! DEFINITION. Serial digital video ports (R199 to R220): detection, loss of signal, checks, ancillary filters and slots,
and the writes that an output's mode depends on. -/

namespace Sys2Proof.Machine

/-! ## Output modes and delay limits (R87, R200) -/

/-- The mode of a single-lane or quad-link output with the latest accepted settings; 0 where no row of Table 8.1 fits. -/
def State.modeAfter (s : State) (p : Nat) : Nat := s.txMode p

/-- A port's settings have a row of Table 8.1, and D stays within the limit of its rate (R87, R200). -/
def State.outputOk (s : State) (d : Nat) : Bool :=
  if d < 1024 then
    !s.isSdi d || (s.modeAfter d != 0 &&
      s.nat (O.dst_base_delay d) + (match s.route ⟨.video, d⟩ with
        | some r => r.pl.hops * s.nat (O.dst_hop_allowance d) + r.pl.delay | none => 0) ≤ delayLimit (s.vdstRate d))
  else
    s.nat (O.dst_base_delay d) + (match s.route ⟨.video, d⟩ with
      | some r => r.pl.hops * s.nat (O.dst_hop_allowance d) + r.pl.delay | none => 0) ≤ delayLimit (s.vdstRate d)

/-- A write that must leave an output with a row of Table 8.1 and within its delay limit. -/
def State.keepOutput (s s' : State) (d : Nat) : Nat × State := if s'.outputOk d then (0, s') else (C.range, s)

/-- Writes of an SDI port's services (R200). -/
def State.writeSdi (s : State) (k : Key) (v : Val) : Option (Nat × State) :=
  let p := k.inst
  match k.sub with
  | 0x0A =>
    if v.int = 1 ∧ !modeHolds 4 (s.nat (O.dst_format p)) (s.nat (O.sdi_tx_sampling p)) then some (C.range, s)
    else some (s.keepOutput (s.set k v) p)
  | 0x0C => some (s.keepOutput (s.set k v) p)
  | 0x0D => some (s.keepOutput (s.set k v) p)
  | _ => none

/-- Writes of filters and slots: a port names an SDI port of this part or none (R14, R220). -/
def State.writeAnc (s : State) (k : Key) (v : Val) : Option (Nat × State) :=
  if k.inst < 4096 ∧ k.sub = 0 then
    let p := v.int.toNat
    if p ≠ none16 ∧ (!s.laneExists p ∨ s.isMember p) then some (C.range, s) else some (0, s.set k v)
  else if k.inst < 2048 ∧ k.sub = 6 then
    if v.int < s.nat (O.ancx_line_first k.inst) then some (C.range, s) else none
  else if k.inst < 2048 ∧ k.sub = 5 then
    if (s.nat (O.ancx_line_last k.inst) : Int) < v.int then some (C.range, s) else none
  else none

/-! ## A receiver's lock (R377, R384) -/

/-- A lane's receiver has locked: it adapts, and holds or goes on by its equaliser mode (Table 14.2). The spec does not
state what the loop adapts to: code and taps are free values, taps 2 to 15 within the limit (R378). -/
def State.laneLocked (s : State) (l : Nat) : State :=
  let s1 := s.setN (O.lane_rx_lock l) 1
  let m := s.nat (O.eq_eq_mode l)
  if 2 ≤ m then s1
  else
    let lim : Int := s.nat (O.eq_tap_limit l)
    let tap (i : Nat) : Int := let v := signedOf 8 (Config.free s.free (100 + i) % 256); if i = 0 then v else max (-lim) (min lim v)
    let on := s.flag (O.eq_dfe_enable l)
    let taps := if on then (List.range 15).flatMap (fun i => beBytes 1 (twos 8 (tap i))) else zeros 15
    ((s1.setN (O.eq_ctle_code l) (s.freeNat 99 % 32)).setB (O.eq_dfe_taps l) taps).setN (O.eq_adapt_state l) (if m = 0 then 2 else 4)

/-! ## Detection (R203, R204) -/

/-- The rates of a mode, in kb/s. -/
def ratesOf (m : Nat) : List Nat := nub [modeRate m false, modeRate m true]

/-- The rates that an input searches (R203). -/
def State.searched (s : State) (p : Nat) : List Nat :=
  let m := s.nat (O.sdi_rx_mode_expected p)
  if m = 0 then nub ((List.range 9).flatMap (fun m => if m = 0 then [] else ratesOf m)) else ratesOf m

/-- The detected format (R204): by the payload ID where there is one that agrees with the raster, else the expected code
of the raster's two, else the interlaced one. -/
def State.detectFormat (s : State) (p : Nat) (det : SdiDetect) : Nat :=
  let e := s.nat (O.src_format_expected p)
  if det.pid.isSome ∧ !det.pidContradicts then (if det.pidPsf ∧ det.psf ≠ 0 then det.psf else det.format)
  else if e ≠ 0 ∧ (e = det.format ∨ e = det.psf) then e else det.format

/-- The other inputs of a port's tile of which a status bit is set. -/
def State.otherStatus (s : State) (p b : Nat) : Bool :=
  (List.range 64).any (fun i => let q := 64 * (p / 64) + i; q ≠ p ∧ s.bit (O.sdi_status q) b)

/-- What follows from a change of a source's format or sampling: stores of another format discard their contents,
SOURCE_FORMAT follows the routes, and scalers that come short wait (R105, R187, R201, R267). -/
def State.formatChanged (s : State) (x : Nat) : State :=
  let src := s.srcId 0 x
  let fmt := s.vsrcFormat x
  let s1 : State := { s with sw := { s.sw with stores := s.sw.stores.map (fun y =>
    if y.src = src ∧ fmt ≠ 0 ∧ y.fmt ≠ fmt then
      { y with frames := [], writing := none, state := if y.state = 2 then 1 else y.state }
    else y) } }
  let s2 := (s1.fanout src).foldl (fun st r => if r.dst.ess = .video then st.reviewFormat r.dst.idx else st) s1
  (s2.scalersOf src).foldl (fun st n => st.growScaler n) s2

/-- An input reports what it has found (R204). -/
def State.detected (s : State) (p : Nat) (det : SdiDetect) : State :=
  let fmt := s.detectFormat p det
  let pid : Bool := det.pid.isSome ∧ !det.pidContradicts
  let bad : Bool := det.pid.isSome ∧ det.pidContradicts
  let div := if is2160 fmt then (if pid then det.pidDivision else s.nat (O.sdi_division p)) else 0
  let s1 := ((((s.setN (O.sdi_rx_mode p) det.mode).setN (O.sdi_rx_state p) 2).setN (O.sdi_rx_payload_id p)
    (det.pid.getD 0)).setN (O.sdi_rx_division p) div).setN (O.sdi_rx_sampling p) (if pid then det.pidSampling else 0)
  let s2 := (s1.setN (O.sdi_audio_present p) (groupsOf det.mode det.groups)).setN (O.src_format_detected p) fmt
  let s3 := ((s2.setBit (O.sdi_status p) 0 false).setBit (O.sdi_status p) 1 true).setBit (O.sdi_status p) 3 bad
  let s4 := s3.followShared (F.payloadMismatch (p / 64)) p (det.pid.getD 0) bad (s3.otherStatus p 3)
  (s4.followShared (F.sdiLos (p / 64)) p 0 false (s4.otherStatus p 0)).formatChanged p

/-- An input reports nothing of what it had read (R217). -/
def State.sdiClear (s : State) (p : Nat) : State :=
  let s1 := ((((s.setN (O.sdi_rx_mode p) 0).setN (O.sdi_rx_state p) 0).setN (O.sdi_rx_payload_id p) 0).setN
    (O.sdi_rx_division p) 0).setN (O.sdi_rx_sampling p) 0
  ((s1.setN (O.sdi_audio_present p) 0).setN (O.src_format_detected p) 0)

/-- An input has lost its signal (R217): it reports none, and nothing that it had read. -/
def State.sdiLost (s : State) (p : Nat) : State :=
  let s2 := s.sdiClear p
  let s3 := ((s2.setBit (O.sdi_status p) 0 true).setBit (O.sdi_status p) 1 false).setBit (O.sdi_status p) 3 false
  (s3.follow (F.sdiLos (p / 64)) p 0 true).formatChanged p

/-! ## Checks (R206) -/

/-- A failed check is counted; the first errored second after a clear one raises SDI_CRC (R206). -/
def State.sdiError (s : State) (p kind : Nat) : State :=
  if (kind = 1 ∨ kind = 2) ∧ s.nat (O.sdi_rx_mode p) ≠ 1 then s
  else
    let k := match kind with
      | 0 => O.sdi_crc_errors p | 1 => O.sdi_edh_ap_errors p | 2 => O.sdi_edh_ff_errors p | _ => O.sdi_trs_errors p
    let sec := s.now / nsPerSec
    let last := (kfind s.sdi.errAt p).map (fun a => a / nsPerSec)
    let s1 : State := { (s.count k) with sdi := { s.sdi with errAt := kput s.sdi.errAt p s.now } }
    if last = some sec then s1
    else
      let s2 := s1.count (O.sdi_errored_seconds p)
      if last = some (sec - 1) ∧ 1 ≤ sec then s2 else s2.strike (F.sdiCrc (p / 64)) p kind

/-! ## Ancillary filters and slots (R211, R212) -/

/-- A packet that no filter ever passes: payload ID, EDH, and ST 299 audio (R211). -/
def heldBack (pkt : AncPacket) : Bool :=
  (pkt.did == 0x41 && pkt.sdid == 0x01) || pkt.did == 0xF4 || (0xE0 ≤ pkt.did && pkt.did ≤ 0xE7) ||
    (0xA0 ≤ pkt.did && pkt.did ≤ 0xA7)

/-- A filter's settings match a packet, its checksum aside (R211). -/
def State.filterMatches (s : State) (i : Nat) (pkt : AncPacket) : Bool :=
  let m := s.natNow (O.ancx_mask i)
  ((pkt.did ^^^ s.natNow (O.ancx_did i)) &&& (m / 256)) == 0 && ((pkt.sdid ^^^ s.natNow (O.ancx_sdid i)) &&& (m % 256)) == 0 &&
    (s.natNow (O.ancx_space i) == 0 || s.natNow (O.ancx_space i) == pkt.space) &&
    s.natNow (O.ancx_line_first i) ≤ pkt.line && pkt.line ≤ s.natNow (O.ancx_line_last i) &&
    (s.natNow (O.ancx_stream i) == 0 || s.natNow (O.ancx_stream i) == pkt.stream) &&
    (s.natNow (O.ancx_link i) == none8 || s.natNow (O.ancx_link i) == pkt.link)

/-- The timecode packet of ST 12-2. -/
def isTimecode (pkt : AncPacket) : Bool := pkt.did == 0x60 && pkt.sdid == 0x60

/-- A packet of an input meets the port's filters (R211); the time address of a timecode packet is reported (R210), and
what it reads is not an operand here (log entry 14). -/
def State.extract (s : State) (p : Nat) (pkt : AncPacket) : State :=
  let s0 := if isTimecode pkt ∧ pkt.checksumOk then s.setN (O.sdi_tc_read p) (s.freeNat 1 % 4294967296) else s
  if heldBack pkt then s0
  else
    ((s0.portFilters p).filter (fun i => s0.filterMatches i pkt)).foldl (fun st i =>
      st.count (if pkt.checksumOk then O.ancx_packets i else O.ancx_checksum_errors i)) s0

/-- An ancillary packet as its slot places it, so many lines after its own line (R212). -/
def State.placedAnc (s : State) (j : Nat) (pkt : AncPacket) (moved : Nat) : Out :=
  let i := 2048 + j
  let line := if s.natNow (O.anci_line i) = 0 then pkt.line else s.natNow (O.anci_line i)
  .ancillary (s.nat (O.anci_port i)) j (line + moved) (s.natNow (O.anci_space i)) (s.natNow (O.anci_stream i)) (s.natNow (O.anci_link i))

/-- A packet is placed on the first line of its slot's span with room for it, or discarded (R212). -/
def State.insert (s : State) (j : Nat) (pkt : AncPacket) (room : List Nat) : State :=
  match (room.take (s.natNow (O.anci_line_span (2048 + j)))).findIdx? (fun w => pkt.size ≤ w) with
  | some k => (s.count (O.anci_packets (2048 + j))).emit (s.placedAnc j pkt k)
  | none =>
    let p := s.nat (O.anci_port (2048 + j))
    let s1 : State := { s with sdi := { s.sdi with ovfAt := kput s.sdi.ovfAt p s.now } }
    (s1.count (O.anci_overflows (2048 + j))).strike (F.ancOverflow (p / 64)) j pkt.size

/-! ## Commands -/

/-- The port is an SDI port of this part. -/
def State.sdiPort (s : State) (p : Nat) : Bool := s.laneExists p && s.isSdi p

end Sys2Proof.Machine
end

