-- ==== Sys2Proof/Machine/Packets.lean ====
section
/-! DEFINITION. Packet video (R221 to R254): rates and bookings of flows, enabling of flows and groups, reception, merging
and release, membership, address resolution, and the IS-05 service. -/

namespace Sys2Proof.Machine

/-! ## Rates (R225, R230, R231) -/

/-- The picture of one video flow: its pixels and active lines; a sub-image flow carries a quarter (R227). -/
def flowRaster (f div : Nat) : Nat × Nat := if is2160 f ∧ div ≠ 0 then (1920, 1080) else rasterOf f

/-- The bytes of a pixel group of a sampling. -/
def pgroup (smp : Nat) : Nat := match smp with | 0 => 5 | 1 => 6 | 2 => 15 | _ => 9

/-- The packets of a frame: GPM with at most 1 200 bytes of whole pixel groups and one line each, or BPM with 1 260 bytes
(Table 9.3). -/
def packetsPerFrame (f div smp packing : Nat) : Nat :=
  let r := flowRaster f div
  if r.1 = 0 then 0
  else if packing = 0 then r.2 * ceilDiv (r.1 * bitsPerPixel smp / 8) (1200 / pgroup smp * pgroup smp)
  else
    let parts := if byFields f then 2 else 1
    parts * ceilDiv (r.1 * (r.2 / parts) * bitsPerPixel smp / 8) 1260

/-- The bytes of a packet on the wire beyond its payload: RTP, UDP, IP, Ethernet with FCS and tag, preamble and gap. -/
def wireOverhead (v4 tagged : Bool) : Nat := 12 + 8 + (if v4 then 20 else 40) + 18 + (if tagged then 4 else 0) + 20

/-- The overhead of a flow's leg. -/
def State.legOverhead (s : State) (fam inst leg : Nat) : Nat :=
  wireOverhead (isV4 (s.legAddress fam inst leg)) (s.nat (O.eth_vlan (1 + s.legPort fam inst leg)) != 0)

/-- The format that a video flow's group carries: a destination's format, or a source's expected one (R230, R235). -/
def State.groupFormat (s : State) (tx : Bool) (g : Nat) : Nat :=
  if tx then s.nat (O.dst_format (1024 + g)) else s.nat (O.src_format_expected (1024 + g))

/-- The format of a video flow. -/
def State.vflowFormat (s : State) (inst : Nat) : Nat :=
  let g := s.flowGroup 0x3700 inst
  if g < 2048 then s.groupFormat (10240 ≤ inst) g else 0

/-- The division of a video flow's group. -/
def State.vflowDivision (s : State) (inst : Nat) : Nat :=
  let g := s.flowGroup 0x3700 inst
  if g < 2048 then s.nat (O.grp_division (groupInst (10240 ≤ inst) g)) else 0

/-- The packets of a frame of a video flow (3700h sub 16). -/
def State.vflowPackets (s : State) (inst : Nat) : Nat :=
  packetsPerFrame (s.vflowFormat inst) (s.vflowDivision inst) (s.nat (O.vflow_sampling 0x3700 inst)) (s.nat (O.vflow_packing 0x3700 inst))

/-- The samples of a packet of an audio flow. -/
def State.aflowSamples (s : State) (inst : Nat) : Nat :=
  (if s.nat (O.aflow_packet_time 0x3700 inst) = 0 then 48 else 6) * (1 + s.nat (O.aflow_sample_rate 0x3700 inst))

/-- What one leg of a flow books, in Mb/s rounded up (R225). An ancillary flow books 1 Mb/s. -/
def State.legMbps (s : State) (fam inst leg : Nat) : Nat :=
  if fam = 0x7000 then 1
  else if inst < 12288 then
    let f := s.vflowFormat inst
    let r := flowRaster f (s.vflowDivision inst)
    let data := r.1 * r.2 * bitsPerPixel (s.nat (O.vflow_sampling 0x3700 inst)) / 8
    let bytes := data + s.vflowPackets inst * (8 + s.legOverhead fam inst leg)
    if f = 0 then 0 else ceilDiv (bytes * 8 * (frameRate f).1) (1000000 * (frameRate f).2)
  else
    let data := s.aflowSamples inst * s.nat (O.aflow_channels fam inst) *
      (match s.nat (O.aflow_encoding fam inst) with | 0 => 2 | 1 => 3 | _ => 4)
    ceilDiv ((data + s.legOverhead fam inst leg) * 8 * (if s.nat (O.aflow_packet_time fam inst) = 0 then 1000 else 8000)) 1000000

/-- The enabled transmit flows. -/
def State.txFlows (s : State) : List (Nat × Nat) :=
  (s.objs.filter (fun e => e.1.sub == 0 && isFlowInst e.1.fam e.1.inst && flowIsTx e.1.fam e.1.inst && e.2 == .n 1)).map
    (fun e => (e.1.fam, e.1.inst))

/-- The registration of the NMOS node: its label, its pair, and a sender for each enabled transmit flow with the flow's group
(R249, R250). -/
def State.nmosNode (s : State) : Out :=
  .nmos (s.oct O.pk_nmos_registry) (s.oct O.id_chip_label) s.pairId (s.txFlows.map (fun f => (f.1, f.2, s.flowGroup f.1 f.2)))

/-- What the enabled transmit flows book on a port (R225). -/
def State.txBooked (s : State) (p : Nat) : Nat :=
  sumBy (fun f => sumBy (fun l => if s.legPort f.1 f.2 l = p then s.legMbps f.1 f.2 l else 0) (s.legs f.1 f.2)) s.txFlows

/-- The data rate of an Ethernet port (Table 9.1). -/
def State.ethRate (s : State) (p : Nat) : Nat := match s.portKind p with | 2 => 25000 | 3 => 100000 | 4 => 400000 | _ => 0

/-- No Ethernet port's booked rate exceeds its budget (R225). -/
def State.budgetOk (s : State) (ports : List Nat) : Bool :=
  ports.all (fun p => 100 * s.txBooked p ≤ s.nat (O.eth_tx_budget (1 + p)) * s.ethRate p)

/-- RACTIVE of ST 2110-21 as a fraction. -/
def rActive (f : Nat) : Nat × Nat := if f = 1 then (487, 525) else if f = 2 then (576, 625) else if f ≤ 5 then (720, 750) else (1080, 1125)

/-- CMAX of ST 2110-21 (R231), by sender type: 0 narrow gapped, 1 narrow linear, 2 wide. -/
def cmaxOf (f n typ : Nat) : Nat :=
  let r := frameRate f
  if r.1 = 0 then 0
  else match typ with
    | 0 => max 4 (n * r.1 * (rActive f).2 / (43200 * r.2 * (rActive f).1))
    | 1 => max 4 (n * r.1 / (43200 * r.2))
    | _ => max 16 (n * r.1 / (21600 * r.2))

/-- VRX_FULL of ST 2110-21 (R231). -/
def vrxFullOf (f n typ : Nat) : Nat :=
  let r := frameRate f
  if r.1 = 0 then 0 else if typ = 2 then max 720 (n * r.1 / (300 * r.2)) else max 8 (n * r.1 / (27000 * r.2))

/-! ## Reception offsets (R237) -/

/-- The largest merge window among a receive group's members. -/
def State.groupWindow (s : State) (g : Nat) : Nat :=
  max (maxBy (fun i => s.nat (O.flow_merge_window 0x3700 i)) (s.groupVideo false g ++ s.groupAudio false g))
    (maxBy (fun i => s.nat (O.flow_merge_window 0x7000 i)) (s.groupAnc false g))

/-- release_now of a receive group (R237): explicit, or the whole frames less 8 µs that cover a frame, TRO_DEFAULT, the
merge window and the network allowance. -/
def State.releaseNow (s : State) (g : Nat) : Nat :=
  let x := s.nat (O.grp_release_offset (2048 + g))
  if x ≠ 0 then x
  else
    let f := s.groupFormat false g
    let r := frameRate f
    if r.1 = 0 then 0
    else
      let need := framePeriod f + troDefault f + s.groupWindow g + s.nat O.pk_network_allowance
      let k := ceilDiv ((need + 8000) * r.1) (nsPerSec * r.2)
      k * nsPerSec * r.2 / r.1 - 8000

/-! ## Enabling (R225, R227, R236, R241) -/

/-- A leg stands on an Ethernet port of the chip. -/
def State.legOk (s : State) (fam inst leg : Nat) : Bool :=
  let p := s.legPort fam inst leg
  s.laneExists p && s.isEth p

/-- The tile of a leg's port. -/
def State.legTile (s : State) (fam inst leg : Nat) : Nat := s.legPort fam inst leg / 64

/-- The key of a flow among the streams of legs B. -/
def flowKey (fam inst : Nat) : Nat := fam * 65536 + inst

/-- The cell stream that leg B books from its tile to leg A's (R241): none where both stand on one tile. -/
def State.legStripe (s : State) (fam inst : Nat) : Except Refuse (Option Stripe) :=
  if (s.legs fam inst).length < 2 ∨ s.legTile fam inst 1 = s.legTile fam inst 0 then .ok none
  else
    let feed := 8589934592 + flowKey fam inst
    match s.choosePlanes false [] s.stripes [] [⟨feed, 0, s.legTile fam inst 1, s.legTile fam inst 0, stripeKhs (1000 * s.legMbps fam inst 1), false⟩] with
    | some (x :: _) => .ok (some x)
    | _ => .error (C.noPath, 1)

/-- The bytes and Mb/s of a receive video flow's reorder buffer (R236). -/
def State.reorderBook (s : State) (g inst : Nat) : Nat × Nat :=
  let f := s.groupFormat false g
  let f' := if is2160 f ∧ s.vflowDivision inst ≠ 0 then f - 8 else f
  let r := frameRate f
  let smp := s.nat (O.vflow_sampling 0x3700 inst)
  let n := ceilDiv ((s.releaseNow g + s.nat (O.flow_merge_window 0x3700 inst)) * r.1) (nsPerSec * max 1 r.2) + 2
  (2 * streamMbps f' smp, slotBytes f' smp * n)

/-- An empty receive record of a flow. -/
def rxEmpty (fam inst : Nat) : RxFlow := ⟨fam, inst, none, [], [], [], none, none, none, false, false, [], none⟩

/-- The receive record of a flow. -/
def State.rxOf (s : State) (fam inst : Nat) : Option RxFlow := s.packet.rx.find? (fun r => r.fam = fam ∧ r.inst = inst)

/-- A receive record changed. -/
def State.modRx (s : State) (fam inst : Nat) (f : RxFlow → RxFlow) : State :=
  { s with packet := { s.packet with rx := s.packet.rx.map (fun r => if r.fam = fam ∧ r.inst = inst then f r else r) } }

/-- A unicast transmit leg begins to resolve its destination or gateway (R223). -/
def State.startResolve (s : State) (fam inst leg : Nat) : State :=
  if isMulticast (s.legAddress fam inst leg) then s
  else { s with packet := { s.packet with resolves := s.packet.resolves.filter (fun r => ¬(r.fam = fam ∧ r.inst = inst ∧ r.leg = leg)) ++
    [⟨fam, inst, leg, s.now, none⟩] } }

/-- One flow is enabled: its leg stream booked, its legs joined or resolved, its state shown. -/
def State.enableFlow (s : State) (fam inst : Nat) : Except Refuse State :=
  if !(s.legs fam inst).all (s.legOk fam inst) then .error (C.range, 0)
  else if !(s.legs fam inst).all (fun l => s.portOpen (s.legPort fam inst l)) then .error (C.busy, 0)
  else if fam = 0x3700 ∧ 12288 ≤ inst ∧ s.nat (O.aflow_channels fam inst) = 0 then .error (C.range, 0)
  else if flowIsTx fam inst then
    let s1 := (s.setF (O.flow_enable fam inst) true).setN (O.flow_state fam inst) 2
    if s1.budgetOk ((s.legs fam inst).map (s.legPort fam inst)) then
      .ok ((s.legs fam inst).foldl (fun st l => st.startResolve fam inst l) s1)
    else .error (C.busy, 0)
  else
    match s.legStripe fam inst with
    | .error e => .error e
    | .ok st =>
      let s1 := (s.setF (O.flow_enable fam inst) true).setN (O.flow_state fam inst) 1
      let s2 : State := { s1 with packet := { s1.packet with
        rx := s1.packet.rx ++ [rxEmpty fam inst],
        legStripes := s1.packet.legStripes ++ (st.toList.map (fun x => (flowKey fam inst, x))) } }
      .ok (if s.nat (O.flow_join_mode fam inst) = 0 then s2.joinFlow fam inst else s2)

/-- The receive side's faults of a tile that no flow holds any longer end. -/
def State.reviewLegs (s : State) (tile : Nat) : State :=
  let here (r : RxFlow) : Bool := s.flowTile r.fam r.inst == tile
  let allDown (r : RxFlow) : Bool := r.downA && (r.downB || (s.legs r.fam r.inst).length < 2)
  let s1 := if s.packet.rx.any (fun r => here r && (r.downA || r.downB)) then s else s.endFault (F.legDown tile)
  if s.packet.rx.any (fun r => here r && allDown r) then s1 else s1.endFault (F.flowLos tile)

/-- One flow is disabled: what it booked and joined is released. -/
def State.disableFlow (s : State) (fam inst : Nat) : State :=
  let tile := s.flowTile fam inst
  let s1 := (s.leaveFlow fam inst).setF (O.flow_enable fam inst) false
  let s2 := s1.setN (O.flow_state fam inst) 0
  ({ s2 with
    packet := { s2.packet with
      rx := s2.packet.rx.filter (fun r => ¬(r.fam = fam ∧ r.inst = inst)),
      legStripes := s2.packet.legStripes.filter (fun e => e.1 ≠ flowKey fam inst),
      resolves := s2.packet.resolves.filter (fun r => ¬(r.fam = fam ∧ r.inst = inst)) },
    placer := { s2.placer with hbm := s2.placer.hbm.filter (fun b => ¬(b.fam = fam ∧ b.inst = inst)) } } : State).reviewLegs tile

/-- The members of a group, as family and instance. -/
def State.groupMembers (s : State) (tx : Bool) (g : Nat) : List (Nat × Nat) :=
  (s.groupVideo tx g ++ s.groupAudio tx g).map (fun i => (0x3700, i)) ++ (s.groupAnc tx g).map (fun i => (0x7000, i))

/-- A group's members fit one of the shapes of R227. -/
def State.groupFits (s : State) (tx : Bool) (g : Nat) : Bool :=
  let vs := s.groupVideo tx g
  let div := s.nat (O.grp_division (groupInst tx g))
  let ms := s.groupMembers tx g
  (if div = 0 then vs.length == 1
   else vs.length == 4 && (List.range 4).all (fun i => vs.any (fun v => s.nat (O.vflow_sub_image 0x3700 v) == i))) &&
    (s.groupAudio tx g).length ≤ 16 && (s.groupAnc tx g).length ≤ 4 &&
    ms.all (fun m => s.legPort m.1 m.2 0 < 1024 && s.legTile m.1 m.2 0 == s.groupTile tx g)

/-- The members of a group enabled one after another, with reorder buffers for the receive video flows. -/
def State.enableMembers (s : State) (tx : Bool) (g : Nat) : List (Nat × Nat) → Except Refuse State
  | [] => .ok s
  | m :: r =>
    match s.enableFlow m.1 m.2 with
    | .error e => .error e
    | .ok s1 =>
      if !tx ∧ m.1 = 0x3700 ∧ m.2 < 12288 then
        let b := s1.reorderBook g m.2
        match s1.bookBeside (if s.isH then 0 else s1.groupTile tx g / 8) b.1 b.2 with
        | .error e => .error e
        | .ok k =>
          State.enableMembers { s1 with placer := { s1.placer with hbm := s1.placer.hbm ++ [⟨m.1, m.2, k, b.1, b.2⟩] } } tx g r
      else s1.enableMembers tx g r

/-- A receive group's source is absent until frames arrive (R107, R240, R243). -/
def State.sourceGone (s : State) (x : Nat) : State :=
  ({ (s.setN (O.src_timing_state x) 0) with sw := { s.sw with timing := s.sw.timing.filter (fun r => r.s ≠ x) } } : State).stopStores
    (s.srcId 0 x)

/-- GROUP_ENABLE (R225, R227, R235, R236): the code, and the machine after it. -/
def State.writeGroup (s : State) (inst : Nat) (on : Bool) : Nat × State :=
  let tx : Bool := 4096 ≤ inst
  let g := inst - (if tx then 4096 else 2048)
  let ms := s.groupMembers tx g
  if on = s.flag (O.grp_enable inst) then (0, s)
  else if !on then
    let s1 := ms.foldl (fun st m => st.disableFlow m.1 m.2) (s.setF (O.grp_enable inst) false)
    (0, if tx then s1 else
      ((s1.sourceGone (1024 + g)).setN (O.src_format_detected (1024 + g)) 0).formatChanged (1024 + g))
  else if !s.groupFits tx g ∨ s.groupFormat tx g = 0 then (C.range, s)
  else
    let ready := ms.filter (fun m => !s.flag (O.flow_enable m.1 m.2))
    match (s.setF (O.grp_enable inst) true).enableMembers tx g ready with
    | .error e => (e.1, s)
    | .ok s1 =>
      let s2 := if tx then s1.setB (O.grp_sdp inst) ((s.freeOct 1).take 8192)
        else ((s1.setN (O.grp_release_now inst) (s.releaseNow g)).setN (O.src_format_detected (1024 + g))
          (s.groupFormat false g)).setBit (O.src_status (1024 + g)) 2 false
      (0, if tx then s2 else s2.formatChanged (1024 + g))

/-- FLOW_ENABLE (R225, R227): the code, and the machine after it. -/
def State.writeFlowEnable (s : State) (fam inst : Nat) (on : Bool) : Nat × State :=
  if on = s.flag (O.flow_enable fam inst) then (0, s)
  else if !on then (0, s.disableFlow fam inst)
  else if fam = 0x3700 ∧ inst < 12288 ∧ 2048 ≤ s.flowGroup fam inst then (C.range, s)
  else match s.enableFlow fam inst with | .ok s1 => (0, s1) | .error e => (e.1, s)

/-! ## Audio channels (R228, R252) -/

/-- The most channels of a combination of Table 9.7, and whether they come in pairs. -/
def channelLimit (enc rate pt : Nat) : Nat × Bool :=
  let n := (if pt = 0 then 8 else 64) / (1 + rate)
  if enc = 2 then (match pt, rate with | 0, 0 => 6 | 0, _ => 2 | _, 0 => 32 | _, _ => 16, true) else (n, false)

/-- A count of channels stands in Table 9.7; 0 releases. -/
def channelsOk (enc rate pt n : Nat) : Bool :=
  n == 0 || (n ≤ (channelLimit enc rate pt).1 && (!(channelLimit enc rate pt).2 || n % 2 == 0))

/-- The blocks of channel indices that the audio flows of a direction hold, `inst` aside. -/
def State.channelBlocks (s : State) (inst : Nat) : List (Nat × Nat) :=
  let base := if 16384 ≤ inst then 16384 else 12288
  (s.objs.filter (fun e => e.1.fam == 0x3700 && e.1.sub == 0x14 && base ≤ e.1.inst && e.1.inst < base + 4096 && e.1.inst != inst)).map
    (fun e => (e.2.int.toNat, s.nat (O.aflow_channels 0x3700 e.1.inst)))

/-- The lowest free block of `n` indices (R228): it begins at 32 768 or where a held block ends. -/
def State.freeBlock (s : State) (inst n : Nat) : Option Nat :=
  let bs := s.channelBlocks inst
  let fits (x : Nat) : Bool := 32768 ≤ x && x + n ≤ 61440 && bs.all (fun b => x + n ≤ b.1 || b.1 + b.2 ≤ x)
  minBy (fun x => x) ((32768 :: bs.map (fun b => b.1 + b.2)).filter fits)

/-- AUDIO_CHANNELS_WRITE (R228, R252): the code, and the machine after it. -/
def State.writeChannels (s : State) (inst n : Nat) : Nat × State :=
  if !channelsOk (s.nat (O.aflow_encoding 0x3700 inst)) (s.nat (O.aflow_sample_rate 0x3700 inst)) (s.nat (O.aflow_packet_time 0x3700 inst)) n then
    (C.range, s)
  else if n = 0 then (0, (s.setN (O.aflow_channels 0x3700 inst) 0).setN (O.aflow_channel_base 0x3700 inst) none16)
  else
    match s.freeBlock inst n with
    | none => (C.busy, s)
    | some b => (0, (s.setN (O.aflow_channels 0x3700 inst) n).setN (O.aflow_channel_base 0x3700 inst) b)

/-! ## Writes of the packet families -/

/-- The FEC choices of a port kind (Table 9.1). -/
def fecOk (kind v : Nat) : Bool := match kind with | 2 => v ≤ 2 | 3 => v == 0 || v == 2 | 4 => v == 3 | _ => false

/-- Writes of flows (R225, R227, R228, R252). -/
def State.writeFlow (s : State) (k : Key) (v : Val) : Option (Nat × State) :=
  let n := v.int.toNat
  match k.sub with
  | 0x00 => some (s.writeFlowEnable k.fam k.inst (n = 1))
  | 0x02 => if n ≠ none16 ∧ !(s.laneExists n ∧ s.isEth n) then some (C.range, s) else none
  | 0x06 => if n ≠ none16 ∧ !(s.laneExists n ∧ s.isEth n) then some (C.range, s) else none
  | 0x1F =>
    some (0, if n = 0 ∨ flowIsTx k.fam k.inst then s else
      ([0x19, 0x1A, 0x1B, 0x1C, 0x1D, 0x1E] : List Nat).foldl (fun st sub => st.setN ⟨k.fam, k.inst, sub⟩ 0) s)
  | 0x10 =>
    if k.fam = 0x3700 ∧ 12288 ≤ k.inst ∧ !channelsOk n (s.nat (O.aflow_sample_rate 0x3700 k.inst)) (s.nat (O.aflow_packet_time 0x3700 k.inst)) (s.nat (O.aflow_channels 0x3700 k.inst)) then
      some (C.range, s) else none
  | 0x11 => if k.fam = 0x3700 ∧ 12288 ≤ k.inst then some (s.writeChannels k.inst n) else none
  | 0x12 =>
    if k.fam = 0x3700 ∧ 12288 ≤ k.inst ∧ !channelsOk (s.nat (O.aflow_encoding 0x3700 k.inst)) n (s.nat (O.aflow_packet_time 0x3700 k.inst)) (s.nat (O.aflow_channels 0x3700 k.inst)) then
      some (C.range, s) else none
  | 0x13 =>
    if k.fam = 0x3700 ∧ 12288 ≤ k.inst ∧ !channelsOk (s.nat (O.aflow_encoding 0x3700 k.inst)) (s.nat (O.aflow_sample_rate 0x3700 k.inst)) n (s.nat (O.aflow_channels 0x3700 k.inst)) then
      some (C.range, s) else none
  | _ => none

/-- Writes of interfaces and groups (R221, R232, R237). -/
def State.writePacket (s : State) (k : Key) (v : Val) : Option (Nat × State) :=
  let n := v.int.toNat
  if 8192 ≤ k.inst then s.writeFlow k v
  else if 2048 ≤ k.inst then
    let tx : Bool := 4096 ≤ k.inst
    let g := k.inst - (if tx then 4096 else 2048)
    match k.sub with
    | 0x00 => some (s.writeGroup k.inst (n = 1))
    | 0x03 => if !tx ∧ n ≠ 0 ∧ n < framePeriod (s.groupFormat false g) then some (C.range, s) else none
    | 0x05 => if tx ∧ n = 2 ∧ s.nat (O.grp_tro_explicit k.inst) < troMinimum (s.groupFormat true g) then some (C.range, s) else none
    | 0x06 => if tx ∧ n < troMinimum (s.groupFormat true g) then some (C.range, s) else none
    | _ => none
  else if 1 ≤ k.inst ∧ k.inst ≤ 1024 then
    match k.sub with
    | 0x00 => if (match v.oct.head? with | some b => Machine.bit b.toNat 0 | none => true) then some (C.range, s) else none
    | 0x07 => if fecOk (s.portKind (k.inst - 1)) n then none else some (C.range, s)
    | 0x09 =>
      let s1 := s.set k v
      some (if s1.budgetOk [k.inst - 1] then (0, s1) else (C.busy, s))
    | _ => none
  else none

/-- An interface is idle while no enabled flow has a leg on it. -/
def State.ifaceIdle (s : State) (p : Nat) : Bool :=
  !((s.rxFlows ++ s.txFlows).any (fun f => (s.legs f.1 f.2).any (fun l => s.legPort f.1 f.2 l = p)))

/-! ## Reception (R235, R238 to R243) -/

/-- The sequence numbers of a flow wrap at this: 32 bits extended for video, else 16. -/
def seqMod (fam inst : Nat) : Nat := if fam = 0x3700 ∧ inst < 12288 then 4294967296 else 65536

/-- A received sequence number counted on from the highest seen. -/
def unwrapSeq (m top seq : Nat) : Int :=
  let d := ((seq : Int) - (top : Int)) % (m : Int)
  (top : Int) + (if d < (m / 2 : Nat) then d else d - m)

/-- A packet meets a leg's port, VLAN, addresses and UDP port (R235). -/
def State.legMatches (s : State) (fam inst leg : Nat) (pkt : RxPacket) : Bool :=
  let src := if leg = 0 then s.oct (O.flow_a_source fam inst) else s.oct (O.flow_b_source fam inst)
  let udp := if leg = 0 then s.nat (O.flow_a_udp fam inst) else s.nat (O.flow_b_udp fam inst)
  pkt.port == s.legPort fam inst leg && pkt.vlan == s.nat (O.eth_vlan (1 + pkt.port)) &&
    pkt.dstAddr == s.legAddress fam inst leg && pkt.udp == udp && (src == zeros 16 || src == pkt.srcAddr)

/-- The state that a receive flow shows by its legs (Table 9.10, sub 0D). -/
def State.showFlow (s : State) (fam inst : Nat) : State :=
  match s.rxOf fam inst with
  | none => s
  | some r =>
    let two : Bool := 2 ≤ (s.legs fam inst).length
    let upA := r.lastA.isSome && !r.downA
    let upB := two && r.lastB.isSome && !r.downB
    s.setN (O.flow_state fam inst) (if upA ∧ (upB ∨ !two) then 2 else if upA ∨ upB then 3 else 1)

/-- The mean of a list of differences. -/
def meanDiff (l : List (Nat × Int)) : Int := if l.isEmpty then 0 else roundDiv (sumByInt (fun e => e.2) l) l.length

/-- A restart of a received flow (R240): the reorder buffer is emptied and its group's source is absent. -/
def State.restartFlow (s : State) (r : RxFlow) : State :=
  let s1 := s.modRx r.fam r.inst (fun r => { r with held := [], missing := [], lost := [], top := none, ssrc := none })
  let g := s.flowGroup r.fam r.inst
  if r.fam = 0x3700 ∧ r.inst < 12288 ∧ g < 2048 then s1.sourceGone (1024 + g) else s1

/-- A copy of a sequence number that is already held: the path differential, and a difference of content (R241, R242). -/
def State.secondCopy (s : State) (r : RxFlow) (h : HeldPacket) (leg hash : Nat) : State :=
  let a := if leg = 0 then some (h.a.getD s.now) else h.a
  let b := if leg = 1 then some (h.b.getD s.now) else h.b
  let both : Option Int := match a, b, h.a.isNone || h.b.isNone with
    | some x, some y, true => some ((y : Int) - x)
    | _, _, _ => none
  let s1 := if hash = h.hash then s else s.count O.pk_leg_mismatches
  match both with
  | none => s1
  | some d =>
    let l := r.diffs.filter (fun e => s.now ≤ e.1 + nsPerSec) ++ [(s.now, d)]
    let s2 := s1.modRx r.fam r.inst (fun r => { r with diffs := l, held := r.held.map (fun x =>
      if x.seq = h.seq then { x with a := a, b := b } else x) })
    (s2.setI (O.flow_path_diff r.fam r.inst) (meanDiff l)).setN (O.flow_path_diff_max r.fam r.inst)
      (max (s2.nat (O.flow_path_diff_max r.fam r.inst)) d.natAbs)

/-- A packet that a leg has accepted (R238 to R243). -/
def State.merge (s : State) (r : RxFlow) (leg : Nat) (pkt : RxPacket) : State :=
  let m := seqMod r.fam r.inst
  let u := match r.top with | some t => (unwrapSeq m t pkt.seq).toNat | none => pkt.seq
  if r.lost.contains u then s.count (O.flow_late r.fam r.inst)
  else
    match r.held.find? (fun h => h.seq = u) with
    | some h => s.secondCopy r h leg pkt.hash
    | none =>
      let gap := match r.top with | some t => (List.range (u - t - 1)).map (fun i => (t + 1 + i, s.now)) | none => []
      s.modRx r.fam r.inst (fun r => { r with
        ssrc := some pkt.ssrc
        top := some (max u (r.top.getD u))
        missing := r.missing.filter (fun e => e.1 ≠ u) ++ gap
        held := r.held ++ [⟨u, pkt.ts, pkt.marker, if leg = 0 then some s.now else none, if leg = 1 then some s.now else none, pkt.hash⟩] })

/-- The sequence of a packet lies within 3 000 packets of the highest seen (R240). -/
def RxFlow.near (r : RxFlow) (pkt : RxPacket) : Bool :=
  match r.top with
  | none => true
  | some t => let u := unwrapSeq (seqMod r.fam r.inst) t pkt.seq; (t : Int) - 3000 ≤ u && u ≤ (t : Int) + 3000

/-- A packet that reached a leg (R235): accepted and merged, or discarded and counted. -/
def State.receive (s : State) (r : RxFlow) (leg : Nat) (pkt : RxPacket) : State :=
  let k := s.nat (O.flow_ssrc r.fam r.inst)
  let anySsrc : Bool := k = 0 ∨ s.int (O.flow_ssrc r.fam r.inst) = unsetN
  let g := s.flowGroup r.fam r.inst
  let video : Bool := r.fam = 0x3700 ∧ r.inst < 12288 ∧ g < 2048
  if !s.legMatches r.fam r.inst leg pkt then s
  else if pkt.payloadType ≠ s.nat (O.flow_payload_type r.fam r.inst) ∨ (!anySsrc ∧ pkt.ssrc ≠ k) then
    s.count O.pk_rejected_packets
  else if video ∧ !pkt.inFormat then s.setBit (O.src_status (1024 + g)) 2 true
  else
    let s1 := if video then s.setBit (O.src_status (1024 + g)) 2 false else s
    let s2 := s1.count (if leg = 0 then O.flow_a_received r.fam r.inst else O.flow_b_received r.fam r.inst) 1 64
    let s3 := s2.modRx r.fam r.inst (fun r =>
      if leg = 0 then { r with lastA := some s.now, downA := false } else { r with lastB := some s.now, downB := false })
    let again : Bool := (anySsrc && (match r.ssrc with | some x => x != pkt.ssrc | none => false)) || !r.near pkt
    let s4 := if again then s3.restartFlow r else s3
    let s5 := match s4.rxOf r.fam r.inst with | some r' => s4.merge r' leg pkt | none => s4
    (s5.showFlow r.fam r.inst).reviewLegs (s.flowTile r.fam r.inst)

/-! ## Release (R237 to R239) -/

/-- The first frame that a reorder buffer holds: the RTP timestamp of its lowest sequence. -/
def RxFlow.frameTs (r : RxFlow) : Option Nat := (minBy (fun h => h.seq) r.held).map (fun h => h.ts)

/-- The first frame is held complete (R238): its marker packet, or one of the next frame, has been accepted, and nothing
up to it is missing. -/
def RxFlow.complete (r : RxFlow) : Bool :=
  match r.frameTs with
  | none => false
  | some ts =>
    let fin := r.held.filter (fun h => (h.ts = ts ∧ h.marker) ∨ h.ts ≠ ts)
    match minBy (fun h => h.seq) fin with
    | none => false
    | some h => r.missing.all (fun e => h.seq < e.1)

/-- The packets of the first frame leave the buffer. -/
def RxFlow.dropFrame (r : RxFlow) : RxFlow :=
  match r.frameTs with
  | none => r
  | some ts =>
    let top := maxBy (fun h => h.seq) (r.held.filter (fun h => h.ts = ts))
    { r with
      held := r.held.filter (fun h => h.ts ≠ ts)
      missing := r.missing.filter (fun e => top < e.1)
      lost := r.lost.filter (fun q => top < q + 3000) }

/-- A frame of a receive group is released (R237): it enters the core as a frame of its source, or it is an underrun of
the destinations that it feeds directly (R116, R238). -/
def State.releaseFrame (s : State) (g : Nat) : State :=
  let vs := (s.groupVideo false g).filterMap (s.rxOf 0x3700)
  let whole : Bool := !vs.isEmpty && vs.all RxFlow.complete
  let ms := s.groupMembers false g
  let s1 := ms.foldl (fun st m => st.modRx m.1 m.2 RxFlow.dropFrame) s
  if whole then s1.frameStart (1024 + g) 0
  else if s.nat (O.src_timing_state (1024 + g)) = 0 then s1
  else
    let s2 := (s1.count (O.grp_underruns (2048 + g))).strike (F.storeUnderrun (s.groupTile false g)) (s.srcId 0 (1024 + g)) g
    (s2.fanout (s.srcId 0 (1024 + g))).foldl (fun st r =>
      if r.dst.ess = .video ∧ r.dst.idx < 3072 ∧ r.pl.path = 1 then st.count (O.dst_underruns r.dst.idx) else st) s2

/-! ## Neighbours (R223) -/

/-- The address that a transmit leg resolves: its destination, or for one off its subnet the gateway. -/
def State.resolveTarget (s : State) (fam inst leg : Nat) : Bytes :=
  let a := s.legAddress fam inst leg
  let p := s.legPort fam inst leg
  if isV4 a then
    let m := 2 ^ (32 - min 32 (s.nat (O.eth_ipv4_prefix (1 + p))))
    let v := field a 12 4
    let own := s.nat (O.eth_ipv4_address (1 + p))
    if v / m = own / m then a else zeros 10 ++ [0xFF, 0xFF] ++ beBytes 4 (s.nat (O.eth_ipv4_gateway (1 + p)))
  else a

/-- An address is answered: the legs on the port that wait for it are resolved. -/
def State.resolved (s : State) (p : Nat) (a : Bytes) (mac : Nat) : State :=
  let hit (r : Resolve) : Bool := s.legPort r.fam r.inst r.leg == p && s.resolveTarget r.fam r.inst r.leg == a
  let mine := s.packet.resolves.filter hit
  let s1 : State := { s with packet := { s.packet with resolves := s.packet.resolves.map (fun r =>
    if hit r then { r with mac := some mac } else r) } }
  mine.foldl (fun st r =>
    if st.packet.resolves.any (fun q => q.fam = r.fam ∧ q.inst = r.inst ∧ q.mac.isNone) then st
    else st.setN (O.flow_state r.fam r.inst) 2) s1

/-- The IPv6 link-local address of an interface, by its MAC address (R223, log entry 77). -/
def linkLocal (mac : Bytes) : Bytes :=
  [0xFE, 0x80] ++ zeros 6 ++ [(mac.headD 0) ^^^ 2] ++ (mac.drop 1).take 2 ++ [0xFF, 0xFE] ++ mac.drop 3

/-- A neighbour's frame at an interface (R223). -/
def State.neighbour (s : State) (p : Nat) (f : NeighbourFrame) : State :=
  let v4 := s.nat (O.eth_ipv4_address (1 + p))
  let v6 := s.oct (O.eth_ipv6_address (1 + p))
  let mac := s.oct (O.eth_mac (1 + p))
  let own (a : Bytes) : Bool := (a == v6 && v6 != zeros 16) || a == linkLocal mac
  match f with
  | .arpRequest a => if a = v4 ∧ v4 ≠ 0 then s.emit (.neighbour p 0 (mac ++ beBytes 4 a)) else s
  | .arpReply a m => s.resolved p a m
  | .ndSolicit a => if own a then s.emit (.neighbour p 1 (mac ++ a)) else s
  | .ndAdvert a m => s.resolved p a m
  | .echo4 a d => if a = v4 ∧ v4 ≠ 0 then s.emit (.neighbour p 2 d) else s
  | .echo6 a d => if own a then s.emit (.neighbour p 3 d) else s
  | .badFcs => s
  | .pause => s

/-! ## IS-05 (R251) -/

/-- One leg's staged parameters written to a flow; an address that does not apply in the flow's direction is not written. -/
def State.stageLeg (s : State) (fam inst leg : Nat) (l : Is05Leg) : State :=
  let s1 := if leg = 0 then ((s.setN (O.flow_a_port fam inst) l.port).setB (O.flow_a_address fam inst) l.address).setN (O.flow_a_udp fam inst) l.udp
    else ((s.setN (O.flow_b_port fam inst) (if l.enabled then l.port else none16)).setB (O.flow_b_address fam inst) l.address).setN (O.flow_b_udp fam inst) l.udp
  if flowIsTx fam inst then s1
  else if leg = 0 then s1.setB (O.flow_a_source fam inst) l.source else s1.setB (O.flow_b_source fam inst) l.source

/-- A leg's parameters lie within their ranges. -/
def State.legParamsOk (s : State) (l : Is05Leg) : Bool :=
  s.laneExists l.port && s.isEth l.port && l.address.length == 16 && l.source.length == 16 && 1024 ≤ l.udp && l.udp ≤ 65535

/-- An activation is applied as one transaction (R251): the flow is disabled, its legs written and, where a leg is
enabled, enabled again. -/
def State.activateIs05 (s : State) (fam inst : Nat) (legs : List Is05Leg) : Nat × State :=
  if legs.isEmpty ∨ 2 < legs.length ∨ !isFlowInst fam inst ∨ !legs.all s.legParamsOk then (C.range, s)
  else
    let on := legs.any (fun l => l.enabled)
    let g := s.flowGroup fam inst
    let s1 := if s.flag (O.flow_enable fam inst) then s.disableFlow fam inst else s
    let s2 := if fam = 0x3700 ∧ inst < 10240 ∧ g < 2048 then s1.sourceGone (1024 + g) else s1
    let s3 := (legs.zip (List.range 2)).foldl (fun st e => st.stageLeg fam inst e.2 e.1) s2
    if on then
      let r := s3.writeFlowEnable fam inst true
      if r.1 = 0 then r else (r.1, s)
    else (0, s3)

/-- The IS-05 service runs and writes are allowed (R249, R251). -/
def State.nmosWrites (s : State) : Bool := s.natNow O.pk_nmos_enable == 1 && !s.standby && s.flag O.pk_nmos_write

/-- The link of an Ethernet port comes up or goes down (R222). -/
def State.ethLink (s : State) (p : Nat) (up : Bool) : State :=
  let others := (List.range 64).any (fun i => let q := 64 * (p / 64) + i; q ≠ p ∧ s.isEth q ∧ s.nat (O.eth_link_state (1 + q)) = 0 ∧
    !s.ifaceIdle q)
  (s.setN (O.eth_link_state (1 + p)) (b01 up)).followShared (F.ethLink (p / 64)) p 0 (!up) others

end Sys2Proof.Machine
end

