-- ==== Sys2Proof/Machine/Composition.lean ====
section
/-! DEFINITION. Composition heads, layers, scalers, fences and commit groups (R255 to R283): the behaviour of their
writes, and the commands of chapter 10 that are not writes. -/

namespace Sys2Proof.Machine

/-! ## Heads and their timing (R256 to R258) -/

/-- The head that a layer is assigned to by its latest accepted value, of its compositor; none where unassigned. -/
def State.layerHead (s : State) (l : Nat) : Option Nat :=
  let h := s.nat (O.layer_head l)
  if h < 4 then some (4 * (l / 128) + h) else none

/-- The head on which a layer stands in force. -/
def State.layerHeadNow (s : State) (l : Nat) : Option Nat :=
  let h := s.natNow (O.layer_head l)
  if h < 4 then some (4 * (l / 128) + h) else none

/-- The head at whose flip points a commit of the layer flips: the one it is assigned to, or else the one it leaves (R274). -/
def State.flipHead (s : State) (l : Nat) : Option Nat :=
  match s.layerHead l with | some h => some h | none => s.layerHeadNow l

/-- The first flip point of a head that may carry a commit accepted now: at least one line later (R270). -/
def State.firstFlip (s : State) (h : Nat) : Nat :=
  let f := s.nat (O.head_format h)
  switchAtOrAfter f (s.int (O.head_timing_offset h)) (s.tbNow (s.nat (O.head_time_base h)) + linesNs f 1 1)

/-- The head to which an SDI output port is bound (R258). -/
def State.boundHead (s : State) (p : Nat) : Option Nat :=
  if p < 1024 then (List.range 4).findSome? (fun i =>
      if s.nat (O.head_out_port (4 * (p / 64) + i)) = p then some (4 * (p / 64) + i) else none)
  else none

/-- The layers whose latest accepted head is `h`, ascending. -/
def State.headLayers (s : State) (h : Nat) : List Nat :=
  ((List.range 128).map (fun i => 128 * (h / 4) + i)).filter (fun l => s.layerHead l = some h)

/-- The layers that stand on a head in force, in ascending z (R259). -/
def State.stackNow (s : State) (h : Nat) : List Nat :=
  sortBy (fun a b => s.natNow (O.layer_z a) < s.natNow (O.layer_z b))
    (((List.range 128).map (fun i => 128 * (h / 4) + i)).filter (fun l => s.layerHeadNow l = some h))

/-- A head's class written: BUSY while its source has a fanout (R256). -/
def State.writeClass (s : State) (h cls : Nat) : Nat × State :=
  if !(s.fanout (s.srcId 0 (3072 + h))).isEmpty then (C.busy, s) else (0, s.setN (O.head_class h) cls)

/-- A head's port written (R258). The port of a head that is unbound sends its unrouted content from its next switch
line. -/
def State.bindPort (s : State) (h p : Nat) : Nat × State :=
  if p = none16 then (0, s.setN (O.head_out_port h) p)
  else if p / 64 ≠ h / 4 ∨ !s.isSdi p ∨
      outputMode (s.portKind p == 1) (s.nat (O.head_format h)) (s.nat (O.head_sampling h)) (s.nat (O.sdi_tx_level p))
        (s.nat (O.sdi_quad_rate p)) = 0 then (C.range, s)
  else if s.nat (O.sdi_tx_sampling p) ≠ s.nat (O.head_sampling h) then (C.type, s)
  else if s.dstBusy ⟨.video, p⟩ ∨ (s.boundHead p).any (fun g => g != h) then (C.busy, s)
  else (0, s.setN (O.head_out_port h) p)

/-! ## Bookings of windows and buffers (R262, R266, R277) -/

/-- A booking in HBM set anew: it keeps its stack while that has room, or goes to the less-booked one beside the die. -/
def State.rebook (s : State) (fam inst die mbps bytes : Nat) : Except Refuse State :=
  let old := s.placer.hbm.find? (fun b => b.fam = fam ∧ b.inst = inst)
  let s' : State := { s with placer := { s.placer with hbm := s.placer.hbm.filter (fun b => ¬(b.fam = fam ∧ b.inst = inst)) } }
  let put (k : Nat) : State := { s' with placer := { s'.placer with hbm := s'.placer.hbm ++ [⟨fam, inst, k, mbps, bytes⟩] } }
  if mbps = 0 ∧ bytes = 0 then .ok s'
  else
    match old with
    | some b =>
      if s'.stackUp b.stack ∧ s'.stackShort b.stack mbps bytes = 0 then .ok (put b.stack)
      else (s'.bookBeside die mbps bytes).map put
    | none => (s'.bookBeside die mbps bytes).map put

/-- The source for which a scaler's window store is booked: that of its route, or of a take on its way. -/
def State.windowSource (s : State) (n : Nat) : Option Nat :=
  match s.scalerSource n with
  | some x => some x
  | none => (s.sw.takes.find? (fun r => r.dst = ⟨.video, 3072 + n⟩ ∧ r.pl.isSome)).map (fun r => idIdx r.src)

/-- A scaler's window store booked for its present settings and the layers that show it. -/
def State.rebookWindow (s : State) (n : Nat) : Except Refuse State :=
  match s.windowSource n with
  | none => .ok s
  | some x => let b := s.windowBook n (s.needFormat x); s.rebook 0x3A00 n (n / 64 / 8) b.1 b.2

/-- A layer's image or overlay buffers booked for its present content and size (R277). -/
def State.rebookLayer (s : State) (l : Nat) : Except Refuse State :=
  let c := s.nat (O.layer_content l)
  let bytes := s.nat (O.layer_width l) * s.nat (O.layer_height l) * 5
  if c = 2 ∨ c = 3 then
    let rate := match s.layerHead l with | some h => bookedRate (s.nat (O.head_format h)) | none => 0
    s.rebook 0x3900 l (l / 128 / 8) (windowMbps bytes rate) (2 * bytes)
  else s.rebook 0x3900 l 0 0 0

/-- The window stores of a list of scalers booked one after another. -/
def State.rebookWindows (s : State) (ns : List Nat) : Except Refuse State :=
  ns.foldl (fun r n => r.bind (fun st => st.rebookWindow n)) (.ok s)

/-- The scaler that a layer names. -/
def State.layerScaler (s : State) (l : Nat) : List Nat :=
  let n := s.nat (O.layer_scaler l)
  if n < 64 then [64 * (l / 128) + n] else []

/-! ## Ownership (R275, R276) -/

/-- A layer's owner as 3900h sub 17 codes it: on a standby a marked layer is owned by the twin. -/
def State.layerOwner (s : State) (l : Nat) : Nat :=
  if s.standby ∧ s.flag (O.layer_mirror l) then 2 else s.nat (O.layer_owner l)

/-- The writer is the twin mirror. -/
def fromTwin (w : Writer) : Bool := w.slot == 0

/-- The writing session owns the layer. -/
def State.ownsLayer (s : State) (w : Writer) (l : Nat) : Bool :=
  fromTwin w || (s.layerOwner l == 1 && s.nat (O.layer_owner_session l) == w.session && w.session != 0)

/-- The objects marked "owner" in Table 10.8. -/
def ownerSub (sub : Nat) : Bool :=
  (0x01 ≤ sub && sub ≤ 0x10) || sub == 0x12 || sub == 0x13 || sub == 0x14 || sub == 0x15 || sub == 0x16

/-- The session may write an "owner" object of a layer (R275). -/
def State.mayWriteLayer (s : State) (w : Writer) (l sub : Nat) : Bool :=
  s.ownsLayer w l || ((s.layerOwner l == 0 || (s.layerOwner l == 1 && s.nat (O.layer_owner_session l) == 0)) &&
    sub != 0x14 && sub != 0x15)

/-- A layer claimed, given to the renderer or released (R275). -/
def State.claimLayer (s : State) (w : Writer) (l v : Nat) : Nat × State :=
  let own (st : State) (o sess : Nat) : State := (st.setN (O.layer_owner l) o).setN (O.layer_owner_session l) sess
  let free : Bool := s.layerOwner l == 0 || (s.layerOwner l == 1 && s.nat (O.layer_owner_session l) == 0)
  match v with
  | 1 => if free || w.role == 3 || w.role == 4 then (0, own s 1 w.session) else (C.busy, s)
  | 2 => if s.ownsLayer w l || 2 ≤ w.role then (0, own s 0 0) else (C.notOwner, s)
  | 3 => if s.ownsLayer w l then (0, own s 1 0) else (C.notOwner, s)
  | _ => (C.range, s)

/-- The layers of a session become unclaimed when it closes (R275). -/
def State.releaseLayers (s : State) (session : Nat) : State :=
  if session = 0 then s
  else
    ((s.objs.filter (fun e => e.1.fam == 0x3900 && e.1.sub == 0x18 && e.2 == .n session)).map (fun e => e.1.inst)).foldl
      (fun st l => if st.nat (O.layer_owner l) = 1 then st.setN (O.layer_owner_session l) 0 else st) s

/-! ## Commits, fences and groups (R270 to R274) -/

/-- A fence that a commit still waits on (R271). -/
def State.fenceBars (s : State) (fence value : Nat) : Bool := fence != none16 && s.nat (O.fence_value fence) < value

/-- A fence and value as a commit keeps them: none where the fence has been reached already. -/
def State.fenceAt (s : State) (l : Nat) : Nat × Nat :=
  let f := s.nat (O.layer_fence l)
  let v := s.nat (O.layer_fence_value l)
  if s.fenceBars f v then (f, v) else (none16, 0)

/-- The commit group that a layer belongs to. -/
def State.layerGroup (s : State) (l : Nat) : Option Nat :=
  let g := s.nat (O.layer_group l)
  if g = none16 then none else some g

/-- The members of a commit group, ascending. -/
def State.commitMembers (s : State) (g : Nat) : List Nat :=
  (s.objs.filter (fun e => e.1.fam == 0x3900 && e.1.sub == 0x11 && e.1.inst < 2048 && e.2 == .n g)).map (fun e => e.1.inst)

/-- The pending commit of a group. -/
def State.groupPending (s : State) (g : Nat) : Option GroupCommit := s.comp.groups.find? (fun c => c.group = g)

/-- A layer's staged image waits for the twin's acknowledgement (R276). -/
def State.awaitsTwin (s : State) (l : Nat) : Bool := s.comp.waits.any (fun e => e.1 = l)

/-- A pending commit steeps: on its fence, or on the twin (R271, R276). -/
def State.steeps (s : State) (l fence value : Nat) : Bool := s.fenceBars fence value || s.awaitsTwin l

/-- A lone layer is steeping. -/
def State.layerSteeps (s : State) (l : Nat) : Bool :=
  s.comp.commits.any (fun c => c.layer = l ∧ s.steeps l c.fence c.value)

/-- A layer has a pending commit of its own, or its group has one: its rwi objects are busy. -/
def State.layerBusy (s : State) (l : Nat) : Bool :=
  s.comp.commits.any (fun c => c.layer = l) ||
    (match s.layerGroup l with | some g => (s.groupPending g).isSome | none => false)

/-- A lone layer commits (R270, R271): one that steeps has its pending commit replaced. A layer on no head has no flip
point to wait for. -/
def State.commitLayer (s : State) (l : Nat) : State :=
  match s.flipHead l with
  | none => s
  | some h =>
    let (f, v) := s.fenceAt l
    let c : Commit := ⟨l, s.firstFlip h, f, v⟩
    let old := if s.layerSteeps l then s.comp.commits.filter (fun c => c.layer ≠ l) else s.comp.commits
    { s with comp := { s.comp with commits := old ++ [c] } }

/-- An accepted write of a staged object commits a lone layer in auto mode (R270). -/
def State.autoCommit (s : State) (l : Nat) : State :=
  if s.nat (O.layer_commit_mode l) = 0 ∧ (s.layerGroup l).isNone then s.commitLayer l else s

/-- The commit object of a layer written 1 (R270). -/
def State.writeCommit (s : State) (l : Nat) (on : Bool) : Nat × State :=
  if (s.layerGroup l).isSome then (C.busy, s)
  else (0, if on then s.commitLayer l else s)

/-- The commit object of a group written 1 (R273): every member commits, each with its fence and value as they stand. A
commit of a group that has one pending replaces it (log entry 15). -/
def State.writeGroupCommit (s : State) (w : Writer) (g : Nat) (on : Bool) : Nat × State :=
  let ms := s.commitMembers g
  if !(ms.all (fun l => s.mayWriteLayer w l 0x14)) then (C.notOwner, s)
  else if !on ∨ ms.isEmpty then (0, s)
  else
    match ms.head?.bind s.flipHead with
    | none => (0, s)
    | some h =>
      let c : GroupCommit := ⟨g, s.firstFlip h, ms.map (fun l => (l, s.fenceAt l))⟩
      (0, { s with comp := { s.comp with groups := s.comp.groups.filter (fun c => c.group ≠ g) ++ [c] } })

/-- A layer joins a group, or leaves its own (R273, R274). -/
def State.writeGroup10 (s : State) (l g : Nat) : Nat × State :=
  let pending (x : Option Nat) : Bool := match x with | some y => (s.groupPending y).isSome | none => false
  if g ≠ none16 ∧ ¬(2048 + 16 * (l / 128) ≤ g ∧ g < 2064 + 16 * (l / 128)) then (C.range, s)
  else if pending (s.layerGroup l) then (C.busy, s)
  else if g ≠ none16 ∧ (pending (some g) ∨ s.nat (O.cgroup_head g) ≠ s.nat (O.layer_head l) ∨
      (s.commitMembers g).any (fun m => m ≠ l ∧ s.flag (O.layer_mirror m) ≠ s.flag (O.layer_mirror l))) then (C.busy, s)
  else (0, s.setN (O.layer_group l) g)

/-- A fence's value rises (R272): the commits that it reaches no longer wait on it. -/
def State.raiseFence (s : State) (f v : Nat) : Nat × State :=
  if v < s.nat (O.fence_value f) then (C.range, s)
  else
    let free (a b : Nat) : Nat × Nat := if a = f ∧ b ≤ v then (none16, 0) else (a, b)
    (0, { (s.setN (O.fence_value f) v) with comp := { s.comp with
      commits := s.comp.commits.map (fun c => let x := free c.fence c.value; { c with fence := x.1, value := x.2 }),
      groups := s.comp.groups.map (fun c => { c with members := c.members.map (fun m => (m.1, free m.2.1 m.2.2)) }) } })

/-- The commits that wait on a fence (Table 10.11). -/
def State.fenceWaiters (s : State) (f : Nat) : Nat :=
  (s.comp.commits.filter (fun c => c.fence = f)).length +
    sumBy (fun c => (c.members.filter (fun m => m.2.1 = f)).length) s.comp.groups

/-- A fence's reset written 1 (R272). -/
def State.resetFence (s : State) (f : Nat) (on : Bool) : Nat × State :=
  if s.fenceWaiters f ≠ 0 then (C.busy, s) else (0, if on then s.setN (O.fence_value f) 0 else s)

/-! ## Flips (R259 to R262, R270 to R274, R277) -/

/-- The staged objects of a layer. -/
def stagedKey (l : Nat) (k : Key) : Bool :=
  k.fam == 0x3900 && k.inst == l && l < 2048 && (k.sub ≤ 0x0F || k.sub == 0x16)

/-- The image buffers of a layer. -/
def State.imageOf (s : State) (l : Nat) : LayerImage :=
  match s.comp.images.find? (fun i => i.layer = l) with | some i => i | none => ⟨l, [], [], []⟩

/-- The image buffers of a layer set. -/
def State.putImage (s : State) (i : LayerImage) : State :=
  { s with comp := { s.comp with images := s.comp.images.filter (fun x => x.layer ≠ i.layer) ++
      (if i.front = [] ∧ i.back = [] ∧ i.palette = [] then [] else [i]) } }

/-- A layer flips: everything staged for it takes effect together, and its buffers change places, the back buffer
beginning as a copy of the front one (R277). -/
def State.flipLayer (s : State) (l : Nat) : State :=
  let s1 := (s.takeEffect (stagedKey l)).count (O.layer_flips l)
  let i := s1.imageOf l
  s1.putImage { i with front := i.back }

/-- A lone layer at a flip point of its head (R271): the latest of its eligible commits governs. On a standby a marked
layer that waits on a fence flips when its primary does, which no item of the twin link tells (log entry 16). -/
def State.flipLone (s : State) (now : Nat) (l : Nat) : State :=
  match ((s.comp.commits.filter (fun c => c.layer = l ∧ c.first ≤ now)).getLast?) with
  | none => s
  | some c =>
    let follow : Bool := s.standby && s.flag (O.layer_mirror l) && c.fence != none16 && s.freeNat (100 + l) % 2 == 1
    if s.steeps l c.fence c.value ∧ !follow then s.count (O.layer_steeped_frames l)
    else
      ({ s with comp := { s.comp with commits := s.comp.commits.filter (fun c => !(c.layer = l ∧ c.first ≤ now)) } } : State).flipLayer l

/-- The flip point at which a group's pending commit is dropped (R273). -/
def State.groupDeadline (s : State) (c : GroupCommit) (h : Nat) : Nat :=
  let f := s.nat (O.head_format h)
  let p := framePeriod f
  switchAtOrAfter f (s.int (O.head_timing_offset h)) (c.first + s.nat (O.cgroup_timeout c.group) * p - p / 2)

/-- A group at a flip point of its head (R273): every member flips, or none. -/
def State.flipGroup (s : State) (now : Nat) (c : GroupCommit) : State :=
  if now < c.first then s
  else
    let late := c.members.filter (fun m => s.steeps m.1 m.2.1 m.2.2)
    let follow : Bool := s.standby && s.freeNat (100 + c.group) % 2 == 1
    if !late.isEmpty ∧ !follow then late.foldl (fun st m => st.count (O.layer_steeped_frames m.1)) s
    else
      let s1 : State := { s with comp := { s.comp with groups := s.comp.groups.filter (fun x => x.group ≠ c.group) } }
      (c.members.foldl (fun (st : State) m => st.flipLayer m.1) s1).count (O.cgroup_flips c.group)

/-- A head's own values that take effect at its flip point: background and audio layer. -/
def headKey (h : Nat) (k : Key) : Bool := k.fam == 0x3800 && k.inst == h && (k.sub == 0x09 || k.sub == 0x0A)

/-- The routes of a head's source follow its channels again when its audio layer changes (R279). -/
def State.refollow (s : State) (x : Nat) : State :=
  (s.sw.routes.filter (fun r => r.dst.ess = .video && r.pl.src == s.srcId 0 x && !r.follows)).foldl
    (fun st r => st.applyFollow r.dst.idx) s

/-- A flip point of a head (R271 to R274). -/
def State.flipPoint (s : State) (h : Nat) : State :=
  let now := s.tbNow (s.nat (O.head_time_base h))
  let was := s.headAudioSource h
  let s1 := s.takeEffect (headKey h)
  let lone := nub ((s1.comp.commits.filter (fun c => s1.flipHead c.layer = some h)).map (fun c => c.layer))
  let s2 := lone.foldl (fun st l => st.flipLone now l) s1
  let s3 := (s2.comp.groups.filter (fun c => match c.members.head? with | some m => s2.flipHead m.1 = some h | none => false)).foldl
    (fun st c => st.flipGroup now c) s2
  if s3.headAudioSource h = was then s3 else s3.refollow (3072 + h)

/-- A layer of content 1 that shows its fallback (R264, R267): its scaler has no source, or an absent one, or can write
nothing of it. -/
def State.layerFallback (s : State) (l : Nat) : Bool :=
  s.natNow (O.layer_content l) == 1 &&
    (let n := s.natNow (O.layer_scaler l)
     if 64 ≤ n then true
     else
       match s.scalerSource (64 * (l / 128) + n) with
       | none => true
       | some x => !s.vsrcPresent x || s.scalerFell (64 * (l / 128) + n))

/-- The newest complete window frame that a video layer reads at its head's read instant: on a standby the one that the
primary reads (R262, R421). 0 is none. -/
def State.windowFrame (s : State) (l : Nat) : Nat :=
  match kfind s.comp.told l with
  | some f => if s.standby then f else (s.scalerRec (64 * (l / 128) + s.natNow (O.layer_scaler l))).newest
  | none => (s.scalerRec (64 * (l / 128) + s.natNow (O.layer_scaler l))).newest

/-- One layer at its head's read instant: a video layer that is not on its fallback takes the newest complete frame and
keeps it for the whole frame; on its fallback it keeps what it showed (R262, R267). -/
def State.readLayer (s : State) (l : Nat) : State :=
  if s.natNow (O.layer_content l) = 1 ∧ !s.layerFallback l then
    let f := s.windowFrame l
    ({ s with comp := { s.comp with shown := kput s.comp.shown l f, told := kdel s.comp.told l } } : State).mirror
      (.readDecision (4096 + l) f)
  else s

/-- A head's read instant (R262): its visible layers read, and the frame is composed. -/
def State.headRead (s : State) (h : Nat) : State :=
  let o := s.vsrcOffset (3072 + h)
  if s.nat (O.head_class h) = 0 ∨ s.realigning o.2 (s.nat (O.head_format h)) o.1 then s
  else
    let ls := (s.stackNow h).filter (fun l => s.natNow (O.layer_visible l) ≠ 0)
    let s1 := (s.stackNow h).foldl (fun st l => st.readLayer l) s
    (s1.count (O.head_frames h)).emit (.composed h (s1.natNow (O.head_background h))
      (ls.map (fun l => (l, (kfind s1.comp.shown l).getD 0))))

/-! ## Pixels (R259 to R261, R277) -/

/-- A pixel: Y, Cb and Cr as 10-bit codes, and alpha 0 to 1 023. -/
structure Pixel where
  y : Nat
  cb : Nat
  cr : Nat
  a : Nat
  deriving DecidableEq, Repr

/-- The pixel of a colour word (Table 10.1), opaque. -/
def colourPixel (w : Nat) : Pixel := ⟨w / 1048576 % 1024, w / 1024 % 1024, w % 1024, 1023⟩

/-- A result of composition as a code: the exact value `num` / `den` rounded to a code beside it, the spec giving no
rounding (`up` is free, log entry 17), and clipped to 4 to 1 019 (R260). -/
def clipCode (num : Int) (den : Nat) (up : Bool) : Nat :=
  let q := num.fdiv den
  let v := if up ∧ q * den ≠ num then q + 1 else q
  (max 4 (min 1019 v)).toNat

/-- Table 10.2, alpha over: `a` / `d` of the layer on the rest of what is below. -/
def alphaOver (up : Bool) (a d : Nat) (l b : Nat) : Nat := clipCode ((a : Int) * l + ((d : Int) - a) * b) d up

/-- Table 10.2: one layer pixel blended onto the pixel below it. -/
def blendPixel (up : Bool) (mode opacity keyLow keyHigh : Nat) (invert : Bool) (l b : Pixel) : Pixel :=
  let d : Nat := 1023 * 1024
  let a := l.a * opacity
  match mode with
  | 1 =>
    ⟨clipCode ((d : Int) * b.y + (a : Int) * ((l.y : Int) - 64)) d up,
     clipCode ((d : Int) * b.cb + (a : Int) * ((l.cb : Int) - 512)) d up,
     clipCode ((d : Int) * b.cr + (a : Int) * ((l.cr : Int) - 512)) d up, b.a⟩
  | 2 =>
    let span := keyHigh - keyLow
    let k := min span (l.y - keyLow)
    let k := (if invert then span - k else k) * opacity
    let e := span * 1024
    ⟨alphaOver up k e l.y b.y, alphaOver up k e l.cb b.cb, alphaOver up k e l.cr b.cr, b.a⟩
  | _ => ⟨alphaOver up a d l.y b.y, alphaOver up a d l.cb b.cb, alphaOver up a d l.cr b.cr, b.a⟩

/-- A layer's pixel at a place of its own: `window` gives the pixels of a window frame, and `drawn` those of an image or an
overlay, which the model leaves to its reader. None where the layer is transparent (R261, R267). -/
def State.layerPixel (s : State) (window : Nat → Nat → Nat → Nat → Pixel) (drawn : Nat → Nat → Nat → Pixel) (l x y : Nat) :
    Option Pixel :=
  match s.natNow (O.layer_content l) with
  | 1 =>
    if s.layerFallback l ∧ s.natNow (O.layer_fallback l) = 1 then some (colourPixel (s.natNow (O.layer_colour l)))
    else
      match kfind s.comp.shown l with
      | some f => if f = 0 then none else some { window l f x y with a := 1023 }
      | none => none
  | 2 => some (drawn l x y)
  | 3 => some (drawn l x y)
  | 4 => some (colourPixel (s.natNow (O.layer_colour l)))
  | _ => none

/-- The width and height of a layer on its head's raster (R261). -/
def State.layerSize (s : State) (l : Nat) : Nat × Nat :=
  if s.natNow (O.layer_content l) = 1 then
    let n := 64 * (l / 128) + s.natNow (O.layer_scaler l)
    (s.natNow (O.scaler_out_width n), s.natNow (O.scaler_out_height n))
  else (s.natNow (O.layer_width l), s.natNow (O.layer_height l))

/-- One layer laid on the pixel below it at a place of the head's raster; a layer that is not visible, or does not reach
the place, leaves it (R260, R261). -/
def State.layOn (s : State) (up : Bool) (window : Nat → Nat → Nat → Nat → Pixel) (drawn : Nat → Nat → Nat → Pixel)
    (x y : Nat) (b : Pixel) (l : Nat) : Pixel :=
  let dx : Int := x - s.intNow (O.layer_x l)
  let dy : Int := y - s.intNow (O.layer_y l)
  let sz := s.layerSize l
  if s.natNow (O.layer_visible l) = 0 ∨ dx < 0 ∨ dy < 0 ∨ (sz.1 : Int) ≤ dx ∨ (sz.2 : Int) ≤ dy then b
  else
    match s.layerPixel window drawn l dx.toNat dy.toNat with
    | none => b
    | some p =>
      blendPixel up (s.natNow (O.layer_blend l)) (s.natNow (O.layer_opacity l)) (s.natNow (O.layer_key_low l))
        (s.natNow (O.layer_key_high l)) (s.natNow (O.layer_key_invert l) != 0) p b

/-- The pixel that a head composes at a place of its raster: its background, and its layers in ascending z (R259). -/
def State.headPixel (s : State) (up : Bool) (window : Nat → Nat → Nat → Nat → Pixel) (drawn : Nat → Nat → Nat → Pixel)
    (h x y : Nat) : Pixel :=
  (s.stackNow h).foldl (fun b l => s.layOn up window drawn x y b l) (colourPixel (s.natNow (O.head_background h)))

/-! ## Images and elements (R277, R278) -/

/-- An image value as Table 10.4 lays it out, judged against the layer (R277): the rectangle and the palette after it, or
the code of the refusal. -/
def State.judgeImage (s : State) (l : Nat) (b : Bytes) : Except Nat (ImageRect × Bytes) :=
  let fmt := field b 0 1
  let flags := field b 1 1
  let x := field b 2 2
  let y := field b 4 2
  let w := field b 6 2
  let h := field b 8 2
  let pal := flags % 2 = 1
  let base := if pal then 1036 else 12
  let palette := if pal then slice b 12 1024 else (s.imageOf l).palette
  if b.length < 12 ∨ 1 < fmt ∨ 1 < flags ∨ field b 10 2 ≠ 0 ∨ w = 0 ∨ h = 0 then .error C.range
  else if s.nat (O.layer_width l) < x + w ∨ s.nat (O.layer_height l) < y + h then .error C.range
  else if b.length ≠ base + w * h * (if fmt = 0 then 4 else 1) then .error C.range
  else if fmt = 1 ∧ palette = [] then .error C.range
  else .ok (⟨fmt, x, y, w, h, if fmt = 1 then palette else [], b.drop base⟩, palette)

/-- A rectangle wholly covers another. -/
def ImageRect.covers (a b : ImageRect) : Bool := a.x ≤ b.x && a.y ≤ b.y && b.x + b.w ≤ a.x + a.w && b.y + b.h ≤ a.y + a.h

/-- An image written: its rectangle is laid on the back buffer. That of a marked layer goes to the twin, whose
acknowledgement the layer's flip waits for (R276). -/
def State.writeImage (s : State) (l : Nat) (b : Bytes) : Nat × State :=
  match s.judgeImage l b with
  | .error c => (c, s)
  | .ok (r, pal) =>
    let i := s.imageOf l
    let s1 := s.putImage { i with back := i.back.filter (fun x => !r.covers x) ++ [r], palette := pal }
    let seq := s1.twin.seq
    let s2 := if s1.flag (O.layer_mirror l) then s1.mirror (.image l b) else s1
    let s3 : State := if s2.flag (O.layer_mirror l) ∧ s2.primary then
        { s2 with comp := { s2.comp with waits := s2.comp.waits.filter (fun e => e.1 ≠ l) ++ [(l, seq, s2.now)] } }
      else s2
    (0, s3.autoCommit l)

/-- One element record is within Table 10.5. -/
def elementOk (r : Bytes) : Bool :=
  let kind := field r 0 1
  let param := field r 1 1
  1 ≤ kind && kind ≤ 6 && 8 ≤ field r 6 2 && 8 ≤ field r 8 2 && field r 18 2 == 0 &&
    (match kind with | 2 => param ≤ 3 | 3 => param ≤ 1 | 4 => param ≤ 2 | 5 => param ≤ 2 | _ => true)

/-- The overlay layers of the chip. -/
def State.overlays (s : State) : List Nat :=
  (s.objs.filter (fun e => e.1.fam == 0x3900 && e.1.sub == 0x02 && e.1.inst < 2048 && e.2 == .n 3)).map (fun e => e.1.inst)

/-- An element list written (R278). -/
def State.writeElements (s : State) (l : Nat) (b : Bytes) : Nat × State :=
  if b.length % 32 ≠ 0 ∨ 64 < b.length / 32 ∨ !((records 32 b).all elementOk) then (C.busy, s)
  else (0, (s.setLater (O.layer_elements l) (.b b)).autoCommit l)

/-! ## Attributes of a layer (R259, R260, R262, R270, R273, R274, R277) -/

/-- A head may take the layer at a z: at most 64 layers, and distinct z (R259). -/
def State.headTakes (s : State) (h l z : Nat) : Bool :=
  let others := (s.headLayers h).filter (fun m => m ≠ l)
  others.length < 64 && !(others.any (fun m => s.nat (O.layer_z m) = z))

/-- A staged attribute of a layer written: the checks of its rules, its bookings, and in auto mode the commit. -/
def State.writeAttr (s : State) (l sub : Nat) (v : Val) : Nat × State :=
  let n := v.int.toNat
  let s1 := s.setLater ⟨0x3900, l, sub⟩ v
  let bad : Nat :=
    match sub with
    | 0x00 => if (s.layerGroup l).isSome then C.busy
        else if n < 4 ∧ !s.headTakes (4 * (l / 128) + n) l (s.nat (O.layer_z l)) then C.busy else 0
    | 0x01 => match s.layerHead l with | some h => if s.headTakes h l n then 0 else C.busy | none => 0
    | 0x02 => if n = 3 ∧ 256 ≤ (s.overlays.filter (fun m => m ≠ l)).length then C.busy else 0
    | 0x0A => if s.nat (O.layer_key_high l) ≤ n then C.range else 0
    | 0x0B => if n ≤ s.nat (O.layer_key_low l) then C.range else 0
    | 0x0D => if 2 ^ 30 ≤ n then C.range else 0
    | _ => 0
  if bad ≠ 0 then (bad, s)
  else
    let clear := if sub = 0x06 ∨ sub = 0x07 then s1.putImage { s1.imageOf l with back := [] } else s1
    match (clear.rebookLayer l).bind (fun st => st.rebookWindows (nub (s.layerScaler l ++ st.layerScaler l))) with
    | .error r => (r.1, s)
    | .ok st => (0, st.autoCommit l)

/-- A write of a layer's object (Table 10.8); none where it has no behaviour of its own. -/
def State.writeLayer (s : State) (w : Writer) (l sub : Nat) (v : Val) : Option (Nat × State) :=
  let n := v.int.toNat
  if ownerSub sub ∧ !s.mayWriteLayer w l sub then some (C.notOwner, s)
  else
    match sub with
    | 0x11 => some (s.writeGroup10 l n)
    | 0x14 => some (s.writeCommit l (n = 1))
    | 0x15 => some (s.writeImage l v.oct)
    | 0x16 => some (s.writeElements l v.oct)
    | 0x19 => some (s.claimLayer w l n)
    | 0x1A => some (if (s.layerGroup l).isSome then (C.busy, s) else (0, s.setN (O.layer_mirror l) n))
    | _ => if sub ≤ 0x0F then some (s.writeAttr l sub v) else none

/-! ## Scalers (R264 to R268) -/

/-- The scaler's allocation, and its window store, follow an accepted write (R262, R266). -/
def State.reallocate (s : State) (n : Nat) : Except Nat State :=
  let al := s.allocsFor n (s.needNow n)
  if poolPixels < s.poolAfter (n / 64) al ∧ s.poolBooked (n / 64) < s.poolAfter (n / 64) al then .error C.lineBuf
  else
    match (al.foldl (fun st e => st.setN (O.scaler_allocation e.1) e.2) s).rebookWindow n with
    | .error r => .error r.1
    | .ok st => .ok (al.foldl (fun st e => st.reviewScaler e.1) st)

/-- Crop, size or taps of a scaler written (R264, R266): they take effect at its source's next frame start. -/
def State.writeScaler (s : State) (n sub : Nat) (v : Val) : Nat × State :=
  match (s.setLater ⟨0x3A00, n, sub⟩ v).reallocate n with
  | .error c => (c, s)
  | .ok st => (0, st)

/-- Two scalers paired, or a pair undone (R268). -/
def State.writePair (s : State) (n m : Nat) : Nat × State :=
  if m = none8 then
    match s.pairWith n with
    | none => (0, s)
    | some o =>
      let s1 := (s.setN (O.scaler_pair_with n) none8).setN (O.scaler_pair_with o) none8
      let al := [(n, s1.needNow n), (o, s1.needNow o)]
      if poolPixels < s1.poolAfter (n / 64) al then (C.lineBuf, s)
      else (0, al.foldl (fun st e => (st.setN (O.scaler_allocation e.1) e.2).reviewScaler e.1) s1)
  else
    let o := 64 * (n / 64) + m
    if o = n then (C.range, s)
    else if (s.pairWith n).isSome ∨ (s.pairWith o).isSome then (C.busy, s)
    else
      let a := max (s.needNow n) (s.needNow o)
      let s1 := (s.setN (O.scaler_pair_with n) m).setN (O.scaler_pair_with o) (n % 64)
      (0, [n, o].foldl (fun st i => (st.setN (O.scaler_allocation i) a).reviewScaler i) s1)

/-! ## Heads' other objects (R257, R259, R279) -/

/-- The audio layer of a head written (R279): a layer of this head, whose side area can be booked. -/
def State.writeAudioLayer (s : State) (h l : Nat) : Nat × State :=
  if l ≠ none16 ∧ ¬(l < 2048 ∧ s.layerHead l = some h) then (C.range, s)
  else
    let old := s.nat (O.head_audio_layer h)
    let s1 := s.setLater (O.head_audio_layer h) (.n l)
    match s1.rebookWindows (nub ((if old < 2048 then s.layerScaler old else []) ++ (if l < 2048 then s.layerScaler l else []))) with
    | .error _ => (C.hbmBw, s)
    | .ok st => (0, st)

/-- A write of the composition families; none where it has no behaviour of its own. -/
def State.writeComposition (s : State) (w : Writer) (k : Key) (v : Val) : Option (Nat × State) :=
  let n := v.int.toNat
  match k.fam with
  | 0x3800 =>
    match k.sub with
    | 0x00 => some (s.writeClass k.inst n)
    | 0x04 => if (framePeriod (s.nat (O.head_format k.inst)) : Int) < v.int.natAbs then some (C.range, s) else none
    | 0x06 => some (s.bindPort k.inst n)
    | 0x09 => some (if 2 ^ 30 ≤ n then (C.range, s) else (0, s.setLater k v))
    | 0x0A => some (s.writeAudioLayer k.inst n)
    | _ => none
  | 0x3900 =>
    if k.inst < 2048 then s.writeLayer w k.inst k.sub v
    else if k.sub = 0x02 then some (s.writeGroupCommit w k.inst (n = 1)) else none
  | 0x3A00 =>
    if k.sub ≤ 6 then some (s.writeScaler k.inst k.sub v)
    else if k.sub = 7 then some (s.writePair k.inst n) else none
  | 0x3B00 =>
    match k.sub with
    | 0x00 => some (s.raiseFence k.inst n)
    | 0x02 => some (s.resetFence k.inst (n = 1))
    | _ => none
  | _ => none

end Sys2Proof.Machine
end

