-- ==== Sys2Proof/Machine/Audio.lean ====
section
/-! DEFINITION. Audio (R284 to R312): destination processing, serial audio ports, ASRC, AES3 ports and loudness: the
behaviour of their writes, and the commands of chapter 11 that are not writes. -/

namespace Sys2Proof.Machine

/-! ## Destination processing (R285 to R291, R194) -/

/-- A word of the audio matrix (Table 11.1). -/
structure AudioWord where
  nonPcm : Bool
  blockStart : Bool
  v : Bool
  u : Bool
  c : Bool
  sample : Int
  deriving DecidableEq, Repr

/-- A sample rounded to 24 bits is saturated (R289); the second part tells whether it was. -/
def saturate24 (x : Int) : Int × Bool :=
  if x < -8388608 then (-8388608, true) else if 8388607 < x then (8388607, true) else (x, false)

/-- What polarity, gain and mute make of a word (R285, R289), for a gain of `num` / `den` (0 for −∞), rounded to the nearest.
A non-PCM word ignores polarity and gain, but for a mute or a gain of −∞; the second part tells a saturated sample. -/
def processWord (invert : Bool) (num den : Nat) (muted : Bool) (w : AudioWord) : AudioWord × Bool :=
  if muted ∨ num = 0 then (⟨w.nonPcm, false, false, false, false, 0⟩, false)
  else if w.nonPcm then (w, false)
  else
    let x := saturate24 (roundDiv ((if invert then -w.sample else w.sample) * num) den)
    ({ w with sample := x.1 }, x.2)

/-- A change that ramps is noted with the value it leaves (R290). -/
def State.ramp (s : State) (d sub : Nat) : State :=
  let old := s.int ⟨0x4100, d, sub⟩
  { s with audio := { s.audio with
    ramps := s.audio.ramps.filter (fun r => !(r.d = d ∧ r.sub = sub)) ++ [⟨d, sub, old, s.now⟩] } }

/-- How much of a ramp has passed, in permille: linear in amplitude over 4100h sub 07 (R290). -/
def State.rampDone (s : State) (d sub : Nat) : Nat :=
  let ms := s.nat (O.adest_ramp d)
  match s.audio.ramps.find? (fun r => r.d = d ∧ r.sub = sub) with
  | none => 1000
  | some r => if ms = 0 then 1000 else min 1000 ((s.now - r.since) / (ms * 1000))

/-- Gain, mute or polarity written (R290). -/
def State.writeLevel (s : State) (d sub : Nat) (v : Val) : Nat × State := (0, (s.ramp d sub).set ⟨0x4100, d, sub⟩ v)

/-- What a delay of so many µs books in HBM: Mb/s, and bytes in blocks of 65 536 (R194). Its streams of 3.84 or
7.68 Mb/s are booked in whole Mb/s (log entry 19). -/
def State.delayBook (s : State) (d us : Nat) : Nat × Nat :=
  if us ≤ 2000 then (0, 0)
  else
    let hz := if s.dstRate d = 4 then 96000 else 48000
    (if hz = 96000 then 8 else 4, ceilDiv (ceilDiv (us * hz) 1000000 * 4) 65536 * 65536)

/-- A delay written (R194, R290): refused HBM_BW where it cannot be booked. -/
def State.writeDelay (s : State) (d us : Nat) : Nat × State :=
  let b := s.delayBook d us
  match s.rebook 0x4100 d (s.adstTile d / 8) b.1 b.2 with
  | .error _ => (C.hbmBw, s)
  | .ok st => (0, (st.ramp d 6).setN (O.adest_delay d) us)

/-- The ASRC channels of a source read non-PCM while its words are not PCM, and acquire again after (R302). -/
def State.reviewAsrc (s : State) (src : Nat) : State :=
  (s.placer.asrc.filter (fun a => a.src = src)).foldl (fun st a =>
    let k := O.asrc_state (1 + a.ch)
    if st.nonPcm src then st.setN k 3 else if st.nat k = 3 then st.setN k 1 else st) s

/-! ## Serial audio ports (R293 to R300) -/

/-- The frame rate of a direction in Hz. -/
def State.sapHz (s : State) (dir : Nat) : Nat := rateHz (s.nat (O.sap_rate dir))

/-- The record of a direction that is armed or runs. -/
def State.sap (s : State) (dir : Nat) : Option SapRec := s.audio.saps.find? (fun r => r.dir = dir)

/-- The record of a direction set. -/
def State.putSap (s : State) (r : SapRec) : State :=
  { s with audio := { s.audio with saps := s.audio.saps.filter (fun x => x.dir ≠ r.dir) ++ [r] } }

/-- A direction stops: it leaves its companion group (R300). -/
def State.stopSap (s : State) (dir : Nat) : State :=
  ((({ s with audio := { s.audio with saps := s.audio.saps.filter (fun x => x.dir ≠ dir) } } : State).setN (O.sap_state dir) 0).setN
    (O.sap_companion dir) 0).setF (O.sap_run dir) false

/-- The directions of the start set (R299), by 4200h instance. -/
def State.startSet (s : State) : List Nat :=
  ((List.range 32).filter (fun n => s.bit O.sapAll_start_rx n)).map (fun n => 1 + 2 * n) ++
    ((List.range 32).filter (fun n => s.bit O.sapAll_start_tx n)).map (fun n => 2 + 2 * n)

/-- The direction stands in an armed set that has not started. -/
def State.inArmedSet (s : State) (dir : Nat) : Bool := (s.sap dir).any (fun r => r.grid.isNone)

/-- The start set is armed (R299). -/
def State.armStart (s : State) : Nat × State :=
  let set := s.startSet
  if set.isEmpty then (C.range, s)
  else if set.any (fun d => s.nat (O.sap_state d) ≠ 0) then (C.busy, s)
  else
    (0, (set.foldl (fun st d => (st.putSap ⟨d, none, none, 0, s.now, 0, false, [], 0⟩).setN (O.sap_state d) 1) s).setN
      O.sapAll_trigger_state 1)

/-- The set is disarmed, before its start instant (R299). -/
def State.disarmStart (s : State) : Nat × State :=
  match s.nat O.sapAll_trigger_state with
  | 2 => (C.tooLate, s)
  | 1 =>
    (0, ((s.audio.saps.filter (fun r => r.grid.isNone)).foldl (fun st r => st.stopSap r.dir) s).setN O.sapAll_trigger_state 0)
  | _ => (0, s)

/-- The start instant of the armed set, on TB0 (R299): each direction may start from its grid instant at least 2 µs later,
and the set is one companion group (R300). -/
def State.fireStart (s : State) (at' : Nat) : State :=
  let set := (s.audio.saps.filter (fun r => r.grid.isNone)).map (fun r => r.dir)
  let used := (List.range 64).map (fun d => s.nat (O.sap_companion (1 + d)))
  let g := s.pick used 1 65535 65
  let s1 : State := { s with audio := { s.audio with
    startAt := none,
    saps := s.audio.saps.map (fun r => if r.grid.isNone then { r with grid := some (gridAtOrAfter (s.sapHz r.dir) (at' + 2000)) } else r) } }
  (set.foldl (fun st d => (st.setN (O.sap_companion d) (g.getD 0)).setF (O.sap_run d) true) s1).setN O.sapAll_trigger_state 2

/-- A direction is started alone at its next grid instant, or stops at the end of its frame (R300). -/
def State.writeRun (s : State) (dir : Nat) (run : Bool) : Nat × State :=
  if s.inArmedSet dir then (if run then (C.busy, s) else (0, s))
  else if run then
    match s.sap dir with
    | some _ => (0, s)
    | none =>
      (0, ((s.putSap ⟨dir, some (gridAtOrAfter (s.sapHz dir) (s.tbNow 0)), none, 0, s.now, 0, false, [], 0⟩).setN (O.sap_state dir) 1).setF
        (O.sap_run dir) true)
  else
    match s.sap dir with
    | none => (0, s)
    | some r => (0, if r.first.isNone ∨ s.nat (O.sap_state dir) = 3 then s.stopSap dir
        else (s.putSap { r with stopping := true }).setF (O.sap_run dir) false)

/-- The objects of a direction that take effect at a TDM frame (R296). -/
def sapKey (dir : Nat) (k : Key) : Bool :=
  k.fam == 0x4200 && k.inst == dir && dir != 0 && (k.sub == 0x0A || k.sub == 0x0B || k.sub == 0x0E)

/-- Two slot times of a direction, in ns rounded up (R296). -/
def State.twoSlots (s : State) (dir : Nat) : Nat := ceilDiv (2 * nsPerSec) (s.sapHz dir * max 1 (s.nat (O.sap_slots dir)))

/-- Mask, packing or idle drive written: in force at the first frame at least two slot times later; a direction that is
stopped has them in force at once. -/
def State.writeFrameKey (s : State) (dir sub : Nat) (v : Val) : Nat × State :=
  let k : Key := ⟨0x4200, dir, sub⟩
  match s.sap dir with
  | none => (0, let s1 := s.set k v; if sub = 0x0B then s1.set (O.sap_mask_in_force dir) v else s1)
  | some r => (0, (s.setLater k v).putSap { r with wroteAt := s.now })

/-- The mask and packing written come into force with a frame (R296). -/
def State.frameKeys (s : State) (dir : Nat) : State :=
  let s1 := s.takeEffect (sapKey dir)
  s1.setN (O.sap_mask_in_force dir) (s1.nat (O.sap_slot_mask dir))

/-- TB0 has stepped, and a master direction's first new grid instant has not come (R359). -/
def State.sapRealigning (s : State) (dir : Nat) : Bool :=
  s.nat (O.sap_clock_role dir) == 1 &&
    (match s.tbs[0]? with
     | some b => b.stepped != 0 && decide (s.tbNow 0 < gridAtOrAfter (s.sapHz dir) b.stepped)
     | none => false)

/-- A TDM frame of a direction starts (R295, R296, R299, R300). -/
def State.tdmFrame (s : State) (dir : Nat) (fits : Bool) : State :=
  match s.sap dir with
  | none => s
  | some r =>
    let begins : Bool := match r.grid with | some g => r.first.isSome || g ≤ s.tbNow 0 | none => false
    if r.stopping then s.stopSap dir
    else if !begins ∨ s.nat (O.sap_state dir) = 3 then s
    else
      let s1 := if r.first.isNone ∨ r.wroteAt + s.twoSlots dir ≤ s.now then s.frameKeys dir else s
      let ring := r.ring ++ [(s1.nat (O.sap_mask_in_force dir), s1.natNow (O.sap_packing dir))]
      let first := r.first.getD (s.tbNow 0)
      let s2 := (s1.putSap { r with
          first := some first, frames := r.frames + 1, latest := s.now,
          ring := if 64 < ring.length then ring.drop (ring.length - 64) else ring, data := s.free }).setN (O.sap_state dir) 2
      let s3 := if fits then s2 else s2.count (O.sap_underruns dir)
      s3.emit (.tdm dir r.frames (!fits || s.sapRealigning dir))

/-- The bytes of one sample in a packing (Table 11.6). -/
def packBytes (packing : Nat) : Nat := if packing = 0 then 3 else 4

/-- One sample in its packing (Table 11.6). -/
def packSample (packing : Nat) (x : Int) : Bytes :=
  let b := beBytes 3 (twos 24 x)
  match packing with
  | 0 => b
  | 1 => b ++ [0]
  | 2 => (if x < 0 then [0xFF] else [0]) ++ b
  | _ => [0] ++ b

/-- A sample memory as 4200h sub 12 returns it (R295): the frames in order, each with its enabled slots ascending. The
samples themselves are free values (log entry 18). -/
def SapRec.capture (r : SapRec) : Bytes :=
  (r.ring.zip (List.range r.ring.length)).flatMap (fun e =>
    ((List.range 64).filter (fun sl => Machine.bit e.1.1 sl)).flatMap (fun sl =>
      packSample e.1.2 (signedOf 24 (Config.free r.data (64 * e.2 + sl) % 16777216))))

/-- A measurement departs more than 0.5 % from a rate. -/
def offRate (mhz ref : Nat) : Bool := 5 * ref < 1000 * (if mhz < ref then ref - mhz else mhz - ref)

/-- The nearest standard rate of a measurement belongs to the 44.1 kHz family (R297). -/
def family441 (mhz : Nat) : Bool :=
  let dist (r : Nat) : Nat := if mhz < r then r - mhz else mhz - r
  match minBy dist [44100000, 88200000, 176400000, 48000000, 96000000, 192000000] with
  | some r => r % 44100000 == 0
  | none => false

/-- A direction measures its frame rate (R297): rate events, SAP_RATE, and the confirmation of a declared DPLL over 10 s. -/
def State.sapMeasure (s : State) (dir mhz ppb : Nat) : State :=
  let last := (kfind s.audio.rates dir).getD 0
  let s1 := s.setN (O.sap_measured_rate dir) mhz
  let event : Bool := last ≠ 0 ∧ (offRate mhz last ∨ family441 mhz ≠ family441 last)
  let s2 : State := if last = 0 ∨ event then { s1 with audio := { s1.audio with rates := kput s1.audio.rates dir mhz } } else s1
  let s3 := if event then (s2.count (O.sap_rate_events dir)).strike F.sapRateChange dir mhz else s2
  let off (st : State) (d : Nat) : Bool :=
    st.nat (O.sap_state d) == 2 && offRate (st.nat (O.sap_measured_rate d)) (st.sapHz d * 1000)
  let s4 := s3.followShared F.sapRate dir mhz (off s3 dir) ((List.range 64).any (fun i => 1 + i ≠ dir ∧ off s3 (1 + i)))
  let since := match kfind s4.audio.within dir with | some x => x | none => s4.now
  let a := s4.audio
  if s4.nat (O.sap_clock_role dir) = 0 ∧ s4.nat (O.sap_declared_dpll dir) ≠ none8 ∧ ppb ≤ 1000 then
    { s4 with audio := { a with
      within := kput a.within dir since,
      confirmed := if since + 10 * nsPerSec ≤ s4.now ∧ !a.confirmed.contains dir then a.confirmed ++ [dir] else a.confirmed } }
  else { s4 with audio := { a with within := kdel a.within dir, confirmed := a.confirmed.filter (fun d => d ≠ dir) } }

/-- The limits of a direction (R293): slots and bit clock. -/
def sapFits (rate slots width : Nat) : Bool :=
  slots * (if width = 0 then 16 else if width = 1 then 24 else 32) * rateHz rate ≤ 98304000 && (rate == 0 || slots ≤ 32)

/-! ## Loudness (R305, R306) -/

/-- The members of a loudness group: identifier and role. -/
def loudMembers (b : Bytes) : List (Nat × Nat × Nat) := (records 8 b).map (fun r => (field r 0 4, field r 4 1, field r 5 3))

/-- A member list is as R305 lays it down. -/
def membersOk (b : Bytes) : Bool :=
  b.length % 8 == 0 && 1 ≤ b.length / 8 && b.length / 8 ≤ 16 &&
    (loudMembers b).all (fun m => m.2.1 ≤ 6 && m.2.2 == 0 && idShape m.1 == 0 && idEss m.1 == 1)

/-- The clock domain and rate of a loudness member, or none where its index is absent. -/
def State.memberClock (s : State) (i : Nat) : Option (Nat × Nat) :=
  if idShape i ≠ 0 ∨ idEss i ≠ 1 ∨ !s.idHere i ∨ s.idUnit 1 (idDir i) (idIdx i) ≠ 0 then none
  else if idDir i = 1 then some (s.dstDomain (idIdx i), s.dstRate (idIdx i))
  else some (s.srcDomain (idIdx i), s.audioRate (idIdx i))

/-- A loudness group enabled or disabled (R305). -/
def State.enableLoud (s : State) (g : Nat) (on : Bool) : Nat × State :=
  if !on then (0, s.setF (O.loud_enable g) false)
  else
    let ms := (loudMembers (s.oct (O.loud_members g))).map (fun m => s.memberClock m.1)
    if ms.isEmpty ∨ ms.any (fun m => m.isNone) then (C.range, s)
    else if ms.any (fun m => m ≠ ms.headD none) then (C.type, s)
    else (0, s.setF (O.loud_enable g) true)

/-- A status bit of a loudness group is set: each setting raises LOUDNESS_ALARM (R306). -/
def State.loudAlarm (s : State) (g bit : Nat) (on : Bool) : State :=
  if on ∧ !(s.bit (O.loud_status g) bit) then
    (s.setBit (O.loud_status g) bit true).strike (F.loudnessAlarm ((g - 1) / 64)) g bit
  else s

/-- Since when the short-term loudness of a group stands above (true) or below its tolerance. -/
def State.loudSince (s : State) (g : Nat) (above : Bool) : Option Nat :=
  (s.audio.alarms.find? (fun a => a.1 = g ∧ a.2.1 = above)).map (fun a => a.2.2)

/-- A loudness group updates its measures, every 100 ms (R305, R306). -/
def State.loudUpdate (s : State) (g : Nat) (m : LoudMeas) : State :=
  let clear := s.audio.resets.contains g
  let tgt := s.int (O.loud_target g)
  let tol : Int := s.nat (O.loud_tolerance g)
  let side (above : Bool) : Bool :=
    m.shortTerm != -32768 && (if above then decide (tgt + tol < m.shortTerm) else decide (m.shortTerm < tgt - tol))
  let keep (above : Bool) : List (Nat × Bool × Nat) :=
    if side above then [(g, above, (s.loudSince g above).getD s.now)] else []
  let s1 : State := { s with audio := { s.audio with
    resets := s.audio.resets.filter (fun x => x ≠ g),
    alarms := s.audio.alarms.filter (fun a => a.1 ≠ g) ++ keep true ++ keep false } }
  let s2 := (s1.setI (O.loud_momentary g) m.momentary).setI (O.loud_short_term g) m.shortTerm
  if clear then
    (((s2.setI (O.loud_integrated g) (-32768)).setN (O.loud_range g) 0).setI (O.loud_true_peak g) (-32768)).setN (O.loud_status g) 0
  else
    let tp := max (s.int (O.loud_true_peak g)) m.truePeak
    let s3 := ((s2.setI (O.loud_integrated g) m.integrated).setN (O.loud_range g) m.range).setI (O.loud_true_peak g) tp
    let long (above : Bool) : Bool := match s3.loudSince g above with | some t => t + 3 * nsPerSec ≤ s3.now | none => false
    ((s3.loudAlarm g 0 (long true)).loudAlarm g 1 (long false)).loudAlarm g 2 (s.int (O.loud_tp_limit g) < tp)

/-! ## Writes -/

/-- A write of the audio families; none where it has no behaviour of its own. -/
def State.writeAudio (s : State) (k : Key) (v : Val) : Option (Nat × State) :=
  let n := v.int.toNat
  let i := k.inst
  match k.fam with
  | 0x4000 => if k.sub = 0x06 then some (0, (s.set k v).reviewAsrc i) else none
  | 0x4100 =>
    if k.sub = 0x03 ∨ k.sub = 0x04 ∨ k.sub = 0x05 then some (s.writeLevel i k.sub v)
    else if k.sub = 0x06 then some (s.writeDelay i n) else none
  | 0x4200 =>
    if i = 0 then
      match k.sub with
      | 0x02 => some (if n = 1 then s.armStart else s.disarmStart)
      | 0x03 => some (0, { s with audio := { s.audio with startAt := some n } })
      | _ => none
    else
      let fits (r sl w : Nat) : Option (Nat × State) := if sapFits r sl w then none else some (C.range, s)
      match k.sub with
      | 0x00 => some (s.writeRun i (n = 1))
      | 0x04 => fits n (s.nat (O.sap_slots i)) (s.nat (O.sap_slot_width i))
      | 0x05 => if 16 ≤ n then some (C.range, s) else none
      | 0x06 => fits (s.nat (O.sap_rate i)) n (s.nat (O.sap_slot_width i))
      | 0x07 => fits (s.nat (O.sap_rate i)) (s.nat (O.sap_slots i)) n
      | 0x0A => some (s.writeFrameKey i 0x0A v)
      | 0x0B => some (s.writeFrameKey i 0x0B v)
      | 0x0E => some (s.writeFrameKey i 0x0E v)
      | _ => none
  | 0x4500 =>
    match k.sub with
    | 0x00 => some (s.enableLoud i (n = 1))
    | 0x01 => if membersOk v.oct then none else some (C.range, s)
    | 0x07 => some (0, if n = 1 then { s with audio := { s.audio with resets := nub (s.audio.resets ++ [i]) } } else s)
    | _ => none
  | _ => none

end Sys2Proof.Machine
end

