-- ==== Sys2Proof/Machine/Timing.lean ====
section
/-! DEFINITION. References, DPLLs, clock outputs and sync-word ports (R313 to R345): the behaviour of their writes, and the
commands of chapter 12 that are not writes. Frequencies stand in 0.01 ppt from nominal where no unit is named. -/

namespace Sys2Proof.Machine

/-! ## Moving values (R327, R335) -/

/-- A value that moves from `start` towards `target` at `rate` a second, `ns` later; a rate of 0 has no limit. -/
def glide (start target : Int) (rate ns : Nat) : Int :=
  let step : Int := rate * ns / nsPerSec
  if rate = 0 then target
  else if start ≤ target then min target (start + step) else max target (start - step)

/-- A phase or offset as it stands. -/
def State.glideNow (s : State) (kind n : Nat) (target : Int) (rate : Nat) : Int :=
  match s.timing.glides.find? (fun g => g.kind = kind ∧ g.n = n) with
  | some g => glide g.start target rate (s.now - g.since)
  | none => target

/-- A phase or offset begins to move from where it stands (R335). -/
def State.reglide (s : State) (kind n : Nat) (target : Int) (rate : Nat) : State :=
  let v := s.glideNow kind n target rate
  { s with timing := { s.timing with
      glides := s.timing.glides.filter (fun g => ¬(g.kind = kind ∧ g.n = n)) ++ [⟨kind, n, v, s.now⟩] } }

/-! ## DPLLs (R313, R322, R325 to R328) -/

/-- The record of a DPLL. -/
def State.dpll (s : State) (k : Nat) : DpllRec :=
  match s.timing.dplls.find? (fun r => r.k = k) with | some r => r | none => ⟨k, none8, false, 0, 0, [], 0, 0, 0, none⟩

/-- The record of a DPLL set. -/
def State.putDpll (s : State) (r : DpllRec) : State :=
  { s with timing := { s.timing with dplls := s.timing.dplls.filter (fun x => x.k ≠ r.k) ++ [r] } }

/-- The nominal synthesis frequency of a DPLL in mHz, as a fraction: its own, or through its chain of follows (R325);
`fuel` bounds the chain. -/
def State.nominal (s : State) : Nat → Nat → Nat × Nat
  | 0, _ => (0, 1)
  | fuel + 1, k =>
    if s.nat (O.dpll_mode k) = 1 then
      let r := s.nominal fuel (s.nat (O.dpll_follow_dpll k))
      (r.1 * s.nat (O.dpll_ratio_num k), r.2 * s.nat (O.dpll_ratio_den k))
    else (s.nat (O.dpll_frequency k), 1)

/-- The oscillator is lost (R330). -/
def State.xoLost (s : State) : Bool := s.nat (O.xo_xo_state 4) == 1

/-- A DPLL's state as 5100h sub 11 reads it (Table 12.4): free-run in steered mode and while the oscillator is lost; in
follow mode that of the DPLL it follows. -/
def State.dpllState (s : State) : Nat → Nat → Nat
  | 0, _ => 0
  | fuel + 1, k =>
    if s.xoLost then 0
    else
      match s.nat (O.dpll_mode k) with
      | 0 => s.nat (O.dpll_state k)
      | 1 => s.dpllState fuel (s.nat (O.dpll_follow_dpll k))
      | _ => 0

/-- The frequency of a DPLL as it stands, within its slew limit (R327). -/
def State.freqNow (s : State) : Nat → Nat → Int
  | 0, _ => 0
  | fuel + 1, k =>
    if s.nat (O.dpll_mode k) = 1 then s.freqNow fuel (s.nat (O.dpll_follow_dpll k))
    else
      let r := s.dpll k
      glide r.freqFrom r.freqTo (s.nat (O.dpll_freq_slew k) * 100) (s.now - r.freqAt)

/-- A DPLL moves towards a frequency from the one it has. -/
def State.tuneTo (s : State) (k : Nat) (target : Int) : State :=
  s.putDpll { s.dpll k with freqFrom := s.freqNow 4 k, freqAt := s.now, freqTo := target }

/-- A reference entry's record. -/
def State.ref (s : State) (e : Nat) : RefRec :=
  match s.timing.refs.find? (fun r => r.e = e) with | some r => r | none => ⟨e, 0, 0, none, none⟩

/-- A reference entry's record set. -/
def State.putRef (s : State) (r : RefRec) : State :=
  { s with timing := { s.timing with refs := s.timing.refs.filter (fun x => x.e ≠ r.e) ++ [r] } }

/-- The frequency that a DPLL's state asks for (Table 12.4, R318, R328). -/
def State.wantedFreq (s : State) (k : Nat) : Int :=
  if s.nat (O.dpll_mode k) = 2 then s.int (O.dpll_steer k)
  else
    match s.nat (O.dpll_state k) with
    | 0 => 0
    | 2 => if s.flag (O.dpll_model_valid k) then s.int (O.dpll_holdover_model k) else s.freqNow 4 k
    | _ =>
      let e := s.nat (O.dpll_selected k)
      if e = none8 then s.freqNow 4 k else (s.ref e).freq * 100

/-- A DPLL's own state changes (R322, R341): the change is counted and DPLL_HOLDOVER and DPLL_FREERUN follow. -/
def State.setDpllState (s : State) (k st : Nat) : State :=
  if s.nat (O.dpll_state k) = st then s.tuneTo k (s.wantedFreq k)
  else
    let s1 := ((s.setN (O.dpll_state k) st).count (O.dpll_transitions k))
    let s2 := (List.range 4).foldl (fun a n => if a.nat (O.tb_dpll n) = k then a.correctTb n 0 0 else a)
      (s1.putDpll { s1.dpll k with since := s1.now })
    let others (v : Nat) : Bool := (List.range 4).any (fun j => j ≠ k ∧ s2.nat (O.dpll_mode j) = 0 ∧ s2.nat (O.dpll_state j) = v)
    let s3 := s2.followShared F.dpllHoldover k 0 (st = 2) (others 2)
    let s4 := if st = 0 then s3 else s3.followShared F.dpllFreerun k 0 false (others 0)
    s4.tuneTo k (s4.wantedFreq k)

/-! ## Reference entries (R314 to R320) -/

/-- An entry's state as 5000h sub 08 reads it (Table 12.3): unused with no source or no DPLL, absent before any activity,
and a twin entry away from a standby (R316). -/
def State.refState (s : State) (e : Nat) : Nat :=
  let i := 1 + e
  if s.nat (O.ref_source i) = 0 ∨ s.nat (O.ref_dpll_mask i) % 16 = 0 then 0
  else if s.nat (O.ref_source i) = 5 ∧ !s.standby then 1
  else max 1 (s.nat (O.ref_state i))

/-- The limit of an entry's phase test in ns: 10 for a twin entry where none is written, else 100 (Table 12.14). -/
def State.phaseLimit (s : State) (e : Nat) : Nat :=
  let v := s.int (O.ref_phase_limit (1 + e))
  if v = unsetN then (if s.nat (O.ref_source (1 + e)) = 5 then 10 else 100) else v.toNat

/-- The phase test of an entry passes (Table 12.2). -/
def State.phaseOk (s : State) (e : Nat) : Bool := s.nat (O.ref_mtie (1 + e)) ≤ s.phaseLimit e

/-- The hard limit of an entry holds against the model of each DPLL of its mask, or nominal (Table 12.2). -/
def State.hardOk (s : State) (e : Nat) : Bool :=
  (List.range 4).all (fun k => !s.bit (O.ref_dpll_mask (1 + e)) k ||
    (let m := if s.flag (O.dpll_model_valid k) then s.int (O.dpll_holdover_model k) else 0
     ((s.ref e).freq * 100 - m).natAbs ≤ s.nat O.refAll_hard_limit * 100000))

/-- An entry carries another format than the one it expects (R315). -/
def State.wrongFormat (s : State) (e : Nat) : Bool :=
  s.nat (O.ref_source (1 + e)) == 1 && s.nat (O.ref_format (1 + e)) != 0 &&
    s.nat (O.ref_detected_format (1 + e)) != s.nat (O.ref_format (1 + e))

/-- The mean frequency of an entry over the observation window, in ppt. -/
def State.meanOf (s : State) (e : Nat) : Int := s.int (O.ref_frequency (1 + e))

/-- Two entries agree (R319). -/
def State.agree (s : State) (a b : Nat) : Bool := (s.meanOf a - s.meanOf b).natAbs ≤ s.nat O.refAll_agreement_tol * 1000

/-- The qualified entries, ascending. -/
def State.qualified (s : State) : List Nat := (List.range 16).filter (fun e => s.refState e = 3)

/-- The largest set of a list of entries that agree pairwise, and with those chosen; of equal sets the one that holds the
lowest entries (R319). -/
def State.largestSet (s : State) : List Nat → List Nat → List Nat
  | chosen, [] => chosen
  | chosen, e :: r =>
    let without := s.largestSet chosen r
    if chosen.all (fun c => s.agree c e) then
      let with' := s.largestSet (chosen ++ [e]) r
      if with'.length < without.length then without else with'
    else without

/-- The reference set of an entry (R319). -/
def State.referenceSet (s : State) (e : Nat) : List Nat := s.largestSet [] (s.qualified.filter (fun x => x ≠ e))

/-- An entry departs from its reference set by more than the drift window (R319). -/
def State.departs (s : State) (e : Nat) : Bool :=
  let r := s.referenceSet e
  2 ≤ r.length && decide (r.length * (s.nat O.refAll_drift_window * 1000) <
    ((r.length : Int) * s.meanOf e - sumByInt s.meanOf r).natAbs)

/-- A DPLL in automatic mode loses its selected entry: holdover at once (R320). -/
def State.loseEntry (s : State) (e : Nat) : State :=
  (List.range 4).foldl (fun st k =>
    if st.nat (O.dpll_mode k) = 0 ∧ st.nat (O.dpll_selected k) = e then
      let st1 := st.setN (O.dpll_selected k) none8
      if st1.nat (O.dpll_state k) = 1 ∨ st1.nat (O.dpll_state k) = 3 then st1.setDpllState k 2 else st1
    else st) s

/-- An entry takes a state: leaving qualified is counted and raises REF_DISQUALIFIED, drifting raises REF_DRIFTING, and the
DPLLs that had it selected go to holdover (R317, R320, R341). -/
def State.setRefState (s : State) (e v : Nat) : State :=
  let i := 1 + e
  let was := s.refState e
  let s1 := s.setN (O.ref_state i) v
  let r := s1.ref e
  let s2 := s1.putRef { r with
    passSince := if v = 2 then (if was = 2 then r.passSince else some s.now) else none,
    qualSince := if v = 3 then (if was = 3 then r.qualSince else some s.now) else none }
  let s3 := if was = 3 ∧ v ≠ 3 then
      ((s2.count (O.ref_disqualifications i)).strike F.refDisqualified e v).loseEntry e
    else s2
  s3.followShared F.refDrifting e 0 (v = 5) ((List.range 16).any (fun x => x ≠ e ∧ s3.refState x = 5))

/-- A phase sample of an entry (R314, R317). A twin entry has samples only on a standby (R316). -/
def State.phaseSample (s : State) (e mtie : Nat) (freq : Int) (format : Nat) : State :=
  let i := 1 + e
  if s.nat (O.ref_source i) = 0 ∨ s.nat (O.ref_dpll_mask i) % 16 = 0 ∨ (s.nat (O.ref_source i) = 5 ∧ !s.standby) then s
  else
    let r := s.ref e
    let s1 := (s.putRef { r with last := s.now, freq := freq }).setN (O.ref_mtie i) mtie
    let s2 := if s.nat (O.ref_source i) = 1 then s1.setN (O.ref_detected_format i) format else s1
    let st := s2.refState e
    let pass := s2.phaseOk e && s2.hardOk e
    let s3 :=
      if s2.wrongFormat e then (if st = 4 then s2 else s2.setRefState e 4)
      else
        match st with
        | 1 => s2.setRefState e 2
        | 2 => if pass then s2 else s2.putRef { s2.ref e with passSince := some s2.now }
        | 4 => if s2.phaseOk e then s2.setRefState e 2 else s2
        | _ => s2
    (List.range 4).foldl (fun a k =>
      if a.nat (O.dpll_mode k) = 0 ∧ a.nat (O.dpll_selected k) = e then a.tuneTo k (a.wantedFreq k) else a) s3

/-- The holdover model of a DPLL from its locked history (R318): the mean over the window that ends the guard before now,
valid once it has that much. -/
def State.remodel (s : State) (k : Nat) : State :=
  if s.nat (O.dpll_mode k) ≠ 0 then s
  else
    let r := s.dpll k
    let window := s.nat (O.dpll_holdover_window k)
    let guard' := s.nat (O.dpll_holdover_guard k)
    let hist := if s.dpllState 1 k = 1 then r.hist ++ [(s.now, s.freqNow 1 k)] else r.hist
    let keep := (window + guard') / 10 + 2
    let hist := if keep < hist.length then hist.drop (hist.length - keep) else hist
    let old := hist.filter (fun h => h.1 + guard' * nsPerSec ≤ s.now)
    let use := old.drop (old.length - (window + 9) / 10)
    let s1 := s.putDpll { r with hist := hist }
    if window ≤ 10 * use.length then
      (s1.setI (O.dpll_holdover_model k) (roundDiv (sumByInt (fun h => h.2) use) use.length)).setF (O.dpll_model_valid k) true
    else s1

/-- An equal-rank entry of the selected one that disagrees with it (R321). -/
def State.rankClash (s : State) (e : Nat) : Bool :=
  s.refState e == 3 && s.qualified.any (fun x => x != e &&
    s.nat (O.ref_priority (1 + x)) == s.nat (O.ref_priority (1 + e)) && !s.agree x e &&
    (List.range 4).any (fun k => s.bit (O.ref_dpll_mask (1 + x)) k && s.bit (O.ref_dpll_mask (1 + e)) k))

/-- An evaluation (R317, R319, R321): means, drift, phase tests, conflicts of the selected entries, holdover models. -/
def State.evaluate (s : State) (means : List Int) : State :=
  let s1 := (List.range 16).foldl (fun st e =>
    if st.refState e = 0 then st else st.setI (O.ref_frequency (1 + e)) ((means[e]?).getD 0)) s
  let judged := (List.range 16).map (fun e =>
    (e, match s1.refState e with
      | 3 => if !s1.phaseOk e then 4 else if s1.departs e || !s1.hardOk e then 5 else 3
      | 5 => if !(s1.departs e) && s1.hardOk e then 2 else 5
      | v => v))
  let s2 := judged.foldl (fun st x => if st.refState x.1 = x.2 then st else st.setRefState x.1 x.2) s1
  let clash := (List.range 4).find? (fun k =>
    s2.nat (O.dpll_mode k) = 0 ∧ s2.nat (O.dpll_selected k) ≠ none8 ∧ s2.rankClash (s2.nat (O.dpll_selected k)))
  let s3 := s2.follow F.rankConflict ((clash.map (fun k => s2.nat (O.dpll_selected k))).getD 0) (clash.getD 0) clash.isSome
  (List.range 4).foldl (fun st k => st.remodel k) s3

/-! ## The selector (R321) -/

/-- The best of a set of entries, and whether entries of the highest rank conflict (R321). -/
def State.bestEntry (s : State) (k : Nat) (set : List Nat) : Option Nat × Bool :=
  let prio (e : Nat) : Nat := s.nat (O.ref_priority (1 + e))
  let lead := (minBy prio set).map prio
  let top := set.filter (fun e => some (prio e) = lead)
  if top.all (fun a => top.all (fun b => a = b ∨ s.agree a b)) then (top.head?, false)
  else
    let votes (e : Nat) : Nat := (s.qualified.filter (fun x => !top.contains x && s.agree x e)).length
    let most := maxBy votes top
    let top1 := if 1 ≤ most then top.filter (fun e => votes e = most) else top
    let far (e : Nat) : Nat := (s.meanOf e * 100 - s.int (O.dpll_holdover_model k)).natAbs
    let top2 := if 1 < top1.length ∧ s.flag (O.dpll_model_valid k) then
        (match minBy far top1 with | some b => top1.filter (fun e => far e = far b) | none => top1)
      else top1
    (top2.head?, true)

/-- The selector's choice for a DPLL, and whether it raised RANK_CONFLICT (R321). -/
def State.selectEntry (s : State) (k : Nat) : Option Nat × Bool :=
  let cands := s.qualified.filter (fun e => s.bit (O.ref_dpll_mask (1 + e)) k)
  let force := s.nat (O.dpll_force_entry k)
  let sel := s.nat (O.dpll_selected k)
  let prio (e : Nat) : Nat := s.nat (O.ref_priority (1 + e))
  match cands.find? (fun e => s.standby ∧ s.nat (O.ref_source (1 + e)) = 5) with
  | some e => (some e, false)
  | none =>
    if cands.contains force then (some force, false)
    else if cands.contains sel then
      let higher := cands.filter (fun e => prio e < prio sel &&
        (match (s.ref e).qualSince with | some q => q + s.nat O.refAll_revert_hold * nsPerSec ≤ s.now | none => false))
      if s.flag O.refAll_revertive ∧ !higher.isEmpty then s.bestEntry k higher else (some sel, false)
    else if cands.isEmpty then (none, false)
    else s.bestEntry k cands

/-- A DPLL moves to an entry with phase build-out (R320, R322, R323). A locked DPLL stays locked where the new entry lies
within 1 ppb. -/
def State.moveTo (s : State) (k e : Nat) : State :=
  if s.nat (O.dpll_selected k) = e then s
  else
    let near : Bool := ((s.ref e).freq * 100 - s.freqNow 4 k).natAbs ≤ 100000
    let st := if s.nat (O.dpll_state k) = 1 ∧ near then 1 else 3
    let s1 := s.setN (O.dpll_selected k) e
    (s1.putDpll { s1.dpll k with lastSel := e, building := true }).setDpllState k st

/-- The selector of a DPLL in automatic mode runs (R321). -/
def State.runSelector (s : State) (k : Nat) : State :=
  if s.nat (O.dpll_mode k) ≠ 0 ∨ s.xoLost then s
  else
    let c := s.selectEntry k
    let s1 := if c.2 then s.follow F.rankConflict (c.1.getD none8) k true else s
    match c.1 with
    | some e => s1.moveTo k e
    | none =>
      let s2 := s1.setN (O.dpll_selected k) none8
      if s2.nat (O.dpll_state k) = 1 ∨ s2.nat (O.dpll_state k) = 3 then s2.setDpllState k 2 else s2

/-! ## Pins (R324) -/

/-- The reference outputs run from bring-up phase 5 (R324, R332). -/
def State.timingUp (s : State) : Bool := s.power.resetN && (s.ready || 5 ≤ s.power.bootPh)

/-- DPn_ST as driven. -/
def State.dpPins (s : State) (k : Nat) : Nat := if s.timingUp then s.dpllState 4 k else 0

/-- REF_SEL as driven. -/
def State.refSel (s : State) : Nat :=
  if !s.timingUp then 0
  else
    match s.dpllState 4 0 with
    | 0 => 0
    | 2 => if (s.dpll 0).lastSel = none8 then 0 else (s.dpll 0).lastSel
    | _ => if s.nat (O.dpll_selected 0) = none8 then 0 else s.nat (O.dpll_selected 0)

/-! ## Bandwidth (R326) -/

/-- The phase samples a second of an entry, as a fraction (Table 12.1). -/
def State.sampleRate (s : State) (e : Nat) : Nat × Nat :=
  let i := 1 + e
  let lineRate (f : Nat) : Nat × Nat := let r := frameRate f; (r.1 * linesOf f, r.2)
  match s.nat (O.ref_source i) with
  | 1 => lineRate (s.nat (O.ref_detected_format i))
  | 2 => match s.nat (O.ref_cki_kind i) with
    | 0 => (1, 1)
    | 5 => frameRate (s.nat (O.ref_format i))
    | _ => (1000, 1)
  | 3 => (16, 1)
  | 4 => frameRate (s.vsrcFormat (s.nat (O.ref_unit i)))
  | _ => (10000, 1)

/-- The effective bandwidth of a DPLL in µHz (R326): that of the acquisition while it acquires. A PTP entry counts at the
Sync rate of Table 12.6. -/
def State.bandwidthNow (s : State) (k : Nat) : Nat :=
  let set := if s.dpllState 4 k = 3 then s.nat (O.dpll_acq_bandwidth k) else s.nat (O.dpll_bandwidth k)
  let e := s.nat (O.dpll_selected k)
  if e = none8 then set else let r := s.sampleRate e; min set (r.1 * 50000 / r.2)

/-! ## Who uses a DPLL (R343, R374) -/

/-- A DPLL is another, or follows it through a chain. -/
def State.derives (s : State) : Nat → Nat → Nat → Bool
  | 0, _, _ => false
  | fuel + 1, k, j => k = j || (s.nat (O.dpll_mode k) == 1 && s.derives fuel (s.nat (O.dpll_follow_dpll k)) j)

/-- A video PLL of a tile clocks a lane of it: 0 the 1.000 family, which SD uses too, 1 the 1/1.001 family (Table 14.1,
R374). A lane takes the family of its output's format; a Dormant lane is clocked by none. -/
def State.videoPllUsed (s : State) (t pll : Nat) : Bool :=
  (List.range 64).any (fun i =>
    let l := 64 * t + i
    let p := s.ownerPort l
    let f := s.nat (O.dst_format p)
    s.isSdi p && s.nat (O.lane_state_now l) != 2 && ((pulled f && f != 1) == (pll == 1)))

/-- Some output, sync-word port, audio clock, time base or lane transmit PLL uses a DPLL (R343, R374). -/
def State.dpllUsed (s : State) (k : Nat) : Bool :=
  (List.range 24).any (fun o => s.flag (O.cko_enable o) && s.natNow (O.cko_dpll o) == k) ||
    (List.range 4).any (fun n => s.flag (O.swp_enable n) && s.nat (O.swp_dpll n) == k) ||
    (List.range 64).any (fun d => s.nat (O.sap_state (1 + d)) != 0 && s.nat (O.sap_clock_role (1 + d)) == 1 &&
      s.nat (O.sap_clock_dpll (1 + d)) == k) ||
    (List.range 16).any (fun n => s.flag (O.aes_tx_enable n) && s.nat (O.aes_tx_dpll n) == k) ||
    (List.range s.tiles).any (fun t =>
      (s.derives 4 (s.nat (O.tile_video_dpll (1024 + t))) k && s.videoPllUsed t 0) ||
        (s.derives 4 (s.nat (O.tile_video_dpll_1001 (1024 + t))) k && s.videoPllUsed t 1))

/-! ## Writes: entries and DPLLs -/

/-- The units of a reference type (Table 12.1). -/
def refUnits (typ : Nat) : Nat := match typ with | 1 => 2 | 2 => 8 | 3 => 4 | 4 => 1024 | 5 => 4 | _ => 65536

/-- An entry's mask holds only the DPLL of its time base where it is a PTP entry (R316). -/
def State.maskFits (s : State) (typ unit mask : Nat) : Bool :=
  typ != 3 || mask % 16 / 2 ^ (s.nat (O.tb_dpll unit)) * 2 ^ (s.nat (O.tb_dpll unit)) == mask % 16 && mask % 16 ≤ 2 ^ (s.nat (O.tb_dpll unit))

/-- An entry's object written (R316): source, unit and mask are judged together; the entry begins anew. -/
def State.writeRef (s : State) (i sub : Nat) (v : Val) : Option (Nat × State) :=
  let n := v.int.toNat
  let typ := if sub = 0 then n else s.nat (O.ref_source i)
  let unit := if sub = 1 then n else s.nat (O.ref_unit i)
  let mask := if sub = 5 then n else s.nat (O.ref_dpll_mask i)
  match sub with
  | 0x03 => if 22 ≤ n then some (C.range, s) else none
  | _ =>
    if sub = 0 ∨ sub = 1 ∨ sub = 5 then
      if refUnits typ ≤ unit ∨ (typ = 4 ∧ !s.isSdi unit) ∨ 16 ≤ mask ∨ !s.maskFits typ unit mask then some (C.range, s)
      else
        let s1 := s.set ⟨0x5000, i, sub⟩ v
        if sub = 5 then
          some (0, (List.range 4).foldl (fun st k =>
            if st.nat (O.dpll_mode k) = 0 ∧ st.nat (O.dpll_selected k) = i - 1 ∧ !st.bit (O.ref_dpll_mask i) k then
              let st1 := st.setN (O.dpll_selected k) none8
              if st1.nat (O.dpll_state k) = 1 ∨ st1.nat (O.dpll_state k) = 3 then st1.setDpllState k 2 else st1
            else st) s1)
        else some (0, (s1.setRefState (i - 1) 1).putRef ⟨i - 1, 0, 0, none, none⟩)
    else none

/-- Every DPLL's synthesis frequency lies within 2.0 to 3.2 GHz, and no chain of follows closes on itself (R325). -/
def State.dpllsFit (s : State) : Bool :=
  (List.range 4).all (fun k =>
    let r := s.nominal 5 k
    2000000000000 * r.2 ≤ r.1 && r.1 ≤ 3200000000000 * r.2 && r.1 != 0)

/-- A DPLL's mode, frequency, follow or ratio written (R325). -/
def State.writeDpllMode (s : State) (k sub : Nat) (v : Val) : Nat × State :=
  let f := s.freqNow 4 k
  let s1 := s.set ⟨0x5100, k, sub⟩ v
  if !s1.dpllsFit then (C.range, s)
  else if sub ≠ 0 then (0, s1)
  else
    let s2 := (s1.setN (O.dpll_selected k) none8).putDpll { s1.dpll k with freqFrom := f, freqAt := s.now, building := false }
    let s3 := if s2.nat (O.dpll_state k) = 0 then s2 else s2.setDpllState k 0
    (0, { s3 with timing := { s3.timing with dplls := s3.timing.dplls.map (fun r =>
        if r.k = k then { r with freqFrom := f, freqAt := s.now, freqTo := s3.wantedFreq k } else r) } })

/-- The epoch of a DPLL's outputs is armed (R334). -/
def State.armEpoch (s : State) (k : Nat) : Nat × State :=
  let e := s.nat (O.dpll_epoch_at k)
  let now := s.tbNow (s.nat (O.dpll_epoch_tb k))
  if e < now + 1000000 ∨ now + 86400 * nsPerSec < e then (C.range, s)
  else if s.nat (O.dpll_epoch_state k) = 1 then (C.busy, s)
  else (0, (s.putDpll { s.dpll k with epoch := some e }).setN (O.dpll_epoch_state k) 1)

/-- The epoch is disarmed, before its instant (R334). -/
def State.disarmEpoch (s : State) (k : Nat) : Nat × State :=
  match s.nat (O.dpll_epoch_state k) with
  | 2 => (C.tooLate, s)
  | 1 => (0, (s.putDpll { s.dpll k with epoch := none }).setN (O.dpll_epoch_state k) 0)
  | _ => (0, s)

/-- A DPLL's object written. -/
def State.writeDpll (s : State) (k sub : Nat) (v : Val) : Option (Nat × State) :=
  let n := v.int.toNat
  match sub with
  | 0x08 => some (if n ≠ 0 ∧ n < 1000 then (C.range, s) else (0, (s.tuneTo k (s.dpll k).freqTo).set ⟨0x5100, k, sub⟩ v))
  | 0x09 =>
    let s1 := s.set ⟨0x5100, k, sub⟩ v
    some (0, if s.nat (O.dpll_mode k) = 2 then s1.tuneTo k v.int else s1)
  | 0x0A =>
    if n ≠ none8 ∧ 16 ≤ n then some (C.range, s)
    else
      let s1 := s.set ⟨0x5100, k, sub⟩ v
      some (0, if n = none8 then s1.runSelector k else s1)
  | 0x0F => some (if n = 1 then s.armEpoch k else s.disarmEpoch k)
  | _ => if sub ≤ 4 then some (s.writeDpllMode k sub v) else none

/-! ## Clock outputs (R333 to R337) -/

/-- An output's frequency in mHz as a fraction, for a DPLL and divider. -/
def State.ckoFreq (s : State) (k div : Nat) : Nat × Nat := let r := s.nominal 5 k; (r.1, r.2 * div)

/-- The highest frequency of a format in mHz (Table 12.8). -/
def formatMax (f : Nat) : Nat :=
  match f with
  | 0 => 800000000000 | 1 => 400000000000 | 2 => 1600000000000 | 3 => 200000000000 | _ => 250000000000

/-- A swing is within a format's range and step (Table 12.8). -/
def swingFits (f mv : Nat) : Bool :=
  match f with
  | 0 => 250 ≤ mv && mv ≤ 450 && mv % 25 == 0
  | 2 => 400 ≤ mv && mv ≤ 1000 && mv % 50 == 0
  | _ => true

/-- An output's settings fit its format (R336, R337): frequency, LVCMOS level against its bank's supply, swing, and high
time. -/
def State.ckoFits (s : State) (o k div fmt swing width : Nat) : Bool :=
  let f := s.ckoFreq k div
  let vddo := s.natNow ⟨0x5200, 24, o / 6⟩
  f.1 ≤ formatMax fmt * f.2 && (fmt < 3 || fmt - 3 == vddo) && swingFits fmt swing &&
    (width == 0 || width * f.1 < 1000000000000 * f.2)

/-- The period of an output in ps, rounded up. -/
def State.ckoPeriod (s : State) (o : Nat) : Nat :=
  let f := s.ckoFreq (s.natNow (O.cko_dpll o)) (s.natNow (O.cko_divider o))
  ceilDiv (1000000000000000 * f.2) (max 1 f.1)

/-- An output's phase as it stands, in ps (R335). -/
def State.ckoPhase (s : State) (o : Nat) : Int :=
  s.glideNow 0 o (s.int (O.cko_phase_offset o)) (s.nat (O.cko_phase_slew o) * 1000)

/-- An output's state (Table 12.18). -/
def State.ckoState (s : State) (o : Nat) : Nat :=
  let st := s.dpllState 4 (s.natNow (O.cko_dpll o))
  if !s.flag (O.cko_enable o) then 0
  else if s.flag (O.cko_squelch o) ∧ (st = 0 ∨ st = 3) then 3
  else if s.ckoPhase o ≠ s.int (O.cko_phase_offset o) then 2 else 1

/-- An output enabled, or disabled (R333, R337): since when. -/
def State.enableUnit (s : State) (k : Key) (n : Nat) (on : Bool) : State :=
  { (s.setF k on) with timing := { s.timing with
      enabled := if on then (if s.flag k then s.timing.enabled else kput s.timing.enabled n s.now) else kdel s.timing.enabled n } }

/-- An output's phase offset written (R335): within one period and ±1 s; it retargets from the present phase. -/
def State.writePhase (s : State) (o : Nat) (v : Int) : Nat × State :=
  if s.ckoPeriod o < v.natAbs ∨ 1000000000000 < v.natAbs then (C.range, s)
  else
    let p := s.ckoPhase o
    let s1 := s.setI (O.cko_phase_offset o) v
    (0, { s1 with timing := { s1.timing with
        glides := s1.timing.glides.filter (fun g => ¬(g.kind = 0 ∧ g.n = o)) ++ [⟨0, o, p, s.now⟩] } })

/-- An output's object written; DPLL, divider and width wait for an epoch (R334). -/
def State.writeCko (s : State) (o sub : Nat) (v : Val) : Option (Nat × State) :=
  let n := v.int.toNat
  let at' (x : Nat) (k : Key) : Nat := if sub = x then n else s.nat k
  let fits := s.ckoFits o (at' 1 (O.cko_dpll o)) (at' 2 (O.cko_divider o)) (at' 3 (O.cko_format o)) (at' 4 (O.cko_swing o))
    (at' 7 (O.cko_pulse_width o))
  match sub with
  | 0x00 => some (0, s.enableUnit (O.cko_enable o) o (n = 1))
  | 0x03 => if fits then none else some (C.range, s)
  | 0x04 => if fits then none else some (C.range, s)
  | 0x05 => some (s.writePhase o v.int)
  | 0x06 => some (0, (s.reglide 0 o (s.int (O.cko_phase_offset o)) (s.nat (O.cko_phase_slew o) * 1000)).set ⟨0x5200, o, sub⟩ v)
  | _ =>
    if sub = 1 ∨ sub = 2 ∨ sub = 7 then
      some (if fits then
          (0, { (s.setLater ⟨0x5200, o, sub⟩ v) with timing := { s.timing with
              staged := s.timing.staged.filter (fun e => ¬(e.1 = o ∧ e.2.1 = sub)) ++ [(o, sub, s.now)] } })
        else (C.range, s))
    else none

/-! ## Sync-word ports (R338 to R340) -/

/-- A sync-word port's DPLL gives its format's sample clock (R339). -/
def State.swpFits (s : State) (n : Nat) : Bool :=
  let f := s.nat (O.swp_format n)
  let r := s.nominal 5 (s.nat (O.swp_dpll n))
  if 3 ≤ f ∧ pulled f then r.1 * 1001 = 2970000000000 * 1000 * r.2 else r.1 = 2970000000000 * r.2

/-- The sync-word code of a level in mV × 10 into 75 Ω (R338): 4 codes are 1 mV, 2048 is 0 V; halves away from zero. -/
def syncCode (tenthsMv : Int) : Int :=
  2048 + (if tenthsMv < 0 then -roundDiv (-tenthsMv * 4) 10 else roundDiv (tenthsMv * 4) 10)

/-- The frames that a sync-word port has sent (Table 12.20). -/
def State.swpFrames (s : State) (n : Nat) : Nat :=
  match kfind s.timing.enabled (64 + n) with
  | some t => let r := frameRate (s.nat (O.swp_format n)); (s.now - t) * r.1 / (nsPerSec * r.2) % 4294967296
  | none => 0

/-- A sync-word port's state (Table 12.20). -/
def State.swpState (s : State) (n : Nat) : Nat :=
  let rate := s.nat (O.swp_phase_slew n) * 1000
  if !s.flag (O.swp_enable n) then 0
  else if s.glideNow 1 n (s.int (O.swp_timing_offset n)) rate ≠ s.int (O.swp_timing_offset n) ∨
      s.glideNow 2 n (s.nat (O.swp_advance n) * 1000) rate ≠ s.nat (O.swp_advance n) * 1000 then 2 else 1

/-- A sync-word port's object written (R339, R340). -/
def State.writeSwp (s : State) (n sub : Nat) (v : Val) : Option (Nat × State) :=
  let x := v.int.toNat
  let rate := s.nat (O.swp_phase_slew n) * 1000
  let off := s.int (O.swp_timing_offset n)
  let adv : Int := s.nat (O.swp_advance n) * 1000
  match sub with
  | 0x00 => some (if x = 1 ∧ !s.swpFits n then (C.range, s) else (0, s.enableUnit (O.swp_enable n) (64 + n) (x = 1)))
  | 0x01 => if x = 0 ∨ 22 ≤ x then some (C.range, s) else none
  | 0x05 => some (if framePeriod (s.nat (O.swp_format n)) * 1000 < v.int.natAbs then (C.range, s)
      else (0, (s.reglide 1 n off rate).set ⟨0x5300, n, sub⟩ v))
  | 0x06 => some (0, ((s.reglide 1 n off rate).reglide 2 n adv rate).set ⟨0x5300, n, sub⟩ v)
  | 0x07 => some (0, (s.reglide 2 n adv rate).set ⟨0x5300, n, sub⟩ v)
  | _ => none

/-- A write of the timing families; none where it has no behaviour of its own. -/
def State.writeTiming (s : State) (k : Key) (v : Val) : Option (Nat × State) :=
  match k.fam with
  | 0x5000 => if k.inst = 0 then none else s.writeRef k.inst k.sub v
  | 0x5100 => if k.inst < 4 then s.writeDpll k.inst k.sub v else none
  | 0x5200 => if k.inst < 24 then s.writeCko k.inst k.sub v else none
  | 0x5300 => s.writeSwp k.inst k.sub v
  | _ => none

end Sys2Proof.Machine
end

