-- ==== Sys2Proof/Machine/TimeBases.lean ====
section
/-! DEFINITION. Time bases, PTP, timestamp queues and scheduled launch (R346 to R369): the behaviour of their writes, and
the commands of chapter 13 that are not writes, with PACKET_LAUNCH. -/

namespace Sys2Proof.Machine

/-! ## Settings by profile (R350, Table 13.2) -/

/-- The profile of a port's time base. -/
def State.portProfile (s : State) (p : Nat) : Nat := s.nat (O.tb_profile (s.nat (O.ptp_time_base p)))

/-- A setting, or its profile's default where none is written. -/
def orDefault (v d : Int) : Int := if v = unsetN then d else v

/-- The domain of a time base (5400h sub 04). -/
def State.tbDomain (s : State) (t : Nat) : Int := orDefault (s.int (O.tb_domain t)) (if s.nat (O.tb_profile t) = 0 then 127 else 0)
/-- log_sync of a port. -/
def State.logSync (s : State) (p : Nat) : Int := orDefault (s.int (O.ptp_log_sync p)) (if s.portProfile p = 2 then 0 else -3)
/-- log_announce of a port. -/
def State.logAnnounce (s : State) (p : Nat) : Int := orDefault (s.int (O.ptp_log_announce p)) (if s.portProfile p = 0 then -2 else 1)
/-- log_min_delay_req of a port. -/
def State.logDelayReq (s : State) (p : Nat) : Int := orDefault (s.int (O.ptp_log_min_delay_req p)) (if s.portProfile p = 2 then 0 else -3)

/-- The ns of an interval of 2 to the power `l` seconds. -/
def logNs (l : Int) : Nat := if l < 0 then nsPerSec / 2 ^ l.natAbs else nsPerSec * 2 ^ l.toNat

/-- The announce receipt timeout of a port in ns. -/
def State.announceNs (s : State) (p : Nat) : Nat := s.nat (O.ptp_announce_timeout p) * logNs (s.logAnnounce p)

/-- The range of a port's setting in its profile (Table 13.2). -/
def State.ptpFits (s : State) (p sub : Nat) (v : Int) : Bool :=
  match sub, s.portProfile p with
  | 0x05, 0 => -7 ≤ v && v ≤ -1
  | 0x05, 1 => -4 ≤ v && v ≤ 1
  | 0x05, _ => -1 ≤ v && v ≤ 1
  | 0x06, 0 => -3 ≤ v && v ≤ 1
  | 0x06, _ => 0 ≤ v && v ≤ 4
  | 0x07, _ => 2 ≤ v && v ≤ 10
  | 0x08, 2 => 0 ≤ v && v ≤ 5
  | 0x08, _ => s.logSync p ≤ v && v ≤ s.logSync p + 5
  | _, _ => true

/-! ## Clock class (R352, Table 13.3) -/

/-- The clockClass of a time base. -/
def State.clockClass (s : State) (t : Nat) : Nat :=
  let k := s.nat (O.tb_dpll t)
  let tr := s.flag (O.tb_traceable t)
  match s.dpllState 4 k with
  | 1 => if tr then 6 else 13
  | 2 =>
    if s.now ≤ (s.dpll k).since + s.nat (O.tb_holdover_spec t) * nsPerSec then (if tr then 7 else 14)
    else if tr then 187 else 193
  | _ => 248

/-- The clockAccuracy of a time base: within 100 ns while its DPLL is locked, else unknown. -/
def State.clockAccuracy (s : State) (t : Nat) : Nat := if s.dpllState 4 (s.nat (O.tb_dpll t)) = 1 then 0x21 else 0xFE

/-! ## Records -/

/-- A port's record. -/
def State.ptp (s : State) (p : Nat) : PtpRec :=
  match s.clocks.ports.find? (fun r => r.port = p) with | some r => r | none => ⟨p, [], 0, 0, false⟩

/-- A port's record set. -/
def State.putPtp (s : State) (r : PtpRec) : State :=
  { s with clocks := { s.clocks with ports := s.clocks.ports.filter (fun x => x.port ≠ r.port) ++ [r] } }

/-- A time base's record. -/
def State.tbRec (s : State) (t : Nat) : TbRec :=
  match s.clocks.tbs.find? (fun r => r.tb = t) with | some r => r | none => ⟨t, none, 0, false, none, none⟩

/-- A time base's record set. -/
def State.putTb (s : State) (r : TbRec) : State :=
  { s with clocks := { s.clocks with tbs := s.clocks.tbs.filter (fun x => x.tb ≠ r.tb) ++ [r] } }

/-- The enabled PTP ports of a time base. -/
def State.tbPorts (s : State) (t : Nat) : List Nat :=
  (List.range 64).filter (fun p => s.flag (O.ptp_enable p) && s.nat (O.ptp_time_base p) == t)

/-! ## The best master clock algorithm (R347, R350) -/

/-- Lists of numbers in lexicographic order. -/
def lexBefore : List Nat → List Nat → Bool
  | [], _ => false
  | _ :: _, [] => false
  | a :: r, b :: q => a < b || (a == b && lexBefore r q)

/-- The rank of a master (IEEE 1588): priority1, class, accuracy, variance, priority2, identity, steps, sender. -/
def PtpMaster.rank (m : PtpMaster) : List Nat := [m.p1, m.cls, m.acc, m.var, m.p2, beNat m.gm, m.steps, beNat m.sender]

/-- The rank of the time base itself. -/
def State.ownRank (s : State) (t p : Nat) : List Nat :=
  [s.nat (O.tb_priority1 t), s.clockClass t, s.clockAccuracy t, 0xFFFF, s.nat (O.tb_priority2 t),
   field (s.oct (O.ptp_port_identity p)) 0 8, 0, 0]

/-- The best of a list of masters. -/
def bestMaster : List PtpMaster → Option PtpMaster
  | [] => none
  | m :: r => match bestMaster r with
    | none => some m
    | some q => if lexBefore q.rank m.rank then some q else some m

/-- The best master that a port hears; a master-only port follows none. -/
def State.heardBest (s : State) (p : Nat) : Option PtpMaster :=
  if s.flag (O.ptp_master_only p) ∧ s.nat (O.tb_role (s.nat (O.ptp_time_base p))) ≠ 3 then none
  else bestMaster ((s.ptp p).heard.map (fun e => e.1))

/-- The port and master that an instance in role 2 or 3 follows. -/
def State.leader (s : State) (t : Nat) : Option (Nat × PtpMaster) :=
  if s.nat (O.tb_role t) < 2 then none
  else
    ((s.tbPorts t).filterMap (fun p => (s.heardBest p).map (fun m => (p, m)))).foldl (fun a x =>
      match a with | none => some x | some y => if lexBefore x.2.rank y.2.rank then some x else some y) none

/-- The state that a port takes by the best master clock algorithm, apart from the port that follows (Table 13.1): 4
listening, 6 master, 7 passive. -/
def State.otherPort (s : State) (t p : Nat) (lead : Option (Nat × PtpMaster)) : Nat :=
  match s.nat (O.tb_role t), lead with
  | 1, _ => match s.heardBest p with | some m => if lexBefore m.rank (s.ownRank t p) then 7 else 6 | none => 6
  | 2, none => if (s.ptp p).timedOut then 6 else 4
  | 2, some l => match s.heardBest p with
    | some m => if m.gm = l.2.gm ∧ m.steps ≤ l.2.steps + 1 then 7 else 6
    | none => 6
  | _, _ => 4

/-- A port takes a state, which the primary mirrors (R349). -/
def State.setPort (s : State) (p st : Nat) : State :=
  if s.nat (O.ptp_port_state p) = st then s else (s.setN (O.ptp_port_state p) st).mirror (.portState p st)

/-- PTP_NO_MASTER of a time base: no port in SLAVE for three announce intervals after a timeout (R365). -/
def State.noMaster (s : State) (t : Nat) : Bool :=
  match (s.tbRec t).lostAt with
  | some (a, i) => a + 3 * i ≤ s.now && 2 ≤ s.nat (O.tb_role t) && !(s.tbPorts t).any (fun p => s.nat (O.ptp_port_state p) = 9)
  | none => false

/-- PTP_NO_MASTER follows its condition. -/
def State.reviewNoMaster (s : State) (t : Nat) : State :=
  s.followShared F.ptpNoMaster t 0 (s.noMaster t) ((List.range 4).any (fun u => u ≠ t ∧ s.noMaster u))

/-- The instance follows a master (R347, R353): its identity, steps and UTC offset are read, and a new one is measured
anew. A port that took over from its twin goes on in its state (R349). -/
def State.followMaster (s : State) (t p : Nat) (m : PtpMaster) : State :=
  let r := s.tbRec t
  let same : Bool := r.follows = some (p, m.sender)
  let s1 := ((s.setB (O.tb_grandmaster_id t) m.gm).setN (O.tb_steps_removed t) (m.steps + 1)).setI (O.tb_utc_offset t) m.utc
  if same then s1
  else
    let on := s.nat (O.ptp_port_state p)
    let keep : Bool := r.follows.isNone ∧ (on = 8 ∨ on = 9)
    let s2 := (s1.putTb { r with follows := some (p, m.sender), overs := 0 }).putPtp { s.ptp p with meas := if keep ∧ on = 9 then 4 else 0 }
    if keep then s2 else s2.setPort p 8

/-- The best master clock algorithm of a time base runs. A standby leaves its port states as its primary mirrors them
(R349). -/
def State.bmca (s : State) (t : Nat) : State :=
  if s.standby then s
  else
    let lead := s.leader t
    let s1 := match lead with
      | some (p, m) => s.followMaster t p m
      | none => s.putTb { s.tbRec t with follows := none, overs := 0 }
    ((s1.tbPorts t).foldl (fun st p =>
      if lead.any (fun l => l.1 = p) then st else st.setPort p (s.otherPort t p lead)) s1).reviewNoMaster t

/-- The state of a time base as 5400h sub 07 reads it (R347). -/
def State.tbState (s : State) (t : Nat) : Nat :=
  let has (st : Nat) : Bool := (s.tbPorts t).any (fun p => s.nat (O.ptp_port_state p) = st)
  match s.nat (O.tb_role t) with
  | 0 => 0
  | 1 => if has 7 then 5 else 4
  | _ => if has 9 then 3 else if has 8 then 2 else 1

/-! ## Steps (R348, R356 to R360) -/

/-- The time base of a transmit flow: that of its group's destination, or TB0 (log entry 10). -/
def State.txTb (s : State) (fam inst : Nat) : Nat :=
  let g := s.flowGroup fam inst
  if g < 2048 then s.nat (O.dst_time_base (1024 + g)) else 0

/-- A time base steps (R359): it goes on from the new reading, and what is timed by it moves to its new alignment. A step that no
acceptance has set a step instant for goes to the twin by itself (R358, R419). -/
def State.stepTb (s : State) (t : Nat) (delta : Int) (alone : Bool := true) : State :=
  let r := ((s.tbNow t : Int) + delta).toNat
  let s1 := s.modTb t (fun _ => ⟨r, s.now, 0, 0, r⟩)
  let s1' := s1.count (O.tb_jumps_applied t)
  let s2 := if alone then s1'.mirror (.step t delta) else s1'
  ({ s2 with clocks := { s2.clocks with lastTx := s2.clocks.lastTx.filter (fun e => s2.txTb e.1.1 e.1.2.1 ≠ t) } } : State).afterStep t

/-- TB_JUMP follows the pending steps of the time bases (R365). -/
def State.reviewJump (s : State) (t : Nat) : State :=
  let pends (u : Nat) : Bool := s.nat (O.tb_jump_state u) == 1 || s.nat (O.tb_jump_state u) == 2
  s.followShared F.tbJump t (twos 32 (s.int (O.tb_jump_pending t))) (pends t) ((List.range 4).any (fun u => u ≠ t ∧ pends u))

/-- The pending step of a time base ends, and its state reads `st`. -/
def State.endPending (s : State) (t st : Nat) : State :=
  (((s.putTb { s.tbRec t with accept := none, overs := 0 }).setI (O.tb_jump_pending t) 0).setN (O.tb_jump_state t) st).reviewJump t

/-- The step instant (R357): the pending step in force is made, or the acceptance lapses within the guard. -/
def State.stepDue (s : State) (t : Nat) : State :=
  match (s.tbRec t).accept with
  | none => s
  | some a =>
    if s.tbNow t < a then s
    else
      let p := s.int (O.tb_jump_pending t)
      if s.nat (O.tb_jump_guard t) < p.natAbs then (s.endPending t 3).stepTb t p false else s.endPending t 0

/-- An offset measurement meets the jump guard (R356, R360): four in a row beyond it record a pending step, but for the
first jump after Ready, which is stepped at once unless guard_at_start is set. -/
def State.guardOffset (s : State) (t : Nat) (offset : Int) : State :=
  let big : Bool := s.nat (O.tb_jump_guard t) * 1000 < offset.natAbs
  let step := roundDiv (-offset) 1000
  let r := s.tbRec t
  let js := s.nat (O.tb_jump_state t)
  if js = 1 ∨ js = 2 then (if big then s.setI (O.tb_jump_pending t) step else s.endPending t 0)
  else if !big then s.putTb { r with overs := 0 }
  else if r.overs < 3 then s.putTb { r with overs := r.overs + 1 }
  else if !r.jumped ∧ !s.flag (O.tb_guard_at_start t) then (s.putTb { r with overs := 0, jumped := true }).stepTb t step
  else
    ((((s.putTb { r with overs := 0, jumped := true }).setI (O.tb_jump_pending t) step).setN (O.tb_jump_state t) 1).count
      (O.tb_jumps_refused t)).reviewJump t

/-- The time base follows its master (R348): its DPLL is locked to the time base's PTP entry. -/
def State.followsPtp (s : State) (t : Nat) : Bool :=
  let k := s.nat (O.tb_dpll t)
  let e := s.nat (O.dpll_selected k)
  s.nat (O.dpll_mode k) == 0 && e != none8 && s.nat (O.ref_source (1 + e)) == 3 && s.nat (O.ref_unit (1 + e)) == t &&
    s.dpllState 4 k == 1

/-- A Sync measurement of the port that follows (R347, R348, R356). -/
def State.syncMeasured (s : State) (p : Nat) (offset path : Int) : State :=
  let t := s.nat (O.ptp_time_base p)
  let st := s.nat (O.ptp_port_state p)
  if s.standby ∨ (st ≠ 8 ∧ st ≠ 9) then s
  else
    let r := s.ptp p
    let s1 := ((s.setI (O.tb_offset_from_master t) offset).setI (O.tb_mean_path_delay t) path).putPtp { r with meas := r.meas + 1 }
    let s2 := if st = 8 ∧ 4 ≤ r.meas + 1 then
        ((s1.setPort p 9).putTb { s1.tbRec t with lostAt := none }).reviewNoMaster t
      else s1
    let s3 := s2.guardOffset t offset
    let big : Bool := s.nat (O.tb_jump_guard t) * 1000 < offset.natAbs
    s3.correctTb t (if !big && s.followsPtp t then roundDiv (-offset) 1000 else 0) (s.nat (O.dpll_realign_slew (s.nat (O.tb_dpll t))))

/-! ## Messages (R350 to R353) -/

/-- An Announce (R347): its sender's description is held with the instant. -/
def State.announceHeard (s : State) (p : Nat) (m : PtpMaster) : State :=
  let r := s.ptp p
  (s.putPtp { r with heard := r.heard.filter (fun e => e.1.sender ≠ m.sender) ++ [(m, s.now)], timedOut := false }).bmca
    (s.nat (O.ptp_time_base p))

/-- A received PTP message. One that uses an unsupported option is counted and discarded (R351); one of another domain is
not the instance's. -/
def State.ptpRx (s : State) (p : Nat) (m : PtpMsg) : State :=
  let d := s.tbDomain (s.nat (O.ptp_time_base p))
  let s1 := s.count (O.ptp_rx_messages p)
  match m with
  | .unsupported => s1.count (O.ptp_rx_errors p)
  | .announce dom p1 cls acc var p2 gm steps utc sender =>
    if dom ≠ d then s1 else s1.announceHeard p ⟨p1, cls, acc, var, p2, gm, steps, utc, sender⟩
  | .sync dom offset path => if dom ≠ d then s1 else s1.syncMeasured p offset path
  | .delayReq _ => s1
  | .delayResp dom path =>
    if dom ≠ d ∨ s.standby ∨ (s.nat (O.ptp_port_state p) ≠ 8 ∧ s.nat (O.ptp_port_state p) ≠ 9) then s1
    else s1.setI (O.tb_mean_path_delay (s.nat (O.ptp_time_base p))) path

/-- An interface of a port or of launch is up; the management ports are (Table 13.5). -/
def State.ifaceUp (s : State) (i : Nat) : Bool :=
  i == 1024 || i == 1025 || (s.laneExists i && s.isEth i && s.nat (O.eth_link_state (1 + i)) == 1)

/-- A port may send a message of a kind in its state: a master Announce, Sync and Delay_Resp; one that follows Delay_Req,
and with peer delay any port. A standby and a chip in safe state send none (R349, R450). -/
def State.maySend (s : State) (p : Nat) (kind : PtpSend) : Bool :=
  let st := s.nat (O.ptp_port_state p)
  s.flag (O.ptp_enable p) && !s.standby && !s.safe && s.ifaceUp (s.nat (O.ptp_interface p)) &&
    (match kind with
     | .delayReq => st == 8 || st == 9 || s.nat (O.ptp_delay_mechanism p) == 1
     | .delayResp => st == 6 || s.nat (O.ptp_delay_mechanism p) == 1
     | _ => st == 6)

/-- A PTP message leaves (R350, R352, R353). -/
def State.ptpTx (s : State) (p : Nat) (kind : PtpSend) : State :=
  if s.maySend p kind then
    let t := s.nat (O.ptp_time_base p)
    let i := s.nat (O.ptp_interface p)
    let s1 := s.count (O.ptp_tx_messages p)
    let s2 := if i < 1024 then s1.count (O.eth_tx_frames (1 + i)) 1 64 else s1
    if kind = .announce then
      s2.emit (.ptp p kind (s.clockClass t) (s.clockAccuracy t)
        (if s.nat (O.tb_profile t) = 0 then some (s.int (O.tb_utc_offset t)) else none))
    else s2.emit (.ptp p kind 0 0 none)
  else s

/-! ## Transmit timestamp queues (R361, R362) -/

/-- An entry joins a time base's queue; at a full one the oldest is lost. `status` is that of Table 13.5. -/
def State.queueStamp (s : State) (l : LaunchReq) (status : Nat) : State :=
  let t := l.tb
  let short := s.nat (O.tb_time_format t)
  let seq := s.nat (O.tsq_next_sequence t)
  let stamp := if Machine.bit status 2 then zeros 10
    else if short = 1 then zeros 6 ++ beBytes 4 (s.tbNow t) else time80 (s.tbNow t)
  let entry := beBytes 2 seq ++ beBytes 2 l.ident ++ beBytes 2 l.iface ++ beBytes 1 status ++ beBytes 1 short ++ stamp ++ [0, 0]
  let old := s.oct (O.tsq_entries t)
  let full : Bool := 640 ≤ old.length
  let now' := (if full then old.drop 20 else old) ++ entry
  let s1 := ((s.setB (O.tsq_entries t) now').setN (O.tsq_count t) (now'.length / 20)).setN (O.tsq_next_sequence t) ((seq + 1) % 65536)
  if full then ((s1.setBit (O.tsq_status t) 0 true).count (O.tsq_lost t)).strike F.tsOverflow t seq else s1

/-- The entries of a queue after those up to a sequence have gone; none where it is not in the queue (R362). -/
def dropStamps (seq : Nat) : List Bytes → Option (List Bytes)
  | [] => none
  | e :: r => if field e 0 2 = seq then some r else dropStamps seq r

/-- TS_QUEUE_RELEASE (R362). -/
def State.releaseStamps (s : State) (t seq : Nat) : Nat × State :=
  match dropStamps seq (records 20 (s.oct (O.tsq_entries t))) with
  | none => (C.range, s)
  | some l => (0, (s.setB (O.tsq_entries t) l.flatten).setN (O.tsq_count t) l.length)

/-! ## Launch requests (R355, R364) -/

/-- The instant that 10 bytes say in a time base's format; a 32-bit one lies within 2³¹ ns of now (R355). -/
def State.launchInstant (s : State) (t : Nat) (bs : Bytes) : Option Nat :=
  if s.nat (O.tb_time_format t) = 1 then
    let d := ((field bs 6 4 : Int) - s.tbNow t) % 4294967296
    some ((s.tbNow t : Int) + (if d < 2147483648 then d else d - 4294967296)).toNat
  else time80Of bs

/-- LAUNCH_REQUEST (R364, Table 13.7). -/
def State.writeLaunch (s : State) (req : Bytes) : Nat × State :=
  let t := field req 0 1
  let flags := field req 1 1
  let iface := field req 2 2
  if s.standby then (C.locked, s)
  else if req.length < 30 ∨ 1530 < req.length ∨ 4 ≤ t ∨ 2 ≤ flags then (C.range, s)
  else
    match s.launchInstant t (slice req 6 10) with
    | none => (C.range, s)
    | some i =>
      if i < s.tbNow t + 2000 ∨ s.tbNow t + nsPerSec < i ∨ !s.ifaceUp iface then (C.range, s)
      else if 64 ≤ s.clocks.launches.length then (C.busy, s)
      else (0, { s with clocks := { s.clocks with
        launches := s.clocks.launches ++ [⟨t, flags = 1, iface, field req 4 2, i, req.drop 16⟩] } })

/-! ## The packets of transmit flows (R224, R229, R231, R233) -/

/-- The format of a transmit flow's group; 0 for none. -/
def State.txFormat (s : State) (fam inst : Nat) : Nat :=
  let g := s.flowGroup fam inst
  if g < 2048 then s.nat (O.dst_format (1024 + g)) else 0

/-- The launch of packet `j` of a frame of `n` packets after the first one, in ns (R231): gapped senders spread a frame or
field over its active part, linear ones over all of it. -/
def packetOffset (f n typ j : Nat) : Nat :=
  let r := frameRate f
  let a := if typ = 0 then rActive f else (1, 1)
  let parts := if byFields f then 2 else 1
  let per := max 1 (n / parts)
  ceilDiv (j / per * nsPerSec * r.2) (parts * max 1 r.1) + ceilDiv (j % per * nsPerSec * r.2 * a.1) (max 1 r.1 * max 1 n * a.2)

/-- The number of packets of a frame that have been due `el` ns after the first. -/
def packetsDue (f n typ el : Nat) : Nat :=
  (List.range (if byFields f then 2 else 1)).foldl (fun acc part =>
    let r := frameRate f
    let a := if typ = 0 then rActive f else (1, 1)
    let parts := if byFields f then 2 else 1
    let per := max 1 (n / parts)
    let start := ceilDiv (part * nsPerSec * r.2) (parts * max 1 r.1)
    if el < start then acc
    else acc + min per ((el - start) * r.1 * max 1 n * a.2 / (nsPerSec * r.2 * max 1 a.1) + 1)) 0

/-- The packet time of an audio flow in ns. -/
def State.packetNs (s : State) (inst : Nat) : Nat := if s.nat (O.aflow_packet_time 0x3700 inst) = 0 then 1000000 else 125000

/-- The alignment instant of field or frame `i` of a format with an offset, in ns of its time base. -/
def fieldAt (f : Nat) (off : Int) (i : Nat) : Nat :=
  let parts := if byFields f then 2 else 1
  ((alignAt f (i / parts) : Int) + off + ceilDiv (i % parts * nsPerSec * (frameRate f).2) (parts * max 1 (frameRate f).1)).toNat

/-- The timing offset of a transmit flow's group. -/
def State.txOffset (s : State) (fam inst : Nat) : Int :=
  let g := s.flowGroup fam inst
  if g < 2048 then s.int (O.dst_timing_offset (1024 + g)) else 0

/-- The alignment instant of packet `i` of a transmit flow, which its RTP timestamp says: of its frame or field, or of its
first sample (R229). -/
def State.packetAt (s : State) (fam inst i : Nat) : Nat :=
  let f := s.txFormat fam inst
  if fam = 0x7000 then fieldAt f (s.txOffset fam inst) i
  else if inst < 12288 then
    let n := max 1 (s.vflowPackets inst)
    let parts := if byFields f then 2 else 1
    fieldAt f (s.txOffset fam inst) (i / n * parts + i % n / max 1 (n / parts))
  else i * s.packetNs inst

/-- The launch instant of packet `i` of a transmit flow (R231 to R233). -/
def State.launchAt (s : State) (fam inst i : Nat) : Nat :=
  let f := s.txFormat fam inst
  if fam = 0x7000 then fieldAt f (s.txOffset fam inst) (i + 1) - linesNs f 1 1
  else if inst < 12288 then
    let n := max 1 (s.vflowPackets inst)
    ((alignAt f (i / n) : Int) + s.txOffset fam inst + s.troNow (s.flowGroup fam inst) +
      packetOffset f n (s.nat (O.vflow_sender_type fam inst)) (i % n)).toNat
  else (i + 1) * s.packetNs inst + s.nat O.pk_audio_launch_lead

/-- The latest packet of a transmit flow that is due at a reading of its time base. -/
def State.latestDue (s : State) (fam inst r : Nat) : Option Nat :=
  let f := s.txFormat fam inst
  if fam = 0x7000 then
    if f = 0 then none
    else
      let parts := if byFields f then 2 else 1
      let n := parts * frameIndex f (((r + linesNs f 1 1 : Nat) : Int) - s.txOffset fam inst).toNat
      [n + 1, n, n - 1].find? (fun i => s.launchAt fam inst i ≤ r)
  else if inst < 12288 then
    let n := s.vflowPackets inst
    if f = 0 ∨ n = 0 then none
    else
      let lead := s.txOffset fam inst + s.troNow (s.flowGroup fam inst)
      let x := ((r : Int) - lead).toNat
      let fr := frameIndex f x
      match packetsDue f n (s.nat (O.vflow_sender_type fam inst)) (x - alignAt f fr) with
      | 0 => none
      | d + 1 => some (fr * n + d)
  else
    let lead := s.packetNs inst + s.nat O.pk_audio_launch_lead
    if r < lead then none else some ((r - lead) / s.packetNs inst)

/-- The next packet that a leg of a transmit flow has due, with its launch instant: the one after the packet launched last,
or where none has been launched the latest due. After a step the flow sends nothing until its first new alignment
(R359). -/
def State.nextPacket (s : State) (fam inst leg : Nat) : Option (Nat × Nat) :=
  let t := s.txTb fam inst
  let r := s.tbNow t
  let i := match kfind s.clocks.lastTx (fam, inst, leg) with
    | some l => if s.launchAt fam inst (l + 1) ≤ r then some (l + 1) else none
    | none => s.latestDue fam inst r
  match i with
  | none => none
  | some i =>
    let stepped := match s.tbs[t]? with | some b => b.stepped | none => 0
    if s.packetAt fam inst i < stepped then none else some (i, s.launchAt fam inst i)

/-- The RTP sequence number of packet `i` (R224). -/
def State.rtpSequence (fam inst i : Nat) : Nat := if fam = 0x3700 ∧ inst < 12288 then i % 4294967296 else i % 65536

/-- The media clock of a flow in hertz (R229). -/
def State.mediaHz (s : State) (fam inst : Nat) : Nat :=
  if fam = 0x3700 ∧ 12288 ≤ inst then (if s.nat (O.aflow_sample_rate fam inst) = 0 then 48000 else 96000) else 90000

/-- The RTP timestamp of packet `i` (R229). -/
def State.rtpTimestamp (s : State) (fam inst i : Nat) : Nat :=
  s.packetAt fam inst i * s.mediaHz fam inst / nsPerSec % 4294967296

/-- The SSRC that a transmit flow sends: by default pair ID × 65 536 + its instance (R224). -/
def State.txSsrc (s : State) (fam inst : Nat) : Nat :=
  (orDefault (s.int (O.flow_ssrc fam inst)) (s.pairId * 65536 + inst)).toNat

/-! ## The launch scheduler (R363, R364) -/

/-- What a scheduler may release: how long it has been due, its place in the order of R363, its number within that place,
and the frame. -/
structure Launchable where
  overdue : Nat
  place : Nat
  num : Nat
  what : (Nat × Nat × Nat × Nat) ⊕ LaunchReq
  deriving DecidableEq, Repr

/-- The earlier due of two, or by the order of R363. -/
def Launchable.before (a b : Launchable) : Bool :=
  b.overdue < a.overdue || (a.overdue == b.overdue && lexBefore [a.place, a.num] [b.place, b.num])

/-- A transmit leg sends: it stands on the interface, and its address is resolved (R223), and its packet engine
is not under block reset (R444). -/
def State.legSends (s : State) (fam inst leg iface : Nat) : Bool :=
  s.legPort fam inst leg == iface && !s.underReset (.packets (iface / 64)) &&
    !s.packet.resolves.any (fun r => r.fam == fam && r.inst == inst && r.leg == leg && r.mac.isNone)

/-- The media packets that an interface has due; none in safe state (R450). -/
def State.duePackets (s : State) (iface : Nat) : List Launchable :=
  if s.safe then []
  else
    s.txFlows.flatMap (fun fl =>
      ((s.legs fl.1 fl.2).filter (fun l => s.legSends fl.1 fl.2 l iface)).filterMap (fun l =>
        (s.nextPacket fl.1 fl.2 l).map (fun x =>
          ⟨s.tbNow (s.txTb fl.1 fl.2) - x.2, if fl.1 = 0x7000 then 2 else if fl.2 < 12288 then 3 else 1, fl.2,
            .inl (fl.1, fl.2, l, x.1)⟩)))

/-- The launch requests that an interface has due. -/
def State.dueRequests (s : State) (iface : Nat) : List Launchable :=
  (s.clocks.launches.zip (List.range s.clocks.launches.length)).filterMap (fun e =>
    if e.1.iface = iface ∧ e.1.instant ≤ s.tbNow e.1.tb then some ⟨s.tbNow e.1.tb - e.1.instant, 4, e.2, .inr e.1⟩ else none)

/-- The frame that an interface releases next. -/
def State.nextLaunch (s : State) (iface : Nat) : Option Launchable :=
  (s.duePackets iface ++ s.dueRequests iface).foldl (fun a x =>
    match a with | none => some x | some y => if x.before y then some x else some y) none

/-- One frame time of Table 13.6 in ps. -/
def State.frameTime (s : State) (iface : Nat) : Nat :=
  if 1024 ≤ iface then 12336000
  else match s.portKind iface with | 2 => 493500 | 3 => 123400 | _ => 30900

/-- A frame leaves an interface `delay` ps after its instant. -/
def State.frameLeaves (s : State) (iface delay : Nat) : State :=
  let s1 := (s.count (O.ifc_launched (1 + iface)) 1 64).setN (O.ifc_worst_delay (1 + iface))
    (max (s.nat (O.ifc_worst_delay (1 + iface))) (min delay 4294967295))
  if iface < 1024 then s1.count (O.eth_tx_frames (1 + iface)) 1 64 else s1

/-- A launch request's frame is released, or, being late, sent at once or discarded as late_action selects (R364). -/
def State.launchRequest (s : State) (l : LaunchReq) (delay : Nat) : State :=
  let late : Bool := s.frameTime l.iface < delay
  let drop : Bool := late ∧ s.nat O.launch_late_action = 0
  let s1 : State := { s with clocks := { s.clocks with launches := s.clocks.launches.filter (fun x => x ≠ l) } }
  let s2 := if late then (s1.count O.launch_late).strike F.launchLate l.iface l.ident else s1
  let s3 := if drop then s2.count (O.ifc_late_discarded (1 + l.iface))
    else ((s2.frameLeaves l.iface delay).count O.launch_launched).emit (.launch l.iface l.frame)
  if l.stamp then s3.queueStamp l (if drop then 6 else if late then 3 else 1) else s3

/-- The scheduler of an interface releases its next frame (R363). -/
def State.launchNext (s : State) (iface delay : Nat) : State :=
  if !s.ifaceUp iface then s
  else
    match s.nextLaunch iface with
    | none => s
    | some ⟨_, _, _, .inr l⟩ => s.launchRequest l delay
    | some ⟨_, _, _, .inl (fam, inst, leg, i)⟩ =>
      let s1 : State := { s with clocks := { s.clocks with lastTx := kput s.clocks.lastTx (fam, inst, leg) i } }
      (s1.frameLeaves iface delay).emit (.packet iface fam inst (State.rtpSequence fam inst i) (s.rtpTimestamp fam inst i) (s.txSsrc fam inst))

/-! ## Who uses a time base -/

/-- Some unit uses a time base, so its rwi objects refuse a write (the list before R366). -/
def State.tbUsed (s : State) (t : Nat) : Bool :=
  (List.range 3072).any (fun d => s.nat (O.dst_time_base d) == t &&
      (s.dstBusy ⟨.video, d⟩ || s.salvoHeld ⟨.video, d⟩)) ||
    (List.range 64).any (fun h => s.nat (O.head_class h) != 0 && s.nat (O.head_time_base h) == t) ||
    (List.range 24).any (fun o => s.flag (O.cko_enable o) && s.nat (O.dpll_epoch_tb (s.natNow (O.cko_dpll o))) == t) ||
    (List.range 4).any (fun k => s.nat (O.dpll_epoch_state k) == 1 && s.nat (O.dpll_epoch_tb k) == t) ||
    (List.range 4).any (fun n => s.flag (O.swp_enable n) && s.nat (O.swp_time_base n) == t) ||
    !(s.tbPorts t).isEmpty ||
    s.txFlows.any (fun f => s.txTb f.1 f.2 == t) ||
    s.rxFlows.any (fun f => (if f.1 = 0x3700 then s.flowTb f.2 else 0) == t) ||
    (t == 0 && ((List.range 64).any (fun d => s.nat (O.sap_state (1 + d)) != 0) || s.nat O.sapAll_trigger_state == 1)) ||
    s.sw.routes.any (fun r => r.dst.ess == .video && s.idHere r.pl.src &&
      (let x := idIdx r.pl.src; if 3136 ≤ x ∧ x < 3200 then s.nat (O.src_gen_tb x) == t else x < 3072 && s.nat (O.src_measure_tb x) == t)) ||
    s.sw.takes.any (fun r => r.inst.isSome && (s.beat r.dst).tb == t) ||
    s.salvos.own.any (fun x => x.tb == t) ||
    s.clocks.launches.any (fun l => l.tb == t)

/-! ## Writes -/

/-- TIME_SET (R358): the reading is set; beyond the guard only with step_override. -/
def State.writeTime (s : State) (t reading : Nat) (override : Bool) : Nat × State :=
  let d := (reading : Int) - s.tbNow t
  if 2 ≤ s.nat (O.tb_role t) then (C.busy, s)
  else if s.nat (O.tb_jump_guard t) < d.natAbs ∧ !override then (C.jump, s)
  else (0, if d = 0 then s else s.stepTb t d)

/-- JUMP_ACCEPT (R357). -/
def State.acceptJump (s : State) (t : Nat) : Nat × State :=
  let js := s.nat (O.tb_jump_state t)
  let w := s.nat (O.tb_jump_at t)
  if js ≠ 1 ∧ js ≠ 2 then (C.range, s)
  else if w ≠ 0 ∧ w < s.tbNow t + 1000000 then (C.range, s)
  else (0, (s.putTb { s.tbRec t with accept := some (if w = 0 then s.tbNow t + 1000000 else w) }).setN (O.tb_jump_state t) 2)

/-- JUMP_WITHDRAW (R357). -/
def State.withdrawJump (s : State) (t : Nat) : Nat × State :=
  match s.nat (O.tb_jump_state t) with
  | 2 => (0, (s.putTb { s.tbRec t with accept := none }).setN (O.tb_jump_state t) 1)
  | 3 => (C.tooLate, s)
  | _ => (0, s)

/-- A PTP port is enabled or disabled (R347, Table 13.1). -/
def State.enablePtp (s : State) (p : Nat) (on : Bool) : Nat × State :=
  let t := s.nat (O.ptp_time_base p)
  if on ∧ s.nat (O.tb_role t) = 0 then (C.range, s)
  else if on = s.flag (O.ptp_enable p) then (0, s)
  else if on then (0, (((s.setF (O.ptp_enable p) true).putPtp ⟨p, [], 0, s.now, false⟩).setPort p 4).bmca t)
  else
    let s1 : State := { s with clocks := { s.clocks with ports := s.clocks.ports.filter (fun r => r.port ≠ p) } }
    (0, ((s1.setF (O.ptp_enable p) false).setPort p 3).bmca t)

/-- A write of the time families; none where it has no behaviour of its own. `over` lists the time bases to whose
step_override the same transaction writes 1 (R358). -/
def State.writeTimeBase (s : State) (ovr : List Nat) (k : Key) (v : Val) : Option (Nat × State) :=
  let n := v.int.toNat
  match k.fam, k.sub with
  | 0x5400, 0x00 =>
    some (0, ((s.set k v).putTb { s.tbRec k.inst with follows := none, overs := 0, accept := none, lostAt := none }).endPending k.inst 0)
  | 0x5400, 0x04 => if v.int < 0 ∨ 127 < v.int then some (C.range, s) else none
  | 0x5400, 0x05 => some (0, (s.set k v).bmca k.inst)
  | 0x5400, 0x06 => some (0, (s.set k v).bmca k.inst)
  | 0x5400, 0x13 => some (if n = 1 then s.acceptJump k.inst else s.withdrawJump k.inst)
  | 0x5400, 0x15 => some (s.writeTime k.inst n (ovr.contains k.inst))
  | 0x5400, 0x16 => some (0, s)
  | 0x5500, 0x00 => some (s.enablePtp k.inst (n = 1))
  | 0x5500, 0x02 => if n < 1024 ∧ !(s.laneExists n ∧ s.isEth n) then some (C.range, s) else none
  | 0x5500, 0x09 => some (0, (s.set k v).bmca (s.nat (O.ptp_time_base k.inst)))
  | 0x5500, sub => if s.ptpFits k.inst sub v.int then none else some (C.range, s)
  | 0x5600, 0x03 => some (s.releaseStamps k.inst n)
  | 0x5600, 0x06 => some (0, if n = 1 then s.setBit (O.tsq_status k.inst) 0 false else s)
  | 0x5700, 0x01 => if k.inst = 0 then some (s.writeLaunch v.oct) else none
  | 0x5700, 0x03 =>
    if k.inst = 0 then none
    else some (0, if n = 1 then ((s.setN (O.ifc_launched k.inst) 0).setN (O.ifc_late_discarded k.inst) 0).setN (O.ifc_worst_delay k.inst) 0 else s)
  | _, _ => none

end Sys2Proof.Machine
end

