-- ==== Sys2Proof/Machine/Lanes.lean ====
section
/-! DEFINITION. Ports, serial lanes, equalisers and lane tests (R13 to R18, R370 to R395): the behaviour of their writes,
and the commands of chapter 14 that are not writes, but for the loss of a lane reference. -/

namespace Sys2Proof.Machine

/-! ## What a port carries (R16, R383) -/

/-- The port of a source of this chip, where it belongs to one (Tables 1.5 to 1.7). -/
def State.srcPort (s : State) (src : Nat) : Option Nat :=
  let x := idIdx src
  if !s.idHere src then none
  else
    match idEss src with
    | 0 => if x < 1024 then some x else none
    | 1 => if x < 32768 then some (x / 32) else none
    | 2 => if x < 2048 ∧ s.nat (O.ancx_port x) < 1024 then some (s.nat (O.ancx_port x)) else none
    | _ => none

/-- A destination of port `p` carries a route or a take on its way, or is held by a salvo. -/
def State.portDst (s : State) (p : Nat) : Bool :=
  s.sw.routes.any (fun r => s.leadOf r.dst == some p) || s.sw.takes.any (fun r => s.leadOf r.dst == some p) ||
    s.salvos.parts.any (fun x => x.state < 2 && x.entries.any (fun e => s.leadOf ⟨essOf (idEss e.1.dst), idIdx e.1.dst⟩ == some p))

/-- A source of port `p` feeds a route or a take on its way. -/
def State.portSrc (s : State) (p : Nat) : Bool :=
  s.sw.routes.any (fun r => s.srcPort r.pl.src == some p) || s.sw.takes.any (fun r => s.srcPort r.src == some p)

/-- Some flow of a list has a leg on a port. -/
def State.flowOn (s : State) (fs : List (Nat × Nat)) (p : Nat) : Bool :=
  fs.any (fun f => (s.legs f.1 f.2).any (fun l => s.legPort f.1 f.2 l == p))

/-- A mesh link stands on a port: its lane has trained or trains, as 2400h sub 00 reads it. -/
def State.meshOn (s : State) (p : Nat) : Bool :=
  s.portKind p == 5 && 2 ≤ s.nat (O.mlink_state (1 + p)) && s.nat (O.mlink_state (1 + p)) ≤ 5

/-- A lane test runs on a lane of a port. -/
def State.portTested (s : State) (p : Nat) : Bool := (s.portLanes p).any s.testRuns

/-- R383 would allow the lanes of a port to be Idle. -/
def State.mayIdle (s : State) (p : Nat) : Bool :=
  !(s.portDst p || s.flowOn s.txFlows p || s.meshOn p || s.portTested p)

/-- R383 would allow the lanes of a port to be Dormant; a lane's rwi objects are idle then. -/
def State.mayDormant (s : State) (p : Nat) : Bool := s.mayIdle p && !(s.portSrc p || s.flowOn s.rxFlows p)

/-- A port's state as 2300h sub 03 reads it. -/
def State.portUse (s : State) (p : Nat) : Nat := if s.portTested p then 2 else b01 (!s.mayDormant p)

/-! ## Rates (R370, R372) -/

/-- The lane-reference group of a port kind; 0 for none. -/
def kindGroup (k : Nat) : Nat := match k with | 2 => 2 | 3 => 2 | 4 => 3 | 5 => 1 | _ => 0

/-- The lane-reference group of a rate in kb/s (Table 14.1); none where it is no rate of a lane, 0 for an SDI rate. -/
def rateGroup (r : Nat) : Option Nat :=
  if r = 25000000 ∨ r = 12500000 ∨ r = 6250000 ∨ r = 3125000 ∨ r = 1250000 then some 1
  else if r = 25781250 then some 2
  else if r = 26562500 then some 3
  else if r = 28125000 then some 4
  else if r = 2160000 ∨ ([2, 3, 5, 6].any (fun m => modeRate m false = r ∨ modeRate m true = r)) then some 0
  else none

/-- An SDI lane's rate in kb/s, SD being oversampled eight times. -/
def State.sdiLaneRate (s : State) (p : Nat) : Nat :=
  let m := s.txMode p
  if m = 1 then 2160000 else modeRate m (pulled (s.nat (O.dst_format p)))

/-- The rate of a port kind, for a lane of port `p`. -/
def State.kindRate (s : State) (p : Nat) : Nat :=
  match s.portKind p with | 2 => 25781250 | 3 => 25781250 | 4 => 26562500 | 5 => 25000000 | _ => s.sdiLaneRate p

/-- The rate of the test of lane `l`. -/
def State.testRate (s : State) (l : Nat) : Nat :=
  let r := s.nat (O.ltest_rate l); if r = 0 then s.kindRate (s.ownerPort l) else r

/-- The group that lane `l` needs of its tile's lane-reference PLL: its test's, or its port's. -/
def State.laneGroup (s : State) (l : Nat) : Nat :=
  if s.testRuns l then (rateGroup (s.testRate l)).getD 0 else kindGroup (s.portKind (s.ownerPort l))

/-- The group that a tile's lane-reference PLL runs, lanes of `skip` aside (R372). -/
def State.tileGroup (s : State) (t : Nat) (skip : List Nat) : Nat :=
  maxBy (fun i => if skip.contains (64 * t + i) then 0 else s.laneGroup (64 * t + i)) (List.range 64)

/-- What a lane reads as (rate, coding, transmit PLL) (Table 14.1). -/
def State.laneLine (s : State) (l : Nat) : Nat × Nat × Nat :=
  let p := s.ownerPort l
  let r := if s.testRuns l then s.testRate l else s.kindRate p
  let pull := pulled (s.nat (O.dst_format p)) && s.txMode p != 1
  (r, if s.testRuns l then 4 else (match s.portKind p with | 2 => 2 | 3 => 2 | 4 => 2 | 5 => 3 | _ => 1),
    if (rateGroup r).getD 0 ≠ 0 then 0
    else if s.testRuns l then b01 (r % 10000 ≠ 0) + 1 else b01 pull + 1)

/-! ## Port kinds (R13 to R18, R372, R373) -/

/-- The kind that the released lanes of a multi-lane port return to (R18). -/
def baseKind (k : Nat) : Nat := match k with | 3 => 2 | 4 => 2 | _ => 0

/-- What a mesh link has learned of its far end is lost. -/
def State.linkForget (s : State) (l : Nat) : State :=
  let i := 1 + l
  let s1 := (((s.setN (O.mlink_peer_chip i) 1023).setN (O.mlink_peer_lane i) none16).setB (O.mlink_peer_serial i) []).setN (O.mlink_link_version i) 0
  let s2 := (s1.setN (O.mlink_delay i) 0).setN (O.mlink_symmetry i) 0
  { s2 with mesh := { s2.mesh with lanes := s2.mesh.lanes.filter (fun r => r.lane ≠ l) } }

/-- What stood at a port number goes, before another kind stands there: an input reports nothing, its source is absent. -/
def State.portReset (s : State) (q : Nat) : State :=
  let s1 := (((s.sdiClear q).sourceGone q).setN (O.eth_link_state (1 + q)) 0).linkForget q
  (s1.setN (O.mlink_state (1 + q)) (if s1.portKind q = 5 then 1 else 0)).setN (O.lane_rx_lock q) 0

/-- The port takes a kind: its lanes become members, and the lanes that it leaves single ports (R18). -/
def State.formPort (s : State) (p kind : Nat) : State :=
  let old := s.portKind p
  let lanes := s.portLanes p
  let new := (List.range (kindLanes kind)).map (fun i => p + i)
  let freed := lanes.filter (fun l => !new.contains l)
  let s1 := freed.foldl (fun st l => (st.setN (O.port_kind l) (baseKind old)).setN (O.port_owner_port l) l) s
  let s2 := (new.filter (fun l => l ≠ p)).foldl (fun st l => (st.setN (O.port_kind l) 6).setN (O.port_owner_port l) p) s1
  (nub (p :: freed ++ new)).foldl (fun st q => st.portReset q) (s2.setN (O.port_kind p) kind)

/-- A lane can be taken into a port (R16): it is part of no other multi-lane port, and its port carries nothing. -/
def State.laneFree (s : State) (p l : Nat) : Bool :=
  let o := s.ownerPort l
  (o == p || kindLanes (s.portKind o) == 1) &&
    !(s.portDst o || s.portSrc o || s.flowOn (s.txFlows ++ s.rxFlows) o || s.meshOn o || s.portTested o)

/-- PORT_KIND_WRITE (R13 to R18, R372, R373, R383). -/
def State.writeKind (s : State) (p kind : Nat) : Nat × State :=
  let old := s.portKind p
  let n := kindLanes kind
  let lanes := s.portLanes p
  let new := (List.range n).map (fun i => p + i)
  let judged := if 1 < n ∧ 1 < lanes.length then new.filter (fun l => !lanes.contains l) else new
  let freed := lanes.filter (fun l => !new.contains l)
  let groups := ([kindGroup kind] ++ (if freed.isEmpty then [] else [kindGroup (baseKind old)]) ++
    [s.tileGroup (p / 64) (new ++ lanes)]).filter (fun g => g ≠ 0)
  if kind = 6 ∨ p % n ≠ 0 then (C.range, s)
  else if kind = old then (0, s)
  else if 2 ≤ kind ∧ kind ≤ 4 ∧ s.natNow (O.tile_lref_spread (1024 + p / 64)) ≠ 0 then (C.range, s)
  else if !(judged ++ freed).all (s.laneFree p) then (C.busy, s)
  else if 1 < (nub groups).length then (C.busy, s)
  else if kind = 5 ∧ !s.portOpen p then (C.busy, s)
  else (0, s.formPort p kind)

/-! ## Lane states (R382 to R385) -/

/-- A lane enters Dormant: its receiver is off, and its port's source absent (R382). -/
def State.laneSleeps (s : State) (l : Nat) : State :=
  (((s.setN (O.lane_state_now l) 2).setN (O.lane_rx_lock l) 0).setN (O.eq_adapt_state l) 0).sourceGone (s.ownerPort l)

/-- A lane goes to a state from its present one (Table 14.5): from Dormant through waking, and otherwise at once. -/
def State.laneTo (s : State) (l v : Nat) : State :=
  let now' := s.nat (O.lane_state_now l)
  if v = 2 then (if now' = 2 then s else s.laneSleeps l)
  else if now' = 2 then s.setN (O.lane_state_now l) 3
  else if now' = 3 then s
  else s.setN (O.lane_state_now l) v

/-- A lane's set state written (R383, R384). -/
def State.writeLaneState (s : State) (l v : Nat) : Nat × State :=
  let p := s.ownerPort l
  if (v = 1 ∧ !s.mayIdle p) ∨ (v = 2 ∧ !s.mayDormant p) then (C.busy, s)
  else (0, (s.setN (O.lane_state l) v).laneTo l v)

/-! ## Equalisers (R377, R378) -/

/-- An equaliser's object written (R377, R378): manual values govern in mode 3; restart begins from the reset values, and
is refused where the loop does not adapt. -/
def State.writeEq (s : State) (l sub : Nat) (v : Val) : Option (Nat × State) :=
  let manual (s : State) : State :=
    ((s.setN (O.eq_ctle_code l) (s.nat (O.eq_manual_ctle l))).setB (O.eq_dfe_taps l) (s.oct (O.eq_manual_taps l))).setN (O.eq_adapt_state l) 5
  let mode := s.nat (O.eq_eq_mode l)
  match sub with
  | 0x03 =>
    let s1 := s.set (O.eq_eq_mode l) v
    some (0, match v.int with
      | 2 => s1.setN (O.eq_adapt_state l) 4
      | 3 => manual s1
      | _ => s1.setN (O.eq_adapt_state l) (if s.flag (O.lane_rx_lock l) then 1 else 0))
  | 0x04 => some (0, let s1 := s.set (O.eq_manual_ctle l) v; if mode = 3 then manual s1 else s1)
  | 0x05 => some (0, let s1 := s.set (O.eq_manual_taps l) v; if mode = 3 then manual s1 else s1)
  | 0x0F =>
    some (if v.int ≠ 1 then (0, s)
      else if 2 ≤ mode then (C.busy, s)
      else (0, ((s.setN (O.eq_ctle_code l) 0).setB (O.eq_dfe_taps l) (zeros 15)).setN (O.eq_adapt_state l) 1))
  | _ => none

/-! ## Lane tests (R386 to R390) -/

/-- LANE_TEST_START (R387, with R372 and R373). -/
def State.startTest (s : State) (l : Nat) : Nat × State :=
  let p := s.ownerPort l
  let g := (rateGroup (s.testRate l)).getD 0
  let other := s.tileGroup (l / 64) [l]
  if s.nat (O.lane_state_now l) ≠ 0 ∨ s.testRuns l ∨ !s.mayIdle p then (C.busy, s)
  else if s.natNow (O.tile_lref_spread (1024 + l / 64)) ≠ 0 ∧ 1 < g then (C.range, s)
  else if g ≠ 0 ∧ other ≠ 0 ∧ other ≠ g then (C.busy, s)
  else
    let s1 := ((((s.setN (O.ltest_bits l) 0).setN (O.ltest_errors l) 0).setN (O.ltest_injected l) 0).setN (O.ltest_relocks l) 0).setN
      (O.ltest_checker_lock l) 0
    (0, { (s1.setN (O.ltest_state l) (if s.flag (O.ltest_checker l) then 1 else 2)) with
      lanes := { s.lanes with tests := kput s.lanes.tests l s.now } })

/-- A test leaves its test state in a final one. -/
def State.endTest (s : State) (l st : Nat) : State :=
  { ((s.setN (O.ltest_state l) st).setN (O.ltest_checker_lock l) 0) with lanes := { s.lanes with tests := kdel s.lanes.tests l } }

/-- The final count, a test's commit point (R389). -/
def State.finalCount (s : State) (l : Nat) : State :=
  ((s.setN (O.ltest_final_bits l) (s.nat (O.ltest_bits l))).setN (O.ltest_final_errors l) (s.nat (O.ltest_errors l))).endTest l 3

/-- A test is aborted (R389): its running counts are discarded. -/
def State.abortTest (s : State) (l : Nat) : State := ((s.setN (O.ltest_bits l) 0).setN (O.ltest_errors l) 0).endTest l 4

/-- A lane test's object written. -/
def State.writeTest (s : State) (l sub : Nat) (v : Val) : Option (Nat × State) :=
  let n := v.int.toNat
  match sub with
  | 0x02 => if n ≠ 0 ∧ (rateGroup n).isNone then some (C.range, s) else none
  | 0x07 => some (if n = 1 then s.startTest l else (0, s))
  | 0x08 => some (if n ≠ 1 then (0, s) else if s.testRuns l then (0, s.abortTest l)
      else if s.nat (O.ltest_state l) = 3 then (C.tooLate, s) else (0, s))
  | 0x09 => some (if n ≠ 1 then (0, s) else if s.testRuns l then (0, s.finalCount l) else (C.range, s))
  | 0x10 => some (if !s.testRuns l then (C.busy, s) else (0, if n = 1 then s.count (O.ltest_injected l) else s))
  | 0x11 => some (if !s.testRuns l then (C.busy, s) else (0, s.count (O.ltest_injected l) n))
  | _ => none

/-! ## Tiles (R373, R374) -/

/-- The DPLL at the root of a chain of follows (R325). -/
def State.dpllRoot (s : State) : Nat → Nat → Nat
  | 0, k => k
  | fuel + 1, k => if s.nat (O.dpll_mode k) = 1 then s.dpllRoot fuel (s.nat (O.dpll_follow_dpll k)) else k

/-- A DPLL suits a tile's video PLL (R374): its nominal synthesis clock, and the time bases of the tile's SDI outputs. -/
def State.videoDpllFits (s : State) (t pll k : Nat) : Bool :=
  let r := s.nominal 5 k
  (if pll = 0 then r.1 == 2970000000000 * r.2 else r.1 * 1001 == 2970000000000 * 1000 * r.2) &&
    (List.range 64).all (fun i =>
      let p := 64 * t + i
      !s.isSdi p || s.dpllRoot 4 (s.nat (O.tb_dpll (s.nat (O.dst_time_base p)))) == s.dpllRoot 4 k)

/-- A time base may be named by SDI output `p` (R374). -/
def State.outputTbFits (s : State) (p tb : Nat) : Bool :=
  let root (k : Nat) : Nat := s.dpllRoot 4 k
  let t := 1024 + p / 64
  root (s.nat (O.tb_dpll tb)) == root (s.nat (O.tile_video_dpll t)) && root (s.nat (O.tb_dpll tb)) == root (s.nat (O.tile_video_dpll_1001 t))

/-- A tile is idle while no SDI output of it carries a route. -/
def State.tileIdle (s : State) (t : Nat) : Bool :=
  !(List.range 64).any (fun i => s.isSdi (64 * t + i) && (s.route ⟨.video, 64 * t + i⟩).isSome)

/-- A write of the lane families; none where it has no behaviour of its own. -/
def State.writeLanes (s : State) (k : Key) (v : Val) : Option (Nat × State) :=
  let n := v.int.toNat
  match k.fam with
  | 0x2000 =>
    if k.inst < 1024 then
      match k.sub with
      | 0x00 => some (s.writeLaneState k.inst n)
      | 0x0C => some (0, if n = 1 then ((s.setN (O.lane_lock_losses k.inst) 0).setN (O.lane_disparity_errors k.inst) 0).setN
          (O.lane_code_violations k.inst) 0 else s)
      | _ => none
    else if (k.sub = 2 ∨ k.sub = 3) ∧ !s.videoDpllFits (k.inst - 1024) (k.sub - 2) n then some (C.range, s) else none
  | 0x2100 => s.writeEq k.inst k.sub v
  | 0x2200 => s.writeTest k.inst k.sub v
  | 0x2300 => if k.sub = 0 then some (s.writeKind k.inst n) else none
  | _ => none

end Sys2Proof.Machine
end

