-- ==== Sys2Proof/Machine/Mesh.lean ====
section
/-! DEFINITION. Mesh links, the domain plan, admission, heads (R396 to R411), and the loss of a lane reference (R376): the
behaviour of their writes, and the commands of chapter 15 but for MESH_CONTROL_MESSAGE, which may carry an Odrath
request. -/

namespace Sys2Proof.Machine

/-! ## Links -/

/-- The record of a mesh lane. -/
def State.mlane (s : State) (l : Nat) : MeshLane :=
  match s.mesh.lanes.find? (fun r => r.lane = l) with | some r => r | none => ⟨l, 0, 0, 0, 0, [], [], false, 0, 0, 0, 0⟩

/-- The record of a mesh lane set. -/
def State.putMlane (s : State) (r : MeshLane) : State :=
  { s with mesh := { s.mesh with lanes := s.mesh.lanes.filter (fun x => x.lane ≠ r.lane) ++ [r] } }

/-- The mesh lanes whose link is up. -/
def State.upLanes (s : State) : List Nat :=
  (s.objs.filter (fun e => e.1.fam == 0x2400 && e.1.sub == 0 && 1 ≤ e.1.inst && e.1.inst ≤ 1024 && e.2 == .n 3)).map (fun e => e.1.inst - 1)

/-- The chip's link list (R407): its up links as (lane, peer chip, peer lane). -/
def State.linkList (s : State) : List (Nat × Nat × Nat) :=
  s.upLanes.map (fun l => (l, s.nat (O.mlink_peer_chip (1 + l)), s.nat (O.mlink_peer_lane (1 + l))))

/-- The mesh ledger as the chip reports it (R173, Table 6.11): for each up lane what is booked and what may be. -/
def State.ledgerReport (s : State) : List (Nat × Nat × Nat) := s.upLanes.map (fun l => (l, s.meshBooked l, s.meshBookable))

/-- A control message goes over a link to its neighbour, and is counted. -/
def State.sendCtl (s : State) (l : Nat) (n : Notice) : State :=
  (s.count O.mesh_control_sent).emit (.notice (s.nat (O.mlink_peer_chip (1 + l))) n)

/-- A notice goes to the neighbour over every up link (R405, R407). -/
def State.flood (s : State) (n : Notice) : State := s.upLanes.foldl (fun st l => st.sendCtl l n) s

/-- The twin of a chip ID. -/
def twinOf (chip : Nat) : Nat := if chip % 2 = 0 then chip + 1 else chip - 1

/-- The links of a chip, as its latest list gives them; this chip's own. -/
def State.linksOf (s : State) (chip : Nat) : List (Nat × Nat × Nat) :=
  if chip = s.chipId then s.linkList else match s.peer chip with | some p => p.links | none => []

/-- A link is matched (R404): judged from the link lists. -/
def State.linkMatched (s : State) (l : Nat) : Bool :=
  let b := s.nat (O.mlink_peer_chip (1 + l))
  let bl := s.nat (O.mlink_peer_lane (1 + l))
  let me := s.paired
  let you := (s.mlane l).peerRole != 2
  if !me && !you then true
  else if me && you then (s.linksOf (twinOf s.chipId)).contains (l, twinOf b, bl)
  else if me then (s.linksOf (twinOf s.chipId)).any (fun x => x.1 == l && x.2.1 == b)
  else (s.linksOf (twinOf b)).any (fun x => x.1 == bl && x.2.1 == s.chipId)

/-- The symmetry of every up link is judged anew (R404): MESH_UNMATCHED follows. -/
def State.judgeLinks (s : State) : State :=
  let s1 := s.upLanes.foldl (fun st l => st.setN (O.mlink_symmetry (1 + l)) (if s.linkMatched l then 1 else 2)) s
  match s1.upLanes.find? (fun l => s1.nat (O.mlink_symmetry (1 + l)) = 2) with
  | some l => s1.follow F.meshUnmatched l (s1.nat (O.mlink_peer_chip (1 + l))) true
  | none => s1.endFault F.meshUnmatched

/-- Some link that is held neither down nor out of the mesh is not up. -/
def State.otherDown (s : State) (l : Nat) : Bool :=
  s.mesh.lanes.any (fun r => r.lane != l && s.nat (O.mlink_state (1 + r.lane)) == 1)

/-- A link goes down (R402): it is counted and raises MESH_LINK_DOWN, the routes on it await restoration (R176), and the
neighbours learn of it (R407). -/
def State.linkDown (s : State) (l : Nat) (cause : Nat) : State :=
  let r := s.mlane l
  let st := s.nat (O.mlink_state (1 + l))
  if s.portKind l ≠ 5 ∨ st < 2 ∨ st = 6 then s
  else
    let s1 := ((s.setN (O.mlink_state (1 + l)) 1).setN (O.mlink_symmetry (1 + l)) 0).putMlane
      { r with data := 0, ctl := 0, errs := [], echoes := [], heard := false }
    let s2 := ((s1.count (O.mlink_retrains (1 + l))).follow F.meshLinkDown l cause true).failRoutes (fun p => p.lanes.any (fun x => x.1 = l))
    (s2.flood (.linkList s2.linkList s2.ledgerReport)).judgeLinks

/-- The code of a cause of loss, as MESH_LINK_DOWN's detail. -/
def lossCode (c : LinkLoss) : Nat := match c with | .lock => 0 | .alignment => 1 | .commas => 2 | .errors => 3 | .credit => 4

/-- MESH_LINK_ADMIN (R396): a link is held down without changing its port kind; refused while the placer has bookings. -/
def State.writeLinkAdmin (s : State) (l : Nat) (up : Bool) : Nat × State :=
  if up then (0, s.setF (O.mlink_admin (1 + l)) true)
  else if s.meshBooked l ≠ 0 then (C.busy, s)
  else
    let was := s.nat (O.mlink_state (1 + l))
    let s1 := (s.setF (O.mlink_admin (1 + l)) false).linkForget l
    if was = 0 then (0, s1)
    else let s2 := s1.setN (O.mlink_state (1 + l)) 1; (0, if was = 3 then (s2.flood (.linkList s2.linkList s2.ledgerReport)).judgeLinks else s2)

/-- A lane may train: it is in the mesh role, Active, and not held down. -/
def State.mayTrain (s : State) (l : Nat) : Bool :=
  l < 1024 && s.portKind l == 5 && s.portOpen l && s.flag (O.mlink_admin (1 + l))

/-- The mesh version range of the chip holds a version. -/
def State.versionHeld (s : State) (v : Nat) : Bool := s.nat O.mesh_version_min ≤ v && v ≤ s.nat O.mesh_version_max

/-- A serial stands in the plan. -/
def State.inPlan (s : State) (serial : Bytes) : Bool :=
  (planPairs (s.oct O.mesh_plan)).any (fun e => e.serialA == serial || e.serialB == serial)

/-- A chip has a plan, and a serial does not stand in it (R406). -/
def State.outOfPlan (s : State) (serial : Bytes) : Bool := !(s.oct O.mesh_plan).isEmpty && !s.inPlan serial

/-- The one-way delay that 16 echoes give, in ps (R401): half of their mean, at 400 ps a character time. -/
def echoDelay (l : List Nat) : Nat := sumBy (fun x => x) l * 200 / max 1 l.length

/-- A training set of the far end (R401). An announce is answered by an echo; the turnaround of that echo is the chip's
own, and free. -/
def State.trainingSet (s : State) (l : Nat) (set : TrainingSet) : State :=
  let r := s.mlane l
  let i := 1 + l
  if s.nat (O.mlink_state i) ≠ 2 then s
  else
    match set with
    | .announce serial chip role _ vmin vmax lane rev =>
      let s1 := ((s.setB (O.mlink_peer_serial i) serial).setN (O.mlink_peer_chip i) chip).setN (O.mlink_peer_lane i) lane
      (s1.putMlane { r with heard := true, peerRole := role, vmin := vmin, vmax := vmax, rev := rev }).emit
        (.notice chip (.training l (.echo (s.freeNat 1 % 4294967296) 0)))
    | .echo turn trip =>
      let es := (r.echoes ++ [trip - turn]).take 16
      let s1 := s.putMlane { r with echoes := es }
      if es.length = 16 then s1.setN (O.mlink_delay i) (echoDelay es) else s1

/-- Training ends (R401, R403, R406): the link is up, or excluded by version or plan, or failed for its length. -/
def State.linkUp (s : State) (l : Nat) : State :=
  let r := s.mlane l
  let i := 1 + l
  if s.nat (O.mlink_state i) ≠ 2 ∨ r.echoes.length < 16 ∨ !r.heard then s
  else
    let v := min (s.nat O.mesh_version_max) r.vmax
    let long (q : Nat) : Bool := s.nat (O.mlink_state (1 + q)) == 6
    let others := s.mesh.lanes.any (fun x => x.lane != l && long x.lane)
    if 3000000 < s.nat (O.mlink_delay i) then
      (s.setN (O.mlink_state i) 6).follow F.meshLinkLong l (s.nat (O.mlink_delay i)) true
    else
      let s0 := s.followShared F.meshLinkLong l 0 false others
      if v < s.nat O.mesh_version_min ∨ v < r.vmin ∨ s.nat O.mesh_domain_state = 3 then s0.setN (O.mlink_state i) 4
      else if s.outOfPlan (s.oct O.id_serial_number) || s.outOfPlan (s.oct (O.mlink_peer_serial i)) then s0.setN (O.mlink_state i) 5
      else
        let s1 := ((s0.setN (O.mlink_state i) 3).setN (O.mlink_link_version i) v).putMlane
          { r with data := 256, ctl := 32, dataAt := s.now, ctlAt := s.now, errs := [] }
        let s2 := s1.followShared F.meshLinkDown l 0 false (s1.otherDown l)
        let s3 := if r.rev < s.nat O.mesh_plan_revision then s2.sendCtl l (.plan (s.nat O.mesh_plan_revision)) else s2
        ((s3.flood (.linkList s3.linkList s3.ledgerReport)).judgeLinks).retryLost

/-- A discarded cell counts towards the limit of a second (R398, R402). -/
def State.cellDiscarded (s : State) (l : Nat) : State :=
  let r := s.mlane l
  let errs := r.errs.filter (fun a => s.now < a + nsPerSec) ++ [s.now]
  let s1 := s.putMlane { r with errs := errs }
  if s.nat (O.mlink_error_limit (1 + l)) < errs.length then s1.linkDown l 3 else s1

/-- A cell arrives over a mesh lane (R398): its CRC is checked first, then its header decoded. The lines that a discarded
data cell would have fed are filled. -/
def State.meshCell (s : State) (l cls d : Nat) (crcOk : Bool) (word : Nat) : State :=
  let fill (st : State) : State := if cls = 0 ∧ d < 3072 then st.fillLine d 0 else st
  if !crcOk then fill (((s.count (O.mlink_crc_errors (1 + l))).strike F.meshCrc l cls).cellDiscarded l)
  else
    match decodeWord word with
    | .good => s.count (O.mlink_cells_received (1 + l)) 1 64
    | .corrected _ =>
      ((s.count (O.mlink_cells_received (1 + l)) 1 64).count (O.mlink_header_corrected (1 + l))).strike (F.fabricCorrected (l / 64)) l d
    | .uncorrectable => fill ((s.strike (F.fabricDiscard (l / 64)) l d).cellDiscarded l)

/-! ## Lane references (R376) -/

/-- A tile's lane reference is lost, or its PLL unlocks: the Ethernet and mesh links of its lanes go down. -/
def State.lrefLost (s : State) (t : Nat) : State :=
  let s1 := ((s.setBit (O.tile_pll_status (1024 + t)) 0 false).setBit (O.tile_pll_status (1024 + t)) 1 false).follow (F.lrefLoss t) t 0 true
  (List.range 64).foldl (fun st i =>
    let p := 64 * t + i
    if st.portKind p = 5 then st.linkDown p 0
    else if st.isEth p ∧ st.nat (O.eth_link_state (1 + p)) = 1 then st.ethLink p false else st) s1

/-! ## Groups of the chip (R405, R411) -/

/-- The plan entry of a serial. -/
def State.planEntry (s : State) (serial : Bytes) : Option PlanPair :=
  (planPairs (s.oct O.mesh_plan)).find? (fun e => e.serialA = serial ∨ e.serialB = serial)

/-- The groups of the chip, from level 0 outward, as (kind, plan group): its pair where it has a twin, then its path. -/
def State.levels (s : State) : List (Nat × Nat) :=
  let gs := planGroups (s.oct O.mesh_plan)
  (if s.paired then [(1, none16)] else []) ++
    (match s.planEntry (s.oct O.id_serial_number) with
     | none => []
     | some e => (groupPath gs 1000 e.group).map (fun g =>
        (match gs.find? (fun x => x.group = g) with | some x => x.kind + 1 | none => 0, g)))

/-- The group objects follow the plan and the pair: a level whose group has changed has no head yet. -/
def State.showLevels (s : State) : State :=
  let ls := s.levels
  let old := ((s.objs.filter (fun e => e.1.fam == 0x2400 && 2048 ≤ e.1.inst && e.1.sub == 0)).map (fun e => e.1.inst - 2048)).length
  (List.range (max ls.length old)).foldl (fun st k =>
    let i := 2048 + k
    let want := (ls[k]?).getD (0, none16)
    if st.nat (O.mgroup_kind i) = want.1 ∧ st.nat (O.mgroup_plan_group i) = want.2 then st
    else ((st.setN (O.mgroup_kind i) want.1).setN (O.mgroup_plan_group i) want.2).setN (O.mgroup_head i) 1023) s

/-- The chips in reach that belong to a group of the plan, this chip among them. -/
def State.inGroup (s : State) (g : Nat) : List Nat :=
  (s.chipId :: s.mesh.peers.map (fun p => p.chip)).filter (fun c => c < 1000 && (s.pathOf (pairOf c)).contains g)

/-- The chips in reach of a level of the chip's groups (2400h sub 03). -/
def State.levelMembers (s : State) (i : Nat) : Nat :=
  match s.nat (O.mgroup_kind i) with
  | 0 => 0
  | 1 => ((s.chipId :: s.mesh.peers.map (fun p => p.chip)).filter (fun c => pairOf c = s.pairId)).length
  | _ => (s.inGroup (s.nat (O.mgroup_plan_group i))).length

/-! ## Identifiers after a change of chip ID (R25, R27) -/

/-- An identifier with a pair ID in place of another; feeds beyond 32 bits are no identifiers. -/
def rePair (old new i : Nat) : Nat :=
  if i < none32 ∧ idChip i = old then mkId new (idEss i) (idDir i) (idIdx i) else i

/-- A stripe with the pair ID replaced in its feed. -/
def stripeRePair (old new : Nat) (x : Stripe) : Stripe := { x with feed := rePair old new x.feed }

/-- A placement with the pair ID replaced. -/
def placeRePair (old new : Nat) (p : Placement) : Placement :=
  { p with dst := rePair old new p.dst, src := rePair old new p.src, stripes := p.stripes.map (stripeRePair old new) }

/-- A store with the pair ID replaced. -/
def storeRePair (old new : Nat) (x : StoreRec) : StoreRec :=
  { x with src := rePair old new x.src, stripes := x.stripes.map (stripeRePair old new) }

/-- A task and its verdict with the pair ID replaced. -/
def verdictRePair (old new : Nat) (v : Verdict) : Verdict :=
  match v with
  | .placed p => .placed { p with
      pls := p.pls.map (fun e => (e.1, placeRePair old new e.2)), stores := p.stores.map (storeRePair old new),
      moved := p.moved.map (fun m => (rePair old new m.1, m.2)), moves := p.moves.map (fun m => (m.1, placeRePair old new m.2)) }
  | .refused c d i => .refused c d i

/-- The chip takes a chip ID: what it holds under its old pair ID it goes on holding under the new one. -/
def State.setChipId (s : State) (id : Nat) : State :=
  let old := s.pairId
  let new := pairOf id
  let s1 := s.setN O.id_chip_id id
  if old = new then s1
  else
    let f := placeRePair old new
    let g := rePair old new
    { s1 with
      sw := { s1.sw with
        routes := s1.sw.routes.map (fun r => { r with pl := f r.pl, old := r.old.map f }),
        takes := s1.sw.takes.map (fun r => { r with src := g r.src, pl := r.pl.map f }),
        stores := s1.sw.stores.map (storeRePair old new),
        moving := s1.sw.moving.map (fun m => (m.1, stripeRePair old new m.2.1, m.2.2)) },
      placer := { s1.placer with
        queue := s1.placer.queue.map (fun t => match t with | .reserve h i p => .reserve h i (f p) | t => t),
        reserves := s1.placer.reserves.map (fun r => { r with pl := f r.pl }),
        running := s1.placer.running.map (fun x =>
          ((match x.1 with | .reserve h i p => .reserve h i (f p) | t => t), verdictRePair old new x.2)) } }

/-! ## The plan (R405) -/

/-- A plan is well formed and keeps R21: its length, pair IDs, serials, groups, their kinds and parents, and at least two
member units in each group. -/
def planFits (p : Bytes) : Bool :=
  let n := field p 4 2
  let m := field p 6 2
  let ps := planPairs p
  let gs := planGroups p
  let ids := gs.map (fun g => g.group)
  let serials := ps.flatMap (fun e => if e.serialB = zeros 16 then [e.serialA] else [e.serialA, e.serialB])
  p.length == 8 + 40 * n + 8 * m && 1 ≤ n && n ≤ 1000 &&
    ps.all (fun e => e.pair % 2 == 0 && e.pair ≤ 998 && ids.contains e.group) &&
    (nub (ps.map (fun e => e.pair))).length == n && (nub serials).length == serials.length && (nub ids).length == m &&
    gs.all (fun g => (g.kind == 1 || g.kind == 2) && g.group != none16 && (g.parent == none16 || ids.contains g.parent) &&
      (groupPath gs 1000 g.group).length < 1000 &&
      2 ≤ (gs.filter (fun x => x.parent = g.group)).length +
        sumBy (fun (e : PlanPair) => if e.group = g.group then (if e.serialB = zeros 16 then 1 else if g.kind = 1 then 2 else 1) else 0) ps)

/-- A serial that is admitted, with the pair ID it holds: this chip's, and those of its neighbours. -/
def State.admittedSerials (s : State) : List (Bytes × Nat) :=
  ((s.oct O.id_serial_number, s.chipId) :: s.upLanes.map (fun l => (s.oct (O.mlink_peer_serial (1 + l)), s.nat (O.mlink_peer_chip (1 + l))))).filter
    (fun e => e.2 ≠ 1023)

/-- A chip that the plan leaves out is excluded, and reads chip ID 1023 (R406). -/
def State.reviewPlan (s : State) : State :=
  if s.outOfPlan (s.oct O.id_serial_number) then
    let s1 := (s.setChipId 1023).setN O.mesh_domain_state 4
    s1.upLanes.foldl (fun st l => (st.linkDown l 1).setN (O.mlink_state (1 + l)) 5) s1
  else if s.nat O.mesh_domain_state = 4 ∨ s.nat O.mesh_domain_state = 0 then s.setN O.mesh_domain_state 1 else s

/-- The chip adopts a plan and floods it (R405). -/
def State.adoptPlan (s : State) (p : Bytes) : State :=
  let s1 := ((s.setB O.mesh_plan p).setN O.mesh_plan_revision (field p 0 4)).showLevels
  (s1.flood (.plan (field p 0 4))).reviewPlan

/-- PLAN_WRITE (R405). -/
def State.writePlan (s : State) (p : Bytes) : Nat × State :=
  if field p 0 4 ≤ s.nat O.mesh_plan_revision ∨ !planFits p ∨
      (planPairs p).any (fun e => s.admittedSerials.any (fun a => (a.1 = e.serialA ∨ a.1 = e.serialB) ∧ pairOf a.2 ≠ e.pair)) then (C.range, s)
  else (0, s.adoptPlan p)

/-- A plan from the mesh (R405): a higher revision is adopted; of two of one revision the one of the higher SHA-256. -/
def State.planHeard (s : State) (p : Bytes) : State :=
  let rev := field p 0 4
  let own := s.oct O.mesh_plan
  if !planFits p ∨ rev < s.nat O.mesh_plan_revision ∨ p = own then s
  else if s.nat O.mesh_plan_revision < rev then s.adoptPlan p
  else if beNat (sha256 own) < beNat (sha256 p) then (s.strike F.planConflict rev 0).adoptPlan p
  else s

/-! ## Admission (R24, R406) -/

/-- The chip ID that the plan gives the chip: of a pair, the lower serial takes the even one (R23, R24). -/
def State.plannedId (s : State) : Option Nat :=
  (s.planEntry (s.oct O.id_serial_number)).map (fun e =>
    let other := if e.serialA = s.oct O.id_serial_number then e.serialB else e.serialA
    if other ≠ zeros 16 ∧ beNat other < beNat (s.oct O.id_serial_number) then e.pair + 1 else e.pair)

/-- The links to admitted chips. -/
def State.admittedLinks (s : State) : List Nat := s.upLanes.filter (fun l => s.nat (O.mlink_peer_chip (1 + l)) ≠ 1023)

/-- DOMAIN_ADMISSION (R406). The domain version is that of the link by which the chip joins; the first chip chooses the
highest of its range. A chip whose range does not hold it is excluded. -/
def State.joinPermit (s : State) : State :=
  match s.plannedId with
  | none => s
  | some id =>
    let v := match s.admittedLinks with | l :: _ => s.nat (O.mlink_link_version (1 + l)) | [] => s.nat O.mesh_version_max
    if !s.ready then s
    else if !s.versionHeld v then
      let s1 := (s.setN O.mesh_domain_state 3).follow F.meshVersion 0 v true
      s1.upLanes.foldl (fun st l => st.setN (O.mlink_state (1 + l)) 4) s1
    else ((((s.endFault F.meshVersion).setChipId id).setN O.mesh_domain_state 2).setN O.id_mesh_version v).showLevels

/-! ## Heads (R409, R410) -/

/-- The planned chips of a group, by pair ID with how many chips it has. -/
def State.planned (s : State) (g : Nat) : List (Nat × Nat) :=
  ((planPairs (s.oct O.mesh_plan)).filter (fun e => (s.pathOf e.pair).contains g)).map (fun e => (e.pair, if e.serialB = zeros 16 then 1 else 2))

/-- The partition holds a group's quorum (R410): more than half of the planned chips, or exactly half with the lowest pair. -/
def State.quorum (s : State) (g : Nat) : Bool :=
  let ps := s.planned g
  let all := sumBy (fun e => e.2) ps
  let mine := s.inGroup g
  let low := minBy (fun e => e.1) ps
  all < 2 * mine.length ||
    (all == 2 * mine.length && (match low with | some e => mine.any (fun c => pairOf c = e.1) | none => false))

/-- The winner among candidates as (chip, priority): the highest priority, then the lowest chip; a sitting head stays against
candidates of no higher priority (R409). -/
def electHead (sitting : Nat) (cands : List (Nat × Nat)) : Nat :=
  let cs := cands.filter (fun c => c.2 ≠ 0)
  let top := maxBy (fun c => c.2) cs
  let best := (cs.filter (fun c => c.2 = top)).map (fun c => c.1)
  if best.contains sitting then sitting else (minBy (fun c => c) best).getD 1023

/-- The outermost level of the chip. -/
def State.topLevel (s : State) (i : Nat) : Bool := s.nat (O.mgroup_kind i) != 0 && s.nat (O.mgroup_kind (i + 1)) == 0

/-- The candidates of an election of a group of this chip: those it knows of the others, and itself with its own priority (R409). -/
def State.candidates (s : State) (cands : List (Nat × Nat)) : List (Nat × Nat) :=
  cands.filter (fun c => c.1 ≠ s.chipId) ++ [(s.chipId, s.nat O.mesh_head_priority)]

/-- An election of a group of the plan (R409, R410). The domain version may rise at an election of the top-level head, to
what every neighbour's range holds (R406). -/
def State.elect (s : State) (lvl : Nat) (cands : List (Nat × Nat)) : State :=
  let i := 2048 + lvl
  if s.nat (O.mgroup_kind i) < 2 ∨ s.chipId = 1023 then s
  else
    let g := s.nat (O.mgroup_plan_group i)
    let was := s.nat (O.mgroup_head i)
    if !s.quorum g then (s.setN (O.mgroup_head i) 1023).follow F.domainNoQuorum g lvl true
    else
      let now' := electHead was (s.candidates cands)
      let others := s.levels.any (fun l => 2 ≤ l.1 && l.2 != g && !s.quorum l.2)
      let s1 := (((s.followShared F.domainNoQuorum g lvl false others).setN (O.mgroup_head i) now').count (O.mgroup_elections i)).setN
        (O.mgroup_last_election i) (s.tbNow 0)
      let s2 := if now' = was then s1 else s1.strike F.headChanged now' g
      if s2.topLevel i then
        let v := s2.upLanes.foldl (fun a l => min a (s2.mlane l).vmax) (s2.nat O.mesh_version_max)
        s2.setN O.id_mesh_version (max v (s2.nat O.id_mesh_version))
      else s2

/-- A chip is lost (R407): its routes await restoration, and salvos with it as a member are dropped (R146, R176). -/
def State.loseChip (s : State) (chip : Nat) : State :=
  let serving := s.servingChip (pairOf chip)
  let s1 : State := { s with mesh := { s.mesh with peers := s.mesh.peers.filter (fun p => p.chip ≠ chip) } }
  let s2 := if serving = chip ∧ pairOf chip ≠ s.pairId then s1.memberLost (pairOf chip) else s1
  (s2.failRoutes (fun p => idChip p.src = pairOf chip ∧ pairOf chip ≠ s.pairId ∧ !(s2.mesh.peers.any (fun q => pairOf q.chip = pairOf chip)))).judgeLinks

/-- The chip is lost: all links to it are down, or no heartbeat has come for 3 ms (R407). -/
def State.chipGone (s : State) (chip : Nat) : Bool :=
  match s.peer chip with
  | none => false
  | some p => p.lastBeat + 3000000 ≤ s.now ||
    !((s.linkList ++ s.mesh.peers.flatMap (fun q => q.links)).any (fun x => x.2.1 == chip))

/-- A write of the mesh family; none where it has no behaviour of its own. -/
def State.writeMesh (s : State) (k : Key) (v : Val) : Option (Nat × State) :=
  let i := k.inst
  if k.fam ≠ 0x2400 then none
  else if i = 0 then (if k.sub = 4 then some (s.writePlan v.oct) else none)
  else
    match k.sub with
    | 0x0E => some (s.writeLinkAdmin (i - 1) (v.int = 1))
    | 0x0F => some (0, if v.int = 1 then
        ([0x07, 0x08, 0x09, 0x0A, 0x0B, 0x0C] : List Nat).foldl (fun st sub => st.setN ⟨0x2400, i, sub⟩ 0) s else s)
    | _ => none

end Sys2Proof.Machine
end

