-- ==== Sys2Proof/Machine/Twin.lean ====
section
/-! DEFINITION. The pair (chapter 16): the Barometer and fitness, roles and the handshake, the twin link, fail-over,
hand-over, takeback, signatures and background tests (R412 to R438). -/

namespace Sys2Proof.Machine

/-! ## The Barometer (R427) -/

/-- The weight of a finding (Table 16.4). -/
def findingWeight (f : Finding) : Nat :=
  match f.code with
  | 1 => 10 | 2 => 5 | 3 => 50 | 4 => 10 | 5 => 100 | 6 => 100 | 7 => 10 | 8 => 100 | 9 => 20
  | _ => match f.cls with | 1 => 20 | 2 => 60 | _ => 100

/-- The sources that stand for findings of their own: they are no OWN_FAULT (R439). -/
def isFindingSource (src : Nat) : Bool :=
  (src / 128 ≤ 15 && 80 ≤ src % 128 && src % 128 ≤ 82) ||
    [F.bistFail, F.stale, F.catchingUp, F.twinLaneDown, F.twinLinkDown, F.pfSingle].contains src

/-- The signature finding of a tile (R423): one a tile and kind, with the first destination concerned as its detail. -/
def State.sigFinding (s : State) (audio : Bool) (t : Nat) : List Finding :=
  match s.twin.sigs.find? (fun r => r.found && r.audio == audio && s.vdstTile r.dst == t) with
  | some r => [⟨if audio then 2 else 1, 1, t, s.dstId ⟨.video, r.dst⟩⟩]
  | none => []

/-- The findings that a standby compiles (Table 16.4). -/
def State.ownFindings (s : State) : List Finding :=
  (List.range s.tiles).flatMap (fun t => s.sigFinding false t ++ s.sigFinding true t ++
    (match s.twin.loops.find? (fun l => laneTile l = t) with | some l => [⟨4, 1, t, l⟩] | none => [])) ++
  (if s.isLatched F.bistFail then [⟨3, 2, 255, (s.twin.bist.head?.map (fun e => e.2)).getD 0⟩] else []) ++
  (if s.isActive F.stale then [⟨5, 2, 255, 0⟩] else []) ++
  (if s.isActive F.catchingUp then [⟨6, 2, 255, 0⟩] else []) ++
  (if s.isActive F.twinLaneDown then [⟨7, 1, 255, 0⟩] else []) ++
  (if s.isActive F.twinLinkDown then [⟨8, 2, 255, 0⟩] else []) ++
  (if s.isActive F.pfSingle then [⟨9, 1, 255, 0⟩] else []) ++
  ((s.latchedList.filter (fun x => 1 ≤ faultClass x && !isFindingSource x)).map (fun x =>
    ⟨10, faultClass x, if x / 128 ≤ 15 then x / 128 else 255, x⟩))

/-- The Barometer's findings: a standby's own, and on a primary what its standby reports. -/
def State.findings (s : State) : List Finding :=
  if s.standby then s.ownFindings
  else if s.primary then (match s.twin.report with | some r => r.findings | none => []) else []

/-- There is a Barometer: the chip is standby, or a primary whose standby has reported. -/
def State.hasBarometer (s : State) : Bool := s.standby || (s.primary && s.twin.report.isSome)

/-- A tile's score (R427): natural subtraction stops at 0. -/
def State.tileScore (s : State) (t : Nat) : Nat :=
  100 - sumBy findingWeight (s.findings.filter (fun f => f.tile = t ∨ f.tile = 255))

/-- The chip's score: the lowest of its present tiles. -/
def State.chipScore (s : State) : Nat :=
  (List.range s.tiles).foldl (fun a t => min a (s.tileScore t)) 100

/-- The Barometer is clear (R427). -/
def clearOf (l : List Finding) : Bool := l.all (fun f => f.cls = 0)

/-- A standby is fit (R427). -/
def fitOf (ready safe : Bool) (l : List Finding) : Bool := ready && !safe && l.all (fun f => f.cls < 2)

/-- This standby is fit. -/
def State.fit (s : State) : Bool := fitOf s.ready s.safe s.ownFindings

/-- The standby of this primary is fit, as it last reported. -/
def State.twinFit (s : State) : Bool :=
  s.linkIsUp && (match s.twin.report with | some r => fitOf r.ready r.safe r.findings | none => false)

/-- The standby's last report is unwarned: it holds no PF_SINGLE (R430). -/
def State.twinUnwarned (s : State) : Bool :=
  match s.twin.report with | some r => r.findings.all (fun f => f.code ≠ 9) | none => false

/-- What a standby reports of itself, and since when its Barometer is clear (R436): both follow every command. -/
def State.watchBarometer (s : State) : State :=
  if !s.standby then (if s.twin.clearSince.isNone then s else { s with twin := { s.twin with clearSince := none } })
  else
    let r : Report := ⟨s.ready, s.safe, s.ownFindings⟩
    let since := if clearOf r.findings && r.ready && !r.safe then (match s.twin.clearSince with | some c => some c | none => some s.now)
      else none
    let s1 := if s.linkIsUp && s.twin.report != some r then s.emit (.mirror 0 (.barometer r.ready r.safe r.findings)) else s
    { s1 with twin := { s1.twin with clearSince := since, report := if s.linkIsUp then some r else s.twin.report } }

/-! ## Home and versions (R414, R437) -/

/-- The chip's serial number is lower than its twin's. -/
def State.lowerSerial (s : State) : Bool :=
  match s.twin.hello with | some h => beNat (s.oct O.id_serial_number) < beNat h.serial | none => true

/-- This chip is the home chip of its pair (R414). -/
def State.isHome (s : State) : Bool := s.lowerSerial == (s.nat O.twin_home == 0)

/-- The image that runs. -/
def State.image (s : State) : Image := (s.fw.images[s.activeSlot]?).getD ⟨[], 0, 0, 0, 0, 0, []⟩

/-- A version lies in one of the ranges of a manifest (R483). -/
def inRanges (v : Nat) (l : List (Nat × Nat)) : Bool := l.any (fun r => r.1 ≤ v && v ≤ r.2)

/-- The pair's versions and ordering codes pass (R6, R437): each chip's version is among those that the other's manifest
was tested with. -/
def State.versionsPass (s : State) (h : TwinHello) : Bool :=
  inRanges h.version s.image.peers && inRanges s.image.version h.peers && h.ordering == s.nat O.id_ordering_code

/-! ## Roles (R412 to R415, R431) -/

/-- A change of role is recorded. -/
def State.noteRole (s : State) (cause : Nat) : State :=
  let s1 := (s.count O.twin_role_changes).setN O.twin_last_change (s.tbNow 0)
  if cause = 0 then s1 else s1.setN O.twin_last_cause cause

/-- The faults that stood for findings of the standby end with its duty (R427); those of the link and of the power-fail
warnings stay. -/
def State.dropFindings (s : State) : State :=
  let s1 := (List.range 16).foldl (fun st t =>
    ((st.endFault (F.sigVideo t)).endFault (F.sigAudio t)).endFault (F.loopbackFail t)) s
  (({ s1 with twin := { s1.twin with sigs := [], loops := [], skip := [], clearSince := none } } : State).endFault F.stale).endFault
    F.catchingUp

/-- Every membership is reported at once (R248). -/
def State.reportAll (s : State) : State :=
  s.packet.members.foldl (fun st m => st.emit (.membership (st.legPort m.fam m.inst m.leg) (st.legAddress m.fam m.inst m.leg) true))
    { s with packet := { s.packet with members := s.packet.members.map (fun m => { m with reports := s.nat O.pk_robustness - 1 }) } }

/-- The chip becomes primary (R412, R431): its role epoch rises and it claims SIDE; twin entries are lost to its DPLLs,
which select from their own tables (R331); memberships are reported, the NMOS node registers, and twin-owned layers
become unclaimed (R276). -/
def State.takeCharge (s : State) (cause : Nat) : State :=
  let twins := (List.range 16).filter (fun e => s.nat (O.ref_source (1 + e)) = 5 ∧ 2 ≤ s.refState e)
  let s1 := twins.foldl (fun st e => st.setRefState e 1) s
  let marked := (s1.objs.filter (fun e => e.1.fam == 0x3900 && e.1.sub == 0x1A && e.2.int != 0)).map (fun e => e.1.inst)
  let s2 := marked.foldl (fun st l => if s.standby then st.setN (O.layer_owner l) 0 else st) s1
  let s3 := (((s2.setN O.id_pair_role 0).count O.twin_role_epoch).noteRole cause).dropFindings
  let s4 : State := { s3 with twin := { s3.twin with behind := false, report := none, probe := 0 } }
  let s5 := (List.range 4).foldl (fun st k => st.runSelector k) s4
  let s6 := if s5.nat O.pk_nmos_state = 3 then s5.setN O.pk_nmos_state 1 else s5
  let s7 := (if s.standby then s6.reportAll else s6).showLevels.retryLost
  if s7.safe then s7 else s7.claimSide

/-- The chip becomes standby; `keep` tells that it still holds its SIDE lines for a hand-over (R434). -/
def State.standDown (s : State) (keep : Bool) : State :=
  if s.standby then s
  else
    let s1 := ((s.setN O.id_pair_role 1).noteRole 0).showLevels
    let s2 : State := { s1 with twin := { s1.twin with report := none, hand := none } }
    if keep then s2 else s2.dropSide

/-! ## Catch-up (R415) -/

/-- The object is mirrored as the state stands: by its attribute, or by unit with its unit marked (R39). -/
def State.mirrored (s : State) (k : Key) : Bool :=
  match descOf k with
  | none => false
  | some d =>
    d.mir == 1 || (d.mir == 2 && (if k.inst < 2048 then s.flag (O.layer_mirror k.inst)
      else (s.objs.any (fun e => e.1.fam == 0x3900 && e.1.inst < 2048 && e.1.sub == 0x11 && e.2 == .n k.inst &&
        s.flag (O.layer_mirror e.1.inst)))))

/-- A rectangle as an image value (Table 10.4). -/
def imageValue (r : ImageRect) : Bytes :=
  beBytes 1 r.fmt ++ beBytes 1 (if r.palette = [] then 0 else 1) ++ beBytes 2 r.x ++ beBytes 2 r.y ++ beBytes 2 r.w ++
    beBytes 2 r.h ++ [0, 0] ++ r.palette ++ r.pixels

/-- The primary sends every item complete. A route in force goes as a placement whose switch instant has passed, so that the standby
takes it at its next eligible one. -/
def State.sendCatchUp (s : State) : State :=
  let s1 := (s.objs.filter (fun e => s.mirrored e.1)).foldl (fun st e => st.mirror (.write e.1 e.2)) s
  let s2 := s1.exclusions.foldl (fun st e => st.mirror (.exclusion e.1 e.2)) s1
  let s3 := s2.sw.stores.foldl (fun st x => st.mirror (.store x.i x.purpose x.src x.fmt x.smp x.stack x.depth x.writeTile
    x.readTile x.stripes none)) s2
  let s4 := s3.placer.asrc.foldl (fun st a => st.mirror (.asrc a.ch a.slice a.dst a.src)) s3
  let s5 := s4.placer.hbm.foldl (fun st b => st.mirror (.hbm b.fam b.inst b.stack b.mbps b.bytes)) s4
  let s6 := s5.salvos.parts.foldl (fun st p => st.mirror (.part p.slot p.gen p.coord p.entries)) s5
  let s6a := (s6.salvos.own.filter (fun x => s6.nat (O.salvo_state x.slot) = 4)).foldl (fun st x => st.mirror (.pour x.slot x.gen x.e x.tb)) s6
  let s6b := (List.range 1024).foldl (fun st n =>
    if st.nat (O.scaler_allocation n) = 0 then st else st.mirror (.alloc n (st.nat (O.scaler_allocation n)))) s6a
  let s7 := (s6b.sw.routes.filter (fun r => !r.follows)).foldl (fun st r => st.mirror (.place r.pl 1)) s6b
  let s8 := s7.sw.takes.foldl (fun st r => match r.pl with
    | some pl => st.mirror (.place pl (r.switchAt.getD 0)) | none => st) s7
  let s9 := (List.range 4).foldl (fun st n =>
    ((st.mirror (.tbOffset n (st.tbNow n) (st.int (O.tb_jump_pending n)))).mirror
      (.dpll n (st.int (O.dpll_frequency_now n)) (st.int (O.dpll_holdover_model n)) (st.flag (O.dpll_model_valid n))))) s8
  let s10 := s9.clocks.ports.foldl (fun st p => st.mirror (.portState p.port (st.nat (O.ptp_port_state p.port)))) s9
  (s10.comp.images.filter (fun i => s10.flag (O.layer_mirror i.layer))).foldl (fun st i =>
    st.mirror (.buffers i.layer (i.front.map imageValue) (i.back.map imageValue) i.palette)) s10

/-- Mirroring begins anew: the primary sends everything, the standby holds CATCHING_UP (R415). -/
def State.beginCatchUp (s : State) : State :=
  let s1 := (s.setN O.twin_mirror_state 2).setN O.twin_twin_state 3
  if s1.primary then s1.sendCatchUp
  else ({ s1 with twin := { s1.twin with caught := [], caughtDst := [], behind := false } } : State).follow F.catchingUp 0 0 true

/-- A standby that lost service by fail-over, or met its primary in safe state, catches up once it is at Ready and out of safe state
(R432). -/
def State.comeBehind (s : State) : State :=
  if s.standby && s.twin.behind && s.ready && !s.safe && s.linkIsUp && s.nat O.twin_mirror_state == 3 then s.beginCatchUp else s

/-! ## The handshake (R413, R414, R437) -/

/-- What the handshake shows of the link (R416, R417). -/
def State.linkTrained (s : State) (h : TwinHello) : State :=
  let s1 := (s.setN O.twin_twin_link (h.lanes % 16 + (if 100000 < h.delay then 16 else 0))).setN O.twin_twin_delay h.delay
  let s2 := (s1.follow F.twinLinkLong 0 h.delay (100000 < h.delay)).endFault F.twinLinkDown
  (s2.follow F.twinLaneDown 0 (15 - h.lanes % 16) (h.lanes % 16 != 15)).setB O.twin_peer_manifest h.manifest

/-- The restart of an activation's second chip (R498): it seals, and restarts into the new image. -/
def State.secondRestart (s : State) (a : Activation) : State :=
  let s1 := s.seal
  let s2 : State := { s1 with fw := { s1.fw with act := some { a with stage := 1 }, copyDue := field a.raw 1 1 / 4 % 2 == 0 } }
  (if field a.raw 1 1 / 4 % 2 = 1 then s2.flipSlot else s2).askRestart 4

/-- A former primary that lost service by fail-over while its twin was on probation goes on with the activation when it meets
its twin again, as though the hand-over had been made (R498). -/
def State.resumeActivation (s : State) : State :=
  match s.fw.act with
  | some a => if s.standby && !a.first && a.stage == 0 && s.nat O.fw_activation_state == 3 then s.secondRestart a else s
  | none => s

/-- After the roles are decided: mirroring is halted by version (R437), or catch-up begins (R415). -/
def State.rejoin (s : State) (h : TwinHello) : State :=
  if s.versionsPass h then
    let s1 := s.endFault F.stale
    if s1.safe && s1.standby then { (s1.setN O.twin_mirror_state 3).setN O.twin_twin_state 5 with twin := { s1.twin with behind := true } }
    else s1.beginCatchUp
  else
    let s1 := (s.setN O.twin_mirror_state 4).setN O.twin_twin_state 5
    if s1.standby then s1.follow F.stale 0 h.version true else s1

/-- TWIN_HANDSHAKE (R412 to R415, R437): the home setting is reconciled, then the roles are decided. Service modes take no
part (R512). -/
def State.handshake (s : State) (h : TwinHello) : State :=
  if s.serviceMode then s
  else
    let s1 := ({ s with twin := { s.twin with hello := some h, probe := 0 } } : State).linkTrained h
    let own := s1.nat O.twin_role_epoch
    let theirs : Bool := own < h.epoch || (own == h.epoch && !s1.lowerSerial)
    let s2 := if theirs then s1.setN O.twin_home (min 1 h.home) else s1
    let mine : Bool := s2.ready && !s2.standby
    let other : Bool := h.ready && h.role != 1
    let s3 :=
      if mine && other then
        if h.epoch < own || (h.epoch == own && s2.isHome) then (if s2.primary then s2 else s2.takeCharge 0)
        else (s2.standDown false).strike F.twinSplit 0 h.epoch
      else if mine then (if s2.primary then s2 else s2.takeCharge 0)
      else if other then s2.standDown false
      else if s2.isHome then (if s2.primary then s2 else s2.takeCharge 0) else s2.standDown false
    (s3.rejoin h).resumeActivation

/-- TWIN_HANDSHAKE_TIMEOUT (R412, R413): no twin link has trained within 1 s. The chip is unpaired where its plan entry has
no second serial, or outside any domain; else it is primary, and alone. -/
def State.handshakeTimeout (s : State) : State :=
  if s.linkIsUp then s
  else
    let single : Bool := match s.planEntry (s.oct O.id_serial_number) with | some e => e.serialB == zeros 16 | none => true
    if s.serviceMode || single then
      (((if s.nat O.id_pair_role = 2 then s else (s.setN O.id_pair_role 2).noteRole 0).setN O.twin_twin_state 0).setN
        O.twin_mirror_state 0).showLevels
    else ((if s.primary then s else s.takeCharge 0).setN O.twin_twin_state 1).setN O.twin_mirror_state 0

/-! ## The link (R417, R418) -/

/-- TWIN_LANE_UP (R417). -/
def State.twinLaneUp (s : State) (n : Nat) : State :=
  if 4 ≤ n then s
  else
    let s1 := s.setBit O.twin_twin_link n true
    if s1.nat O.twin_twin_link % 16 = 15 then s1.endFault F.twinLaneDown else s1

/-- TWIN_LANE_DOWN (R417). -/
def State.twinLaneDown (s : State) (n : Nat) : State :=
  if 4 ≤ n ∨ !s.bit O.twin_twin_link n then s else (s.setBit O.twin_twin_link n false).latch F.twinLaneDown n 0

/-- Some mesh path to the twin is up: it is heard over the mesh (R407). -/
def State.meshToTwin (s : State) : Bool := s.chipId < 1000 && (s.peer (twinOf s.chipId)).isSome

/-- TWIN_LINK_DOWN (R417, R429): mirroring halts; a standby sends a mesh probe where a mesh path is up. -/
def State.twinLinkDown (s : State) : State :=
  if !s.paired ∨ s.bit O.twin_twin_link 5 then s
  else
    let s1 := (s.setN O.twin_twin_link 32).follow F.twinLinkDown 0 0 true
    let s2 := if s1.nat O.twin_mirror_state = 1 ∨ s1.nat O.twin_mirror_state = 2 then s1.setN O.twin_mirror_state 3 else s1
    let s3 := (s2.setN O.twin_twin_state 5).endFault F.catchingUp
    let s4 : State := { s3 with twin := { s3.twin with report := none, probe := 0 } }
    if s4.standby && s4.meshToTwin then
      ({ s4 with twin := { s4.twin with probe := 1 } } : State).emit (.notice (twinOf s4.chipId) .probe)
    else s4

/-! ## Fail-over (R429 to R431) -/

/-- The twin's part in the activation goes on as though the hand-over had been made (R498). -/
def State.activationGoesOn (s : State) : State :=
  match s.fw.act with
  | some a => if a.first && a.stage == 3 then { s with fw := { s.fw with act := some { a with stage := 4 } } } else s
  | none => s

/-- The former coordinator's salvos at its twin (R146): those whose pour the twin holds run on, and the chip coordinates them; the
parts of others are dropped, with cause 5. -/
def State.inheritSalvos (s : State) : State :=
  let mine (c : Nat) : Bool := c != s.chipId && pairOf c == s.pairId
  let s1 := (s.salvos.parts.filter (fun p => mine p.coord && p.state != 2)).foldl (fun st p =>
    ((st.dropPart p.coord p.slot).setN (O.salvo_drop_cause p.slot) 5).count O.salvos_dropped) s
  { s1 with
    salvos := { s1.salvos with parts := s1.salvos.parts.map (fun p => if mine p.coord then { p with coord := s.chipId } else p) },
    sw := { s1.sw with takes := s1.sw.takes.map (fun r => { r with part := r.part.map (fun x => if mine x.1 then (s.chipId, x.2) else x) }) } }

/-- The standby takes over (R429, R431). Salvos that it holds as poured run on, and the chip coordinates them (R146). -/
def State.failOver (s : State) (cause : Nat) : State :=
  let s1 := ((s.inheritSalvos).takeCharge cause).strike F.failover cause 0
  let s2 := if s1.linkIsUp then (s1.setN O.twin_mirror_state 3).setN O.twin_twin_state 5 else s1
  s2.activationGoesOn

/-- A standby that may take over: at Ready in normal mode, out of safe state, and not in Lull (R429, R512, R514). -/
def State.mayTakeOver (s : State) : Bool :=
  s.standby && s.ready && !s.safe && !s.serviceMode && s.nat O.pow_lull_state == 0

/-- PRIMARY_DEATH (R429): the twin link is down, and a mesh probe has gone unanswered, or no mesh path is up, or the twin is
lost. -/
def State.primaryDeath (s : State) : State :=
  if s.mayTakeOver && s.bit O.twin_twin_link 5 && (s.twin.probe != 2 || !s.meshToTwin) then s.failOver 1 else s

/-- The notice of the primary's safe state (R429). -/
def State.safeNotice (s : State) : State := if s.mayTakeOver then s.failOver 2 else s

/-- The notice of a power-fail hand-over (R430): the primary judged this chip fit and unwarned. -/
def State.powerNotice (s : State) : State :=
  let s1 := s.setN O.twin_pf_state (s.nat O.twin_pf_state % 4 + 12)
  if s1.mayTakeOver then s1.failOver 3 else s1

/-- PF_WARNINGS (R430). -/
def State.powerWarnings (s : State) (a b : Bool) : State :=
  let was := s.nat O.twin_pf_state % 4
  let s1 := (s.setN O.twin_pf_state (s.nat O.twin_pf_state / 4 * 4 + b01 a + 2 * b01 b)).follow F.pfSingle 0 (b01 a + 2 * b01 b) (a || b)
  if a && b && was != 3 && !s.heldDown then
    if s1.primary && s1.twinFit && s1.twinUnwarned then ((s1.dropSide.tellTwin .powerFail).loseService).seal
    else s1.seal
  else s1

/-! ## Hand-over (R433 to R436) -/

/-- The lead output: the one named, or the lowest-numbered video destination that carries a route (R433). -/
def State.leadOutput (s : State) : Option Nat :=
  let v := s.nat O.twin_lead_output
  if v ≠ none16 then some v
  else
    match (s.sw.routes.filter (fun r => r.dst.ess = .video)).map (fun r => r.dst.idx) with
    | [] => none
    | x :: l => some (l.foldl min x)

/-- The commit point C of a hand-over requested now, with its time base (R433). A lead output without frames of its own gives
C as where no destination carries a route. -/
def State.commitPoint (s : State) : Nat × Nat :=
  let lead := s.nat O.twin_handover_lead * 1000000
  match s.leadOutput with
  | some d =>
    let b := s.videoBeat d
    if d < 3072 ∧ b.fmt ≠ 0 then (b.tb, b.atOrAfter (s.tbNow b.tb + lead)) else (0, s.tbNow 0 + lead)
  | none => (0, s.tbNow 0 + lead)

/-- A hand-over is requested (R433): the code, and the machine after it. -/
def State.askHandover (s : State) (cause : Nat) (restart : Bool) : Nat × State :=
  if !s.primary then (C.locked, s)
  else if s.nat O.twin_handover_state = 1 ∨ s.nat O.twin_handover_state = 2 then (C.busy, s)
  else if s.nat O.twin_mirror_state = 3 ∨ s.nat O.twin_mirror_state = 4 then (C.stale, s)
  else if !s.twinFit then (C.notReady, s)
  else
    let c := s.commitPoint
    (0, { s.setN O.twin_handover_state 1 with twin := { s.twin with hand := some ⟨cause, c.1, c.2, restart⟩ } })

/-- A hand-over is aborted (R435): before C without a trace, after it TOO_LATE; with none pending nothing happens. -/
def State.abortHandover (s : State) : Nat × State :=
  match s.nat O.twin_handover_state with
  | 1 => (0, { s.setN O.twin_handover_state 4 with twin := { s.twin with hand := none } })
  | 2 => (C.tooLate, s)
  | 3 => (C.tooLate, s)
  | _ => (0, s)

/-- The salvos of this chip that are not poured are dropped with a cause, and the requests in the placer's queue are refused
BUSY with detail 12 (R434). -/
def State.shedWork (s : State) (cause : Nat) : State :=
  let s1 := (s.salvos.own.filter (fun x => s.nat (O.salvo_state x.slot) = 2 ∨ s.nat (O.salvo_state x.slot) = 3)).foldl
    (fun st x => st.dropSalvo x.slot cause []) s
  let parts := s1.salvos.parts.filter (fun p => p.state ≠ 2)
  let s2 := parts.foldl (fun st p => (st.dropPart p.coord p.slot).reportPart p.coord p.slot C.busy 0) s1
  let tasks := s2.placer.queue.filter Task.requested
  (tasks.foldl (fun st t => st.completeRefused t C.busy 12 0)
    { s2 with placer := { s2.placer with queue := [], running := none, parked := [] } })

/-- HANDOVER_COMMIT (R434): at C control passes. The former primary keeps its SIDE lines until the hand-over is done; a primary
whose standby is no longer fit aborts (log entry 27). -/
def State.commitHandover (s : State) : State :=
  if s.primary && s.nat O.twin_handover_state == 1 then
    if !s.twinFit then s.abortHandover.2
    else
      let hand := s.twin.hand
      let s1 := ((s.shedWork 4).standDown true).setN O.twin_handover_state 2
      ({ s1 with twin := { s1.twin with hand := hand } } : State).beginCatchUp.tellTwin .handoverCommit
  else if s.standby && s.linkIsUp && s.nat O.twin_mirror_state == 1 && !s.safe && s.ready && !s.serviceMode then
    let cause := match s.twin.hand with | some h => h.cause | none => 4
    let s1 := ((s.inheritSalvos).takeCharge cause).setN O.twin_handover_state 2
    ({ s1 with twin := { s1.twin with hand := none } } : State).activationGoesOn.beginCatchUp
  else s

/-- HANDOVER_DONE (R434): 50 ms after C. The former primary drops its SIDE lines; it restarts where a restart waited for the
hand-over (R513), or where an activation goes on to it (R498). -/
def State.handoverDone (s : State) : State :=
  if s.nat O.twin_handover_state ≠ 2 then s
  else
    let s1 := s.setN O.twin_handover_state 3
    if !s1.standby then s1
    else
      let hand := s1.twin.hand
      let s2 : State := { s1.dropSide with twin := { s1.twin with hand := none } }
      match hand, s2.fw.act with
      | some h, some a => if h.cause = 6 ∧ !a.first then s2.secondRestart a else if h.restart then s2.askRestart 3 else s2
      | some h, none => if h.restart then s2.askRestart 3 else s2
      | none, _ => s2

/-- TAKEBACK (R436): the home chip, standby and fit with its Barometer clear for the hold time, asks its twin for a hand-over; a
chip on probation does not (R498). -/
def State.takeback (s : State) : State :=
  let held : Bool := match s.twin.clearSince with | some c => c + s.nat O.twin_hold_time * nsPerSec ≤ s.now | none => false
  if s.standby && s.isHome && s.fit && held && s.linkIsUp && s.nat O.twin_mirror_state == 1 && !s.onProbation then
    ({ s with twin := { s.twin with hand := some ⟨5, 0, 0, false⟩ } } : State).tellTwin (.handoverRequest 5)
  else s

/-! ## Signatures (R423, R424) -/

/-- The audio destinations of one audio group of a destination: four embedded channels, or a flow's channels. -/
def State.sigGroup (s : State) (d i : Nat) : List Nat :=
  if d < 1024 then (List.range 4).map (fun c => 32 * d + 4 * i + c)
  else
    match (s.groupAudio true (d - 1024))[i]? with
    | some f => (List.range (s.nat (O.aflow_channels 0x3700 f))).map (fun c => s.nat (O.aflow_channel_base 0x3700 f) + c)
    | none => []

/-- An ASRC or a slip buffer stands on the group's path (R424). -/
def State.asynchronous (s : State) (d i : Nat) : Bool :=
  (s.sigGroup d i).any (fun c => match s.route ⟨.audio, c⟩ with
    | some r => !r.pl.asrc.isEmpty || !s.clocksRelated (idIdx r.pl.src) c
    | none => false)

/-- The destination shows an image layer that is not marked (R424). -/
def State.showsUnmarked (s : State) (d : Nat) : Bool :=
  match s.route ⟨.video, d⟩ with
  | some r =>
    let x := idIdx r.pl.src
    3072 ≤ x && x < 3136 && (s.stackNow (x - 3072)).any (fun l =>
      s.natNow (O.layer_content l) == 1 && !s.flag (O.layer_mirror l))
  | none => false

/-- The comparison of a destination's video or audio goes on with a frame (R423). -/
def State.sigStep (s : State) (d : Nat) (audio differs : Bool) : State :=
  let r := (s.twin.sigs.find? (fun r => r.dst = d ∧ r.audio = audio)).getD ⟨d, audio, 0, 0, false⟩
  let run := if differs then r.run + 1 else 0
  let found : Bool := if differs then r.found || s.nat O.twin_sig_threshold ≤ run else r.found && s.now < r.badAt + 10 * nsPerSec
  let r' : SigRun := ⟨d, audio, run, if differs then s.now else r.badAt, found⟩
  let s1 : State := { s with twin := { s.twin with sigs := s.twin.sigs.filter (fun x => ¬(x.dst = d ∧ x.audio = audio)) ++ [r'] } }
  let t := s1.vdstTile d
  let others := s1.twin.sigs.any (fun x => x.dst != d && x.audio == audio && x.found && s1.vdstTile x.dst == t)
  s1.followShared (if audio then F.sigAudio t else F.sigVideo t) (s1.dstId ⟨.video, d⟩) run found others

/-- SIGNATURE_COMPARE (R423, R424) on a standby. -/
def State.compareFrame (s : State) (f : SigFrame) : State :=
  if !s.standby ∨ 3072 ≤ f.dst then s
  else if s.nat O.twin_mirror_state ≠ 1 ∨ f.ownFill ∨ f.twinFill ∨ f.twinSafe ∨ s.safe ∨ s.showsUnmarked f.dst ∨ s.twin.skip.contains f.dst then
    { s.count O.twin_sig_excluded with twin := { s.twin with skip := s.twin.skip.filter (fun d => d ≠ f.dst) } }
  else
    let video := f.video != f.ownVideo
    let audio := ((f.audio.zip f.ownAudio).zip (List.range f.audio.length)).any (fun e =>
      e.1.1 != e.1.2 && !s.asynchronous f.dst e.2)
    let s1 := s.count O.twin_sig_compared
    let s2 := if video || audio then
        (s1.count O.twin_sig_mismatches).setN (O.twt_last_mismatch (1 + s1.vdstTile f.dst)) (s1.dstId ⟨.video, f.dst⟩)
      else s1
    (s2.sigStep f.dst false video).sigStep f.dst true audio

/-! ## Background tests (R425, R426) -/

/-- A bank or block that background BIST may test: a bank that is off, or an HBM block that is not booked (R425). -/
def State.bistable (s : State) (kind unit : Nat) : Bool :=
  unitExists kind unit && !s.exclusions.contains (kind, unit) &&
    (match kind with | 2 => s.nat (O.bank_state unit) == 2 || bankUse unit == 5 | 3 => true | _ => false)

/-- BACKGROUND_BIST (R425): a test has ended; a failure raises BIST_FAIL and excludes the unit. -/
def State.bistRun (s : State) (kind unit : Nat) (fail : Option Nat) : State :=
  if !s.standby ∨ !s.bistable kind unit then s
  else
    let s1 := if kind = 2 then s.setN (O.bank_last_bist unit) (s.tbNow 0) else s
    match fail with
    | none => s1
    | some a =>
      (({ s1 with twin := { s1.twin with bist := (kind, unit) :: s1.twin.bist } } : State).latch F.bistFail
        (kind * 268435456 + unit) a |>.endFault F.bistFail).exclude kind unit

/-- BACKGROUND_LOOPBACK (R426): a run on an unused lane has ended; a clean run of a lane takes its finding back (log
entry 28). -/
def State.loopbackRun (s : State) (l errors : Nat) : State :=
  let p := s.ownerPort l
  if !s.standby ∨ !s.laneExists l ∨ s.nat (O.lane_state_now l) ≠ 0 ∨ !s.mayDormant p then s
  else
    let t := laneTile l
    let s1 := s.setN (O.twt_loopback_lane (1 + t)) l
    let loops := s1.twin.loops.filter (fun x => x ≠ l) ++ (if errors = 0 then [] else [l])
    let s2 : State := { s1 with twin := { s1.twin with loops := loops } }
    s2.followShared (F.loopbackFail t) l errors (errors != 0) (loops.any (fun x => laneTile x = t))

/-! ## Writes of 1300h -/

/-- A write of 1300h. A request of the twin's comes from no session: its cause is takeback, or activation where one runs
(R436, R498). -/
def State.writeTwin (s : State) (w : Writer) (k : Key) (v : Val) : Option (Nat × State) :=
  if k.fam ≠ 0x1300 ∨ k.inst ≠ 0 then none
  else
    match k.sub with
    | 0x08 =>
      some (if v.int = 0 then (0, s)
        else s.askHandover (if w.slot = 0 then (if s.fw.act.isSome then 6 else 5) else 4) false)
    | 0x09 => some (if v.int = 0 then (0, s) else s.abortHandover)
    | 0x01 =>
      let d := v.int.toNat
      if d = none16 then none
      else if d < 4096 ∧ s.idUnit 0 1 d = 0 then none else some (C.range, s)
    | _ => none

end Sys2Proof.Machine
end

