-- ==== Sys2Proof/Machine/Collector.lean ====
section
/-! DEFINITION. The fault collector's events and objects (chapter 17): what FAULT_LATCH brings with it, block resets, clears,
reaction sets, the first-error record, exclusion, and injection (R441 to R459). -/

namespace Sys2Proof.Machine

/-! ## Latching, and what follows from it -/

/-- The unit of a kind is excluded, and its routes are restored elsewhere (R456, R176). -/
def State.excludeUnit (s : State) (kind unit : Nat) : State :=
  if s.exclusions.contains (kind, unit) then s
  else match kind with
    | 0 => s.excludeStack unit
    | 1 => s.excludePlane unit
    | _ => s.exclude kind unit

/-- The fault sources whose latching excludes a unit of a kind (R456, R470). -/
def excludingSources (kind : Nat) : List Nat :=
  match kind with | 0 => [F.hbmStackFail] | 1 => [F.planeExcluded] | 2 => [F.bistFail, F.bankFail] | _ => [F.bistFail]

/-- A source excludes a unit: BANK_FAIL one of the general pool only (R456, R470). -/
def excludes (src kind unit : Nat) : Bool :=
  (excludingSources kind).contains src && unitExists kind unit && (src != F.bankFail || bankUse unit == 5)

/-- FAULT_LATCH (R447): the source latches; where it excludes a unit, its context names the unit (R456). -/
def State.faultLatch (s : State) (src unit detail : Nat) : State :=
  let s1 := s.latch src unit detail
  let kind := unit / 268435456
  let u := unit % 268435456
  if excludes src kind u then s1.excludeUnit kind u else s1

/-- BLOCK_RESET_DONE (R444): the unit has its settings again; a lane leaves Dormant (Table 14.5). -/
def State.resetOver (s : State) (src : Nat) : State :=
  match s.faults.resets.find? (fun e => e.1 = src) with
  | none => s
  | some e =>
    let s1 : State := { s with faults := { s.faults with resets := s.faults.resets.filter (fun x => x ≠ e) } }
    match blockOf e.1 e.2 with
    | .lane l => if s1.laneExists l ∧ s1.nat (O.lane_state l) ≠ 2 then (s1.laneSleeps l).laneTo l (s1.nat (O.lane_state l)) else s1
    | _ => s1

/-- FAULT_TREE_SELF_CHECK (R439, Table 17.2). -/
def State.treeCheck (s : State) (ok : Bool) : State :=
  (if ok then s.count O.fault_tree_checks else s).follow F.faultTreeCheck 0 0 (!ok)

/-! ## Clears (R448, R449, R454) -/

/-- A write of 1 to a source's clear by a role. -/
def State.clearFault (s : State) (role src : Nat) : Nat × State :=
  if faultClass src = 3 ∧ !s.serviceMode then (C.locked, s)
  else if faultClass src = 3 ∧ role < 3 then (C.denied, s)
  else if s.isActive src then (C.busy, s)
  else (0, if s.isLatched src then s.unlatch src else s)

/-- A write of 1 to clear_all, which normal service refuses. -/
def State.clearAll (s : State) : Nat × State :=
  if !s.serviceMode then (C.locked, s)
  else (0, (s.latchedList.filter (fun x => !s.isActive x)).foldl (fun st x => st.unlatch x) s)

/-- auto_clear written: a latched source whose condition has ended clears at a 1. -/
def State.writeAutoClear (s : State) (src : Nat) (on : Bool) : Nat × State :=
  if on ∧ 2 < faultClass src then (C.range, s)
  else
    let s1 := s.setF (O.fsrc_auto_clear (src + 1)) on
    (0, if on ∧ s1.nat (O.fsrc_state (src + 1)) = 2 then s1.unlatch src else s1)

/-- The reactions that every class-3 source keeps: event, trap, TEMPEST_N and safe state (R441). -/
def tempestKeeps (set : Nat) : Bool := bit set 0 && bit set 1 && bit set 5 && bit set 6

/-- A reaction set written (R441). -/
def State.writeReactions (s : State) (src set : Nat) : Nat × State :=
  let offered := s.nat (O.fsrc_offered (src + 1))
  if set &&& offered ≠ set ∨ (faultClass src = 3 ∧ !tempestKeeps set) then (C.range, s)
  else (0, (s.setN (O.fsrc_reactions (src + 1)) set).reviewSafe)

/-- The first-error record rearmed (R454). -/
def State.rearm (s : State) : Nat × State :=
  if s.tempest ∧ !s.serviceMode then (C.locked, s)
  else (0, ((s.setF O.fault_first_valid false).setF O.fault_overflow false).setN O.fault_overflow_count 0)

/-! ## Exclusion and injection (R456, R459) -/

/-- An entry written to include (R456): the unit takes new bookings again. -/
def State.includeUnit (s : State) (entry : Bytes) : Nat × State :=
  let kind := field entry 0 2
  let unit := field entry 2 4
  if entry.length ≠ 8 ∨ field entry 6 2 ≠ 0 ∨ !unitExists kind unit then (C.range, s)
  else if !s.exclusions.contains (kind, unit) then (0, s)
  else if (excludingSources kind).any s.isLatched then (C.busy, s)
  else (0, (s.include kind unit).retryLost)

/-- The unit of an injection target exists (Table 17.8). -/
def State.injectable (s : State) (target unit : Nat) : Bool :=
  match target with
  | 0 => unit < 2048
  | 1 => unit < 48
  | 2 => unit < 4
  | 5 => s.laneExists unit
  | 6 => (faultKindOf unit).isSome && !s.fusedOff ⟨0x1100, unit + 1, 0⟩
  | _ => unit < 8192 && unit / 16 % 16 < s.tiles && unit % 16 < s.tiles

/-- The injection is armed with the values that its objects hold (R459); a forced source occurs at once, and its one
occurrence ends. -/
def State.armInjection (s : State) : Nat × State :=
  let t := s.nat O.fault_inject_target
  let u := s.nat O.fault_inject_unit
  if s.mode ≠ 2 then (C.locked, s)
  else if s.faults.inject.isSome then (C.busy, s)
  else if !s.injectable t u then (C.range, s)
  else if t = 6 then
    let s1 : State := { (s.setF O.fault_inject_arm true).setN O.fault_inject_state 2 with faults := { s.faults with injecting := true } }
    let s2 := s1.strike u 0 0
    (0, { s2 with faults := { s2.faults with injecting := false } })
  else
    (0, { (s.setF O.fault_inject_arm true).setN O.fault_inject_state 1 with
      faults := { s.faults with inject := some (t, u, s.nat O.fault_inject_symbols) } })

/-- 0 written to the arm (R459): before the commit point it disarms, after it TOO_LATE. -/
def State.disarmInjection (s : State) : Nat × State :=
  if s.nat O.fault_inject_state = 2 then (C.tooLate, s)
  else (0, { (s.setF O.fault_inject_arm false).setN O.fault_inject_state 0 with faults := { s.faults with inject := none } })

/-- The bank that an injection into SRAM is armed at, as its 6000h instance, reaches a write: the symbols inverted in the
word, and the injection fired (R459). -/
def State.injectBank (s : State) (bank : Nat) : Option Nat :=
  match s.faults.inject with
  | some (0, u, n) => if bank = 1 + u then some n else none
  | some (1, u, n) => if bank = 4096 + u then some n else none
  | _ => none

/-! ## Writes of 1100h -/

/-- A write of 1100h. -/
def State.writeFaults (s : State) (w : Writer) (k : Key) (v : Val) : Option (Nat × State) :=
  if k.fam ≠ 0x1100 then none
  else if k.inst = 0 then
    match k.sub with
    | 0x06 => some (if v.int = 1 then s.rearm else (0, s))
    | 0x0A => some (if v.int = 1 then s.clearAll else (0, s))
    | 0x0E => some (s.includeUnit v.oct)
    | 0x13 => some (if v.int = 1 then s.armInjection else s.disarmInjection)
    | _ => none
  else
    match k.sub with
    | 0x02 => some (s.writeReactions (k.inst - 1) v.int.toNat)
    | 0x08 => some (if v.int = 1 then s.clearFault w.role (k.inst - 1) else (0, s))
    | 0x09 => some (s.writeAutoClear (k.inst - 1) (v.int != 0))
    | _ => none

end Sys2Proof.Machine
end

