-- ==== Sys2Proof/Machine/Banks.lean ====
section
/-! DEFINITION. SRAM banks, their states and errors (R461 to R470), and the control interconnect: requests, priorities, banks'
conflicts, responses and locked sequences (R471 to R477). -/

namespace Sys2Proof.Machine

/-! ## Banks -/

/-- The banks of the chip by 6000h instance; those of a fused-off tile are absent (R462). -/
def State.banks (s : State) : List Nat :=
  ((List.range 2048).map (fun n => 1 + n) ++ (List.range 48).map (fun b => 4096 + b)).filter (fun b =>
    !s.fusedOff ⟨0x6000, b, 0⟩)

/-- A bank is present (R462). -/
def State.bankExists (s : State) (b : Nat) : Bool := unitExists 2 b && !s.fusedOff ⟨0x6000, b, 0⟩

/-- The audio slice of a tile carries no channel: no destination of it is routed, and none of its ASRC channels is in use
(R464). -/
def State.sliceIdle (s : State) (t : Nat) : Bool :=
  s.sliceBooked t == 0 && !s.sw.routes.any (fun r => r.dst.ess == .audio && s.adstTile r.dst.idx == t)

/-- A bank has no work (R464), by its use. The general pool holds nothing while no session is open, and the transfer buffers
while no bulk handle is (log entry 30). -/
def State.bankIdle (s : State) (b : Nat) : Bool :=
  let dormant (l : Nat) : Bool := s.nat (O.lane_state_now l) == 2
  match bankUse b with
  | 0 => dormant (bankOwner b)
  | 1 => (List.range 4).all (fun i => dormant (bankOwner b + i))
  | 4 => s.sliceIdle (bankOwner b)
  | 5 => s.proto.sessions.isEmpty
  | 6 => (List.range 4).all (fun i => s.nat (O.head_class (4 * bankOwner b + i)) == 0)
  | 7 => s.sliceIdle (bankOwner b)
  | 12 => s.proto.bulks.isEmpty
  | _ => false

/-- BANK_IDLE_TIMER (R464): an idle bank enters retention, and a small bank of the general pool then goes off, which loses its
contents (Table 18.2). -/
def State.bankTimer (s : State) (b : Nat) : State :=
  if !s.bankExists b ∨ s.nat (O.bank_policy b) ≠ 0 ∨ !s.bankIdle b then s
  else match s.nat (O.bank_state b) with
    | 0 => s.setN (O.bank_state b) 1
    | 1 =>
      if bankUse b = 5 then
        { s.setN (O.bank_state b) 2 with mem := { s.mem with words := s.mem.words.filter (fun e => e.1.1 ≠ b) } }
      else s
    | _ => s

/-- BANK_WAKE (R465): an access reaches a bank that is not on. -/
def State.wakeBank (s : State) (b : Nat) : State :=
  if s.bankExists b ∧ (s.nat (O.bank_state b) = 1 ∨ s.nat (O.bank_state b) = 2) then
    (s.setN (O.bank_state b) 3).count (O.bank_wakes b)
  else s

/-- What an uncorrectable word of a bank does (R469), by the bank's use: `unit` is the destination whose line is concerned, or
in the general pool the session slot. -/
def State.wordEffect (s : State) (b unit : Nat) : State :=
  match bankUse b with
  | 5 => s.closeSession unit
  | 8 => s
  | 12 => s
  | 9 => s
  | 10 => s
  | 11 => s
  | _ => if unit < 3072 then s.fillLine unit 0 else s

/-- A word of a bank as read (R469, R470). -/
def State.bankWord (s : State) (b addr unit word : Nat) : State :=
  match decodeWord word with
  | .good => s
  | .corrected _ => (s.count (O.bank_corrected b)).strike F.sramCorrected b addr
  | .uncorrectable =>
    let first := s.nat (O.bank_uncorrected b) = 0
    let s1 := s.count (O.bank_uncorrected b)
    let s2 := if first then s1.setN (O.bank_first_uncorrected b) addr else s1
    let grave : Bool := 9 ≤ bankUse b && bankUse b ≤ 11
    let s3 := (s2.strike (if grave then F.configUncorrected else F.sramUncorrected) b addr).wordEffect b unit
    let l := s3.mem.errs.filter (fun e => s.now < e.2 + 3600 * nsPerSec) ++ [(b, s.now)]
    let s4 : State := { s3 with mem := { s3.mem with errs := l } }
    let n := (l.filter (fun e => e.1 = b)).length
    if s.nat O.banks_uncorrected_limit < n ∧ !s.exclusions.contains (2, b) then
      let s5 := s4.strike F.bankFail (excludedUnit 2 b) n
      if bankUse b = 5 then s5.excludeUnit 2 b else s5
    else s4

/-- BANK_SCRUB (R470): a scrub of a bank that is on is over; what it met is told by SRAM_WORD_ERROR. -/
def State.scrubBank (s : State) (b : Nat) : State :=
  if !s.bankExists b ∨ s.nat (O.bank_state b) ≠ 0 then s
  else { s with mem := { s.mem with errs := s.mem.errs.filter (fun e => s.now < e.2 + 3600 * nsPerSec) } }

/-! ## The control interconnect -/

/-- The target of an SRAM bank (Table 18.5). -/
def bankTarget (b : Nat) : Nat :=
  if b < 4096 then (b - 1) / 1024
  else match bankUse b with
    | 9 => 8
    | 10 => 19
    | 11 => 19
    | _ => 2 + (b - 4096) / 24

/-- The target reaches SRAM banks. -/
def isBankTarget (j : Nat) : Bool := j < 4 || j == 8 || j == 19

/-- A target holds the address of a request: a bank of its own and a word of it, a word of a stack's management region
(R179), or a block's window, whose map the spec does not give. -/
def State.icHolds (s : State) (r : IcReq) : Bool :=
  if isBankTarget r.target then
    s.bankExists r.bank && bankTarget r.bank == r.target && r.addr < (if r.bank < 4096 then 4096 else 262144)
  else if r.target < 8 then r.addr < 33554432
  else r.target < 20

/-- The word that a bank or an HBM window holds: 0 until it is written (log entry 31). -/
def State.wordAt (s : State) (unit addr : Nat) : Nat := (kfind s.mem.words (unit, addr)).getD 0

/-- The order of word addresses: by bank or window, then by word. -/
def wordBefore (a b : Nat × Nat) : Bool := decide (a.1 < b.1) || (a.1 == b.1 && decide (a.2 < b.2))

/-- The list with a word set, in the order of addresses. -/
def wordPut (k : Nat × Nat) (v : Nat) : List ((Nat × Nat) × Nat) → List ((Nat × Nat) × Nat)
  | [] => [(k, v)]
  | (k', v') :: r =>
    if k' = k then (k, v) :: r
    else if wordBefore k k' then (k, v) :: (k', v') :: r
    else (k', v') :: wordPut k v r

/-- The canonical form of the words: addresses strictly rising, and no entry equal to the 0 that an unlisted word reads as. -/
def wordsWf : List ((Nat × Nat) × Nat) → Bool
  | [] => true
  | [(_, v)] => v != 0
  | (k, v) :: (k', v') :: r => v != 0 && wordBefore k k' && wordsWf ((k', v') :: r)

/-- The words with one written; 0 is not listed. -/
def State.putWord (s : State) (unit addr v : Nat) : State :=
  { s with mem := { s.mem with
      words := if v = 0 then kdel s.mem.words (unit, addr) else wordPut (unit, addr) v s.mem.words } }

/-- The rank of an initiator at a bank (R467). -/
def bankRank (i : Nat) : Nat :=
  match i with
  | 11 => 0 | 10 => 1 | 9 => 2 | 4 => 3 | 5 => 4 | 7 => 5 | 8 => 6 | 0 => 7 | 1 => 8 | 2 => 9 | 3 => 10 | _ => 11

/-- The priority of an initiator at a target (R475). -/
def State.pairPriority (s : State) (i j : Nat) : Nat :=
  (((s.oct (O.ini_priorities (1 + i)))[j]?).map (fun b => b.toNat)).getD 0

/-- The priority of a waiting request: 15 once it has waited 64 slots (R475). -/
def State.waitPriority (s : State) (x : IcWait) : Nat :=
  if 64 ≤ x.waited then 15 else s.pairPriority x.req.init x.req.target

/-- The lock of an initiator at a target. -/
def State.lockOf (s : State) (i j : Nat) : Option IcLock := s.mem.locks.find? (fun l => l.init = i ∧ l.target = j)

/-- A lock changed. -/
def State.modLock (s : State) (i j : Nat) (f : IcLock → IcLock) : State :=
  { s with mem := { s.mem with locks := s.mem.locks.map (fun l => if l.init = i ∧ l.target = j then f l else l) } }

/-- Another initiator's locked sequence bars a request (R477). -/
def State.lockedOut (s : State) (r : IcReq) : Bool :=
  s.mem.locks.any (fun l => l.target == r.target && l.init != r.init && !l.cut && 1 ≤ l.beats)

/-- The next lock request that waits at a free target takes it (R477). -/
def State.grantLock (s : State) (j : Nat) : State :=
  if s.mem.locks.any (fun l => l.target = j ∧ !l.cut) then s
  else
    match s.mem.lockWaits.find? (fun e => e.2 = j) with
    | none => s.setN (O.tgt_lock_holder (32 + j)) none8
    | some e =>
      { s.setN (O.tgt_lock_holder (32 + j)) e.1 with
        mem := { s.mem with lockWaits := s.mem.lockWaits.filter (fun x => x ≠ e), locks := s.mem.locks ++ [⟨e.1, j, 0, false⟩] } }

/-- A locked sequence is over (R477). -/
def State.endLock (s : State) (i j : Nat) : State :=
  ({ s with mem := { s.mem with locks := s.mem.locks.filter (fun l => ¬(l.init = i ∧ l.target = j)) } } : State).grantLock j

/-- A request that came earlier from the same initiator on the same identifier is still unanswered at a target. -/
def State.icEarlier (s : State) (r : IcReq) (num : Nat) : Bool :=
  s.mem.waiting.any (fun x => x.req.init == r.init && x.req.ident == r.ident && decide (x.num < num)) ||
    s.mem.taken.any (fun x => x.req.init == r.init && x.req.ident == r.ident && decide (x.num < num))

/-- The requests in the order of their issue. -/
def byNum (l : List (IcTaken × Bool)) : List (IcTaken × Bool) := sortBy (fun a b => decide (a.1.num < b.1.num)) l

/-- Responses held for their order reach their initiators where nothing earlier is unanswered any longer (R473). -/
def State.deliverHeld (s : State) : State :=
  (byNum s.mem.held).foldl (fun st h =>
    if st.icEarlier h.1.req h.1.num || st.mem.held.any (fun x => x.1.req.init == h.1.req.init && x.1.req.ident == h.1.req.ident && decide (x.1.num < h.1.num))
    then st
    else
      (({ st with mem := { st.mem with held := st.mem.held.filter (fun x => x ≠ h) } } : State).setN
        (O.ini_outstanding (1 + h.1.req.init)) (st.nat (O.ini_outstanding (1 + h.1.req.init)) - 1)).emit
        (.icResp h.1.req.init h.1.req.ident h.2 h.1.data)) s

/-- A response comes back to the interconnect (R473). -/
def State.icAnswer (s : State) (x : IcTaken) (err : Bool) : State :=
  let s1 : State := { s with mem := { s.mem with taken := s.mem.taken.filter (fun y => y.num ≠ x.num), held := s.mem.held ++ [(x, err)] } }
  (if err then s1.count O.ic_error_responses else s1).deliverHeld

/-- A request is issued (R472): it waits at its target. One to an address that no target holds is answered with an error
(R474), and so is an access of a sequence whose lock was cut (R477). -/
def State.icIssue (s : State) (r : IcReq) : State :=
  let n := s.mem.next
  let s1 := ({ s with mem := { s.mem with next := n + 1 } } : State).count (O.ini_transactions (1 + r.init)) 1 64
  let o := s.nat (O.ini_outstanding (1 + r.init)) + 1
  let s2 := (s1.setN (O.ini_outstanding (1 + r.init)) o).setN (O.ini_outstanding_max (1 + r.init))
    (max o (s.nat (O.ini_outstanding_max (1 + r.init))))
  let bad : IcTaken := ⟨r, n, 0, false, 0⟩
  if !s.icHolds r then (s2.icAnswer bad true).strike F.icDecode r.init r.addr
  else
    match s2.lockOf r.init r.target with
    | some l =>
      if l.cut then
        let s3 := s2.icAnswer bad true
        if r.last then s3.endLock r.init r.target else s3
      else { s2 with mem := { s2.mem with waiting := s2.mem.waiting ++ [⟨r, n, 0⟩] } }
    | none => { s2 with mem := { s2.mem with waiting := s2.mem.waiting ++ [⟨r, n, 0⟩] } }

/-- A request is presented: with 16 outstanding, the 17th stalls its initiator (R472). -/
def State.icPresent (s : State) (r : IcReq) : State :=
  if 16 ≤ s.nat (O.ini_outstanding (1 + r.init)) ∨ s.mem.stalled.any (fun x => x.init = r.init) then
    ({ s with mem := { s.mem with stalled := s.mem.stalled ++ [r] } } : State).count (O.ini_full_stalls (1 + r.init))
  else s.icIssue r

/-- Stalled requests are issued while their initiators have room (R472). -/
def State.icUnstall (s : State) : State :=
  s.mem.stalled.foldl (fun st r =>
    if st.nat (O.ini_outstanding (1 + r.init)) < 16 then
      ({ st with mem := { st.mem with stalled := st.mem.stalled.erase r } } : State).icIssue r
    else st) s

/-- What a request accepted at a target without banks does: an HBM window's word is read or written; what a block's window
reads is free, and what a write there does is its block's (log entry 31). -/
def State.icPerform (s : State) (x : IcTaken) : State × Nat :=
  let r := x.req
  let unit := if r.target < 8 ∧ !isBankTarget r.target then 8188 + r.target else r.bank
  if isBankTarget r.target ∨ r.target < 8 then
    if r.write then
      let s1 := s.putWord unit r.addr (r.data % 2 ^ 128)
      (match s.injectBank unit with
        | some _ => s1.withInjection (if unit < 4096 then 0 else 1) (if unit < 4096 then unit - 1 else unit - 4096) 0
            (fun st w => st.bankWord unit r.addr none16 w)
        | none => s1, 0)
    else (s, s.wordAt unit r.addr)
  else (s, if r.write then 0 else s.freeNat (800 + x.num % 64) % 2 ^ 128)

/-- The accepted request with its answer. -/
def State.icDone (s : State) (x : IcTaken) : State :=
  let p := s.icPerform x
  { p.1 with mem := { p.1.mem with taken := p.1.mem.taken.map (fun y => if y.num = x.num then { y with performed := true, data := p.2 } else y) } }

/-- The requests accepted for a bank and not performed, those of one initiator and identifier in issue order (R473). -/
def State.bankQueue (s : State) (b : Nat) : List IcTaken :=
  let l := s.mem.taken.filter (fun x => isBankTarget x.req.target && x.req.bank == b && !x.performed)
  l.filter (fun x => !l.any (fun y => y.req.init == x.req.init && y.req.ident == x.req.ident && decide (y.num < x.num)))

/-- The order at a bank (R467): one that has lost 16 slots before any other, then by rank. -/
def bankBefore (a b : IcTaken) : Bool :=
  let key (x : IcTaken) : List Nat := [if 16 ≤ x.losses then 0 else 1, bankRank x.req.init, x.num]
  match key a, key b with
  | [a1, a2, a3], [b1, b2, b3] => a1 < b1 || (a1 == b1 && (a2 < b2 || (a2 == b2 && a3 < b3)))
  | _, _ => false

/-- Port B of a bank serves one request in a slot; the losers stall (R467). A bank that is not on wakes first (R465). -/
def State.serveBank (s : State) (b : Nat) : State :=
  match sortBy bankBefore (s.bankQueue b) with
  | [] => s
  | x :: rest =>
    if s.nat (O.bank_state b) ≠ 0 then s.wakeBank b
    else
      let lost := rest.map (fun y => y.num)
      let s1 : State := { s with mem := { s.mem with taken := s.mem.taken.map (fun y =>
        if lost.contains y.num then { y with losses := y.losses + 1 } else y) } }
      let s2 := if rest.isEmpty then s1 else s1.count O.banks_conflict_stalls rest.length 64
      (if 16 ≤ x.losses then s2.count O.banks_starvation_grants else s2).icDone x

/-- A target accepts a waiting request (R475, R477): the holder of a lock counts a beat, its unlock ends the sequence, and what
it sends after 16 beats is answered with an error. -/
def State.icAccept (s : State) (x : IcWait) : State :=
  let r := x.req
  if s.lockedOut r then s
  else
    let s1 : State := { s with mem := { s.mem with waiting := s.mem.waiting.filter (fun y => y.num ≠ x.num) } }
    let s2 := s1.setN (O.tgt_wait_max (32 + r.target)) (max x.waited (s1.nat (O.tgt_wait_max (32 + r.target))))
    let t : IcTaken := ⟨r, x.num, 0, false, 0⟩
    let late : Bool := match s.lockOf r.init r.target with | some l => 16 ≤ l.beats | none => false
    if late then (let s3 := s2.icAnswer t true; if r.last then s3.endLock r.init r.target else s3)
    else
      let s3 := s2.modLock r.init r.target (fun l => { l with beats := l.beats + 1 })
      let s4 : State := { s3 with mem := { s3.mem with taken := s3.mem.taken ++ [t] } }
      let s5 := if isBankTarget r.target then s4 else s4.icDone t
      if r.last ∧ (s.lockOf r.init r.target).isSome then s5.endLock r.init r.target else s5

/-- The order of waiting requests at a target (R475): by priority, then by initiator, then by age. -/
def State.waitBefore (s : State) (a b : IcWait) : Bool :=
  let pa := s.waitPriority a
  let pb := s.waitPriority b
  pb < pa || (pa == pb && (a.req.init < b.req.init || (a.req.init == b.req.init && a.num < b.num)))

/-- One handshake slot of a target (R475): it accepts the first of its waiting requests, a target of banks all of them, which
R467 then orders (log entry 32); those left have waited a slot longer. -/
def State.icSlot (s : State) (j : Nat) : State :=
  let here := sortBy s.waitBefore (s.mem.waiting.filter (fun x => x.req.target = j ∧ !s.lockedOut x.req))
  let s1 := (if isBankTarget j then here else here.take 1).foldl (fun st x => st.icAccept x) s
  let left := s1.mem.waiting.filter (fun x => x.req.target = j)
  let s2 : State := { s1 with mem := { s1.mem with waiting := s1.mem.waiting.map (fun x =>
    if x.req.target = j then { x with waited := x.waited + 1 } else x) } }
  let aged := (left.filter (fun x => x.waited = 63)).length
  let s3 := if aged = 0 then s2 else s2.count (O.tgt_aged_grants (32 + j)) aged
  (nub ((s3.mem.taken.filter (fun x => x.req.target = j ∧ isBankTarget j ∧ !x.performed)).map (fun x => x.req.bank))).foldl
    (fun st b => st.serveBank b) s3

/-- IC_REQUEST (R472, R475): requests reach a target in one slot. -/
def State.icRequests (s : State) (j : Nat) (reqs : List IcReq) : State :=
  ((reqs.filter (fun r => r.init < 12 ∧ r.ident < 64)).foldl (fun st r => st.icPresent { r with target := j }) s).icSlot j

/-- BANK_WAKE_DONE (R463, R465): the bank is on, and an access that waited for it is performed. -/
def State.bankAwake (s : State) (b : Nat) : State :=
  if s.nat (O.bank_state b) = 3 then (s.setN (O.bank_state b) 0).serveBank b else s

/-- IC_RESPONSE (R473): a target answers the oldest request that it accepted; an HBM window the oldest of an identifier. One
not performed yet is not answered. -/
def State.icRespond (s : State) (j ident : Nat) : State :=
  let l := s.mem.taken.filter (fun x => x.req.target = j)
  match (if 4 ≤ j ∧ j ≤ 7 then l.find? (fun x => x.req.ident = ident) else l.head?) with
  | some x => if x.performed then (s.icAnswer x false).icUnstall else s
  | none => s

/-- IC_TIMEOUT (R474): the interconnect answers for a target that has been silent for 100 µs. What the target answers later
meets no request. -/
def State.icTimeout (s : State) (j : Nat) : State :=
  let waiting := (s.mem.waiting.filter (fun x => x.req.target = j)).map (fun x => (⟨x.req, x.num, 0, false, 0⟩ : IcTaken))
  match s.mem.taken.filter (fun x => x.req.target = j) ++ waiting with
  | [] => s
  | x :: _ =>
    let s1 : State := { s with mem := { s.mem with waiting := s.mem.waiting.filter (fun y => y.num ≠ x.num) } }
    (((s1.icAnswer { x with data := 0 } true).count (O.tgt_timeouts (32 + j))).strike F.icTimeout x.req.init j).icUnstall

/-- IC_LOCK_OPEN (R477). A lock at a second target, and any lock of the fault dispatcher's read port, is answered with an error;
one at a target that another holds waits. -/
def State.openLock (s : State) (i j ident : Nat) : State :=
  if 12 ≤ i ∨ 20 ≤ j then s
  else
    let refused := (s.count O.ic_error_responses).emit (.icResp i ident true 0)
    if i = 11 then refused
    else if s.mem.locks.any (fun l => l.init = i ∧ l.target ≠ j) then refused.strike F.icLockCut i j
    else if s.mem.locks.any (fun l => l.init = i) then s
    else ({ s with mem := { s.mem with lockWaits := s.mem.lockWaits ++ [(i, j)] } } : State).grantLock j

/-- IC_LOCK_CUT (R477): a sequence that has not unlocked by the end of its 16th beat is cut. -/
def State.cutLock (s : State) (j : Nat) : State :=
  match s.mem.locks.find? (fun l => l.target = j ∧ !l.cut) with
  | none => s
  | some l =>
    if l.beats < 16 then s
    else (((s.modLock l.init j (fun l => { l with cut := true })).count (O.ini_locks_cut (1 + l.init))).strike F.icLockCut l.init j).grantLock j

/-! ## Writes of 6100h -/

/-- A write of 6100h (R475, R476, Tables 18.11 and 18.12). -/
def State.writeInterconnect (s : State) (k : Key) (v : Val) : Option (Nat × State) :=
  if k.fam ≠ 0x6100 then none
  else if 1 ≤ k.inst ∧ k.inst ≤ 12 then
    match k.sub with
    | 0x00 => if v.oct.length = 20 ∧ v.oct.all (fun b => b.toNat ≤ 15) then none else some (C.range, s)
    | 0x06 =>
      some (0, if v.int = 0 then s
        else (((s.setN (O.ini_outstanding_max k.inst) 0).setN (O.ini_transactions k.inst) 0).setN (O.ini_full_stalls k.inst) 0).setN
          (O.ini_locks_cut k.inst) 0)
    | _ => none
  else if 32 ≤ k.inst then
    match k.sub with
    | 0x05 =>
      some (0, if v.int = 0 then s
        else ((s.setN (O.tgt_wait_max k.inst) 0).setN (O.tgt_aged_grants k.inst) 0).setN (O.tgt_timeouts k.inst) 0)
    | _ => none
  else none

end Sys2Proof.Machine
end

