-- ==== Sys2Proof/Machine/Firmware.lean ====
section
/-! DEFINITION. Firmware (chapter 19): manifests and offers to the caddy, key slots, scheduled activation, probation, and the
carry-over journal (R481 to R503). -/

namespace Sys2Proof.Machine

/-! ## Manifests (R483, R484) -/

/-- A part entry (Table 19.3). -/
structure PartEntry where
  part : Nat
  version : Nat
  length : Nat
  hash : Bytes
  deriving DecidableEq, Repr

/-- What a manifest says (Table 19.2): the image that it describes, the steppings it was tested on, its parts, the key and
signature, and the bytes that the signature covers. -/
structure Manifest where
  image : Image
  steppings : List Bytes
  parts : List PartEntry
  key : Bytes
  sig : Bytes
  body : Bytes
  deriving DecidableEq, Repr

/-- A part entry from its 64 bytes. -/
def partEntry (r : Bytes) : PartEntry := ⟨field r 0 1, field r 4 4, field r 8 4, slice r 16 48⟩

/-- Parts stand in ascending part number, each at most once. -/
def partsAscend : List PartEntry → Bool
  | a :: b :: r => decide (a.part < b.part) && partsAscend (b :: r)
  | _ => true

/-- The parts of a manifest are well (R484): 1 to 5 stand, 6 may, in order, each of a length within its bounds, and all within
32 MiB with the manifest. -/
def partsOk (ps : List PartEntry) (manifest : Nat) : Bool :=
  partsAscend ps && ps.all (fun p => 1 ≤ p.part && p.part ≤ 6 && 1 ≤ p.length && p.length ≤ 16777216) &&
    [1, 2, 3, 4, 5].all (fun n => ps.any (fun p => p.part == n)) && decide (manifest + sumBy (fun p => p.length) ps ≤ 33554432)

/-- A manifest of this layout (R483, R484); none where the layout is broken. -/
def manifestOf (b : Bytes) : Option Manifest :=
  let n := field b 6 2
  let ns := field b 30 2
  let r := field b 32 2
  let po := 36 + 2 * ns + 8 * r
  let tail := po + 64 * n
  let entries := (records 64 (slice b po (64 * n))).map partEntry
  if field b 0 4 ≠ 0x47454D46 ∨ field b 4 2 ≠ 1 ∨ n < 5 ∨ 6 < n ∨ ns < 1 ∨ 16 < ns ∨ r < 1 ∨ 32 < r ∨ field b 34 2 ≠ 0 ∨
      field b 24 2 ≠ 1 ∨ (time80Of (slice b 12 10)).isNone ∨ b.length ≠ tail + 197 ∨ 3 < field b tail 1 ∨ field b (tail + 1) 3 ≠ 0 ∨
      !partsOk entries b.length then none
  else
    some {
      image := ⟨sha384 b, field b 8 4, field b 22 2, field b tail 1, field b 26 2, field b 28 2,
        (records 8 (slice b (36 + 2 * ns) (8 * r))).map (fun x => (field x 0 4, field x 4 4))⟩
      steppings := records 2 (slice b 36 (2 * ns))
      parts := entries
      key := slice b (tail + 4) 97
      sig := slice b (tail + 101) 96
      body := b.take (tail + 101) }

/-- A manifest is authentic (R485): its key slot is not revoked, its key is the slot's, and the signature verifies. -/
def State.authentic (s : State) (m : Manifest) : Bool :=
  s.nat (O.kslot_state (32 + m.image.keySlot)) == 1 && sha384 m.key == s.oct (O.kslot_key_hash (32 + m.image.keySlot)) &&
    m.key.take 1 == [0x04] && ecdsaVerify (m.key.drop 1) (sha384 m.body) m.sig

/-- The manifest that the caddy holds. -/
def State.caddyManifest (s : State) : Option Manifest := manifestOf s.fw.caddy

/-! ## The caddy (R488, R489) -/

/-- The objects of the parts of an offer; without one they read none. -/
def State.showParts (s : State) (ps : List PartEntry) : State :=
  (List.range 6).foldl (fun st k =>
    let p := (ps[k]?).getD ⟨0, 0, 0, []⟩
    (((st.setN (O.part_part (1 + k)) p.part).setN (O.part_version (1 + k)) p.version).setN (O.part_length (1 + k)) p.length).setF
      (O.part_held (1 + k)) false) s

/-- OFFER_MANIFEST (R488): the checks in their order, then the manifest stands as the offer. -/
def State.offerManifest (s : State) (b : Bytes) : Nat × State :=
  match manifestOf b with
  | none => (C.range, s)
  | some m =>
    if s.nat O.fw_caddy_state ≠ 0 then (if m.image.hash = s.oct O.fw_caddy_hash then (0, s) else (C.busy, s))
    else if !s.authentic m then (C.denied, s)
    else if !m.steppings.contains (s.oct O.id_stepping) then (C.untested, s)
    else
      let s1 := (((s.setN O.fw_caddy_state 1).setB O.fw_caddy_hash m.image.hash).setN O.fw_caddy_version m.image.version).setF
        O.fw_caddy_settings_change (m.image.settings ≠ s.image.settings)
      (0, ({ s1 with fw := { s1.fw with caddy := b } } : State).showParts m.parts)

/-- PART_WRITE (R489): part `k` of the manifest, counted from 0. -/
def State.writePart (s : State) (k : Nat) (data : Bytes) : Nat × State :=
  match s.caddyManifest.bind (fun m => m.parts[k]?) with
  | none => (C.range, s)
  | some p =>
    if data.length ≠ p.length ∨ sha384 data ≠ p.hash then (C.range, s)
    else if s.flag (O.part_held (1 + k)) then (0, s)
    else
      let s1 := s.setF (O.part_held (1 + k)) true
      let n := match s.caddyManifest with | some m => m.parts.length | none => 0
      (0, if (List.range n).all (fun i => s1.flag (O.part_held (1 + i))) then s1.setN O.fw_caddy_state 2 else s1)

/-- The activation that the chip holds or has a part in, as it is under way (Table 19.9): its value. -/
def State.activationHeld (s : State) : Option Bytes :=
  let st := s.nat O.fw_activation_state
  if st = 1 ∨ st = 2 ∨ st = 3 then
    (match s.fw.act with | some a => some a.raw | none => some (s.oct O.fw_activation))
  else none

/-- An activation's source is the fallback slot (Table 19.4). -/
def fromFallback (act : Bytes) : Bool := bit (field act 1 1) 2

/-- The caddy emptied. -/
def State.emptyCaddy (s : State) : State :=
  let s1 := (((s.setN O.fw_caddy_state 0).setB O.fw_caddy_hash (zeros 48)).setN O.fw_caddy_version 0).setF O.fw_caddy_settings_change false
  ({ s1 with fw := { s1.fw with caddy := [] } } : State).showParts []

/-- CADDY_DISCARD (R489). -/
def State.discardCaddy (s : State) : Nat × State :=
  match s.activationHeld with
  | some a => if fromFallback a then (0, s.emptyCaddy) else (C.busy, s)
  | none => (0, s.emptyCaddy)

/-! ## Key slots (R486) -/

/-- KEY_REVOKE (R486). -/
def State.revokeKey (s : State) (k : Nat) : Nat × State :=
  let inUse (i : Nat) : Bool :=
    (s.nat (O.img_state (16 + i)) == 2 || s.nat (O.img_state (16 + i)) == 3) && s.nat (O.img_key_slot (16 + i)) == k
  let caddy : Bool := match s.caddyManifest with | some m => m.image.keySlot == k | none => false
  if inUse 0 || inUse 1 || caddy then (C.busy, s)
  else if !(List.range 4).any (fun i => i != k && s.nat (O.kslot_state (32 + i)) == 1) then (C.range, s)
  else (0, s.setN (O.kslot_state (32 + k)) 2)

/-! ## The copy (R490 to R492, R499) -/

/-- A later start is to make a copy: the one of an activation that the chip is prepared for, or one to be begun again. -/
def State.copyPending (s : State) : Bool :=
  s.fw.copyDue || s.fw.copying || (match s.fw.act with | some a => a.stage == 0 && !fromFallback a.raw | none => false)

/-- COPY_ABORT (R492). -/
def State.abortCopy (s : State) : Nat × State :=
  if s.copyPending ∧ !s.fw.copyOff then (0, { s with fw := { s.fw with copyOff := true } })
  else match s.fw.act with
    | some a => if 2 ≤ a.stage then (C.tooLate, s) else (C.range, s)
    | none => (C.range, s)

/-- The active slot's settings copied into the other slot, or, where the formats differ, defaults written there with
SETTINGS_DEFAULTED (R499). -/
def State.carrySettings (s : State) : State :=
  let a := s.activeSlot
  let fmt (i : Nat) : Nat := ((s.fw.images[i]?).map (fun x => x.settings)).getD 0
  if fmt a = fmt (1 - a) then s.putSettings (1 - a) ((s.fw.settings[a]?).getD [])
  else
    let s1 := s.putSettings (1 - a) []
    { s1 with faults := { s1.faults with due := s1.faults.due ++ [(F.settingsDefaulted, 0, 0)] } }

/-- The image slot's objects. -/
def State.showImage (s : State) (i : Nat) (img : Image) : State :=
  (((s.setN (O.img_version (16 + i)) img.version).setB (O.img_hash (16 + i)) img.hash).setN (O.img_settings_format (16 + i))
    img.settings).setN (O.img_key_slot (16 + i)) img.keySlot

/-- The copy of phase 1 and the flip that commits it (R490), with the settings of the new slot (R499). -/
def State.copyCaddy (s : State) : State :=
  match s.caddyManifest with
  | none => s
  | some m =>
    let o := 1 - s.activeSlot
    let s1 := (s.showImage o m.image).setN (O.img_installed_at (16 + o)) (s.tbNow 0)
    let s2 : State := { s1 with fw := { s1.fw with images := s1.fw.images.set o m.image, newImage := true, copyDue := false, copying := false } }
    let blocks := sumBy (fun p => ceilDiv p.length 65536) m.parts
    ((s2.carrySettings.flipSlot).setN O.fw_caddy_state 4).setN O.fw_copy_blocks blocks

/-! ## Activation on the coordinator (R493 to R495) -/

/-- The pairs that an activation names. -/
def actPairs (act : Bytes) : List Nat := (records 2 (act.drop 66)).map (fun r => field r 0 2)

/-- The instant I of an activation, and its time base. -/
def actInstant (act : Bytes) : Nat := (time80Of (slice act 8 10)).getD 0
def actTb (act : Bytes) : Nat := field act 0 1

/-- The layout of an activation (Table 19.4). -/
def actOk (act : Bytes) : Bool :=
  let m := field act 2 2
  let p := field act 4 4
  decide (act.length = 66 + 2 * m) && decide (field act 0 1 ≤ 3) && decide (field act 1 1 ≤ 7) && decide (1 ≤ m) && decide (m ≤ 500) &&
    (p == 0 || decide (60 ≤ p ∧ p ≤ 86400)) && (time80Of (slice act 8 10)).isSome

/-- The chip heads a group that holds every pair named (R493). -/
def State.headsAll (s : State) (ps : List Nat) : Bool :=
  ps.all (fun p => p == s.pairId) ||
    (s.pathOf s.pairId).any (fun g => s.headOf g == s.chipId && ps.all (fun p => (s.pathOf p).contains g))

/-- The chips of a pair by the plan; outside any domain the chip itself. -/
def State.chipsOfPair (s : State) (p : Nat) : List Nat :=
  if p = 1023 then [1023]
  else match (planPairs (s.oct O.mesh_plan)).find? (fun x => x.pair = p) with
    | some x => if x.serialB = zeros 16 then [p] else [p, p + 1]
    | none => if p = s.pairId ∧ !s.paired then [s.chipId] else [p, p + 1]

/-- An activation result record (Table 19.13). -/
def resultRecord (pair stage code chip : Nat) : Bytes := beBytes 2 pair ++ beBytes 1 stage ++ beBytes 1 code ++ beBytes 2 chip ++ [0, 0]

/-- The result of some pairs set. -/
def State.setResults (s : State) (p : Nat → Bool) (stage code chip : Nat) : State :=
  s.setB O.fw_activation_results ((records 8 (s.oct O.fw_activation_results)).flatMap (fun r =>
    if p (field r 0 2) then resultRecord (field r 0 2) stage code chip else r))

/-- The chip coordinates the activation under way. -/
def State.coordinates (s : State) : Bool := !(s.oct O.fw_activation_results).isEmpty && s.activationHeld.isSome

/-- The image that an activation names on this chip, where its source holds it verified (Table 19.5). -/
def State.sourceImage (s : State) (act : Bytes) : Option Image :=
  let hash := slice act 18 48
  if fromFallback act then
    (List.range 2).findSome? (fun i => if s.nat (O.img_state (16 + i)) = 3 then
      (s.fw.images[i]?).bind (fun x => if x.hash = hash then some x else none) else none)
  else if s.nat O.fw_caddy_state = 2 then s.caddyManifest.bind (fun m => if m.image.hash = hash then some m.image else none)
  else none

/-- The chip is unpaired or alone (R412, R413). -/
def State.single (s : State) : Bool := !s.paired || s.nat O.twin_twin_state == 0 || s.nat O.twin_twin_state == 1

/-- The prepare checks of a chip, in the order of Table 19.5: 0 for prepared. -/
def State.prepareCode (s : State) (act : Bytes) (twinActive : Nat) (twinPeers : List (Nat × Nat)) : Nat :=
  match s.sourceImage act with
  | none => C.range
  | some img =>
    let flags := field act 1 1
    let dv := s.nat O.id_mesh_version
    if s.nat O.mesh_domain_state = 2 ∧ !(img.meshMin ≤ dv ∧ dv ≤ img.meshMax) then C.untested
    else if !s.single ∧ !(inRanges twinActive img.peers ∧ inRanges img.version twinPeers) then C.untested
    else if img.settings ≠ s.image.settings ∧ !Machine.bit flags 0 then C.range
    else if s.single ∧ !Machine.bit flags 1 then C.busy
    else if !s.single ∧ (s.nat O.twin_mirror_state = 3 ∨ s.nat O.twin_mirror_state = 4 ∨ !(if s.standby then s.fit else s.twinFit)) then C.busy
    else 0

/-- Every chip of an activation learns that it is dropped. -/
def State.tellDrop (s : State) (act : Bytes) : State :=
  ((actPairs act).flatMap s.chipsOfPair).foldl (fun st c => if c = s.chipId then st else st.emit (.notice c (.activationAbort (pairOf c)))) s

/-- This chip's part in an activation that has not begun ends. -/
def State.dropAct (s : State) : State :=
  match s.fw.act with
  | some a => if a.stage = 0 then { s with fw := { s.fw with act := none } } else s
  | none => s

/-- The coordinator drops its activation everywhere (R494, R495). -/
def State.dropActivation (s : State) (st stage code chip : Nat) : State :=
  let act := s.oct O.fw_activation
  let s1 := if code = 0 then s.setResults (fun _ => true) stage 0 chip
    else (s.setResults (fun _ => true) stage 0 1023).setResults (fun p => p == pairOf chip) stage code chip
  ((s1.setN O.fw_activation_state st).tellDrop act).dropAct

/-- ACTIVATION_REPORT_RX (R494): a chip reports prepared, or its refusal. When all have, the activation is armed. -/
def State.actReport (s : State) (chip code : Nat) : State :=
  let act := s.oct O.fw_activation
  let chips := (actPairs act).flatMap s.chipsOfPair
  if s.nat O.fw_activation_state ≠ 1 ∨ (s.oct O.fw_activation_results).isEmpty ∨ !chips.contains chip then s
  else if code ≠ 0 then s.dropActivation 5 7 code chip
  else
    let s1 : State := { s with fw := { s.fw with reports := kput s.fw.reports chip 0 } }
    let ready (p : Nat) : Bool := (s.chipsOfPair p).all (fun c => (kfind s1.fw.reports c).isSome)
    let s2 := s1.setResults (fun p => p == pairOf chip && ready p) 1 0 chip
    if chips.all (fun c => (kfind s2.fw.reports c).isSome) then s2.setN O.fw_activation_state 2 else s2

/-- ACTIVATION_PREPARE_RX (R494): the chip's checks and its report; prepared, it holds its part. -/
def State.prepareRx (s : State) (coord : Nat) (act : Bytes) (twinActive : Nat) (twinPeers : List (Nat × Nat)) : State :=
  let code := s.prepareCode act twinActive twinPeers
  let s1 : State := if code = 0 then
      { s.setN O.fw_activation_state 1 with fw := { s.fw with act := some ⟨coord, act, false, 0, 0⟩ } }
    else s
  if coord = s.chipId then s1.actReport s.chipId code else s1.emit (.notice coord (.activationReport coord code))

/-- ACTIVATION_WRITE (R493): the coordinator sends a prepare to every chip of the named pairs, and prepares itself. -/
def State.writeActivation (s : State) (act : Bytes) : Nat × State :=
  let now := s.tbNow (actTb act)
  let i := actInstant act
  if !actOk act ∨ !s.headsAll (actPairs act) ∨ i < now + 10 * nsPerSec ∨ now + 604800 * nsPerSec < i ∨ s.activationHeld.isSome then (C.range, s)
  else
    let s1 := ((s.setB O.fw_activation act).setN O.fw_activation_state 1).setB O.fw_activation_results
      ((actPairs act).flatMap (fun p => resultRecord p 0 0 1023))
    let chips := (actPairs act).flatMap s.chipsOfPair
    let s2 : State := { s1 with fw := { s1.fw with reports := [] } }
    let s3 := chips.foldl (fun st c => if c = s.chipId then st else st.emit (.notice c (.activation (pairOf c) act))) s2
    let twin := match s.twin.hello with | some h => (h.version, h.peers) | none => (0, [])
    (0, if chips.contains s.chipId then s3.prepareRx s.chipId act twin.1 twin.2 else s3)

/-- ACTIVATION_REPORT_DEADLINE (R494): at I − 1 s a chip has not reported. -/
def State.actDeadline (s : State) : State :=
  if s.nat O.fw_activation_state ≠ 1 ∨ (s.oct O.fw_activation_results).isEmpty then s
  else
    let missing := ((actPairs (s.oct O.fw_activation)).flatMap s.chipsOfPair).find? (fun c => (kfind s.fw.reports c).isNone)
    s.dropActivation 5 7 0 (missing.getD 1023)

/-- ACTIVATION_ABORT (R495): from I on it is too late (log entry 33). -/
def State.abortActivation (s : State) : Nat × State :=
  if (s.oct O.fw_activation_results).isEmpty then (C.range, s)
  else match s.nat O.fw_activation_state with
    | 1 => (0, s.dropActivation 7 9 0 1023)
    | 2 => (0, s.dropActivation 7 9 0 1023)
    | 3 => (C.tooLate, s)
    | 4 => (C.tooLate, s)
    | 6 => (C.tooLate, s)
    | _ => (C.range, s)

/-! ## Activation on its chips (R496 to R498) -/

/-- The chip restarts within its activation (R496): it seals; where the source is the fallback slot the flip alone is made. -/
def State.actRestart (s : State) (a : Activation) : State :=
  let fb := fromFallback a.raw
  let s1 := s.seal
  let s2 : State := { s1 with fw := { s1.fw with act := some { a with first := true, stage := 1 }, copyDue := !fb } }
  (if fb then s2.flipSlot else if s2.fw.copyOff then s2 else s2.setN O.fw_caddy_state 3).askRestart 4

/-- ACTIVATION_INSTANT (R496): a chip that reported prepared takes I for armed (log entry 34). The standby restarts where it is
fit, and so does a chip alone; a pair without a fit standby is dropped. -/
def State.actInstantAt (s : State) : State :=
  match s.fw.act with
  | none => if s.coordinates ∧ s.nat O.fw_activation_state = 2 then (s.setN O.fw_activation_state 3).setResults (fun _ => true) 2 0 1023 else s
  | some a =>
    if a.stage ≠ 0 ∨ s.tbNow (actTb a.raw) < actInstant a.raw ∨ (a.coord = s.chipId ∧ s.nat O.fw_activation_state ≠ 2) then s
    else
      let lead := s.coordinates
      let s1 := s.setN O.fw_activation_state 3
      let s2 := if lead then s1.setResults (fun _ => true) 2 0 1023 else s1
      let fit := s.single || (if s.standby then s.fit else s.twinFit)
      if !fit then
        let s3 := if lead then s2.setResults (fun p => p == s.pairId) 7 C.busy s.chipId else s2.setN O.fw_activation_state 5
        { s3 with fw := { s3.fw with act := none } }
      else if s.standby ∨ s.single then s2.actRestart a
      else s2

/-- The activation is over on this chip; on its coordinator the pair's result says so. -/
def State.actDone (s : State) (a : Activation) : State :=
  ((s.setN O.fw_activation_state 4).setResults (fun p => p == s.pairId) 6 0 s.chipId) |>
    fun st => { st with fw := { st.fw with act := some { a with stage := 4 } } }

/-- PROBATION_END (R497, R498): with its Barometer clear the chip passes, and its image is confirmed; the pair's first chip then
asks for the hand-over, cause 6. Else it fails. -/
def State.probationOver (s : State) : State :=
  match s.fw.act with
  | none => s
  | some a =>
    if a.stage ≠ 2 ∨ s.now < a.until' then s
    else if s.standby && !clearOf s.ownFindings then
      let s1 := s.failProbation
      (if a.first then s1
        else ({ s1 with faults := { s1.faults with due := s1.faults.due ++ [(F.fwVersionMixed, s.chipId, 0)] } } : State)).askRestart 4
    else
      let s1 : State := { s.setN O.fw_image_state 0 with fw := { s.fw with newImage := false } }
      if a.first && s.standby then
        ({ s1 with
            fw := { s1.fw with act := some { a with stage := 3 } },
            twin := { s1.twin with hand := some ⟨6, 0, 0, false⟩ } } : State).tellTwin (.handoverRequest 6)
      else s1.actDone a

/-! ## The carry-over journal (R500) -/

/-- CARRY_OVER_REGION_SWITCH (R500): past 7 MiB a full snapshot goes to the other region under the next sequence. -/
def State.switchRegion (s : State) : State :=
  if s.fw.used ≤ 7340032 then s
  else
    let now := s.carryNow
    { s.count O.fw_carry_sequence with fw := { s.fw with carry := now, used := sumBy CarryRec.size now } }

/-! ## Writes of 1200h -/

/-- A write of 1200h. -/
def State.writeFirmware (s : State) (k : Key) (v : Val) : Option (Nat × State) :=
  let on (r : Nat × State) : Nat × State := if v.int = 1 then r else (0, s)
  if k.fam ≠ 0x1200 then none
  else if k.inst = 0 then
    match k.sub with
    | 0x10 => some (s.offerManifest v.oct)
    | 0x12 => some (on s.discardCaddy)
    | 0x14 => some (on s.abortCopy)
    | 0x18 => some (s.writeActivation v.oct)
    | 0x19 => some (on s.abortActivation)
    | _ => none
  else if k.inst ≤ 6 ∧ k.sub = 0 then some (s.writePart (k.inst - 1) v.oct)
  else if 32 ≤ k.inst ∧ k.sub = 2 then some (on (s.revokeKey (k.inst - 32)))
  else none

end Sys2Proof.Machine
end

