-- ==== Sys2Proof/Machine/Power.lean ====
section
/-! DEFINITION. Power (chapters 03 and 20): pace monitors and voltage loops (R72 to R80), supply monitors and brown-outs (R508),
resets and the phases of bring-up up to Ready (R507 to R513, R536), and Lull (R514 to R517). -/

namespace Sys2Proof.Machine

/-! ## Pace and the voltage loops -/

/-- The logic die of a tile. -/
def tileDie (t : Nat) : Nat := t / 8

/-- The loops of a die run (R79): from phase 3 of bring-up on, and not in Lull. -/
def State.loopRuns (s : State) (die : Nat) : Bool :=
  die < 2 && (s.ready || 3 ≤ s.power.bootPh) && s.nat (O.die_loop_state (1 + die)) != 3

/-- The demand that a die's loop acts on (R73): the highest booked on any channel, in M handshakes a second rounded up, with the
headroom of 60. -/
def State.loopDemand (s : State) (die : Nat) : Nat := ceilDiv (dieDemand s.stripes die) 1000 + 60

/-- The lowest pace that the monitors of a die report, in M handshakes a second (R73). -/
def State.lowPace (s : State) (die : Nat) : Nat := s.diePace die / 1000

/-- A die's pace lies below margin_min, 1.25 times, its demand (R74). -/
def State.marginLost (s : State) (die : Nat) : Bool := 100 * s.lowPace die < 125 * s.loopDemand die

/-- A die's pace lies below its booked demand itself (R76). -/
def State.paceLost (s : State) (die : Nat) : Bool := s.diePace die < dieDemand s.stripes die

/-- PACE_MARGIN and PACE_SHORT of a die clear when the margin returns (R76). -/
def State.reviewPace (s : State) (die : Nat) : State :=
  let s1 := if s.power.margin.contains die && !s.marginLost die then
      let l := s.power.margin.filter (fun d => d ≠ die)
      ({ s with power := { s.power with margin := l } } : State).followShared F.paceMargin die 0 false (!l.isEmpty)
    else s
  if s1.power.short.contains die && !s1.paceLost die then
    let l := s1.power.short.filter (fun d => d ≠ die)
    ({ s1 with power := { s1.power with short := l } } : State).followShared F.paceShort die 0 false (!l.isEmpty)
  else s1

/-- PACE_MONITOR_WINDOW (R72): a tile's monitor reports its window. -/
def State.paceWindow (s : State) (t pace : Nat) : State :=
  if s.tiles ≤ t then s
  else
    let low := s.nat (O.pace_lowest (32 + t))
    ((s.setN (O.pace_last (32 + t)) pace).setN (O.pace_lowest (32 + t)) (if low = 0 then pace else min low pace)).reviewPace (tileDie t)

/-- PACE_MARGIN_TIMEOUT (R76): for 1 ms the setpoint has stood at v_max with the margin lost. -/
def State.paceTimeout (s : State) (die : Nat) : State :=
  if !s.loopRuns die then s
  else
    let s1 := if s.marginLost die && s.nat (O.die_setpoint (1 + die)) == s.nat (O.die_v_max (1 + die)) then
        ({ s with power := { s.power with margin := nub (s.power.margin ++ [die]) } } : State).follow F.paceMargin die (s.lowPace die) true
      else s
    if s1.paceLost die then
      ({ s1 with power := { s1.power with short := nub (s1.power.short ++ [die]) } } : State).follow F.paceShort die (s1.lowPace die) true
    else s1

/-- The loop state that a die shows (Table 20.11). -/
def State.showLoop (s : State) (die : Nat) : State :=
  s.setN (O.die_loop_state (1 + die))
    (if s.power.badReg.contains die then 2 else if s.nat (O.die_setpoint (1 + die)) = s.nat (O.die_v_max (1 + die)) then 1 else 0)

/-- A setpoint goes to a die's regulator where it differs from the value sent last, or where the regulator has failed (R74,
R78). -/
def State.sendVout (s : State) (die : Nat) : State :=
  let v := s.nat (O.die_setpoint (1 + die))
  if kfind s.power.sent die = some v ∧ !s.power.badReg.contains die then s
  else ({ s with power := { s.power with sent := kput s.power.sent die v } } : State).emit (.vout die v)

/-- VOLTAGE_LOOP_PERIOD (R74): one pass of a die's loop. -/
def State.voltageLoop (s : State) (die : Nat) : State :=
  if !s.loopRuns die then s
  else
    let pace := s.lowPace die
    let demand := s.loopDemand die
    let set := s.nat (O.die_setpoint (1 + die))
    let high : Bool := (s.nat (O.die_target (1 + die)) + 5) * demand < 100 * pace
    let since := (kfind s.power.above die).getD s.now
    let above := if high then kput s.power.above die since else kdel s.power.above die
    let next :=
      if 100 * pace < 125 * demand then set + 10
      else if high && decide (since + 10000000 ≤ s.now) && !s.power.badReg.contains die then set - 5
      else set
    let s1 := ({ s with power := { s.power with above := above } } : State).setN (O.die_setpoint (1 + die))
      (max (s.nat (O.die_v_min (1 + die))) (min (s.nat (O.die_v_max (1 + die))) next))
    ((s1.sendVout die).showLoop die).reviewPace die

/-- REGULATOR_POLL (R74, R78). -/
def State.pollRegulator (s : State) (die : Nat) (ack : Bool) (vout status : Nat) : State :=
  if 2 ≤ die then s
  else
    let s1 := if ack then (s.setN (O.die_vout_read (1 + die)) vout).setN (O.die_regulator_status (1 + die)) status else s
    let set := s.nat (O.die_setpoint (1 + die))
    let off : Bool := set != 0 && (decide (set + 20 < vout) || decide (vout + 20 < set))
    let bad : Bool := !ack || off
    let l := s.power.badReg.filter (fun d => d ≠ die) ++ (if bad then [die] else [])
    let s2 := ({ s1 with power := { s1.power with badReg := l } } : State).followShared F.avsRegulator die vout bad (!l.isEmpty)
    if s2.loopRuns die then s2.showLoop die else s2

/-! ## Supply monitors and brown-outs (R508) -/

/-- A rail's monitor low in mV (Table 20.1); a core's is the undervoltage threshold of R80; 0 for a rail without
thresholds. -/
def railLow (r : Nat) : Nat :=
  match r with
  | 0 => 3100 | 1 => 1690 | 6 => 556 | 7 => 556 | 8 => 720 | 9 => 770 | 10 => 1160 | 11 => 1060 | 12 => 380 | _ => 0

/-- The fault of a rail that trips (Table 20.2). -/
def railFault (r : Nat) (high : Bool) : Option Nat :=
  match r with
  | 0 => some F.ioRail
  | 1 => some F.ioRail
  | 6 => some (if high then F.railHigh else F.coreUndervolt)
  | 7 => some (if high then F.railHigh else F.coreUndervolt)
  | 8 => some (if high then F.railHigh else F.sramUndervolt)
  | 9 => some F.laneRail
  | 10 => some F.laneRail
  | 11 => some F.hbmRail
  | 12 => some F.hbmRail
  | _ => none

/-- A rail's converter reads a value (Table 20.12). -/
def State.railReads (s : State) (r mv : Nat) : State :=
  let low := s.nat (O.rail_minimum (16 + r))
  ((s.setN (O.rail_reading (16 + r)) mv).setN (O.rail_minimum (16 + r)) (if low = 0 then mv else min low mv)).setN
    (O.rail_maximum (16 + r)) (max mv (s.nat (O.rail_maximum (16 + r))))

/-- A brown-out record (Table 20.3); while no duration is known it reads FFFFFFFFh. -/
def brownRecord (rail cause lowest duration tb0 : Nat) : Bytes :=
  beBytes 1 rail ++ beBytes 1 cause ++ beBytes 2 lowest ++ beBytes 4 duration ++ time80 tb0 ++ [0, 0]

/-- A record joins the ring of 16, which loses its oldest (R508). -/
def State.addBrown (s : State) (r : Bytes) : State :=
  let l := s.oct O.pow_brownout_ring ++ r
  (s.setB O.pow_brownout_ring (if l.length > 320 then l.drop (l.length - 320) else l)).count O.pow_brownouts

/-- The ring holds a record whose trip it did not hold at the last Ready (Table 20.2). -/
def State.brownedSinceReady (s : State) : Bool :=
  let trip (r : Bytes) : Bytes := r.take 2 ++ slice r 8 10
  (records 20 (s.oct O.pow_brownout_ring)).any (fun r => !(records 20 s.power.ringAtReady).any (fun q => trip q == trip r))

/-- RAIL_MONITOR_TRIP (R508, Table 20.2): a rail lies beyond its monitor for 1 µs; below it, a brown-out is recorded. -/
def State.railTrip (s : State) (r : Nat) (high : Bool) (mv : Nat) : State :=
  match railFault r high with
  | none => if r < 13 then s.railReads r mv else s
  | some f =>
    let s1 := ((s.railReads r mv).setN (O.rail_state (16 + r)) (if high then 2 else 1)).follow f (if r = 6 ∨ r = 7 then r - 6 else r) mv true
    if high ∨ s.power.brown.any (fun b => b.rail = r) then s1
    else
      let tb := s.tbNow 0
      ({ s1 with power := { s1.power with brown := s1.power.brown ++ [⟨r, s.now, tb⟩] } } : State).addBrown
        (brownRecord r 1 mv 0xFFFFFFFF tb)

/-- BROWNOUT_END (R508): the record gets its duration in µs and its lowest reading, and the fault's condition ends where no other
rail holds it. -/
def State.brownEnd (s : State) (r lowest : Nat) : State :=
  match s.power.brown.find? (fun b => b.rail = r) with
  | none => s
  | some b =>
    let ring := (records 20 (s.oct O.pow_brownout_ring)).flatMap (fun x =>
      if x.take 2 = [BitVec.ofNat 8 r, 1] ∧ slice x 8 10 = time80 b.time then brownRecord r 1 lowest (ceilDiv (s.now - b.since) 1000) b.time
      else x)
    let s1 : State := { (s.setB O.pow_brownout_ring ring).setN (O.rail_state (16 + r)) 0 with
      power := { s.power with brown := s.power.brown.filter (fun x => x.rail ≠ r) } }
    match railFault r false with
    | some f =>
      if (List.range 13).any (fun q => q ≠ r ∧ ((railFault q false = some f ∧ s1.nat (O.rail_state (16 + q)) = 1) ∨
        (railFault q true = some f ∧ s1.nat (O.rail_state (16 + q)) = 2))) then s1 else s1.endFault f
    | none => s1

/-- UNDERVOLT_TRIP (R80, R508): VDD_CORE of a die falls below its undervoltage monitor. -/
def State.undervolt (s : State) (die mv : Nat) : State := if 2 ≤ die then s else s.railTrip (6 + die) false mv

/-- The ring goes to flash (R508). -/
def State.writeRing (s : State) : State := { s with fw := { s.fw with ring := s.oct O.pow_brownout_ring } }

/-! ## Resets (R507, R508, R536) -/

/-- RESET_N low (R507): every line and pin takes its disabled state, and the chip waits for phase 0. -/
def State.resetLow (s : State) : State :=
  if !s.power.resetN then s
  else let s1 := s.wipe false; { s1 with power := { s1.power with resetN := false } }

/-- JTAG_EXTEST (R536): as with RESET_N low. -/
def State.extest (s : State) : State :=
  if s.power.tap then s
  else let s1 := if s.power.resetN then s.wipe false else s; { s1 with power := { s1.power with tap := true } }

/-- Of the rails with thresholds that stand outside their range, the one lowest against its monitor low, with its reading
(R508). -/
def State.lowestRail (s : State) : Nat × Nat :=
  let l := (List.range 13).filter (fun r => railLow r ≠ 0 ∧ s.nat (O.rail_state (16 + r)) ≠ 0)
  match minBy (fun r => s.nat (O.rail_reading (16 + r)) * 1000 / railLow r) l with
  | some r => (r, s.nat (O.rail_minimum (16 + r)))
  | none => (0xFF, 0xFFFF)

/-- PWRGD_FALL (R508): with RESET_N high it is a brown-out of cause 2; its record reaches flash where both power-fail warnings
stand, for the seal that they have started carries the ring (R430, log entry 42). Power goes, and with it everything that
neither flash nor a fuse holds. -/
def State.pwrgdFall (s : State) : State :=
  if !s.power.pwrgd then s
  else
    let r := s.lowestRail
    let s1 := if s.power.resetN then s.addBrown (brownRecord r.1 2 r.2 0xFFFFFFFF (s.tbNow 0)) else s
    let s2 : State := if s1.nat O.twin_pf_state % 4 = 3 then { s1 with fw := { s1.fw with ring := s1.oct O.pow_brownout_ring } } else s1
    let s3 := s2.wipe true
    { s3 with power := { s3.power with pwrgd := false } }

/-! ## Bring-up (R509 to R511) -/

/-- BRINGUP_START (R509): PWRGD and RESET_N are both high. -/
def State.bringupStart (s : State) : State :=
  if s.power.tap ∨ (s.power.pwrgd ∧ s.power.resetN) then s
  else ({ s with power := { s.power with pwrgd := true, resetN := true } } : State).startUp (if s.power.lost then 0 else 1)

/-- TAP_RESET (R536). -/
def State.tapReset (s : State) : State :=
  if !s.power.tap then s
  else
    let s1 : State := { s with power := { s.power with tap := false } }
    if s.power.pwrgd ∧ s.power.resetN then s1.startUp 1 else s1

/-- Bring-up is under way. -/
def State.booting (s : State) : Bool :=
  !s.ready && s.power.pwrgd && s.power.resetN && !s.power.tap && !s.power.stuck && s.power.times.length < 7

/-- A phase has been run, or skipped; the next one begins. -/
def State.phaseOver (s : State) (next : Nat) (ms : Nat) : State :=
  let skipped := List.replicate (min 7 next - s.power.bootPh - 1) 0
  { s with power := { s.power with bootPh := min 6 next, times := s.power.times ++ [ms] ++ skipped } }

/-- The active slot has failed its check (R487): the other one boots where it passes; a chip on probation fails it (R497). -/
def State.fallBack (s : State) (otherOk : Bool) : State :=
  if !otherOk then { s with power := { s.power with bootPh := 2, stuck := true } }
  else if s.onProbation then s.failProbation.strike F.fwFallback 0 0
  else
    let a := s.activeSlot
    (((s.flipSlot).setN (O.img_state (16 + a)) 0).setN O.fw_image_state 2).strike F.fwFallback a 0

/-- Whether the start copies the caddy in phase 1 (R490, R491), and no abort has been written (R492). -/
def State.copies (s : State) : Bool := (s.fw.copyDue || s.fw.copying) && !s.fw.copyOff && s.caddyManifest.isSome

/-- An aborted copy is not made: the caddy keeps its staged offer, and the activation reads aborted (R492). -/
def State.copyAborted (s : State) : State :=
  if s.fw.copyOff then
    let s1 := if s.fw.act.isSome then s.setN O.fw_activation_state 7 else s
    { (if s1.nat O.fw_caddy_state = 3 then s1.setN O.fw_caddy_state 2 else s1) with
      fw := { s1.fw with copyDue := false, copying := false, copyOff := false, act := none } }
  else s

/-- Phase 0 (R509): the collector starts, what the start itself raises latches, and the active slot is checked. -/
def State.phaseRom (s : State) (r : PhaseResult) : State :=
  let s1 := s.faults.due.foldl (fun st x => st.strike x.1 x.2.1 x.2.2) { s with faults := { s.faults with due := [] } }
  let s2 := if r.activeOk then s1 else s1.fallBack r.otherOk
  if s2.power.stuck then s2
  else if s2.copies then
    ((s2.setN (O.img_state (17 - s2.activeSlot)) 0).phaseOver 1 r.ms) |> fun st => { st with fw := { st.fw with copying := true } }
  else s2.copyAborted.phaseOver 2 r.ms

/-- Phase 1 (R490): the copy, verified whole, flips the slot. One that does not verify leaves the old image active (log entry
35). -/
def State.phaseCopy (s : State) (r : PhaseResult) : State :=
  (if r.otherOk then s.copyCaddy else { s with fw := { s.fw with copying := false, copyDue := false } }).phaseOver 2 r.ms

/-- Phase 2 (R485, R487). -/
def State.phaseVerify (s : State) (r : PhaseResult) : State :=
  let s1 := if r.activeOk then s else s.fallBack r.otherOk
  if s1.power.stuck then s1 else s1.phaseOver (if s1.mode = 3 then 5 else 3) r.ms

/-- Phase 3 (R79, R511): stacks that fail training are excluded, and the loops take control, from v_max (log entry 36). -/
def State.phaseHbm (s : State) (r : PhaseResult) : State :=
  let s1 := (r.stacksFailed.filter (fun k => k < 4)).foldl (fun st k => (st.exclude 0 k).setN (O.hbm_state k) 3) s
  ([0, 1].foldl (fun st d => (st.setN (O.die_setpoint (1 + d)) (st.nat (O.die_v_max (1 + d)))).showLoop d) s1).phaseOver 4 r.ms

/-- Phase 4 (R511): the PLLs of every present tile are locked (log entry 40). -/
def State.phaseLanes (s : State) (r : PhaseResult) : State :=
  let s1 := (List.range s.tiles).foldl (fun st t => st.setN (O.tile_pll_status (1024 + t)) 15) s
  ({ s1 with power := { s1.power with lanesBad := r.lanesFailed } } : State).phaseOver 5 r.ms

/-- BRINGUP_OVERRUN (R511): bring-up restarts once from phase 0; a second overrun holds it where it is. -/
def State.bringupOverrun (s : State) : State :=
  if s.ready ∨ !s.power.pwrgd ∨ !s.power.resetN ∨ s.power.tap ∨ s.power.stuck then s
  else if s.power.overrun then
    let s1 := s.failStart
    { s1 with power := { s1.power with stuck := true } }
  else ({ s with power := { s.power with overrun := true } } : State).restart 5

/-! ## Restarts by write (R513) -/

/-- A value written to 1020h[0].02 (Table 20.6). -/
def State.writeRestart (s : State) (v : Nat) : Nat × State :=
  match v with
  | 1 => if s.primary then s.askHandover 4 true else (0, s.askRestart 3)
  | 2 => (0, s.askRestart 3)
  | 3 =>
    if s.mode ≠ 3 then (C.range, s)
    else
      (0, ({ s with fw := { s.fw with copyDue := s.nat O.fw_caddy_state == 2 } } : State).askRestart 3)
  | _ => (0, s)

/-! ## Lull (R514 to R517) -/

/-- Some flow is enabled. -/
def State.flowEnabled (s : State) : Bool :=
  s.objs.any (fun e => isFlowInst e.1.fam e.1.inst && e.1.sub == 0x00 && e.2 == .n 1)

/-- What keeps the chip out of Lull (R514). -/
def State.lullBarred (s : State) : Bool :=
  !s.sw.routes.isEmpty || s.flowEnabled || (List.range 1024).any s.testRuns ||
    s.placements.any (fun p => p.lanes.any (fun e => e.2 != 0)) ||
    s.sw.takes.any (fun r => r.inst.isSome) || !s.salvos.parts.isEmpty

/-- The banks of the management island stay on in Lull (R464): large banks 16 to 20 and 40 to 44, and the general pool while it
holds session state. -/
def State.islandBank (s : State) (b : Nat) : Bool :=
  (4112 ≤ b && b ≤ 4116) || (4136 ≤ b && b ≤ 4140) || (bankUse b == 5 && !s.proto.sessions.isEmpty)

/-- Lull is entered (R464, R514): lanes Dormant, links down, HBM in self-refresh, banks in retention, and each loop sends v_min
once and stops (R79). -/
def State.enterLull (s : State) : State :=
  let s1 := (s.setN O.pow_lull_state 2).count O.pow_lull_entries
  let s2 := (List.range (64 * s.tiles)).foldl (fun st l =>
    let a := if st.portKind l = 5 then (st.linkForget l).setN (O.mlink_state (1 + l)) 1 else st
    if a.nat (O.lane_state_now l) = 2 then a else a.laneSleeps l) s1
  let s3 := (List.range 4).foldl (fun st k => if st.nat (O.hbm_state k) = 0 then st.setN (O.hbm_state k) 2 else st) s2
  let s4 := (s3.banks.filter (fun b => !s3.islandBank b ∧ s3.nat (O.bank_state b) = 0)).foldl (fun st b => st.setN (O.bank_state b) 1) s3
  let s5 := [0, 1].foldl (fun st d =>
    ((st.setN (O.die_setpoint (1 + d)) (st.nat (O.die_v_min (1 + d)))).sendVout d).setN (O.die_loop_state (1 + d)) 3) s4
  if s5.paired && s5.linkIsUp then
    (((s5.setN O.twin_twin_link 0).setN O.twin_mirror_state 3).setN O.twin_twin_state 5) |>
      fun st => { st with twin := { st.twin with report := none } }
  else s5

/-- A wake event (R516): the loops resume, and HBM and banks come back (Table 20.8); one that arrives during entry reverses
it. -/
def State.wakeLull (s : State) (cause : Nat) : State :=
  if s.nat O.pow_lull_state ≠ 1 ∧ s.nat O.pow_lull_state ≠ 2 then s
  else
    let s1 := ((s.setN O.pow_lull_state 3).setN O.pow_wake_cause cause).setF O.pow_lull false
    let s2 := (List.range 4).foldl (fun st k => if st.nat (O.hbm_state k) = 2 then st.setN (O.hbm_state k) 0 else st) s1
    let s3 := (s2.banks.filter (fun b => s2.nat (O.bank_state b) = 1)).foldl (fun st b =>
      (st.setN (O.bank_state b) 0).count (O.bank_wakes b)) s2
    let s4 := [0, 1].foldl (fun st d => st.showLoop d) s3
    { s4 with power := { s4.power with wakeAt := s4.now } }

/-- A write of 1400h[0].01 (R514, R516). On a primary with a mirror, Lull is entered when the standby has acknowledged. -/
def State.writeLull (s : State) (on : Bool) : Nat × State :=
  if on then
    if s.nat O.pow_lull_state = 1 ∨ s.nat O.pow_lull_state = 2 then (0, s)
    else if s.lullBarred ∨ s.nat O.pow_lull_state = 3 then (C.busy, s)
    else
      let s1 := s.setF O.pow_lull true
      (0, if s.mirroring then s1.setN O.pow_lull_state 1 else s1.enterLull)
  else if s.nat O.pow_lull_state = 1 ∨ s.nat O.pow_lull_state = 2 then (0, (s.wakeLull 2).emit .wakeN)
  else (0, s.setF O.pow_lull false)

/-- LULL_WAKE_DONE (R517): the lanes are in their set states again, receivers locked and adapted, and Lull is left. -/
def State.lullOver (s : State) : State :=
  if s.nat O.pow_lull_state ≠ 3 then s
  else
    let s1 := (List.range (64 * s.tiles)).foldl (fun st l =>
      if st.nat (O.lane_state_now l) = st.nat (O.lane_state l) then st
      else
        let a := st.setN (O.lane_state_now l) (st.nat (O.lane_state l))
        if a.nat (O.lane_state l) = 0 then a.laneLocked l else a) s
    (s1.setN O.pow_lull_state 0).setN O.pow_last_wake ((s.now - s.power.wakeAt) / 1000)

/-- LULL_WAKE_LATE (R517). -/
def State.lullLate (s : State) : State :=
  if s.nat O.pow_lull_state = 3 then s.strike F.lullWakeLate 0 ((s.now - s.power.wakeAt) / 1000) else s

/-- The chip is in Lull, entering it, or waking (R514). -/
def State.inLull (s : State) : Bool := s.nat O.pow_lull_state != 0

/-! ## Writes of 1020h and 1400h -/

/-- A write of 1020h or 1400h. -/
def State.writePower (s : State) (k : Key) (v : Val) : Option (Nat × State) :=
  if k = O.bring_restart then some (s.writeRestart v.int.toNat)
  else if k = O.pow_lull then some (s.writeLull (v.int != 0))
  else if k = O.pow_brownout_clear then some (0, if v.int = 1 then s.setB O.pow_brownout_ring [] else s)
  else if k.fam ≠ 0x1400 then none
  else if k.inst = 1 ∨ k.inst = 2 then
    match k.sub with
    | 0x04 => if v.int.toNat ≤ s.nat (O.die_v_max k.inst) then none else some (C.range, s)
    | 0x05 => if s.nat (O.die_v_min k.inst) ≤ v.int.toNat then none else some (C.range, s)
    | _ => none
  else if 16 ≤ k.inst ∧ k.inst ≤ 28 ∧ k.sub = 4 then
    some (0, if v.int = 1 then
        (s.setN (O.rail_minimum k.inst) (s.nat (O.rail_reading k.inst))).setN (O.rail_maximum k.inst) (s.nat (O.rail_reading k.inst))
      else s)
  else none

end Sys2Proof.Machine
end

