-- ==== Sys2Proof/Machine/ViewsRouting.lean ====
section
/-! DEFINITION. Objects whose READ shows other state: identity, sessions, sources, destinations, takes, salvos, the placer's
ledgers and frame stores (families 1000h to 1020h and 3000h to 3500h). Each view answers none for an object that simply holds
its value. -/

namespace Sys2Proof.Machine

/-- A natural number as a shown value. -/
def num (n : Nat) : Option Val := some (.n (n : Int))
/-- A truth value as a shown value. -/
def numB (b : Bool) : Option Val := some (.n (b01 b))
/-- Bytes as a shown value. -/
def octs (b : Bytes) : Option Val := some (.b b)
/-- A measured quantity that the spec leaves to the hardware: a free value below a bound (log entry 4). -/
def State.measured (s : State) (k : Key) (bound : Nat) : Option Val :=
  num (s.freeNat (k.fam * 16777216 + k.inst * 256 + k.sub) % bound)

/-! ## Sessions (1010h) -/

/-- The keys that are set (Table 2.16). -/
def State.keysSet (s : State) : Nat := sumBy (fun r => if (s.roleKey r).isEmpty then 0 else 2 ^ r) [0, 1, 2, 3]

/-! ## Sources (3000h) -/

/-- The kind of a port's video source or destination: 1 a port, 6 a member lane, 0 none (R14). -/
def State.portUnit (s : State) (p : Nat) : Nat := if s.isMember p then 6 else b01 (s.isSdi p)

/-- The state of the stores of a video source: 2 where one is primed, 1 where one primes. -/
def State.storeStateOf (s : State) (x : Nat) : Nat :=
  let l := s.sw.stores.filter (fun y => y.src = s.srcId 0 x ∧ y.purpose = 0)
  if l.any (fun y => 2 ≤ y.state) then 2 else b01 (!l.isEmpty)

/-- Table 4.11. -/
def State.srcStatus (s : State) (x : Nat) : Nat :=
  let e := s.nat (O.src_format_expected x)
  let d := s.nat (O.src_format_detected x)
  b01 (s.vsrcPresent x) + 2 * b01 (s.vsrcSettled x) + 4 * b01 (e != 0 && d != 0 && d != e) + 8 * b01 (s.storeStateOf x != 0)

/-- Family 3000h. -/
def State.viewSrc (s : State) (k : Key) : Option Val :=
  let x := k.inst
  match k.sub with
  | 0x00 => if x < 1024 then num (s.portUnit x) else none
  | 0x08 => num (s.fanout (s.srcId 0 x)).length
  | 0x09 => num (s.storeStateOf x)
  | 0x0A => num (s.srcStatus x)
  | _ => none

/-! ## Destinations (3100h) -/

/-- A destination carries one picture in parts (bound group, before R117). -/
def State.boundGroup (s : State) (d : Nat) : Bool :=
  decide (d < 3072) && (((d < 1024 : Bool) && s.portKind d == 1) || (is2160 (s.nat (O.dst_format d)) && s.vdstDivision d != 0))

/-- Table 4.13. -/
def State.dstStatus (s : State) (d : Nat) : Nat :=
  let dst : Dst := ⟨.video, d⟩
  let r := s.route dst
  let m := s.mark d
  b01 (s.boundGroup d) + 2 * b01 (s.natNow (O.dst_companion_group d) != 0) +
    4 * b01 (match r with | some r => r.pl.store.isSome && r.pl.path != 4 | none => false) +
    8 * b01 (Machine.bit m 1) + 16 * b01 (Machine.bit m 2) +
    32 * b01 (s.safe || s.faults.safeOut.contains dst) +
    64 * b01 (match r with | some r => (s.followPlan d (idIdx r.pl.src)).any (fun f => f.2.isNone) | none => false) +
    128 * b01 (match r with | some r => s.formatClash d r.pl | none => false) +
    256 * b01 (s.sw.takes.any (fun t => t.dst = dst ∧ t.state = 4))

/-- Family 3100h. A port bound to a head reads the head's format, time base and offset, and its programme head (R258). -/
def State.viewDst (s : State) (k : Key) : Option Val :=
  let d := k.inst
  let r := s.route ⟨.video, d⟩
  let head := s.boundHead d
  match k.sub with
  | 0x00 => if d < 1024 then num (s.portUnit d) else none
  | 0x02 => head.map (fun h => s.get (O.head_format h))
  | 0x03 => head.map (fun h => s.get (O.head_time_base h))
  | 0x04 => head.map (fun h => s.get (O.head_timing_offset h))
  | 0x07 => if d < 3072 then num (s.effectiveDelay d) else num 0
  | 0x08 =>
    match head with
    | some h => num (if s.nat (O.head_class h) = 1 then s.srcId 0 (3072 + h) else none32)
    | none => num (match r with | some r => r.pl.src | none => none32)
  | 0x09 => num (match r with | some r => r.pl.path | none => 0)
  | 0x0A => if d < 3072 then num (switchLineOf (match head with | some h => s.nat (O.head_format h) | none => s.nat (O.dst_format d))) else num 0
  | 0x0E => some (.n (let i := s.int k; if i = unsetN then (let b := s.defaultAudioBase d; if b = none16 then none32 else s.dstId ⟨.audio, b⟩) else i))
  | 0x11 => some (.n (let i := s.int k; if i = unsetN then (let b := s.defaultAncBase d; if b = none16 then none32 else s.dstId ⟨.anc, b⟩) else i))
  | 0x15 => num (s.dstStatus d)
  | _ => none

/-! ## Takes and salvos (3200h, 3300h) -/

/-- Family 3200h, instance 0. -/
def State.viewTakes (s : State) (k : Key) : Option Val :=
  match k.sub with
  | 0x01 => num (s.objs.filter (fun e => e.1.fam = 0x3200 ∧ 1 ≤ e.1.inst ∧ e.1.sub = 0 ∧ 1 ≤ e.2.int ∧ e.2.int ≤ 4)).length
  | _ => none

/-- Family 3300h, instance 0: the salvos that this chip coordinates and has not poured or dropped, and the parts it holds. -/
def State.viewSalvos (s : State) (k : Key) : Option Val :=
  match k.sub with
  | 0x02 => num s.salvos.own.length
  | 0x03 => num s.salvos.parts.length
  | _ => none

/-! ## The placer's ledgers (3400h) -/

/-- One record of the mesh ledger: lane, peer chip, booked and bookable Mb/s. -/
def State.meshEntry (s : State) (l : Nat) : Bytes :=
  beBytes 2 l ++ beBytes 2 (s.nat (O.mlink_peer_chip (1 + l))) ++ beBytes 4 (s.meshBooked l) ++ beBytes 4 s.meshBookable

/-- Family 3400h. The snapshot's encoding is left open (log entry 37). -/
def State.viewPlacer (s : State) (k : Key) : Option Val :=
  let i := k.inst
  if i = 0 then
    match k.sub with
    | 0x00 => num (match s.placer.running with | none => 0 | some (.restore _, _) => 2 | some _ => 1)
    | 0x01 => num s.queued
    | 0x13 => octs (s.freeOct 0x340013)
    | 0x15 => octs (((List.range 1024).filter (fun l => s.nat (O.mlink_state (1 + l)) ≠ 0)).flatMap s.meshEntry)
    | 0x16 => num (s.sw.routes.filter (fun r => r.lost)).length
    | _ => none
  else if i ≤ 32 then
    let p := i - 1
    let l := s.stripes
    match k.sub with
    | 0x01 => octs ((List.range 16).flatMap (fun t => beBytes 2 (inBooked l p t / 1000)))
    | 0x02 => octs ((List.range 16).flatMap (fun t => beBytes 2 (outBooked l p t / 1000)))
    | 0x03 => num (permille (planePeak l p) ratedKhs)
    | 0x04 => num (nub ((l.filter (fun x => x.plane = p)).map (fun x => (x.feed, x.link, x.inTile)))).length
    | _ => none
  else if i ≤ 36 then
    let st := i - 33
    match k.sub with
    | 0x02 => num (s.stackBw st)
    | 0x03 => num (s.stackSpace st)
    | 0x04 => num (s.allStores.filter (fun x => x.stack = st)).length
    | _ => none
  else if i ≤ 52 then
    let t := i - 37
    match k.sub with
    | 0x01 => num (s.poolBooked t)
    | 0x02 => num ((List.range 64).filter (fun j => s.allocOf (64 * t + j) ≠ 0)).length
    | _ => none
  else if i ≤ 68 then
    match k.sub with
    | 0x01 => num (s.sliceBooked (i - 53))
    | 0x02 => num (s.sliceBooked (i - 53))
    | _ => none
  else none

/-! ## Frame stores (3500h) -/

/-- The store that a destination reads. -/
def State.storeRead (s : State) (d : Nat) : Option StoreRec :=
  match s.route ⟨.video, d⟩ with
  | some r => r.pl.store.bind s.storeOf
  | none => none

/-- Family 3500h. -/
def State.viewStores (s : State) (k : Key) : Option Val :=
  let i := k.inst
  if i = 0 then (if k.sub = 0x05 then num s.sw.stores.length else none)
  else if i ≤ 4096 then
    match k.sub with
    | 0x01 => num (match s.storeRead (i - 1) with | some x => x.i | none => none16)
    | 0x02 => if (s.storeRead (i - 1)).isSome then s.measured k 4294967296 else num 0
    | _ => none
  else
    match s.storeOf (i - 8192) with
    | none => none
    | some x =>
      match k.sub with
      | 0x00 => num x.state
      | 0x01 => num x.purpose
      | 0x02 => num x.src
      | 0x03 => num x.fmt
      | 0x04 => num x.stack
      | 0x05 => num x.depth
      | 0x06 => num (s.readers x.i).length
      | 0x07 => num (storeBytes x)
      | 0x08 => num (s.storeMbps x)
      | 0x09 => num x.written
      | _ => none

end Sys2Proof.Machine
end

