-- ==== Sys2Proof/Machine/ViewsMedia.lean ====
section
/-! DEFINITION. Objects whose READ shows other state: SDI ports, packet video, composition and audio (families 3600h to
4500h and 7000h). -/

namespace Sys2Proof.Machine

/-- An event lies within the last second. -/
def State.lastSecond (s : State) (at' : Option Nat) : Bool :=
  match at' with | some t => decide (s.now ≤ t + nsPerSec) | none => false

/-- Family 3600h: Table 8.5 with its bits that last one second, and the mode sent (R200). -/
def State.viewSdi (s : State) (k : Key) : Option Val :=
  let p := k.inst
  match k.sub with
  | 0x16 =>
    num (withBit (withBit (withBit (s.nat k) 2 (s.lastSecond (kfind s.sdi.errAt p))) 4
      (s.portKind p == 1 && decide (s.nat (O.sdi_skew_limit p) < s.nat (O.sdi_link_skew p)))) 5 (s.lastSecond (kfind s.sdi.ovfAt p)))
  | 0x1B => if s.isSdi p then num (s.txMode p) else num 0
  | _ => none

/-- Families 3700h and 7000h: counts, bookings, groups and flows (R224, R225, R227, R231, R232, R237). -/
def State.viewPacket (s : State) (k : Key) : Option Val :=
  let i := k.inst
  if isFlowInst k.fam i then
    let video : Bool := k.fam == 0x3700 && decide (i < 12288)
    let tx : Bool := flowIsTx k.fam i
    match k.sub with
    | 0x0B => some (.n (if tx then (s.txSsrc k.fam i : Int) else orDefault (s.int k) 0))
    | 0x16 => if video then num (s.vflowPackets i) else none
    | 0x17 => if video then num (s.legMbps k.fam i 0) else none
    | 0x20 =>
      if video then num (if tx then cmaxOf (s.vflowFormat i) (s.vflowPackets i) (s.nat (O.vflow_sender_type k.fam i)) else 0) else none
    | 0x21 =>
      if video then num (if tx then vrxFullOf (s.vflowFormat i) (s.vflowPackets i) (s.nat (O.vflow_sender_type k.fam i)) else 0) else none
    | _ => none
  else if k.fam ≠ 0x3700 then none
  else if i = 0 then
    (if k.sub = 0x04 then
      num (s.objs.filter (fun e => e.1.sub == 0 && isFlowInst e.1.fam e.1.inst && e.2 == .n 1)).length
    else none)
  else if i ≤ 1024 then (if k.sub = 0x0A then num (s.txBooked (i - 1)) else none)
  else
    let tx : Bool := decide (4096 ≤ i)
    let g := if tx then i - 4096 else i - 2048
    let f := s.groupFormat tx g
    match k.sub with
    | 0x01 => octs ((s.groupMembers tx g).flatMap (fun m => beBytes 2 m.2))
    | 0x04 => num (if tx then 0 else s.releaseNow g)
    | 0x07 => num (if tx then s.troNow g else 0)
    | 0x08 => num (activeStart f)
    | _ => none

/-! ## Composition (3800h to 3B00h) -/

/-- Family 3800h. -/
def State.viewHead (s : State) (k : Key) : Option Val :=
  let h := k.inst
  match k.sub with
  | 0x0B => num (s.stackNow h).length
  | 0x0C => num (if s.nat (O.head_class h) = 0 then 0 else if s.safe then 2 else 1)
  | _ => none

/-- Table 10.8, in_force: x, y, width, height, z, blend and opacity in force. -/
def State.layerInForce (s : State) (l : Nat) : Bytes :=
  beBytes 2 (twos 16 (s.intNow (O.layer_x l))) ++ beBytes 2 (twos 16 (s.intNow (O.layer_y l))) ++
    beBytes 2 (s.natNow (O.layer_width l)) ++ beBytes 2 (s.natNow (O.layer_height l)) ++ beBytes 1 (s.natNow (O.layer_z l)) ++
    beBytes 1 (s.natNow (O.layer_blend l)) ++ beBytes 2 (s.natNow (O.layer_opacity l))

/-- A layer steeps: alone, or with its group once the group's first flip point has passed. -/
def State.layerState (s : State) (l : Nat) : Nat :=
  let steep := s.layerSteeps l || (match s.layerGroup l with
    | some g => (match s.groupPending g with
      | some c => c.members.any (fun m => s.steeps m.1 m.2.1 m.2.2)
      | none => false)
    | none => false)
  if (s.layerHeadNow l).isNone then 0 else if steep then 2 else if s.layerFallback l then 3 else 1

/-- Family 3900h: layers, and commit groups. -/
def State.viewLayer (s : State) (k : Key) : Option Val :=
  let l := k.inst
  if l < 2048 then
    match k.sub with
    | 0x17 => num (s.layerOwner l)
    | 0x1B => num (s.layerState l)
    | 0x1C => octs (if (s.layerHeadNow l).isNone then zeros 12 else s.layerInForce l)
    | _ => none
  else
    match k.sub with
    | 0x01 => octs ((s.commitMembers l).flatMap (fun m => beBytes 2 m))
    | 0x04 => num (match s.groupPending l with
      | none => 0
      | some c => if c.members.any (fun m => s.steeps m.1 m.2.1 m.2.2) then 2 else 1)
    | _ => none

/-- Families 3A00h and 3B00h. -/
def State.viewScaler (s : State) (k : Key) : Option Val :=
  let n := k.inst
  match k.fam, k.sub with
  | 0x3A00, 0x08 => num (s.needNow n)
  | 0x3A00, 0x0A => num (if (s.scalerSource n).isNone then 0 else if s.scalerFell n then 2 else 1)
  | 0x3B00, 0x01 => num (s.fenceWaiters n)
  | _, _ => none

/-! ## Audio (4000h to 4500h) -/

/-- Family 4000h. -/
def State.viewAudioSource (s : State) (k : Key) : Option Val :=
  let i := k.inst
  match k.sub with
  | 0x00 => if i < 32768 then num (b01 (s.isSdi (i / 32))) else none
  | 0x02 => numB (s.audioPresent i)
  | 0x03 => num (s.audioRate i)
  | 0x04 => num (s.srcDomain i)
  | 0x05 => numB (s.nonPcm i)
  | 0x07 => some (.n (if s.audioPresent i then -((s.freeNat (0x400007 + i) % 32769 : Nat) : Int) else -32768))
  | 0x08 => num (s.fanout (s.srcId 1 i)).length
  | _ => none

/-- The ASRC channel on the route of an audio destination. -/
def State.dstAsrc (s : State) (i : Nat) : Option Nat := (s.route ⟨.audio, i⟩).bind (fun r => r.pl.asrc.head?)

/-- Table 11.10. -/
def State.adestStatus (s : State) (i : Nat) : Nat :=
  let r := s.route ⟨.audio, i⟩
  let here (f : Nat → Bool) : Bool := match r with | some r => s.idHere r.pl.src && f (idIdx r.pl.src) | none => false
  b01 (here s.nonPcm) + 2 * b01 (s.dstAsrc i).isSome +
    4 * b01 (s.flag (O.adest_mute i) || s.int (O.adest_gain i) == -32768) +
    8 * b01 (match s.dstAsrc i with | some c => s.nat (O.asrc_state (1 + c)) == 1 | none => false) +
    16 * b01 (r.isNone || here (fun y => !s.audioPresent y)) +
    32 * b01 (s.lastSecond (kfind s.audio.slipAt i))

/-- Family 4100h. The latency holds the delay set and what the path adds to it (R291), which is measured. -/
def State.viewAudioDest (s : State) (k : Key) : Option Val :=
  let i := k.inst
  let r := s.route ⟨.audio, i⟩
  match k.sub with
  | 0x00 => if i < 32768 then num (b01 (s.isSdi (i / 32))) else none
  | 0x02 => num (match r with | some r => r.pl.src | none => none32)
  | 0x0A => num (s.dstRate i)
  | 0x0B => num (s.dstDomain i)
  | 0x0C => num (match s.dstAsrc i with | some c => c | none => none16)
  | 0x0D => num (if r.isNone then 0 else s.nat (O.adest_delay i) + s.freeNat (0x41000D + i) % 4000000000)
  | 0x10 => num (s.adestStatus i)
  | _ => none

/-- Families 4200h and 4300h. -/
def State.viewAudioUnit (s : State) (k : Key) : Option Val :=
  match k.fam, k.inst, k.sub with
  | 0x4200, d, 0x12 =>
    octs (match s.audio.saps.find? (fun r => r.dir = d) with | some r => r.capture | none => [])
  | 0x4300, 0, 0x01 => num s.placer.asrc.length
  | _, _, _ => none

end Sys2Proof.Machine
end

