-- ==== Sys2Proof/Machine/ViewsSystem.lean ====
section
/-! DEFINITION. Objects whose READ shows other state: references, time, lanes, mesh, twin, faults, memory, firmware and power
(families 1010h to 2400h, 5000h to 6200h). -/

namespace Sys2Proof.Machine

/-! ## References and time (5000h to 5700h) -/

/-- Table 12.15. -/
def State.refStatus (s : State) (e : Nat) : Nat :=
  let st := s.refState e
  let active : Bool := 2 ≤ st
  b01 active + 2 * b01 (active && s.hardOk e && !s.departs e) + 4 * b01 (active && s.phaseOk e) +
    8 * b01 (2 ≤ (s.referenceSet e).length) + 16 * b01 (s.rankClash e) +
    32 * (if active && s.nat (O.ref_source (1 + e)) == 1 then s.freeNat (0x500B00 + e) % 2 else 0) +
    sumBy (fun k => if s.nat (O.dpll_mode k) = 0 ∧ s.nat (O.dpll_selected k) = e then 2 ^ (6 + k) else 0) [0, 1, 2, 3]

/-- Families 5000h to 5300h. -/
def State.viewTiming (s : State) (k : Key) : Option Val :=
  let i := k.inst
  match k.fam with
  | 0x5000 =>
    if i = 0 then none
    else match k.sub with
      | 0x06 => num (s.phaseLimit (i - 1))
      | 0x08 => num (s.refState (i - 1))
      | 0x0B => num (s.refStatus (i - 1))
      | _ => none
  | 0x5100 =>
    if 4 ≤ i then none
    else match k.sub with
      | 0x11 => num (s.dpllState 4 i)
      | 0x13 => some (.n (s.freqNow 4 i))
      | 0x17 => num (s.bandwidthNow i)
      | 0x1B => num ((s.now - (s.dpll i).since) / nsPerSec % 4294967296)
      | _ => none
  | 0x5200 =>
    if 24 ≤ i then none
    else match k.sub with
      | 0x0B => let f := s.ckoFreq (s.natNow (O.cko_dpll i)) (s.natNow (O.cko_divider i)); num (f.1 / max 1 f.2)
      | 0x0C => some (.n (s.ckoPhase i))
      | 0x0D => num (s.ckoState i)
      | _ => none
  | 0x5300 =>
    match k.sub with
    | 0x08 => num (s.swpState i)
    | 0x09 => num (s.swpFrames i)
    | _ => none
  | _ => none

/-- Families 5400h, 5500h and 5700h. -/
def State.viewTime (s : State) (k : Key) : Option Val :=
  let i := k.inst
  match k.fam, k.sub with
  | 0x5400, 0x04 => some (.n (s.tbDomain i))
  | 0x5400, 0x07 => num (s.tbState i)
  | 0x5400, 0x08 => num (s.tbNow i)
  | 0x5400, 0x09 => num (s.tbNow i % 4294967296)
  | 0x5400, 0x0E => num (s.clockClass i)
  | 0x5500, 0x05 => some (.n (s.logSync i))
  | 0x5500, 0x06 => some (.n (s.logAnnounce i))
  | 0x5500, 0x08 => some (.n (s.logDelayReq i))
  | 0x5700, 0x02 => if i = 0 then num s.clocks.launches.length else none
  | _, _ => none

/-! ## Lanes and mesh (2000h to 2400h) -/

/-- Families 2000h, 2100h and 2300h. -/
def State.viewLanes (s : State) (k : Key) : Option Val :=
  let i := k.inst
  match k.fam, k.sub with
  | 0x2000, 0x01 => if i < 1024 then none else num (s.tileGroup (i - 1024) [])
  | 0x2000, 0x02 => if i < 1024 then num (s.laneLine i).1 else none
  | 0x2000, 0x03 => if i < 1024 then num (s.laneLine i).2.1 else none
  | 0x2000, 0x04 => if i < 1024 then num (s.laneLine i).2.2 else none
  | 0x2100, 0x0A => s.measured k 65536
  | 0x2100, 0x0B => s.measured k 65536
  | 0x2300, 0x02 => num (kindLanes (s.portKind i))
  | 0x2300, 0x03 => num (s.portUse (s.ownerPort i))
  | _, _ => none

/-- Family 2400h. -/
def State.viewMesh (s : State) (k : Key) : Option Val :=
  if k.inst = 0 then (if k.sub = 0x03 then num s.mesh.peers.length else none)
  else if 2048 ≤ k.inst ∧ k.sub = 0x03 then num (s.levelMembers k.inst)
  else none

/-! ## The twin (1300h) -/

/-- Table 16.10. -/
def Finding.bytes (f : Finding) : Bytes := beBytes 1 f.code ++ beBytes 1 f.cls ++ beBytes 1 f.tile ++ [0] ++ beBytes 4 f.detail

/-- The events of the last second, of a list with their instants. -/
def State.recent {α : Type} (s : State) (l : List (Nat × α)) : List (Nat × α) := l.filter (fun e => s.now < e.1 + nsPerSec)

/-- Family 1300h. -/
def State.viewTwin (s : State) (k : Key) : Option Val :=
  if k.inst = 0 then
    match k.sub with
    | 0x07 => num (ceilDiv (maxBy (fun e => e.2) (s.recent s.twin.lags)) 1000)
    | 0x0D => num (match s.twin.clearSince with
      | some c => ceilDiv (c + s.nat O.twin_hold_time * nsPerSec - s.now) nsPerSec
      | none => 0)
    | 0x11 => num (if s.hasBarometer then s.chipScore else 0)
    | 0x12 => octs (if s.hasBarometer then (s.findings.take 256).flatMap Finding.bytes else [])
    | 0x18 => num (sumBy (fun e => e.2) (s.recent s.twin.images) * 8 / 1000)
    | _ => none
  else
    let t := k.inst - 1
    match k.sub with
    | 0x00 => num (if s.hasBarometer then s.tileScore t else 0)
    | 0x02 => num (if s.hasBarometer then (s.findings.filter (fun f => f.tile = t)).length else 0)
    | _ => none

/-! ## Faults, memory, firmware and power -/

/-- Families 1100h, 6000h, 6100h and 6200h. -/
def State.viewFaults (s : State) (k : Key) : Option Val :=
  match k.fam, k.inst, k.sub with
  | 0x1100, 0, 0x03 => numB s.tempest
  | 0x1100, 0, 0x07 => num s.latchedList.length
  | 0x1100, 0, 0x08 => octs (s.latchedList.flatMap (fun x => beBytes 2 x))
  | 0x1100, 0, 0x09 => num s.faultPins
  | 0x6000, 0, 0x04 => num (s.banks.filter (fun b => s.nat (O.bank_state b) = 0)).length
  | 0x6000, 0, 0x05 => num (s.banks.filter (fun b => s.nat (O.bank_state b) = 1)).length
  | 0x6000, 0, 0x06 => num (s.banks.filter (fun b => s.nat (O.bank_state b) = 2)).length
  | 0x6100, i, 0x00 => if 32 ≤ i then s.measured k 101 else none
  | 0x6200, _, 0x0B => s.measured k 4294967296
  | _, _, _ => none

/-- Families 1010h, 1020h, 1200h and 1400h. -/
def State.viewPower (s : State) (k : Key) : Option Val :=
  match k.fam, k.inst, k.sub with
  | 0x1010, 0, 0x09 => num s.keysSet
  | 0x1200, 0, 0x11 => num (sumBy (fun i =>
      if s.nat (O.part_part (1 + i)) ≠ 0 ∧ !s.flag (O.part_held (1 + i)) then 2 ^ i else 0) (List.range 6))
  | 0x1200, 0, 0x1D => num (match s.fw.act with
      | some a => if a.stage = 2 then ceilDiv (a.until' - s.now) nsPerSec else 0
      | none => 0)
  | 0x1400, i, 0x06 => if i = 1 ∨ i = 2 then num (s.loopDemand (i - 1)) else none
  | 0x1400, i, 0x07 => if i = 1 ∨ i = 2 then num (s.lowPace (i - 1)) else none
  | 0x1400, i, 0x08 => if i = 1 ∨ i = 2 then some (.n ((s.freeNat (0x140008 + i) % 65536 : Nat) - 32768 : Int)) else none
  | _, _, _ => none

end Sys2Proof.Machine
end

