-- ==== Sys2Proof/Machine/Read.lean ====
section
/-! DEFINITION. What a READ of an object returns (R38): the value held, or the value that follows from the rest of the
state where an object is a view of it. -/

namespace Sys2Proof.Machine

/-- What follows from the part (Table 0.5): the tiles and lanes that are present. -/
def State.viewPart (s : State) (k : Key) : Option Val :=
  match k.sub with
  | 0x03 => some (.n ((2 ^ s.tiles - 1 : Nat) : Int))
  | 0x04 => some (.n ((64 * s.tiles : Nat) : Int))
  | _ => none

/-- What an object shows where it is a view of other state. -/
def State.view (s : State) (k : Key) : Option Val :=
  match k.fam with
  | 0x1000 => s.viewPart k
  | 0x3000 => s.viewSrc k
  | 0x3100 => s.viewDst k
  | 0x3200 => if k.inst = 0 then s.viewTakes k else none
  | 0x3300 => if k.inst = 0 then s.viewSalvos k else none
  | 0x3400 => s.viewPlacer k
  | 0x3500 => s.viewStores k
  | 0x3600 => s.viewSdi k
  | 0x3700 => s.viewPacket k
  | 0x7000 => s.viewPacket k
  | 0x3800 => s.viewHead k
  | 0x3900 => s.viewLayer k
  | 0x3A00 => s.viewScaler k
  | 0x3B00 => s.viewScaler k
  | 0x4000 => s.viewAudioSource k
  | 0x4100 => s.viewAudioDest k
  | 0x4200 => s.viewAudioUnit k
  | 0x4300 => s.viewAudioUnit k
  | 0x5000 => s.viewTiming k
  | 0x5100 => s.viewTiming k
  | 0x5200 => s.viewTiming k
  | 0x5300 => s.viewTiming k
  | 0x5400 => s.viewTime k
  | 0x5500 => s.viewTime k
  | 0x5700 => s.viewTime k
  | 0x2000 => s.viewLanes k
  | 0x2100 => s.viewLanes k
  | 0x2300 => s.viewLanes k
  | 0x2400 => s.viewMesh k
  | 0x1300 => s.viewTwin k
  | 0x1100 => s.viewFaults k
  | 0x6000 => s.viewFaults k
  | 0x6100 => s.viewFaults k
  | 0x6200 => s.viewFaults k
  | 0x1010 => s.viewPower k
  | 0x1200 => s.viewPower k
  | 0x1400 => s.viewPower k
  | _ => none

/-- The value that a READ of an object returns. A subindex that its unit does not have reads 0 (Table 9.10, R125), and so do
the services of a member lane (R219). -/
def State.read (s : State) (k : Key) : Val :=
  if flowSubAbsent k || (k.fam == 0x3600 && s.isMember k.inst) then (match (dflt k) with | .n _ => .n 0 | .b _ => .b [])
  else match s.view k with | some v => v | none => s.get k

/-- The status of the record that a READ returns: STALE on a standby for a mirrored object while mirroring is halted
(R428). -/
def State.readStatus (s : State) (k : Key) : Nat :=
  if s.standby ∧ (s.nat O.twin_mirror_state = 3 ∨ s.nat O.twin_mirror_state = 4) ∧ s.mirrored k then C.stale else C.ok

end Sys2Proof.Machine
end

