-- ==== Sys2Proof/Machine/Events.lean ====
section
/-! DEFINITION. Object records, subscriptions and events (R43, R63 to R65), and how a command ends: its subscribers learn of
what it has changed. -/

namespace Sys2Proof.Machine

/-! ## Object records -/

/-- An object record (Table 2.8). -/
def recordBytes (k : Key) (ty status : Nat) (value : Bytes) : Bytes :=
  beBytes 2 k.fam ++ beBytes 2 k.inst ++ beBytes 1 k.sub ++ beBytes 1 ty ++ beBytes 1 status ++ [0] ++
    beBytes 2 value.length ++ value

/-- The record that carries an object's present value: with status RANGE and no value where it is longer than 1 024
bytes (R65). -/
def State.valueRecord (s : State) (k : Key) : Bytes :=
  match descOf k with
  | none => []
  | some d =>
    let v := encVal d.ty (s.read k)
    if v.length > 1024 then recordBytes k d.ty.code C.range [] else recordBytes k d.ty.code (s.readStatus k) v

/-! ## Subscriptions and events -/

/-- A session of a role may read the object: it exists, the role meets its minimum and its access allows it (R36,
R63); factory objects are not read (R36). -/
def State.readable (s : State) (role : Nat) (k : Key) : Bool :=
  match descOf k with
  | none => false
  | some d => s.objExists k && d.role ≤ role && d.acc != .wo

/-- The addresses that a pattern of family, instance and subindex names (R33). -/
def patternKeys (fam inst sub : Nat) : List Key :=
  let insts := if inst = 0xFFFF then List.range 65535 else [inst]
  insts.flatMap (fun i =>
    if sub = 0xFF then (rowsOf fam i).map (fun d => ⟨fam, i, d.sub⟩) else [⟨fam, i, sub⟩])

/-- The objects that a subscription matches (R63). -/
def State.matched (s : State) (role : Nat) (u : Sub) : List Key :=
  (patternKeys u.fam u.inst u.sub).filter (s.readable role)

/-- A change queued in a session's event queue (R64): the place of a queued object is kept; a full queue loses it. -/
def State.queueEvent (s : State) (u : Sub) (k : Key) : State :=
  match s.session u.slot with
  | none => s
  | some x =>
    if x.evq.any (fun e => e.num = u.num ∧ e.key = k) then
      s.modSession u.slot (fun x => { x with evq := x.evq.map (fun e =>
        if e.num = u.num ∧ e.key = k then { e with at' := s.tbNow 0 } else e) })
    else if 256 ≤ x.evq.length then
      (s.modSession u.slot (fun x => { x with lost := x.lost + 1 })).count (O.slot_events_lost u.slot)
    else s.modSession u.slot (fun x => { x with evq := x.evq ++ [⟨u.num, k, s.tbNow 0⟩] })

/-- The role of a subscription's session; `none` where it is closed. -/
def State.subRole (s : State) (u : Sub) : Option Nat := (s.session u.slot).map (fun x => x.role)

/-- A change of the object brings an event. The readings of the time bases change with time alone (log entry 9), and a
fault source without its event reaction changes its objects in silence (R442). -/
def State.tells (s : State) (k : Key) : Bool :=
  !(k.fam == 0x5400 && (k.sub == 0x08 || k.sub == 0x09)) &&
    !(k.fam == 0x1100 && 1 ≤ k.inst && !Machine.bit (s.nat (O.fsrc_reactions k.inst)) 0)

/-- The changes of one command, from `s0` to `s`, queued for one subscription of modes 0 and 2. -/
def State.queueChanges (s s0 : State) (u : Sub) : State :=
  if u.mode = 1 then s
  else
    match s.subRole u with
    | none => s
    | some role =>
      ((s.matched role u).filter (fun k =>
        s.tells k && s0.read k != s.read k)).foldl
        (fun st k => st.queueEvent u k) s

/-- The object records of one event that fit, and the rest (R47). -/
def fitRecords (limit : Nat) : List Bytes → List Bytes × List Bytes
  | [] => ([], [])
  | r :: rest =>
    if r.length ≤ limit then let f := fitRecords (limit - r.length) rest; (r :: f.1, f.2) else ([], r :: rest)

/-- The records split into the parts of several EVENT messages (R47); `fuel` bounds their number. -/
def splitRecords : Nat → List Bytes → List (List Bytes)
  | 0, _ => []
  | _, [] => []
  | f + 1, rs => let p := fitRecords 1320 rs; p.1 :: splitRecords f p.2

/-- The body of an EVENT (Table 2.11). -/
def eventBody (num lost newest : Nat) (recs : List Bytes) : Bytes :=
  beBytes 2 num ++ [if lost = 0 then 0 else 1] ++ [0] ++ beBytes 2 (min lost 0xFFFF) ++ time80 newest ++ recs.flatten

/-- One EVENT message of a session, with the next event sequence. -/
def State.eventMessage (s : State) (x : Session) (body : Bytes) : State × Bytes :=
  (s.modSession x.slot (fun y => { y with evSeq := y.evSeq + 1 }),
   s.message x.via.path x.key 0x05 (if x.via.path = .mesh then 5 else 1) 0 x.role x.ident (x.evSeq + 1) s.chipId body)

/-- The EVENT messages of a subscription for a list of objects; the first carries the count of objects lost (R47). -/
def State.sendEvents (s : State) (slot num lost newest : Nat) (keys : List Key) : State :=
  ((splitRecords (keys.length + 1) (keys.map s.valueRecord)).foldl (fun (a : State × Nat) recs =>
    match a.1.session slot with
    | none => a
    | some x =>
      let m := a.1.eventMessage x (eventBody num a.2 newest recs)
      (m.1.sendOn x.via m.2, 0)) (s, lost)).1

/-- The queued changes of one subscription are sent (R64). -/
def State.flushSub (s : State) (slot num : Nat) : State :=
  match s.session slot with
  | none => s
  | some x =>
    match x.evq.filter (fun e => e.num = num) with
    | [] => s
    | es =>
      (s.modSession slot (fun x => { x with evq := x.evq.filter (fun e => e.num ≠ num), lost := 0 })).sendEvents slot num
        x.lost (maxBy (fun e => e.at') es) (es.map (fun e => e.key))

/-- Changes of mode-0 subscriptions leave at once over UDP and the mesh; over SPI they wait for a fetch (R48, R64). -/
def State.flushNow (s : State) (u : Sub) : State :=
  match s.session u.slot with
  | none => s
  | some x => if u.mode = 0 ∧ x.via.path ≠ .spi then s.flushSub u.slot u.num else s

/-- The subscribers learn of what a command has changed since `s0` (R64). -/
def State.notify (s s0 : State) : State :=
  if s.proto.subs.isEmpty then s
  else
    let q := s.proto.subs.foldl (fun st u => st.queueChanges s0 u) s
    s.proto.subs.foldl (fun st u => st.flushNow u) q

/-- What stands at the end of every command: replies that waited for a twin that is no longer mirrored have left (R420), and
the standby has reported its Barometer (Table 16.4), and catches up where it is behind (R432). -/
def State.settle (s : State) : State :=
  (if s.mirroring || s.proto.held.isEmpty then s else s.releaseAllHeld).watchBarometer.comeBehind

/-- The restart that a command has called for, if any. -/
def State.restartDue (s : State) : State :=
  match s.power.due with | some c => s.restart c | none => s

/-- A command that began at `s0` ends in `s`: the next state, its subscribers told. A restart that it called for comes
last. -/
def done (s0 s : State) : Host.Outcome State Fault Refusal := .next ((s.settle.notify s0).restartDue)

end Sys2Proof.Machine
end

