-- ==== Sys2Proof/Machine/AudioCommands.lean ====
section
/-! DEFINITION. The events of audio (R285 to R306): one meaning for each, over the operations of Machine/Audio.lean. -/

namespace Sys2Proof.Machine

/-- AUDIO_CLASS_CHANGE (R287): a live audio path is placed again with an ASRC channel, or without the one it had; where no
channel is free it runs through its slip buffer and ASRC_SHORT is raised (R288). A following channel changes with its
video destination's next switch instant. -/
def execAudioClassChange (t d : Nat) (s0 : State) : Host.Outcome State Fault Refusal :=
  let s := s0.advance t
  done s0 (match s.route ⟨.audio, d⟩ with
    | none => s
    | some r =>
      if r.follows ∨ !s.idHere r.pl.src then s
      else
        let y := idIdx r.pl.src
        if r.pl.asrc.isEmpty then
          if !s.asrcNeeded y d then s
          else
            let s1 := s.giveAsrc r
            if s1.sw.takes.any (fun q => q.dst = r.dst ∧ q.repl) then s1
            else s1.follow (F.asrcShort (s.adstTile d)) (s.dstId r.dst) 0 true
        else if s.clocksRelated y d then s.startRepl r.dst { r.pl with asrc := [] } else s)

/-- AUDIO_SLIP (R288): the slip buffer of an unrelated path without ASRC drops or repeats a sample. -/
def execAudioSlip (t d : Nat) (s0 : State) : Host.Outcome State Fault Refusal :=
  let s := s0.advance t
  done s0 (match s.route ⟨.audio, d⟩ with
    | none => s
    | some r =>
      if !r.pl.asrc.isEmpty ∨ !s.idHere r.pl.src ∨ s.clocksRelated (idIdx r.pl.src) d then s
      else
        ({ (s.count (O.adest_slips d)) with audio := { s.audio with slipAt := kput s.audio.slipAt d s.now } } : State).strike
          (F.audioSlip (s.adstTile d)) (s.dstId r.dst) 0)

/-- TDM_FRAME_START (R296). -/
def execTdmFrameStart (t dir : Nat) (fits : Bool) (s0 : State) : Host.Outcome State Fault Refusal :=
  let s := s0.advance t
  done s0 (s.tdmFrame dir fits)

/-- SAP_RATE_MEASURE (R297). -/
def execSapRateMeasure (t dir mhz ppb : Nat) (s0 : State) : Host.Outcome State Fault Refusal :=
  let s := s0.advance t
  done s0 (if 1 ≤ dir ∧ dir ≤ 64 then s.sapMeasure dir mhz ppb else s)

/-- SAP_CLOCK_LOST (R298): a running slave direction has had no frame sync for four frame periods. -/
def execSapClockLost (t dir : Nat) (s0 : State) : Host.Outcome State Fault Refusal :=
  let s := s0.advance t
  done s0 (match s.sap dir with
    | none => s
    | some r =>
      if s.nat (O.sap_clock_role dir) ≠ 0 ∨ s.nat (O.sap_state dir) ≠ 2 ∨
          s.now < r.latest + 4 * (nsPerSec / s.sapHz dir) then s
      else (s.setN (O.sap_state dir) 3).follow F.sapClock dir 0 true)

/-- SAP_FS_RETURN (R298): the direction resumes; its frame count goes on from the TB0 time elapsed. -/
def execSapFsReturn (t dir : Nat) (s0 : State) : Host.Outcome State Fault Refusal :=
  let s := s0.advance t
  done s0 (match s.sap dir with
    | none => s
    | some r =>
      if s.nat (O.sap_state dir) ≠ 3 then s
      else
        let n := (s.tbNow 0 - r.first.getD (s.tbNow 0)) * s.sapHz dir / nsPerSec
        let s1 := (s.putSap { r with frames := n, latest := s.now }).setN (O.sap_state dir) 2
        s1.followShared F.sapClock dir 0 false ((List.range 64).any (fun i => s1.nat (O.sap_state (1 + i)) = 3)))

/-- START_TRIG_EDGE (R299): the edge is recorded, and starts an armed set that waits for its sense. -/
def execStartTrigEdge (t : Nat) (rising : Bool) (s0 : State) : Host.Outcome State Fault Refusal :=
  let s := s0.advance t
  let s1 := s.setN O.sapAll_last_trigger (s.tbNow 0)
  done s0 (if s.nat O.sapAll_trigger_state = 1 ∧ (s.nat O.sapAll_trigger_edge = 0) = (rising = true) then
      s1.fireStart (s.tbNow 0)
    else s1)

/-- START_AT_INSTANT (R299): the instant written to start_at comes. -/
def execStartAtInstant (t : Nat) (s0 : State) : Host.Outcome State Fault Refusal :=
  let s := s0.advance t
  done s0 (match s.audio.startAt with
    | none => s
    | some x => if s.nat O.sapAll_trigger_state = 1 ∧ x ≤ s.tbNow 0 then s.fireStart x else s)

/-- ASRC_RELOCK (R302): the channel mutes, and acquires again. -/
def execAsrcRelock (t ch : Nat) (s0 : State) : Host.Outcome State Fault Refusal :=
  let s := s0.advance t
  done s0 (if s.placer.asrc.any (fun a => a.ch = ch) then
      (s.setN (O.asrc_state (1 + ch)) 1).count (O.asrc_relocks (1 + ch))
    else s)

/-- ASRC_ACQUIRED (R302): the channel follows the settled ratio, where it lies within Table 11.7. -/
def execAsrcAcquired (t ch : Nat) (ratio : Int) (s0 : State) : Host.Outcome State Fault Refusal :=
  let s := s0.advance t
  done s0 (if s.nat (O.asrc_state (1 + ch)) = 1 ∧ 45 * 4294967296 ≤ 100 * ratio ∧ 100 * ratio ≤ 225 * 4294967296 then
      (s.setN (O.asrc_state (1 + ch)) 2).setI (O.asrc_ratio (1 + ch)) ratio
    else s)

/-- AES_LOCK (R303). -/
def execAesLock (t n rate mhz : Nat) (s0 : State) : Host.Outcome State Fault Refusal :=
  let s := s0.advance t
  done s0 (if 16 ≤ n ∨ rate = 0 ∨ 4 < rate then s
    else ((s.setN (O.aes_rx_state n) 1).setN (O.aes_rx_rate n) rate).setN (O.aes_measured_rate n) mhz
      |>.followShared F.aesLos n 0 false ((List.range 16).any (fun i => i ≠ n ∧ s.nat (O.aes_rx_state i) = 0 ∧
        s.nat (O.aes_measured_rate i) ≠ 0)))

/-- The errors of an AES3 receiver since its block before: frames with biphase errors and subframes with parity errors (R303). -/
def State.aesErrors (s : State) (src biphase parity : Nat) : State :=
  if 63488 ≤ src then
    (s.count (O.aes_biphase_errors ((src - 63488) / 2)) biphase).count (O.aes_parity_errors ((src - 63488) / 2)) parity
  else s

/-- AES_BLOCK_COMPLETE (R285, R303): a complete block is stored, and the errors met on its way are counted; where its CRCC is wrong
the non-PCM flag stays. -/
def execAesBlockComplete (t src : Nat) (block : Bytes) (crcOk : Bool) (biphase parity : Nat) (s0 : State) :
    Host.Outcome State Fault Refusal :=
  let s := s0.advance t
  let b0 := (block.headD 0).toNat
  let bad : Bool := !crcOk && Machine.bit b0 0
  done s0 (if block.length ≠ 24 ∨ 63520 ≤ src then s
    else
      let s1 := (s.setB (O.asource_channel_status src) block).aesErrors src biphase parity
      if bad then (if 63488 ≤ src then s1.count (O.aes_crc_errors ((src - 63488) / 2)) else s1)
      else
        ({ s1 with audio := { s1.audio with
          nonAudio := if Machine.bit b0 1 then nub (s1.audio.nonAudio ++ [src]) else s1.audio.nonAudio.filter (fun x => x ≠ src) } } : State).reviewAsrc src)

/-- AES_LOS (R303). -/
def execAesLos (t n : Nat) (s0 : State) : Host.Outcome State Fault Refusal :=
  let s := s0.advance t
  done s0 (if 16 ≤ n ∨ s.nat (O.aes_rx_state n) = 0 then s
    else ((s.setN (O.aes_rx_state n) 0).setN (O.aes_rx_rate n) 0).latch F.aesLos n 0)

/-- LOUDNESS_UPDATE (R305). -/
def execLoudnessUpdate (t g : Nat) (m : LoudMeas) (s0 : State) : Host.Outcome State Fault Refusal :=
  let s := s0.advance t
  done s0 (if 1 ≤ g ∧ g ≤ 1024 ∧ s.flag (O.loud_enable g) then s.loudUpdate g m else s)

end Sys2Proof.Machine
end

