-- ==== Sys2Proof/Machine/BanksCommands.lean ====
section
/-! DEFINITION. The events of SRAM banks and of the control interconnect (R463 to R477): one meaning for each, over the
operations of Machine/Banks.lean. -/

namespace Sys2Proof.Machine

/-- BANK_IDLE_TIMER (R464). -/
def execBankIdleTimer (t bank : Nat) (s0 : State) : Host.Outcome State Fault Refusal :=
  done s0 ((s0.advance t).bankTimer bank)

/-- BANK_WAKE (R465). -/
def execBankWake (t bank : Nat) (s0 : State) : Host.Outcome State Fault Refusal :=
  done s0 ((s0.advance t).wakeBank bank)

/-- BANK_WAKE_DONE (R463). -/
def execBankWakeDone (t bank : Nat) (s0 : State) : Host.Outcome State Fault Refusal :=
  done s0 ((s0.advance t).bankAwake bank)

/-- SRAM_WORD_ERROR (R469): an injection armed at the bank shows in the word read next (R459). -/
def execSramWordError (t bank addr word unit : Nat) (s0 : State) : Host.Outcome State Fault Refusal :=
  let s := s0.advance t
  done s0 (if !s.bankExists bank then s
    else s.withInjection (if bank < 4096 then 0 else 1) (if bank < 4096 then bank - 1 else bank - 4096) word
      (fun st w => st.bankWord bank addr unit w))

/-- BANK_SCRUB (R470). -/
def execBankScrub (t bank : Nat) (s0 : State) : Host.Outcome State Fault Refusal :=
  done s0 ((s0.advance t).scrubBank bank)

/-- IC_REQUEST (R475). -/
def execIcRequest (t target : Nat) (reqs : List IcReq) (s0 : State) : Host.Outcome State Fault Refusal :=
  done s0 ((s0.advance t).icRequests target reqs)

/-- IC_RESPONSE (R473). -/
def execIcResponse (t target ident : Nat) (s0 : State) : Host.Outcome State Fault Refusal :=
  done s0 ((s0.advance t).icRespond target ident)

/-- IC_TIMEOUT (R474). -/
def execIcTimeout (t target : Nat) (s0 : State) : Host.Outcome State Fault Refusal :=
  done s0 ((s0.advance t).icTimeout target)

/-- IC_LOCK_OPEN (R477). -/
def execIcLockOpen (t init target ident : Nat) (s0 : State) : Host.Outcome State Fault Refusal :=
  done s0 ((s0.advance t).openLock init target ident)

/-- IC_LOCK_CUT (R477). -/
def execIcLockCut (t target : Nat) (s0 : State) : Host.Outcome State Fault Refusal :=
  done s0 ((s0.advance t).cutLock target)

end Sys2Proof.Machine
end

