-- ==== Sys2Proof/Machine/Write.lean ====
section
/-! DEFINITION. One object written: the checks of R538 in their order, the rules of each family, the takes-effect rule, and the
mirroring of what is accepted (R35 to R39, R60, R61, R538). Every write of the chip goes through `State.writeObject`. -/

namespace Sys2Proof.Machine

/-! ## Checks 1 to 7 (R538) -/

/-- The family is served in the mode that is in force (Table 20.5). -/
def State.served (s : State) (fam : Nat) : Bool :=
  s.mode != 3 || [0x1000, 0x1010, 0x1020, 0x1100, 0x1200, 0x1400].contains fam

/-- Checks 1 to 4 for a role: the code of the first that fails, or 0; `absent` tells that check 3 fails for a reason of its own.
In Recovery mode other families than its own are LOCKED (Table 20.5). -/
def State.judgeAddress (s : State) (role : Nat) (k : Key) (absent : Bool := false) : Nat :=
  if !families.contains k.fam then C.range
  else if k.fam = 0x7F00 ∧ (role ≠ 4 ∨ s.mode ≠ 2) then C.locked
  else if !s.served k.fam then C.locked
  else if !s.objExists k || absent then C.range
  else match descOf k with
    | none => C.range
    | some d => if role < d.role then C.denied else 0

/-- Checks 1 to 5 for a READ record; with the describe flag checks 1 to 4 only (R45, R538). -/
def State.judgeRead (s : State) (role : Nat) (describe : Bool) (k : Key) : Nat :=
  match s.judgeAddress role k with
  | 0 =>
    (match descOf k with
     | some d => if d.acc = .wo ∧ !describe then C.denied else 0
     | none => C.range)
  | c => c

/-- A session that writes the close object of its own slot (R540). -/
def ownClose (w : Writer) (k : Key) : Bool := k.fam == 0x1010 && k.sub == 0x07 && k.inst == w.slot && 0 < w.slot

/-- Checks 1 to 5 for a written record. A member lane's port and a subindex that the unit does not have name no object that
may be written (R14, R125, R310). -/
def State.judgeWrite (s : State) (w : Writer) (k : Key) : Nat :=
  match s.judgeAddress (if ownClose w k then 4 else w.role) k (s.memberInst k || noWriteHere k) with
  | 0 =>
    (match descOf k with
     | some d => if d.acc = .ro ∨ d.acc = .const then C.denied else 0
     | none => C.range)
  | c => c

/-- Check 7: a write that R61 refuses on a standby. -/
def State.lockedHere (s : State) (k : Key) : Bool := s.standby && s.mirrored k

/-! ## Check 9: the owning units of rwi objects -/

/-- The owning unit of an rwi object is idle (R35, and the paragraph before each object map). -/
def State.unitIdle (s : State) (k : Key) : Bool :=
  let i := k.inst
  match k.fam with
  | 0x2000 => if i < 1024 then s.mayDormant (s.ownerPort i) else s.tileIdle (i - 1024)
  | 0x2200 => !s.testRuns i
  | 0x3000 => (s.fanout (s.srcId 0 i)).isEmpty
  | 0x3100 => (s.route ⟨.video, i⟩).isNone && (s.boundHead i).isNone
  | 0x3300 => s.salvoIdle i
  | 0x3600 => (s.fanout (s.srcId 0 i)).isEmpty && (s.route ⟨.video, i⟩).isNone
  | 0x3700 =>
    if i ≤ 1024 then s.ifaceIdle (i - 1) else !s.flag ⟨0x3700, i, 0⟩
  | 0x3800 => if k.sub = 0x00 then (s.fanout (s.srcId 0 (3072 + i))).isEmpty else s.nat (O.head_class i) == 0
  | 0x3900 => if i < 2048 then !s.layerBusy i else (s.commitMembers i).isEmpty
  | 0x4000 => (s.fanout (s.srcId 1 i)).isEmpty
  | 0x4200 => s.nat (O.sap_state i) == 0
  | 0x4500 => !s.flag (O.loud_enable i)
  | 0x5000 => !(List.range 4).any (fun d => s.nat (O.dpll_mode d) == 0 && s.nat (O.dpll_selected d) == i - 1)
  | 0x5100 => !s.dpllUsed i
  | 0x5200 => !s.flag (O.cko_enable i)
  | 0x5300 => !s.flag (O.swp_enable i)
  | 0x5400 => !s.tbUsed i
  | 0x5500 => !s.flag (O.ptp_enable i)
  | 0x7000 =>
    if i < 2048 then (s.fanout (s.srcId 2 i)).isEmpty
    else if i < 4096 then (s.route ⟨.anc, i - 2048⟩).isNone
    else !s.flag ⟨0x7000, i, 0⟩
  | _ => true

/-! ## Check 10: the rules of families 1010h and 3000h to 3500h -/

/-- A session's slot closes: its layers become unclaimed (R56, R275). -/
def State.endSession (s : State) (slot : Nat) : State :=
  match s.session slot with
  | none => s
  | some x => (s.closeSession slot).releaseLayers x.ident

/-- Sessions whose role key has been replaced since they opened close (R56, R57); those that a head forwards have none. -/
def State.endRekeyed (s : State) : State :=
  (s.proto.sessions.filter (fun x => x.via.path ≠ .mesh ∧ x.key ≠ s.roleKey x.role)).foldl (fun st x => st.endSession x.slot) s

/-- Family 1010h: role keys, and the close objects (R57, R540). -/
def State.writeSession (s : State) (k : Key) (v : Val) : Option (Nat × State) :=
  if k.inst = 0 then
    (if 5 ≤ k.sub ∧ k.sub ≤ 8 then
      some (if v.oct.all (fun b => b = 0) then (C.range, s) else (0, s.set k v))
    else none)
  else if k.sub = 0x07 then some (0, if v.int = 1 then s.endSession k.inst else s)
  else none

/-- A generator's offset lies within one frame period of its format (Table 4.10). -/
def State.writeSource (s : State) (k : Key) (v : Val) : Option (Nat × State) :=
  match k.sub with
  | 0x0E => if framePeriod (s.nat (O.src_gen_format k.inst)) < v.int.natAbs then some (C.range, s) else none
  | 0x0F => some (s.writeRecirc k.inst v.int.toNat)
  | 0x10 => some (s.writeRecircDelay k.inst v.int.toNat)
  | _ => none

/-- A follow base names an audio, or an ancillary, destination of this chip (R28, R123). -/
def State.writeFollowBase (s : State) (k : Key) (ess : Essence) (v : Val) : Nat × State :=
  match s.judgeDst v.int.toNat with
  | .error c => (c, s)
  | .ok d => if d.ess = ess then (0, s.setLater k v) else (C.type, s)

/-- Family 3100h (R87, R123, R200, R374). -/
def State.writeDestination (s : State) (k : Key) (v : Val) : Option (Nat × State) :=
  let d := k.inst
  match k.sub with
  | 0x02 => some (s.keepOutput (s.set k v) d)
  | 0x03 => if d < 1024 ∧ s.isSdi d ∧ !s.outputTbFits d v.int.toNat then some (C.range, s) else none
  | 0x04 => if framePeriod (s.nat (O.dst_format d)) < v.int.natAbs then some (C.range, s) else none
  | 0x05 => some (s.keepOutput (s.setLater k v) d)
  | 0x06 => some (s.keepOutput (s.setLater k v) d)
  | 0x0E => some (s.writeFollowBase k .audio v)
  | 0x11 => some (s.writeFollowBase k .anc v)
  | _ => none

/-- Another destination of the same companion group has another programme delay (R191). -/
def State.companionDiffers (s : State) (d n : Nat) : Bool :=
  let g := s.nat (O.dst_companion_group d)
  g != 0 && (s.objs.filter (fun e => e.1.fam == 0x3100 && e.1.sub == 0x0D && e.1.inst != d && e.2 == .n g)).any
    (fun e => s.nat (O.fsd_programme_delay (1 + e.1.inst)) != n)

/-- A programme delay written (R191, R192): a route of the destination is placed again. -/
def State.writeProgrammeDelay (s : State) (k : Key) (v : Val) : Nat × State :=
  let d := k.inst - 1
  if 3072 ≤ d ∨ s.companionDiffers d v.int.toNat then (C.range, s)
  else
    let s1 := s.setLater k v
    (0, if (s.route ⟨.video, d⟩).isSome ∧ s.get k ≠ v then s1.askReplace ⟨.video, d⟩ else s1)

/-- Families 3200h to 3500h (R129, R137, R151, R170, R171, R185, R191). -/
def State.writeSwitching (s : State) (k : Key) (v : Val) : Option (Nat × State) :=
  let i := k.inst
  match k.fam, k.sub with
  | 0x3200, 0x0C =>
    some (if v.int = 0 then (0, s) else match s.cancelTake i with | .error c => (c, s) | .ok st => (0, st))
  | 0x3300, 0x03 => some (s.writeTakeList i v.oct)
  | 0x3300, 0x10 => some (if v.int = 0 then (0, s) else s.releaseSalvo i)
  | 0x3400, sub =>
    if i = 0 then (if sub = 0x12 then some (if v.int = 0 then (0, s) else s.askReoptimise) else none)
    else if sub = 0x00 then some (s.writeHint i (v.int = 1))
    else if sub = 0x01 then
      (if v.int.toNat ≠ none32 ∧ idShape v.int.toNat ≠ 0 then some (C.range, s) else none)
    else none
  | 0x3500, sub =>
    if i = 0 then
      (if (sub = 0 ∧ 10000000 < v.int.toNat + s.nat O.fsync_hysteresis) ∨ (sub = 1 ∧ 10000000 < v.int.toNat + s.nat O.fsync_guard) then
        some (C.range, s)
      else none)
    else if sub = 0x00 then some (s.writeProgrammeDelay k v)
    else none
  | _, _ => none

/-! ## Check 10 for every family -/

/-- A write that Lull refuses (R514): one that enables a flow or a group, or starts a lane test. -/
def State.lullRefuses (s : State) (k : Key) (v : Val) : Bool :=
  s.inLull && v.int == 1 &&
    ((k.fam == 0x3700 && 2048 ≤ k.inst && k.sub == 0) || (k.fam == 0x7000 && 4096 ≤ k.inst && k.sub == 0) ||
      (k.fam == 0x2200 && k.sub == 0x07))

/-- The rules of an object's own family; none where the write only sets the object. `over` lists the time bases of which the
same WRITE_TXN writes 1 to step_override (R358). -/
def State.familyWrite (s : State) (w : Writer) (ovr : List Nat) (k : Key) (v : Val) : Option (Nat × State) :=
  if s.lullRefuses k v then some (C.busy, s)
  else
    match k.fam with
    | 0x1010 => s.writeSession k v
    | 0x1020 => s.writePower k v
    | 0x1400 => s.writePower k v
    | 0x1100 => s.writeFaults w k v
    | 0x1200 => s.writeFirmware k v
    | 0x1300 => s.writeTwin w k v
    | 0x2000 => s.writeLanes k v
    | 0x2100 => s.writeLanes k v
    | 0x2200 => s.writeLanes k v
    | 0x2300 => s.writeLanes k v
    | 0x2400 => s.writeMesh k v
    | 0x3000 => s.writeSource k v
    | 0x3100 => s.writeDestination k v
    | 0x3200 => s.writeSwitching k v
    | 0x3300 => s.writeSwitching k v
    | 0x3400 => s.writeSwitching k v
    | 0x3500 => s.writeSwitching k v
    | 0x3600 => s.writeSdi k v
    | 0x3700 => s.writePacket k v
    | 0x7000 => if k.inst < 4096 then s.writeAnc k v else s.writeFlow k v
    | 0x3800 => s.writeComposition w k v
    | 0x3900 => s.writeComposition w k v
    | 0x3A00 => s.writeComposition w k v
    | 0x3B00 => s.writeComposition w k v
    | 0x4000 => s.writeAudio k v
    | 0x4100 => s.writeAudio k v
    | 0x4200 => s.writeAudio k v
    | 0x4300 => s.writeAudio k v
    | 0x4400 => s.writeAudio k v
    | 0x4500 => s.writeAudio k v
    | 0x5000 => s.writeTiming k v
    | 0x5100 => s.writeTiming k v
    | 0x5200 => s.writeTiming k v
    | 0x5300 => s.writeTiming k v
    | 0x5400 => s.writeTimeBase ovr k v
    | 0x5500 => s.writeTimeBase ovr k v
    | 0x5600 => s.writeTimeBase ovr k v
    | 0x5700 => s.writeTimeBase ovr k v
    | 0x6000 => s.writeInterconnect k v
    | 0x6100 => s.writeInterconnect k v
    | 0x6200 => s.writeInterconnect k v
    | _ => none

/-- The new value of an object without rules of its own, by its takes-effect rule (Table 2.3): a write-only object holds
nothing. -/
def State.plainWrite (s : State) (d : Desc) (k : Key) (v : Val) : State :=
  if d.acc = .wo then s else if d.eff = 0 then s.set k v else s.setLater k v

/-- What an accepted value does. -/
def State.applyWrite (s : State) (w : Writer) (ovr : List Nat) (d : Desc) (k : Key) (v : Val) : Nat × State :=
  match s.familyWrite w ovr k v with
  | some r => r
  | none => (0, s.plainWrite d k v)

/-- The object's accepted writes go to the twin (R39, R419); an image goes by its own item, and a time that is set as its step
(R358). -/
def State.writeGoesOn (s : State) (k : Key) : Bool :=
  s.mirroring && s.mirrored k && !(k.fam == 0x3900 && k.inst < 2048 && k.sub == 0x15) && !(k.fam == 0x5400 && k.sub == 0x15)

/-- Checks 8 to 10, and the write itself: the code, and the state, which a refusal leaves as it was but for the index that a
refused take list leaves (R137). -/
def State.putValue (s : State) (w : Writer) (ovr : List Nat) (k : Key) (v : Val) : Nat × State :=
  match descOf k with
  | none => (C.range, s)
  | some d =>
    if !(tyFits d.ty v && d.rng.holds v) then (C.range, s)
    else if d.acc = .rwi ∧ !s.unitIdle k then (C.busy, s)
    else
      match s.applyWrite w ovr d k v with
      | (0, s1) => if s.writeGoesOn k then (0, ((s.mirror (.write k v)).applyWrite w ovr d k v).2) else (0, s1)
      | (c, s1) => (c, if k.fam = 0x3300 ∧ k.sub = 0x03 then s1 else s)

/-- One object written, by checks 1 to 5 and 7 to 10 of R538 (check 6 concerns a record's type code). -/
def State.writeObject (s : State) (w : Writer) (ovr : List Nat) (k : Key) (v : Val) : Nat × State :=
  match s.judgeWrite w k with
  | 0 => if s.lockedHere k ∧ w.slot ≠ 0 then (C.locked, s) else s.putValue w ovr k v
  | c => (c, s)

end Sys2Proof.Machine
end

