-- ==== Sys2Proof/Machine/WriterCommands.lean ====
section
/-! DEFINITION. The commands that write one object: the write path of Machine/Write.lean on the object that each command names,
with the verdict as its result (R37, R538). -/

namespace Sys2Proof.Machine

/-- One object record written by a party, the verdict sent; before Ready nothing is written (R50). Sessions whose role key the
write replaces close after its verdict (R57). -/
def State.command (s : State) (w : Writer) (ovr : List Nat) (k : Key) (v : Val) : State :=
  if s.ready then
    let r := s.writeObject w ovr k v
    (r.2.emit (.result k r.1)).endRekeyed
  else s.emit (.result k C.notReady)

/-- A command that writes one object. -/
def writeCommand (t : Nat) (w : Writer) (k : Key) (v : Val) (s0 : State) : Host.Outcome State Fault Refusal :=
  done s0 ((s0.advance t).command w [] k v)

/-- GENERIC_OBJECT_WRITE (R37): any object written. -/
def execGenericObjectWrite (t : Nat) (w : Writer) (k : Key) (v : Val) (s0 : State) : Host.Outcome State Fault Refusal :=
  writeCommand t w k v s0

/-- SESSION_CLOSE (R540): 1 written to the close object of a session slot. -/
def execSessionClose (t : Nat) (w : Writer) (slot : Nat) (s0 : State) : Host.Outcome State Fault Refusal :=
  writeCommand t w (O.slot_close slot) (.n 1) s0

/-- KEY_WRITE (R57): the key of a role is written; sessions open under the old one close. -/
def execKeyWrite (t : Nat) (w : Writer) (role : Nat) (key : Bytes) (s0 : State) : Host.Outcome State Fault Refusal :=
  writeCommand t w ⟨0x1010, 0, 5 + role⟩ (.b key) s0

/-- TAKE_CANCEL (R129): 1 written to the cancel object of a take slot. -/
def execTakeCancel (t : Nat) (w : Writer) (slot : Nat) (s0 : State) : Host.Outcome State Fault Refusal :=
  writeCommand t w (O.take_cancel slot) (.n 1) s0

/-- TAKE_LIST_WRITE (R137): the take list of a salvo slot is written. -/
def execTakeListWrite (t : Nat) (w : Writer) (slot : Nat) (list : Bytes) (s0 : State) : Host.Outcome State Fault Refusal :=
  writeCommand t w (O.salvo_take_list slot) (.b list) s0

/-- SALVO_RELEASE (R151): 1 written to the release object of a salvo slot. -/
def execSalvoRelease (t : Nat) (w : Writer) (slot : Nat) (s0 : State) : Host.Outcome State Fault Refusal :=
  writeCommand t w (O.salvo_release slot) (.n 1) s0

/-- HINT_ENABLE (R170). -/
def execHintEnable (t : Nat) (w : Writer) (inst : Nat) (on : Bool) (s0 : State) : Host.Outcome State Fault Refusal :=
  writeCommand t w (O.hint_enable inst) (.n (b01 on)) s0

/-- REOPTIMISE (R171). -/
def execReoptimise (t : Nat) (w : Writer) (s0 : State) : Host.Outcome State Fault Refusal :=
  writeCommand t w O.placer_reoptimise (.n 1) s0

/-- RECIRC_WRITE (R193): the destination that a recirculated source carries. -/
def execRecircWrite (t : Nat) (w : Writer) (x dst : Nat) (s0 : State) : Host.Outcome State Fault Refusal :=
  writeCommand t w (O.src_recirc_of x) (.n dst) s0

/-- FLOW_ENABLE (R225). -/
def execFlowEnable (t : Nat) (w : Writer) (fam inst : Nat) (on : Bool) (s0 : State) : Host.Outcome State Fault Refusal :=
  writeCommand t w (O.flow_enable fam inst) (.n (b01 on)) s0

/-- GROUP_ENABLE (R227). -/
def execGroupEnable (t : Nat) (w : Writer) (inst : Nat) (on : Bool) (s0 : State) : Host.Outcome State Fault Refusal :=
  writeCommand t w (O.grp_enable inst) (.n (b01 on)) s0

/-- AUDIO_CHANNELS_WRITE (R228). -/
def execAudioChannelsWrite (t : Nat) (w : Writer) (inst count : Nat) (s0 : State) : Host.Outcome State Fault Refusal :=
  writeCommand t w (O.aflow_channels 0x3700 inst) (.n count) s0

/-- HEAD_CLASS_WRITE (R256). -/
def execHeadClassWrite (t : Nat) (w : Writer) (head cls : Nat) (s0 : State) : Host.Outcome State Fault Refusal :=
  writeCommand t w (O.head_class head) (.n cls) s0

/-- HEAD_PORT_BIND (R258). -/
def execHeadPortBind (t : Nat) (w : Writer) (head port : Nat) (s0 : State) : Host.Outcome State Fault Refusal :=
  writeCommand t w (O.head_out_port head) (.n port) s0

/-- SCALER_PAIR_WRITE (R268). -/
def execScalerPairWrite (t : Nat) (w : Writer) (scaler other : Nat) (s0 : State) : Host.Outcome State Fault Refusal :=
  writeCommand t w (O.scaler_pair_with scaler) (.n other) s0

/-- LAYER_COMMIT (R270). -/
def execLayerCommit (t : Nat) (w : Writer) (layer : Nat) (s0 : State) : Host.Outcome State Fault Refusal :=
  writeCommand t w (O.layer_commit layer) (.n 1) s0

/-- FENCE_RAISE (R272). -/
def execFenceRaise (t : Nat) (w : Writer) (fence value : Nat) (s0 : State) : Host.Outcome State Fault Refusal :=
  writeCommand t w (O.fence_value fence) (.n value) s0

/-- FENCE_RESET (R272). -/
def execFenceReset (t : Nat) (w : Writer) (fence : Nat) (s0 : State) : Host.Outcome State Fault Refusal :=
  writeCommand t w (O.fence_reset fence) (.n 1) s0

/-- GROUP_JOIN (R273). -/
def execGroupJoin (t : Nat) (w : Writer) (layer group : Nat) (s0 : State) : Host.Outcome State Fault Refusal :=
  writeCommand t w (O.layer_group layer) (.n group) s0

/-- GROUP_COMMIT (R273). -/
def execGroupCommit (t : Nat) (w : Writer) (group : Nat) (s0 : State) : Host.Outcome State Fault Refusal :=
  writeCommand t w (O.cgroup_commit group) (.n 1) s0

/-- LAYER_CLAIM (R275): the writing session claims the layer. -/
def execLayerClaim (t : Nat) (w : Writer) (layer : Nat) (s0 : State) : Host.Outcome State Fault Refusal :=
  writeCommand t w (O.layer_claim layer) (.n 1) s0

/-- LAYER_TO_RENDERER (R275). -/
def execLayerToRenderer (t : Nat) (w : Writer) (layer : Nat) (s0 : State) : Host.Outcome State Fault Refusal :=
  writeCommand t w (O.layer_claim layer) (.n 2) s0

/-- LAYER_RELEASE (R275). -/
def execLayerRelease (t : Nat) (w : Writer) (layer : Nat) (s0 : State) : Host.Outcome State Fault Refusal :=
  writeCommand t w (O.layer_claim layer) (.n 3) s0

/-- IMAGE_WRITE (R277). -/
def execImageWrite (t : Nat) (w : Writer) (layer : Nat) (image : Bytes) (s0 : State) : Host.Outcome State Fault Refusal :=
  writeCommand t w (O.layer_image layer) (.b image) s0

/-- ELEMENTS_WRITE (R278). -/
def execElementsWrite (t : Nat) (w : Writer) (layer : Nat) (elements : Bytes) (s0 : State) : Host.Outcome State Fault Refusal :=
  writeCommand t w (O.layer_elements layer) (.b elements) s0

/-- AUDIO_LEVEL_WRITE (R290): gain, mute or polarity. -/
def execAudioLevelWrite (t : Nat) (w : Writer) (d sub : Nat) (v : Int) (s0 : State) : Host.Outcome State Fault Refusal :=
  writeCommand t w ⟨0x4100, d, sub⟩ (.n v) s0

/-- AUDIO_DELAY_WRITE (R290). -/
def execAudioDelayWrite (t : Nat) (w : Writer) (d us : Nat) (s0 : State) : Host.Outcome State Fault Refusal :=
  writeCommand t w (O.adest_delay d) (.n us) s0

/-- START_ARM (R299). -/
def execStartArm (t : Nat) (w : Writer) (s0 : State) : Host.Outcome State Fault Refusal :=
  writeCommand t w O.sapAll_arm (.n 1) s0

/-- START_DISARM (R299). -/
def execStartDisarm (t : Nat) (w : Writer) (s0 : State) : Host.Outcome State Fault Refusal :=
  writeCommand t w O.sapAll_arm (.n 0) s0

/-- SAP_RUN_WRITE (R300). -/
def execSapRunWrite (t : Nat) (w : Writer) (dir : Nat) (run : Bool) (s0 : State) : Host.Outcome State Fault Refusal :=
  writeCommand t w (O.sap_run dir) (.n (b01 run)) s0

/-- LOUDNESS_ENABLE (R305). -/
def execLoudnessEnable (t : Nat) (w : Writer) (g : Nat) (on : Bool) (s0 : State) : Host.Outcome State Fault Refusal :=
  writeCommand t w (O.loud_enable g) (.n (b01 on)) s0

/-- LOUDNESS_RESET (R306). -/
def execLoudnessReset (t : Nat) (w : Writer) (g : Nat) (s0 : State) : Host.Outcome State Fault Refusal :=
  writeCommand t w (O.loud_reset g) (.n 1) s0

/-- FORCE_ENTRY_WRITE (R321). -/
def execForceEntryWrite (t : Nat) (w : Writer) (d e : Nat) (s0 : State) : Host.Outcome State Fault Refusal :=
  writeCommand t w (O.dpll_force_entry d) (.n e) s0

/-- DPLL_MODE_WRITE (R325): mode, frequency, followed DPLL or ratio. -/
def execDpllModeWrite (t : Nat) (w : Writer) (d sub v : Nat) (s0 : State) : Host.Outcome State Fault Refusal :=
  writeCommand t w ⟨0x5100, d, sub⟩ (.n v) s0

/-- STEER_WRITE (R328). -/
def execSteerWrite (t : Nat) (w : Writer) (d : Nat) (v : Int) (s0 : State) : Host.Outcome State Fault Refusal :=
  writeCommand t w (O.dpll_steer d) (.n v) s0

/-- EPOCH_ARM (R334). -/
def execEpochArm (t : Nat) (w : Writer) (d : Nat) (s0 : State) : Host.Outcome State Fault Refusal :=
  writeCommand t w (O.dpll_epoch_arm d) (.n 1) s0

/-- EPOCH_DISARM (R334). -/
def execEpochDisarm (t : Nat) (w : Writer) (d : Nat) (s0 : State) : Host.Outcome State Fault Refusal :=
  writeCommand t w (O.dpll_epoch_arm d) (.n 0) s0

/-- CKO_ENABLE (R337). -/
def execCkoEnable (t : Nat) (w : Writer) (o : Nat) (s0 : State) : Host.Outcome State Fault Refusal :=
  writeCommand t w (O.cko_enable o) (.n 1) s0

/-- CKO_DISABLE (R337). -/
def execCkoDisable (t : Nat) (w : Writer) (o : Nat) (s0 : State) : Host.Outcome State Fault Refusal :=
  writeCommand t w (O.cko_enable o) (.n 0) s0

/-- PHASE_OFFSET_WRITE (R335). -/
def execPhaseOffsetWrite (t : Nat) (w : Writer) (o : Nat) (v : Int) (s0 : State) : Host.Outcome State Fault Refusal :=
  writeCommand t w (O.cko_phase_offset o) (.n v) s0

/-- SWP_ENABLE (R339). -/
def execSwpEnable (t : Nat) (w : Writer) (n : Nat) (on : Bool) (s0 : State) : Host.Outcome State Fault Refusal :=
  writeCommand t w (O.swp_enable n) (.n (b01 on)) s0

/-- JUMP_ACCEPT (R357). -/
def execJumpAccept (t : Nat) (w : Writer) (tb : Nat) (s0 : State) : Host.Outcome State Fault Refusal :=
  writeCommand t w (O.tb_jump_accept tb) (.n 1) s0

/-- JUMP_WITHDRAW (R357). -/
def execJumpWithdraw (t : Nat) (w : Writer) (tb : Nat) (s0 : State) : Host.Outcome State Fault Refusal :=
  writeCommand t w (O.tb_jump_accept tb) (.n 0) s0

/-- LAUNCH_REQUEST (R364). -/
def execLaunchRequest (t : Nat) (w : Writer) (req : Bytes) (s0 : State) : Host.Outcome State Fault Refusal :=
  writeCommand t w O.launch_request (.b req) s0

/-- TS_QUEUE_RELEASE (R362). -/
def execTsQueueRelease (t : Nat) (w : Writer) (tb seq : Nat) (s0 : State) : Host.Outcome State Fault Refusal :=
  writeCommand t w (O.tsq_release tb) (.n seq) s0

/-- TS_OVERFLOW_CLEAR (R362). -/
def execTsOverflowClear (t : Nat) (w : Writer) (tb : Nat) (s0 : State) : Host.Outcome State Fault Refusal :=
  writeCommand t w (O.tsq_clear_overflow tb) (.n 1) s0

/-- PORT_KIND_WRITE (R18). -/
def execPortKindWrite (t : Nat) (w : Writer) (p kind : Nat) (s0 : State) : Host.Outcome State Fault Refusal :=
  writeCommand t w (O.port_kind p) (.n kind) s0

/-- LANE_SET_ACTIVE (R384). -/
def execLaneSetActive (t : Nat) (w : Writer) (l : Nat) (s0 : State) : Host.Outcome State Fault Refusal :=
  writeCommand t w (O.lane_state l) (.n 0) s0

/-- LANE_SET_IDLE (R383). -/
def execLaneSetIdle (t : Nat) (w : Writer) (l : Nat) (s0 : State) : Host.Outcome State Fault Refusal :=
  writeCommand t w (O.lane_state l) (.n 1) s0

/-- LANE_SET_DORMANT (R383). -/
def execLaneSetDormant (t : Nat) (w : Writer) (l : Nat) (s0 : State) : Host.Outcome State Fault Refusal :=
  writeCommand t w (O.lane_state l) (.n 2) s0

/-- EQ_RESTART (R378). -/
def execEqRestart (t : Nat) (w : Writer) (l : Nat) (s0 : State) : Host.Outcome State Fault Refusal :=
  writeCommand t w (O.eq_restart l) (.n 1) s0

/-- LANE_TEST_START (R387). -/
def execLaneTestStart (t : Nat) (w : Writer) (l : Nat) (s0 : State) : Host.Outcome State Fault Refusal :=
  writeCommand t w (O.ltest_start l) (.n 1) s0

/-- LANE_TEST_STOP (R389). -/
def execLaneTestStop (t : Nat) (w : Writer) (l : Nat) (s0 : State) : Host.Outcome State Fault Refusal :=
  writeCommand t w (O.ltest_stop l) (.n 1) s0

/-- LANE_TEST_FINISH (R389). -/
def execLaneTestFinish (t : Nat) (w : Writer) (l : Nat) (s0 : State) : Host.Outcome State Fault Refusal :=
  writeCommand t w (O.ltest_finish l) (.n 1) s0

/-- INJECT_SINGLE (R390). -/
def execInjectSingle (t : Nat) (w : Writer) (l : Nat) (s0 : State) : Host.Outcome State Fault Refusal :=
  writeCommand t w (O.ltest_inject_single l) (.n 1) s0

/-- INJECT_BURST (R390). -/
def execInjectBurst (t : Nat) (w : Writer) (l n : Nat) (s0 : State) : Host.Outcome State Fault Refusal :=
  writeCommand t w (O.ltest_inject_burst l) (.n n) s0

/-- MESH_LINK_ADMIN (R396). -/
def execMeshLinkAdmin (t : Nat) (w : Writer) (l : Nat) (up : Bool) (s0 : State) : Host.Outcome State Fault Refusal :=
  writeCommand t w (O.mlink_admin (1 + l)) (.n (b01 up)) s0

/-- PLAN_WRITE (R405). -/
def execPlanWrite (t : Nat) (w : Writer) (plan : Bytes) (s0 : State) : Host.Outcome State Fault Refusal :=
  writeCommand t w O.mesh_plan (.b plan) s0

/-- HANDOVER_REQUEST (R433). -/
def execHandoverRequest (t : Nat) (w : Writer) (s0 : State) : Host.Outcome State Fault Refusal :=
  writeCommand t w O.twin_handover (.n 1) s0

/-- HANDOVER_ABORT (R435). -/
def execHandoverAbort (t : Nat) (w : Writer) (s0 : State) : Host.Outcome State Fault Refusal :=
  writeCommand t w O.twin_handover_abort (.n 1) s0

/-- FAULT_CLEAR (R448). -/
def execFaultClear (t : Nat) (w : Writer) (src : Nat) (s0 : State) : Host.Outcome State Fault Refusal :=
  writeCommand t w (O.fsrc_clear (src + 1)) (.n 1) s0

/-- FAULT_CLEAR_ALL (R449). -/
def execFaultClearAll (t : Nat) (w : Writer) (s0 : State) : Host.Outcome State Fault Refusal :=
  writeCommand t w O.fault_clear_all (.n 1) s0

/-- AUTO_CLEAR_WRITE (R448). -/
def execAutoClearWrite (t : Nat) (w : Writer) (src : Nat) (on : Bool) (s0 : State) : Host.Outcome State Fault Refusal :=
  writeCommand t w (O.fsrc_auto_clear (src + 1)) (.n (b01 on)) s0

/-- REACTIONS_WRITE (R441). -/
def execReactionsWrite (t : Nat) (w : Writer) (src set : Nat) (s0 : State) : Host.Outcome State Fault Refusal :=
  writeCommand t w (O.fsrc_reactions (src + 1)) (.n set) s0

/-- FIRST_RECORD_REARM (R454). -/
def execFirstRecordRearm (t : Nat) (w : Writer) (s0 : State) : Host.Outcome State Fault Refusal :=
  writeCommand t w O.fault_rearm (.n 1) s0

/-- UNIT_INCLUDE (R456). -/
def execUnitInclude (t : Nat) (w : Writer) (entry : Bytes) (s0 : State) : Host.Outcome State Fault Refusal :=
  writeCommand t w O.fault_include (.b entry) s0

/-- INJECT_ARM (R459). -/
def execInjectArm (t : Nat) (w : Writer) (s0 : State) : Host.Outcome State Fault Refusal :=
  writeCommand t w O.fault_inject_arm (.n 1) s0

/-- INJECT_DISARM (R459). -/
def execInjectDisarm (t : Nat) (w : Writer) (s0 : State) : Host.Outcome State Fault Refusal :=
  writeCommand t w O.fault_inject_arm (.n 0) s0

/-- IC_PRIORITY_WRITE (R476). -/
def execIcPriorityWrite (t : Nat) (w : Writer) (init : Nat) (prios : Bytes) (s0 : State) : Host.Outcome State Fault Refusal :=
  writeCommand t w (O.ini_priorities (1 + init)) (.b prios) s0

/-- OFFER_MANIFEST (R488). -/
def execOfferManifest (t : Nat) (w : Writer) (manifest : Bytes) (s0 : State) : Host.Outcome State Fault Refusal :=
  writeCommand t w O.fw_offer_manifest (.b manifest) s0

/-- PART_WRITE (R489). -/
def execPartWrite (t : Nat) (w : Writer) (part : Nat) (data : Bytes) (s0 : State) : Host.Outcome State Fault Refusal :=
  writeCommand t w (O.part_data (1 + part)) (.b data) s0

/-- CADDY_DISCARD (R489). -/
def execCaddyDiscard (t : Nat) (w : Writer) (s0 : State) : Host.Outcome State Fault Refusal :=
  writeCommand t w O.fw_discard (.n 1) s0

/-- COPY_ABORT (R492). -/
def execCopyAbort (t : Nat) (w : Writer) (s0 : State) : Host.Outcome State Fault Refusal :=
  writeCommand t w O.fw_copy_abort (.n 1) s0

/-- KEY_REVOKE (R486). -/
def execKeyRevoke (t : Nat) (w : Writer) (slot : Nat) (s0 : State) : Host.Outcome State Fault Refusal :=
  writeCommand t w (O.kslot_revoke (32 + slot)) (.n 1) s0

/-- ACTIVATION_WRITE (R493). -/
def execActivationWrite (t : Nat) (w : Writer) (act : Bytes) (s0 : State) : Host.Outcome State Fault Refusal :=
  writeCommand t w O.fw_activation (.b act) s0

/-- ACTIVATION_ABORT (R495). -/
def execActivationAbort (t : Nat) (w : Writer) (s0 : State) : Host.Outcome State Fault Refusal :=
  writeCommand t w O.fw_activation_abort (.n 1) s0

/-- RESTART_HANDOVER (R513). -/
def execRestartHandover (t : Nat) (w : Writer) (s0 : State) : Host.Outcome State Fault Refusal :=
  writeCommand t w O.bring_restart (.n 1) s0

/-- RESTART_NOW (R513). -/
def execRestartNow (t : Nat) (w : Writer) (s0 : State) : Host.Outcome State Fault Refusal :=
  writeCommand t w O.bring_restart (.n 2) s0

/-- RESTART_WITH_COPY (R513). -/
def execRestartWithCopy (t : Nat) (w : Writer) (s0 : State) : Host.Outcome State Fault Refusal :=
  writeCommand t w O.bring_restart (.n 3) s0

/-- LULL_ENTER (R514). -/
def execLullEnter (t : Nat) (w : Writer) (s0 : State) : Host.Outcome State Fault Refusal :=
  writeCommand t w O.pow_lull (.n 1) s0

/-- LULL_WAKE_WRITE (R516). -/
def execLullWakeWrite (t : Nat) (w : Writer) (s0 : State) : Host.Outcome State Fault Refusal :=
  writeCommand t w O.pow_lull (.n 0) s0

/-- TIME_SET (R358): where the same WRITE_TXN writes 1 to step_override, that record is accepted first. -/
def execTimeSet (t : Nat) (w : Writer) (tb reading : Nat) (override : Bool) (s0 : State) : Host.Outcome State Fault Refusal :=
  done s0 ((s0.advance t).command w (if override then [tb] else []) (O.tb_time_set tb) (.n reading))

end Sys2Proof.Machine
end

