-- ==== Sys2Proof/Machine/Mirroring.lean ====
section
/-! DEFINITION. What a chip does with the items that cross the twin link (R166, R349, R415, R419 to R421): the standby follows its
primary's writes, placements, decisions and times, and the primary takes up the standby's reports. -/

namespace Sys2Proof.Machine

/-- The party that writes for the primary's mirror: it holds no session, and no role or ownership bars it (R61, R276). -/
def mirrorWriter : Writer := ⟨4, 0, 0⟩

/-- A mirrored write: by the object's own rules, and where this chip's state does not allow it the value alone, since the primary's
mirror wins (R415). -/
def State.mirrorWrite (s : State) (k : Key) (v : Val) : State :=
  let s1 := match s.writeObject mirrorWriter [] k v with
    | (0, st) => st
    | _ => (match descOf k with | some d => s.plainWrite d k v | none => s)
  if s1.nat O.twin_mirror_state = 2 then { s1 with twin := { s1.twin with caught := k :: s1.twin.caught.filter (fun x => x ≠ k) } }
  else s1

/-! ## Placements -/

/-- The destination of a placement. -/
def dstOf (i : Nat) : Dst := ⟨essOf (idEss i), idIdx i⟩

/-- The record on its way to a destination that the primary's placement concerns: one that waits for it, or one that holds it and has
not armed. -/
def State.mirrorTake (s : State) (pl : Placement) : Option TakeRec :=
  match s.sw.takes.find? (fun r => r.dst = dstOf pl.dst ∧ r.pl = some pl ∧ r.state ≠ 4) with
  | some r => some r
  | none => s.sw.takes.find? (fun r => r.dst = dstOf pl.dst ∧ r.pl.isNone ∧ r.src = pl.src)

/-- The placement is made here: given to the salvo entry that waits for it, or to a record of its own, and a record that has not armed
gives way to it (R113). The record that holds it is answered with the state. -/
def State.mirrorPlace (s : State) (pl : Placement) : State × Nat :=
  match s.mirrorTake pl with
  | some r => (s.modTake r.num (fun r => { r with pl := some pl, state := 3 }), r.num)
  | none =>
    let d := dstOf pl.dst
    let gone := s.sw.takes.filter (fun r => r.dst = d ∧ r.state ≠ 4 ∧ r.part.isNone)
    let s1 := gone.foldl (fun st r => st.dropTake r.num) s
    let n := s1.placer.nextNum
    let rec' : TakeRec := ⟨n, 0, d, pl.src, 0, false, false, none, none, none, 3, some pl, none, none⟩
    ({ s1 with sw := { s1.sw with takes := s1.sw.takes ++ [rec'] }, placer := { s1.placer with nextNum := n + 1 } }, n)

/-- The destination's next frame is left out of comparison (R420, R421). -/
def State.skipFrame (s : State) (d : Dst) : State :=
  if d.ess ≠ .video ∨ s.twin.skip.contains d.idx then s else { s with twin := { s.twin with skip := s.twin.skip ++ [d.idx] } }

/-- The record of a placement arms for the primary's switch instant; one that arrives late switches at its next eligible instant
(R420). A salvo entry's part is poured with it. -/
def State.mirrorArm (s : State) (num at' : Nat) : State :=
  match s.takeOf num with
  | none => s
  | some r =>
    match r.pl with
    | none => s
    | some pl =>
      let late : Bool := at' ≤ s.tbNow (s.beat r.dst).tb + s.delayOf r.dst pl
      let scaler : Bool := r.dst.ess == .video && 3072 ≤ r.dst.idx
      let s1 := s.modTake num (fun r => { r with
        state := 4, switchAt := if scaler then none else some (if late then s.switchInstantFor { r with inst := none } pl else at') })
      let s2 := match r.part with
        | some (c, k, _) => s1.modPart c k (fun p => { p with state := 2 })
        | none => s1
      if late && !scaler then s2.skipFrame r.dst else s2

/-- The route that a placement describes is in force already. -/
def State.routeStands (s : State) (pl : Placement) : Bool :=
  match s.route (dstOf pl.dst) with | some r => r.pl == pl && !r.lost | none => false

/-- A placement of the primary (R166, R419): with a switch instant it arms. The second item of a take to a scaler, whose switch has no
instant of its own, arms it (R104). -/
def State.mirrorPlacement (s : State) (pl : Placement) (at' : Nat) : State :=
  let s0 : State := if s.nat O.twin_mirror_state = 2 then
      { s with twin := { s.twin with caughtDst := pl.dst :: s.twin.caughtDst.filter (fun x => x ≠ pl.dst) } }
    else s
  let known : Bool := s0.sw.takes.any (fun r => r.dst = dstOf pl.dst ∧ r.pl = some pl ∧ r.state ≠ 4)
  let scaler : Bool := idEss pl.dst == 0 && 3072 ≤ idIdx pl.dst
  if at' = 1 && s0.routeStands pl then s0
  else
    let x := s0.mirrorPlace pl
    if at' ≠ 0 ∨ (scaler ∧ known) then x.1.mirrorArm x.2 at' else x.1

/-- A take, a part or a placement is released before it armed (R162). -/
def State.mirrorRelease (s : State) (dst : Nat) : State :=
  match (s.sw.takes.filter (fun r => r.dst = dstOf dst ∧ r.state ≠ 4)).getLast? with
  | some r => (s.dropTake r.num).sweep
  | none => s

/-- A store that the primary has booked is booked here (R166). -/
def State.mirrorStore (s : State) (x : StoreRec) (deepens : Option Nat) : State :=
  let s1 : State := if (s.storeOf x.i).isSome then s else { s with sw := { s.sw with stores := s.sw.stores ++ [x] } }
  match deepens with | some i => s1.markDeepening (i, x.i) | none => s1

/-! ## Salvos, decisions, time -/

/-- The pour decision of this pair's coordinator reaches its twin (R142): it holds the salvo as poured, and its own part is poured. -/
def State.mirrorPour (s : State) (slot gen e tb : Nat) : State :=
  let pairs := nub ((s.salvoEntries slot).map (fun x => idChip (s.normId x.dst)))
  let x : Salvo := ⟨slot, gen, false, 0, e, 0, tb, s.now, pairs.map (fun q => (q, 1)), none, []⟩
  let s1 : State := { s with salvos := { s.salvos with
    own := s.salvos.own.filter (fun y => y.slot ≠ slot) ++ [x],
    kept := kput s.salvos.kept slot (s.now + (e - s.tbNow tb) + 60 * nsPerSec) } }
  let s2 := ((s1.setN (O.salvo_state slot) 4).setN (O.salvo_execution_time slot) e).setN (O.salvo_time_base slot) tb
  (s2.salvos.parts.filter (fun p => p.slot = slot ∧ pairOf p.coord = s.pairId)).foldl (fun st p => st.pourPart p.coord slot e tb) s2

/-- A salvo of this pair's coordinator has been dropped: its twin drops its part (R144). -/
def State.mirrorDrop (s : State) (slot cause : Nat) : State :=
  let ps := s.salvos.parts.filter (fun p => p.slot = slot ∧ pairOf p.coord = s.pairId ∧ p.state ≠ 2)
  (ps.foldl (fun st p => st.dropPart p.coord p.slot) s).setN (O.salvo_drop_cause slot) cause

/-- A part that the primary holds, held here too (R139, R143). -/
def State.mirrorPart (s : State) (slot gen coord : Nat) (entries : List (TakeEntry × Nat)) : State :=
  if (s.part coord slot).isSome then s else s.makePart coord slot gen entries

/-- A read decision of the primary (R421): of a store's reader, or of a head's layer (4 096 and more). -/
def State.mirrorRead (s : State) (d frame : Nat) : State :=
  if d < 4096 then s.putRead { s.readRec d with told := some frame }
  else { s with comp := { s.comp with told := kput s.comp.told (d - 4096) frame } }

/-- The turn of a scaler pair (R269, R421). -/
def State.mirrorTurn (s : State) (n : Nat) : State :=
  let s1 := s.putScaler { s.scalerRec n with writing := true, passed := false, wroteAt := s.now }
  match s1.pairWith n with
  | some m => s1.putScaler { s1.scalerRec m with writing := false }
  | none => s1

/-- A step of the primary's by itself (R358): the time base steps by as much, and the next frames of its destinations are left out of
comparison. -/
def State.mirrorStep (s : State) (tb : Nat) (delta : Int) : State :=
  if 4 ≤ tb then s
  else
    let s1 := s.stepTb tb delta
    (s1.sw.routes.filter (fun r => r.dst.ess = .video ∧ (s1.beat r.dst).tb = tb)).foldl (fun st r => st.skipFrame r.dst) s1

/-- The primary's reading of a time base, and its pending step (R349). -/
def State.mirrorOffset (s : State) (tb reading : Nat) (pending : Int) : State :=
  if 4 ≤ tb then s
  else
    let s1 := (s.modTb tb (fun b => { b with base := reading, at' := s.now, corr := 0, slew := 0 })).setI (O.tb_jump_pending tb) pending
    let js := s1.nat (O.tb_jump_state tb)
    if pending ≠ 0 ∧ js ≠ 1 ∧ js ≠ 2 then s1.setN (O.tb_jump_state tb) 1
    else if pending = 0 ∧ (js = 1 ∨ js = 2) then s1.setN (O.tb_jump_state tb) 0
    else s1

/-- A DPLL's holdover model, and the frequency that a DPLL locked to its twin entry runs at (R318, R331). -/
def State.mirrorDpll (s : State) (k : Nat) (freq model : Int) (valid : Bool) : State :=
  if 4 ≤ k then s
  else
    let s1 := (s.setI (O.dpll_holdover_model k) model).setF (O.dpll_model_valid k) valid
    let e := s.nat (O.dpll_selected k)
    if e ≠ none8 ∧ s.nat (O.ref_source (1 + e)) = 5 ∧ s.nat (O.dpll_state k) = 1 then s1.setI (O.dpll_frequency_now k) freq else s1

/-- The image buffers of a marked layer (R415). -/
def State.mirrorBuffers (s : State) (layer : Nat) (front back : List Bytes) (palette : Bytes) : State :=
  let rect (b : Bytes) : Option ImageRect := match s.judgeImage layer b with | .ok (r, _) => some r | .error _ => none
  s.putImage ⟨layer, front.filterMap rect, back.filterMap rect, palette⟩

/-- What the standby does with one item (Table 16.2). -/
def State.followItem (s : State) (i : MirrorItem) : State :=
  match i with
  | .write k v => s.mirrorWrite k v
  | .place p at' => (s.mirrorPlacement p at').reviewMembers
  | .release dst => s.mirrorRelease dst
  | .store i purpose src fmt smp stack depth wt rt stripes deepens =>
    s.mirrorStore ⟨i, 1, purpose, src, fmt, smp, stack, depth, [], 0, none, wt, rt, stripes, none⟩ deepens
  | .asrc ch slice dst src => if s.placer.asrc.any (fun a => a.ch = ch) then s else s.takeAsrc [⟨ch, slice, dst, src⟩]
  | .hbm fam inst stack mbps bytes =>
    { s with placer := { s.placer with hbm := s.placer.hbm.filter (fun b => ¬(b.fam = fam ∧ b.inst = inst)) ++
        [⟨fam, inst, stack, mbps, bytes⟩] } }
  | .alloc scaler pixels => s.setN (O.scaler_allocation scaler) pixels
  | .pour slot gen e tb => s.mirrorPour slot gen e tb
  | .salvoDrop slot cause => s.mirrorDrop slot cause
  | .part slot gen coord entries => s.mirrorPart slot gen coord entries
  | .readDecision d frame => s.mirrorRead d frame
  | .turn n => s.mirrorTurn n
  | .step tb delta => s.mirrorStep tb delta
  | .tbOffset tb reading pending => s.mirrorOffset tb reading pending
  | .portState p st => if 1 ≤ p ∧ p ≤ 1025 then s.setN (O.ptp_port_state p) st else s
  | .dpll k freq model valid => s.mirrorDpll k freq model valid
  | .image l data => (s.writeImage l data).2
  | .buffers l front back palette => s.mirrorBuffers l front back palette
  | .exclusion kind unit => s.exclude kind unit
  | .barometer .. => s

/-- What the primary does with an item of the standby's: its report is kept, and where a standby leaves safe state after a halt,
catch-up begins (R415, R427, R432). -/
def State.hearStandby (s : State) (i : MirrorItem) : State :=
  match i with
  | .barometer ready safe findings =>
    let was : Bool := match s.twin.report with | some r => r.ready && !r.safe | none => false
    let s1 : State := { s with twin := { s.twin with report := some ⟨ready, safe, findings⟩ } }
    let ms := s.nat O.twin_mirror_state
    if ready && !safe && s.linkIsUp && (ms == 3 || (ms == 2 && !was && s.twin.report.isSome)) then s1.beginCatchUp else s1
  | .exclusion kind unit => if s.exclusions.contains (kind, unit) then s else s.exclude kind unit
  | _ => s

/-- MIRROR_ITEM_RX (R419, R420): the standby applies an item while mirroring is under way, and acknowledges it by its number. -/
def State.mirrorItem (s : State) (seq : Nat) (i : MirrorItem) : State :=
  if s.primary then s.hearStandby i
  else if s.standby ∧ s.linkIsUp ∧ (s.nat O.twin_mirror_state = 1 ∨ s.nat O.twin_mirror_state = 2) then
    let s1 := s.followItem i
    if seq = 0 then s1 else s1.emit (.mirrorAck seq)
  else s

/-! ## The end of a catch-up (R415) -/

/-- The mirrored objects of this chip that the primary has not sent: the primary holds them at their defaults. -/
def State.uncaught (s : State) : List Key :=
  ((s.objs.map (fun e => e.1)).filter (fun k => s.mirrored k && !s.twin.caught.contains k))

/-- The standby discards its own values for what the primary does not hold (R415). -/
def State.discardOwn (s : State) : State :=
  let s1 := s.uncaught.foldl (fun st k => st.mirrorWrite k (dflt k)) s
  let s2 : State := { s1 with sw := { s1.sw with routes := s1.sw.routes.filter (fun r => r.follows || s.twin.caughtDst.contains r.pl.dst) } }
  ({ s2 with twin := { s2.twin with caught := [], caughtDst := [] } } : State).sweep.reviewLost

/-- CATCH_UP_COMPLETE (R415): the mirror is current. -/
def State.catchUpDone (s : State) : State :=
  if s.nat O.twin_mirror_state ≠ 2 then s
  else
    let s1 := if s.standby then s.discardOwn else s
    ((s1.setN O.twin_mirror_state 1).setN O.twin_twin_state 4).endFault F.catchingUp

/-- MIRROR_ITEM_RX (R419). -/
def execMirrorItemRx (t : Nat) (seq : Nat) (item : MirrorItem) (s0 : State) : Host.Outcome State Fault Refusal :=
  done s0 (((s0.advance t).mirrorItem seq item).reviewDones)

/-- CATCH_UP_COMPLETE (R415). -/
def execCatchUpComplete (t : Nat) (s0 : State) : Host.Outcome State Fault Refusal :=
  done s0 ((s0.advance t).catchUpDone)

end Sys2Proof.Machine
end

