-- ==== Sys2Proof/Machine/Bringup.lean ====
section
/-! DEFINITION. The dictionary load of bring-up and the entry into Ready (R147, R422, R432, R453, R497, R501, R509 to R512): what a
start takes from the settings and the carry-over block, and what begins with READY. -/

namespace Sys2Proof.Machine

/-! ## Phase 5: settings and carry-over (R501) -/

/-- The timing records of the block seed DPLLs (R501): with a valid model a DPLL starts in holdover. -/
def State.seedDpll (s : State) (c : CarryRec) : State :=
  match c with
  | .dpll k _ _ _ model valid =>
    if valid ∧ k < 4 then ((s.setI (O.dpll_holdover_model k) model).setF (O.dpll_model_valid k) true).setDpllState k 2 else s
  | _ => s

/-- A loaded value takes effect as its write would, beside the others that are loaded; a value that the rules of a write refuse is
held all the same. -/
def State.reapply (s : State) (k : Key) (v : Val) : State :=
  match descOf k with
  | none => s
  | some d =>
    match (s.set k (dflt k)).applyWrite mirrorWriter [] d k v with
    | (0, s1) => s1
    | _ => s.set k v

/-- The loaded settings take effect: kinds of ports first, then lanes, then the rest in order of address; every value governs from
the start (Table 2.3). -/
def State.applySettings (s : State) : State :=
  let l := s.objs.filter (fun e => isSetting e.1)
  let kinds := l.filter (fun e => e.1.fam == 0x2300)
  let lanes := l.filter (fun e => e.1.fam == 0x2000)
  let rest := l.filter (fun e => e.1.fam != 0x2300 && e.1.fam != 0x2000)
  let s1 := (kinds ++ lanes ++ rest).foldl (fun st e => st.reapply e.1 e.2) s
  { s1.showLevels with lag := [] }

/-- The records of the block that wait for Ready. -/
def CarryRec.waits (c : CarryRec) : Bool :=
  match c with | .route .. => true | .timed .. => true | .part .. => true | _ => false

/-- In Recovery mode every lane is Dormant (Table 20.5). -/
def State.lanesAsleep (s : State) : State :=
  if s.mode = 3 then (List.range (64 * s.tiles)).foldl (fun st l => st.setN (O.lane_state_now l) 2) s else s

/-- Phase 5 (R501, R511): the settings, then the carry-over block's objects over them; its other records wait for Ready, and its
timing records seed the timing block. -/
def State.phaseLoad (s : State) (r : PhaseResult) : State :=
  let s1 := if r.settingsOk then s else (s.putSettings s.activeSlot []).strike F.settingsDefaulted 0 0
  let s2 := ((s1.fw.settings[s1.activeSlot]?).getD []).foldl (fun st e => st.set e.1 e.2) s1
  let idx := s2.fw.carry.zip (List.range s2.fw.carry.length)
  let good := (idx.filter (fun e => !r.carryBad.contains e.2)).map (fun e => e.1)
  let bad := (idx.filter (fun e => r.carryBad.contains e.2)).length
  let s3 := good.foldl (fun st c => match c with | .object k v => st.set k v | _ => st) s2
  let s4 := if bad = 0 then s3 else ((s3.setN O.fw_carry_skipped bad).strike F.carryOverDamaged bad 0)
  let s5 := good.foldl (fun st c => st.seedDpll c) s4.applySettings.lanesAsleep
  ({ s5 with fw := { s5.fw with resume := good.filter CarryRec.waits } } : State).phaseOver (if s5.mode = 3 then 7 else 6) r.ms

/-- BRINGUP_PHASE_DONE (R509): a phase completes, and the next one begins. -/
def State.phaseDone (s : State) (r : PhaseResult) : State :=
  if !s.booting then s
  else match s.power.bootPh with
    | 0 => s.phaseRom r
    | 1 => s.phaseCopy r
    | 2 => s.phaseVerify r
    | 3 => s.phaseHbm r
    | 4 => s.phaseLanes r
    | 5 => s.phaseLoad r
    | _ => s.phaseOver 7 r.ms

/-! ## What the carry-over block brings at Ready (R147, R501, R510) -/

/-- An identifier of the block: the chip's planned pair ID stands for the pair that it holds now (R24, R25). -/
def State.carriedId (s : State) (i : Nat) : Nat :=
  match s.plannedId with | some c => rePair (pairOf c) s.pairId i | none => i

/-- A route of the block awaits its restoration (R510); a standby has its routes from the mirror. -/
def State.resumeRoute (s : State) (dst src mode : Nat) : State :=
  let di := s.carriedId dst
  match s.judgeDst di with
  | .error _ => s
  | .ok d =>
    let pl : Placement := ⟨s.dstId d, s.normId (s.carriedId src), if mode = 1 then 4 else 2, none, [], [], [], 0, 0⟩
    ({ s with sw := { s.sw with routes := putRoute s.sw.routes ⟨d, pl, [], true, false⟩ } } : State).enqueue (.restore d)

/-- A TIMED take of the block whose S lies more than 1 ms ahead is taken up again, in a slot of its own (R147). -/
def State.resumeTimed (s : State) (e : TakeEntry) (inst : Nat) : State :=
  match s.judgeDst (s.carriedId e.dst), s.nextSlot with
  | .ok d, some slot =>
    if inst ≤ s.tbNow (s.beat d).tb + 1000000 then s
    else
      let n := s.placer.nextNum
      let r : TakeRec := ⟨n, slot, d, s.normId (s.carriedId e.src), 2, false, false, none, some inst, none, 1, none, none, none⟩
      let s1 := (((s.clearSlot slot).setN (O.take_state slot) 1).setN (O.take_destination slot) (s.dstId d)).setN (O.take_source slot) r.src
      let s2 := ((s1.setN (O.take_mode slot) 2).setN (O.take_tag slot) e.tag).setN (O.take_instant slot) inst
      ({ s2 with
          sw := { s2.sw with takes := s2.sw.takes ++ [r], finals := s2.sw.finals.filter (fun f => f.1 ≠ slot) },
          placer := { s2.placer with nextNum := n + 1 } } : State).enqueue (.take n)
  | _, _ => s

/-- A poured salvo part of the block (R147): its takes whose switch instants lie more than 1 ms ahead are executed, the others are
missed. -/
def State.resumePart (s : State) (salvo coord : Nat) (entries : List TakeEntry) : State :=
  let slot := salvo / 65536
  let all := entries.zip (List.range entries.length)
  let dst (e : TakeEntry) : Dst := dstOf (s.carriedId e.dst)
  let ahead := all.filter (fun e => s.tbNow (s.beat (dst e.1)).tb + 1000000 < (s.beat (dst e.1)).atOrAfter e.1.instant)
  let missed := all.filter (fun e => !ahead.contains e)
  let n := s.placer.nextNum
  let recs := (ahead.zip (List.range ahead.length)).map (fun (x : (TakeEntry × Nat) × Nat) =>
    s.partTake (n + x.2) coord slot x.1.2 ({ x.1.1 with dst := s.carriedId x.1.1.dst, src := s.carriedId x.1.1.src }, x.1.1.instant))
  let p : Part := ⟨coord, slot, salvo % 65536, ahead.map (fun e => (e.1, e.1.instant)), recs.map (fun r => r.num), 2,
    missed.map (fun e => (e.2, 5 * 65536))⟩
  ({ s with
      sw := { s.sw with takes := s.sw.takes ++ recs },
      placer := { s.placer with nextNum := n + ahead.length },
      salvos := { s.salvos with parts := s.salvos.parts ++ [p] } } : State).enqueue (.part coord slot)

/-- The records of the block take effect, in their order. -/
def State.resumeCarry (s : State) : State :=
  let l := s.fw.resume
  let s1 : State := { s with fw := { s.fw with resume := [] } }
  if s.standby then s1
  else
    (l.foldl (fun st c => match c with
      | .route d x m => st.resumeRoute d x m
      | .timed e i => st.resumeTimed e i
      | .part k coord _ es => st.resumePart k coord es
      | _ => st) s1).reviewDones

/-! ## Ready (R509) -/

/-- Bring-up has run every phase. -/
def State.mayBeReady (s : State) : Bool :=
  !s.ready && s.power.pwrgd && s.power.resetN && !s.power.tap && !s.power.stuck && s.power.times.length == 7

/-- READY rises with BOOT_PH 111b: a boot epoch is drawn, and the times and counts of bring-up are shown (R50, R509, R511). -/
def State.raiseReady (s : State) : State :=
  let s1 : State := { s with power := { s.power with ready := true, readyAt := s.now, bootPh := 7, overrun := false } }
  ((((s1.setN O.sec_boot_epoch (s1.freeNat 1 % 18446744073709551616)).setN O.bring_failed_starts 0).setB O.bring_phase_times
    (s.power.times.flatMap (beBytes 4))).setN O.bring_bringup_time (sumBy (fun x => x) s.power.times))

/-- What is raised at Ready: BROWNOUT_RECORDED (Table 20.2), LANE_UNLOCK of the lanes that failed calibration, which stay Dormant
(R511), and the sources whose condition still holds (R448, R453). -/
def State.readyFaults (s : State) : State :=
  let s1 := if s.brownedSinceReady then s.strike F.brownoutRecorded 0 0 else s
  let s2 := (s1.power.lanesBad.filter (fun l => l < 1024)).foldl (fun st l =>
    (st.setN (O.lane_state_now l) 2).strike (F.laneUnlock (l / 64)) l 0) s1
  let l := s2.faults.relatch
  l.foldl (fun st x => st.latch x.1 x.2.1 x.2.2)
    { s2 with faults := { s2.faults with relatch := [] }, power := { s2.power with ringAtReady := s2.oct O.pow_brownout_ring } }

/-- A chip restarted by an activation is on probation from its Ready on, for the window (R497). -/
def State.beginProbation (s : State) : State :=
  match s.fw.act with
  | some a =>
    if a.stage = 1 then
      let w := if field a.raw 4 4 = 0 then 600 else field a.raw 4 4
      { s.setN O.fw_image_state 1 with fw := { s.fw with act := some { a with stage := 2, until' := s.now + w * nsPerSec } } }
    else s
  | none => s

/-- The NMOS node begins to register on a primary, and waits on a standby (R249). -/
def State.startNmos (s : State) : State :=
  if s.natNow O.pk_nmos_enable ≠ 1 then s else s.setN O.pk_nmos_state (if s.standby then 3 else 1)

/-- BRINGUP_READY (R509): READY rises. Safe state is left where no latched source brings it (R453), a chip that is not standby claims
its outputs (R422), and the carry-over block's records take effect (R510). -/
def State.becomeReady (s : State) : State :=
  if !s.mayBeReady then s
  else
    let s1 := s.raiseReady.readyFaults.reviewSafe
    let s2 := if s1.safe ∨ s1.standby then s1 else s1.claimSide
    (if s2.mode = 3 then s2.beginProbation else s2.beginProbation.startNmos.resumeCarry)

/-- BRINGUP_PHASE_DONE (R509). -/
def execBringupPhaseDone (t : Nat) (r : PhaseResult) (s0 : State) : Host.Outcome State Fault Refusal :=
  done s0 ((s0.advance t).phaseDone r)

/-- BRINGUP_READY (R509). -/
def execBringupReady (t : Nat) (s0 : State) : Host.Outcome State Fault Refusal :=
  done s0 ((s0.advance t).becomeReady)

end Sys2Proof.Machine
end

