-- ==== Sys2Proof/Machine/CompositionCommands.lean ====
section
/-! DEFINITION. The events of composition (R262 to R278): one meaning for each, over the operations of Machine/Composition.lean. -/

namespace Sys2Proof.Machine

/-- HEAD_READ_INSTANT (R262). -/
def execHeadReadInstant (t h : Nat) (s0 : State) : Host.Outcome State Fault Refusal :=
  let s := s0.advance t
  done s0 (if 64 ≤ h then s else s.headRead h)

/-- SCALER_FRAME_WRITE (R262): the scaler completes a window frame, which is now its newest. -/
def execScalerFrameWrite (t n : Nat) (s0 : State) : Host.Outcome State Fault Refusal :=
  let s := s0.advance t
  let r := s.scalerRec n
  done s0 (if r.writing then
      (s.putScaler { r with writing := false, newest := r.newest + 1 }).count (O.scaler_frames_written n)
    else s)

/-- FLIP_POINT (R271). -/
def execFlipPoint (t h : Nat) (s0 : State) : Host.Outcome State Fault Refusal :=
  let s := s0.advance t
  done s0 (if 64 ≤ h then s else s.flipPoint h)

/-- COMMIT_TIMEOUT (R273): the group that has not flipped at its last flip point loses its pending commit. -/
def execCommitTimeout (t g : Nat) (s0 : State) : Host.Outcome State Fault Refusal :=
  let s := s0.advance t
  done s0 (match s.groupPending (2048 + g) with
    | none => s
    | some c =>
      match (c.members.head?).bind (fun m => s.flipHead m.1) with
      | none => s
      | some h =>
        if s.tbNow (s.nat (O.head_time_base h)) < s.groupDeadline c h ∨
            !(c.members.any (fun m => s.steeps m.1 m.2.1 m.2.2)) then s
        else
          (({ s with comp := { s.comp with groups := s.comp.groups.filter (fun x => x.group ≠ 2048 + g) } } : State).count
            (O.cgroup_drops (2048 + g))).strike (F.commitDropped (g / 16)) (2048 + g) c.members.length)

/-- RENDERER_REDRAW (R278): an overlay layer is drawn anew and commits in auto mode; a redraw that does not finish leaves
the previous drawing. -/
def execRendererRedraw (t l : Nat) (finished : Bool) (s0 : State) : Host.Outcome State Fault Refusal :=
  let s := s0.advance t
  done s0 (if l < 2048 ∧ s.nat (O.layer_content l) = 3 ∧ finished then s.autoCommit l else s)

/-- MIRROR_IMAGE_ACK (R276): the twin has the staged image. -/
def execMirrorImageAck (t l : Nat) (s0 : State) : Host.Outcome State Fault Refusal :=
  let s := s0.advance t
  done s0 { s with comp := { s.comp with waits := s.comp.waits.filter (fun e => e.1 ≠ l) } }

/-- MIRROR_FLIP_ALONE (R276): two head frames have passed without the acknowledgement, or mirroring has halted. -/
def execMirrorFlipAlone (t l : Nat) (s0 : State) : Host.Outcome State Fault Refusal :=
  let s := s0.advance t
  done s0 (match s.comp.waits.find? (fun e => e.1 = l) with
    | none => s
    | some e =>
      let p := match s.flipHead l with | some h => framePeriod (s.nat (O.head_format h)) | none => 0
      if s.mirroring ∧ s.now < e.2.2 + 2 * p then s
      else
        ({ s with comp := { s.comp with waits := s.comp.waits.filter (fun e => e.1 ≠ l) } } : State).strike
          (F.mirrorFlipAlone (l / 128)) l 0)

end Sys2Proof.Machine
end

