-- ==== Sys2Proof/Machine/FaultsCommands.lean ====
section
/-! DEFINITION. The events of the fault collector (R439, R444, R447, R448): one meaning for each, over the operations of
Machine/Collector.lean. -/

namespace Sys2Proof.Machine

/-- FAULT_LATCH (R447). -/
def execFaultLatch (t src unit detail : Nat) (s0 : State) : Host.Outcome State Fault Refusal :=
  done s0 ((s0.advance t).faultLatch src unit detail)

/-- BLOCK_RESET_DONE (R444). -/
def execBlockResetDone (t src : Nat) (s0 : State) : Host.Outcome State Fault Refusal :=
  done s0 ((s0.advance t).resetOver src)

/-- FAULT_CONDITION_END (R448). -/
def execFaultConditionEnd (t src : Nat) (s0 : State) : Host.Outcome State Fault Refusal :=
  done s0 ((s0.advance t).endFault src)

/-- FAULT_TREE_SELF_CHECK (R439). -/
def execFaultTreeSelfCheck (t : Nat) (ok : Bool) (s0 : State) : Host.Outcome State Fault Refusal :=
  done s0 ((s0.advance t).treeCheck ok)

end Sys2Proof.Machine
end

