-- ==== Sys2Proof/Machine/FirmwareCommands.lean ====
section
/-! DEFINITION. The events of firmware and scheduled activation (R494 to R500): one meaning for each, over the operations of
Machine/Firmware.lean. -/

namespace Sys2Proof.Machine

/-- ACTIVATION_PREPARE_RX (R494). -/
def execActivationPrepareRx (t coord : Nat) (act : Bytes) (twinActive : Nat) (twinPeers : List (Nat × Nat)) (s0 : State) :
    Host.Outcome State Fault Refusal :=
  done s0 ((s0.advance t).prepareRx coord act twinActive twinPeers)

/-- ACTIVATION_REPORT_RX (R494). -/
def execActivationReportRx (t chip code : Nat) (s0 : State) : Host.Outcome State Fault Refusal :=
  done s0 ((s0.advance t).actReport chip code)

/-- ACTIVATION_REPORT_DEADLINE (R494). -/
def execActivationReportDeadline (t : Nat) (s0 : State) : Host.Outcome State Fault Refusal :=
  done s0 (s0.advance t).actDeadline

/-- ACTIVATION_INSTANT (R496). -/
def execActivationInstant (t : Nat) (s0 : State) : Host.Outcome State Fault Refusal :=
  done s0 (s0.advance t).actInstantAt

/-- PROBATION_END (R497). -/
def execProbationEnd (t : Nat) (s0 : State) : Host.Outcome State Fault Refusal :=
  done s0 (s0.advance t).probationOver

/-- CARRY_OVER_APPEND (R500). -/
def execCarryOverAppend (t : Nat) (s0 : State) : Host.Outcome State Fault Refusal :=
  done s0 (s0.advance t).programCarry

/-- CARRY_OVER_REGION_SWITCH (R500). -/
def execCarryOverRegionSwitch (t : Nat) (s0 : State) : Host.Outcome State Fault Refusal :=
  done s0 (s0.advance t).switchRegion

end Sys2Proof.Machine
end

