-- ==== Sys2Proof/Machine/LanesCommands.lean ====
section
/-! DEFINITION. The events of serial lanes (R375 to R391): one meaning for each, over the operations of Machine/Lanes.lean. -/

namespace Sys2Proof.Machine

/-- LANE_EXIT_DONE (R384): a waking lane enters its set state, with its receiver locked and adapted. -/
def execLaneExitDone (t l : Nat) (s0 : State) : Host.Outcome State Fault Refusal :=
  let s := s0.advance t
  done s0 (if l < 1024 ∧ s.nat (O.lane_state_now l) = 3 then
      (s.setN (O.lane_state_now l) (s.nat (O.lane_state l))).laneLocked l
    else s)

/-- LANE_UNLOCK (R391): an Active lane's receiver loses lock. -/
def execLaneUnlock (t l : Nat) (s0 : State) : Host.Outcome State Fault Refusal :=
  let s := s0.advance t
  done s0 (if 1024 ≤ l ∨ s.nat (O.lane_state_now l) ≠ 0 then s
    else
      let s1 := (s.setN (O.lane_rx_lock l) 0).count (O.lane_lock_losses l)
      let s2 := if s.nat (O.eq_eq_mode l) ≤ 1 then s1.setN (O.eq_adapt_state l) 1 else s1
      s2.strike (F.laneUnlock (l / 64)) l 0)

/-- LANE_CODE_ERROR (R381): counted on a mesh lane; the first after a clear second raises LANE_CODE. -/
def execLaneCodeError (t l : Nat) (disparity : Bool) (s0 : State) : Host.Outcome State Fault Refusal :=
  let s := s0.advance t
  done s0 (if 1024 ≤ l ∨ s.portKind l ≠ 5 then s
    else
      let s1 := s.count (if disparity then O.lane_disparity_errors l else O.lane_code_violations l)
      let s2 : State := { s1 with lanes := { s1.lanes with codeAt := kput s1.lanes.codeAt l s.now } }
      match kfind s.lanes.codeAt l with
      | some a => if s.now ≤ a + nsPerSec then s2 else s2.strike (F.laneCode (l / 64)) l (b01 disparity)
      | none => s2.strike (F.laneCode (l / 64)) l (b01 disparity))

/-- TXPLL_UNLOCK (R376): the PLL holds its last control word. -/
def execTxpllUnlock (t tile pll : Nat) (s0 : State) : Host.Outcome State Fault Refusal :=
  let s := s0.advance t
  done s0 (if s.tiles ≤ tile ∨ 2 ≤ pll then s
    else (s.setBit (O.tile_pll_status (1024 + tile)) (2 + pll) false).follow (F.txpllUnlock tile) pll 0 true)

/-- TXPLL_RELOCK (R376). -/
def execTxpllRelock (t tile pll : Nat) (s0 : State) : Host.Outcome State Fault Refusal :=
  let s := s0.advance t
  done s0 (if s.tiles ≤ tile ∨ 2 ≤ pll then s
    else
      let s1 := s.setBit (O.tile_pll_status (1024 + tile)) (2 + pll) true
      s1.followShared (F.txpllUnlock tile) pll 0 false (!s1.bit (O.tile_pll_status (1024 + tile)) (3 - pll)))

/-- REF_MISMATCH_CHECK (R375): a mesh lane's offset averaged over 1 s, against ±20 ppm. -/
def execRefMismatchCheck (t l : Nat) (ppb : Int) (s0 : State) : Host.Outcome State Fault Refusal :=
  let s := s0.advance t
  done s0 (if 1024 ≤ l ∨ s.portKind l ≠ 5 then s
    else
      let s1 := s.setI (O.lane_rx_offset l) ppb
      let beyond (q : Nat) : Bool := s1.portKind q == 5 && decide (20000 < (s1.int (O.lane_rx_offset q)).natAbs)
      let others := (List.range 64).any (fun i => 64 * (l / 64) + i ≠ l ∧ beyond (64 * (l / 64) + i))
      (s1.setBit (O.tile_pll_status (1024 + l / 64)) 4 (beyond l || others)).followShared (F.laneRefMismatch (l / 64)) l ppb.natAbs (beyond l) others)

/-- LANE_TEST_DURATION_END (R389). -/
def execLaneTestDurationEnd (t l : Nat) (s0 : State) : Host.Outcome State Fault Refusal :=
  let s := s0.advance t
  done s0 (match kfind s.lanes.tests l with
    | some a =>
      if s.testRuns l ∧ s.nat (O.ltest_duration l) ≠ 0 ∧ a + s.nat (O.ltest_duration l) * nsPerSec ≤ s.now then s.finalCount l else s
    | none => s)

/-- CHECKER_LOCK (R388): bits and errors count while the checker is locked; a loss of lock counts a relock. -/
def execCheckerLock (t l : Nat) (locked : Bool) (bits errors : Nat) (s0 : State) : Host.Outcome State Fault Refusal :=
  let s := s0.advance t
  done s0 (if 1024 ≤ l ∨ !s.testRuns l ∨ !s.flag (O.ltest_checker l) then s
    else
      let was := s.flag (O.ltest_checker_lock l)
      let s1 := if was then (s.count (O.ltest_bits l) bits 64).count (O.ltest_errors l) errors 64 else s
      if locked then (s1.setN (O.ltest_checker_lock l) 1).setN (O.ltest_state l) 2
      else
        let s2 := s1.setN (O.ltest_checker_lock l) 0
        if was then s2.count (O.ltest_relocks l) else s2)

end Sys2Proof.Machine
end

