-- ==== Sys2Proof/Machine/Routes.lean ====
section
/-! DEFINITION. What a head does for a cross-chip route (R153, R164, R173, R174): it searches the mesh paths of its group, asks each
chip on the path to reserve its part, and confirms or releases them. -/

namespace Sys2Proof.Machine

/-! ## Mesh paths (R153, R161, R164, R166, R404) -/

/-- One hop of a mesh path: the chip it leaves, its lane, the chip it comes to, and the lane there. -/
structure MeshHop where
  chip : Nat
  out : Nat
  next : Nat
  inn : Nat
  deriving DecidableEq, Repr

/-- A chip of the plan has a twin (Table 15.6). -/
def State.planPaired (s : State) (chip : Nat) : Bool :=
  (planPairs (s.oct O.mesh_plan)).any (fun x => x.pair == pairOf chip && x.serialB != zeros 16)

/-- A link between two chips is matched, by the link lists (R404). -/
def State.hopMatched (s : State) (a l b bl : Nat) : Bool :=
  match s.planPaired a, s.planPaired b with
  | false, false => true
  | true, true => (s.linksOf (twinOf a)).contains (l, twinOf b, bl)
  | true, false => (s.linksOf (twinOf a)).any (fun x => x.1 == l && x.2.1 == b)
  | false, true => (s.linksOf (twinOf b)).any (fun x => x.1 == bl && x.2.1 == a)

/-- What is booked on a chip's mesh lane and what may be (R161), as this chip knows it or as the chip has reported it (R173). -/
def State.laneLedger (s : State) (chip l : Nat) : Nat × Nat :=
  if chip = s.chipId then (s.meshBooked l, s.meshBookable)
  else match (s.peer chip).bind (fun p => p.booked.find? (fun e => e.1 = l)) with
    | some e => e.2
    | none => (0, 15000)

/-- The hop from one chip to another that has room: over the lowest such lane (log entry 76). -/
def State.hopOver (s : State) (mbps a b : Nat) : Option MeshHop :=
  let fit := (s.linksOf a).filter (fun x => x.2.1 = b ∧ s.hopMatched a x.1 b x.2.2 = true ∧
    (s.laneLedger a x.1).1 + mbps ≤ (s.laneLedger a x.1).2)
  (minBy (fun x => x.1) fit).map (fun x => ⟨a, x.1, b, x.2.2⟩)

/-- The walks of so many hops from a chip to another that cross no chip twice, in the order of the chips along them. -/
def meshWalks (chips : List Nat) (hop : Nat → Nat → Option MeshHop) (target : Nat) : Nat → Nat → List Nat → List (List MeshHop)
  | 0, at', _ => if at' = target then [[]] else []
  | n + 1, at', seen =>
    if at' = target then []
    else chips.flatMap (fun b =>
      if seen.contains b then []
      else match hop at' b with
        | none => []
        | some h => (meshWalks chips hop target n b (b :: seen)).map (fun w => h :: w))

/-- The chip of a pair that paths cross: its primary. -/
def State.nodeOf (s : State) (pair : Nat) : Nat := if pair = s.pairId ∧ !s.standby then s.chipId else s.servingChip pair

/-- The chips of a group that a path may cross, in ascending order (R173). -/
def State.groupChips (s : State) (g : Nat) : List Nat :=
  let pairs := ((planPairs (s.oct O.mesh_plan)).filter (fun x => (s.pathOf x.pair).contains g)).map (fun x => x.pair)
  (List.range 1000).filter (fun c => pairs.contains (pairOf c) && s.nodeOf (pairOf c) == c && (c == s.chipId || (s.peer c).isSome))

/-- The mesh paths with room between two chips of a group, by hop count and then by the chips along them, at most 8 (R153). -/
def State.meshPaths (s : State) (g mbps limit src dst : Nat) : List (List MeshHop) :=
  let chips := s.groupChips g
  if chips.contains src ∧ chips.contains dst then
    ((List.range limit).flatMap (fun n => meshWalks chips (s.hopOver mbps) dst (n + 1) src [src])).take 8
  else []

/-- The detail of a refusal where no path is left (Table 6.12): 7 where only room is short, 8 where only the hop limit forbids it,
and 9 where no links lead there. -/
def State.pathDetail (s : State) (g limit src dst : Nat) : Nat :=
  if !(s.meshPaths g 0 limit src dst).isEmpty then 7
  else if !(s.meshPaths g 0 31 src dst).isEmpty then 8 else 9

/-- The mesh terms of a path's cost (Table 6.3): hops, the highest link occupancy, and, where the route comes to need frame sync by
its hop count alone, the sync term. Whether it does is known to the source's chip and is free here (log entry 76). -/
def State.pathCost (s : State) (mbps fewest : Nat) (p : List MeshHop) : Nat :=
  let link := maxBy (fun h => permille ((s.laneLedger h.chip h.out).1 + mbps) (s.laneLedger h.chip h.out).2) p
  let sync : Bool := fewest < p.length && Config.free s.free (700 + p.length) % 2 == 1
  s.nat O.placer_w_hop * p.length + s.nat O.placer_w_link * link + s.nat O.placer_w_sync * b01 sync

/-- The candidates of a route in the order in which the head tries them: the cheapest first, and the order of R153 among equals. -/
def State.pathOrder (s : State) (mbps : Nat) (ps : List (List MeshHop)) : List (List MeshHop) :=
  let fewest := match ps with | p :: _ => p.length | [] => 0
  sortBy (fun a b => s.pathCost mbps fewest a < s.pathCost mbps fewest b) ps

/-- The parts of a path from a chip on, by which lane the route comes to it and leaves it. -/
def routeParts (chip inn : Nat) : List MeshHop → List RoutePart
  | [] => [⟨chip, inn, 1024⟩]
  | h :: t => ⟨chip, inn, h.out⟩ :: routeParts h.next h.inn t

/-! ## The head's exchange (R173) -/

/-- A route that the head coordinates. -/
def State.headRoute (s : State) (ident : Nat) : Option HeadRoute := s.mesh.routes.find? (fun r => r.ident = ident)

/-- The record of a route that the head coordinates is set. -/
def State.putHeadRoute (s : State) (r : HeadRoute) : State :=
  { s with mesh := { s.mesh with routes := s.mesh.routes.filter (fun x => x.ident ≠ r.ident) ++ [r] } }

/-- The record of a route that the head coordinates is taken out. -/
def State.dropHeadRoute (s : State) (ident : Nat) : State :=
  { s with mesh := { s.mesh with routes := s.mesh.routes.filter (fun x => x.ident ≠ ident) } }

/-- A cross-chip route of this chip is refused, as its head reports (R173). -/
def State.routeRefusedHere (s : State) (dst : Nat) (why : Refuse) : State :=
  match s.sw.takes.find? (fun r => s.dstId r.dst = dst ∧ r.pl.isNone) with
  | some r => s.refuseTake r why
  | none => s

/-- The head refuses a route to the chip of its destination. -/
def State.refuseRoute (s : State) (asker dst : Nat) (why : Refuse) : State :=
  if asker = s.chipId then s.routeRefusedHere dst why else s.emit (.notice asker (.routeResult dst why.1 why.2))

/-- The head asks the next chip of the present candidate to reserve its part: the destination's chip first, then the transit chips
from its end, then the source's. -/
def State.askPart (s : State) (r : HeadRoute) : State :=
  match r.cands with
  | [] => s
  | parts :: _ => match parts[r.got]? with
    | some p => s.emit (.notice p.chip (.routeReserve s.chipId r.ident r.dst r.src p.inn p.out r.mbps (parts.length - 1)))
    | none => s

/-- The destination's chip passes a route to the head of the smallest group that contains both pairs, which searches its paths. A
chip that is not that head refuses it BUSY, detail 12. -/
def State.coordinate (s : State) (asker dst src mbps limit : Nat) : State :=
  match s.commonGroup (pairOf (idChip dst)) (pairOf (idChip src)) with
  | none => s.refuseRoute asker dst (C.busy, 12)
  | some g =>
    if s.headOf g ≠ s.chipId then s.refuseRoute asker dst (C.busy, 12)
    else
      let from' := s.nodeOf (pairOf (idChip src))
      match s.pathOrder mbps (s.meshPaths g mbps limit from' asker) with
      | [] => s.refuseRoute asker dst (C.noPath, s.pathDetail g limit from' asker)
      | ps =>
        let r : HeadRoute := ⟨s.mesh.nextRoute, asker, dst, src, mbps, ps.map (fun p => (routeParts from' 1024 p).reverse), 0⟩
        ({ s with mesh := { s.mesh with nextRoute := s.mesh.nextRoute + 1 } } : State).putHeadRoute r |>.askPart r

/-- A chip refuses its part, or is lost: the parts reserved so far are released, and the next candidate is tried; after the last the
route is refused with this code. -/
def State.nextCandidate (s : State) (r : HeadRoute) (why : Refuse) : State :=
  let held : List RoutePart := match r.cands with | parts :: _ => parts.take r.got | [] => []
  let s1 := held.foldl (fun (st : State) (p : RoutePart) => st.emit (.notice p.chip (.routeConfirm s.chipId r.ident false))) s
  match r.cands.drop 1 with
  | [] => (s1.dropHeadRoute r.ident).refuseRoute r.asker r.dst why
  | rest =>
    let r' := { r with cands := rest, got := 0 }
    (s1.putHeadRoute r').askPart r'

/-- A chip answers for its part: when every chip has reserved, the head confirms all the parts. -/
def State.partAnswered (s : State) (chip ident : Nat) (why : Refuse) : State :=
  match s.headRoute ident with
  | none => s
  | some r =>
    match r.cands with
    | [] => s
    | parts :: _ =>
      if (parts[r.got]?).map (fun p => p.chip) ≠ some chip then s
      else if why.1 ≠ 0 then s.nextCandidate r why
      else if r.got + 1 = parts.length then
        parts.foldl (fun st p => st.emit (.notice p.chip (.routeConfirm s.chipId ident true))) (s.dropHeadRoute ident)
      else
        let r' := { r with got := r.got + 1 }
        (s.putHeadRoute r').askPart r'

/-- A chip on the path of a route that is not confirmed yet is lost: its candidate has failed. -/
def State.routesLose (s : State) (chip : Nat) : State :=
  (s.mesh.routes.filter (fun r => match r.cands with | parts :: _ => parts.any (fun p => p.chip == chip) | [] => false)).foldl
    (fun st r => st.nextCandidate r (C.noPath, 9)) s

/-! ## This chip's own routes and parts -/

/-- A reserve is answered: to its head, which may be this chip. -/
def State.answerReserve (s : State) (head ident : Nat) (why : Refuse) : State :=
  if head = s.chipId then s.partAnswered s.chipId ident why else s.emit (.notice head (.reserved head ident why.1 why.2))

/-- A placer task is started; a route whose head this chip is itself is searched at once. -/
def State.startHeaded (s : State) (task : Task) : State :=
  let s1 := s.startTask task
  (s1.startedTakes).foldl (fun st r =>
    if st.routeHead r.src = some st.chipId ∧ !st.idHere r.src then
      st.coordinate st.chipId (st.dstId r.dst) r.src (st.farMbps r.dst) (st.hopLimit r.dst)
    else st) s1

/-- A placer task is complete; a part that this chip reserved for itself as head is answered. -/
def State.completeHeaded (s : State) (task : Task) (v : Verdict) : State :=
  let s1 := s.completeTask task v
  match task with
  | .reserve head ident _ =>
    if head = s1.chipId then
      s1.partAnswered head ident (match v with | .placed _ => (0, 0) | .refused c d _ => (c, d))
    else s1
  | _ => s1

end Sys2Proof.Machine
end

