-- ==== Sys2Proof/Machine/MeshCommands.lean ====
section
/-! DEFINITION. The events of the mesh and the domain (R376, R380, R398 to R409): one meaning for each, over the operations of Machine/Mesh.lean. -/

namespace Sys2Proof.Machine

/-- LREF_LOSS (R376). -/
def execLrefLoss (t tile : Nat) (s0 : State) : Host.Outcome State Fault Refusal :=
  let s := s0.advance t
  done s0 (if tile < s.tiles then s.lrefLost tile else s)

/-- LREF_RELOCK (R376). -/
def execLrefRelock (t tile : Nat) (s0 : State) : Host.Outcome State Fault Refusal :=
  let s := s0.advance t
  done s0 (if tile < s.tiles then
      ((s.setBit (O.tile_pll_status (1024 + tile)) 0 true).setBit (O.tile_pll_status (1024 + tile)) 1 true).endFault (F.lrefLoss tile)
    else s)

/-- MESH_ALIGNED (R380, R402): three commas at one boundary; the link trains. -/
def execMeshAligned (t l : Nat) (s0 : State) : Host.Outcome State Fault Refusal :=
  let s := s0.advance t
  done s0 (if s.mayTrain l ∧ (s.nat (O.mlink_state (1 + l)) ≤ 1 ∨ 4 ≤ s.nat (O.mlink_state (1 + l))) then
      ((s.setN (O.mlink_state (1 + l)) 2).putMlane ⟨l, 0, 0, 0, 0, [], [], false, 0, 0, 0, 0⟩).laneLocked l
    else s)

/-- TRAINING_ANNOUNCE (R401). -/
def execTrainingAnnounce (t l : Nat) (s0 : State) : Host.Outcome State Fault Refusal :=
  let s := s0.advance t
  done s0 (if l < 1024 ∧ s.nat (O.mlink_state (1 + l)) = 2 then
      s.emit (.notice 1023 (.training l (.announce (s.oct O.id_serial_number) s.chipId (s.nat O.id_pair_role) (s.nat O.id_ordering_code)
        (s.nat O.mesh_version_min) (s.nat O.mesh_version_max) l (s.nat O.mesh_plan_revision))))
    else s)

/-- TRAINING_SET_RX (R401). -/
def execTrainingSetRx (t l : Nat) (set : TrainingSet) (s0 : State) : Host.Outcome State Fault Refusal :=
  let s := s0.advance t
  done s0 (if l < 1024 then s.trainingSet l set else s)

/-- MESH_LINK_UP (R402, R403). -/
def execMeshLinkUp (t l : Nat) (s0 : State) : Host.Outcome State Fault Refusal :=
  let s := s0.advance t
  done s0 (if l < 1024 then s.linkUp l else s)

/-- MESH_LINK_DOWN (R402). -/
def execMeshLinkDown (t l : Nat) (cause : LinkLoss) (s0 : State) : Host.Outcome State Fault Refusal :=
  let s := s0.advance t
  done s0 (if l < 1024 then
      (if cause = .lock then (s.setN (O.lane_rx_lock l) 0).linkDown l (lossCode cause) else s.linkDown l (lossCode cause))
    else s)

/-- MESH_CELL_RX (R398); an injection armed at the lane's headers fires with this cell (R459). -/
def execMeshCellRx (t l : Nat) (crcOk : Bool) (cls word d : Nat) (s0 : State) : Host.Outcome State Fault Refusal :=
  let s := s0.advance t
  done s0 (if 1024 ≤ l ∨ s.nat (O.mlink_state (1 + l)) ≠ 3 then s
    else s.withInjection 5 l word (fun st w => st.meshCell l cls d crcOk w))

/-- CREDIT_RETURN (R399): credits up to the far end's buffers. -/
def execCreditReturn (t l cls count : Nat) (s0 : State) : Host.Outcome State Fault Refusal :=
  let s := s0.advance t
  done s0 (if 1024 ≤ l ∨ s.nat (O.mlink_state (1 + l)) ≠ 3 then s
    else
      let r := s.mlane l
      s.putMlane (if cls = 0 then { r with data := min 256 (r.data + count % 128), dataAt := s.now }
        else { r with ctl := min 32 (r.ctl + count % 128), ctlAt := s.now }))

/-- CREDIT_TIMEOUT (R400): no credit of a class for 100 µs while cells of it wait; the link is trained again. -/
def execCreditTimeout (t l cls : Nat) (s0 : State) : Host.Outcome State Fault Refusal :=
  let s := s0.advance t
  done s0 (if 1024 ≤ l ∨ s.nat (O.mlink_state (1 + l)) ≠ 3 then s
    else
      let r := s.mlane l
      if (if cls = 0 then r.dataAt else r.ctlAt) + 100000 ≤ s.now then (s.count (O.mlink_credit_stalls (1 + l))).linkDown l 4 else s)

/-- MESH_HEARTBEAT (R407): over every up link. -/
def execMeshHeartbeat (t : Nat) (s0 : State) : Host.Outcome State Fault Refusal :=
  done s0 ((s0.advance t).flood .heartbeat)

/-- LINK_LIST_FLOOD (R407). -/
def execLinkListFlood (t : Nat) (s0 : State) : Host.Outcome State Fault Refusal :=
  let s := s0.advance t
  done s0 (s.flood (.linkList s.linkList s.ledgerReport))

/-- CHIP_LOST (R407): a route that this chip coordinates over it tries its next candidate (R173). -/
def execChipLost (t chip : Nat) (s0 : State) : Host.Outcome State Fault Refusal :=
  let s := s0.advance t
  done s0 (if s.chipGone chip then (s.loseChip chip).routesLose chip else s)

/-- PLAN_RECEIVED (R405). -/
def execPlanReceived (t : Nat) (plan : Bytes) (s0 : State) : Host.Outcome State Fault Refusal :=
  done s0 ((s0.advance t).planHeard plan)

/-- DOMAIN_ADMISSION (R406). -/
def execDomainAdmission (t : Nat) (s0 : State) : Host.Outcome State Fault Refusal :=
  done s0 ((s0.advance t).joinPermit)

/-- HEAD_ELECTION (R409). -/
def execHeadElection (t lvl : Nat) (cands : List (Nat × Nat)) (s0 : State) : Host.Outcome State Fault Refusal :=
  done s0 ((s0.advance t).elect lvl cands)

/-- HEAD_PRIORITY_HOLD (R409): a candidate of strictly higher priority than the head has been reachable for 10 s. -/
def execHeadPriorityHold (t lvl : Nat) (cands : List (Nat × Nat)) (s0 : State) : Host.Outcome State Fault Refusal :=
  let s := s0.advance t
  let was := s.nat (O.mgroup_head (2048 + lvl))
  let all := s.candidates cands
  let p := ((all.find? (fun c => c.1 = was)).map (fun c => c.2)).getD 0
  done s0 (if all.any (fun c => p < c.2) then s.elect lvl cands else s)

end Sys2Proof.Machine
end

