-- ==== Sys2Proof/Machine/Messages.lean ====
section
/-! DEFINITION. Odrath messages (R41 to R67, R126, R138, R141, R144, R538, R539): how a message is judged as a whole, how its
session takes it up, and what each type of request does. -/

namespace Sys2Proof.Machine

/-! ## Records of requests (Table 2.8) -/

/-- A record of a request, with the bytes of its value. -/
structure Rec where
  k : Key
  ty : Nat
  status : Nat
  reserved : Nat
  value : Bytes
  deriving DecidableEq, Repr

/-- The records that a body holds; none where it is not whole records. `fuel` bounds their number. -/
def parseRecs : Nat → Bytes → Option (List Rec)
  | _, [] => some []
  | 0, _ => none
  | fuel + 1, bs =>
    let n := field bs 8 2
    if bs.length < 10 + n then none
    else
      (parseRecs fuel (bs.drop (10 + n))).map (fun l =>
        ⟨⟨field bs 0 2, field bs 2 2, field bs 4 1⟩, field bs 5 1, field bs 6 1, field bs 7 1, slice bs 10 n⟩ :: l)

/-- A record of a reply without a value. -/
def Rec.answer (r : Rec) (status : Nat) : Bytes := recordBytes r.k r.ty status []

/-! ## Replies to one request -/

/-- The party behind a request. -/
def Ticket.writer (tk : Ticket) : Writer := ⟨tk.role, tk.ident, tk.slot⟩

/-- A request answered with a bare code. -/
def State.refuse (s : State) (tk : Ticket) (code : Nat) : State := s.reply tk code []

/-! ## READ (R43, R45, R47, R65) -/

/-- One READ record answered: its bytes in the reply. -/
def State.readRec1 (s : State) (role : Nat) (describe : Bool) (r : Rec) : Bytes :=
  match s.judgeRead role describe r.k with
  | 0 =>
    match descOf r.k with
    | none => r.answer C.range
    | some d =>
      if describe then
        (if r.reserved ≠ 0 then r.answer C.type else recordBytes r.k 0x0F C.ok (descriptor d (dflt r.k)))
      else if r.ty ≠ d.ty.code ∨ r.reserved ≠ 0 then r.answer C.type
      else if !r.value.isEmpty then r.answer C.range
      else s.valueRecord r.k
  | c => r.answer c

/-- The records of a READ reply in order, while they fit: each of the others reads BUSY (R47). `left` is the room, less ten
bytes for every record still to come. -/
def fitReply (left : Nat) : List (Rec × Bytes) → List Bytes × Bool
  | [] => ([], true)
  | (r, b) :: l =>
    if b.length - 10 ≤ left then let p := fitReply (left - (b.length - 10)) l; (b :: p.1, p.2)
    else let p := fitReply 0 l; (r.answer C.busy :: p.1, false)

/-- What a READ changes: the lowest pace is taken anew (Table 20.13). -/
def State.afterRead (s : State) (k : Key) : State :=
  if k.fam = 0x1400 ∧ 32 ≤ k.inst ∧ k.sub = 0x01 then s.set k (s.get (O.pace_last k.inst)) else s

/-- READ, with or without the describe flag. -/
def State.serveRead (s : State) (tk : Ticket) (describe : Bool) (recs : List Rec) : State :=
  let out := recs.map (fun r => (r, s.readRec1 tk.role describe r))
  let p := fitReply (1332 - 10 * recs.length) out
  let s1 := s.reply tk (if p.2 then C.ok else C.busy) (beBytes 2 recs.length ++ [0, 0] ++ p.1.flatten)
  if describe then s1
  else (recs.filter (fun r => s.judgeRead tk.role false r.k = 0)).foldl (fun st r => st.afterRead r.k) s1

/-! ## WRITE and WRITE_TXN (R43, R60, R538) -/

/-- One record of a WRITE: checks 1 to 5, 6, 7, then 8 to 10. -/
def State.writeRec (s : State) (w : Writer) (ovr : List Nat) (r : Rec) : Nat × State :=
  match s.judgeWrite w r.k, descOf r.k with
  | 0, some d =>
    if r.ty ≠ d.ty.code ∨ r.reserved ≠ 0 then (C.type, s)
    else if s.lockedHere r.k then (C.locked, s)
    else if 1024 < r.value.length then (C.range, s)
    else match decVal d.ty r.value with
      | none => (C.range, s)
      | some v => s.putValue w ovr r.k v
  | 0, none => (C.range, s)
  | c, _ => (c, s)

/-- The records of a WRITE in order, each on its own: their codes, and the state after them. -/
def State.writeRecs (s : State) (w : Writer) (ovr : List Nat) (recs : List Rec) : List Nat × State :=
  recs.foldl (fun a r => let x := a.2.writeRec w ovr r; (a.1 ++ [x.1], x.2)) ([], s)

/-- The time bases to whose step_override a transaction writes 1 (R358). -/
def overrides (recs : List Rec) : List Nat :=
  (recs.filter (fun r => r.k.fam == 0x5400 && r.k.sub == 0x16 && r.value == [1])).map (fun r => r.k.inst)

/-- WRITE. -/
def State.serveWrite (s : State) (tk : Ticket) (recs : List Rec) : State :=
  let before := s.twin.seq
  let x := s.writeRecs tk.writer [] recs
  x.2.replyMirrored before tk C.ok
    (beBytes 2 recs.length ++ [0, 0] ++ ((recs.zip x.1).map (fun e => e.1.answer e.2)).flatten)

/-- WRITE_TXN: whole or not at all (R60). Each record is judged as it would be once those before it were applied; the reply of
a refused one carries each record's own status (R43). -/
def State.serveTxn (s : State) (tk : Ticket) (recs : List Rec) : State :=
  if recs.isEmpty ∨ 64 < recs.length then s.refuse tk C.range
  else
    let before := s.twin.seq
    let x := s.writeRecs tk.writer (overrides recs) recs
    match (x.1.zip (List.range x.1.length)).find? (fun e => e.1 ≠ 0) with
    | some e => s.reply tk e.1 (beBytes 2 e.2 ++ [0, 0] ++ ((recs.zip x.1).map (fun r => r.1.answer r.2)).flatten)
    | none =>
      x.2.replyMirrored before tk C.ok (beBytes 2 recs.length ++ [0, 0] ++ (recs.map (fun r => r.answer C.ok)).flatten)

/-! ## SUBSCRIBE (R63) -/

/-- The subscriptions of a session slot. -/
def State.subsOf (s : State) (slot : Nat) : List Sub := s.proto.subs.filter (fun u => u.slot = slot)

/-- The number of a slot's subscriptions shown. -/
def State.showSubs (s : State) (slot : Nat) : State := s.setN (O.slot_subscriptions slot) (s.subsOf slot).length

/-- The code for the address pattern of an add: a pattern that names no object is RANGE, a single object is judged as a READ
of it (R4, R63). -/
def State.judgePattern (s : State) (role fam inst sub : Nat) : Nat :=
  if !families.contains fam then C.range
  else if !s.served fam then C.locked
  else if inst ≠ 0xFFFF ∧ sub ≠ 0xFF then s.judgeRead role false ⟨fam, inst, sub⟩
  else if (patternKeys fam inst sub).any s.objExists then 0 else C.range

/-- SUBSCRIBE with operation add. -/
def State.subscribe (s : State) (tk : Ticket) (mode interval fam inst sub : Nat) : State :=
  if 2 < mode ∨ (mode ≠ 0 ∧ (interval < 10 ∨ 60000 < interval)) then s.refuse tk C.range
  else
    match s.judgePattern tk.role fam inst sub with
    | 0 =>
      let mine := s.subsOf tk.slot
      let n := (s.pick (mine.map (fun u => u.num)) 1 65535 60).getD 0
      let u : Sub := ⟨tk.slot, n, mode, interval, fam, inst, sub, s.now⟩
      let m := (s.matched tk.role u).length
      if 256 ≤ mine.length ∨ 4096 ≤ s.proto.subs.length ∨ 4096 < m then s.refuse tk C.busy
      else
        (({ s with proto := { s.proto with subs := s.proto.subs ++ [u] } } : State).showSubs tk.slot).reply tk C.ok
          (beBytes 2 n ++ beBytes 2 m)
    | c => s.refuse tk c

/-- Subscriptions of a slot end, with what is queued for them. -/
def State.unsubscribe (s : State) (slot : Nat) (p : Nat → Bool) : State :=
  (({ s with proto := { s.proto with subs := s.proto.subs.filter (fun u => !(u.slot == slot && p u.num)) } } : State).modSession
    slot (fun x => { x with evq := x.evq.filter (fun e => !p e.num) })).showSubs slot

/-- SUBSCRIBE (Table 2.10). -/
def State.serveSubscribe (s : State) (tk : Ticket) (b : Bytes) : State :=
  if b.length ≠ 12 then s.refuse tk C.range
  else if field b 11 1 ≠ 0 then s.refuse tk C.type
  else
    match field b 0 1 with
    | 1 => s.subscribe tk (field b 1 1) (field b 2 2) (field b 6 2) (field b 8 2) (field b 10 1)
    | 2 =>
      if (s.subsOf tk.slot).any (fun u => u.num = field b 4 2) then
        (s.unsubscribe tk.slot (fun n => n == field b 4 2)).refuse tk C.ok
      else s.refuse tk C.range
    | 3 => (s.unsubscribe tk.slot (fun _ => true)).refuse tk C.ok
    | _ => s.refuse tk C.range

/-! ## TAKE (R126 to R134) -/

/-- The instant T of a take entry on its time base; none where its TIME80 is badly encoded. -/
def takeInstant (b : Bytes) : Option Nat := time80Of (slice b 12 10)

/-- The code that a take entry itself is refused with, before its placement: fields, T, and identifiers (R28, R44, R130). -/
def State.judgeTake (s : State) (e : TakeEntry) (at' : Option Nat) : Except Nat Dst :=
  if 2 < e.mode then .error C.range
  else
    let timedBad : Bool := e.mode == 2 && (decide (3 < e.tb) || (match at' with
      | none => true
      | some t => decide (t < s.tbNow e.tb) || decide (s.tbNow e.tb + s.nat O.takes_timed_horizon * nsPerSec < t)))
    if timedBad then .error C.range
    else match s.judgeDst e.dst with
      | .error c => .error c
      | .ok d => match s.judgeSrc d.ess e.src with
        | 0 => .ok d
        | c => .error c

/-- The switch instant S of a TIMED take, on its destination's time base (R112, R131). -/
def State.takeS (s : State) (d : Dst) (e : TakeEntry) : Nat :=
  let b := s.beat d
  b.atOrAfter ((e.instant : Int) + s.tbDiff b.tb e.tb).toNat

/-- The slot of a take shows its entry (Table 5.6). -/
def State.fillSlot (s : State) (slot : Nat) (tk : Ticket) (e : TakeEntry) (inst : Option Nat) (prio : Bool) : State :=
  let s1 := (((s.clearSlot slot).setN (O.take_state slot) 1).setN (O.take_destination slot) (s.normId e.dst)).setN
    (O.take_source slot) (s.normId e.src)
  let s2 := (((s1.setN (O.take_mode slot) e.mode).setN (O.take_tag slot) e.tag).setN (O.take_session slot) tk.ident).setN
    (O.take_accepted_at slot) (s.tbNow 0)
  let s3 := s2.setN (O.take_instant slot) (inst.getD 0)
  { (s3.setN (O.take_flags slot) (b01 prio)) with
    sw := { s3.sw with finals := s3.sw.finals.filter (fun f => f.1 ≠ slot) } }

/-- A take is taken up: its slot, its record, its task; it supersedes what it meets on its destination (R113, R122, R127). -/
def State.admitTake (s : State) (tk : Ticket) (slot : Nat) (d : Dst) (e : TakeEntry) (prio : Bool) : State :=
  let n := s.placer.nextNum
  let inst := if e.mode = 2 then some (s.takeS d e) else none
  let r : TakeRec := ⟨n, slot, d, s.normId e.src, e.mode, prio, false, none, inst, some tk, 1, none, none, none⟩
  let s1 := s.fillSlot slot tk e inst prio
  let s2 : State := { s1 with
    sw := { s1.sw with takes := s1.sw.takes ++ [r] },
    placer := { s1.placer with nextNum := n + 1 },
    proto := { s1.proto with priority := if prio then s1.proto.priority ++ [n] else s1.proto.priority } }
  (((s2.breakAway d).supersede d n).enqueue (.take n)).retryShort

/-- The destination of a take is held otherwise: by a salvo, or by a head (R128, R258). -/
def State.takeBarred (s : State) (d : Dst) : Bool :=
  s.salvoHeld d || (d.ess == .video && (s.boundHead d.idx).isSome)

/-- TAKE (Table 2.9). -/
def State.serveTake (s : State) (tk : Ticket) (prio : Bool) (b : Bytes) : State :=
  let e := (takeEntryOf b).1
  if b.length ≠ 24 then s.refuse tk C.range
  else if field b 22 2 ≠ 0 then s.refuse tk C.type
  else if tk.role < 1 then s.refuse tk C.denied
  else if s.standby then s.refuse tk C.locked
  else if prio ∧ 16 ≤ s.proto.priority.length then (s.count O.sec_priority_overflows).refuse tk C.busy
  else if s.inLull then s.refuse tk C.busy
  else
    match s.judgeTake e (takeInstant b) with
    | .error c => (s.noteRefusal (c, 0) (s.normId e.dst)).refuse tk c
    | .ok d =>
      if s.takeBarred d then (s.noteRefusal (C.busy, 0) (s.dstId d)).refuse tk C.busy
      else if 256 ≤ s.queued then (s.noteRefusal (C.busy, 12) (s.dstId d)).refuse tk C.busy
      else match s.nextSlot with
        | none => (s.noteRefusal (C.busy, 0) (s.dstId d)).refuse tk C.busy
        | some slot => s.admitTake tk slot d e prio

/-! ## Salvo messages (R138, R141, R144) -/

/-- A salvo request that its checks let through to `f`, for the slot that it names; a salvo message needs the role Operator and
a primary. -/
def State.salvoRequest (s : State) (tk : Ticket) (b : Bytes) (n : Nat) (f : State → Nat → Nat × State) : State :=
  if b.length ≠ n then s.refuse tk C.range
  else if tk.role < 1 then s.refuse tk C.denied
  else if s.standby then s.refuse tk C.locked
  else
    match s.salvoNamed (field b 0 4) with
    | none => s.refuse tk C.range
    | some k =>
      let before := s.twin.seq
      let r := f s k
      if r.1 = 0 then r.2.replyMirrored before tk C.ok [] else s.refuse tk r.1

/-- SALVO_PREPARE. -/
def State.servePrepare (s : State) (tk : Ticket) (b : Bytes) : State :=
  if b.length = 18 ∧ field b 5 1 ≠ 0 then s.refuse tk C.type
  else
    s.salvoRequest tk b 18 (fun st k =>
      if st.inLull then (C.busy, st)
      else match time80Of (slice b 8 10) with
        | none => (C.range, st)
        | some e => st.prepareSalvo k (field b 4 1) (field b 6 2) e)

/-- SALVO_POUR. -/
def State.servePour (s : State) (tk : Ticket) (b : Bytes) : State := s.salvoRequest tk b 4 (fun st k => st.askPour k)

/-- SALVO_DROP. -/
def State.serveDrop (s : State) (tk : Ticket) (b : Bytes) : State := s.salvoRequest tk b 4 (fun st k => st.askDrop k)

/-! ## Bulk transfers (R65, R66) -/

/-- The bulk transfers of a slot. -/
def State.bulksOf (s : State) (slot : Nat) : List Bulk := s.proto.bulks.filter (fun b => b.slot = slot)

/-- A handle number that may be issued: not in use, and not resting (R66). -/
def State.freeHandle (s : State) : Nat :=
  (s.pick (s.proto.bulks.map (fun b => b.handle) ++
    (s.proto.retired.filter (fun r => s.now < r.until')).map (fun r => r.handle)) 1 65535 61).getD 0

/-- A bulk transfer opens: a read holds the value as it stands (log entry 38). -/
def State.openBulk (s : State) (tk : Ticket) (k : Key) (write : Bool) (total : Nat) : State :=
  let h := s.freeHandle
  let v := encVal .oct (s.read k)
  let b : Bulk := ⟨h, tk.slot, k, write, if write then total else v.length, if write then [] else [(0, v)], s.now⟩
  ({ s with proto := { s.proto with
      bulks := s.proto.bulks ++ [b], retired := s.proto.retired.filter (fun r => r.handle ≠ h) } } : State).reply tk C.ok
    (beBytes 2 h)

/-- BULK_OPEN. -/
def State.serveBulkOpen (s : State) (tk : Ticket) (b : Bytes) : State :=
  let k : Key := ⟨field b 0 2, field b 2 2, field b 4 1⟩
  let write : Bool := field b 5 1 == 1
  if b.length ≠ 10 ∨ 1 < field b 5 1 then s.refuse tk C.range
  else
    match (if write then s.judgeWrite tk.writer k else s.judgeRead tk.role false k), descOf k with
    | 0, some d =>
      if d.ty ≠ .oct then s.refuse tk C.type
      else if write ∧ s.lockedHere k then s.refuse tk C.locked
      else if write ∧ (field b 6 4 = 0 ∨ 16777216 < field b 6 4) then s.refuse tk C.range
      else if 4 ≤ (s.bulksOf tk.slot).length ∨ 16 ≤ s.proto.bulks.length then s.refuse tk C.busy
      else if write ∧ s.proto.bulks.any (fun x => x.write ∧ x.key = k) then s.refuse tk C.busy
      else s.openBulk tk k write (field b 6 4)
    | 0, none => s.refuse tk C.range
    | c, _ => s.refuse tk c

/-- The value that the pieces of a transfer make: later pieces lie over earlier ones; none where they leave a gap. -/
def gather (total : Nat) (pieces : List (Nat × Bytes)) : Option Bytes :=
  let put (acc : Bytes) (p : Nat × Bytes) : Bytes := acc.take p.1 ++ p.2 ++ acc.drop (p.1 + p.2.length)
  let ends := sortBy (fun (a b : Nat × Nat) => a.1 < b.1) (pieces.map (fun p => (p.1, p.1 + p.2.length)))
  let reach := ends.foldl (fun r e => if e.1 ≤ r then max r e.2 else r) 0
  if reach = total then some (pieces.foldl put (zeros total)) else none

/-- BULK_CHUNK: a piece of a write is kept; for a read the reply carries up to 1 024 bytes from the offset (log entry 38). -/
def State.serveBulkChunk (s : State) (tk : Ticket) (b : Bytes) : State :=
  let off := field b 4 4
  let data := b.drop 8
  if b.length < 8 then s.refuse tk C.range
  else if field b 2 2 ≠ 0 then s.refuse tk C.type
  else
    match s.proto.bulks.find? (fun x => x.handle = field b 0 2 ∧ x.slot = tk.slot) with
    | none => s.refuse tk C.range
    | some x =>
      let keep (f : Bulk → Bulk) : State := { s with proto := { s.proto with
        bulks := s.proto.bulks.map (fun y => if y.handle = x.handle then { (f y) with lastAt := s.now } else y) } }
      if x.write then
        (if data.isEmpty ∨ 1024 < data.length ∨ x.total < off + data.length then s.refuse tk C.range
         else (keep (fun y => { y with pieces := y.pieces ++ [(off, data)] })).refuse tk C.ok)
      else if !data.isEmpty ∨ (x.total ≤ off ∧ off ≠ 0) then s.refuse tk C.range
      else
        let v := match x.pieces with | p :: _ => p.2 | [] => []
        (keep (fun y => y)).reply tk C.ok (b.take 8 ++ slice v off 1024)

/-- A transfer ends: its number rests for 60 s (R66). -/
def State.retire (s : State) (h : Nat) (committed : Bool) : State :=
  { s with proto := { s.proto with
      bulks := s.proto.bulks.filter (fun x => x.handle ≠ h),
      retired := s.proto.retired.filter (fun r => s.now < r.until') ++ [⟨h, committed, s.now + 60 * nsPerSec⟩] } }

/-- The close of a transfer that is open: a write is committed where its data are whole and its hash matches (R65). -/
def State.commitBulk (s : State) (tk : Ticket) (x : Bulk) (hash : Bytes) : State :=
  match gather x.total x.pieces with
  | none => (s.retire x.handle false).refuse tk C.range
  | some v =>
    if sha256 v ≠ hash then (s.retire x.handle false).refuse tk C.range
    else if !x.write then (s.retire x.handle true).refuse tk C.ok
    else
      let before := s.twin.seq
      let r := s.writeObject tk.writer [] x.key (.b v)
      (r.2.retire x.handle (r.1 == 0)).replyMirrored before tk r.1 []

/-- BULK_CLOSE, and with abort 1 the abort of a transfer: TOO_LATE after the commit (R66). -/
def State.serveBulkClose (s : State) (tk : Ticket) (b : Bytes) : State :=
  let h := field b 0 2
  if b.length ≠ 36 then s.refuse tk C.range
  else if field b 3 1 ≠ 0 then s.refuse tk C.type
  else if 1 < field b 2 1 then s.refuse tk C.range
  else
    match s.proto.bulks.find? (fun x => x.handle = h ∧ x.slot = tk.slot) with
    | some x => if field b 2 1 = 1 then (s.retire h false).refuse tk C.ok else s.commitBulk tk x (b.drop 4)
    | none =>
      match s.proto.retired.find? (fun r => r.handle = h ∧ s.now < r.until') with
      | some r => s.refuse tk (if r.committed then C.tooLate else C.range)
      | none => s.refuse tk C.range

/-! ## One accepted request -/

/-- The body of READ, WRITE and WRITE_TXN: its records, or the code of its refusal (R539). -/
def bodyRecs (b : Bytes) : Except Nat (List Rec) :=
  if b.length < 4 then .error C.range
  else if field b 2 2 ≠ 0 then .error C.type
  else match parseRecs 140 (b.drop 4) with
    | none => .error C.range
    | some l => if l.length = field b 0 2 then .ok l else .error C.range

/-- A request for this chip is carried out, by its type (Table 2.7). -/
def State.serve (s : State) (tk : Ticket) (flags : Nat) (b : Bytes) : State :=
  match tk.typ with
  | 0x01 => (match bodyRecs b with | .ok l => s.serveRead tk (Machine.bit flags 3) l | .error c => s.refuse tk c)
  | 0x02 => (match bodyRecs b with | .ok l => s.serveWrite tk l | .error c => s.refuse tk c)
  | 0x03 => (match bodyRecs b with | .ok l => s.serveTxn tk l | .error c => s.refuse tk c)
  | 0x04 => s.serveSubscribe tk b
  | 0x06 => s.serveTake tk (Machine.bit flags 1) b
  | 0x07 => s.servePrepare tk b
  | 0x08 => s.servePour tk b
  | 0x09 => s.serveDrop tk b
  | 0x0A => s.serveBulkOpen tk b
  | 0x0B => s.serveBulkChunk tk b
  | 0x0C => s.serveBulkClose tk b
  | _ => s.refuse tk C.type

/-- The code of a request whose version, type or flags are refused (R41, R42). -/
def judgeHeader (raw : Bytes) : Nat :=
  let typ := field raw 4 1
  let flags := field raw 5 1
  if field raw 2 1 ≠ 1 then C.type
  else if typ = 0 ∨ 0x0C < typ ∨ typ = 0x05 then C.type
  else if 16 ≤ flags ∨ Machine.bit flags 0 then C.type
  else if (Machine.bit flags 1 && typ != 0x06) || (Machine.bit flags 3 && typ != 0x01) then C.type
  else 0

/-- A request for another chip: its head forwards it over the mesh (R51). -/
def State.forward (s : State) (tk : Ticket) (raw : Bytes) : State :=
  if !s.headsOver tk.target then s.refuse tk C.range
  else if (s.peer tk.target).isNone then s.refuse tk C.busy
  else
    (({ s with proto := { s.proto with forwards := s.proto.forwards ++ [tk] } } : State).count O.mesh_forwarded).emit
      (.notice tk.target (.forward tk.target raw))

/-- An accepted request is judged by its header and target, and carried out (R538). -/
def State.request (s : State) (tk : Ticket) (raw : Bytes) : State :=
  match judgeHeader raw with
  | 0 =>
    if tk.target ≠ 1023 ∧ tk.target ≠ s.chipId then s.forward tk raw
    else (s.serve tk (field raw 5 1) (slice raw 32 (field raw 30 2))).endRekeyed
  | c => s.refuse tk c

/-! ## Sessions and sequences (R54, R55) -/

/-- The transport of a path, as 1010h[n].02 codes it. -/
def pathCode : Path → Nat
  | .mgt0 => 0 | .mgt1 => 1 | .spi => 2 | .mesh => 3

/-- A session's slot shows its latest message. -/
def State.showSlot (s : State) (x : Session) : State :=
  ((((s.setN (O.slot_session x.slot) x.ident).setN (O.slot_role x.slot) x.role).setN (O.slot_transport x.slot)
    (pathCode x.via.path)).setB (O.slot_peer_address x.slot) (if x.via.path = .spi ∨ x.via.path = .mesh then zeros 16 else
      (x.via.peer ++ zeros 16).take 16)).setN (O.slot_highest_sequence x.slot) (maxBy (fun q => q) x.seen)

/-- A new session, in a free slot. -/
def State.openSession (s : State) (role ident : Nat) (key : Bytes) (via : Via) : Option (State × Session) :=
  match s.pick (s.proto.sessions.map (fun x => x.slot)) 1 64 62 with
  | none => none
  | some i =>
    let x : Session := ⟨i, role, ident, key, via, s.now, [], [], [], 0, [], 0⟩
    some ((({ s with proto := { s.proto with sessions := s.proto.sessions ++ [x] } } : State).showSessions), x)

/-- A sequence number against a session: above the highest, or within the window and not seen (R55). -/
def State.freshSeq (s : State) (x : Session) (q : Nat) : Bool :=
  let h := maxBy (fun q => q) x.seen
  h < q || (h - s.nat O.sec_replay_window ≤ q && !x.seen.contains q && q ≠ h)

/-- A session takes a message up. -/
def State.noteMessage (s : State) (x : Session) (q : Nat) (via : Via) : State × Session :=
  let h := max q (maxBy (fun q => q) x.seen)
  let y : Session := { x with
    via := via, lastAt := s.now,
    seen := (q :: x.seen).filter (fun a => h < a + s.nat O.sec_replay_window + 1 || a == h),
    recent := ((q, []) :: x.recent).take 32,
    waiting := x.waiting ++ [q] }
  ((s.modSession x.slot (fun _ => y)).showSlot y, y)

/-- A message that repeats one of the session's last 32: its reply is sent again; one not yet answered has none of its own
(R55). -/
def State.repeatReply (s : State) (x : Session) (q : Nat) (via : Via) : Option State :=
  match x.recent.find? (fun e => e.1 = q) with
  | none => none
  | some e =>
    let y : Session := { x with via := via, lastAt := s.now }
    let s1 := (s.modSession x.slot (fun _ => y)).showSlot y
    some (if e.2.isEmpty then s1 else s1.sendOn via e.2)

/-- The ticket of a message's header. -/
def ticketOf (via : Via) (raw key : Bytes) (slot : Nat) : Ticket :=
  ⟨via, field raw 4 1, field raw 7 1, field raw 8 4, field raw 12 8, field raw 28 2, via.path == .mesh, key, slot⟩

/-- Session identifier, session and sequence are judged, and the message is taken up (R54, R55). -/
def State.takeUp (s : State) (via : Via) (raw key : Bytes) : State :=
  let tk := ticketOf via raw key 0
  let q := field raw 12 8
  if tk.ident = 0 then s.refuse tk C.range
  else if q = 0 then (s.count O.sec_replay_refusals).refuse tk C.denied
  else
    match s.sessionOf tk.role tk.ident with
    | none =>
      (match s.openSession tk.role tk.ident key via with
       | none => s.refuse tk C.busy
       | some (s1, x) => let p := s1.noteMessage x q via; p.1.request { tk with slot := x.slot } raw)
    | some x =>
      if s.freshSeq x q then (let p := s.noteMessage x q via; p.1.request { tk with slot := x.slot, key := x.key } raw)
      else match s.repeatReply x q via with
        | some s1 => s1
        | none => (s.count O.sec_replay_refusals).refuse tk C.denied

/-! ## A message as a whole (R41, R46, R47, R50, R52, R53) -/

/-- A message with `len` delivered bytes arrives on a management path. -/
def State.arrive (s : State) (via : Via) (len : Nat) (raw : Bytes) : State :=
  let role := field raw 7 1
  let key := s.roleKey role
  let ident := field raw 8 4
  let epoch := field raw 20 8
  let n := 32 + field raw 30 2
  let tk := ticketOf via raw key 0
  if (via.path ≠ .spi ∧ 1400 < len) ∨ (via.path = .spi ∧ s.natNow O.sec_spi_enable ≠ 1) then s
  else if len < 32 then (if s.ready then s.count O.sec_tag_failures else s)
  else if !s.ready then s.refuse tk C.notReady
  else if 1400 < len then s.refuse tk C.range
  else if field raw 0 2 ≠ 0x4F44 then s
  else if len ≠ n + 32 ∨ raw.length ≠ len then s.count O.sec_tag_failures
  else if key.isEmpty then s.refuse tk C.denied
  else if messageTag key epoch ident (raw.take n) ≠ raw.drop n then s.count O.sec_tag_failures
  else if epoch ≠ s.epoch then s.refuse tk C.denied
  else s.takeUp via raw key

/-- A request that another chip forwards: its head has verified it (R51). -/
def State.arriveMesh (s : State) (chip : Nat) (raw : Bytes) : State :=
  let via : Via := ⟨.mesh, beBytes 2 chip, 0⟩
  let tk := ticketOf via raw [] 0
  if raw.length < 32 then s
  else if !s.ready then s.refuse tk C.notReady
  else if 1400 < raw.length then s.refuse tk C.range
  else if field raw 0 2 ≠ 0x4F44 then s
  else if raw.length ≠ 64 + field raw 30 2 then s.count O.sec_tag_failures
  else s.takeUp via raw []

/-- A reply that comes back over the mesh leaves under the head's session (R51); an event goes to the session that it names. -/
def State.comeBack (s : State) (raw : Bytes) : State :=
  let role := field raw 7 1
  let ident := field raw 8 4
  let q := field raw 12 8
  let body := slice raw 32 (field raw 30 2)
  if field raw 4 1 = 0x05 then
    match s.sessionOf role ident with
    | none => s
    | some x => s.sendOn x.via (s.message x.via.path x.key 0x05 1 0 role ident q (field raw 28 2) body)
  else
    match s.proto.forwards.find? (fun tk => tk.role = role ∧ tk.ident = ident ∧ tk.seq = q) with
    | none => s
    | some tk =>
      ({ s with proto := { s.proto with forwards := s.proto.forwards.filter (fun x => x ≠ tk) } } : State).reply tk
        (field raw 6 1) body

/-! ## SPI (R48, R49) -/

/-- SPI serves once bring-up has found it enabled (Table 2.14). -/
def State.spiOn (s : State) : Bool := s.natNow O.sec_spi_enable == 1

/-- The changes queued for mode-0 subscriptions of sessions on SPI go out where nothing else waits. -/
def State.spiEvents (s : State) : State :=
  if !s.proto.spiOut.isEmpty then s
  else
    s.proto.subs.foldl (fun st u =>
      match st.session u.slot with
      | some x => if x.via.path = .spi ∧ u.mode = 0 then st.flushSub u.slot u.num else st
      | none => st) s

/-- One reply or event is fetched; no bytes where none is pending. -/
def State.spiPop (s : State) : State :=
  let via : Via := ⟨.spi, [], 0⟩
  match s.proto.spiOut with
  | [] => s.emit (.msg via [])
  | m :: r => ({ s with proto := { s.proto with spiOut := r } } : State).emit (.msg via m)

end Sys2Proof.Machine
end

