-- ==== Sys2Proof/Machine/MessageCommands.lean ====
section
/-! DEFINITION. The commands that bring Odrath messages and the events of the protocol (R41 to R67), and the control messages of the
mesh (R407, R408): one meaning for each, over the operations of Machine/Messages.lean. -/

namespace Sys2Proof.Machine

/-! ## Messages, one meaning for each type -/

/-- READ (R43). -/
def execRead (t : Nat) (via : Via) (raw : Bytes) (s0 : State) : Host.Outcome State Fault Refusal :=
  done s0 ((s0.advance t).arrive via raw.length raw)

/-- READ_DESCRIBE (R45). -/
def execReadDescribe (t : Nat) (via : Via) (raw : Bytes) (s0 : State) : Host.Outcome State Fault Refusal :=
  done s0 ((s0.advance t).arrive via raw.length raw)

/-- WRITE (R60). -/
def execWrite (t : Nat) (via : Via) (raw : Bytes) (s0 : State) : Host.Outcome State Fault Refusal :=
  done s0 ((s0.advance t).arrive via raw.length raw)

/-- WRITE_TXN (R60). -/
def execWriteTxn (t : Nat) (via : Via) (raw : Bytes) (s0 : State) : Host.Outcome State Fault Refusal :=
  done s0 ((s0.advance t).arrive via raw.length raw)

/-- SUBSCRIBE_ADD (R63). -/
def execSubscribeAdd (t : Nat) (via : Via) (raw : Bytes) (s0 : State) : Host.Outcome State Fault Refusal :=
  done s0 ((s0.advance t).arrive via raw.length raw)

/-- SUBSCRIBE_REMOVE (R63). -/
def execSubscribeRemove (t : Nat) (via : Via) (raw : Bytes) (s0 : State) : Host.Outcome State Fault Refusal :=
  done s0 ((s0.advance t).arrive via raw.length raw)

/-- SUBSCRIBE_REMOVE_ALL (R63). -/
def execSubscribeRemoveAll (t : Nat) (via : Via) (raw : Bytes) (s0 : State) : Host.Outcome State Fault Refusal :=
  done s0 ((s0.advance t).arrive via raw.length raw)

/-- TAKE (R126). -/
def execTake (t : Nat) (via : Via) (raw : Bytes) (s0 : State) : Host.Outcome State Fault Refusal :=
  done s0 ((s0.advance t).arrive via raw.length raw)

/-- PRIORITY_TAKE (R62). -/
def execPriorityTake (t : Nat) (via : Via) (raw : Bytes) (s0 : State) : Host.Outcome State Fault Refusal :=
  done s0 ((s0.advance t).arrive via raw.length raw)

/-- SALVO_PREPARE (R138). -/
def execSalvoPrepare (t : Nat) (via : Via) (raw : Bytes) (s0 : State) : Host.Outcome State Fault Refusal :=
  done s0 ((s0.advance t).arrive via raw.length raw)

/-- SALVO_POUR (R141). -/
def execSalvoPour (t : Nat) (via : Via) (raw : Bytes) (s0 : State) : Host.Outcome State Fault Refusal :=
  done s0 ((s0.advance t).arrive via raw.length raw)

/-- SALVO_DROP (R144). -/
def execSalvoDrop (t : Nat) (via : Via) (raw : Bytes) (s0 : State) : Host.Outcome State Fault Refusal :=
  done s0 ((s0.advance t).arrive via raw.length raw)

/-- BULK_OPEN (R65). -/
def execBulkOpen (t : Nat) (via : Via) (raw : Bytes) (s0 : State) : Host.Outcome State Fault Refusal :=
  done s0 ((s0.advance t).arrive via raw.length raw)

/-- BULK_CHUNK (R65). -/
def execBulkChunk (t : Nat) (via : Via) (raw : Bytes) (s0 : State) : Host.Outcome State Fault Refusal :=
  done s0 ((s0.advance t).arrive via raw.length raw)

/-- BULK_CLOSE (R66). -/
def execBulkClose (t : Nat) (via : Via) (raw : Bytes) (s0 : State) : Host.Outcome State Fault Refusal :=
  done s0 ((s0.advance t).arrive via raw.length raw)

/-- BULK_ABORT (R66). -/
def execBulkAbort (t : Nat) (via : Via) (raw : Bytes) (s0 : State) : Host.Outcome State Fault Refusal :=
  done s0 ((s0.advance t).arrive via raw.length raw)

/-! ## Intervals and timeouts -/

/-- The subscription of a slot and number. -/
def State.subOf (s : State) (slot sub : Nat) : Option Sub := s.proto.subs.find? (fun u => u.slot = slot ∧ u.num = sub)

/-- A mode-1 report (R64): every matched object's present value, with the count of objects of the last one that had not been
sent. -/
def State.periodic (s : State) (u : Sub) (unsent : Nat) : State :=
  match s.subRole u with
  | some role => s.sendEvents u.slot u.num unsent (s.tbNow 0) (s.matched role u)
  | none => s

/-- EVENT_INTERVAL (R64): the changes queued for a mode-2 subscription leave. -/
def execEventInterval (t slot sub : Nat) (s0 : State) : Host.Outcome State Fault Refusal :=
  let s := s0.advance t
  done s0 (match s.subOf slot sub with
    | some u => if u.mode = 2 then s.flushSub slot sub else s
    | none => s)

/-- PERIODIC_REPORT (R64). -/
def execPeriodicReport (t slot sub unsent : Nat) (s0 : State) : Host.Outcome State Fault Refusal :=
  let s := s0.advance t
  done s0 (match s.subOf slot sub with
    | some u => if u.mode = 1 then s.periodic u unsent else s
    | none => s)

/-- BULK_HANDLE_TIMEOUT (R65): a transfer without a chunk for 10 s aborts. -/
def execBulkHandleTimeout (t handle : Nat) (s0 : State) : Host.Outcome State Fault Refusal :=
  let s := s0.advance t
  done s0 (match s.proto.bulks.find? (fun x => x.handle = handle) with
    | some x => if x.lastAt + 10 * nsPerSec ≤ s.now then s.retire handle false else s
    | none => s)

/-- SESSION_IDLE_TIMEOUT (R56): a session that has sent no message for the idle timeout closes. -/
def execSessionIdleTimeout (t slot : Nat) (s0 : State) : Host.Outcome State Fault Refusal :=
  let s := s0.advance t
  done s0 (match s.session slot with
    | some x => if x.lastAt + s.nat O.sec_idle_timeout * nsPerSec ≤ s.now then s.endSession slot else s
    | none => s)

/-! ## SPI (R48, R49) -/

/-- SPI_SEND_MESSAGE (R48). -/
def execSpiSendMessage (t len : Nat) (raw : Bytes) (s0 : State) : Host.Outcome State Fault Refusal :=
  let s := s0.advance t
  done s0 (if s.spiOn then s.arrive ⟨.spi, [], 0⟩ len raw else s)

/-- SPI_FETCH (R48). -/
def execSpiFetch (t : Nat) (s0 : State) : Host.Outcome State Fault Refusal :=
  let s := s0.advance t
  done s0 (if s.spiOn then s.spiEvents.spiPop else s)

/-- The message under way on SPI is discarded, and a reply queued (R49). Header fields that have not arrived are free (log entry
39). -/
def State.spiGivesUp (s : State) (raw : Bytes) : State :=
  let rest : Bytes := (List.range 32).map (fun i => BitVec.ofNat 8 (s.freeNat (940 + i)))
  let h := (raw ++ rest.drop raw.length)
  s.refuse (ticketOf ⟨.spi, [], 0⟩ h (s.roleKey (field h 7 1)) 0) (if s.ready then C.busy else C.notReady)

/-- SPI_WAIT_TIMEOUT (R49). -/
def execSpiWaitTimeout (t : Nat) (raw : Bytes) (s0 : State) : Host.Outcome State Fault Refusal :=
  let s := s0.advance t
  done s0 (if s.spiOn then s.spiGivesUp raw else s)

/-! ## Control messages of the mesh (R407, R408) -/

/-- A chip is heard: its record made or changed. -/
def State.hearChip (s : State) (chip : Nat) (f : MeshPeer → MeshPeer) : State :=
  if chip = s.chipId ∨ 1023 ≤ chip then s
  else match s.peer chip with
    | some _ => { s with mesh := { s.mesh with peers := s.mesh.peers.map (fun p => if p.chip = chip then f p else p) } }
    | none => { s with mesh := { s.mesh with peers := s.mesh.peers ++ [f ⟨chip, s.now, 3, 0, [], []⟩] } }

/-- What a whole control message does. -/
def State.hearControl (s : State) (m : CtlMsg) : State :=
  match m with
  | .heartbeat chip st rev => s.hearChip chip (fun p => { p with lastBeat := s.now, state := st, rev := rev })
  | .linkList chip links booked => (s.hearChip chip (fun p => { p with links := links, booked := booked })).judgeLinks
  | .odrath chip raw => if Machine.bit (field raw 5 1) 0 then s.comeBack raw else s.arriveMesh chip raw
  | .salvoQuery chip slot gen =>
    let e := match s.salvo slot with | some x => x.e | none => s.nat (O.salvo_execution_time slot)
    s.emit (.notice chip (.answer s.chipId slot (s.salvoOutcome slot gen) e (s.nat (O.salvo_time_base slot))))
  | .salvoAnswer coord slot outcome e tb =>
    (match outcome with
     | 1 => (s.pourPart coord slot e tb).reviewDones
     | 2 => (match s.part coord slot with | some p => if p.state = 2 then s else s.dropPart coord slot | none => s)
     | _ => s)
  | .routeAsk asker dst src mbps limit => s.coordinate asker dst src mbps limit
  | .reserved chip ident code detail => s.partAnswered chip ident (code, detail)
  | .routeResult dst code detail => s.routeRefusedHere dst (code, detail)
  | .probe chip => s.emit (.notice chip .probeReply)
  | .probeReply _ => if s.twin.probe = 1 then { s with twin := { s.twin with probe := 2 } } else s

/-- MESH_CONTROL_MESSAGE (R408): one with a missing fragment is discarded whole. -/
def execMeshControlMessage (t l : Nat) (complete : Bool) (m : CtlMsg) (s0 : State) : Host.Outcome State Fault Refusal :=
  let s := s0.advance t
  done s0 (if 1024 ≤ l ∨ s.nat (O.mlink_state (1 + l)) ≠ 3 then s
    else if !complete then s.count O.mesh_control_discarded
    else (s.count O.mesh_control_received).hearControl m)

end Sys2Proof.Machine
end

