-- ==== Sys2Proof/Machine/PacketsCommands.lean ====
section
/-! DEFINITION. The events of packet video (R222 to R251): one meaning for each, over the operations of Machine/Packets.lean. -/

namespace Sys2Proof.Machine

/-- ETH_LINK_CHANGE (R222). -/
def execEthLinkChange (t p : Nat) (up : Bool) (s0 : State) : Host.Outcome State Fault Refusal :=
  let s := s0.advance t
  done s0 (if s.laneExists p && s.isEth p then s.ethLink p up else s)

/-- ADDRESS_RESOLVE_TIMEOUT (R223): after 1 s without an answer the flow reads error and its leg sends nothing. -/
def execAddressResolveTimeout (t fam inst leg : Nat) (s0 : State) : Host.Outcome State Fault Refusal :=
  let s := s0.advance t
  done s0 (if s.packet.resolves.any (fun r => r.fam = fam ∧ r.inst = inst ∧ r.leg = leg ∧ r.mac.isNone ∧ r.since + nsPerSec ≤ s.now) then
      s.setN (O.flow_state fam inst) 4
    else s)

/-- RX_PACKET (R235). -/
def execRxPacket (t fam inst leg : Nat) (pkt : RxPacket) (s0 : State) : Host.Outcome State Fault Refusal :=
  let s := s0.advance t
  done s0 (
    let s1 := if s.laneExists pkt.port && s.isEth pkt.port then s.count (O.eth_rx_frames (1 + pkt.port)) 1 64 else s
    match s1.rxOf fam inst with
    | some r => if (s1.legs fam inst).contains leg then s1.receive r leg pkt else s1
    | none => s1)

/-- MERGE_LOST_DECLARE (R241): the merge window has passed since a later packet arrived. -/
def execMergeLostDeclare (t fam inst seq : Nat) (s0 : State) : Host.Outcome State Fault Refusal :=
  let s := s0.advance t
  let m := seqMod fam inst
  done s0 (match (s.rxOf fam inst).bind (fun r => r.missing.find? (fun e =>
      e.1 % m = seq % m ∧ e.2 + s.nat (O.flow_merge_window fam inst) ≤ s.now)) with
    | none => s
    | some e => (s.modRx fam inst (fun r => { r with missing := r.missing.filter (fun x => x ≠ e), lost := r.lost ++ [e.1] })).count
        (O.flow_lost fam inst))

/-- FRAME_RELEASE (R237). -/
def execFrameRelease (t g : Nat) (s0 : State) : Host.Outcome State Fault Refusal :=
  let s := s0.advance t
  done s0 (if g < 2048 ∧ s.flag (O.grp_enable (2048 + g)) then s.releaseFrame g else s)

/-- STANDALONE_RELEASE (R239): the samples or ancillary packets of one RTP packet; audio that has not been accepted is
replaced by zero and its sample instants counted in late. -/
def execStandaloneRelease (t fam inst seq : Nat) (s0 : State) : Host.Outcome State Fault Refusal :=
  let s := s0.advance t
  let m := seqMod fam inst
  done s0 (match s.rxOf fam inst with
    | none => s
    | some r =>
      match r.held.find? (fun h => h.seq % m = seq % m) with
      | some h =>
        let s1 := s.modRx fam inst (fun r => { r with held := r.held.filter (fun x => x ≠ h), lost := r.lost.filter (fun q => h.seq < q + 3000) })
        if fam = 0x7000 then s1.count ⟨fam, inst, 0x20⟩ else s1
      | none => if fam = 0x3700 then s.count (O.flow_late fam inst) (s.aflowSamples inst) else s)

/-- LEG_DOWN (R243): the leg has accepted no packet for 10 ms. -/
def execLegDown (t fam inst leg : Nat) (s0 : State) : Host.Outcome State Fault Refusal :=
  let s := s0.advance t
  done s0 (match s.rxOf fam inst with
    | none => s
    | some r =>
      let last := (if leg = 0 then r.lastA else r.lastB).getD 0
      if !(s.legs fam inst).contains leg ∨ s.now < last + 10000000 then s
      else
        let tile := s.flowTile fam inst
        let s1 := s.modRx fam inst (fun r => if leg = 0 then { r with downA := true } else { r with downB := true })
        let s2 := (s1.follow (F.legDown tile) (s.legPort fam inst leg) inst true).showFlow fam inst
        let all : Bool := (s.legs fam inst).all (fun l => l = leg ∨ (if l = 0 then r.downA else r.downB))
        if all then
          let s3 := s2.follow (F.flowLos tile) (flowKey fam inst) 0 true
          let g := s.flowGroup fam inst
          if fam = 0x3700 ∧ inst < 12288 ∧ g < 2048 then s3.sourceGone (1024 + g) else s3
        else s2)

/-- MERGE_SKEW_CHECK (R242): the mean path differential has exceeded the merge window for 1 s. -/
def execMergeSkewCheck (t fam inst : Nat) (s0 : State) : Host.Outcome State Fault Refusal :=
  let s := s0.advance t
  done s0 (match s.rxOf fam inst with
    | none => s
    | some r =>
      let l := r.diffs.filter (fun e => s.now ≤ e.1 + nsPerSec)
      let tile := s.flowTile fam inst
      let s1 := s.setI (O.flow_path_diff fam inst) (meanDiff l)
      if s.nat (O.flow_merge_window fam inst) < (meanDiff l).natAbs then
        let since := r.skewSince.getD s.now
        let s2 := s1.modRx fam inst (fun r => { r with skewSince := some since })
        if since + nsPerSec ≤ s.now then s2.follow (F.mergeSkew tile) (flowKey fam inst) (meanDiff l).natAbs true else s2
      else
        let s2 := s1.modRx fam inst (fun r => { r with skewSince := none })
        let others := s.packet.rx.any (fun q => q != r && s.flowTile q.fam q.inst == tile &&
          (match q.skewSince with | some a => a + nsPerSec ≤ s.now | none => false))
        s2.followShared (F.mergeSkew tile) 0 0 false others)

/-- MCAST_QUERY (R246): the querier is heard, and the memberships of the interface that the query asks for are reported. -/
def execMcastQuery (t p : Nat) (v6 : Bool) (group : Bytes) (s0 : State) : Host.Outcome State Fault Refusal :=
  let s := s0.advance t
  let k := if v6 then O.eth_mld_querier (1 + p) else O.eth_igmp_querier (1 + p)
  done s0 (
    if !(s.laneExists p && s.isEth p) then s
    else
      let s1 := if s.nat k = 0 then s.setN k 1 else s
      (s.packet.members.filter (fun m => s.legPort m.fam m.inst m.leg = p ∧ isV4 (s.legAddress m.fam m.inst m.leg) = !v6 ∧
        (group.isEmpty ∨ group = s.legAddress m.fam m.inst m.leg))).foldl
        (fun st m => st.emit (.membership p (st.legAddress m.fam m.inst m.leg) true)) s1)

/-- UNSOLICITED_REPORT (R246): the next of a leg's reports. -/
def execUnsolicitedReport (t fam inst leg : Nat) (s0 : State) : Host.Outcome State Fault Refusal :=
  let s := s0.advance t
  done s0 (if s.packet.members.any (fun m => m.fam = fam ∧ m.inst = inst ∧ m.leg = leg ∧ 0 < m.reports) then
      ({ s with packet := { s.packet with members := s.packet.members.map (fun m =>
        if m.fam = fam ∧ m.inst = inst ∧ m.leg = leg then { m with reports := m.reports - 1 } else m) } } : State).emit
        (.membership (s.legPort fam inst leg) (s.legAddress fam inst leg) true)
    else s)

/-- LEAVE_HOLD_EXPIRY (R247). -/
def execLeaveHoldExpiry (t fam inst : Nat) (s0 : State) : Host.Outcome State Fault Refusal :=
  let s := s0.advance t
  done s0 (if s.packet.members.any (fun m => m.fam == fam && m.inst == inst && (match m.leaveAt with | some a => a ≤ s.now | none => false)) then
      s.leaveFlow fam inst
    else s)

/-- MCAST_COMPAT_ENTER (R248): a querier of an older version is heard. -/
def execMcastCompatEnter (t p : Nat) (v6 : Bool) (s0 : State) : Host.Outcome State Fault Refusal :=
  let s := s0.advance t
  done s0 (if !(s.laneExists p && s.isEth p) then s
    else (s.setN (if v6 then O.eth_mld_querier (1 + p) else O.eth_igmp_querier (1 + p)) 2).follow (F.mcastCompat (p / 64)) p (b01 v6) true)

/-- MCAST_COMPAT_EXPIRY (R248): the older-version timer expires. -/
def execMcastCompatExpiry (t p : Nat) (v6 : Bool) (s0 : State) : Host.Outcome State Fault Refusal :=
  let s := s0.advance t
  let k := if v6 then O.eth_mld_querier (1 + p) else O.eth_igmp_querier (1 + p)
  done s0 (if s.nat k = 2 then
      let s1 := s.setN k 0
      let others := (List.range 64).any (fun i => let q := 1 + 64 * (p / 64) + i
        s1.nat (O.eth_igmp_querier q) = 2 ∨ s1.nat (O.eth_mld_querier q) = 2)
      s1.followShared (F.mcastCompat (p / 64)) p 0 false others
    else s)

/-- IS05_ACTIVATION (R251): applied at once, or staged for its TAI instant. A refused activation changes nothing. -/
def execIs05Activation (t fam inst : Nat) (legs : List Is05Leg) (sched : Option Nat) (s0 : State) :
    Host.Outcome State Fault Refusal :=
  let s := s0.advance t
  done s0 (
    if !s.nmosWrites then s.emit (.result (O.flow_enable fam inst) C.denied)
    else
      match sched with
      | none => let r := s.activateIs05 fam inst legs; r.2.emit (.result (O.flow_enable fam inst) r.1)
      | some a => { s with packet := { s.packet with is05 := s.packet.is05.filter (fun x => ¬(x.fam = fam ∧ x.inst = inst)) ++ [⟨fam, inst, legs, a⟩] } })

/-- IS05_SCHEDULED_ACTIVATION (R251): the TAI instant of a staged activation has come on TB0. -/
def execIs05ScheduledActivation (t fam inst : Nat) (s0 : State) : Host.Outcome State Fault Refusal :=
  let s := s0.advance t
  done s0 (match s.packet.is05.find? (fun x => x.fam = fam ∧ x.inst = inst ∧ x.at' ≤ s.tbNow 0) with
    | none => s
    | some x =>
      let r := s.activateIs05 fam inst x.legs
      let s1 : State := if r.1 = 0 then { r.2 with packet := { r.2.packet with is05 := r.2.packet.is05.filter (fun y => y ≠ x) } } else r.2
      s1.emit (.result (O.flow_enable fam inst) r.1))

/-- ARP_ND_ECHO_FRAME_RX (R222, R223): a frame with a bad FCS is discarded and counted apart. -/
def execArpNdEchoFrameRx (t p : Nat) (f : NeighbourFrame) (s0 : State) : Host.Outcome State Fault Refusal :=
  let s := s0.advance t
  done s0 (if s.laneExists p && s.isEth p then
      (if f = .badFcs then s.count (O.eth_rx_fcs_errors (1 + p)) else (s.count (O.eth_rx_frames (1 + p)) 1 64).neighbour p f)
    else s)

/-- NMOS_REGISTRATION (R249, R250): the primary registers where it finds a registry; the standby does not. -/
def execNmosRegistration (t : Nat) (found : Bool) (s0 : State) : Host.Outcome State Fault Refusal :=
  let s := s0.advance t
  done s0 (
    if s.natNow O.pk_nmos_enable ≠ 1 then s.setN O.pk_nmos_state 0
    else if s.standby then s.setN O.pk_nmos_state 3
    else if found then (s.setN O.pk_nmos_state 2).emit s.nmosNode else s.setN O.pk_nmos_state 1)

end Sys2Proof.Machine
end

