-- ==== Sys2Proof/Machine/PowerCommands.lean ====
section
/-! DEFINITION. The events of power, bring-up and Lull (R72 to R80, R507 to R517, R536): one meaning for each, over the operations of
Machine/Power.lean. -/

namespace Sys2Proof.Machine

/-- VOLTAGE_LOOP_PERIOD (R74). -/
def execVoltageLoopPeriod (t : Nat) (die : Nat) (s0 : State) : Host.Outcome State Fault Refusal :=
  done s0 ((s0.advance t).voltageLoop die)

/-- PACE_MONITOR_WINDOW (R72). -/
def execPaceMonitorWindow (t : Nat) (tile pace : Nat) (s0 : State) : Host.Outcome State Fault Refusal :=
  done s0 ((s0.advance t).paceWindow tile pace)

/-- PACE_MARGIN_TIMEOUT (R76). -/
def execPaceMarginTimeout (t : Nat) (die : Nat) (s0 : State) : Host.Outcome State Fault Refusal :=
  done s0 ((s0.advance t).paceTimeout die)

/-- REGULATOR_POLL (R78). -/
def execRegulatorPoll (t : Nat) (die : Nat) (ack : Bool) (vout status : Nat) (s0 : State) : Host.Outcome State Fault Refusal :=
  done s0 ((s0.advance t).pollRegulator die ack vout status)

/-- RAIL_MONITOR_TRIP (R508). -/
def execRailMonitorTrip (t : Nat) (rail : Nat) (high : Bool) (mv : Nat) (s0 : State) : Host.Outcome State Fault Refusal :=
  done s0 ((s0.advance t).railTrip rail high mv)

/-- BROWNOUT_END (R508). -/
def execBrownoutEnd (t : Nat) (rail lowest : Nat) (s0 : State) : Host.Outcome State Fault Refusal :=
  done s0 ((s0.advance t).brownEnd rail lowest)

/-- BROWNOUT_RING_WRITE (R508). -/
def execBrownoutRingWrite (t : Nat) (s0 : State) : Host.Outcome State Fault Refusal :=
  done s0 ((s0.advance t).writeRing)

/-- PWRGD_FALL (R508). -/
def execPwrgdFall (t : Nat) (s0 : State) : Host.Outcome State Fault Refusal :=
  done s0 ((s0.advance t).pwrgdFall)

/-- RESET_N_LOW (R507). -/
def execResetNLow (t : Nat) (s0 : State) : Host.Outcome State Fault Refusal :=
  done s0 ((s0.advance t).resetLow)

/-- BRINGUP_START (R509). -/
def execBringupStart (t : Nat) (s0 : State) : Host.Outcome State Fault Refusal :=
  done s0 ((s0.advance t).bringupStart)

/-- BRINGUP_OVERRUN (R511). -/
def execBringupOverrun (t : Nat) (s0 : State) : Host.Outcome State Fault Refusal :=
  done s0 ((s0.advance t).bringupOverrun)

/-- WAKE_N_FALL (R516): by the twin, or by the card. -/
def execWakeNFall (t : Nat) (twin : Bool) (s0 : State) : Host.Outcome State Fault Refusal :=
  done s0 ((s0.advance t).wakeLull (if twin then 3 else 1))

/-- LULL_WAKE_DONE (R517). -/
def execLullWakeDone (t : Nat) (s0 : State) : Host.Outcome State Fault Refusal :=
  done s0 ((s0.advance t).lullOver)

/-- LULL_WAKE_LATE (R517). -/
def execLullWakeLate (t : Nat) (s0 : State) : Host.Outcome State Fault Refusal :=
  done s0 ((s0.advance t).lullLate)

/-- UNDERVOLT_TRIP (R80). -/
def execUndervoltTrip (t : Nat) (die mv : Nat) (s0 : State) : Host.Outcome State Fault Refusal :=
  done s0 ((s0.advance t).undervolt die mv)

/-- JTAG_EXTEST (R536). -/
def execJtagExtest (t : Nat) (s0 : State) : Host.Outcome State Fault Refusal :=
  done s0 ((s0.advance t).extest)

/-- TAP_RESET (R536). -/
def execTapReset (t : Nat) (s0 : State) : Host.Outcome State Fault Refusal :=
  done s0 ((s0.advance t).tapReset)

end Sys2Proof.Machine
end

