-- ==== Sys2Proof/Machine/SalvosCommands.lean ====
section
/-! DEFINITION. The events of takes, salvos, placement and cross-chip routes (R109 to R176): one meaning for each, over the operations of Machine/Salvos.lean. -/

namespace Sys2Proof.Machine

/-- PLACER_TASK_START (R167): where the placer is free and a task waits, it takes up the next. A standby does not choose
placements (R166). -/
def execPlacerTaskStart (t : Nat) (s0 : State) : Host.Outcome State Fault Refusal :=
  let s := s0.advance t
  done s0 (match s.placer.running, if s.standby then none else s.nextTask with
    | none, some task => s.startHeaded task
    | _, _ => s)

/-- PLACEMENT_COMPLETE (R152). -/
def execPlacementComplete (t : Nat) (s0 : State) : Host.Outcome State Fault Refusal :=
  let s := s0.advance t
  done s0 (match s.placer.running with | some (task, v) => (s.completeHeaded task v).reviewMembers | none => s)

/-- TIMED_TAKE_ARM (R112): 1 ms before S; slot 0 stands for the takes that have no slot. -/
def execTimedTakeArm (t slot : Nat) (s0 : State) : Host.Outcome State Fault Refusal :=
  let s := s0.advance t
  done s0 ((s.sw.takes.filter (fun r => r.slot = slot ∧ r.state = 3)).foldl (fun st r => st.pathReady r.num) s)

/-- SWITCH_INSTANT (R109). -/
def execSwitchInstant (t : Nat) (d : Dst) (s0 : State) : Host.Outcome State Fault Refusal :=
  done s0 (((s0.advance t).switchInstant d).reviewDones).reviewMembers

/-- SALVO_PART_ARRIVAL (R139): the primary of the member's pair takes the part up; one that is held already is not taken
twice. -/
def execSalvoPartArrival (t coord slot gen : Nat) (entries : List (TakeEntry × Nat)) (s0 : State) :
    Host.Outcome State Fault Refusal :=
  let s := s0.advance t
  done s0 (
    if s.standby || (s.part coord slot).isSome then s
    else
      match entries.zip (List.range entries.length) |>.find? (fun e =>
          s.salvoHeld ⟨essOf (idEss e.1.1.dst), idIdx e.1.1.dst⟩) with
      | some e => s.reportPart coord slot C.busy e.2
      | none => if s.partFits entries.length then s.makePart coord slot gen entries else s.reportPart coord slot C.busy 0)

/-- SALVO_PART_REPORT (R139). -/
def execSalvoPartReport (t slot pair code index : Nat) (s0 : State) : Host.Outcome State Fault Refusal :=
  done s0 ((s0.advance t).partReported slot pair code index)

/-- POUR_INSTANT (R141): the salvo's P has come on its time base. -/
def execPourInstant (t slot : Nat) (s0 : State) : Host.Outcome State Fault Refusal :=
  let s := s0.advance t
  done s0 (match s.salvo slot with
    | some x => if x.onCommand ∨ s.tbNow x.tb < x.p then s else s.pourDue slot
    | none => s)

/-- POUR_DECISION_ACK (R142): the twin holds the decision. -/
def execPourDecisionAck (t slot : Nat) (s0 : State) : Host.Outcome State Fault Refusal :=
  let s := s0.advance t
  done s0 (match s.salvo slot with
    | some x => if x.decided.isSome then s.finishPour slot true else s
    | none => s)

/-- POUR_ACK_TIMEOUT (R142): 5 µs have passed without the twin's acknowledgement. -/
def execPourAckTimeout (t slot : Nat) (s0 : State) : Host.Outcome State Fault Refusal :=
  let s := s0.advance t
  done s0 (match s.salvo slot with
    | some x =>
      match x.decided with
      | some a => if a + 5000 ≤ s.now then s.finishPour slot false else s
      | none => s
    | none => s)

/-- POUR_NOTICE (R143). Only a salvo on command gets its E from the notice, with the time base that E is on (log entry 13). -/
def execPourNotice (t coord slot e tb : Nat) (s0 : State) : Host.Outcome State Fault Refusal :=
  done s0 (((s0.advance t).pourPart coord slot e tb).reviewDones)

/-- SALVO_PART_DONE (R143). -/
def execSalvoPartDone (t slot pair : Nat) (results : List (Nat × Nat)) (s0 : State) : Host.Outcome State Fault Refusal :=
  let s := s0.advance t
  done s0 (if s.nat (O.salvo_state slot) = 4 then s.partDone slot pair results else s)

/-- SALVO_DROP_NOTICE (R144). -/
def execSalvoDropNotice (t coord slot : Nat) (s0 : State) : Host.Outcome State Fault Refusal :=
  let s := s0.advance t
  done s0 (match s.part coord slot with
    | some p => if p.state = 2 then s else s.dropPart coord slot
    | none => s)

/-- SALVO_MEMBER_QUERY (R148): a prepared part that has heard nothing asks its coordinator, and the coordinator's twin. -/
def execSalvoMemberQuery (t coord slot : Nat) (s0 : State) : Host.Outcome State Fault Refusal :=
  let s := s0.advance t
  done s0 (match s.part coord slot with
    | some p =>
      if p.state = 1 then
        let twin := if coord % 2 = 0 then coord + 1 else coord - 1
        (s.emit (.notice coord (.query coord slot))).emit (.notice twin (.query coord slot))
      else s
    | none => s)

/-- SALVO_ORPHAN (R148): nothing has been learned by E + 1 s. The part is dropped, every entry is missed, and the fault
names the salvo. -/
def execSalvoOrphan (t coord slot : Nat) (s0 : State) : Host.Outcome State Fault Refusal :=
  let s := s0.advance t
  done s0 (match s.part coord slot with
    | some p =>
      if p.state = 1 then
        let s1 := s.dropPart coord slot
        (s1.strike F.salvoOrphan coord slot).emit (.notice coord (.partDone coord slot
          ((List.range p.entries.length).map (fun i => (i, 5 * 65536)))))
      else s
    | none => s)

/-- A finished salvo is kept no longer; at the coordinator's twin it is done (R147). -/
def State.forgetSalvo (s : State) (slot : Nat) : State :=
  let s1 : State := { s with salvos := { s.salvos with kept := s.salvos.kept.filter (fun e => e.1 ≠ slot) } }
  if s.standby ∧ s.nat (O.salvo_state slot) = 4 then
    { (s1.setN (O.salvo_state slot) 5) with salvos := { s1.salvos with own := s1.salvos.own.filter (fun x => x.slot ≠ slot) } }
  else s1

/-- SALVO_RETENTION_EXPIRY (R147): 60 s after the last E the salvo is kept no longer. -/
def execSalvoRetentionExpiry (t slot : Nat) (s0 : State) : Host.Outcome State Fault Refusal :=
  let s := s0.advance t
  done s0 (if s.salvos.kept.any (fun e => e.1 = slot ∧ e.2 ≤ s.now) then s.forgetSalvo slot else s)

/-- CROSS_CHIP_RESERVE (R173): the part joins the placer's queue; a full queue refuses it (R167). `meshIn` and `meshOut`
are the lanes by which the route comes and leaves, 1 024 or more for none. -/
def execCrossChipReserve (t head ident : Nat) (part : Placement) (meshIn meshOut mbps : Nat) (s0 : State) :
    Host.Outcome State Fault Refusal :=
  let s := s0.advance t
  let lanes := ([meshIn, meshOut].filter (fun l => l < 1024)).map (fun l => (l, mbps))
  let pl : Placement := { part with dst := s.normId part.dst, src := s.normId part.src, lanes := lanes }
  done s0 (if 256 ≤ s.queued then s.answerReserve head ident (C.busy, 0)
    else s.enqueue (.reserve head ident pl))

/-- RESERVE_CONFIRM (R173): the head confirms the part, or releases it. -/
def execReserveConfirm (t head ident : Nat) (confirm : Bool) (s0 : State) : Host.Outcome State Fault Refusal :=
  let s := s0.advance t
  done s0 (if confirm then (s.confirmReserve head ident).reviewParts else s.releaseReserve head ident)

/-- RESERVE_TIMEOUT (R174): 10 ms have passed without a confirmation. -/
def execReserveTimeout (t head ident : Nat) (s0 : State) : Host.Outcome State Fault Refusal :=
  let s := s0.advance t
  done s0 (match s.reserveOf head ident with
    | some r => if !r.confirmed ∧ r.since + 10000000 ≤ s.now then s.releaseReserve head ident else s
    | none => s)

end Sys2Proof.Machine
end

