-- ==== Sys2Proof/Machine/SdiPortsCommands.lean ====
section
/-! DEFINITION. The events of SDI ports (R203 to R217): one meaning for each, over the operations of Machine/SdiPorts.lean. -/

namespace Sys2Proof.Machine

/-- SDI_LANE_LOCKED (R203): at one of the rates that the input searches. -/
def execSdiLaneLocked (t p rate : Nat) (s0 : State) : Host.Outcome State Fault Refusal :=
  let s := s0.advance t
  done s0 (if s.sdiPort p && (s.searched p).contains rate then
      ({ (if s.nat (O.sdi_rx_state p) = 0 then s.setN (O.sdi_rx_state p) 1 else s) with
        sdi := { s.sdi with rate := kput s.sdi.rate p rate } } : State).laneLocked p
    else s)

/-- SDI_FORMAT_DETECTED (R204), at most two frame periods after the lane has locked. -/
def execSdiFormatDetected (t p : Nat) (det : SdiDetect) (s0 : State) : Host.Outcome State Fault Refusal :=
  let s := s0.advance t
  done s0 (if s.sdiPort p && s.nat (O.sdi_rx_state p) != 0 then s.detected p det else s)

/-- SDI_LOSS_OF_SIGNAL (R217). -/
def execSdiLossOfSignal (t p : Nat) (s0 : State) : Host.Outcome State Fault Refusal :=
  let s := s0.advance t
  done s0 (if s.sdiPort p then s.sdiLost p else s)

/-- SDI_CHECK_ERROR (R206). -/
def execSdiCheckError (t p kind : Nat) (s0 : State) : Host.Outcome State Fault Refusal :=
  let s := s0.advance t
  done s0 (if s.sdiPort p then s.sdiError p kind else s)

/-- ANC_PACKET_EXTRACT (R211). -/
def execAncPacketExtract (t p : Nat) (pkt : AncPacket) (s0 : State) : Host.Outcome State Fault Refusal :=
  let s := s0.advance t
  done s0 (if s.sdiPort p then s.extract p pkt else s)

/-- ANC_PACKET_INSERT (R212): a packet of the stream that the slot carries; none is sent where its line is filled or its
output is in safe state (R83, R450). -/
def execAncPacketInsert (t j : Nat) (pkt : AncPacket) (room : List Nat) (s0 : State) : Host.Outcome State Fault Refusal :=
  let s := s0.advance t
  done s0 (if j < 2048 ∧ (s.route ⟨.anc, j⟩).isSome ∧ !s.safe then s.insert j pkt room else s)

end Sys2Proof.Machine
end

