-- ==== Sys2Proof/Machine/StoresCommands.lean ====
section
/-! DEFINITION. The events of sources, playout, frame stores and HBM (R83, R98, R106 to R108, R183 to R198, R262): one meaning for each, over the operations of Machine/Stores.lean. -/

namespace Sys2Proof.Machine

/-- SOURCE_FRAME_START (R106). -/
def execSourceFrameStart (t x skew : Nat) (s0 : State) : Host.Outcome State Fault Refusal :=
  let s := s0.advance t
  done s0 (if 4096 ≤ x ∨ s.fusedOff ⟨0x3000, x, 0⟩ ∨ !s.vsrcRuns x then s else s.frameStart x skew)

/-- SOURCE_ABSENT (R107): no frame has arrived for two frame periods. -/
def execSourceAbsent (t x : Nat) (s0 : State) : Host.Outcome State Fault Refusal :=
  let s := s0.advance t
  done s0 (match s.srcTiming x with
    | none => s
    | some r =>
      if s.now < r.last + 2 * framePeriod (s.vsrcFormat x) then s
      else
        ({ (s.setN (O.src_timing_state x) 0) with sw := { s.sw with timing := s.sw.timing.filter (fun r => r.s ≠ x) } } : State).stopStores
          (s.srcId 0 x))

/-- STORE_PRIMED (R108): the store holds one complete frame. Takes that waited for it arm, and unaligned routes move to
it (R111). -/
def execStorePrimed (t i : Nat) (s0 : State) : Host.Outcome State Fault Refusal :=
  let s := s0.advance t
  done s0 (match s.storeOf i with
    | none => s
    | some x =>
      if x.state ≠ 1 ∨ x.frames.isEmpty then s
      else
        let s1 := s.modStore i (fun x => { x with state := 2 })
        let s2 := (s1.sw.takes.filter (fun r => r.state = 2 ∧ r.pl.bind (fun p => p.store) = some i)).foldl
          (fun st r => st.pathReady r.num) s1
        (s2.sw.routes.filter (fun r => r.pl.path = 4 ∧ r.pl.store = some i ∧ !r.follows)).foldl (fun st r =>
          st.startRepl r.dst { r.pl with path := 2, stripes := r.pl.stripes.filter (fun x => x.feed ≠ r.pl.src) }) s2)

/-- STORE_READ_INSTANT (R184). -/
def execStoreReadInstant (t d : Nat) (s0 : State) : Host.Outcome State Fault Refusal :=
  done s0 ((s0.advance t).readInstant d)

/-- STORE_DEEPEN_READY (R183): the deeper store holds the frames that a store's readers read, which move to it. -/
def execStoreDeepenReady (t i : Nat) (s0 : State) : Host.Outcome State Fault Refusal :=
  let s := s0.advance t
  done s0 (match s.storeOf i with
    | none => s
    | some x =>
      match x.deeper.bind s.storeOf with
      | none => s
      | some y =>
        if y.frames.isEmpty then s
        else
          let s1 := if y.state = 1 then s.modStore y.i (fun y => { y with state := 2 }) else s
          (s1.readers i).foldl (fun st d => st.askReplace d) s1)

/-- LINE_PLAYOUT (R83): the line leaves with its data, or is filled; an output in safe state carries its safe content
(R450), and one without a route its content of 3600h sub 15 (R208); after a step of its time base every line is filled until the first new alignment instant (R359). -/
def execLinePlayout (t d line : Nat) (onTime : Bool) (s0 : State) : Host.Outcome State Fault Refusal :=
  let s := s0.advance t
  done s0 (
    let m := s.mark d
    let s1 := if line = 1 then s.setMark d (withBit (withBit m 1 (Machine.bit m 0)) 0 false) else s
    match s1.route ⟨.video, d⟩ with
    | none => if s1.safe then s1.plainLine d line (s1.safeLine d line) else s1.plainLine d line (s1.unroutedLine d line)
    | some r =>
      if s1.safe then s1.plainLine d line (s1.safeLine d line)
      else if !onTime ∨ s1.broken r.pl ∨ s1.outputResets d r.pl ∨ s1.formatClash d r.pl ∨
          s1.realigning (s1.nat (O.dst_time_base d)) (s1.nat (O.dst_format d)) (s1.int (O.dst_timing_offset d)) then s1.fillLine d line
      else
        let s2 := if Machine.bit (s1.mark d) 0 ∨ s1.otherFills d then s1 else s1.endFault (F.edgeLate (s1.vdstTile d))
        (if line = 1 then s2.substitute d r.pl else s2).emit (.line d line (s1.dataLine d line r.pl)))

/-- FABRIC_CELL_ERROR (R98): the injection armed at the path fires with this cell (R459). -/
def execFabricCellError (t plane inTile outTile word : Nat) (kind3 : Bool) (d : Nat) (s0 : State) :
    Host.Outcome State Fault Refusal :=
  let s := s0.advance t
  let unit := plane * 256 + inTile * 16 + outTile
  let target := match s.faults.inject with | some (4, _, _) => 4 | _ => 3
  done s0 (s.withInjection target unit word (fun st w => st.cellWord plane outTile d kind3 w))

/-- HBM_WORD_ERROR (R195): an injection armed at the stack shows in the word read next (R459). -/
def execHbmWordError (t stack addr word use d : Nat) (s0 : State) : Host.Outcome State Fault Refusal :=
  let s := s0.advance t
  done s0 (if 4 ≤ stack then s else s.withInjection 2 stack word (fun st w => st.hbmWord stack addr use d w))

/-- HBM_SCRUB_PERIOD (R196): a scrub of the stack is complete, and the next one begins. -/
def execHbmScrubPeriod (t stack : Nat) (s0 : State) : Host.Outcome State Fault Refusal :=
  let s := s0.advance t
  done s0 (if 4 ≤ stack then s else s.setN (O.hbm_scrub_progress stack) 0)

/-- REFRESH_MODE_CHANGE (R198): above 85 °C the stack refreshes at twice the rate. -/
def execRefreshModeChange (t stack : Nat) (temp : Int) (s0 : State) : Host.Outcome State Fault Refusal :=
  let s := s0.advance t
  done s0 (if 4 ≤ stack then s
    else (s.setI (O.hbm_temperature stack) temp).setN (O.hbm_refresh_mode stack) (b01 (85 < temp)))

end Sys2Proof.Machine
end

