-- ==== Sys2Proof/Machine/TimeBasesCommands.lean ====
section
/-! DEFINITION. The events of time bases, PTP and launch (R347 to R365): one meaning for each, over the operations of Machine/TimeBases.lean. -/

namespace Sys2Proof.Machine

/-- PTP_MESSAGE_RX (R350). -/
def execPtpMessageRx (t port : Nat) (m : PtpMsg) (s0 : State) : Host.Outcome State Fault Refusal :=
  let s := s0.advance t
  done s0 (if port < 64 ∧ s.flag (O.ptp_enable port) then s.ptpRx port m else s)

/-- PTP_MESSAGE_TX (R350). -/
def execPtpMessageTx (t port : Nat) (kind : PtpSend) (s0 : State) : Host.Outcome State Fault Refusal :=
  let s := s0.advance t
  done s0 (if port < 64 then s.ptpTx port kind else s)

/-- ANNOUNCE_TIMEOUT (R347): masters not heard for the announce receipt timeout are heard no longer. -/
def execAnnounceTimeout (t port : Nat) (s0 : State) : Host.Outcome State Fault Refusal :=
  let s := s0.advance t
  done s0 (
    let r := s.ptp port
    let n := s.announceNs port
    let live := r.heard.filter (fun e => s.now < e.2 + n)
    let tb := s.nat (O.ptp_time_base port)
    if !(port < 64 ∧ s.flag (O.ptp_enable port)) then s
    else if live.length = r.heard.length ∧ (!r.heard.isEmpty ∨ s.now < r.since + n) then s
    else
      let q := s.tbRec tb
      let lost : Bool := match q.follows with
        | some (p, snd) => p = port ∧ !live.any (fun e => e.1.sender = snd)
        | none => false
      let s1 := s.putPtp { r with heard := live, timedOut := live.isEmpty }
      let s2 := if lost ∧ !s.standby then s1.putTb { q with lostAt := some (s.now, logNs (s.logAnnounce port)) } else s1
      s2.bmca tb)

/-- PTP_NO_MASTER_CHECK (R365). -/
def execPtpNoMasterCheck (t tb : Nat) (s0 : State) : Host.Outcome State Fault Refusal :=
  let s := s0.advance t
  done s0 (if tb < 4 then s.reviewNoMaster tb else s)

/-- STEP_INSTANT (R357, R359). -/
def execStepInstant (t tb : Nat) (s0 : State) : Host.Outcome State Fault Refusal :=
  let s := s0.advance t
  done s0 (if tb < 4 then s.stepDue tb else s)

/-- PACKET_LAUNCH (R363). -/
def execPacketLaunch (t iface delay : Nat) (s0 : State) : Host.Outcome State Fault Refusal :=
  done s0 ((s0.advance t).launchNext iface delay)

end Sys2Proof.Machine
end

