-- ==== Sys2Proof/Machine/TimingCommands.lean ====
section
/-! DEFINITION. The events of references, DPLLs and outputs (R314 to R341): one meaning for each, over the operations of Machine/Timing.lean. -/

namespace Sys2Proof.Machine

/-- REF_PHASE_SAMPLE (R314). -/
def execRefPhaseSample (t e mtie : Nat) (freq : Int) (format : Nat) (s0 : State) : Host.Outcome State Fault Refusal :=
  let s := s0.advance t
  done s0 (if 16 ≤ e then s else s.phaseSample e mtie freq format)

/-- REF_ACTIVITY_LOST (R317). -/
def execRefActivityLost (t e : Nat) (s0 : State) : Host.Outcome State Fault Refusal :=
  let s := s0.advance t
  done s0 (if 16 ≤ e ∨ s.refState e ≤ 1 then s else s.setRefState e 1)

/-- REF_QUALIFIED (R317): the entry has passed every test for the qualifying time. -/
def execRefQualified (t e : Nat) (s0 : State) : Host.Outcome State Fault Refusal :=
  let s := s0.advance t
  done s0 (if 16 ≤ e ∨ s.refState e ≠ 2 ∨ !s.phaseOk e ∨ !s.hardOk e ∨ s.wrongFormat e then s
    else
      match (s.ref e).passSince with
      | some p => if p + s.nat O.refAll_qualify_time * nsPerSec ≤ s.now then s.setRefState e 3 else s
      | none => s)

/-- REF_EVALUATION (R319). -/
def execRefEvaluation (t : Nat) (means : List Int) (s0 : State) : Host.Outcome State Fault Refusal :=
  done s0 ((s0.advance t).evaluate means)

/-- SELECTOR_RUN (R321). -/
def execSelectorRun (t k : Nat) (s0 : State) : Host.Outcome State Fault Refusal :=
  let s := s0.advance t
  done s0 (if 4 ≤ k then s else s.runSelector k)

/-- BUILDOUT_COMPLETE (R323): within 1 ppb of the new entry the phase loop closes at the phase held; the offset stays. -/
def execBuildoutComplete (t k : Nat) (offset : Int) (s0 : State) : Host.Outcome State Fault Refusal :=
  let s := s0.advance t
  done s0 (if 4 ≤ k ∨ !(s.dpll k).building then s else s.putDpll { s.dpll k with building := false, offset := offset })

/-- DPLL_LOCKED (R322): the phase error has been within the lock window for 1 s. With realign set the offset built out is
removed once locked (R323). -/
def execDpllLocked (t k : Nat) (phase : Int) (s0 : State) : Host.Outcome State Fault Refusal :=
  let s := s0.advance t
  done s0 (if 4 ≤ k ∨ s.nat (O.dpll_mode k) ≠ 0 ∨ s.nat (O.dpll_state k) ≠ 3 ∨ (s.dpll k).building ∨
        s.nat (O.dpll_lock_window k) * 1000 < phase.natAbs then s
    else
      let s1 := (s.setI (O.dpll_phase_error k) phase).setDpllState k 1
      if s1.nat (O.dpll_realign k) = 1 then s1.putDpll { s1.dpll k with offset := 0 } else s1)

/-- XO_LOSS (R330): every DPLL reads free-run. -/
def execXoLoss (t : Nat) (s0 : State) : Host.Outcome State Fault Refusal :=
  let s := s0.advance t
  done s0 ((s.setN (O.xo_xo_state 4) 1).follow F.xoLoss 0 0 true)

/-- XO_RETURN (R330): the oscillator has been within limits for 1 s; the DPLLs in automatic mode start from free-run. -/
def execXoReturn (t : Nat) (s0 : State) : Host.Outcome State Fault Refusal :=
  let s := s0.advance t
  done s0 (if !s.xoLost then s
    else
      (List.range 4).foldl (fun st k =>
        if st.nat (O.dpll_mode k) = 0 then (st.setN (O.dpll_selected k) none8).setDpllState k 0 else st)
        ((s.setN (O.xo_xo_state 4) 0).endFault F.xoLoss))

/-- DPLL_FREERUN_CHECK (R341): in automatic mode and free-run 60 s after Ready. -/
def execDpllFreerunCheck (t k : Nat) (s0 : State) : Host.Outcome State Fault Refusal :=
  let s := s0.advance t
  done s0 (if 4 ≤ k ∨ !s.ready ∨ s.now < s.power.readyAt + 60 * nsPerSec ∨ s.nat (O.dpll_mode k) ≠ 0 ∨ s.dpllState 4 k ≠ 0 then s
    else s.follow F.dpllFreerun k 0 true)

/-- OUTPUT_EPOCH (R334): at E the outputs of the DPLL take their staged values, but for those accepted less than 100 µs
before. -/
def execOutputEpoch (t k : Nat) (s0 : State) : Host.Outcome State Fault Refusal :=
  let s := s0.advance t
  done s0 (match (s.dpll k).epoch with
    | none => s
    | some e =>
      if 4 ≤ k ∨ s.tbNow (s.nat (O.dpll_epoch_tb k)) < e then s
      else
        let due := s.timing.staged.filter (fun x => s.nat (O.cko_dpll x.1) = k ∧ x.2.2 + 100000 ≤ s.now)
        let s1 := s.takeEffect (fun key => key.fam == 0x5200 && due.any (fun x => x.1 == key.inst && x.2.1 == key.sub))
        (({ s1 with timing := { s1.timing with staged := s1.timing.staged.filter (fun x => !due.contains x) } } : State).putDpll
          { s1.dpll k with epoch := none }).setN (O.dpll_epoch_state k) 2)

end Sys2Proof.Machine
end

