-- ==== Sys2Proof/Machine/TwinCommands.lean ====
section
/-! DEFINITION. The events of the pair and of the twin link (R413 to R436), but for what the standby does with mirrored items: one meaning
for each, over the operations of Machine/Twin.lean. -/

namespace Sys2Proof.Machine

/-- The primary's side of an acknowledgement (R420): the items up to a number are held by the standby, their delay is measured, the
replies that waited for them leave, and Lull is entered where it waited for the last of them (R514). -/
def State.mirrorAcked (s : State) (seq : Nat) : State :=
  let hit := s.twin.sent.filter (fun e => e.1 ≤ seq)
  let s1 : State := { s with twin := { s.twin with
    acked := max s.twin.acked (min seq (s.twin.seq - 1)),
    sent := s.twin.sent.filter (fun e => seq < e.1),
    lags := s.twin.lags.filter (fun e => s.now < e.1 + nsPerSec) ++ hit.map (fun e => (s.now, s.now - e.2)) } }
  let s2 := s1.releaseHeld seq
  if s2.nat O.pow_lull_state = 1 ∧ s2.twin.sent.isEmpty then s2.enterLull else s2

/-- The heartbeat goes out on the twin link, unless the chip is held in reset (R418, R536). -/
def State.twinBeat (s : State) : State :=
  if s.power.resetN ∧ !s.power.tap ∧ s.nat O.twin_twin_link % 16 ≠ 0 then s.tellTwin .twinHeartbeat else s

/-- TWIN_HANDSHAKE (R413). -/
def execTwinHandshake (t : Nat) (hello : TwinHello) (s0 : State) : Host.Outcome State Fault Refusal :=
  done s0 ((s0.advance t).handshake hello)

/-- TWIN_HANDSHAKE_TIMEOUT (R413). -/
def execTwinHandshakeTimeout (t : Nat) (s0 : State) : Host.Outcome State Fault Refusal :=
  done s0 ((s0.advance t).handshakeTimeout)

/-- TWIN_HEARTBEAT (R418). -/
def execTwinHeartbeat (t : Nat) (s0 : State) : Host.Outcome State Fault Refusal :=
  done s0 ((s0.advance t).twinBeat)

/-- TWIN_LANE_DOWN (R417). -/
def execTwinLaneDown (t : Nat) (n : Nat) (s0 : State) : Host.Outcome State Fault Refusal :=
  done s0 ((s0.advance t).twinLaneDown n)

/-- TWIN_LANE_UP (R417). -/
def execTwinLaneUp (t : Nat) (n : Nat) (s0 : State) : Host.Outcome State Fault Refusal :=
  done s0 ((s0.advance t).twinLaneUp n)

/-- TWIN_LINK_DOWN (R417). -/
def execTwinLinkDown (t : Nat) (s0 : State) : Host.Outcome State Fault Refusal :=
  done s0 ((s0.advance t).twinLinkDown)

/-- PRIMARY_DEATH (R429). -/
def execPrimaryDeath (t : Nat) (s0 : State) : Host.Outcome State Fault Refusal :=
  done s0 ((s0.advance t).primaryDeath)

/-- SAFE_STATE_NOTICE_RX (R429). -/
def execSafeStateNoticeRx (t : Nat) (s0 : State) : Host.Outcome State Fault Refusal :=
  done s0 ((s0.advance t).safeNotice)

/-- POWER_FAIL_NOTICE_RX (R430). -/
def execPowerFailNoticeRx (t : Nat) (s0 : State) : Host.Outcome State Fault Refusal :=
  done s0 ((s0.advance t).powerNotice)

/-- MIRROR_ACK (R420). -/
def execMirrorAck (t : Nat) (seq : Nat) (s0 : State) : Host.Outcome State Fault Refusal :=
  done s0 ((s0.advance t).mirrorAcked seq)

/-- SIGNATURE_COMPARE (R423). -/
def execSignatureCompare (t : Nat) (f : SigFrame) (s0 : State) : Host.Outcome State Fault Refusal :=
  done s0 ((s0.advance t).compareFrame f)

/-- BACKGROUND_BIST (R425). -/
def execBackgroundBist (t : Nat) (kind unit : Nat) (fail : Option Nat) (s0 : State) : Host.Outcome State Fault Refusal :=
  done s0 ((s0.advance t).bistRun kind unit fail)

/-- BACKGROUND_LOOPBACK (R426). -/
def execBackgroundLoopback (t : Nat) (l errors : Nat) (s0 : State) : Host.Outcome State Fault Refusal :=
  done s0 ((s0.advance t).loopbackRun l errors)

/-- HANDOVER_COMMIT (R434). -/
def execHandoverCommit (t : Nat) (s0 : State) : Host.Outcome State Fault Refusal :=
  done s0 ((s0.advance t).commitHandover)

/-- HANDOVER_DONE (R434). -/
def execHandoverDone (t : Nat) (s0 : State) : Host.Outcome State Fault Refusal :=
  done s0 ((s0.advance t).handoverDone)

/-- TAKEBACK (R436). -/
def execTakeback (t : Nat) (s0 : State) : Host.Outcome State Fault Refusal :=
  done s0 ((s0.advance t).takeback)

/-- PF_WARNINGS (R430). -/
def execPfWarnings (t : Nat) (a b : Bool) (s0 : State) : Host.Outcome State Fault Refusal :=
  done s0 ((s0.advance t).powerWarnings a b)

end Sys2Proof.Machine
end

