-- ==== Sys2Proof/Machine/Dispatch.lean ====
section
/-! DEFINITION. The dispatch: one arm for each command of Syntax.lean, each one call of its meaning. -/

namespace Sys2Proof.Machine

/-- The effect of a command on everything but the queue. -/
def exec (i : Instr) (s : State) : Host.Outcome State Fault Refusal :=
  match i with
  | .read t via raw => Sys2Proof.Machine.execRead t via raw s
  | .readDescribe t via raw => Sys2Proof.Machine.execReadDescribe t via raw s
  | .write t via raw => Sys2Proof.Machine.execWrite t via raw s
  | .writeTxn t via raw => Sys2Proof.Machine.execWriteTxn t via raw s
  | .genericObjectWrite t w k v => Sys2Proof.Machine.execGenericObjectWrite t w k v s
  | .subscribeAdd t via raw => Sys2Proof.Machine.execSubscribeAdd t via raw s
  | .subscribeRemove t via raw => Sys2Proof.Machine.execSubscribeRemove t via raw s
  | .subscribeRemoveAll t via raw => Sys2Proof.Machine.execSubscribeRemoveAll t via raw s
  | .eventInterval t slot sub => Sys2Proof.Machine.execEventInterval t slot sub s
  | .periodicReport t slot sub unsent => Sys2Proof.Machine.execPeriodicReport t slot sub unsent s
  | .take t via raw => Sys2Proof.Machine.execTake t via raw s
  | .priorityTake t via raw => Sys2Proof.Machine.execPriorityTake t via raw s
  | .salvoPrepare t via raw => Sys2Proof.Machine.execSalvoPrepare t via raw s
  | .salvoPour t via raw => Sys2Proof.Machine.execSalvoPour t via raw s
  | .salvoDrop t via raw => Sys2Proof.Machine.execSalvoDrop t via raw s
  | .bulkOpen t via raw => Sys2Proof.Machine.execBulkOpen t via raw s
  | .bulkChunk t via raw => Sys2Proof.Machine.execBulkChunk t via raw s
  | .bulkClose t via raw => Sys2Proof.Machine.execBulkClose t via raw s
  | .bulkAbort t via raw => Sys2Proof.Machine.execBulkAbort t via raw s
  | .bulkHandleTimeout t handle => Sys2Proof.Machine.execBulkHandleTimeout t handle s
  | .spiSendMessage t len raw => Sys2Proof.Machine.execSpiSendMessage t len raw s
  | .spiFetch t => Sys2Proof.Machine.execSpiFetch t s
  | .spiWaitTimeout t raw => Sys2Proof.Machine.execSpiWaitTimeout t raw s
  | .sessionIdleTimeout t slot => Sys2Proof.Machine.execSessionIdleTimeout t slot s
  | .sessionClose t w slot => Sys2Proof.Machine.execSessionClose t w slot s
  | .keyWrite t w role key => Sys2Proof.Machine.execKeyWrite t w role key s
  | .takeCancel t w slot => Sys2Proof.Machine.execTakeCancel t w slot s
  | .placerTaskStart t => Sys2Proof.Machine.execPlacerTaskStart t s
  | .placementComplete t => Sys2Proof.Machine.execPlacementComplete t s
  | .timedTakeArm t slot => Sys2Proof.Machine.execTimedTakeArm t slot s
  | .storePrimed t store => Sys2Proof.Machine.execStorePrimed t store s
  | .switchInstant t d => Sys2Proof.Machine.execSwitchInstant t d s
  | .takeListWrite t w slot list => Sys2Proof.Machine.execTakeListWrite t w slot list s
  | .salvoRelease t w slot => Sys2Proof.Machine.execSalvoRelease t w slot s
  | .salvoPartArrival t coord slot gen entries => Sys2Proof.Machine.execSalvoPartArrival t coord slot gen entries s
  | .salvoPartReport t slot pair code index => Sys2Proof.Machine.execSalvoPartReport t slot pair code index s
  | .pourInstant t slot => Sys2Proof.Machine.execPourInstant t slot s
  | .pourDecisionAck t slot => Sys2Proof.Machine.execPourDecisionAck t slot s
  | .pourAckTimeout t slot => Sys2Proof.Machine.execPourAckTimeout t slot s
  | .pourNotice t coord slot e tb => Sys2Proof.Machine.execPourNotice t coord slot e tb s
  | .salvoPartDone t slot pair results => Sys2Proof.Machine.execSalvoPartDone t slot pair results s
  | .salvoDropNotice t coord slot => Sys2Proof.Machine.execSalvoDropNotice t coord slot s
  | .salvoMemberQuery t coord slot => Sys2Proof.Machine.execSalvoMemberQuery t coord slot s
  | .salvoOrphan t coord slot => Sys2Proof.Machine.execSalvoOrphan t coord slot s
  | .crossChipReserve t head ident part meshIn meshOut mbps => Sys2Proof.Machine.execCrossChipReserve t head ident part meshIn meshOut mbps s
  | .reserveConfirm t head ident confirm => Sys2Proof.Machine.execReserveConfirm t head ident confirm s
  | .reserveTimeout t head ident => Sys2Proof.Machine.execReserveTimeout t head ident s
  | .hintEnable t w inst on => Sys2Proof.Machine.execHintEnable t w inst on s
  | .reoptimise t w => Sys2Proof.Machine.execReoptimise t w s
  | .sourceFrameStart t x skew => Sys2Proof.Machine.execSourceFrameStart t x skew s
  | .sourceAbsent t x => Sys2Proof.Machine.execSourceAbsent t x s
  | .storeReadInstant t d => Sys2Proof.Machine.execStoreReadInstant t d s
  | .storeDeepenReady t store => Sys2Proof.Machine.execStoreDeepenReady t store s
  | .recircWrite t w x dst => Sys2Proof.Machine.execRecircWrite t w x dst s
  | .linePlayout t d line onTime => Sys2Proof.Machine.execLinePlayout t d line onTime s
  | .fabricCellError t plane inTile outTile word kind3 d => Sys2Proof.Machine.execFabricCellError t plane inTile outTile word kind3 d s
  | .hbmWordError t stack addr word use d => Sys2Proof.Machine.execHbmWordError t stack addr word use d s
  | .hbmScrubPeriod t stack => Sys2Proof.Machine.execHbmScrubPeriod t stack s
  | .sdiLaneLocked t p rate => Sys2Proof.Machine.execSdiLaneLocked t p rate s
  | .sdiFormatDetected t p det => Sys2Proof.Machine.execSdiFormatDetected t p det s
  | .sdiLossOfSignal t p => Sys2Proof.Machine.execSdiLossOfSignal t p s
  | .sdiCheckError t p kind => Sys2Proof.Machine.execSdiCheckError t p kind s
  | .ancPacketExtract t p pkt => Sys2Proof.Machine.execAncPacketExtract t p pkt s
  | .ancPacketInsert t slot pkt room => Sys2Proof.Machine.execAncPacketInsert t slot pkt room s
  | .ethLinkChange t p up => Sys2Proof.Machine.execEthLinkChange t p up s
  | .addressResolveTimeout t fam inst leg => Sys2Proof.Machine.execAddressResolveTimeout t fam inst leg s
  | .flowEnable t w fam inst on => Sys2Proof.Machine.execFlowEnable t w fam inst on s
  | .groupEnable t w inst on => Sys2Proof.Machine.execGroupEnable t w inst on s
  | .audioChannelsWrite t w inst count => Sys2Proof.Machine.execAudioChannelsWrite t w inst count s
  | .packetLaunch t iface delay => Sys2Proof.Machine.execPacketLaunch t iface delay s
  | .rxPacket t fam inst leg pkt => Sys2Proof.Machine.execRxPacket t fam inst leg pkt s
  | .mergeLostDeclare t fam inst seq => Sys2Proof.Machine.execMergeLostDeclare t fam inst seq s
  | .frameRelease t g => Sys2Proof.Machine.execFrameRelease t g s
  | .standaloneRelease t fam inst seq => Sys2Proof.Machine.execStandaloneRelease t fam inst seq s
  | .legDown t fam inst leg => Sys2Proof.Machine.execLegDown t fam inst leg s
  | .mergeSkewCheck t fam inst => Sys2Proof.Machine.execMergeSkewCheck t fam inst s
  | .mcastQuery t p v6 group => Sys2Proof.Machine.execMcastQuery t p v6 group s
  | .unsolicitedReport t fam inst leg => Sys2Proof.Machine.execUnsolicitedReport t fam inst leg s
  | .leaveHoldExpiry t fam inst => Sys2Proof.Machine.execLeaveHoldExpiry t fam inst s
  | .mcastCompatEnter t p v6 => Sys2Proof.Machine.execMcastCompatEnter t p v6 s
  | .mcastCompatExpiry t p v6 => Sys2Proof.Machine.execMcastCompatExpiry t p v6 s
  | .is05Activation t fam inst legs sched => Sys2Proof.Machine.execIs05Activation t fam inst legs sched s
  | .is05ScheduledActivation t fam inst => Sys2Proof.Machine.execIs05ScheduledActivation t fam inst s
  | .headClassWrite t w head cls => Sys2Proof.Machine.execHeadClassWrite t w head cls s
  | .headPortBind t w head port => Sys2Proof.Machine.execHeadPortBind t w head port s
  | .headReadInstant t head => Sys2Proof.Machine.execHeadReadInstant t head s
  | .scalerFrameWrite t scaler => Sys2Proof.Machine.execScalerFrameWrite t scaler s
  | .scalerPairWrite t w scaler other => Sys2Proof.Machine.execScalerPairWrite t w scaler other s
  | .layerCommit t w layer => Sys2Proof.Machine.execLayerCommit t w layer s
  | .flipPoint t head => Sys2Proof.Machine.execFlipPoint t head s
  | .commitTimeout t group => Sys2Proof.Machine.execCommitTimeout t group s
  | .fenceRaise t w fence value => Sys2Proof.Machine.execFenceRaise t w fence value s
  | .fenceReset t w fence => Sys2Proof.Machine.execFenceReset t w fence s
  | .groupJoin t w layer group => Sys2Proof.Machine.execGroupJoin t w layer group s
  | .groupCommit t w group => Sys2Proof.Machine.execGroupCommit t w group s
  | .layerClaim t w layer => Sys2Proof.Machine.execLayerClaim t w layer s
  | .layerToRenderer t w layer => Sys2Proof.Machine.execLayerToRenderer t w layer s
  | .layerRelease t w layer => Sys2Proof.Machine.execLayerRelease t w layer s
  | .imageWrite t w layer image => Sys2Proof.Machine.execImageWrite t w layer image s
  | .elementsWrite t w layer elements => Sys2Proof.Machine.execElementsWrite t w layer elements s
  | .rendererRedraw t layer done => Sys2Proof.Machine.execRendererRedraw t layer done s
  | .mirrorImageAck t layer => Sys2Proof.Machine.execMirrorImageAck t layer s
  | .mirrorFlipAlone t layer => Sys2Proof.Machine.execMirrorFlipAlone t layer s
  | .audioClassChange t d => Sys2Proof.Machine.execAudioClassChange t d s
  | .audioSlip t d => Sys2Proof.Machine.execAudioSlip t d s
  | .audioLevelWrite t w d sub v => Sys2Proof.Machine.execAudioLevelWrite t w d sub v s
  | .audioDelayWrite t w d us => Sys2Proof.Machine.execAudioDelayWrite t w d us s
  | .tdmFrameStart t dir fits => Sys2Proof.Machine.execTdmFrameStart t dir fits s
  | .sapRateMeasure t dir mhz ppb => Sys2Proof.Machine.execSapRateMeasure t dir mhz ppb s
  | .sapClockLost t dir => Sys2Proof.Machine.execSapClockLost t dir s
  | .sapFsReturn t dir => Sys2Proof.Machine.execSapFsReturn t dir s
  | .startArm t w => Sys2Proof.Machine.execStartArm t w s
  | .startDisarm t w => Sys2Proof.Machine.execStartDisarm t w s
  | .startTrigEdge t rising => Sys2Proof.Machine.execStartTrigEdge t rising s
  | .startAtInstant t => Sys2Proof.Machine.execStartAtInstant t s
  | .sapRunWrite t w dir run => Sys2Proof.Machine.execSapRunWrite t w dir run s
  | .asrcRelock t ch => Sys2Proof.Machine.execAsrcRelock t ch s
  | .aesLock t n rate mhz => Sys2Proof.Machine.execAesLock t n rate mhz s
  | .aesBlockComplete t src block crcOk biphase parity => Sys2Proof.Machine.execAesBlockComplete t src block crcOk biphase parity s
  | .aesLos t n => Sys2Proof.Machine.execAesLos t n s
  | .loudnessEnable t w g on => Sys2Proof.Machine.execLoudnessEnable t w g on s
  | .loudnessUpdate t g m => Sys2Proof.Machine.execLoudnessUpdate t g m s
  | .loudnessReset t w g => Sys2Proof.Machine.execLoudnessReset t w g s
  | .refPhaseSample t e mtie freq format => Sys2Proof.Machine.execRefPhaseSample t e mtie freq format s
  | .refActivityLost t e => Sys2Proof.Machine.execRefActivityLost t e s
  | .refQualified t e => Sys2Proof.Machine.execRefQualified t e s
  | .refEvaluation t means => Sys2Proof.Machine.execRefEvaluation t means s
  | .selectorRun t k => Sys2Proof.Machine.execSelectorRun t k s
  | .buildoutComplete t k offset => Sys2Proof.Machine.execBuildoutComplete t k offset s
  | .dpllLocked t k phase => Sys2Proof.Machine.execDpllLocked t k phase s
  | .forceEntryWrite t w k e => Sys2Proof.Machine.execForceEntryWrite t w k e s
  | .dpllModeWrite t w k sub v => Sys2Proof.Machine.execDpllModeWrite t w k sub v s
  | .steerWrite t w k v => Sys2Proof.Machine.execSteerWrite t w k v s
  | .xoLoss t => Sys2Proof.Machine.execXoLoss t s
  | .xoReturn t => Sys2Proof.Machine.execXoReturn t s
  | .dpllFreerunCheck t k => Sys2Proof.Machine.execDpllFreerunCheck t k s
  | .epochArm t w k => Sys2Proof.Machine.execEpochArm t w k s
  | .epochDisarm t w k => Sys2Proof.Machine.execEpochDisarm t w k s
  | .outputEpoch t k => Sys2Proof.Machine.execOutputEpoch t k s
  | .ckoEnable t w o => Sys2Proof.Machine.execCkoEnable t w o s
  | .ckoDisable t w o => Sys2Proof.Machine.execCkoDisable t w o s
  | .phaseOffsetWrite t w o v => Sys2Proof.Machine.execPhaseOffsetWrite t w o v s
  | .swpEnable t w n on => Sys2Proof.Machine.execSwpEnable t w n on s
  | .ptpMessageRx t port m => Sys2Proof.Machine.execPtpMessageRx t port m s
  | .ptpMessageTx t port kind => Sys2Proof.Machine.execPtpMessageTx t port kind s
  | .announceTimeout t port => Sys2Proof.Machine.execAnnounceTimeout t port s
  | .ptpNoMasterCheck t tb => Sys2Proof.Machine.execPtpNoMasterCheck t tb s
  | .jumpAccept t w tb => Sys2Proof.Machine.execJumpAccept t w tb s
  | .jumpWithdraw t w tb => Sys2Proof.Machine.execJumpWithdraw t w tb s
  | .stepInstant t tb => Sys2Proof.Machine.execStepInstant t tb s
  | .timeSet t w tb reading override => Sys2Proof.Machine.execTimeSet t w tb reading override s
  | .launchRequest t w req => Sys2Proof.Machine.execLaunchRequest t w req s
  | .tsQueueRelease t w tb seq => Sys2Proof.Machine.execTsQueueRelease t w tb seq s
  | .tsOverflowClear t w tb => Sys2Proof.Machine.execTsOverflowClear t w tb s
  | .portKindWrite t w p kind => Sys2Proof.Machine.execPortKindWrite t w p kind s
  | .laneSetActive t w l => Sys2Proof.Machine.execLaneSetActive t w l s
  | .laneSetIdle t w l => Sys2Proof.Machine.execLaneSetIdle t w l s
  | .laneSetDormant t w l => Sys2Proof.Machine.execLaneSetDormant t w l s
  | .laneExitDone t l => Sys2Proof.Machine.execLaneExitDone t l s
  | .laneUnlock t l => Sys2Proof.Machine.execLaneUnlock t l s
  | .laneCodeError t l disparity => Sys2Proof.Machine.execLaneCodeError t l disparity s
  | .lrefLoss t tile => Sys2Proof.Machine.execLrefLoss t tile s
  | .lrefRelock t tile => Sys2Proof.Machine.execLrefRelock t tile s
  | .txpllUnlock t tile pll => Sys2Proof.Machine.execTxpllUnlock t tile pll s
  | .refMismatchCheck t l ppb => Sys2Proof.Machine.execRefMismatchCheck t l ppb s
  | .eqRestart t w l => Sys2Proof.Machine.execEqRestart t w l s
  | .laneTestStart t w l => Sys2Proof.Machine.execLaneTestStart t w l s
  | .laneTestStop t w l => Sys2Proof.Machine.execLaneTestStop t w l s
  | .laneTestFinish t w l => Sys2Proof.Machine.execLaneTestFinish t w l s
  | .laneTestDurationEnd t l => Sys2Proof.Machine.execLaneTestDurationEnd t l s
  | .checkerLock t l locked bits errors => Sys2Proof.Machine.execCheckerLock t l locked bits errors s
  | .injectSingle t w l => Sys2Proof.Machine.execInjectSingle t w l s
  | .injectBurst t w l n => Sys2Proof.Machine.execInjectBurst t w l n s
  | .meshLinkAdmin t w l up => Sys2Proof.Machine.execMeshLinkAdmin t w l up s
  | .meshAligned t l => Sys2Proof.Machine.execMeshAligned t l s
  | .trainingAnnounce t l => Sys2Proof.Machine.execTrainingAnnounce t l s
  | .trainingSetRx t l set => Sys2Proof.Machine.execTrainingSetRx t l set s
  | .meshLinkUp t l => Sys2Proof.Machine.execMeshLinkUp t l s
  | .meshLinkDown t l cause => Sys2Proof.Machine.execMeshLinkDown t l cause s
  | .meshCellRx t l crcOk cls word d => Sys2Proof.Machine.execMeshCellRx t l crcOk cls word d s
  | .creditReturn t l cls count => Sys2Proof.Machine.execCreditReturn t l cls count s
  | .creditTimeout t l cls => Sys2Proof.Machine.execCreditTimeout t l cls s
  | .meshControlMessage t l complete m => Sys2Proof.Machine.execMeshControlMessage t l complete m s
  | .meshHeartbeat t => Sys2Proof.Machine.execMeshHeartbeat t s
  | .linkListFlood t => Sys2Proof.Machine.execLinkListFlood t s
  | .chipLost t chip => Sys2Proof.Machine.execChipLost t chip s
  | .planWrite t w plan => Sys2Proof.Machine.execPlanWrite t w plan s
  | .planReceived t plan => Sys2Proof.Machine.execPlanReceived t plan s
  | .domainAdmission t => Sys2Proof.Machine.execDomainAdmission t s
  | .headElection t lvl cands => Sys2Proof.Machine.execHeadElection t lvl cands s
  | .headPriorityHold t lvl cands => Sys2Proof.Machine.execHeadPriorityHold t lvl cands s
  | .twinHandshake t hello => Sys2Proof.Machine.execTwinHandshake t hello s
  | .twinHandshakeTimeout t => Sys2Proof.Machine.execTwinHandshakeTimeout t s
  | .twinHeartbeat t => Sys2Proof.Machine.execTwinHeartbeat t s
  | .twinLaneDown t n => Sys2Proof.Machine.execTwinLaneDown t n s
  | .twinLinkDown t => Sys2Proof.Machine.execTwinLinkDown t s
  | .primaryDeath t => Sys2Proof.Machine.execPrimaryDeath t s
  | .safeStateNoticeRx t => Sys2Proof.Machine.execSafeStateNoticeRx t s
  | .powerFailNoticeRx t => Sys2Proof.Machine.execPowerFailNoticeRx t s
  | .mirrorItemRx t seq item => Sys2Proof.Machine.execMirrorItemRx t seq item s
  | .mirrorAck t seq => Sys2Proof.Machine.execMirrorAck t seq s
  | .catchUpComplete t => Sys2Proof.Machine.execCatchUpComplete t s
  | .signatureCompare t f => Sys2Proof.Machine.execSignatureCompare t f s
  | .backgroundBist t kind unit fail => Sys2Proof.Machine.execBackgroundBist t kind unit fail s
  | .backgroundLoopback t l errors => Sys2Proof.Machine.execBackgroundLoopback t l errors s
  | .handoverRequest t w => Sys2Proof.Machine.execHandoverRequest t w s
  | .handoverAbort t w => Sys2Proof.Machine.execHandoverAbort t w s
  | .handoverCommit t => Sys2Proof.Machine.execHandoverCommit t s
  | .handoverDone t => Sys2Proof.Machine.execHandoverDone t s
  | .takeback t => Sys2Proof.Machine.execTakeback t s
  | .pfWarnings t a b => Sys2Proof.Machine.execPfWarnings t a b s
  | .faultLatch t src unit detail => Sys2Proof.Machine.execFaultLatch t src unit detail s
  | .blockResetDone t src => Sys2Proof.Machine.execBlockResetDone t src s
  | .faultConditionEnd t src => Sys2Proof.Machine.execFaultConditionEnd t src s
  | .faultClear t w src => Sys2Proof.Machine.execFaultClear t w src s
  | .faultClearAll t w => Sys2Proof.Machine.execFaultClearAll t w s
  | .autoClearWrite t w src on => Sys2Proof.Machine.execAutoClearWrite t w src on s
  | .reactionsWrite t w src set => Sys2Proof.Machine.execReactionsWrite t w src set s
  | .firstRecordRearm t w => Sys2Proof.Machine.execFirstRecordRearm t w s
  | .faultTreeSelfCheck t ok => Sys2Proof.Machine.execFaultTreeSelfCheck t ok s
  | .unitInclude t w entry => Sys2Proof.Machine.execUnitInclude t w entry s
  | .injectArm t w => Sys2Proof.Machine.execInjectArm t w s
  | .injectDisarm t w => Sys2Proof.Machine.execInjectDisarm t w s
  | .bankIdleTimer t bank => Sys2Proof.Machine.execBankIdleTimer t bank s
  | .bankWake t bank => Sys2Proof.Machine.execBankWake t bank s
  | .bankWakeDone t bank => Sys2Proof.Machine.execBankWakeDone t bank s
  | .sramWordError t bank addr word unit => Sys2Proof.Machine.execSramWordError t bank addr word unit s
  | .bankScrub t bank => Sys2Proof.Machine.execBankScrub t bank s
  | .icRequest t target reqs => Sys2Proof.Machine.execIcRequest t target reqs s
  | .icResponse t target ident => Sys2Proof.Machine.execIcResponse t target ident s
  | .icTimeout t target => Sys2Proof.Machine.execIcTimeout t target s
  | .icLockOpen t init target ident => Sys2Proof.Machine.execIcLockOpen t init target ident s
  | .icLockCut t target => Sys2Proof.Machine.execIcLockCut t target s
  | .icPriorityWrite t w init prios => Sys2Proof.Machine.execIcPriorityWrite t w init prios s
  | .offerManifest t w manifest => Sys2Proof.Machine.execOfferManifest t w manifest s
  | .partWrite t w part data => Sys2Proof.Machine.execPartWrite t w part data s
  | .caddyDiscard t w => Sys2Proof.Machine.execCaddyDiscard t w s
  | .copyAbort t w => Sys2Proof.Machine.execCopyAbort t w s
  | .keyRevoke t w slot => Sys2Proof.Machine.execKeyRevoke t w slot s
  | .activationWrite t w act => Sys2Proof.Machine.execActivationWrite t w act s
  | .activationPrepareRx t coord act twinActive twinPeers => Sys2Proof.Machine.execActivationPrepareRx t coord act twinActive twinPeers s
  | .activationReportRx t chip code => Sys2Proof.Machine.execActivationReportRx t chip code s
  | .activationReportDeadline t => Sys2Proof.Machine.execActivationReportDeadline t s
  | .activationAbort t w => Sys2Proof.Machine.execActivationAbort t w s
  | .activationInstant t => Sys2Proof.Machine.execActivationInstant t s
  | .probationEnd t => Sys2Proof.Machine.execProbationEnd t s
  | .carryOverAppend t => Sys2Proof.Machine.execCarryOverAppend t s
  | .carryOverRegionSwitch t => Sys2Proof.Machine.execCarryOverRegionSwitch t s
  | .voltageLoopPeriod t die => Sys2Proof.Machine.execVoltageLoopPeriod t die s
  | .paceMonitorWindow t tile pace => Sys2Proof.Machine.execPaceMonitorWindow t tile pace s
  | .paceMarginTimeout t die => Sys2Proof.Machine.execPaceMarginTimeout t die s
  | .regulatorPoll t die ack vout status => Sys2Proof.Machine.execRegulatorPoll t die ack vout status s
  | .railMonitorTrip t rail high mv => Sys2Proof.Machine.execRailMonitorTrip t rail high mv s
  | .brownoutEnd t rail lowest => Sys2Proof.Machine.execBrownoutEnd t rail lowest s
  | .brownoutRingWrite t => Sys2Proof.Machine.execBrownoutRingWrite t s
  | .pwrgdFall t => Sys2Proof.Machine.execPwrgdFall t s
  | .resetNLow t => Sys2Proof.Machine.execResetNLow t s
  | .bringupStart t => Sys2Proof.Machine.execBringupStart t s
  | .bringupPhaseDone t r => Sys2Proof.Machine.execBringupPhaseDone t r s
  | .bringupOverrun t => Sys2Proof.Machine.execBringupOverrun t s
  | .bringupReady t => Sys2Proof.Machine.execBringupReady t s
  | .restartHandover t w => Sys2Proof.Machine.execRestartHandover t w s
  | .restartNow t w => Sys2Proof.Machine.execRestartNow t w s
  | .restartWithCopy t w => Sys2Proof.Machine.execRestartWithCopy t w s
  | .lullEnter t w => Sys2Proof.Machine.execLullEnter t w s
  | .lullWakeWrite t w => Sys2Proof.Machine.execLullWakeWrite t w s
  | .wakeNFall t twin => Sys2Proof.Machine.execWakeNFall t twin s
  | .lullWakeDone t => Sys2Proof.Machine.execLullWakeDone t s
  | .lullWakeLate t => Sys2Proof.Machine.execLullWakeLate t s
  | .undervoltTrip t die mv => Sys2Proof.Machine.execUndervoltTrip t die mv s
  | .jtagExtest t => Sys2Proof.Machine.execJtagExtest t s
  | .tapReset t => Sys2Proof.Machine.execTapReset t s
  | .arpNdEchoFrameRx t p f => Sys2Proof.Machine.execArpNdEchoFrameRx t p f s
  | .nmosRegistration t found => Sys2Proof.Machine.execNmosRegistration t found s
  | .asrcAcquired t ch ratio => Sys2Proof.Machine.execAsrcAcquired t ch ratio s
  | .txpllRelock t tile pll => Sys2Proof.Machine.execTxpllRelock t tile pll s
  | .twinLaneUp t n => Sys2Proof.Machine.execTwinLaneUp t n s
  | .salvoRetentionExpiry t slot => Sys2Proof.Machine.execSalvoRetentionExpiry t slot s
  | .refreshModeChange t stack temp => Sys2Proof.Machine.execRefreshModeChange t stack temp s

end Sys2Proof.Machine
end

