-- ==== Sys2Proof/Safety.lean ====
section
/-! DEFINITION. The words in which statements about the chip are made: a canonical object store, an outcome that goes on, how a
command ends, an object record that the checks let through, and a message that a session takes up. -/

namespace Sys2Proof

/-- The words of banks and HBM windows are in canonical form (log entry 31). -/
def Machine.Memory.wf (m : Machine.Memory) : Bool := Machine.wordsWf m.words

/-- Equal contents are equal data: the object store lists each object once, in the order of addresses, and none at its default (R10,
R33), and so do the words of banks and HBM windows. -/
def Machine.State.wf (s : Machine.State) : Bool := Machine.objsWf s.objs && s.mem.wf

/-- An outcome goes on. -/
def goesOn (o : Host.Outcome Machine.State Machine.Fault Machine.Refusal) : Prop := ∃ t, o = .next t

namespace Machine

/-- A command that began in `s` and whose own effect ends in `u` leaves this state: replies held for a lost twin have left and
the Barometer has been watched, the subscribers know of the changes, and a restart that was called for has come (R64, R420,
R423, R513). -/
def State.closed (s u : State) : State := (u.settle.notify s).restartDue

/-! ## One object written (R37, R538) -/

/-- Checks 1 to 5, 7, 8 and 9 of R538 let a party write a value to an object, at Ready. -/
def State.admits (s : State) (w : Writer) (k : Key) (v : Val) : Bool :=
  s.ready && s.judgeWrite w k == 0 && (!s.lockedHere k || w.slot == 0) &&
    (match descOf k with
     | some d => tyFits d.ty v && d.rng.holds v && !(d.acc == .rwi && !s.unitIdle k)
     | none => false)

/-- The state in which an accepted value takes effect: its mirror item has left first where its object is mirrored (R39,
R419). -/
def State.sentOn (s : State) (k : Key) (v : Val) : State := if s.writeGoesOn k then s.mirror (.write k v) else s

/-- How an accepted write ends: its verdict is sent, and sessions of a role key that it replaced close (R57). -/
def State.granted (s : State) (k : Key) : State := (s.emit (.result k C.ok)).endRekeyed

/-- The object record that a command of one object writes: the instant it arrives, its party, the time bases whose step_override is written with it,
its object and its value. -/
def objectRecord : Instr → Option (Nat × Writer × List Nat × Key × Val)
  | .genericObjectWrite t w k v => some (t, w, [], k, v)
  | .sessionClose t w slot => some (t, w, [], O.slot_close slot, .n 1)
  | .keyWrite t w role key => some (t, w, [], ⟨0x1010, 0, 5 + role⟩, .b key)
  | .takeCancel t w slot => some (t, w, [], O.take_cancel slot, .n 1)
  | .takeListWrite t w slot list => some (t, w, [], O.salvo_take_list slot, .b list)
  | .salvoRelease t w slot => some (t, w, [], O.salvo_release slot, .n 1)
  | .hintEnable t w inst on => some (t, w, [], O.hint_enable inst, .n (b01 on))
  | .reoptimise t w => some (t, w, [], O.placer_reoptimise, .n 1)
  | .recircWrite t w x dst => some (t, w, [], O.src_recirc_of x, .n dst)
  | .flowEnable t w fam inst on => some (t, w, [], O.flow_enable fam inst, .n (b01 on))
  | .groupEnable t w inst on => some (t, w, [], O.grp_enable inst, .n (b01 on))
  | .audioChannelsWrite t w inst count => some (t, w, [], O.aflow_channels 0x3700 inst, .n count)
  | .headClassWrite t w head cls => some (t, w, [], O.head_class head, .n cls)
  | .headPortBind t w head port => some (t, w, [], O.head_out_port head, .n port)
  | .scalerPairWrite t w scaler other => some (t, w, [], O.scaler_pair_with scaler, .n other)
  | .layerCommit t w layer => some (t, w, [], O.layer_commit layer, .n 1)
  | .fenceRaise t w fence value => some (t, w, [], O.fence_value fence, .n value)
  | .fenceReset t w fence => some (t, w, [], O.fence_reset fence, .n 1)
  | .groupJoin t w layer group => some (t, w, [], O.layer_group layer, .n group)
  | .groupCommit t w group => some (t, w, [], O.cgroup_commit group, .n 1)
  | .layerClaim t w layer => some (t, w, [], O.layer_claim layer, .n 1)
  | .layerToRenderer t w layer => some (t, w, [], O.layer_claim layer, .n 2)
  | .layerRelease t w layer => some (t, w, [], O.layer_claim layer, .n 3)
  | .imageWrite t w layer image => some (t, w, [], O.layer_image layer, .b image)
  | .elementsWrite t w layer elements => some (t, w, [], O.layer_elements layer, .b elements)
  | .audioLevelWrite t w d sub v => some (t, w, [], ⟨0x4100, d, sub⟩, .n v)
  | .audioDelayWrite t w d us => some (t, w, [], O.adest_delay d, .n us)
  | .startArm t w => some (t, w, [], O.sapAll_arm, .n 1)
  | .startDisarm t w => some (t, w, [], O.sapAll_arm, .n 0)
  | .sapRunWrite t w dir run => some (t, w, [], O.sap_run dir, .n (b01 run))
  | .loudnessEnable t w g on => some (t, w, [], O.loud_enable g, .n (b01 on))
  | .loudnessReset t w g => some (t, w, [], O.loud_reset g, .n 1)
  | .forceEntryWrite t w d e => some (t, w, [], O.dpll_force_entry d, .n e)
  | .dpllModeWrite t w d sub v => some (t, w, [], ⟨0x5100, d, sub⟩, .n v)
  | .steerWrite t w d v => some (t, w, [], O.dpll_steer d, .n v)
  | .epochArm t w d => some (t, w, [], O.dpll_epoch_arm d, .n 1)
  | .epochDisarm t w d => some (t, w, [], O.dpll_epoch_arm d, .n 0)
  | .ckoEnable t w o => some (t, w, [], O.cko_enable o, .n 1)
  | .ckoDisable t w o => some (t, w, [], O.cko_enable o, .n 0)
  | .phaseOffsetWrite t w o v => some (t, w, [], O.cko_phase_offset o, .n v)
  | .swpEnable t w n on => some (t, w, [], O.swp_enable n, .n (b01 on))
  | .jumpAccept t w tb => some (t, w, [], O.tb_jump_accept tb, .n 1)
  | .jumpWithdraw t w tb => some (t, w, [], O.tb_jump_accept tb, .n 0)
  | .launchRequest t w req => some (t, w, [], O.launch_request, .b req)
  | .tsQueueRelease t w tb seq => some (t, w, [], O.tsq_release tb, .n seq)
  | .tsOverflowClear t w tb => some (t, w, [], O.tsq_clear_overflow tb, .n 1)
  | .portKindWrite t w p kind => some (t, w, [], O.port_kind p, .n kind)
  | .laneSetActive t w l => some (t, w, [], O.lane_state l, .n 0)
  | .laneSetIdle t w l => some (t, w, [], O.lane_state l, .n 1)
  | .laneSetDormant t w l => some (t, w, [], O.lane_state l, .n 2)
  | .eqRestart t w l => some (t, w, [], O.eq_restart l, .n 1)
  | .laneTestStart t w l => some (t, w, [], O.ltest_start l, .n 1)
  | .laneTestStop t w l => some (t, w, [], O.ltest_stop l, .n 1)
  | .laneTestFinish t w l => some (t, w, [], O.ltest_finish l, .n 1)
  | .injectSingle t w l => some (t, w, [], O.ltest_inject_single l, .n 1)
  | .injectBurst t w l n => some (t, w, [], O.ltest_inject_burst l, .n n)
  | .meshLinkAdmin t w l up => some (t, w, [], O.mlink_admin (1 + l), .n (b01 up))
  | .planWrite t w plan => some (t, w, [], O.mesh_plan, .b plan)
  | .handoverRequest t w => some (t, w, [], O.twin_handover, .n 1)
  | .handoverAbort t w => some (t, w, [], O.twin_handover_abort, .n 1)
  | .faultClear t w src => some (t, w, [], O.fsrc_clear (src + 1), .n 1)
  | .faultClearAll t w => some (t, w, [], O.fault_clear_all, .n 1)
  | .autoClearWrite t w src on => some (t, w, [], O.fsrc_auto_clear (src + 1), .n (b01 on))
  | .reactionsWrite t w src set => some (t, w, [], O.fsrc_reactions (src + 1), .n set)
  | .firstRecordRearm t w => some (t, w, [], O.fault_rearm, .n 1)
  | .unitInclude t w entry => some (t, w, [], O.fault_include, .b entry)
  | .injectArm t w => some (t, w, [], O.fault_inject_arm, .n 1)
  | .injectDisarm t w => some (t, w, [], O.fault_inject_arm, .n 0)
  | .icPriorityWrite t w init prios => some (t, w, [], O.ini_priorities (1 + init), .b prios)
  | .offerManifest t w manifest => some (t, w, [], O.fw_offer_manifest, .b manifest)
  | .partWrite t w part data => some (t, w, [], O.part_data (1 + part), .b data)
  | .caddyDiscard t w => some (t, w, [], O.fw_discard, .n 1)
  | .copyAbort t w => some (t, w, [], O.fw_copy_abort, .n 1)
  | .keyRevoke t w slot => some (t, w, [], O.kslot_revoke (32 + slot), .n 1)
  | .activationWrite t w act => some (t, w, [], O.fw_activation, .b act)
  | .activationAbort t w => some (t, w, [], O.fw_activation_abort, .n 1)
  | .restartHandover t w => some (t, w, [], O.bring_restart, .n 1)
  | .restartNow t w => some (t, w, [], O.bring_restart, .n 2)
  | .restartWithCopy t w => some (t, w, [], O.bring_restart, .n 3)
  | .lullEnter t w => some (t, w, [], O.pow_lull, .n 1)
  | .lullWakeWrite t w => some (t, w, [], O.pow_lull, .n 0)
  | .timeSet t w tb reading override => some (t, w, if override then [tb] else [], O.tb_time_set tb, .n reading)
  | _ => none

/-! ## A message that a session takes up (R41, R42, R46, R47, R50 to R55) -/

/-- The bytes are a whole message of an open session of this chip, and a request for this chip that has not been seen: its
length, header and tag are right, its epoch is the chip's, its sequence number is fresh, and its path is served. -/
def State.hears (s : State) (via : Via) (raw : Bytes) (x : Session) : Prop :=
  s.ready = true ∧ (via.path = .spi → s.natNow O.sec_spi_enable = 1) ∧
    raw.length ≤ 1400 ∧ raw.length = 32 + field raw 30 2 + 32 ∧ field raw 0 2 = 0x4F44 ∧
    s.roleKey (field raw 7 1) ≠ [] ∧
    messageTag (s.roleKey (field raw 7 1)) (field raw 20 8) (field raw 8 4) (raw.take (32 + field raw 30 2)) =
      raw.drop (32 + field raw 30 2) ∧
    field raw 20 8 = s.epoch ∧ field raw 8 4 ≠ 0 ∧ field raw 12 8 ≠ 0 ∧
    s.sessionOf (field raw 7 1) (field raw 8 4) = some x ∧ s.freshSeq x (field raw 12 8) = true ∧
    judgeHeader raw = 0 ∧ (field raw 28 2 = 1023 ∨ field raw 28 2 = s.chipId)

/-- The state once the session has taken the message up (R54, R55). -/
def State.heard (s : State) (via : Via) (raw : Bytes) (x : Session) : State := (s.noteMessage x (field raw 12 8) via).1

/-- The ticket under which the message is answered: its session's key and slot (R52, R54). -/
def heardTicket (via : Via) (raw : Bytes) (x : Session) : Ticket := ticketOf via raw x.key x.slot

/-- The body of a message (Table 2.5). -/
def messageBody (raw : Bytes) : Bytes := slice raw 32 (field raw 30 2)

/-- The message that a command brings: its time, its path and its bytes; none for a command that brings none, and for one over SPI
whose length differs from what came. -/
def messageOf : Instr → Option (Nat × Via × Bytes)
  | .read t via raw => some (t, via, raw)
  | .readDescribe t via raw => some (t, via, raw)
  | .write t via raw => some (t, via, raw)
  | .writeTxn t via raw => some (t, via, raw)
  | .subscribeAdd t via raw => some (t, via, raw)
  | .subscribeRemove t via raw => some (t, via, raw)
  | .subscribeRemoveAll t via raw => some (t, via, raw)
  | .take t via raw => some (t, via, raw)
  | .priorityTake t via raw => some (t, via, raw)
  | .salvoPrepare t via raw => some (t, via, raw)
  | .salvoPour t via raw => some (t, via, raw)
  | .salvoDrop t via raw => some (t, via, raw)
  | .bulkOpen t via raw => some (t, via, raw)
  | .bulkChunk t via raw => some (t, via, raw)
  | .bulkClose t via raw => some (t, via, raw)
  | .bulkAbort t via raw => some (t, via, raw)
  | .spiSendMessage t len raw => if len = raw.length then some (t, ⟨.spi, [], 0⟩, raw) else none
  | _ => none

end Machine

end Sys2Proof
end

