-- ==== Sys2Proof/Certificates/Slice0/Obligations.lean ====
section
/-! DEFINITION. The statements for the provers: what commands, events and messages do, what they leave as it was, and the
invariants of a step. -/

open Sys2Proof Sys2Proof.Machine

/-- Step carries out the command at the front of the queue with the rest of the queue; on an empty queue the chip idles (log
entry 1). -/
def Obligations.StepRunsTheFrontCommand : Prop :=
  (∀ (s : State) (c : Instr) (rest : List Instr), s.pending = c :: rest → step s = exec c { s with pending := rest }) ∧
    ∀ s : State, s.pending = [] → step s = .next s

/-- No command of the table ends in a fault or a refusal, in any state and with any operands. -/
def Obligations.EveryCommandGoesOn : Prop :=
  ∀ (c : Instr) (s : State), goesOn (exec c s)

/-- An invariant that every step keeps: the object store lists each object once, in the order of addresses, and none at its
default, and the words of banks and HBM windows likewise, so that equal contents are equal data (R10, R33, R34, R471). -/
def Obligations.EveryStepKeepsTheStoresCanonical : Prop :=
  ∀ s s' : State, s.wf = true → step s = .next s' → s'.wf = true

/-- The machine right after reset has canonical stores, four time bases, an empty queue and nothing sent. Values that the
spec's object maps give after a start without stored settings (R10, R15), and what of them the machine holds right after
reset: defaults of sessions, takes, salvos, placement, frame sync and references; every lane a single-lane SDI port; no
route, no take, no open session, no latched fault. -/
def Obligations.ResetStateAndItsDefaults : Prop :=
  (State.reset.wf = true ∧ State.reset.tbs.length = 4 ∧ State.reset.pending = [] ∧ State.reset.out = []) ∧
  (State.reset.nat O.sec_sessions_max = 64 ∧ State.reset.nat O.sec_idle_timeout = 60 ∧ State.reset.nat O.sec_replay_window = 256 ∧
  State.reset.nat O.sec_udp_port = 7301 ∧ State.reset.nat O.takes_timed_horizon = 86400 ∧
  State.reset.nat O.salvos_pour_lead_default = 10 ∧ State.reset.nat O.placer_w_hop = 1000 ∧ State.reset.nat O.placer_w_sync = 3000 ∧
  State.reset.nat O.fsync_guard = 50000 ∧ State.reset.nat O.fsync_hysteresis = 1000000 ∧
  State.reset.nat O.refAll_hard_limit = 10000 ∧ State.reset.nat O.refAll_qualify_time = 10 ∧
  (∀ l, l < 1024 → State.reset.portKind l = 0 ∧ State.reset.ownerPort l = l) ∧
  State.reset.sw.routes = [] ∧ State.reset.sw.takes = [] ∧ State.reset.proto.sessions = [] ∧ State.reset.latchedList = [])

/-- A command changes everything but the queue, and an instant does not run back: the commands that wait are left as they
were, and the chip's time is that of the state or later. The chip has four time bases (R346), and no command takes one away
or adds one. -/
def Obligations.CommandsKeepQueueTimeAndTimeBases : Prop :=
  (∀ (c : Instr) (s s' : State), exec c s = .next s' → s'.pending = s.pending ∧ s.now ≤ s'.now ∧ s'.free = s.free + 1) ∧
  (∀ (c : Instr) (s s' : State), s.tbs.length = 4 → exec c s = .next s' → s'.tbs.length = 4)

/-- An object reads back what was last set, and setting one leaves every other as it was (R33, R34). The words of banks and
HBM windows read back as last written, every other word as it was; a word never written reads 0, which is the model's choice
(log entry 31). -/
def Obligations.ObjectsAndWordsReadBack : Prop :=
  (∀ (s : State) (k k' : Key) (v : Val), (s.set k v).get k = v ∧ (k' ≠ k → (s.set k v).get k' = s.get k')) ∧
  ((∀ (s : State) (unit addr v unit' addr' : Nat), (s.putWord unit addr v).wordAt unit' addr' =
    if unit' = unit ∧ addr' = addr then v else s.wordAt unit' addr') ∧
  (∀ (s : State) (unit addr v : Nat), s.mem.wf = true → (s.putWord unit addr v).mem.wf = true) ∧
  ∀ unit addr, State.reset.wordAt unit addr = 0)

/-- An accepted write (R37, R60, R538): where the checks let a party write the value and the rule of the object's family
accepts it, the command sends the code OK and has its rule's effect, after the mirror item of an object that the twin holds
too. This covers every command that writes one object. -/
def Obligations.AcceptedWriteTakesEffect : Prop :=
  ∀ (c : Instr) (t : Nat) (w : Writer) (ovr : List Nat) (k : Key) (v : Val) (d : Desc) (s : State),
    objectRecord c = some (t, w, ovr, k, v) → (s.advance t).admits w k v = true → descOf k = some d →
    ((s.advance t).applyWrite w ovr d k v).1 = 0 →
    exec c s = .next (s.closed ((((s.advance t).sentOn k v).applyWrite w ovr d k v).2.granted k))

/-- A refused write changes nothing but for its verdict (R60, R538): whichever check refuses it, the code of that check is
sent, and the object, its unit and the twin are left as they were. The index that a refused take list leaves (R137) is apart.
Before Ready no object is written (R50): every command of one object answers NOT_READY. -/
def Obligations.RefusedWriteChangesNothing : Prop :=
  (∀ (c : Instr) (t : Nat) (w : Writer) (ovr : List Nat) (k : Key) (v : Val) (s : State),
    objectRecord c = some (t, w, ovr, k, v) → (s.advance t).ready = true → ¬(k.fam = 0x3300 ∧ k.sub = 0x03) →
    ((s.advance t).writeObject w ovr k v).1 ≠ 0 →
    exec c s = .next (s.closed (((s.advance t).emit (.result k ((s.advance t).writeObject w ovr k v).1)).endRekeyed))) ∧
  (∀ (c : Instr) (t : Nat) (w : Writer) (ovr : List Nat) (k : Key) (v : Val) (s : State),
    objectRecord c = some (t, w, ovr, k, v) → s.ready = false →
    exec c s = .next (s.closed ((s.advance t).emit (.result k C.notReady))))

/-- How a command ends (R64, R513): with no subscription, no reply held for the twin, no standby and no restart called for,
its own effect is the whole of it; and where subscribers only are told, every object keeps the value that the effect gave it,
but for the counts of lost events in family 1010h. -/
def Obligations.CommandsEndInTheirOwnEffect : Prop :=
  (∀ s u : State, u.proto.subs = [] → u.proto.held = [] → u.standby = false → u.twin.clearSince = none → u.power.due = none →
    s.closed u = u) ∧
    ∀ (s u : State) (k : Key), k.fam ≠ 0x1010 → u.proto.held = [] → u.standby = false → u.power.due = none →
      (s.closed u).get k = u.get k

/-- What a write of a DPLL's object does, and when its family refuses it (R321, R325, R328, R334): forcing an entry,
steering, the mode's settings, and arming and disarming the epoch. What a write of a clock output's or a sync-word port's
object does (R335, R337, R339): enabling and disabling, and a phase offset, refused beyond one period and beyond 1 s, from
which the phase moves on from where it stands. -/
def Obligations.DpllAndClockOutputWriteRules : Prop :=
  ((∀ (b : State) (w : Writer) (k e : Nat), k < 4 → e < 16 →
    b.familyWrite w [] (O.dpll_force_entry k) (.n e) = some (0, b.setN (O.dpll_force_entry k) e)) ∧
  (∀ (b : State) (w : Writer) (k : Nat), k < 4 →
    b.familyWrite w [] (O.dpll_force_entry k) (.n none8) = some (0, (b.setN (O.dpll_force_entry k) none8).runSelector k)) ∧
  (∀ (b : State) (w : Writer) (k : Nat) (v : Int), k < 4 →
    b.familyWrite w [] (O.dpll_steer k) (.n v) =
      some (0, if b.nat (O.dpll_mode k) = 2 then (b.setI (O.dpll_steer k) v).tuneTo k v else b.setI (O.dpll_steer k) v)) ∧
  (∀ (b : State) (w : Writer) (k sub v : Nat), k < 4 → 1 ≤ sub → sub ≤ 4 →
    b.familyWrite w [] ⟨0x5100, k, sub⟩ (.n v) =
      some (if (b.setN ⟨0x5100, k, sub⟩ v).dpllsFit then (0, b.setN ⟨0x5100, k, sub⟩ v) else (C.range, b))) ∧
  (∀ (b : State) (w : Writer) (k e now' : Nat), k < 4 → e = b.nat (O.dpll_epoch_at k) →
    now' = b.tbNow (b.nat (O.dpll_epoch_tb k)) →
    b.familyWrite w [] (O.dpll_epoch_arm k) (.n 1) =
      some (if e < now' + 1000000 ∨ now' + 86400000000000 < e then (C.range, b)
        else if b.nat (O.dpll_epoch_state k) = 1 then (C.busy, b)
        else (0, (b.putDpll { b.dpll k with epoch := some e }).setN (O.dpll_epoch_state k) 1))) ∧
  (∀ (b : State) (w : Writer) (k : Nat), k < 4 →
    (b.nat (O.dpll_epoch_state k) = 1 → b.familyWrite w [] (O.dpll_epoch_arm k) (.n 0) =
      some (0, (b.putDpll { b.dpll k with epoch := none }).setN (O.dpll_epoch_state k) 0)) ∧
    (b.nat (O.dpll_epoch_state k) = 2 → b.familyWrite w [] (O.dpll_epoch_arm k) (.n 0) = some (C.tooLate, b)))) ∧
  ((∀ (b : State) (w : Writer) (o : Nat), o < 24 →
    b.familyWrite w [] (O.cko_enable o) (.n 1) = some (0, b.enableUnit (O.cko_enable o) o true) ∧
    b.familyWrite w [] (O.cko_enable o) (.n 0) = some (0, b.enableUnit (O.cko_enable o) o false)) ∧
  (∀ (b : State) (w : Writer) (o : Nat) (v : Int), o < 24 →
    (b.ckoPeriod o < v.natAbs ∨ 1000000000000 < v.natAbs →
      b.familyWrite w [] (O.cko_phase_offset o) (.n v) = some (C.range, b)) ∧
    (v.natAbs ≤ b.ckoPeriod o → v.natAbs ≤ 1000000000000 →
      ∃ u : State, b.familyWrite w [] (O.cko_phase_offset o) (.n v) = some (0, u) ∧ u.get (O.cko_phase_offset o) = .n v ∧
        u.timing.glides.getLast? = some ⟨0, o, b.ckoPhase o, b.now⟩ ∧
        ∀ k, k ≠ O.cko_phase_offset o → u.get k = b.get k)) ∧
  (∀ (b : State) (w : Writer) (n : Nat),
    b.familyWrite w [] (O.swp_enable n) (.n 0) = some (0, b.enableUnit (O.swp_enable n) (64 + n) false) ∧
    b.familyWrite w [] (O.swp_enable n) (.n 1) =
      some (if b.swpFits n then (0, b.enableUnit (O.swp_enable n) (64 + n) true) else (C.range, b))))

/-- What a write of a time base's object does (R357, R358, R362): a pending step is accepted for its instant, or withdrawn; a
time is set at once, JUMP beyond the guard unless step_override is written with it; a queue's entries are released up to a
sequence, and its overflow bit cleared. A launch request (R364): on a standby it is LOCKED; one whose instant lies from 2 µs
to 1 s ahead, for an interface that is up, joins the requests that wait, of which there are at most 64. -/
def Obligations.TimeBaseAndLaunchWriteRules : Prop :=
  ((∀ (b : State) (w : Writer) (n at' : Nat), b.nat (O.tb_jump_state n) = 1 ∨ b.nat (O.tb_jump_state n) = 2 →
    at' = (if b.nat (O.tb_jump_at n) = 0 then b.tbNow n + 1000000 else b.nat (O.tb_jump_at n)) →
    b.familyWrite w [] (O.tb_jump_accept n) (.n 1) =
      some (if at' < b.tbNow n + 1000000 then (C.range, b)
        else (0, (b.putTb { b.tbRec n with accept := some at' }).setN (O.tb_jump_state n) 2))) ∧
  (∀ (b : State) (w : Writer) (n : Nat), b.nat (O.tb_jump_state n) = 0 ∨ b.nat (O.tb_jump_state n) = 3 →
    b.familyWrite w [] (O.tb_jump_accept n) (.n 1) = some (C.range, b)) ∧
  (∀ (b : State) (w : Writer) (n : Nat),
    (b.nat (O.tb_jump_state n) = 2 → b.familyWrite w [] (O.tb_jump_accept n) (.n 0) =
      some (0, (b.putTb { b.tbRec n with accept := none }).setN (O.tb_jump_state n) 1)) ∧
    (b.nat (O.tb_jump_state n) = 3 → b.familyWrite w [] (O.tb_jump_accept n) (.n 0) = some (C.tooLate, b))) ∧
  (∀ (b : State) (w : Writer) (n reading : Nat) (ovr : List Nat), b.nat (O.tb_role n) < 2 →
    b.familyWrite w ovr (O.tb_time_set n) (.n reading) =
      some (if b.nat (O.tb_jump_guard n) < ((reading : Int) - b.tbNow n).natAbs ∧ ¬ n ∈ ovr then (C.jump, b)
        else if reading = b.tbNow n then (0, b) else (0, b.stepTb n ((reading : Int) - b.tbNow n)))) ∧
  (∀ (b : State) (w : Writer) (n reading : Nat) (ovr : List Nat), 2 ≤ b.nat (O.tb_role n) →
    b.familyWrite w ovr (O.tb_time_set n) (.n reading) = some (C.busy, b)) ∧
  (∀ (b : State) (w : Writer) (n seq : Nat) (l : List Bytes), dropStamps seq (records 20 (b.oct (O.tsq_entries n))) = some l →
    b.familyWrite w [] (O.tsq_release n) (.n seq) =
      some (0, (b.setB (O.tsq_entries n) l.flatten).setN (O.tsq_count n) l.length)) ∧
  (∀ (b : State) (w : Writer) (n seq : Nat), dropStamps seq (records 20 (b.oct (O.tsq_entries n))) = none →
    b.familyWrite w [] (O.tsq_release n) (.n seq) = some (C.range, b)) ∧
  (∀ (b : State) (w : Writer) (n : Nat),
    b.familyWrite w [] (O.tsq_clear_overflow n) (.n 1) = some (0, b.setBit (O.tsq_status n) 0 false))) ∧
  ((∀ (b : State) (w : Writer) (req : Bytes), b.standby = true →
    b.familyWrite w [] O.launch_request (.b req) = some (C.locked, b)) ∧
  ∀ (b : State) (w : Writer) (req : Bytes) (n i : Nat), b.standby = false → 30 ≤ req.length → req.length ≤ 1530 →
    n = field req 0 1 → n < 4 → field req 1 1 < 2 → b.launchInstant n (slice req 6 10) = some i → b.tbNow n + 2000 ≤ i →
    i ≤ b.tbNow n + 1000000000 → b.ifaceUp (field req 2 2) = true →
    b.familyWrite w [] O.launch_request (.b req) =
      some (if 64 ≤ b.clocks.launches.length then (C.busy, b)
        else (0, { b with clocks := { b.clocks with launches := b.clocks.launches ++
          [⟨n, field req 1 1 == 1, field req 2 2, field req 4 2, i, req.drop 16⟩] } })))

/-- What a write of an audio unit's object does (R290, R299, R300, R305, R306): levels ramp from the value they had, the
start set is armed and disarmed, a serial audio direction runs and stops, and a loudness group is enabled and reset. -/
def Obligations.AudioWriteRules : Prop :=
  (∀ (b : State) (w : Writer) (d sub : Nat) (v : Int), 3 ≤ sub → sub ≤ 5 →
    b.familyWrite w [] ⟨0x4100, d, sub⟩ (.n v) = some (0, (b.ramp d sub).setI ⟨0x4100, d, sub⟩ v)) ∧
  (∀ (b st : State) (w : Writer) (d us : Nat),
    b.rebook 0x4100 d (b.adstTile d / 8) (b.delayBook d us).1 (b.delayBook d us).2 = .ok st →
    b.familyWrite w [] (O.adest_delay d) (.n us) = some (0, (st.ramp d 6).setN (O.adest_delay d) us)) ∧
  (∀ (b : State) (w : Writer) (d us : Nat) (e : Refuse),
    b.rebook 0x4100 d (b.adstTile d / 8) (b.delayBook d us).1 (b.delayBook d us).2 = .error e →
    b.familyWrite w [] (O.adest_delay d) (.n us) = some (C.hbmBw, b)) ∧
  (∀ (b : State) (w : Writer), b.startSet ≠ [] → (∀ d ∈ b.startSet, b.nat (O.sap_state d) = 0) →
    ∃ u : State, b.familyWrite w [] O.sapAll_arm (.n 1) = some (0, u) ∧ u.nat O.sapAll_trigger_state = 1 ∧
      (∀ d ∈ b.startSet, u.nat (O.sap_state d) = 1 ∧ u.inArmedSet d = true)) ∧
  (∀ (b : State) (w : Writer), b.startSet = [] → b.familyWrite w [] O.sapAll_arm (.n 1) = some (C.range, b)) ∧
  (∀ (b : State) (w : Writer) (d : Nat), d ∈ b.startSet → b.nat (O.sap_state d) ≠ 0 →
    b.familyWrite w [] O.sapAll_arm (.n 1) = some (C.busy, b)) ∧
  (∀ (b : State) (w : Writer),
    (b.nat O.sapAll_trigger_state = 2 → b.familyWrite w [] O.sapAll_arm (.n 0) = some (C.tooLate, b)) ∧
    (b.nat O.sapAll_trigger_state = 1 → b.familyWrite w [] O.sapAll_arm (.n 0) =
      some (0, ((b.audio.saps.filter (fun r => r.grid.isNone)).foldl (fun st r => st.stopSap r.dir) b).setN O.sapAll_trigger_state 0))) ∧
  (∀ (b : State) (w : Writer) (dir : Nat), 1 ≤ dir → b.sap dir = none →
    b.familyWrite w [] (O.sap_run dir) (.n 1) =
      some (0, ((b.putSap ⟨dir, some (gridAtOrAfter (b.sapHz dir) (b.tbNow 0)), none, 0, b.now, 0, false, [], 0⟩).setN
        (O.sap_state dir) 1).setF (O.sap_run dir) true)) ∧
  (∀ (b : State) (w : Writer) (dir : Nat) (r : SapRec), 1 ≤ dir → b.sap dir = some r → r.grid.isSome = true → r.first.isSome = true →
    b.nat (O.sap_state dir) ≠ 3 →
    b.familyWrite w [] (O.sap_run dir) (.n 0) = some (0, (b.putSap { r with stopping := true }).setF (O.sap_run dir) false)) ∧
  (∀ (b : State) (w : Writer) (g : Nat), b.familyWrite w [] (O.loud_enable g) (.n 0) = some (0, b.setF (O.loud_enable g) false)) ∧
  (∀ (b : State) (w : Writer) (g : Nat) (c : Nat × Nat) (l : List (Option (Nat × Nat))),
    (loudMembers (b.oct (O.loud_members g))).map (fun m => b.memberClock m.1) = some c :: l → (∀ x ∈ l, x = some c) →
    b.familyWrite w [] (O.loud_enable g) (.n 1) = some (0, b.setF (O.loud_enable g) true)) ∧
  (∀ (b : State) (w : Writer) (g : Nat), b.familyWrite w [] (O.loud_reset g) (.n 1) =
      some (0, { b with audio := { b.audio with resets := nub (b.audio.resets ++ [g]) } }))

/-- What a write of a fence, a layer's ownership or a commit group does (R270, R272, R273, R275): a fence only rises, and the
commits it reaches no longer wait on it; a fence that commits wait on is not reset; a layer is claimed, given to the renderer
and released by its owner; a layer joins a group of its compositor that has its head. What a commit, an image, an element
list, and a head's or scaler's settings do when written (R256, R258, R268, R270, R271, R273, R277, R278): a lone layer of
one's own commits for the first flip point at least a line later; what a layer's image or list may not be is refused; a
head's class waits for its source to be unused; a port is bound to one head of its tile. -/
def Obligations.CompositionWriteRules : Prop :=
  ((∀ (b : State) (w : Writer) (f v : Nat), v < b.nat (O.fence_value f) →
    b.familyWrite w [] (O.fence_value f) (.n v) = some (C.range, b)) ∧
  (∀ (b : State) (w : Writer) (f v : Nat), f ≠ none16 → b.nat (O.fence_value f) ≤ v →
    ∃ u : State, b.familyWrite w [] (O.fence_value f) (.n v) = some (0, u) ∧ u.nat (O.fence_value f) = v ∧
      u.comp.commits.length = b.comp.commits.length ∧ (∀ c ∈ u.comp.commits, c.fence = f → v < c.value) ∧
      ∀ k, k ≠ O.fence_value f → u.get k = b.get k) ∧
  (∀ (b : State) (w : Writer) (f : Nat),
    b.familyWrite w [] (O.fence_reset f) (.n 1) =
      some (if b.fenceWaiters f = 0 then (0, b.setN (O.fence_value f) 0) else (C.busy, b))) ∧
  (∀ (b : State) (w : Writer) (l : Nat), l < 2048 →
    b.layerOwner l = 0 ∨ (b.layerOwner l = 1 ∧ b.nat (O.layer_owner_session l) = 0) ∨ w.role = 3 ∨ w.role = 4 →
    b.familyWrite w [] (O.layer_claim l) (.n 1) =
      some (0, (b.setN (O.layer_owner l) 1).setN (O.layer_owner_session l) w.session)) ∧
  (∀ (b : State) (w : Writer) (l : Nat), l < 2048 → b.layerOwner l = 2 → w.role < 3 →
    b.familyWrite w [] (O.layer_claim l) (.n 1) = some (C.busy, b)) ∧
  (∀ (b : State) (w : Writer) (l : Nat), l < 2048 →
    b.familyWrite w [] (O.layer_claim l) (.n 2) =
      some (if b.ownsLayer w l ∨ 2 ≤ w.role then (0, (b.setN (O.layer_owner l) 0).setN (O.layer_owner_session l) 0)
        else (C.notOwner, b))) ∧
  (∀ (b : State) (w : Writer) (l : Nat), l < 2048 →
    b.familyWrite w [] (O.layer_claim l) (.n 3) =
      some (if b.ownsLayer w l then (0, (b.setN (O.layer_owner l) 1).setN (O.layer_owner_session l) 0) else (C.notOwner, b))) ∧
  (∀ (b : State) (w : Writer) (l : Nat), l < 2048 → b.nat (O.layer_group l) = none16 →
    b.familyWrite w [] (O.layer_group l) (.n none16) = some (0, b.setN (O.layer_group l) none16)) ∧
  (∀ (b : State) (w : Writer) (l g : Nat), l < 2048 → b.nat (O.layer_group l) = none16 → g ≠ none16 →
    ¬(2048 + 16 * (l / 128) ≤ g ∧ g < 2064 + 16 * (l / 128)) →
    b.familyWrite w [] (O.layer_group l) (.n g) = some (C.range, b)) ∧
  (∀ (b : State) (w : Writer) (l g : Nat), l < 2048 → b.nat (O.layer_group l) = none16 →
    2048 + 16 * (l / 128) ≤ g → g < 2064 + 16 * (l / 128) → b.groupPending g = none →
    b.nat (O.cgroup_head g) = b.nat (O.layer_head l) →
    (∀ m ∈ b.commitMembers g, b.flag (O.layer_mirror m) = b.flag (O.layer_mirror l)) →
    b.familyWrite w [] (O.layer_group l) (.n g) = some (0, b.setN (O.layer_group l) g))) ∧
  ((∀ (b : State) (w : Writer) (l h : Nat), l < 2048 → b.mayWriteLayer w l 0x14 = true → b.layerGroup l = none →
    b.flipHead l = some h → b.layerSteeps l = false →
    b.familyWrite w [] (O.layer_commit l) (.n 1) =
      some (0, { b with comp := { b.comp with
        commits := b.comp.commits ++ [⟨l, b.firstFlip h, (b.fenceAt l).1, (b.fenceAt l).2⟩] } })) ∧
  (∀ (b : State) (w : Writer) (l : Nat), l < 2048 → b.mayWriteLayer w l 0x14 = false →
    b.familyWrite w [] (O.layer_commit l) (.n 1) = some (C.notOwner, b)) ∧
  (∀ (b : State) (w : Writer) (l : Nat), l < 2048 → b.mayWriteLayer w l 0x14 = true → (b.layerGroup l).isSome = true →
    b.familyWrite w [] (O.layer_commit l) (.n 1) = some (C.busy, b)) ∧
  (∀ (b : State) (w : Writer) (g l h : Nat) (ls : List Nat), 2048 ≤ g → b.commitMembers g = l :: ls →
    (∀ m ∈ l :: ls, b.mayWriteLayer w m 0x14 = true) → b.flipHead l = some h →
    b.familyWrite w [] (O.cgroup_commit g) (.n 1) =
      some (0, { b with comp := { b.comp with groups := b.comp.groups.filter (fun c => c.group ≠ g) ++
        [⟨g, b.firstFlip h, (l :: ls).map (fun m => (m, b.fenceAt m))⟩] } })) ∧
  (∀ (b : State) (w : Writer) (g m : Nat), 2048 ≤ g → m ∈ b.commitMembers g → b.mayWriteLayer w m 0x14 = false →
    b.familyWrite w [] (O.cgroup_commit g) (.n 1) = some (C.notOwner, b)) ∧
  (∀ (b : State) (w : Writer) (l code : Nat) (image : Bytes), l < 2048 → b.mayWriteLayer w l 0x15 = true →
    b.judgeImage l image = .error code → b.familyWrite w [] (O.layer_image l) (.b image) = some (code, b)) ∧
  (∀ (b : State) (w : Writer) (l : Nat) (image palette : Bytes) (r : ImageRect), l < 2048 → b.mayWriteLayer w l 0x15 = true →
    b.judgeImage l image = .ok (r, palette) → b.flag (O.layer_mirror l) = false →
    b.familyWrite w [] (O.layer_image l) (.b image) =
      some (0, (b.putImage { b.imageOf l with
        back := (b.imageOf l).back.filter (fun x => !r.covers x) ++ [r], palette := palette }).autoCommit l)) ∧
  (∀ (b : State) (w : Writer) (l : Nat) (els : Bytes), l < 2048 → b.mayWriteLayer w l 0x16 = true →
    b.familyWrite w [] (O.layer_elements l) (.b els) =
      some (if els.length % 32 = 0 ∧ els.length / 32 ≤ 64 ∧ (records 32 els).all elementOk
        then (0, (b.setLater (O.layer_elements l) (.b els)).autoCommit l) else (C.busy, b))) ∧
  (∀ (b : State) (w : Writer) (h cls : Nat),
    b.familyWrite w [] (O.head_class h) (.n cls) =
      some (if b.fanout (b.srcId 0 (3072 + h)) = [] then (0, b.setN (O.head_class h) cls) else (C.busy, b))) ∧
  (∀ (b : State) (w : Writer) (h : Nat),
    b.familyWrite w [] (O.head_out_port h) (.n none16) = some (0, b.setN (O.head_out_port h) none16)) ∧
  (∀ (b : State) (w : Writer) (h p : Nat), p ≠ none16 → p / 64 ≠ h / 4 →
    b.familyWrite w [] (O.head_out_port h) (.n p) = some (C.range, b)) ∧
  (∀ (b : State) (w : Writer) (n m : Nat), m ≠ none8 → 64 * (n / 64) + m = n →
    b.familyWrite w [] (O.scaler_pair_with n) (.n m) = some (C.range, b)) ∧
  (∀ (b : State) (w : Writer) (n : Nat), b.pairWith n = none →
    b.familyWrite w [] (O.scaler_pair_with n) (.n none8) = some (0, b)) ∧
  (∀ (b : State) (w : Writer) (n m o need : Nat), m ≠ none8 → o = 64 * (n / 64) + m → o ≠ n → b.pairWith n = none →
    b.pairWith o = none → need = max (b.needNow n) (b.needNow o) →
    b.familyWrite w [] (O.scaler_pair_with n) (.n m) =
      some (0, [n, o].foldl (fun st i => (st.setN (O.scaler_allocation i) need).reviewScaler i)
        ((b.setN (O.scaler_pair_with n) m).setN (O.scaler_pair_with o) (n % 64)))))

/-- What a write of a port's kind does (R13, R16, R18, R372, R373): a member kind and a misaligned port are refused RANGE, a
kind that the port has already changes nothing, a lane that carries something is refused BUSY, as is a second lane-reference
group; an accepted kind forms the port. -/
def Obligations.PortKindWriteRules : Prop :=
  (∀ (b : State) (w : Writer) (p kind : Nat), kind = 6 ∨ p % kindLanes kind ≠ 0 →
    b.familyWrite w [] (O.port_kind p) (.n kind) = some (C.range, b)) ∧
  (∀ (b : State) (w : Writer) (p kind : Nat), kind ≠ 6 → p % kindLanes kind = 0 → kind = b.portKind p →
    b.familyWrite w [] (O.port_kind p) (.n kind) = some (0, b)) ∧
  (∀ (b : State) (w : Writer) (p kind l : Nat), kind ≠ 6 → p % kindLanes kind = 0 → kind ≠ b.portKind p →
    ¬(2 ≤ kind ∧ kind ≤ 4 ∧ b.natNow (O.tile_lref_spread (1024 + p / 64)) ≠ 0) → kindLanes (b.portKind p) = 1 →
    p ≤ l → l < p + kindLanes kind → b.laneFree p l = false →
    b.familyWrite w [] (O.port_kind p) (.n kind) = some (C.busy, b)) ∧
  (∀ (b : State) (w : Writer) (p kind : Nat), 2 ≤ kind → kind ≤ 4 → p % kindLanes kind = 0 → kind ≠ b.portKind p →
    b.natNow (O.tile_lref_spread (1024 + p / 64)) ≠ 0 →
    b.familyWrite w [] (O.port_kind p) (.n kind) = some (C.range, b)) ∧
  (∀ (b : State) (w : Writer) (p : Nat), b.portKind p = 1 → (∀ i, i < 4 → b.laneFree p (p + i) = true) →
    b.tileGroup (p / 64) [p, p, p + 1, p + 2, p + 3] = 0 →
    b.familyWrite w [] (O.port_kind p) (.n 0) = some (0, b.formPort p 0)) ∧
  (∀ (b : State) (w : Writer) (p : Nat), p % 4 = 0 → b.portKind p = 0 → b.natNow (O.tile_lref_spread (1024 + p / 64)) = 0 →
    (∀ i, i < 4 → b.laneFree p (p + i) = true) →
    b.tileGroup (p / 64) [p, p + 1, p + 2, p + 3, p] = 0 ∨ b.tileGroup (p / 64) [p, p + 1, p + 2, p + 3, p] = 2 →
    b.familyWrite w [] (O.port_kind p) (.n 3) = some (0, b.formPort p 3)) ∧
  ∀ (b : State) (p i : Nat), b.portKind p = 0 → 1 ≤ i → i < 4 →
    (b.formPort p 3).portKind p = 3 ∧ (b.formPort p 3).portKind (p + i) = 6 ∧ (b.formPort p 3).ownerPort (p + i) = p

/-- What a write of a lane's set state does (R383, R384): Active always, Idle and Dormant only while nothing of the port
forbids them; the lane goes to it, from Dormant through waking. What a restart of an equaliser does, and when it is refused
(R378). What starting, stopping and finishing a lane test do (R387, R389, R514): a start outside Lull on an Active lane that
no test or use of its port holds clears the counts and runs; a stop before the final count discards the running counts and
keeps the previous result; a finish takes the final count, and is refused RANGE where no test runs; a stop after the final
count comes too late. -/
def Obligations.LaneStateAndTestWriteRules : Prop :=
  ((∀ (b : State) (w : Writer) (l v : Nat), l < 1024 → v = 0 ∨ (v = 1 ∧ b.mayIdle (b.ownerPort l) = true) →
    b.familyWrite w [] (O.lane_state l) (.n v) = some (0,
      if b.nat (O.lane_state_now l) = 2 then (b.setN (O.lane_state l) v).setN (O.lane_state_now l) 3
      else if b.nat (O.lane_state_now l) = 3 then b.setN (O.lane_state l) v
      else (b.setN (O.lane_state l) v).setN (O.lane_state_now l) v)) ∧
  (∀ (b : State) (w : Writer) (l : Nat), l < 1024 → b.mayIdle (b.ownerPort l) = false →
    b.familyWrite w [] (O.lane_state l) (.n 1) = some (C.busy, b)) ∧
  (∀ (b : State) (w : Writer) (l : Nat), l < 1024 → b.mayDormant (b.ownerPort l) = false →
    b.familyWrite w [] (O.lane_state l) (.n 2) = some (C.busy, b)) ∧
  (∀ (b : State) (w : Writer) (l : Nat), l < 1024 → b.mayDormant (b.ownerPort l) = true → b.nat (O.lane_state_now l) ≠ 2 →
    b.familyWrite w [] (O.lane_state l) (.n 2) = some (0, (b.setN (O.lane_state l) 2).laneSleeps l)) ∧
  ∀ (b : State) (l : Nat), (b.laneSleeps l).nat (O.lane_state_now l) = 2 ∧ (b.laneSleeps l).nat (O.lane_rx_lock l) = 0 ∧
    (b.laneSleeps l).nat (O.eq_adapt_state l) = 0) ∧
  (∀ (b : State) (w : Writer) (l : Nat),
    b.familyWrite w [] (O.eq_restart l) (.n 1) = some (if 2 ≤ b.nat (O.eq_eq_mode l) then (C.busy, b)
      else (0, ((b.setN (O.eq_ctle_code l) 0).setB (O.eq_dfe_taps l) (zeros 15)).setN (O.eq_adapt_state l) 1))) ∧
  ((∀ (b : State) (w : Writer) (l : Nat), b.inLull = false →
    b.nat (O.lane_state_now l) ≠ 0 ∨ b.testRuns l = true ∨ b.mayIdle (b.ownerPort l) = false →
    b.familyWrite w [] (O.ltest_start l) (.n 1) = some (C.busy, b)) ∧
  (∀ (b : State) (w : Writer) (l : Nat), b.inLull = true → b.familyWrite w [] (O.ltest_start l) (.n 1) = some (C.busy, b)) ∧
  (∀ (b : State) (w : Writer) (l : Nat), b.inLull = false → b.nat (O.lane_state_now l) = 0 → b.testRuns l = false →
    b.mayIdle (b.ownerPort l) = true → rateGroup (b.testRate l) = some 0 →
    ∃ u : State, b.familyWrite w [] (O.ltest_start l) (.n 1) = some (0, u) ∧
      u.nat (O.ltest_bits l) = 0 ∧ u.nat (O.ltest_errors l) = 0 ∧ u.nat (O.ltest_injected l) = 0 ∧ u.nat (O.ltest_relocks l) = 0 ∧
      u.nat (O.ltest_checker_lock l) = 0 ∧ u.nat (O.ltest_state l) = (if b.flag (O.ltest_checker l) then 1 else 2) ∧
      kfind u.lanes.tests l = some b.now ∧ ∀ k, k.fam ≠ 0x2200 ∨ k.inst ≠ l → u.get k = b.get k) ∧
  (∀ (b : State) (w : Writer) (l : Nat), b.testRuns l = true →
    ∃ u : State, b.familyWrite w [] (O.ltest_stop l) (.n 1) = some (0, u) ∧ u.nat (O.ltest_state l) = 4 ∧
      u.nat (O.ltest_bits l) = 0 ∧ u.nat (O.ltest_errors l) = 0 ∧ u.nat (O.ltest_final_bits l) = b.nat (O.ltest_final_bits l) ∧
      u.nat (O.ltest_final_errors l) = b.nat (O.ltest_final_errors l) ∧ ∀ k, k.fam ≠ 0x2200 ∨ k.inst ≠ l → u.get k = b.get k) ∧
  (∀ (b : State) (w : Writer) (l : Nat), b.testRuns l = true →
    ∃ u : State, b.familyWrite w [] (O.ltest_finish l) (.n 1) = some (0, u) ∧ u.nat (O.ltest_state l) = 3 ∧
      u.nat (O.ltest_final_bits l) = b.nat (O.ltest_bits l) ∧ u.nat (O.ltest_final_errors l) = b.nat (O.ltest_errors l) ∧
      ∀ k, k.fam ≠ 0x2200 ∨ k.inst ≠ l → u.get k = b.get k) ∧
  (∀ (b : State) (w : Writer) (l : Nat), b.testRuns l = false → b.nat (O.ltest_state l) = 3 →
    b.familyWrite w [] (O.ltest_stop l) (.n 1) = some (C.tooLate, b)) ∧
  ∀ (b : State) (w : Writer) (l : Nat), b.testRuns l = false → b.familyWrite w [] (O.ltest_finish l) (.n 1) = some (C.range, b))

/-- R390: while the lane is in its test state, a write of 1 inverts one generated bit and a write of n inverts n, each
counted; outside the test state such writes are refused BUSY. -/
def Obligations.InjectedBitsAreCounted : Prop :=
  (∀ (b : State) (w : Writer) (l : Nat), b.testRuns l = true →
    b.familyWrite w [] (O.ltest_inject_single l) (.n 1) = some (0, b.count (O.ltest_injected l))) ∧
  (∀ (b : State) (w : Writer) (l n : Nat), b.testRuns l = true →
    b.familyWrite w [] (O.ltest_inject_burst l) (.n n) = some (0, b.count (O.ltest_injected l) n)) ∧
  (∀ (b : State) (l n : Nat), b.nat (O.ltest_injected l) + n < 4294967296 →
    (b.count (O.ltest_injected l) n).nat (O.ltest_injected l) = b.nat (O.ltest_injected l) + n) ∧
  (∀ (b : State) (w : Writer) (l n : Nat), b.testRuns l = false →
    b.familyWrite w [] (O.ltest_inject_single l) (.n n) = some (C.busy, b) ∧
    b.familyWrite w [] (O.ltest_inject_burst l) (.n n) = some (C.busy, b)) ∧
  ∀ (b : State) (w : Writer) (l n : Nat), b.admits w (O.ltest_inject_burst l) (.n n) = true → 2 ≤ n ∧ n ≤ 80

/-- What a write of a mesh link's admin object and of the domain plan does (R396, R405): a link is held down only while the
placer has no bookings on it; a plan of no higher revision, malformed, or that moves an admitted chip is refused RANGE, and
any other is adopted. -/
def Obligations.MeshWriteRules : Prop :=
  (∀ (b : State) (w : Writer) (l : Nat),
    b.familyWrite w [] (O.mlink_admin (1 + l)) (.n 1) = some (0, b.setN (O.mlink_admin (1 + l)) 1)) ∧
  (∀ (b : State) (w : Writer) (l : Nat), b.meshBooked l ≠ 0 →
    b.familyWrite w [] (O.mlink_admin (1 + l)) (.n 0) = some (C.busy, b)) ∧
  (∀ (b : State) (w : Writer) (l : Nat), b.meshBooked l = 0 → b.nat (O.mlink_state (1 + l)) = 0 →
    b.familyWrite w [] (O.mlink_admin (1 + l)) (.n 0) = some (0, (b.setN (O.mlink_admin (1 + l)) 0).linkForget l)) ∧
  (∀ (b : State) (w : Writer) (l : Nat), b.meshBooked l = 0 → b.nat (O.mlink_state (1 + l)) = 3 →
    ∃ u, b.familyWrite w [] (O.mlink_admin (1 + l)) (.n 0) = some (0, u) ∧ u.nat (O.mlink_state (1 + l)) = 1 ∧
      u.nat (O.mlink_admin (1 + l)) = 0) ∧
  (∀ (b : State) (w : Writer) (plan : Bytes), field plan 0 4 ≤ b.nat O.mesh_plan_revision ∨ planFits plan = false ∨
      (∃ e ∈ planPairs plan, ∃ a ∈ b.admittedSerials, (a.1 = e.serialA ∨ a.1 = e.serialB) ∧ pairOf a.2 ≠ e.pair) →
    b.familyWrite w [] O.mesh_plan (.b plan) = some (C.range, b)) ∧
  ∀ (b : State) (w : Writer) (plan : Bytes), b.nat O.mesh_plan_revision < field plan 0 4 → planFits plan = true →
    (∀ e ∈ planPairs plan, ∀ a ∈ b.admittedSerials, a.1 = e.serialA ∨ a.1 = e.serialB → pairOf a.2 = e.pair) →
    b.familyWrite w [] O.mesh_plan (.b plan) = some (0, b.adoptPlan plan)

/-- R447: a source latches when it becomes active, counting the latching and updating its last record; while it stays latched
a further occurrence is counted and nothing else of it happens again; its condition's end leaves it latched until it is
cleared, but where its auto_clear is set (R448). -/
def Obligations.FaultSourcesLatchAndCount : Prop :=
  (∀ (s : State) (src unit detail : Nat), (faultKindOf src).isSome = true → s.fusedOff ⟨0x1100, src + 1, 0⟩ = false →
    s.heldDown = false → s.nat (O.fsrc_state (src + 1)) = 0 → s.nat (O.fsrc_count (src + 1)) + 1 < 4294967296 →
    (s.latch src unit detail).nat (O.fsrc_state (src + 1)) = 1 ∧
    (s.latch src unit detail).nat (O.fsrc_count (src + 1)) = s.nat (O.fsrc_count (src + 1)) + 1 ∧
    (s.latch src unit detail).nat (O.fsrc_last_time (src + 1)) = s.tbNow 0 ∧
    (s.latch src unit detail).nat (O.fsrc_last_context (src + 1)) = contextWord unit detail) ∧
  (∀ (s : State) (src unit detail : Nat), (faultKindOf src).isSome = true → s.fusedOff ⟨0x1100, src + 1, 0⟩ = false →
    s.heldDown = false → s.nat (O.fsrc_state (src + 1)) ≠ 0 →
    s.latch src unit detail = (s.count (O.fsrc_count (src + 1))).setN (O.fsrc_state (src + 1)) 1) ∧
  (∀ (s : State) (src : Nat), s.faults.relatch = [] → s.isActive src = true → s.flag (O.fsrc_auto_clear (src + 1)) = false →
    s.endFault src = s.setN (O.fsrc_state (src + 1)) 2) ∧
  (∀ (s : State) (src : Nat), s.faults.relatch = [] → s.isActive src = false → s.endFault src = s) ∧
  (∀ (s : State) (src : Nat), s.faults.relatch = [] → s.isActive src = true → s.flag (O.fsrc_auto_clear (src + 1)) = true →
    faultClass src ≤ 2 → s.endFault src = s.unlatch src) ∧
  ∀ (s : State) (src : Nat), (s.unlatch src).nat (O.fsrc_state (src + 1)) = 0

/-- A latching fills the first-error record where it is empty, and counts as overflow where it is not (R454); with the trap
bit it is appended to the fault log (R443), and with the safe_state or chip_reset bit it brings safe state (R442). -/
def Obligations.LatchingReacts : Prop :=
  (∀ (s : State) (fr : Bytes), s.flag O.fault_first_valid = false →
    (s.captureFirst fr).oct O.fault_first_record = fr ∧ (s.captureFirst fr).flag O.fault_first_valid = true) ∧
  (∀ (s : State) (fr : Bytes), s.flag O.fault_first_valid = true → s.nat O.fault_overflow_count + 1 < 4294967296 →
    (s.captureFirst fr).oct O.fault_first_record = s.oct O.fault_first_record ∧ (s.captureFirst fr).flag O.fault_overflow = true ∧
    (s.captureFirst fr).nat O.fault_overflow_count = s.nat O.fault_overflow_count + 1) ∧
  (∀ (s : State) (src unit : Nat) (fr : Bytes), s.bringsSafe src = true → (s.react src unit fr).safe = true) ∧
  (∀ (s : State) (src unit : Nat) (fr : Bytes), s.bringsSafe src = false → bit (s.reactionsOf src) 1 = true →
    bit (s.reactionsOf src) 2 = false → s.react src unit fr = s.appendLog fr) ∧
  (∀ (s : State) (src unit : Nat) (fr : Bytes), s.bringsSafe src = false → bit (s.reactionsOf src) 1 = false →
    bit (s.reactionsOf src) 2 = false → s.react src unit fr = s) ∧
  ∀ (s : State) (fr : Bytes), fr.length = 24 → (s.oct O.fault_log).length % 24 = 0 → (s.oct O.fault_log).length ≤ 24576 →
    ((s.appendLog fr).oct O.fault_log).length ≤ 24576 ∧ ((s.appendLog fr).oct O.fault_log).drop (((s.appendLog fr).oct O.fault_log).length - 24) = fr

/-- What the events of the fault collector do (R439, R444, R447, R448, R456). -/
def Obligations.FaultEventsComplete : Prop :=
  (∀ (s a : State) (t src unit detail : Nat), a = s.advance t → excludes src (unit / 268435456) (unit % 268435456) = false →
    exec (.faultLatch t src unit detail) s = .next (s.closed (a.latch src unit detail))) ∧
  (∀ (s a : State) (t src unit detail : Nat), a = s.advance t → excludes src (unit / 268435456) (unit % 268435456) = true →
    exec (.faultLatch t src unit detail) s =
      .next (s.closed ((a.latch src unit detail).excludeUnit (unit / 268435456) (unit % 268435456)))) ∧
  (∀ (s a : State) (t src l : Nat), a = s.advance t → a.faults.resets = [(src, l)] → blockOf src l = .lane l → a.laneExists l = true →
    a.nat (O.lane_state l) = 2 →
    exec (.blockResetDone t src) s = .next (s.closed { a with faults := { a.faults with resets := [] } })) ∧
  (∀ (s a : State) (t src : Nat), a = s.advance t → (∀ e ∈ a.faults.resets, e.1 ≠ src) →
    exec (.blockResetDone t src) s = .next (s.closed a)) ∧
  (∀ (s a : State) (t src l : Nat), a = s.advance t → a.faults.resets = [(src, l)] → blockOf src l = .lane l → a.laneExists l = true →
    a.nat (O.lane_state l) ≠ 2 →
    exec (.blockResetDone t src) s = .next (s.closed
      ((({ a with faults := { a.faults with resets := [] } } : State).laneSleeps l).laneTo l (a.nat (O.lane_state l))))) ∧
  (∀ (s a : State) (t src : Nat), a = s.advance t → a.faults.relatch = [] → a.isActive src = true →
    a.flag (O.fsrc_auto_clear (src + 1)) = false →
    exec (.faultConditionEnd t src) s = .next (s.closed (a.setN (O.fsrc_state (src + 1)) 2))) ∧
  (∀ (s a : State) (t : Nat), a = s.advance t →
    exec (.faultTreeSelfCheck t true) s = .next (s.closed ((a.count O.fault_tree_checks).endFault F.faultTreeCheck)) ∧
    (a.isActive F.faultTreeCheck = false →
      exec (.faultTreeSelfCheck t false) s = .next (s.closed (a.latch F.faultTreeCheck 0 0))))

/-- What clears and reaction settings do (R441, R448, R449, R454): a source clears when its condition has ended; a class-3
source is cleared in a service mode by a Maintainer alone; clear_all is refused in normal service; a class-3 source cannot
clear by itself and keeps its four reactions; the first-error record is rearmed. What including a unit and arming an
injection do (R456, R459): a unit whose fault stands is not included; an injection is armed in the service mode alone, one at
a time, at a unit that exists; it is disarmed before it fires, and too late after. -/
def Obligations.FaultWriteRules : Prop :=
  ((∀ (b : State) (w : Writer) (src : Nat), faultClass src = 3 → b.serviceMode = false →
    b.familyWrite w [] (O.fsrc_clear (src + 1)) (.n 1) = some (C.locked, b)) ∧
  (∀ (b : State) (w : Writer) (src : Nat), faultClass src = 3 → b.serviceMode = true → w.role < 3 →
    b.familyWrite w [] (O.fsrc_clear (src + 1)) (.n 1) = some (C.denied, b)) ∧
  (∀ (b : State) (w : Writer) (src : Nat), faultClass src ≠ 3 ∨ (b.serviceMode = true ∧ 3 ≤ w.role) →
    b.familyWrite w [] (O.fsrc_clear (src + 1)) (.n 1) = some (if b.isActive src then (C.busy, b)
      else (0, if b.isLatched src then b.unlatch src else b))) ∧
  (∀ (b : State) (w : Writer), b.serviceMode = false → b.familyWrite w [] O.fault_clear_all (.n 1) = some (C.locked, b)) ∧
  (∀ (b : State) (w : Writer), b.serviceMode = true → b.latchedList.filter (fun x => !b.isActive x) = [] →
    b.familyWrite w [] O.fault_clear_all (.n 1) = some (0, b)) ∧
  (∀ (b : State) (w : Writer) (x : Nat), b.serviceMode = true → b.latchedList.filter (fun x => !b.isActive x) = [x] →
    b.familyWrite w [] O.fault_clear_all (.n 1) = some (0, b.unlatch x)) ∧
  (∀ (b : State) (w : Writer) (src : Nat), faultClass src = 3 →
    b.familyWrite w [] (O.fsrc_auto_clear (src + 1)) (.n 1) = some (C.range, b)) ∧
  (∀ (b : State) (w : Writer) (src : Nat),
    b.familyWrite w [] (O.fsrc_auto_clear (src + 1)) (.n 0) = some (0, b.setN (O.fsrc_auto_clear (src + 1)) 0)) ∧
  (∀ (b : State) (w : Writer) (src : Nat), faultClass src ≤ 2 → b.nat (O.fsrc_state (src + 1)) = 2 →
    b.familyWrite w [] (O.fsrc_auto_clear (src + 1)) (.n 1) = some (0, (b.setN (O.fsrc_auto_clear (src + 1)) 1).unlatch src)) ∧
  (∀ (b : State) (w : Writer) (src set : Nat),
    set &&& b.nat (O.fsrc_offered (src + 1)) ≠ set ∨ (faultClass src = 3 ∧ tempestKeeps set = false) →
    b.familyWrite w [] (O.fsrc_reactions (src + 1)) (.n set) = some (C.range, b)) ∧
  (∀ (b : State) (w : Writer) (src set : Nat), set &&& b.nat (O.fsrc_offered (src + 1)) = set → faultClass src ≠ 3 →
    b.familyWrite w [] (O.fsrc_reactions (src + 1)) (.n set) = some (0, (b.setN (O.fsrc_reactions (src + 1)) set).reviewSafe)) ∧
  ∀ (b : State) (w : Writer), b.familyWrite w [] O.fault_rearm (.n 1) = some (if b.tempest = true ∧ b.serviceMode = false then (C.locked, b)
    else (0, ((b.setN O.fault_first_valid 0).setN O.fault_overflow 0).setN O.fault_overflow_count 0))) ∧
  ((∀ (b : State) (w : Writer) (kind unit : Nat) (entry : Bytes), entry.length = 8 → field entry 6 2 = 0 → kind = field entry 0 2 →
    unit = field entry 2 4 → unitExists kind unit = true →
    b.familyWrite w [] O.fault_include (.b entry) = some (if b.exclusions.contains (kind, unit) = false then (0, b)
      else if (excludingSources kind).any b.isLatched then (C.busy, b) else (0, (b.include kind unit).retryLost))) ∧
  (∀ (b : State) (w : Writer) (entry : Bytes), entry.length ≠ 8 →
    b.familyWrite w [] O.fault_include (.b entry) = some (C.range, b)) ∧
  (∀ (b : State) (kind unit : Nat), (b.include kind unit).exclusions.contains (kind, unit) = false) ∧
  (∀ (b : State) (w : Writer), b.mode ≠ 2 → b.familyWrite w [] O.fault_inject_arm (.n 1) = some (C.locked, b)) ∧
  (∀ (b : State) (w : Writer), b.mode = 2 → b.faults.inject.isSome = true →
    b.familyWrite w [] O.fault_inject_arm (.n 1) = some (C.busy, b)) ∧
  (∀ (b : State) (w : Writer) (target unit : Nat), b.mode = 2 → b.faults.inject = none → target = b.nat O.fault_inject_target →
    unit = b.nat O.fault_inject_unit → b.injectable target unit = false →
    b.familyWrite w [] O.fault_inject_arm (.n 1) = some (C.range, b)) ∧
  (∀ (b : State) (w : Writer) (target unit : Nat), b.mode = 2 → b.faults.inject = none → target = b.nat O.fault_inject_target →
    unit = b.nat O.fault_inject_unit → b.injectable target unit = true → target ≠ 6 →
    b.familyWrite w [] O.fault_inject_arm (.n 1) = some (0, { (b.setN O.fault_inject_arm 1).setN O.fault_inject_state 1 with
      faults := { b.faults with inject := some (target, unit, b.nat O.fault_inject_symbols) } })) ∧
  ∀ (b : State) (w : Writer), b.familyWrite w [] O.fault_inject_arm (.n 0) = some (if b.nat O.fault_inject_state = 2 then (C.tooLate, b)
    else (0, { (b.setN O.fault_inject_arm 0).setN O.fault_inject_state 0 with faults := { b.faults with inject := none } })))

/-- What a request and an abort of a hand-over do (R433, R435): only a primary hands over, one at a time, to a current mirror
and a fit standby; the commit point is then set. An abort before C leaves no trace of the hand-over, and one after C is too
late. -/
def Obligations.HandoverWriteRules : Prop :=
  (∀ (b : State) (w : Writer), b.primary = false → b.familyWrite w [] O.twin_handover (.n 1) = some (C.locked, b)) ∧
  (∀ (b : State) (w : Writer), b.primary = true → b.nat O.twin_handover_state = 1 ∨ b.nat O.twin_handover_state = 2 →
    b.familyWrite w [] O.twin_handover (.n 1) = some (C.busy, b)) ∧
  (∀ (b : State) (w : Writer), b.primary = true → b.nat O.twin_handover_state ≠ 1 → b.nat O.twin_handover_state ≠ 2 →
    b.nat O.twin_mirror_state = 3 ∨ b.nat O.twin_mirror_state = 4 →
    b.familyWrite w [] O.twin_handover (.n 1) = some (C.stale, b)) ∧
  (∀ (b : State) (w : Writer), b.primary = true → b.nat O.twin_handover_state ≠ 1 → b.nat O.twin_handover_state ≠ 2 →
    b.nat O.twin_mirror_state ≠ 3 → b.nat O.twin_mirror_state ≠ 4 → b.twinFit = false →
    b.familyWrite w [] O.twin_handover (.n 1) = some (C.notReady, b)) ∧
  (∀ (b : State) (w : Writer), 0 < w.slot → b.primary = true → b.nat O.twin_handover_state ≠ 1 → b.nat O.twin_handover_state ≠ 2 →
    b.nat O.twin_mirror_state ≠ 3 → b.nat O.twin_mirror_state ≠ 4 → b.twinFit = true →
    b.familyWrite w [] O.twin_handover (.n 1) = some (0, { b.setN O.twin_handover_state 1 with
      twin := { b.twin with hand := some ⟨4, b.commitPoint.1, b.commitPoint.2, false⟩ } })) ∧
  (∀ (b : State) (w : Writer), b.nat O.twin_handover_state = 1 → b.familyWrite w [] O.twin_handover_abort (.n 1) =
    some (0, { b.setN O.twin_handover_state 4 with twin := { b.twin with hand := none } })) ∧
  ∀ (b : State) (w : Writer), b.nat O.twin_handover_state = 2 ∨ b.nat O.twin_handover_state = 3 →
    b.familyWrite w [] O.twin_handover_abort (.n 1) = some (C.tooLate, b)

/-- What the events of the twin link do (R412, R413, R417, R418): a chip in a service mode takes no part in the handshake,
and one without a second serial in its plan is unpaired when no link has trained; a lane's fall and return show in the link
and in TWIN_LANE_DOWN; with the link down the mirror halts. What the mirror's events do (R415, R419, R420): the standby
follows an item and acknowledges it; a primary keeps what its standby reports; with the catch-up complete the mirror is
current; an acknowledgement covers the items up to its number. -/
def Obligations.TwinLinkAndMirrorEventsComplete : Prop :=
  ((∀ (s a : State) (t : Nat) (h : TwinHello), a = s.advance t → a.serviceMode = true →
    exec (.twinHandshake t h) s = .next (s.closed a)) ∧
  (∀ (s a l : State) (t : Nat) (h : TwinHello), a = s.advance t → a.serviceMode = false → h.ready = true → h.role = 0 →
    l = ({ a with twin := { a.twin with hello := some h, probe := 0 } } : State).linkTrained h → l.ready = false →
    h.epoch < l.nat O.twin_role_epoch → ((l.standDown false).rejoin h).fw.act = none →
    exec (.twinHandshake t h) s = .next (s.closed ((l.standDown false).rejoin h))) ∧
  (∀ (s a : State) (t : Nat), a = s.advance t → a.linkIsUp = true → exec (.twinHandshakeTimeout t) s = .next (s.closed a)) ∧
  (∀ (s a : State) (t : Nat), a = s.advance t → a.linkIsUp = false → a.planEntry (a.oct O.id_serial_number) = none →
    a.nat O.id_pair_role = 2 →
    exec (.twinHandshakeTimeout t) s = .next (s.closed ((a.setN O.twin_twin_state 0).setN O.twin_mirror_state 0).showLevels)) ∧
  (∀ (s a : State) (t : Nat), a = s.advance t → a.power.resetN = true → a.power.tap = false → a.nat O.twin_twin_link % 16 ≠ 0 →
    exec (.twinHeartbeat t) s = .next (s.closed (a.tellTwin .twinHeartbeat))) ∧
  (∀ (s a : State) (t : Nat), a = s.advance t → a.nat O.twin_twin_link % 16 = 0 →
    exec (.twinHeartbeat t) s = .next (s.closed a)) ∧
  (∀ (s a : State) (t n : Nat), a = s.advance t → n < 4 → a.bit O.twin_twin_link n = true →
    exec (.twinLaneDown t n) s = .next (s.closed ((a.setBit O.twin_twin_link n false).latch F.twinLaneDown n 0))) ∧
  (∀ (s a : State) (t n : Nat), a = s.advance t → n < 4 → (a.setBit O.twin_twin_link n true).nat O.twin_twin_link % 16 ≠ 15 →
    exec (.twinLaneUp t n) s = .next (s.closed (a.setBit O.twin_twin_link n true))) ∧
  (∀ (s a : State) (t n : Nat), a = s.advance t → n < 4 → (a.setBit O.twin_twin_link n true).nat O.twin_twin_link % 16 = 15 →
    exec (.twinLaneUp t n) s = .next (s.closed ((a.setBit O.twin_twin_link n true).endFault F.twinLaneDown))) ∧
  (∀ (s a : State) (t : Nat), a = s.advance t → a.paired = false ∨ a.bit O.twin_twin_link 5 = true →
    exec (.twinLinkDown t) s = .next (s.closed a)) ∧
  ∀ (s a : State) (t : Nat), a = s.advance t → a.paired = true → a.bit O.twin_twin_link 5 = false →
    ∃ u, exec (.twinLinkDown t) s = .next (s.closed u) ∧ u.nat O.twin_twin_link = 32 ∧ u.nat O.twin_twin_state = 5 ∧
      u.twin.report = none ∧ (a.nat O.twin_mirror_state = 1 ∨ a.nat O.twin_mirror_state = 2 → u.nat O.twin_mirror_state = 3) ∧
      u.nat O.id_pair_role = a.nat O.id_pair_role) ∧
  ((∀ (s a : State) (t seq : Nat) (i : MirrorItem), a = s.advance t → a.primary = false → a.standby = true → a.linkIsUp = true →
    a.nat O.twin_mirror_state = 1 → seq ≠ 0 →
    exec (.mirrorItemRx t seq i) s = .next (s.closed ((a.followItem i).emit (.mirrorAck seq)).reviewDones)) ∧
  (∀ (s a : State) (t seq : Nat) (ready safe : Bool) (fs : List Finding), a = s.advance t → a.primary = true →
    a.nat O.twin_mirror_state = 1 → exec (.mirrorItemRx t seq (.barometer ready safe fs)) s =
      .next (s.closed ({ a with twin := { a.twin with report := some ⟨ready, safe, fs⟩ } } : State).reviewDones)) ∧
  (∀ (s a : State) (t seq : Nat) (i : MirrorItem), a = s.advance t → a.primary = false → a.standby = false →
    exec (.mirrorItemRx t seq i) s = .next (s.closed a.reviewDones)) ∧
  (∀ (s a : State) (t : Nat), a = s.advance t → a.nat O.twin_mirror_state = 2 → a.standby = false →
    exec (.catchUpComplete t) s =
      .next (s.closed (((a.setN O.twin_mirror_state 1).setN O.twin_twin_state 4).endFault F.catchingUp))) ∧
  (∀ (s a : State) (t : Nat), a = s.advance t → a.nat O.twin_mirror_state = 2 → a.standby = true →
    exec (.catchUpComplete t) s =
      .next (s.closed (((a.discardOwn.setN O.twin_mirror_state 1).setN O.twin_twin_state 4).endFault F.catchingUp))) ∧
  (∀ (s a : State) (t seq : Nat), a = s.advance t → a.nat O.pow_lull_state ≠ 1 → a.proto.held = [] →
    ∃ u, exec (.mirrorAck t seq) s = .next (s.closed u) ∧ u.twin.acked = max a.twin.acked (min seq (a.twin.seq - 1)) ∧
      u.twin.sent = a.twin.sent.filter (fun e => seq < e.1) ∧ ∀ k, u.get k = a.get k))

/-- What the triggers of fail-over do (R429, R430): a standby at Ready, out of safe state, in normal mode and out of Lull
takes over, with the cause that the trigger gives; another chip does not. A primary with both power-fail warnings hands over
where its standby can serve. What the events of a hand-over do (R434, R436): at C control passes, the former primary keeping
its SIDE lines until the hand-over is done; the home chip asks for its service back when its Barometer has been clear for the
hold time. What a standby's comparisons and background tests do (R423 to R426): a frame that may not be compared is left out
and counted; one that matches is counted and adds nothing to its run; a difference is counted and named; a test that fails
excludes its unit. -/
def Obligations.FailOverAndStandbyEventsComplete : Prop :=
  ((∀ (s a : State) (t : Nat), a = s.advance t → a.mayTakeOver = true → a.bit O.twin_twin_link 5 = true → a.twin.probe ≠ 2 ∨ a.meshToTwin = false →
    exec (.primaryDeath t) s = .next (s.closed (a.failOver 1))) ∧
  (∀ (s a : State) (t : Nat), a = s.advance t → a.mayTakeOver = true →
    exec (.safeStateNoticeRx t) s = .next (s.closed (a.failOver 2))) ∧
  (∀ (s a n : State) (t : Nat), a = s.advance t → n = a.setN O.twin_pf_state (a.nat O.twin_pf_state % 4 + 12) → n.mayTakeOver = true →
    exec (.powerFailNoticeRx t) s = .next (s.closed (n.failOver 3))) ∧
  (∀ (s a : State) (t : Nat), a = s.advance t → a.mayTakeOver = false →
    exec (.primaryDeath t) s = .next (s.closed a) ∧ exec (.safeStateNoticeRx t) s = .next (s.closed a)) ∧
  (∀ (s : State) (cause : Nat), s.standby = true → (s.failOver cause).nat O.id_pair_role = 0) ∧
  (∀ (s a : State) (t : Nat), a = s.advance t → exec (.pfWarnings t false false) s = .next (s.closed
    ((a.setN O.twin_pf_state (a.nat O.twin_pf_state / 4 * 4)).endFault F.pfSingle))) ∧
  ∀ (s a p : State) (t : Nat), a = s.advance t → a.nat O.twin_pf_state % 4 ≠ 3 → a.heldDown = false →
    p = (a.setN O.twin_pf_state (a.nat O.twin_pf_state / 4 * 4 + 3)).follow F.pfSingle 0 3 true → p.primary = true → p.twinFit = true →
    p.twinUnwarned = true →
    exec (.pfWarnings t true true) s = .next (s.closed ((p.dropSide.tellTwin .powerFail).loseService).seal)) ∧
  ((∀ (s a : State) (t : Nat), a = s.advance t → a.primary = true → a.nat O.twin_handover_state = 1 → a.twinFit = true →
    exec (.handoverCommit t) s = .next (s.closed
      (({ (((a.shedWork 4).standDown true).setN O.twin_handover_state 2) with
        twin := { (((a.shedWork 4).standDown true).setN O.twin_handover_state 2).twin with hand := a.twin.hand } } : State).beginCatchUp.tellTwin
          .handoverCommit))) ∧
  (∀ (s a : State) (t : Nat), a = s.advance t → a.primary = true → a.nat O.twin_handover_state = 1 → a.twinFit = false →
    exec (.handoverCommit t) s = .next (s.closed { a.setN O.twin_handover_state 4 with twin := { a.twin with hand := none } })) ∧
  (∀ (s a : State) (t : Nat), a = s.advance t → a.nat O.twin_handover_state = 2 → a.standby = false →
    exec (.handoverDone t) s = .next (s.closed (a.setN O.twin_handover_state 3))) ∧
  (∀ (s a : State) (t : Nat), a = s.advance t → a.nat O.twin_handover_state = 2 → a.standby = true → a.twin.hand = none →
    exec (.handoverDone t) s = .next (s.closed { (a.setN O.twin_handover_state 3).dropSide with
      twin := { (a.setN O.twin_handover_state 3).dropSide.twin with hand := none } })) ∧
  (∀ (s a : State) (t since : Nat), a = s.advance t → a.standby = true → a.isHome = true → a.fit = true → a.linkIsUp = true →
    a.nat O.twin_mirror_state = 1 → a.onProbation = false → a.twin.clearSince = some since →
    since + a.nat O.twin_hold_time * 1000000000 ≤ a.now →
    exec (.takeback t) s = .next (s.closed
      (({ a with twin := { a.twin with hand := some ⟨5, 0, 0, false⟩ } } : State).tellTwin (.handoverRequest 5)))) ∧
  ∀ (s a : State) (t : Nat), a = s.advance t → a.standby = false ∨ a.isHome = false ∨ a.fit = false ∨ a.twin.clearSince = none →
    exec (.takeback t) s = .next (s.closed a)) ∧
  ((∀ (s a : State) (t : Nat) (f : SigFrame), a = s.advance t → a.standby = true → f.dst < 3072 → a.nat O.twin_mirror_state ≠ 1 →
    exec (.signatureCompare t f) s = .next (s.closed { a.count O.twin_sig_excluded with
      twin := { a.twin with skip := a.twin.skip.filter (fun d => d ≠ f.dst) } })) ∧
  (∀ (s a : State) (t : Nat) (f : SigFrame), a = s.advance t → a.standby = true → f.dst < 3072 → a.nat O.twin_mirror_state = 1 →
    f.ownFill = false → f.twinFill = false → f.twinSafe = false → a.safe = false → a.showsUnmarked f.dst = false →
    a.twin.skip.contains f.dst = false → f.video = f.ownVideo → f.audio = [] →
    exec (.signatureCompare t f) s = .next (s.closed (((a.count O.twin_sig_compared).sigStep f.dst false false).sigStep f.dst true false))) ∧
  (∀ (s a : State) (t : Nat) (f : SigFrame), a = s.advance t → a.standby = false →
    exec (.signatureCompare t f) s = .next (s.closed a)) ∧
  (∀ (s a : State) (t unit : Nat), a = s.advance t → a.standby = true → a.bistable 2 unit = true →
    exec (.backgroundBist t 2 unit none) s = .next (s.closed (a.setN (O.bank_last_bist unit) (a.tbNow 0)))) ∧
  (∀ (s a : State) (t unit addr : Nat), a = s.advance t → a.standby = true → a.bistable 3 unit = true →
    exec (.backgroundBist t 3 unit (some addr)) s = .next (s.closed
      ((({ a with twin := { a.twin with bist := (3, unit) :: a.twin.bist } } : State).strike F.bistFail (805306368 + unit) addr).exclude 3 unit))) ∧
  (∀ (s a : State) (t l errors : Nat), a = s.advance t → a.standby = true → a.laneExists l = true → a.nat (O.lane_state_now l) = 0 →
    a.mayDormant (a.ownerPort l) = true → errors ≠ 0 →
    exec (.backgroundLoopback t l errors) s = .next (s.closed
      (({ a.setN (O.twt_loopback_lane (1 + l / 64)) l with
        twin := { a.twin with loops := a.twin.loops.filter (fun x => x ≠ l) ++ [l] } } : State).follow (F.loopbackFail (l / 64)) l errors true))) ∧
  ∀ (s a : State) (t l errors : Nat), a = s.advance t → a.standby = false →
    exec (.backgroundLoopback t l errors) s = .next (s.closed a))

/-- What offers, parts, discards, copies and keys do when written (R484, R486, R488, R489, R492): an offer is judged in the
order of its checks; a part is held when its length and hash are the manifest's; the last of them stages the caddy; a copy to
come is put off; a key slot in use, and the last one, are not revoked. R493, R495: an activation is refused RANGE where its
layout is broken, the coordinator does not head the group, its instant lies less than 10 s or more than 604 800 s ahead, or
another one is preparing, armed or running; one written otherwise is held as preparing on chips that are elsewhere. Aborted
before its instant it is dropped everywhere, and after it is too late. -/
def Obligations.FirmwareAndActivationWriteRules : Prop :=
  ((∀ (b : State) (w : Writer) (raw : Bytes), manifestOf raw = none → b.familyWrite w [] O.fw_offer_manifest (.b raw) = some (C.range, b)) ∧
  (∀ (b : State) (w : Writer) (raw : Bytes) (m : Manifest), manifestOf raw = some m → b.nat O.fw_caddy_state ≠ 0 →
    b.familyWrite w [] O.fw_offer_manifest (.b raw) = some (if m.image.hash = b.oct O.fw_caddy_hash then (0, b) else (C.busy, b))) ∧
  (∀ (b : State) (w : Writer) (raw : Bytes) (m : Manifest), manifestOf raw = some m → b.nat O.fw_caddy_state = 0 → b.authentic m = false →
    b.familyWrite w [] O.fw_offer_manifest (.b raw) = some (C.denied, b)) ∧
  (∀ (b : State) (w : Writer) (raw : Bytes) (m : Manifest), manifestOf raw = some m → b.nat O.fw_caddy_state = 0 → b.authentic m = true →
    m.steppings.contains (b.oct O.id_stepping) = false →
    b.familyWrite w [] O.fw_offer_manifest (.b raw) = some (C.untested, b)) ∧
  (∀ (b : State) (w : Writer) (raw : Bytes) (m : Manifest), manifestOf raw = some m → b.nat O.fw_caddy_state = 0 → b.authentic m = true →
    m.steppings.contains (b.oct O.id_stepping) = true →
    ∃ u, b.familyWrite w [] O.fw_offer_manifest (.b raw) = some (0, u) ∧ u.nat O.fw_caddy_state = 1 ∧ u.fw.caddy = raw ∧
      u.oct O.fw_caddy_hash = m.image.hash ∧ u.nat O.fw_caddy_version = m.image.version) ∧
  (∀ (b : State) (w : Writer) (k : Nat) (data : Bytes) (m : Manifest) (p : PartEntry), k < 6 → b.caddyManifest = some m →
    m.parts[k]? = some p → data.length ≠ p.length ∨ sha384 data ≠ p.hash →
    b.familyWrite w [] (O.part_data (1 + k)) (.b data) = some (C.range, b)) ∧
  (∀ (b : State) (w : Writer) (k : Nat) (data : Bytes) (m : Manifest) (p : PartEntry), k < 6 → b.caddyManifest = some m →
    m.parts[k]? = some p → data.length = p.length → sha384 data = p.hash → b.flag (O.part_held (1 + k)) = false →
    ∃ u, b.familyWrite w [] (O.part_data (1 + k)) (.b data) = some (0, u) ∧ u.flag (O.part_held (1 + k)) = true ∧
      (u.nat O.fw_caddy_state = 2 ∨ u.nat O.fw_caddy_state = b.nat O.fw_caddy_state) ∧
      ((∀ i, i < m.parts.length → i ≠ k → b.flag (O.part_held (1 + i)) = true) → u.nat O.fw_caddy_state = 2)) ∧
  (∀ (b : State) (w : Writer), b.activationHeld = none →
    b.familyWrite w [] O.fw_discard (.n 1) = some (0, b.emptyCaddy)) ∧
  (∀ (b : State) (w : Writer) (act : Bytes), b.activationHeld = some act → fromFallback act = false →
    b.familyWrite w [] O.fw_discard (.n 1) = some (C.busy, b)) ∧
  (∀ (b : State) (w : Writer), b.copyPending = true → b.fw.copyOff = false →
    b.familyWrite w [] O.fw_copy_abort (.n 1) = some (0, { b with fw := { b.fw with copyOff := true } })) ∧
  (∀ (b : State) (w : Writer) (x : Activation), b.copyPending = false → b.fw.act = some x → 2 ≤ x.stage →
    b.familyWrite w [] O.fw_copy_abort (.n 1) = some (C.tooLate, b)) ∧
  (∀ (b : State) (w : Writer) (k : Nat), b.caddyManifest = none → (∀ i, i < 2 → b.nat (O.img_state (16 + i)) < 2) →
    (∃ i, i < 4 ∧ i ≠ k ∧ b.nat (O.kslot_state (32 + i)) = 1) →
    b.familyWrite w [] (O.kslot_revoke (32 + k)) (.n 1) = some (0, b.setN (O.kslot_state (32 + k)) 2)) ∧
  (∀ (b : State) (w : Writer) (k i : Nat), i < 2 → b.nat (O.img_state (16 + i)) = 2 → b.nat (O.img_key_slot (16 + i)) = k →
    b.familyWrite w [] (O.kslot_revoke (32 + k)) (.n 1) = some (C.busy, b)) ∧
  ∀ (b : State) (w : Writer) (k : Nat), b.caddyManifest = none → (∀ i, i < 2 → b.nat (O.img_state (16 + i)) < 2) →
    (∀ i, i < 4 → i ≠ k → b.nat (O.kslot_state (32 + i)) ≠ 1) →
    b.familyWrite w [] (O.kslot_revoke (32 + k)) (.n 1) = some (C.range, b)) ∧
  ((∀ (b : State) (w : Writer) (act : Bytes), actOk act = false ∨ b.headsAll (actPairs act) = false ∨
      actInstant act < b.tbNow (actTb act) + 10000000000 ∨ b.tbNow (actTb act) + 604800000000000 < actInstant act ∨
      b.activationHeld.isSome = true →
    b.familyWrite w [] O.fw_activation (.b act) = some (C.range, b)) ∧
  (∀ (b : State) (w : Writer) (act : Bytes), actOk act = true → b.headsAll (actPairs act) = true →
    b.tbNow (actTb act) + 10000000000 ≤ actInstant act → actInstant act ≤ b.tbNow (actTb act) + 604800000000000 →
    b.activationHeld = none → (∀ c ∈ (actPairs act).flatMap b.chipsOfPair, c ≠ b.chipId) →
    ∃ u, b.familyWrite w [] O.fw_activation (.b act) = some (0, u) ∧ u.nat O.fw_activation_state = 1 ∧ u.oct O.fw_activation = act) ∧
  (∀ (b : State) (w : Writer), b.oct O.fw_activation_results ≠ [] → b.nat O.fw_activation_state = 1 ∨ b.nat O.fw_activation_state = 2 →
    ∃ u, b.familyWrite w [] O.fw_activation_abort (.n 1) = some (0, u) ∧ u.nat O.fw_activation_state = 7) ∧
  (∀ (b : State) (w : Writer), b.oct O.fw_activation_results ≠ [] →
    b.nat O.fw_activation_state = 3 ∨ b.nat O.fw_activation_state = 4 ∨ b.nat O.fw_activation_state = 6 →
    b.familyWrite w [] O.fw_activation_abort (.n 1) = some (C.tooLate, b)) ∧
  ∀ (b : State) (w : Writer), b.oct O.fw_activation_results = [] →
    b.familyWrite w [] O.fw_activation_abort (.n 1) = some (C.range, b))

/-- What the events of an activation and of the carry-over journal do (R494, R496, R497, R500). -/
def Obligations.FirmwareEventsComplete : Prop :=
  (∀ (s a : State) (t coord code twinActive : Nat) (act : Bytes) (peers : List (Nat × Nat)), a = s.advance t → coord ≠ a.chipId →
    code = a.prepareCode act twinActive peers → code ≠ 0 →
    exec (.activationPrepareRx t coord act twinActive peers) s = .next (s.closed (a.emit (.notice coord (.activationReport coord code))))) ∧
  (∀ (s a : State) (t coord twinActive : Nat) (act : Bytes) (peers : List (Nat × Nat)), a = s.advance t → coord ≠ a.chipId →
    a.prepareCode act twinActive peers = 0 →
    exec (.activationPrepareRx t coord act twinActive peers) s = .next (s.closed
      (({ a.setN O.fw_activation_state 1 with fw := { a.fw with act := some ⟨coord, act, false, 0, 0⟩ } } : State).emit
        (.notice coord (.activationReport coord 0))))) ∧
  (∀ (s a : State) (t chip code : Nat), a = s.advance t → a.nat O.fw_activation_state = 1 → a.oct O.fw_activation_results ≠ [] →
    chip ∈ (actPairs (a.oct O.fw_activation)).flatMap a.chipsOfPair → code ≠ 0 →
    exec (.activationReportRx t chip code) s = .next (s.closed (a.dropActivation 5 7 code chip))) ∧
  (∀ (s a : State) (t chip code : Nat), a = s.advance t → a.nat O.fw_activation_state ≠ 1 →
    exec (.activationReportRx t chip code) s = .next (s.closed a) ∧ exec (.activationReportDeadline t) s = .next (s.closed a)) ∧
  (∀ (s a : State) (t missing : Nat), a = s.advance t → a.nat O.fw_activation_state = 1 → a.oct O.fw_activation_results ≠ [] →
    ((actPairs (a.oct O.fw_activation)).flatMap a.chipsOfPair).find? (fun c => (kfind a.fw.reports c).isNone) = some missing →
    exec (.activationReportDeadline t) s = .next (s.closed (a.dropActivation 5 7 0 missing))) ∧
  (∀ (s a : State) (t : Nat) (x : Activation), a = s.advance t → a.fw.act = some x → x.stage = 0 → x.coord ≠ a.chipId →
    actInstant x.raw ≤ a.tbNow (actTb x.raw) → a.coordinates = false → a.single = true →
    exec (.activationInstant t) s = .next (s.closed ((a.setN O.fw_activation_state 3).actRestart x))) ∧
  (∀ (s a : State) (t : Nat) (x : Activation), a = s.advance t → a.fw.act = some x → a.tbNow (actTb x.raw) < actInstant x.raw →
    exec (.activationInstant t) s = .next (s.closed a)) ∧
  (∀ (s a : State) (t : Nat) (x : Activation), a = s.advance t → a.fw.act = some x → x.stage = 2 → x.until' ≤ a.now → a.standby = false →
    exec (.probationEnd t) s = .next (s.closed
      (({ a.setN O.fw_image_state 0 with fw := { a.fw with newImage := false } } : State).actDone x))) ∧
  (∀ (s a : State) (t : Nat), a = s.advance t → a.fw.act = none → exec (.probationEnd t) s = .next (s.closed a)) ∧
  (∀ (s a : State) (t : Nat), a = s.advance t → a.ready = true →
    exec (.carryOverAppend t) s = .next (s.closed { a with fw := { a.fw with
      carry := a.carryNow, used := a.fw.used + sumBy CarryRec.size a.carryWaiting } })) ∧
  (∀ (s a : State) (t : Nat), a = s.advance t → 7340032 < a.fw.used →
    exec (.carryOverRegionSwitch t) s = .next (s.closed { a.count O.fw_carry_sequence with fw := { a.fw with
      carry := a.carryNow, used := sumBy CarryRec.size a.carryNow } })) ∧
  ∀ (s a : State) (t : Nat), a = s.advance t → a.fw.used ≤ 7340032 →
    exec (.carryOverRegionSwitch t) s = .next (s.closed a)

/-- What restarts and Lull do when written (R513, R514, R516): a restart with hand-over asks for the hand-over on a primary,
and restarts at once elsewhere; a restart with copy is for Recovery mode; Lull is refused while something of the chip works,
and left by a write of 0. -/
def Obligations.PowerWriteRules : Prop :=
  (∀ (b : State) (w : Writer), b.familyWrite w [] O.bring_restart (.n 1) =
    some (if b.primary then b.askHandover 4 true else (0, b.askRestart 3))) ∧
  (∀ (b : State) (w : Writer), b.familyWrite w [] O.bring_restart (.n 2) = some (0, b.askRestart 3)) ∧
  (∀ (b : State) (w : Writer), b.mode ≠ 3 → b.familyWrite w [] O.bring_restart (.n 3) = some (C.range, b)) ∧
  (∀ (b : State) (w : Writer), b.mode = 3 → b.familyWrite w [] O.bring_restart (.n 3) =
    some (0, ({ b with fw := { b.fw with copyDue := b.nat O.fw_caddy_state == 2 } } : State).askRestart 3)) ∧
  (∀ (b : State) (cause : Nat), b.power.due = none → (b.askRestart cause).power.due = some cause ∧ (b.askRestart cause).safe = true) ∧
  (∀ (b : State) (w : Writer), b.nat O.pow_lull_state = 0 → b.lullBarred = true →
    b.familyWrite w [] O.pow_lull (.n 1) = some (C.busy, b)) ∧
  (∀ (b : State) (w : Writer), b.nat O.pow_lull_state = 0 → b.lullBarred = false →
    b.familyWrite w [] O.pow_lull (.n 1) = some (0, if b.mirroring then (b.setN O.pow_lull 1).setN O.pow_lull_state 1
      else (b.setN O.pow_lull 1).enterLull)) ∧
  (∀ (b : State) (w : Writer), b.nat O.pow_lull_state = 0 ∨ b.nat O.pow_lull_state = 3 →
    b.familyWrite w [] O.pow_lull (.n 0) = some (0, b.setN O.pow_lull 0)) ∧
  ∀ (b : State) (w : Writer), b.nat O.pow_lull_state = 1 ∨ b.nat O.pow_lull_state = 2 →
    b.familyWrite w [] O.pow_lull (.n 0) = some (0, (b.wakeLull 2).emit .wakeN) ∧ (b.wakeLull 2).nat O.pow_lull_state = 3 ∧
      (b.wakeLull 2).nat O.pow_wake_cause = 2 ∧ (b.wakeLull 2).nat O.pow_lull = 0

/-- What the voltage loops, the pace monitors and the regulators do (R72 to R80): the setpoint steps up by 10 mV below the
demand's margin and stays within its bounds; a monitor's window shows as last and lowest; a margin lost at v_max raises
PACE_MARGIN; a regulator that does not acknowledge raises AVS_REGULATOR. What the supply monitors do (R80, R508): a trip
shows in the rail and follows its fault, and below its monitor it is a brown-out record; its end closes the record; the ring
reaches flash. -/
def Obligations.VoltageAndSupplyEventsComplete : Prop :=
  ((∀ (s a : State) (t die : Nat), a = s.advance t → a.loopRuns die = false →
    exec (.voltageLoopPeriod t die) s = .next (s.closed a) ∧ exec (.paceMarginTimeout t die) s = .next (s.closed a)) ∧
  (∀ (s a : State) (t die : Nat), a = s.advance t → a.loopRuns die = true → 100 * a.lowPace die < 125 * a.loopDemand die →
    ∃ u, exec (.voltageLoopPeriod t die) s = .next (s.closed u) ∧ u.nat (O.die_setpoint (1 + die)) =
      max (a.nat (O.die_v_min (1 + die))) (min (a.nat (O.die_v_max (1 + die))) (a.nat (O.die_setpoint (1 + die)) + 10))) ∧
  (∀ (s a : State) (t die since : Nat), a = s.advance t → a.loopRuns die = true → 125 * a.loopDemand die ≤ 100 * a.lowPace die →
    (a.nat (O.die_target (1 + die)) + 5) * a.loopDemand die < 100 * a.lowPace die → kfind a.power.above die = some since →
    since + 10000000 ≤ a.now → a.power.badReg = [] →
    ∃ u, exec (.voltageLoopPeriod t die) s = .next (s.closed u) ∧ u.nat (O.die_setpoint (1 + die)) =
      max (a.nat (O.die_v_min (1 + die))) (min (a.nat (O.die_v_max (1 + die))) (a.nat (O.die_setpoint (1 + die)) - 5))) ∧
  (∀ (s a : State) (t tile pace : Nat), a = s.advance t → tile < a.tiles → a.power.margin = [] → a.power.short = [] →
    exec (.paceMonitorWindow t tile pace) s = .next (s.closed ((a.setN (O.pace_last (32 + tile)) pace).setN (O.pace_lowest (32 + tile))
      (if a.nat (O.pace_lowest (32 + tile)) = 0 then pace else min (a.nat (O.pace_lowest (32 + tile))) pace)))) ∧
  (∀ (s a : State) (t die : Nat), a = s.advance t → a.loopRuns die = true → a.marginLost die = true → a.paceLost die = false →
    a.nat (O.die_setpoint (1 + die)) = a.nat (O.die_v_max (1 + die)) → a.power.margin = [] →
    ∃ u, exec (.paceMarginTimeout t die) s = .next (s.closed u) ∧ u.power.margin = [die] ∧
      (a.isActive F.paceMargin = false → a.heldDown = false → u.nat (O.fsrc_state (F.paceMargin + 1)) = 1)) ∧
  (∀ (s a : State) (t die vout status : Nat), a = s.advance t → die < 2 → a.loopRuns die = false → a.nat (O.die_setpoint (1 + die)) = vout →
    a.power.badReg = [] → a.isActive F.avsRegulator = false → a.faults.relatch = [] →
    exec (.regulatorPoll t die true vout status) s =
      .next (s.closed ((a.setN (O.die_vout_read (1 + die)) vout).setN (O.die_regulator_status (1 + die)) status))) ∧
  ∀ (s a : State) (t die vout status : Nat), a = s.advance t → die < 2 → a.loopRuns die = false → a.power.badReg = [] →
    a.isActive F.avsRegulator = false → exec (.regulatorPoll t die false vout status) s =
      .next (s.closed (({ a with power := { a.power with badReg := [die] } } : State).latch F.avsRegulator die vout))) ∧
  ((∀ (s a : State) (t rail mv f : Nat), a = s.advance t → railFault rail true = some f → rail ≠ 6 → rail ≠ 7 →
    exec (.railMonitorTrip t rail true mv) s =
      .next (s.closed (((a.railReads rail mv).setN (O.rail_state (16 + rail)) 2).follow f rail mv true))) ∧
  (∀ (s a : State) (t rail mv f : Nat), a = s.advance t → railFault rail false = some f → rail ≠ 6 → rail ≠ 7 → a.power.brown = [] →
    ∃ u, exec (.railMonitorTrip t rail false mv) s = .next (s.closed u) ∧
      u.nat (O.rail_state (16 + rail)) = 1 ∧ u.nat (O.rail_reading (16 + rail)) = mv ∧
      u.power.brown = [⟨rail, a.now, a.tbNow 0⟩] ∧
      (a.oct O.pow_brownout_ring = [] → u.oct O.pow_brownout_ring = brownRecord rail 1 mv 0xFFFFFFFF (a.tbNow 0))) ∧
  (∀ (s a : State) (t mv : Nat), a = s.advance t → exec (.undervoltTrip t 0 mv) s = .next (s.closed (a.railTrip 6 false mv)) ∧
    exec (.undervoltTrip t 1 mv) s = .next (s.closed (a.railTrip 7 false mv)) ∧ exec (.undervoltTrip t 2 mv) s = .next (s.closed a)) ∧
  (∀ (s a : State) (t rail lowest : Nat), a = s.advance t → a.power.brown = [] →
    exec (.brownoutEnd t rail lowest) s = .next (s.closed a)) ∧
  (∀ (s a : State) (t rail mv lowest since tb f : Nat), a = s.advance t → rail < 13 → railFault rail false = some f →
    a.power.brown = [⟨rail, since, tb⟩] → a.oct O.pow_brownout_ring = brownRecord rail 1 mv 0xFFFFFFFF tb → a.isActive f = false →
    a.faults.relatch = [] →
    ∃ u, exec (.brownoutEnd t rail lowest) s = .next (s.closed u) ∧ u.power.brown = [] ∧ u.nat (O.rail_state (16 + rail)) = 0 ∧
      u.oct O.pow_brownout_ring = brownRecord rail 1 lowest ((a.now - since + 999) / 1000) tb) ∧
  ∀ (s a : State) (t : Nat), a = s.advance t →
    exec (.brownoutRingWrite t) s = .next (s.closed { a with fw := { a.fw with ring := a.oct O.pow_brownout_ring } }))

/-- What resets do (R506 to R509, R536): RESET_N low, PWRGD low and EXTEST hold the chip and take READY away, and phase 0
begins when both are high again or the TAP is reset. -/
def Obligations.ResetEventsComplete : Prop :=
  (∀ (s a : State) (t : Nat), a = s.advance t → a.power.resetN = true →
    exec (.resetNLow t) s = .next (s.closed { a.wipe false with power := { (a.wipe false).power with resetN := false } })) ∧
  (∀ (s a : State) (t : Nat), a = s.advance t → a.power.tap = false → a.power.resetN = true →
    exec (.jtagExtest t) s = .next (s.closed { a.wipe false with power := { (a.wipe false).power with tap := true } })) ∧
  (∀ (s a : State) (t : Nat), a = s.advance t → a.power.pwrgd = true → a.power.resetN = false → a.nat O.twin_pf_state % 4 ≠ 3 →
    exec (.pwrgdFall t) s = .next (s.closed { a.wipe true with power := { (a.wipe true).power with pwrgd := false } })) ∧
  (∀ (b : State) (lost : Bool), (b.wipe lost).ready = false ∧ (b.wipe lost).sw = State.reset.sw ∧ (b.wipe lost).salvos = State.reset.salvos ∧
    (b.wipe lost).mem = State.reset.mem) ∧
  (∀ (s a : State) (t : Nat), a = s.advance t → a.power.tap = false → a.power.pwrgd = false ∨ a.power.resetN = false →
    exec (.bringupStart t) s = .next (s.closed
      (({ a with power := { a.power with pwrgd := true, resetN := true } } : State).startUp (if a.power.lost then 0 else 1)))) ∧
  (∀ (s a : State) (t : Nat), a = s.advance t → a.power.tap = true → a.power.pwrgd = true → a.power.resetN = true →
    exec (.tapReset t) s = .next (s.closed (({ a with power := { a.power with tap := false } } : State).startUp 1))) ∧
  (∀ (s a : State) (t : Nat), a = s.advance t → a.power.tap = false → exec (.tapReset t) s = .next (s.closed a)) ∧
  ∀ (s a : State) (t : Nat), a = s.advance t → a.ready = false → a.power.pwrgd = true → a.power.resetN = true → a.power.tap = false →
    a.power.stuck = false → a.power.overrun = false →
    exec (.bringupOverrun t) s = .next (s.closed (({ a with power := { a.power with overrun := true } } : State).restart 5))

/-- How bring-up goes on (R509, R510): a phase that is over is followed by the next, phase 2 by phase 3 or, in Recovery mode,
by phase 5; after the last phase READY rises, with a boot epoch and the times of bring-up shown. What wakes the chip and ends
Lull (R516, R517): a wake in Lull shows its cause; the lanes are then in their set states and Lull is left; one that takes
too long raises LULL_WAKE_LATE. -/
def Obligations.BringUpAndLullGoOn : Prop :=
  ((∀ (s a : State) (t : Nat) (r : PhaseResult), a = s.advance t → a.booting = false →
    exec (.bringupPhaseDone t r) s = .next (s.closed a)) ∧
  (∀ (s a : State) (t : Nat) (r : PhaseResult), a = s.advance t → a.booting = true → a.power.bootPh = 2 → r.activeOk = true → a.mode ≠ 3 →
    exec (.bringupPhaseDone t r) s = .next (s.closed
      { a with power := { a.power with bootPh := 3, times := a.power.times ++ [r.ms] } })) ∧
  (∀ (s a : State) (t : Nat) (r : PhaseResult), a = s.advance t → a.booting = true → a.power.bootPh = 2 → r.activeOk = true → a.mode = 3 →
    exec (.bringupPhaseDone t r) s = .next (s.closed
      { a with power := { a.power with bootPh := 5, times := a.power.times ++ [r.ms] ++ [0, 0] } })) ∧
  (∀ (s a : State) (t : Nat) (r : PhaseResult), a = s.advance t → a.booting = true → a.power.bootPh = 6 →
    exec (.bringupPhaseDone t r) s = .next (s.closed
      { a with power := { a.power with bootPh := 6, times := a.power.times ++ [r.ms] } })) ∧
  (∀ (s a : State) (t : Nat), a = s.advance t → a.mayBeReady = false → exec (.bringupReady t) s = .next (s.closed a)) ∧
  (∀ (s a : State) (t : Nat), a = s.advance t → a.mayBeReady = true → a.mode = 3 →
    ∃ u, exec (.bringupReady t) s = .next (s.closed u) ∧ u.ready = true) ∧
  ∀ b : State, b.raiseReady.ready = true ∧ b.raiseReady.power.bootPh = 7 ∧ b.raiseReady.nat O.bring_failed_starts = 0 ∧
    b.raiseReady.oct O.bring_phase_times = b.power.times.flatMap (beBytes 4)) ∧
  ((∀ (s a : State) (t : Nat) (twin : Bool), a = s.advance t → a.nat O.pow_lull_state = 0 ∨ a.nat O.pow_lull_state = 3 →
    exec (.wakeNFall t twin) s = .next (s.closed a)) ∧
  (∀ (s a : State) (t : Nat) (twin : Bool), a = s.advance t → a.nat O.pow_lull_state = 1 ∨ a.nat O.pow_lull_state = 2 →
    ∃ u, exec (.wakeNFall t twin) s = .next (s.closed u) ∧ u.nat O.pow_lull_state = 3 ∧ u.nat O.pow_wake_cause = (if twin then 3 else 1) ∧
      u.nat O.pow_lull = 0 ∧ u.power.wakeAt = a.now) ∧
  (∀ (s a : State) (t : Nat), a = s.advance t → a.nat O.pow_lull_state = 3 →
    ∃ u, exec (.lullWakeDone t) s = .next (s.closed u) ∧ u.nat O.pow_lull_state = 0 ∧
      u.nat O.pow_last_wake = (a.now - a.power.wakeAt) / 1000) ∧
  (∀ (s a : State) (t : Nat), a = s.advance t → a.nat O.pow_lull_state = 3 →
    exec (.lullWakeLate t) s = .next (s.closed (a.strike F.lullWakeLate 0 ((a.now - a.power.wakeAt) / 1000)))) ∧
  ∀ (s a : State) (t : Nat), a = s.advance t → a.nat O.pow_lull_state ≠ 3 →
    exec (.lullWakeDone t) s = .next (s.closed a) ∧ exec (.lullWakeLate t) s = .next (s.closed a))

/-- What the events of SRAM banks do (R463 to R470): an idle bank enters retention and one of the general pool then goes off;
an access wakes a bank; a word that decodes well changes nothing, a corrected one is counted and raises SRAM_CORRECTED; a
scrub forgets errors older than an hour. -/
def Obligations.BankEventsComplete : Prop :=
  (∀ (s a : State) (t b : Nat), a = s.advance t → a.bankExists b = true → a.nat (O.bank_policy b) = 0 → a.bankIdle b = true →
    a.nat (O.bank_state b) = 0 → exec (.bankIdleTimer t b) s = .next (s.closed (a.setN (O.bank_state b) 1))) ∧
  (∀ (s a : State) (t b : Nat), a = s.advance t → a.bankExists b = true → a.nat (O.bank_policy b) = 0 → a.bankIdle b = true →
    a.nat (O.bank_state b) = 1 → bankUse b = 5 → exec (.bankIdleTimer t b) s = .next (s.closed { a.setN (O.bank_state b) 2 with
      mem := { a.mem with words := a.mem.words.filter (fun e => e.1.1 ≠ b) } })) ∧
  (∀ (s a : State) (t b : Nat), a = s.advance t → a.nat (O.bank_policy b) ≠ 0 ∨ a.bankIdle b = false →
    exec (.bankIdleTimer t b) s = .next (s.closed a)) ∧
  (∀ (s a : State) (t b : Nat), a = s.advance t → a.bankExists b = true → a.nat (O.bank_state b) = 1 ∨ a.nat (O.bank_state b) = 2 →
    exec (.bankWake t b) s = .next (s.closed ((a.setN (O.bank_state b) 3).count (O.bank_wakes b)))) ∧
  (∀ (s a : State) (t b : Nat), a = s.advance t → a.nat (O.bank_state b) = 3 → a.mem.taken = [] →
    exec (.bankWakeDone t b) s = .next (s.closed (a.setN (O.bank_state b) 0))) ∧
  (∀ (s a : State) (t b addr word unit : Nat), a = s.advance t → a.bankExists b = true → a.faults.inject = none → decodeWord word = .good →
    exec (.sramWordError t b addr word unit) s = .next (s.closed a)) ∧
  (∀ (s a : State) (t b addr word unit x : Nat), a = s.advance t → a.bankExists b = true → a.faults.inject = none →
    decodeWord word = .corrected x →
    exec (.sramWordError t b addr word unit) s = .next (s.closed ((a.count (O.bank_corrected b)).strike F.sramCorrected b addr))) ∧
  (∀ (s a : State) (t b : Nat), a = s.advance t → a.bankExists b = true → a.nat (O.bank_state b) = 0 →
    exec (.bankScrub t b) s = .next (s.closed { a with mem := { a.mem with
      errs := a.mem.errs.filter (fun e => a.now < e.2 + 3600000000000) } })) ∧
  ∀ (s a : State) (t b : Nat), a = s.advance t → a.nat (O.bank_state b) ≠ 0 → exec (.bankScrub t b) s = .next (s.closed a)

/-- What the control interconnect does (R472 to R477): a request presented past 16 outstanding stalls and is counted; a word
is read and written whole; the oldest accepted request is answered; a silent target is answered for with an error and
counted; a sequence is cut after its 16th beat, and the trace port opens none. What a write of an initiator's priorities asks
(R475, R476): twenty of them, each up to 15. -/
def Obligations.InterconnectEventsComplete : Prop :=
  ((∀ (s a : State) (t j : Nat), a = s.advance t → a.mem.waiting = [] → a.mem.taken = [] → isBankTarget j = false →
    exec (.icRequest t j []) s = .next (s.closed a)) ∧
  (∀ (a : State) (r : IcReq), 16 ≤ a.nat (O.ini_outstanding (1 + r.init)) →
    a.icPresent r = ({ a with mem := { a.mem with stalled := a.mem.stalled ++ [r] } } : State).count (O.ini_full_stalls (1 + r.init))) ∧
  (∀ (s a : State) (t addr v : Nat) (r : IcReq), a = s.advance t → r = ⟨0, 4, 0, true, 0, addr, v, false⟩ → addr < 33554432 →
    v < 340282366920938463463374607431768211456 → a.mem.waiting = [] → a.mem.taken = [] → a.mem.stalled = [] → a.mem.held = [] →
    a.mem.locks = [] → a.faults.inject = none → a.nat (O.ini_outstanding 1) < 16 →
    ∃ u, exec (.icRequest t 4 [r]) s = .next (s.closed u) ∧ u.wordAt 8192 addr = v ∧
      u.nat (O.ini_outstanding 1) = a.nat (O.ini_outstanding 1) + 1) ∧
  (∀ (s a : State) (t j ident : Nat), a = s.advance t → (∀ x ∈ a.mem.taken, x.req.target ≠ j) →
    exec (.icResponse t j ident) s = .next (s.closed a)) ∧
  (∀ (s a : State) (t : Nat) (x : IcTaken), a = s.advance t → a.mem.taken = [x] → x.req.target = 9 → x.performed = true →
    a.mem.held = [] → a.mem.waiting = [] → a.mem.stalled = [] → 0 < a.nat (O.ini_outstanding (1 + x.req.init)) →
    ∃ u, exec (.icResponse t 9 x.req.ident) s = .next (s.closed u) ∧ u.mem.taken = [] ∧ u.mem.held = [] ∧
      u.nat (O.ini_outstanding (1 + x.req.init)) = a.nat (O.ini_outstanding (1 + x.req.init)) - 1 ∧
      u.out = a.out ++ [.icResp x.req.init x.req.ident false x.data]) ∧
  (∀ (s a : State) (t j : Nat), a = s.advance t → (∀ x ∈ a.mem.taken, x.req.target ≠ j) → (∀ x ∈ a.mem.waiting, x.req.target ≠ j) →
    exec (.icTimeout t j) s = .next (s.closed a)) ∧
  (∀ (s a : State) (t j : Nat) (x : IcTaken), a = s.advance t → a.mem.taken = [x] → x.req.target = j → a.mem.waiting = [] →
    exec (.icTimeout t j) s = .next (s.closed ((((a.icAnswer { x with data := 0 } true).count (O.tgt_timeouts (32 + j))).strike
      F.icTimeout x.req.init j).icUnstall))) ∧
  (∀ (s a : State) (t i j ident : Nat), a = s.advance t → i = 11 → j < 20 →
    exec (.icLockOpen t i j ident) s = .next (s.closed ((a.count O.ic_error_responses).emit (.icResp i ident true 0)))) ∧
  (∀ (s a : State) (t i j ident : Nat), a = s.advance t → i < 11 → j < 20 → a.mem.locks = [] → a.mem.lockWaits = [] →
    ∃ u, exec (.icLockOpen t i j ident) s = .next (s.closed u) ∧ u.mem.locks = [⟨i, j, 0, false⟩] ∧
      u.nat (O.tgt_lock_holder (32 + j)) = i) ∧
  (∀ (s a : State) (t i j beats : Nat), a = s.advance t → a.mem.locks = [⟨i, j, beats, false⟩] → beats < 16 →
    exec (.icLockCut t j) s = .next (s.closed a)) ∧
  ∀ (s a : State) (t i j beats : Nat), a = s.advance t → a.mem.locks = [⟨i, j, beats, false⟩] → 16 ≤ beats → a.mem.lockWaits = [] →
    ∃ u, exec (.icLockCut t j) s = .next (s.closed u) ∧ u.mem.locks = [⟨i, j, beats, true⟩] ∧
      u.nat (O.tgt_lock_holder (32 + j)) = 255) ∧
  ((∀ (b : State) (w : Writer) (i : Nat) (ps : Bytes), i < 12 → ps.length ≠ 20 ∨ (∃ p ∈ ps, 15 < p.toNat) →
    b.familyWrite w [] (O.ini_priorities (1 + i)) (.b ps) = some (C.range, b)) ∧
  (∀ (b : State) (w : Writer) (i : Nat) (ps : Bytes) (d : Desc), i < 12 → ps.length = 20 → (∀ p ∈ ps, p.toNat ≤ 15) →
    descOf (O.ini_priorities (1 + i)) = some d →
    b.applyWrite w [] d (O.ini_priorities (1 + i)) (.b ps) = (0, b.setB (O.ini_priorities (1 + i)) ps)) ∧
  ∀ (b : State) (i j : Nat) (ps : Bytes), j < ps.length →
    (b.setB (O.ini_priorities (1 + i)) ps).pairPriority i j = (ps.getD j 0).toNat)

/-- What enabling and disabling flows and groups and the channels of an audio flow do when written (R225, R227, R228, R252,
R514): a flow that is enabled already is left; one is disabled at once; one enabled is judged by its legs and budget; a
member video flow of a group is enabled by its group alone; a count of channels takes the lowest free block. -/
def Obligations.FlowWriteRules : Prop :=
  (∀ (b : State) (w : Writer) (fam inst : Nat), (fam = 0x3700 ∧ 8192 ≤ inst) ∨ (fam = 0x7000 ∧ 4096 ≤ inst) →
    b.flag (O.flow_enable fam inst) = true → b.inLull = false →
    b.familyWrite w [] (O.flow_enable fam inst) (.n 1) = some (0, b) ∧
    b.familyWrite w [] (O.flow_enable fam inst) (.n 0) = some (0, b.disableFlow fam inst)) ∧
  (∀ (b : State) (w : Writer) (fam inst : Nat), (fam = 0x3700 ∧ 8192 ≤ inst) ∨ (fam = 0x7000 ∧ 4096 ≤ inst) → b.inLull = true →
    b.familyWrite w [] (O.flow_enable fam inst) (.n 1) = some (C.busy, b)) ∧
  (∀ (b : State) (w : Writer) (inst : Nat), 8192 ≤ inst → inst < 12288 → b.flag (O.flow_enable 0x3700 inst) = false → b.inLull = false →
    2048 ≤ b.flowGroup 0x3700 inst →
    b.familyWrite w [] (O.flow_enable 0x3700 inst) (.n 1) = some (C.range, b)) ∧
  (∀ (b u : State) (w : Writer) (inst : Nat), 12288 ≤ inst → b.flag (O.flow_enable 0x3700 inst) = false → b.inLull = false →
    b.enableFlow 0x3700 inst = .ok u → b.familyWrite w [] (O.flow_enable 0x3700 inst) (.n 1) = some (0, u)) ∧
  (∀ (b : State) (w : Writer) (inst code detail : Nat), 12288 ≤ inst → b.flag (O.flow_enable 0x3700 inst) = false → b.inLull = false →
    b.enableFlow 0x3700 inst = .error (code, detail) →
    b.familyWrite w [] (O.flow_enable 0x3700 inst) (.n 1) = some (code, b)) ∧
  (∀ (b : State) (fam inst l : Nat), l ∈ b.legs fam inst → b.legOk fam inst l = false → b.enableFlow fam inst = .error (C.range, 0)) ∧
  (∀ (b u : State) (fam inst : Nat), b.enableFlow fam inst = .ok u → (∀ l ∈ b.legs fam inst, b.legOk fam inst l = true) ∧
    ∀ l ∈ b.legs fam inst, b.portOpen (b.legPort fam inst l) = true) ∧
  (∀ (b : State) (fam inst : Nat), (b.disableFlow fam inst).nat (O.flow_enable fam inst) = 0 ∧
    (b.disableFlow fam inst).nat (O.flow_state fam inst) = 0 ∧ (b.disableFlow fam inst).rxOf fam inst = none) ∧
  (∀ (b : State) (w : Writer) (inst : Nat), 2048 ≤ inst → inst < 8192 → b.inLull = false → b.flag (O.grp_enable inst) = true →
    b.familyWrite w [] (O.grp_enable inst) (.n 1) = some (0, b)) ∧
  (∀ (b : State) (w : Writer) (inst : Nat), 4096 ≤ inst → inst < 8192 → b.flag (O.grp_enable inst) = true →
    b.familyWrite w [] (O.grp_enable inst) (.n 0) = some (0, (b.groupMembers true (inst - 4096)).foldl (fun st m => st.disableFlow m.1 m.2)
      (b.setN (O.grp_enable inst) 0))) ∧
  (∀ (b : State) (w : Writer) (inst : Nat), 4096 ≤ inst → inst < 8192 → b.inLull = false → b.flag (O.grp_enable inst) = false →
    b.groupFits true (inst - 4096) = false ∨ b.groupFormat true (inst - 4096) = 0 →
    b.familyWrite w [] (O.grp_enable inst) (.n 1) = some (C.range, b)) ∧
  (∀ (b : State) (w : Writer) (inst n : Nat), 12288 ≤ inst → channelsOk (b.nat (O.aflow_encoding 0x3700 inst))
      (b.nat (O.aflow_sample_rate 0x3700 inst)) (b.nat (O.aflow_packet_time 0x3700 inst)) n = false →
    b.familyWrite w [] (O.aflow_channels 0x3700 inst) (.n n) = some (C.range, b)) ∧
  (∀ (b : State) (w : Writer) (inst : Nat), 12288 ≤ inst → b.familyWrite w [] (O.aflow_channels 0x3700 inst) (.n 0) =
    some (0, (b.setN (O.aflow_channels 0x3700 inst) 0).setN (O.aflow_channel_base 0x3700 inst) 65535)) ∧
  (∀ (b : State) (w : Writer) (inst n : Nat), 12288 ≤ inst → n ≠ 0 → channelsOk (b.nat (O.aflow_encoding 0x3700 inst))
      (b.nat (O.aflow_sample_rate 0x3700 inst)) (b.nat (O.aflow_packet_time 0x3700 inst)) n = true →
    b.familyWrite w [] (O.aflow_channels 0x3700 inst) (.n n) = some (match b.freeBlock inst n with
      | none => (C.busy, b)
      | some x => (0, (b.setN (O.aflow_channels 0x3700 inst) n).setN (O.aflow_channel_base 0x3700 inst) x))) ∧
  ∀ (b : State) (inst n x : Nat), b.freeBlock inst n = some x → 32768 ≤ x ∧ x + n ≤ 61440 ∧
    ∀ e ∈ b.channelBlocks inst, x + n ≤ e.1 ∨ e.1 + e.2 ≤ x

/-- What the events of interfaces, of addresses and of membership do (R222, R223, R246 to R249). What the events of
reception, release and activation do (R235 to R243, R251): a packet that is not of a leg is only counted on its port, and one
with another payload type is rejected and counted; a sequence declared lost is counted; audio that has not come is counted
late; an activation that writes do not allow is denied, and one with an instant is staged. -/
def Obligations.InterfaceAndReceptionEventsComplete : Prop :=
  ((∀ (s a : State) (t p : Nat) (up : Bool), a = s.advance t → a.laneExists p = true → a.isEth p = true →
    ∃ u, exec (.ethLinkChange t p up) s = .next (s.closed u) ∧ u.nat (O.eth_link_state (1 + p)) = (if up then 1 else 0)) ∧
  (∀ (s a : State) (t p : Nat) (up : Bool), a = s.advance t → a.isEth p = false → exec (.ethLinkChange t p up) s = .next (s.closed a)) ∧
  (∀ (s a : State) (t fam inst leg since : Nat), a = s.advance t → a.packet.resolves = [⟨fam, inst, leg, since, none⟩] →
    exec (.addressResolveTimeout t fam inst leg) s =
      .next (s.closed (if since + 1000000000 ≤ a.now then a.setN (O.flow_state fam inst) 4 else a))) ∧
  (∀ (s a : State) (t p address : Nat), a = s.advance t → a.laneExists p = true → a.isEth p = true →
    a.nat (O.eth_ipv4_address (1 + p)) = address → address ≠ 0 →
    exec (.arpNdEchoFrameRx t p (.arpRequest address)) s = .next (s.closed
      ((a.count (O.eth_rx_frames (1 + p)) 1 64).emit (.neighbour p 0 (a.oct (O.eth_mac (1 + p)) ++ beBytes 4 address))))) ∧
  (∀ (s a : State) (t p : Nat), a = s.advance t → a.laneExists p = true → a.isEth p = true →
    exec (.arpNdEchoFrameRx t p .badFcs) s = .next (s.closed (a.count (O.eth_rx_fcs_errors (1 + p)))) ∧
    exec (.arpNdEchoFrameRx t p .pause) s = .next (s.closed (a.count (O.eth_rx_frames (1 + p)) 1 64))) ∧
  (∀ (s a : State) (t p : Nat) (f : NeighbourFrame), a = s.advance t → a.isEth p = false →
    exec (.arpNdEchoFrameRx t p f) s = .next (s.closed a)) ∧
  (∀ (s a : State) (t p : Nat) (group : Bytes), a = s.advance t → a.laneExists p = true → a.isEth p = true → a.packet.members = [] →
    exec (.mcastQuery t p false group) s = .next (s.closed
      (if a.nat (O.eth_igmp_querier (1 + p)) = 0 then a.setN (O.eth_igmp_querier (1 + p)) 1 else a))) ∧
  (∀ (s a : State) (t fam inst leg : Nat), a = s.advance t → a.packet.members = [] →
    exec (.unsolicitedReport t fam inst leg) s = .next (s.closed a) ∧ exec (.leaveHoldExpiry t fam inst) s = .next (s.closed a)) ∧
  (∀ (s a : State) (t : Nat) (m : Member), a = s.advance t → a.packet.members = [m] → 0 < m.reports →
    exec (.unsolicitedReport t m.fam m.inst m.leg) s = .next (s.closed
      (({ a with packet := { a.packet with members := [{ m with reports := m.reports - 1 }] } } : State).emit
        (.membership (a.legPort m.fam m.inst m.leg) (a.legAddress m.fam m.inst m.leg) true)))) ∧
  (∀ (s a : State) (t at' : Nat) (m : Member), a = s.advance t → a.packet.members = [m] → m.leaveAt = some at' → at' ≤ a.now →
    exec (.leaveHoldExpiry t m.fam m.inst) s = .next (s.closed (a.leaveFlow m.fam m.inst))) ∧
  (∀ (s a : State) (t p : Nat), a = s.advance t → a.laneExists p = true → a.isEth p = true →
    exec (.mcastCompatEnter t p false) s = .next (s.closed ((a.setN (O.eth_igmp_querier (1 + p)) 2).follow (F.mcastCompat (p / 64)) p 0 true)) ∧
    exec (.mcastCompatEnter t p true) s = .next (s.closed ((a.setN (O.eth_mld_querier (1 + p)) 2).follow (F.mcastCompat (p / 64)) p 1 true))) ∧
  (∀ (s a : State) (t p : Nat), a = s.advance t → a.nat (O.eth_igmp_querier (1 + p)) ≠ 2 →
    exec (.mcastCompatExpiry t p false) s = .next (s.closed a)) ∧
  (∀ (s a : State) (t p : Nat), a = s.advance t → a.nat (O.eth_igmp_querier (1 + p)) = 2 →
    ∃ u, exec (.mcastCompatExpiry t p false) s = .next (s.closed u) ∧ u.nat (O.eth_igmp_querier (1 + p)) = 0) ∧
  ∀ (s a : State) (t : Nat) (found : Bool), a = s.advance t → exec (.nmosRegistration t found) s = .next (s.closed
    (if a.natNow O.pk_nmos_enable ≠ 1 then a.setN O.pk_nmos_state 0 else if a.standby then a.setN O.pk_nmos_state 3
      else if found then (a.setN O.pk_nmos_state 2).emit (.nmos (a.oct O.pk_nmos_registry) (a.oct O.id_chip_label) a.pairId
          (a.txFlows.map (fun f => (f.1, f.2, a.flowGroup f.1 f.2)))) else a.setN O.pk_nmos_state 1))) ∧
  ((∀ (s a : State) (t fam inst leg : Nat) (pkt : RxPacket), a = s.advance t → a.laneExists pkt.port = true → a.isEth pkt.port = true →
    a.packet.rx = [] → exec (.rxPacket t fam inst leg pkt) s = .next (s.closed (a.count (O.eth_rx_frames (1 + pkt.port)) 1 64))) ∧
  (∀ (s a : State) (t fam inst leg : Nat) (pkt : RxPacket) (r : RxFlow), a = s.advance t → a.isEth pkt.port = false →
    a.rxOf fam inst = some r → leg ∈ a.legs fam inst → r.fam = fam → r.inst = inst → a.legMatches fam inst leg pkt = true →
    pkt.payloadType ≠ a.nat (O.flow_payload_type fam inst) →
    exec (.rxPacket t fam inst leg pkt) s = .next (s.closed (a.count O.pk_rejected_packets))) ∧
  (∀ (s a : State) (t fam inst seq : Nat), a = s.advance t → a.rxOf fam inst = none →
    exec (.mergeLostDeclare t fam inst seq) s = .next (s.closed a) ∧ exec (.standaloneRelease t fam inst seq) s = .next (s.closed a) ∧
    exec (.mergeSkewCheck t fam inst) s = .next (s.closed a) ∧ ∀ leg, exec (.legDown t fam inst leg) s = .next (s.closed a)) ∧
  (∀ (s a : State) (t inst seq at' : Nat) (r : RxFlow), a = s.advance t → a.rxOf 0x3700 inst = some r → r.missing = [(seq, at')] →
    at' + a.nat (O.flow_merge_window 0x3700 inst) ≤ a.now →
    exec (.mergeLostDeclare t 0x3700 inst seq) s = .next (s.closed ((a.modRx 0x3700 inst (fun r =>
      { r with missing := r.missing.filter (fun x => x ≠ (seq, at')), lost := r.lost ++ [seq] })).count (O.flow_lost 0x3700 inst)))) ∧
  (∀ (s a : State) (t inst seq : Nat) (r : RxFlow), a = s.advance t → a.rxOf 0x3700 inst = some r → r.held = [] →
    exec (.standaloneRelease t 0x3700 inst seq) s = .next (s.closed (a.count (O.flow_late 0x3700 inst) (a.aflowSamples inst)))) ∧
  (∀ (s a : State) (t fam inst leg : Nat) (r : RxFlow), a = s.advance t → a.rxOf fam inst = some r → leg ∉ a.legs fam inst →
    exec (.legDown t fam inst leg) s = .next (s.closed a)) ∧
  (∀ (s a : State) (t fam inst at' : Nat) (r : RxFlow), a = s.advance t → a.rxOf fam inst = some r → a.legs fam inst = [0, 1] →
    r.lastA = some at' → at' + 10000000 ≤ a.now → r.downB = false →
    exec (.legDown t fam inst 0) s = .next (s.closed (((a.modRx fam inst (fun r => { r with downA := true })).follow
      (F.legDown (a.flowTile fam inst)) (a.legPort fam inst 0) inst true).showFlow fam inst))) ∧
  (∀ (s a : State) (t fam inst : Nat) (r : RxFlow), a = s.advance t → a.rxOf fam inst = some r → a.packet.rx = [r] → r.fam = fam →
    r.inst = inst → r.diffs = [] →
    exec (.mergeSkewCheck t fam inst) s = .next (s.closed (((a.setI (O.flow_path_diff fam inst) 0).modRx fam inst
      (fun r => { r with skewSince := none })).endFault (F.mergeSkew (a.flowTile fam inst))))) ∧
  (∀ (s a : State) (t g : Nat), a = s.advance t → a.flag (O.grp_enable (2048 + g)) = false →
    exec (.frameRelease t g) s = .next (s.closed a)) ∧
  (∀ (s a : State) (t g : Nat), a = s.advance t → g < 2048 → a.flag (O.grp_enable (2048 + g)) = true →
    exec (.frameRelease t g) s = .next (s.closed (a.releaseFrame g))) ∧
  (∀ (a : State) (g v : Nat) (r : RxFlow), a.groupMembers false g = [(0x3700, v)] → a.groupVideo false g = [v] →
    a.rxOf 0x3700 v = some r → r.complete = true → a.releaseFrame g = (a.modRx 0x3700 v RxFlow.dropFrame).frameStart (1024 + g) 0) ∧
  (∀ (s a : State) (t g : Nat), a = s.advance t → g < 2048 → a.flag (O.grp_enable (2048 + g)) = true →
    a.groupMembers false g = [] → a.groupVideo false g = [] → a.nat (O.src_timing_state (1024 + g)) = 0 →
    exec (.frameRelease t g) s = .next (s.closed a)) ∧
  (∀ (s a : State) (t fam inst : Nat) (legs : List Is05Leg) (sched : Option Nat), a = s.advance t → a.nmosWrites = false →
    exec (.is05Activation t fam inst legs sched) s = .next (s.closed (a.emit (.result (O.flow_enable fam inst) C.denied)))) ∧
  (∀ (s a : State) (t fam inst at' : Nat) (legs : List Is05Leg), a = s.advance t → a.nmosWrites = true → a.packet.is05 = [] →
    exec (.is05Activation t fam inst legs (some at')) s =
      .next (s.closed { a with packet := { a.packet with is05 := [⟨fam, inst, legs, at'⟩] } })) ∧
  (∀ (s a : State) (t fam inst : Nat) (legs : List Is05Leg), a = s.advance t → a.nmosWrites = true →
    exec (.is05Activation t fam inst legs none) s = .next (s.closed ((a.activateIs05 fam inst legs).2.emit
      (.result (O.flow_enable fam inst) (a.activateIs05 fam inst legs).1)))) ∧
  (∀ (s a : State) (t fam inst at' : Nat) (legs : List Is05Leg), a = s.advance t → a.packet.is05 = [⟨fam, inst, legs, at'⟩] →
    a.tbNow 0 < at' → exec (.is05ScheduledActivation t fam inst) s = .next (s.closed a)) ∧
  ∀ (s a u : State) (t fam inst at' : Nat) (legs : List Is05Leg), a = s.advance t → a.packet.is05 = [⟨fam, inst, legs, at'⟩] →
    at' ≤ a.tbNow 0 → a.activateIs05 fam inst legs = (0, u) → u.packet.is05 = a.packet.is05 →
    exec (.is05ScheduledActivation t fam inst) s = .next (s.closed (({ u with packet := { u.packet with is05 := [] } } : State).emit
      (.result (O.flow_enable fam inst) 0))))

/-- What closing a session, writing a role's key, cancelling a take, writing a take list, emptying a salvo slot, enabling a
hint, a re-optimisation and a recirculated source's destination do when written (R57, R129, R136, R137, R151, R170, R171,
R193). -/
def Obligations.SwitchingWriteRules : Prop :=
  (∀ (b : State) (w : Writer) (slot : Nat), slot ≠ 0 →
    b.familyWrite w [] (O.slot_close slot) (.n 1) = some (0, b.endSession slot)) ∧
  (∀ (b : State) (slot : Nat) (x : Session), b.session slot = some x →
    (b.endSession slot).session slot = none ∧ (b.endSession slot).nat (O.slot_session slot) = 0 ∧
    ∀ u ∈ (b.endSession slot).proto.subs, u.slot ≠ slot) ∧
  (∀ (b : State) (w : Writer) (role : Nat) (key : Bytes), role < 4 → key.all (fun x => x = 0) = true →
    b.familyWrite w [] ⟨0x1010, 0, 5 + role⟩ (.b key) = some (C.range, b)) ∧
  (∀ (b : State) (w : Writer) (role : Nat) (key : Bytes), role < 4 → key.all (fun x => x = 0) = false →
    b.familyWrite w [] ⟨0x1010, 0, 5 + role⟩ (.b key) = some (0, b.setB ⟨0x1010, 0, 5 + role⟩ key)) ∧
  (∀ (b : State) (w : Writer) (slot : Nat), b.nat (O.take_state slot) = 0 →
    b.familyWrite w [] (O.take_cancel slot) (.n 1) = some (C.range, b)) ∧
  (∀ (b : State) (w : Writer) (slot : Nat), b.nat (O.take_state slot) = 4 ∨ b.nat (O.take_state slot) = 5 →
    b.familyWrite w [] (O.take_cancel slot) (.n 1) = some (C.tooLate, b)) ∧
  (∀ (b : State) (w : Writer) (slot : Nat), 6 ≤ b.nat (O.take_state slot) → b.nat (O.take_state slot) ≤ 8 →
    b.familyWrite w [] (O.take_cancel slot) (.n 1) = some (0, b)) ∧
  (∀ (b : State) (w : Writer) (slot : Nat) (r : TakeRec), 1 ≤ b.nat (O.take_state slot) → b.nat (O.take_state slot) ≤ 3 →
    b.sw.takes.find? (fun r => r.slot = slot) = some r →
    b.familyWrite w [] (O.take_cancel slot) (.n 1) =
      some (0, (((b.answerTake r b.twin.seq).finishTake slot 7).abandonTake r.num).retryShort)) ∧
  (∀ (b : State) (w : Writer) (k code i : Nat) (list : Bytes), b.judgeList [] 0 (takePieces list) = some (code, i) →
    b.familyWrite w [] (O.salvo_take_list k) (.b list) = some (code, b.setN (O.salvo_refusal_index k) i)) ∧
  (∀ (b : State) (w : Writer) (k : Nat) (list : Bytes), b.judgeList [] 0 (takePieces list) = none →
    ∃ u, b.familyWrite w [] (O.salvo_take_list k) (.b list) = some (0, u) ∧ u.get (O.salvo_take_list k) = .b list ∧
      u.nat (O.salvo_take_count k) = list.length / 24 ∧ u.nat (O.salvo_state k) = 1 ∧
      u.nat (O.salvo_generation k) = (b.nat (O.salvo_generation k) + 1) % 65536) ∧
  (∀ (b : State) (w : Writer) (k : Nat), b.salvoIdle k = false →
    b.familyWrite w [] (O.salvo_release k) (.n 1) = some (C.busy, b)) ∧
  (∀ (b : State) (w : Writer) (k : Nat), 1 ≤ k → k ≤ 256 → b.salvoIdle k = true →
    ∃ u, b.familyWrite w [] (O.salvo_release k) (.n 1) = some (0, u) ∧ u.nat (O.salvo_state k) = 0 ∧
      u.nat (O.salvo_take_count k) = 0 ∧ u.nat (O.salvo_generation k) = b.nat (O.salvo_generation k) ∧
      u.get (O.salvo_label k) = b.get (O.salvo_label k)) ∧
  (∀ (b : State) (w : Writer) (h g : Nat), h ≠ 0 → b.nat (O.hint_action h) = 0 →
    g ∈ b.hints (b.nat (O.hint_kind h)) [b.normId (b.nat (O.hint_subject h))] → g ≠ h → b.nat (O.hint_action g) = 0 →
    b.nat (O.hint_value g) ≠ b.nat (O.hint_value h) →
    b.familyWrite w [] (O.hint_enable h) (.n 1) = some (C.busy, b)) ∧
  (∀ (b : State) (w : Writer) (h : Nat), h ≠ 0 → b.nat (O.hint_action h) ≠ 0 →
    b.familyWrite w [] (O.hint_enable h) (.n 1) = some (0, b.setN (O.hint_enable h) 1)) ∧
  (∀ (b : State) (w : Writer) (h : Nat), h ≠ 0 →
    b.familyWrite w [] (O.hint_enable h) (.n 0) = some (0, (b.setN (O.hint_enable h) 0).setN (O.hint_state h) 0)) ∧
  (∀ (b : State) (w : Writer),
    b.familyWrite w [] O.placer_reoptimise (.n 1) = some (if 256 ≤ b.queued then (C.busy, b) else (0, b.enqueue .reoptimise))) ∧
  (∀ (b : State) (w : Writer) (x dst code : Nat), dst ≠ none32 → b.judgeDst dst = .error code →
    b.familyWrite w [] (O.src_recirc_of x) (.n dst) = some (code, b)) ∧
  (∀ (b : State) (w : Writer) (x dst : Nat) (d : Dst), dst ≠ none32 → b.judgeDst dst = .ok d → d.ess ≠ .video →
    b.familyWrite w [] (O.src_recirc_of x) (.n dst) = some (C.type, b)) ∧
  (∀ (b : State) (w : Writer) (x dst : Nat) (d : Dst) (r : Route), dst ≠ none32 → b.judgeDst dst = .ok d → d.ess = .video →
    b.route d = some r → idIdx r.pl.src = x → b.familyWrite w [] (O.src_recirc_of x) (.n dst) = some (C.range, b)) ∧
  ∀ (b : State) (w : Writer) (x : Nat), ∃ u, b.familyWrite w [] (O.src_recirc_of x) (.n none32) = some (0, u) ∧
    u.nat (O.src_recirc_of x) = none32 ∧ ∀ y ∈ u.sw.stores, ¬(y.purpose = 1 ∧ y.src = b.srcId 0 x)

/-- Where a destination's switch instants lie (R102, R103, R109, R112): the instant chosen for a time t is the switch instant
of some frame of the format, on the destination's offset, at or after t, and no switch instant lies between; the eligible
instant comes later than the arm by more than the delay D of the new path. -/
def Obligations.SwitchInstantIsTheFirstOnTheGrid : Prop :=
  (∀ (f t : Nat) (off : Int), 1 ≤ f → f ≤ 29 →
    (∃ n : Nat, ((switchAtOrAfter f off t : Nat) : Int) = alignAt f n + off + switchOffset f) ∧ t ≤ switchAtOrAfter f off t ∧
    ∀ k : Nat, (t : Int) ≤ alignAt f k + off + switchOffset f → ((switchAtOrAfter f off t : Nat) : Int) ≤ alignAt f k + off + switchOffset f) ∧
  ∀ (b : Beat) (arm delay : Nat), b.rate = 0 → 1 ≤ b.fmt → b.fmt ≤ 29 → arm + delay < b.eligible arm delay

/-- What the events of takes and of the placer do (R109, R112, R143, R152, R165, R167): a free placer takes up the next task,
a placement that is complete is carried out or refused, a timed take arms a millisecond before its instant, and at a switch
instant what is due switches. What the events of cross-chip routes do (R173, R174): the part of a head's route joins the
placer's queue, which refuses it BUSY when full; a confirmed part takes up its route, and one that is withdrawn or not
confirmed within 10 ms releases what it booked. What a head does for a cross-chip route (R153, R173; the order of the
candidates is that of log entry 76): every path that it finds leads from the source's chip to the destination's over matched
links with room, within the hop limit, and there are at most 8; a chip that is not the head refuses; the parts are asked for
one after another, and confirmed when all are reserved; a refusal of the last candidate ends the route. -/
def Obligations.TakeAndCrossChipEventsComplete : Prop :=
  ((∀ (s a : State) (t : Nat) (task : Task), a = s.advance t → a.placer.running = none → a.standby = false → a.nextTask = some task →
    exec (.placerTaskStart t) s = .next (s.closed (a.startHeaded task))) ∧
  (∀ (s a : State) (t : Nat), a = s.advance t → a.placer.running ≠ none ∨ a.standby = true ∨ a.nextTask = none →
    exec (.placerTaskStart t) s = .next (s.closed a)) ∧
  (∀ (a : State) (task : Task), (∀ d, task ≠ .restore d) → ∃ v, (a.startTask task).placer.running = some (task, v) ∧
    task ∉ (a.startTask task).placer.queue) ∧
  (∀ (s a : State) (t : Nat) (task : Task) (v : Verdict), a = s.advance t → a.placer.running = some (task, v) →
    exec (.placementComplete t) s = .next (s.closed ((a.completeHeaded task v).reviewMembers))) ∧
  (∀ (s a : State) (t n code detail i : Nat) (r : TakeRec), a = s.advance t →
    a.placer.running = some (.take n, .refused code detail i) → a.taskOver.takeOf n = some r →
    exec (.placementComplete t) s = .next (s.closed ((a.taskOver.refuseTake r (code, detail)).reviewMembers))) ∧
  (∀ (s a : State) (t : Nat), a = s.advance t → a.placer.running = none →
    exec (.placementComplete t) s = .next (s.closed a)) ∧
  (∀ (s a : State) (t slot : Nat), a = s.advance t →
    exec (.timedTakeArm t slot) s = .next (s.closed
      ((a.sw.takes.filter (fun r => r.slot = slot ∧ r.state = 3)).foldl (fun st r => st.pathReady r.num) a))) ∧
  (∀ (a : State) (num inst : Nat) (r : TakeRec), a.takeOf num = some r → r.part = none → r.inst = some inst →
    a.pathReady num = (if a.tbNow (a.beat r.dst).tb + 1000000 < inst
      then (a.modTake num (fun r => { r with state := 3 })).showTake r.slot 3 else a.arm num)) ∧
  (∀ (a : State) (num : Nat) (r : TakeRec) (pl : Placement), a.takeOf num = some r → r.pl = some pl →
    ¬(r.dst.ess = .video ∧ 3072 ≤ r.dst.idx) → (a.arm num).takeOf num =
      some { r with state := 4, switchAt := some (a.switchInstantFor r pl) }) ∧
  (∀ (s a : State) (t : Nat) (d : Dst), a = s.advance t →
    exec (.switchInstant t d) s = .next (s.closed ((a.switchInstant d).reviewDones.reviewMembers))) ∧
  ∀ (a : State) (d : Dst) (src : Nat) (pl : Placement), a.route d = none → pl.src = src →
    (a.changeOver d pl).route d = some ⟨d, pl, [], false, false⟩) ∧
  ((∀ (s a : State) (t head ident meshIn meshOut mbps : Nat) (part : Placement), a = s.advance t → 256 ≤ a.queued →
    exec (.crossChipReserve t head ident part meshIn meshOut mbps) s =
      .next (s.closed (if head = a.chipId then a.partAnswered head ident (C.busy, 0)
        else a.emit (.notice head (.reserved head ident C.busy 0))))) ∧
  (∀ (s a : State) (t head ident meshIn meshOut mbps : Nat) (part : Placement), a = s.advance t → a.queued < 256 → a.standby = false →
    meshIn < 1024 → 1024 ≤ meshOut →
    ∃ u pl, exec (.crossChipReserve t head ident part meshIn meshOut mbps) s = .next (s.closed u) ∧
      .reserve head ident pl ∈ u.placer.queue ∧ pl.lanes = [(meshIn, mbps)] ∧ pl.dst = a.normId part.dst) ∧
  (∀ (s a : State) (t head ident : Nat), a = s.advance t →
    exec (.reserveConfirm t head ident true) s = .next (s.closed ((a.confirmReserve head ident).reviewParts)) ∧
    exec (.reserveConfirm t head ident false) s = .next (s.closed (a.releaseReserve head ident))) ∧
  (∀ (a : State) (head ident : Nat), (a.releaseReserve head ident).reserveOf head ident = none) ∧
  (∀ (s a : State) (t head ident : Nat) (r : Reserve), a = s.advance t → a.reserveOf head ident = some r →
    exec (.reserveTimeout t head ident) s = .next (s.closed
      (if r.confirmed = false ∧ r.since + 10000000 ≤ a.now then a.releaseReserve head ident else a))) ∧
  ∀ (s a : State) (t head ident : Nat), a = s.advance t → a.reserveOf head ident = none →
    exec (.reserveTimeout t head ident) s = .next (s.closed a) ∧ exec (.reserveConfirm t head ident false) s = .next (s.closed a)) ∧
  ((∀ (a : State) (g mbps limit src dst : Nat) (p : List MeshHop), p ∈ a.meshPaths g mbps limit src dst →
    1 ≤ p.length ∧ p.length ≤ limit ∧ (p.head?.map (fun h => h.chip)) = some src ∧ (p.getLast?.map (fun h => h.next)) = some dst ∧
    ∀ h ∈ p, a.hopMatched h.chip h.out h.next h.inn = true ∧ (h.out, h.next, h.inn) ∈ a.linksOf h.chip ∧
      (a.laneLedger h.chip h.out).1 + mbps ≤ (a.laneLedger h.chip h.out).2) ∧
  (∀ (a : State) (g mbps limit src dst : Nat), (a.meshPaths g mbps limit src dst).length ≤ 8) ∧
  (∀ (a : State) (asker dst src mbps limit : Nat),
    (∀ g, a.commonGroup (pairOf (idChip dst)) (pairOf (idChip src)) = some g → a.headOf g ≠ a.chipId) →
    a.coordinate asker dst src mbps limit = a.refuseRoute asker dst (C.busy, 12)) ∧
  (∀ (a : State) (chip ident detail : Nat) (r : HeadRoute) (parts : List RoutePart) (rest : List (List RoutePart)) (p : RoutePart),
    a.headRoute ident = some r → r.cands = parts :: rest → parts[r.got]? = some p → p.chip = chip → r.got + 1 < parts.length →
    ∃ q, parts[r.got + 1]? = some q ∧ a.partAnswered chip ident (0, detail) = (a.putHeadRoute { r with got := r.got + 1 }).emit
      (.notice q.chip (.routeReserve a.chipId r.ident r.dst r.src q.inn q.out r.mbps (parts.length - 1)))) ∧
  (∀ (a : State) (chip ident detail : Nat) (r : HeadRoute) (parts : List RoutePart) (rest : List (List RoutePart)) (p : RoutePart),
    a.headRoute ident = some r → r.cands = parts :: rest → parts[r.got]? = some p → p.chip = chip → r.got + 1 = parts.length →
    a.partAnswered chip ident (0, detail) =
      { a.dropHeadRoute ident with out := a.out ++ parts.map (fun q => .notice q.chip (.routeConfirm a.chipId ident true)) }) ∧
  (∀ (a : State) (chip ident code detail : Nat) (r : HeadRoute) (parts : List RoutePart) (p : RoutePart),
    a.headRoute ident = some r → r.ident = ident → r.cands = [parts] → parts[r.got]? = some p → p.chip = chip → code ≠ 0 →
    r.asker ≠ a.chipId → a.partAnswered chip ident (code, detail) =
      { a.dropHeadRoute ident with out := a.out ++ (parts.take r.got).map (fun q => .notice q.chip (.routeConfirm a.chipId ident false)) ++
        [.notice r.asker (.routeResult r.dst code detail)] }) ∧
  (∀ (a : State) (task : Task), (∀ r ∈ (a.startTask task).startedTakes, (a.startTask task).idHere r.src = true) →
    a.startHeaded task = a.startTask task) ∧
  ∀ (a : State) (task : Task) (v : Verdict), (∀ ident pl, task ≠ .reserve (a.completeTask task v).chipId ident pl) →
    a.completeHeaded task v = a.completeTask task v)

/-- What the events of salvos do at the coordinator and at a member (R139, R141 to R144, R147, R148). -/
def Obligations.SalvoEventsComplete : Prop :=
  (∀ (s a : State) (t coord slot gen : Nat) (es : List (TakeEntry × Nat)), a = s.advance t →
    a.standby = true ∨ (a.part coord slot).isSome = true →
    exec (.salvoPartArrival t coord slot gen es) s = .next (s.closed a)) ∧
  (∀ (s a : State) (t coord slot gen : Nat) (es : List (TakeEntry × Nat)), a = s.advance t → a.standby = false →
    a.part coord slot = none → (∀ e ∈ es, a.salvoHeld ⟨essOf (idEss e.1.dst), idIdx e.1.dst⟩ = false) →
    exec (.salvoPartArrival t coord slot gen es) s = .next (s.closed
      (if a.partFits es.length then a.makePart coord slot gen es else a.reportPart coord slot C.busy 0))) ∧
  (∀ (s a : State) (t slot pair code index : Nat), a = s.advance t →
    exec (.salvoPartReport t slot pair code index) s = .next (s.closed (a.partReported slot pair code index))) ∧
  (∀ (a : State) (k pair index : Nat) (x : Salvo), a.salvo k = some x → (pair, 0) ∈ x.parts →
    (∀ p ∈ x.parts, p.1 ≠ pair → p.2 ≠ 0) → (a.partReported k pair 0 index).nat (O.salvo_state k) = 3) ∧
  (∀ (s a : State) (t slot : Nat) (x : Salvo), a = s.advance t → a.salvo slot = some x →
    x.onCommand = true ∨ a.tbNow x.tb < x.p → exec (.pourInstant t slot) s = .next (s.closed a)) ∧
  (∀ (s a : State) (t slot : Nat) (x : Salvo), a = s.advance t → a.salvo slot = some x → x.onCommand = false →
    x.p ≤ a.tbNow x.tb → x.decided = none → a.nat (O.salvo_state slot) ≠ 4 →
    exec (.pourInstant t slot) s = .next (s.closed
      (if x.parts.all (fun p => p.2 ≠ 0) then a.pourSalvo slot else a.dropSalvo slot 3 []))) ∧
  (∀ (a : State) (k cause : Nat) (x : Salvo) (res : List (Nat × Nat)), a.salvo k = some x → (∀ p ∈ x.parts, p.1 = a.pairId) →
    a.part a.chipId k = none → cause ≠ 3 → a.mirroring = false →
    (a.dropSalvo k cause res).nat (O.salvo_state k) = 1 ∧ (a.dropSalvo k cause res).nat (O.salvo_drop_cause k) = cause ∧
    (a.dropSalvo k cause res).salvo k = none) ∧
  (∀ (s a : State) (t slot : Nat) (x : Salvo), a = s.advance t → a.salvo slot = some x →
    exec (.pourDecisionAck t slot) s = .next (s.closed (if x.decided.isSome then a.finishPour slot true else a))) ∧
  (∀ (s a : State) (t slot at' : Nat) (x : Salvo), a = s.advance t → a.salvo slot = some x → x.decided = some at' →
    exec (.pourAckTimeout t slot) s = .next (s.closed (if at' + 5000 ≤ a.now then a.finishPour slot false else a))) ∧
  (∀ (s a : State) (t slot : Nat) (x : Salvo), a = s.advance t → a.salvo slot = some x → x.decided = none →
    exec (.pourAckTimeout t slot) s = .next (s.closed a)) ∧
  (∀ (s a : State) (t slot : Nat), a = s.advance t → a.salvo slot = none →
    exec (.pourInstant t slot) s = .next (s.closed a) ∧ exec (.pourDecisionAck t slot) s = .next (s.closed a) ∧
    exec (.pourAckTimeout t slot) s = .next (s.closed a)) ∧
  (∀ (s a : State) (t coord slot e tb : Nat), a = s.advance t →
    exec (.pourNotice t coord slot e tb) s = .next (s.closed ((a.pourPart coord slot e tb).reviewDones))) ∧
  (∀ (s a : State) (t slot pair : Nat) (res : List (Nat × Nat)), a = s.advance t →
    exec (.salvoPartDone t slot pair res) s = .next (s.closed
      (if a.nat (O.salvo_state slot) = 4 then a.partDone slot pair res else a))) ∧
  (∀ (a : State) (k pair : Nat) (x : Salvo), a.salvo k = some x → x.parts = [(pair, 1)] →
    (a.partDone k pair []).nat (O.salvo_state k) = 5 ∧ (a.partDone k pair []).salvo k = none) ∧
  (∀ (s a : State) (t coord slot : Nat) (p : Part), a = s.advance t → a.part coord slot = some p → p.state = 2 →
    exec (.salvoDropNotice t coord slot) s = .next (s.closed a)) ∧
  (∀ (s a : State) (t coord slot : Nat) (p : Part), a = s.advance t → a.part coord slot = some p → p.state ≠ 2 →
    exec (.salvoDropNotice t coord slot) s = .next (s.closed (a.dropPart coord slot)) ∧ (a.dropPart coord slot).part coord slot = none) ∧
  (∀ (s a : State) (t coord slot : Nat) (p : Part), a = s.advance t → a.part coord slot = some p → p.state = 1 → coord % 2 = 0 →
    exec (.salvoMemberQuery t coord slot) s = .next (s.closed
      ((a.emit (.notice coord (.query coord slot))).emit (.notice (coord + 1) (.query coord slot))))) ∧
  (∀ (s a : State) (t coord slot : Nat) (p : Part), a = s.advance t → a.part coord slot = some p → p.state = 1 →
    exec (.salvoOrphan t coord slot) s = .next (s.closed
      (((a.dropPart coord slot).strike F.salvoOrphan coord slot).emit (.notice coord (.partDone coord slot
        ((List.range p.entries.length).map (fun i => (i, 327680)))))))) ∧
  (∀ (s a : State) (t coord slot : Nat), a = s.advance t → a.part coord slot = none →
    exec (.salvoDropNotice t coord slot) s = .next (s.closed a) ∧ exec (.salvoMemberQuery t coord slot) s = .next (s.closed a) ∧
    exec (.salvoOrphan t coord slot) s = .next (s.closed a)) ∧
  ∀ (s a : State) (t slot until' : Nat), a = s.advance t → a.salvos.kept = [(slot, until')] →
    exec (.salvoRetentionExpiry t slot) s = .next (s.closed (if until' ≤ a.now then a.forgetSalvo slot else a)) ∧
    (a.forgetSalvo slot).salvos.kept = []

/-- The procedure by which a frame store selects the frame that it gives at a read instant (R184), with `frames` the frames
held, each with the instant at which its write began, and `last` the frame read last. With c the newest frame that is old
enough: the last one is repeated where there is no c or c is not newer; the next one is read; a gap of one is held off while
c is within the hysteresis; and a longer gap, or an older c, is taken. -/
def Obligations.FrameSelectionFollowsTheProcedure : Prop :=
  ∀ (frames : List (Nat × Nat)) (r guard hyst last : Nat), last ≠ 0 → (∀ f ∈ frames, f.1 < 4294967296) →
    (∀ f ∈ frames, ∀ g ∈ frames, f.1 = g.1 → f = g) →
    ((∀ f ∈ frames, r < f.2 + guard) → chooseFrame frames r guard hyst last = some last) ∧
    ∀ c ∈ frames, c.2 + guard ≤ r → (∀ f ∈ frames, f.2 + guard ≤ r → f.1 ≤ c.1) →
      (c.1 ≤ last → chooseFrame frames r guard hyst last = some last) ∧
      (c.1 = last + 1 → chooseFrame frames r guard hyst last = some (last + 1)) ∧
      (c.1 = last + 2 → r < c.2 + guard + hyst → chooseFrame frames r guard hyst last = some (last + 1)) ∧
      (c.1 = last + 2 → c.2 + guard + hyst ≤ r → chooseFrame frames r guard hyst last = some c.1) ∧
      (last + 2 < c.1 → chooseFrame frames r guard hyst last = some c.1)

/-- What the events of sources and of lines do (R83, R106, R107, R187, R450): a frame of a source that runs is taken; a
source that has delivered nothing for two frame periods is absent, its record is dropped and its stores write nothing; a line
that misses its instant is filled and counted; an output in safe state sends its safe content, and one without a route its
unrouted content; timecode is generated on its lines; a store whose source is absent gives black or its last frame. -/
def Obligations.SourceEventsComplete : Prop :=
  (∀ (s a : State) (t x skew : Nat), a = s.advance t → x < 4096 → a.fusedOff ⟨0x3000, x, 0⟩ = false → a.vsrcRuns x = true →
    exec (.sourceFrameStart t x skew) s = .next (s.closed (a.frameStart x skew))) ∧
  (∀ (s a : State) (t x skew : Nat), a = s.advance t → 4096 ≤ x ∨ a.fusedOff ⟨0x3000, x, 0⟩ = true ∨ a.vsrcRuns x = false →
    exec (.sourceFrameStart t x skew) s = .next (s.closed a)) ∧
  (∀ (s a : State) (t x : Nat) (r : SrcTiming), a = s.advance t → a.srcTiming x = some r →
    a.now < r.last + 2 * framePeriod (a.vsrcFormat x) → exec (.sourceAbsent t x) s = .next (s.closed a)) ∧
  (∀ (s a : State) (t x : Nat) (r : SrcTiming), a = s.advance t → a.srcTiming x = some r →
    r.last + 2 * framePeriod (a.vsrcFormat x) ≤ a.now →
    ∃ u, exec (.sourceAbsent t x) s = .next (s.closed u) ∧ u.nat (O.src_timing_state x) = 0 ∧ u.srcTiming x = none ∧
      ∀ y ∈ u.sw.stores, y.src = a.srcId 0 x → y.writing = none) ∧
  (∀ (s a : State) (t x : Nat), a = s.advance t → a.srcTiming x = none → exec (.sourceAbsent t x) s = .next (s.closed a)) ∧
  (∀ (s a : State) (t d line : Nat) (onTime : Bool), a = s.advance t → line ≠ 1 → a.route ⟨.video, d⟩ = none ∨ a.safe = true →
    1024 ≤ d → exec (.linePlayout t d line onTime) s = .next (s.closed a)) ∧
  (∀ (s a : State) (t d line : Nat) (onTime : Bool), a = s.advance t → line ≠ 1 → d < 1024 → a.ready = true →
    a.laneExists d = true → a.isSdi d = true →
    (a.safe = true → exec (.linePlayout t d line onTime) s = .next (s.closed (a.emit (.line d line
      (if a.nat (O.dst_safe_content d) = 1 then ⟨.nothing, 0, false, .none, 0⟩
        else ⟨.black, a.ownPayloadId d line, false, .none, a.sentGroups d⟩))))) ∧
    (a.safe = false → a.route ⟨.video, d⟩ = none →
      exec (.linePlayout t d line onTime) s = .next (s.closed (a.emit (.line d line
        (if a.nat (O.sdi_unrouted_content d) = 1 then ⟨.nothing, 0, false, .none, 0⟩
          else ⟨.black, a.ownPayloadId d line, a.edhOn d line, .none, a.sentGroups d⟩)))))) ∧
  (∀ (s a : State) (t d line : Nat) (r : Route), a = s.advance t → line ≠ 1 → a.route ⟨.video, d⟩ = some r → a.safe = false →
    exec (.linePlayout t d line false) s = .next (s.closed (a.fillLine d line))) ∧
  (∀ (s a : State) (t d line : Nat) (r : Route), a = s.advance t → line ≠ 1 → a.route ⟨.video, d⟩ = some r → a.safe = false →
    a.broken r.pl = false → a.outputResets d r.pl = false → a.formatClash d r.pl = false →
    a.realigning (a.nat (O.dst_time_base d)) (a.nat (O.dst_format d)) (a.int (O.dst_timing_offset d)) = false →
    Machine.bit (a.mark d) 0 = true →
    exec (.linePlayout t d line true) s = .next (s.closed (a.emit (.line d line (a.dataLine d line r.pl))))) ∧
  (∀ (a : State) (d line : Nat) (pl : Placement), d < 1024 → a.natNow (O.dst_format d) ≠ 0 → a.natNow (O.sdi_tc_mode d) = 1 →
    line ∈ (insertLines (a.natNow (O.dst_format d))).2.2 → (a.dataLine d line pl).code =
      .generated (a.codeFrames d) (pulled (a.natNow (O.dst_format d)) && a.natNow (O.sdi_tc_drop d) == 1)) ∧
  ∀ (a : State) (d line : Nat) (pl : Placement), pl.store ≠ none → a.sourceSilent pl = true →
    (a.dataLine d line pl).content = if a.nat O.fsync_loss_action = 1 then .black else .data

/-- What the events of frame stores do (R108, R111, R183, R184): a store with a complete frame is primed, and the takes that
waited for it alone go on; the deeper store that is to replace one takes over once it holds frames; a read instant reads from
the store of the route. What the events of words read from the fabric and from a stack, of scrubs and of refresh do (R98,
R195, R196, R198): a good word changes nothing, a corrected one is counted and reported, an uncorrectable one of a cell
strikes and fills; a scrub begins anew; above 85 °C the stack refreshes at twice the rate. -/
def Obligations.StoreEventsComplete : Prop :=
  ((∀ (s a : State) (t i : Nat) (x : StoreRec), a = s.advance t → a.storeOf i = some x → x.state ≠ 1 ∨ x.frames = [] →
    exec (.storePrimed t i) s = .next (s.closed a)) ∧
  (∀ (s a : State) (t i : Nat) (x : StoreRec), a = s.advance t → a.storeOf i = some x → x.state = 1 → x.frames ≠ [] →
    a.sw.takes = [] → (∀ r ∈ a.sw.routes, r.pl.path ≠ 4) →
    exec (.storePrimed t i) s = .next (s.closed (a.modStore i (fun x => { x with state := 2 }))) ∧
    (a.modStore i (fun x => { x with state := 2 })).storeReady i = true) ∧
  (∀ (s a : State) (t i : Nat) (x : StoreRec) (r : TakeRec), a = s.advance t → a.storeOf i = some x → x.state = 1 → x.frames ≠ [] →
    a.sw.takes = [r] → r.state = 2 → r.pl.bind (fun p => p.store) = some i → a.sw.routes = [] →
    exec (.storePrimed t i) s = .next (s.closed ((a.modStore i (fun x => { x with state := 2 })).pathReady r.num))) ∧
  (∀ (s a : State) (t d : Nat), a = s.advance t →
    exec (.storeReadInstant t d) s = .next (s.closed (a.readInstant d))) ∧
  (∀ (a : State) (d i : Nat) (r : Route) (x : StoreRec), a.route ⟨.video, d⟩ = some r → r.pl.store = some i → a.storeOf i = some x →
    r.pl.path = 2 → x.state ≠ 1 → a.readInstant d = a.readStore d r x) ∧
  (∀ (a : State) (d i : Nat) (r : Route) (x : StoreRec), a.route ⟨.video, d⟩ = some r → r.pl.store = some i → a.storeOf i = some x →
    x.state = 1 → a.readInstant d = a) ∧
  (∀ (s a : State) (t i j : Nat) (x y : StoreRec), a = s.advance t → a.storeOf i = some x → x.deeper = some j → a.storeOf j = some y →
    y.frames ≠ [] → y.state ≠ 1 →
    exec (.storeDeepenReady t i) s = .next (s.closed ((a.readers i).foldl (fun st d => st.askReplace d) a))) ∧
  (∀ (s a : State) (t i : Nat) (x : StoreRec), a = s.advance t → a.storeOf i = some x → x.deeper = none →
    exec (.storeDeepenReady t i) s = .next (s.closed a)) ∧
  ∀ (s a : State) (t i : Nat), a = s.advance t → a.storeOf i = none →
    exec (.storePrimed t i) s = .next (s.closed a) ∧ exec (.storeDeepenReady t i) s = .next (s.closed a)) ∧
  ((∀ (s a : State) (t plane inTile outTile word d : Nat), a = s.advance t → a.faults.inject = none → decodeWord word = .good →
    exec (.fabricCellError t plane inTile outTile word false d) s = .next (s.closed a)) ∧
  (∀ (s a : State) (t plane inTile outTile word d j : Nat), a = s.advance t → a.faults.inject = none → decodeWord word = .corrected j →
    exec (.fabricCellError t plane inTile outTile word false d) s = .next (s.closed (a.strike (F.fabricCorrected outTile) plane d))) ∧
  (∀ (s a : State) (t plane inTile outTile word d : Nat) (kind3 : Bool), a = s.advance t → a.faults.inject = none →
    kind3 = true ∨ decodeWord word = .uncorrectable → d < 3072 →
    exec (.fabricCellError t plane inTile outTile word kind3 d) s =
      .next (s.closed (((a.strike (F.fabricDiscard outTile) plane d).noteDiscard plane).fillLine d 0))) ∧
  (∀ (s a : State) (t k addr word use d : Nat), a = s.advance t → k < 4 → a.faults.inject = none → decodeWord word = .good →
    exec (.hbmWordError t k addr word use d) s = .next (s.closed a)) ∧
  (∀ (s a : State) (t k addr word use d j : Nat), a = s.advance t → k < 4 → a.faults.inject = none → decodeWord word = .corrected j →
    exec (.hbmWordError t k addr word use d) s =
      .next (s.closed ((a.count (O.hbm_corrected k)).strike F.hbmCorrected k addr))) ∧
  (∀ (s a : State) (t k addr word use d : Nat), a = s.advance t → 4 ≤ k →
    exec (.hbmWordError t k addr word use d) s = .next (s.closed a)) ∧
  (∀ (s a : State) (t k : Nat), a = s.advance t → k < 4 →
    exec (.hbmScrubPeriod t k) s = .next (s.closed (a.setN (O.hbm_scrub_progress k) 0))) ∧
  (∀ (s a : State) (t k : Nat) (temp : Int), a = s.advance t → k < 4 → ∃ u, exec (.refreshModeChange t k temp) s = .next (s.closed u) ∧
    u.int (O.hbm_temperature k) = temp ∧ u.nat (O.hbm_refresh_mode k) = (if 85 < temp then 1 else 0) ∧
    ∀ key, key ≠ O.hbm_temperature k → key ≠ O.hbm_refresh_mode k → u.get key = a.get key) ∧
  ∀ (s a : State) (t k : Nat) (temp : Int), a = s.advance t → 4 ≤ k →
    exec (.hbmScrubPeriod t k) s = .next (s.closed a) ∧ exec (.refreshModeChange t k temp) s = .next (s.closed a))

/-- What the events of SDI inputs and of ancillary packets do (R203, R204, R206, R210 to R212, R217): a lock at a rate that
the input searches is taken; a format is detected only on an input that has locked, and without a payload ID it is the
expected code where that is one of the raster's two; a loss of signal clears what was read; a failed check is counted; a
packet meets the filters of its port, and one of a slot is placed or overflows. -/
def Obligations.SdiEventsComplete : Prop :=
  (∀ (s a : State) (t p rate : Nat), a = s.advance t → a.sdiPort p = true → rate ∈ a.searched p → a.nat (O.sdi_rx_state p) = 0 →
    exec (.sdiLaneLocked t p rate) s = .next (s.closed
      (({ (a.setN (O.sdi_rx_state p) 1) with sdi := { a.sdi with rate := kput a.sdi.rate p rate } } : State).laneLocked p))) ∧
  (∀ (s a : State) (t p rate : Nat), a = s.advance t → a.sdiPort p = false ∨ rate ∉ a.searched p →
    exec (.sdiLaneLocked t p rate) s = .next (s.closed a)) ∧
  (∀ (a : State) (l : Nat), (a.laneLocked l).nat (O.lane_rx_lock l) = 1 ∧
    (a.nat (O.eq_eq_mode l) = 0 → (a.laneLocked l).nat (O.eq_adapt_state l) = 2) ∧
    (a.nat (O.eq_eq_mode l) = 1 → (a.laneLocked l).nat (O.eq_adapt_state l) = 4)) ∧
  (∀ (s a : State) (t p : Nat) (det : SdiDetect), a = s.advance t → a.sdiPort p = true → a.nat (O.sdi_rx_state p) ≠ 0 →
    exec (.sdiFormatDetected t p det) s = .next (s.closed (a.detected p det))) ∧
  (∀ (s a : State) (t p : Nat) (det : SdiDetect), a = s.advance t → a.sdiPort p = false ∨ a.nat (O.sdi_rx_state p) = 0 →
    exec (.sdiFormatDetected t p det) s = .next (s.closed a)) ∧
  (∀ (a : State) (p : Nat) (det : SdiDetect), det.pid = none →
    a.detectFormat p det = (if a.nat (O.src_format_expected p) ≠ 0 ∧
      (a.nat (O.src_format_expected p) = det.format ∨ a.nat (O.src_format_expected p) = det.psf)
      then a.nat (O.src_format_expected p) else det.format)) ∧
  (∀ (s a : State) (t p : Nat), a = s.advance t → a.sdiPort p = true →
    exec (.sdiLossOfSignal t p) s = .next (s.closed (a.sdiLost p))) ∧
  (∀ (a : State) (p : Nat), (a.sdiClear p).nat (O.sdi_rx_mode p) = 0 ∧ (a.sdiClear p).nat (O.sdi_rx_state p) = 0 ∧
    (a.sdiClear p).nat (O.sdi_rx_payload_id p) = 0 ∧ (a.sdiClear p).nat (O.sdi_audio_present p) = 0 ∧
    (a.sdiClear p).nat (O.src_format_detected p) = 0) ∧
  (∀ (s a : State) (t p kind : Nat), a = s.advance t → a.sdiPort p = true → kind = 1 ∨ kind = 2 → a.nat (O.sdi_rx_mode p) ≠ 1 →
    exec (.sdiCheckError t p kind) s = .next (s.closed a)) ∧
  (∀ (s a : State) (t p at' : Nat), a = s.advance t → a.sdiPort p = true → kfind a.sdi.errAt p = some at' →
    at' / 1000000000 = a.now / 1000000000 → ∃ u, exec (.sdiCheckError t p 0) s = .next (s.closed u) ∧
      (a.nat (O.sdi_crc_errors p) + 1 < 4294967296 → u.nat (O.sdi_crc_errors p) = a.nat (O.sdi_crc_errors p) + 1) ∧
      u.nat (O.sdi_errored_seconds p) = a.nat (O.sdi_errored_seconds p)) ∧
  (∀ (s a : State) (t p kind : Nat), a = s.advance t → a.sdiPort p = false →
    exec (.sdiCheckError t p kind) s = .next (s.closed a) ∧ exec (.sdiLossOfSignal t p) s = .next (s.closed a)) ∧
  (∀ (s a : State) (t p : Nat) (pkt : AncPacket), a = s.advance t → a.sdiPort p = true → isTimecode pkt = false →
    exec (.ancPacketExtract t p pkt) s = .next (s.closed (if heldBack pkt then a
      else ((a.portFilters p).filter (fun i => a.filterMatches i pkt)).foldl (fun st i =>
        st.count (if pkt.checksumOk then O.ancx_packets i else O.ancx_checksum_errors i)) a))) ∧
  (∀ (s a : State) (t j k w : Nat) (pkt : AncPacket) (room : List Nat), a = s.advance t → j < 2048 → (a.route ⟨.anc, j⟩).isSome = true →
    a.safe = false → (room.take (a.natNow (O.anci_line_span (2048 + j))))[k]? = some w → pkt.size ≤ w →
    (∀ v ∈ room.take k, v < pkt.size) →
    exec (.ancPacketInsert t j pkt room) s = .next (s.closed ((a.count (O.anci_packets (2048 + j))).emit
      (.ancillary (a.nat (O.anci_port (2048 + j))) j
        ((if a.natNow (O.anci_line (2048 + j)) = 0 then pkt.line else a.natNow (O.anci_line (2048 + j))) + k)
        (a.natNow (O.anci_space (2048 + j))) (a.natNow (O.anci_stream (2048 + j))) (a.natNow (O.anci_link (2048 + j))))))) ∧
  (∀ (s a : State) (t j : Nat) (pkt : AncPacket) (room : List Nat), a = s.advance t → j < 2048 → (a.route ⟨.anc, j⟩).isSome = true →
    a.safe = false → (∀ w ∈ room.take (a.natNow (O.anci_line_span (2048 + j))), w < pkt.size) →
    exec (.ancPacketInsert t j pkt room) s = .next (s.closed ((({ a with
      sdi := { a.sdi with ovfAt := kput a.sdi.ovfAt (a.nat (O.anci_port (2048 + j))) a.now } } : State).count
        (O.anci_overflows (2048 + j))).strike (F.ancOverflow (a.nat (O.anci_port (2048 + j)) / 64)) j pkt.size))) ∧
  ∀ (s a : State) (t j : Nat) (pkt : AncPacket) (room : List Nat), a = s.advance t →
    2048 ≤ j ∨ a.route ⟨.anc, j⟩ = none ∨ a.safe = true → exec (.ancPacketInsert t j pkt room) s = .next (s.closed a)

/-- What the events of composition do (R262, R267, R270, R271, R273, R276, R278): a head reads its layers, and a monitor head
is not composed; a scaler that writes completes a frame; at a flip point what is due flips; a group that steeps past its
deadline drops its commit; a redraw that finishes commits in auto mode; the twin's acknowledgement, or its absence for two
frames, ends a layer's wait. -/
def Obligations.CompositionEventsComplete : Prop :=
  (∀ (s a : State) (t h : Nat), a = s.advance t → h < 64 →
    exec (.headReadInstant t h) s = .next (s.closed (a.headRead h)) ∧ exec (.flipPoint t h) s = .next (s.closed (a.flipPoint h))) ∧
  (∀ (s a : State) (t h : Nat), a = s.advance t → 64 ≤ h →
    exec (.headReadInstant t h) s = .next (s.closed a) ∧ exec (.flipPoint t h) s = .next (s.closed a)) ∧
  (∀ (a : State) (h : Nat), a.nat (O.head_class h) = 0 → a.headRead h = a) ∧
  (∀ (a : State) (h : Nat), a.nat (O.head_class h) = 1 →
    a.realigning (a.vsrcOffset (3072 + h)).2 (a.nat (O.head_format h)) (a.vsrcOffset (3072 + h)).1 = false → a.stackNow h = [] →
    a.headRead h = (a.count (O.head_frames h)).emit (.composed h (a.natNow (O.head_background h)) [])) ∧
  (∀ (s a : State) (t n : Nat), a = s.advance t → (a.scalerRec n).writing = true →
    exec (.scalerFrameWrite t n) s = .next (s.closed ((a.putScaler { a.scalerRec n with
      writing := false, newest := (a.scalerRec n).newest + 1 }).count (O.scaler_frames_written n)))) ∧
  (∀ (s a : State) (t n : Nat), a = s.advance t → (a.scalerRec n).writing = false →
    exec (.scalerFrameWrite t n) s = .next (s.closed a)) ∧
  (∀ (s a : State) (t g : Nat), a = s.advance t → a.groupPending (2048 + g) = none →
    exec (.commitTimeout t g) s = .next (s.closed a)) ∧
  (∀ (s a : State) (t g h : Nat) (c : GroupCommit), a = s.advance t → a.groupPending (2048 + g) = some c →
    (c.members.head?).bind (fun m => a.flipHead m.1) = some h →
    a.tbNow (a.nat (O.head_time_base h)) < a.groupDeadline c h →
    exec (.commitTimeout t g) s = .next (s.closed a)) ∧
  (∀ (s a : State) (t g h : Nat) (c : GroupCommit), a = s.advance t → a.groupPending (2048 + g) = some c →
    (c.members.head?).bind (fun m => a.flipHead m.1) = some h → a.groupDeadline c h ≤ a.tbNow (a.nat (O.head_time_base h)) →
    (∃ m ∈ c.members, a.steeps m.1 m.2.1 m.2.2 = true) →
    exec (.commitTimeout t g) s = .next (s.closed ((({ a with comp := { a.comp with
      groups := a.comp.groups.filter (fun x => x.group ≠ 2048 + g) } } : State).count (O.cgroup_drops (2048 + g))).strike
        (F.commitDropped (g / 16)) (2048 + g) c.members.length))) ∧
  (∀ (s a : State) (t l : Nat), a = s.advance t → l < 2048 → a.nat (O.layer_content l) = 3 →
    exec (.rendererRedraw t l true) s = .next (s.closed (a.autoCommit l)) ∧ exec (.rendererRedraw t l false) s = .next (s.closed a)) ∧
  (∀ (s a : State) (t l : Nat) (finished : Bool), a = s.advance t → 2048 ≤ l ∨ a.nat (O.layer_content l) ≠ 3 →
    exec (.rendererRedraw t l finished) s = .next (s.closed a)) ∧
  (∀ (s a : State) (t l : Nat), a = s.advance t → ∃ u, exec (.mirrorImageAck t l) s = .next (s.closed u) ∧ u.awaitsTwin l = false ∧
    u.objs = a.objs ∧ u.comp.commits = a.comp.commits ∧ u.comp.images = a.comp.images) ∧
  (∀ (s a : State) (t l h since : Nat) (e : Nat × Nat × Nat), a = s.advance t → e = (l, e.2.1, since) →
    a.comp.waits = [e] → a.flipHead l = some h →
    a.mirroring = true → a.now < since + 2 * framePeriod (a.nat (O.head_format h)) →
    exec (.mirrorFlipAlone t l) s = .next (s.closed a)) ∧
  (∀ (s a : State) (t l h since : Nat) (e : Nat × Nat × Nat), a = s.advance t → e = (l, e.2.1, since) →
    a.comp.waits = [e] → a.flipHead l = some h →
    a.mirroring = false ∨ since + 2 * framePeriod (a.nat (O.head_format h)) ≤ a.now →
    exec (.mirrorFlipAlone t l) s = .next (s.closed (({ a with comp := { a.comp with waits := [] } } : State).strike
      (F.mirrorFlipAlone (l / 128)) l 0))) ∧
  ∀ (s a : State) (t l : Nat), a = s.advance t → a.awaitsTwin l = false →
    exec (.mirrorFlipAlone t l) s = .next (s.closed a)

/-- What the events of audio paths and of ASRC channels do (R287, R288, R302): a path whose clocks are unrelated is placed
again with a channel or runs short of one, one whose clocks have come together loses its channel, a slip is counted and
reported; a channel that relocks acquires again, and follows a ratio within the range of Table 11.7. What the events of AES3
inputs and of loudness do (R285, R303, R305): an input that locks reports its rate, and one that loses its signal reports
none and latches AES_LOS; a complete block is kept, and one whose CRCC is wrong leaves the non-PCM flag; an enabled
measurement is brought up to date. -/
def Obligations.AudioEventsComplete : Prop :=
  ((∀ (s a : State) (t d : Nat), a = s.advance t → a.route ⟨.audio, d⟩ = none →
    exec (.audioClassChange t d) s = .next (s.closed a) ∧ exec (.audioSlip t d) s = .next (s.closed a)) ∧
  (∀ (s a : State) (t d : Nat) (r : Route), a = s.advance t → a.route ⟨.audio, d⟩ = some r → r.follows = true →
    exec (.audioClassChange t d) s = .next (s.closed a)) ∧
  (∀ (s a : State) (t d : Nat) (r : Route), a = s.advance t → a.route ⟨.audio, d⟩ = some r → r.follows = false →
    a.idHere r.pl.src = true → r.pl.asrc ≠ [] → a.clocksRelated (idIdx r.pl.src) d = true →
    exec (.audioClassChange t d) s = .next (s.closed (a.startRepl r.dst { r.pl with asrc := [] }))) ∧
  (∀ (s a : State) (t d : Nat) (r : Route), a = s.advance t → a.route ⟨.audio, d⟩ = some r → r.follows = false →
    a.idHere r.pl.src = true → r.pl.asrc = [] → a.asrcNeeded (idIdx r.pl.src) d = true →
    (∀ q ∈ a.sw.takes, q.repl = false) → a.freeAsrc true [a.dstId r.dst] [] (a.adstTile r.dst.idx) = none →
    exec (.audioClassChange t d) s = .next (s.closed (a.follow (F.asrcShort (a.adstTile d)) (a.dstId r.dst) 0 true))) ∧
  (∀ (s a : State) (t d : Nat) (r : Route), a = s.advance t → a.route ⟨.audio, d⟩ = some r → r.pl.asrc = [] →
    a.idHere r.pl.src = true → a.clocksRelated (idIdx r.pl.src) d = false →
    exec (.audioSlip t d) s = .next (s.closed
      (({ (a.count (O.adest_slips d)) with audio := { a.audio with slipAt := kput a.audio.slipAt d a.now } } : State).strike
        (F.audioSlip (a.adstTile d)) (a.dstId r.dst) 0))) ∧
  (∀ (s a : State) (t d : Nat) (r : Route), a = s.advance t → a.route ⟨.audio, d⟩ = some r →
    r.pl.asrc ≠ [] ∨ a.idHere r.pl.src = false ∨ a.clocksRelated (idIdx r.pl.src) d = true →
    exec (.audioSlip t d) s = .next (s.closed a)) ∧
  (∀ (s a : State) (t ch : Nat) (x : AsrcBook), a = s.advance t → x ∈ a.placer.asrc → x.ch = ch →
    exec (.asrcRelock t ch) s = .next (s.closed ((a.setN (O.asrc_state (1 + ch)) 1).count (O.asrc_relocks (1 + ch))))) ∧
  (∀ (s a : State) (t ch : Nat), a = s.advance t → (∀ x ∈ a.placer.asrc, x.ch ≠ ch) →
    exec (.asrcRelock t ch) s = .next (s.closed a)) ∧
  (∀ (s a : State) (t ch : Nat) (ratio : Int), a = s.advance t → a.nat (O.asrc_state (1 + ch)) = 1 →
    45 * 4294967296 ≤ 100 * ratio → 100 * ratio ≤ 225 * 4294967296 → ∃ u, exec (.asrcAcquired t ch ratio) s = .next (s.closed u) ∧
      u.nat (O.asrc_state (1 + ch)) = 2 ∧ u.int (O.asrc_ratio (1 + ch)) = ratio ∧
      ∀ k, k ≠ O.asrc_state (1 + ch) → k ≠ O.asrc_ratio (1 + ch) → u.get k = a.get k) ∧
  ∀ (s a : State) (t ch : Nat) (ratio : Int), a = s.advance t →
    a.nat (O.asrc_state (1 + ch)) ≠ 1 ∨ 100 * ratio < 45 * 4294967296 ∨ 225 * 4294967296 < 100 * ratio →
    exec (.asrcAcquired t ch ratio) s = .next (s.closed a)) ∧
  ((∀ (s a : State) (t n rate mhz : Nat), a = s.advance t → 16 ≤ n ∨ rate = 0 ∨ 4 < rate →
    exec (.aesLock t n rate mhz) s = .next (s.closed a)) ∧
  (∀ (s a : State) (t n rate mhz : Nat), a = s.advance t → n < 16 → 1 ≤ rate → rate ≤ 4 →
    (∀ i, i < 16 → i ≠ n → a.nat (O.aes_rx_state i) ≠ 0 ∨ a.nat (O.aes_measured_rate i) = 0) →
    exec (.aesLock t n rate mhz) s = .next (s.closed
      ((((a.setN (O.aes_rx_state n) 1).setN (O.aes_rx_rate n) rate).setN (O.aes_measured_rate n) mhz).followShared F.aesLos n 0 false false))) ∧
  (∀ (s a : State) (t n : Nat), a = s.advance t → 16 ≤ n ∨ a.nat (O.aes_rx_state n) = 0 →
    exec (.aesLos t n) s = .next (s.closed a)) ∧
  (∀ (s a : State) (t n : Nat), a = s.advance t → n < 16 → a.nat (O.aes_rx_state n) ≠ 0 →
    exec (.aesLos t n) s = .next (s.closed (((a.setN (O.aes_rx_state n) 0).setN (O.aes_rx_rate n) 0).latch F.aesLos n 0))) ∧
  (∀ (s a : State) (t src bp pa : Nat) (block : Bytes) (ok : Bool), a = s.advance t → block.length ≠ 24 ∨ 63520 ≤ src →
    exec (.aesBlockComplete t src block ok bp pa) s = .next (s.closed a)) ∧
  (∀ (s a : State) (t src bp pa : Nat) (block : Bytes), a = s.advance t → block.length = 24 → 63488 ≤ src → src < 63520 →
    Machine.bit (block.headD 0).toNat 0 = true →
    exec (.aesBlockComplete t src block false bp pa) s = .next (s.closed
      ((((a.setB (O.asource_channel_status src) block).count (O.aes_biphase_errors ((src - 63488) / 2)) bp).count
        (O.aes_parity_errors ((src - 63488) / 2)) pa).count (O.aes_crc_errors ((src - 63488) / 2))))) ∧
  (∀ (s a : State) (t src bp pa : Nat) (block : Bytes), a = s.advance t → block.length = 24 → src < 63520 → a.placer.asrc = [] →
    ∃ u, exec (.aesBlockComplete t src block true bp pa) s = .next (s.closed u) ∧
      u.get (O.asource_channel_status src) = .b block ∧
      (src ∈ u.audio.nonAudio ↔ Machine.bit (block.headD 0).toNat 1 = true)) ∧
  (∀ (s a : State) (t g : Nat) (m : LoudMeas), a = s.advance t → 1 ≤ g → g ≤ 1024 → a.flag (O.loud_enable g) = true →
    exec (.loudnessUpdate t g m) s = .next (s.closed (a.loudUpdate g m))) ∧
  (∀ (a : State) (g : Nat) (m : LoudMeas), (a.audio.resets.contains g) = true →
    (a.loudUpdate g m).int (O.loud_momentary g) = m.momentary ∧ (a.loudUpdate g m).int (O.loud_short_term g) = m.shortTerm ∧
    (a.loudUpdate g m).int (O.loud_integrated g) = -32768 ∧ (a.loudUpdate g m).int (O.loud_true_peak g) = -32768 ∧
    (a.loudUpdate g m).nat (O.loud_range g) = 0 ∧ (a.loudUpdate g m).nat (O.loud_status g) = 0) ∧
  ∀ (s a : State) (t g : Nat) (m : LoudMeas), a = s.advance t → g = 0 ∨ 1024 < g ∨ a.flag (O.loud_enable g) = false →
    exec (.loudnessUpdate t g m) s = .next (s.closed a))

/-- What the events of serial audio directions do (R296 to R299): a direction that runs counts its frames; its rate is
measured; a slave that loses its frame sync for four frame periods reads clock lost and raises SAP_CLOCK; with its return the
frame count goes on from the TB0 time elapsed; an edge of the trigger, or the instant set, starts the armed set. -/
def Obligations.SerialAudioEventsComplete : Prop :=
  (∀ (s a : State) (t dir : Nat) (fits : Bool), a = s.advance t →
    exec (.tdmFrameStart t dir fits) s = .next (s.closed (a.tdmFrame dir fits))) ∧
  (∀ (a : State) (dir : Nat) (fits : Bool), a.sap dir = none → a.tdmFrame dir fits = a) ∧
  (∀ (a : State) (dir : Nat) (fits : Bool) (r : SapRec), a.sap dir = some r → r.stopping = true →
    (a.tdmFrame dir fits).sap dir = none ∧ (a.tdmFrame dir fits).nat (O.sap_state dir) = 0 ∧ (a.tdmFrame dir fits).nat (O.sap_run dir) = 0) ∧
  (∀ (a : State) (dir first : Nat) (r : SapRec), a.sap dir = some r → r.stopping = false → r.first = some first → r.grid ≠ none →
    a.nat (O.sap_state dir) ≠ 3 → a.now < r.wroteAt + a.twoSlots dir →
    ∃ q, (a.tdmFrame dir true).sap dir = some q ∧ q.frames = r.frames + 1 ∧ q.first = some first ∧ q.latest = a.now ∧
      (a.tdmFrame dir true).nat (O.sap_state dir) = 2) ∧
  (∀ (s a : State) (t dir mhz ppb : Nat), a = s.advance t → 1 ≤ dir → dir ≤ 64 →
    exec (.sapRateMeasure t dir mhz ppb) s = .next (s.closed (a.sapMeasure dir mhz ppb))) ∧
  (∀ (s a : State) (t dir mhz ppb : Nat), a = s.advance t → dir = 0 ∨ 64 < dir →
    exec (.sapRateMeasure t dir mhz ppb) s = .next (s.closed a)) ∧
  (∀ (s a : State) (t dir : Nat) (r : SapRec), a = s.advance t → a.sap dir = some r → a.nat (O.sap_clock_role dir) = 0 →
    a.nat (O.sap_state dir) = 2 → r.latest + 4 * (1000000000 / a.sapHz dir) ≤ a.now →
    exec (.sapClockLost t dir) s = .next (s.closed ((a.setN (O.sap_state dir) 3).follow F.sapClock dir 0 true))) ∧
  (∀ (s a : State) (t dir : Nat), a = s.advance t → a.sap dir = none ∨ a.nat (O.sap_clock_role dir) ≠ 0 ∨ a.nat (O.sap_state dir) ≠ 2 →
    exec (.sapClockLost t dir) s = .next (s.closed a)) ∧
  (∀ (s a : State) (t dir first : Nat) (r : SapRec), a = s.advance t → a.sap dir = some r → a.nat (O.sap_state dir) = 3 →
    r.first = some first → (∀ i, i < 64 → 1 + i ≠ dir → a.nat (O.sap_state (1 + i)) ≠ 3) →
    exec (.sapFsReturn t dir) s = .next (s.closed ((((a.putSap { r with
      frames := (a.tbNow 0 - first) * a.sapHz dir / 1000000000, latest := a.now }).setN (O.sap_state dir) 2).followShared
        F.sapClock dir 0 false false)))) ∧
  (∀ (s a : State) (t dir : Nat), a = s.advance t → a.sap dir = none ∨ a.nat (O.sap_state dir) ≠ 3 →
    exec (.sapFsReturn t dir) s = .next (s.closed a)) ∧
  (∀ (s a : State) (t : Nat), a = s.advance t → a.nat O.sapAll_trigger_state = 1 → a.nat O.sapAll_trigger_edge = 0 →
    exec (.startTrigEdge t true) s =
      .next (s.closed ((a.setN O.sapAll_last_trigger (a.tbNow 0)).fireStart (a.tbNow 0))) ∧
    exec (.startTrigEdge t false) s = .next (s.closed (a.setN O.sapAll_last_trigger (a.tbNow 0)))) ∧
  (∀ (s a : State) (t : Nat) (rising : Bool), a = s.advance t → a.nat O.sapAll_trigger_state ≠ 1 →
    exec (.startTrigEdge t rising) s = .next (s.closed (a.setN O.sapAll_last_trigger (a.tbNow 0)))) ∧
  (∀ (a : State) (at' : Nat), (a.fireStart at').nat O.sapAll_trigger_state = 2 ∧
    ∀ r ∈ (a.fireStart at').audio.saps, r.grid ≠ none) ∧
  (∀ (s a : State) (t x : Nat), a = s.advance t → a.audio.startAt = some x →
    exec (.startAtInstant t) s = .next (s.closed (if a.nat O.sapAll_trigger_state = 1 ∧ x ≤ a.tbNow 0 then a.fireStart x else a))) ∧
  ∀ (s a : State) (t : Nat), a = s.advance t → a.audio.startAt = none → exec (.startAtInstant t) s = .next (s.closed a)

/-- What the events of references do (R314 to R321): an entry is sampled, goes absent without activity, is qualified once it
has passed every test for the qualifying time, is evaluated with the others, and is chosen by the selector of a DPLL in
automatic mode. What the events of DPLLs, of the oscillator and of output epochs do (R322, R323, R330, R334, R341): a
build-out ends with its offset kept; a DPLL that acquires locks within its window; without the oscillator every DPLL reads
free-run, and starts from it when the oscillator returns; DPLL_FREERUN follows an automatic DPLL that stands in free-run a
minute after Ready; at E the outputs take their staged values. -/
def Obligations.ReferenceAndDpllEventsComplete : Prop :=
  ((∀ (s a : State) (t e mtie format : Nat) (freq : Int), a = s.advance t →
    exec (.refPhaseSample t e mtie freq format) s = .next (s.closed (if 16 ≤ e then a else a.phaseSample e mtie freq format))) ∧
  (∀ (a : State) (e mtie format : Nat) (freq : Int), a.nat (O.ref_source (1 + e)) = 0 → a.phaseSample e mtie freq format = a) ∧
  (∀ (s a : State) (t e : Nat), a = s.advance t → e < 16 → 2 ≤ a.refState e →
    exec (.refActivityLost t e) s = .next (s.closed (a.setRefState e 1))) ∧
  (∀ (s a : State) (t e : Nat), a = s.advance t → 16 ≤ e ∨ a.refState e ≤ 1 →
    exec (.refActivityLost t e) s = .next (s.closed a)) ∧
  (∀ (s a : State) (t e since : Nat), a = s.advance t → e < 16 → a.refState e = 2 → a.phaseOk e = true → a.hardOk e = true →
    a.wrongFormat e = false → (a.ref e).passSince = some since →
    exec (.refQualified t e) s = .next (s.closed
      (if since + a.nat O.refAll_qualify_time * 1000000000 ≤ a.now then a.setRefState e 3 else a))) ∧
  (∀ (s a : State) (t e : Nat), a = s.advance t →
    16 ≤ e ∨ a.refState e ≠ 2 ∨ a.phaseOk e = false ∨ a.hardOk e = false ∨ a.wrongFormat e = true →
    exec (.refQualified t e) s = .next (s.closed a)) ∧
  (∀ (s a : State) (t : Nat) (means : List Int), a = s.advance t →
    exec (.refEvaluation t means) s = .next (s.closed (a.evaluate means))) ∧
  (∀ (s a : State) (t k : Nat), a = s.advance t → k < 4 →
    exec (.selectorRun t k) s = .next (s.closed (a.runSelector k))) ∧
  (∀ (s a : State) (t k : Nat), a = s.advance t → 4 ≤ k → exec (.selectorRun t k) s = .next (s.closed a)) ∧
  (∀ (a : State) (k e : Nat), a.nat (O.dpll_mode k) = 0 → a.xoLost = false → a.selectEntry k = (some e, false) →
    a.nat (O.dpll_selected k) = e → a.runSelector k = a) ∧
  (∀ (a : State) (k e : Nat), a.nat (O.dpll_mode k) = 0 → a.xoLost = false → a.selectEntry k = (some e, false) →
    a.nat (O.dpll_selected k) ≠ e → a.runSelector k = a.moveTo k e) ∧
  ∀ (a : State) (k : Nat), a.nat (O.dpll_mode k) = 0 → a.xoLost = false → a.selectEntry k = (none, false) →
    a.nat (O.dpll_state k) = 1 ∨ a.nat (O.dpll_state k) = 3 →
    a.runSelector k = (a.setN (O.dpll_selected k) none8).setDpllState k 2) ∧
  ((∀ (s a : State) (t k : Nat) (offset : Int), a = s.advance t → k < 4 → (a.dpll k).building = true →
    ∃ u, exec (.buildoutComplete t k offset) s = .next (s.closed u) ∧ (u.dpll k).building = false ∧ (u.dpll k).offset = offset ∧
      u.objs = a.objs ∧ ∀ j, j ≠ k → (a.dpll k).k = k → u.dpll j = a.dpll j) ∧
  (∀ (s a : State) (t k : Nat) (offset : Int), a = s.advance t → 4 ≤ k ∨ (a.dpll k).building = false →
    exec (.buildoutComplete t k offset) s = .next (s.closed a)) ∧
  (∀ (s a : State) (t k : Nat) (phase : Int), a = s.advance t → k < 4 → a.nat (O.dpll_mode k) = 0 → a.nat (O.dpll_state k) = 3 →
    (a.dpll k).building = false → phase.natAbs ≤ a.nat (O.dpll_lock_window k) * 1000 →
    ((a.setI (O.dpll_phase_error k) phase).setDpllState k 1).nat (O.dpll_realign k) = 0 →
    exec (.dpllLocked t k phase) s = .next (s.closed ((a.setI (O.dpll_phase_error k) phase).setDpllState k 1))) ∧
  (∀ (s a : State) (t k : Nat) (phase : Int), a = s.advance t → 4 ≤ k ∨ a.nat (O.dpll_mode k) ≠ 0 ∨ a.nat (O.dpll_state k) ≠ 3 ∨
    (a.dpll k).building = true ∨ a.nat (O.dpll_lock_window k) * 1000 < phase.natAbs →
    exec (.dpllLocked t k phase) s = .next (s.closed a)) ∧
  (∀ (s a : State) (t : Nat), a = s.advance t →
    exec (.xoLoss t) s = .next (s.closed ((a.setN (O.xo_xo_state 4) 1).follow F.xoLoss 0 0 true))) ∧
  (∀ (a : State) (n k : Nat), a.xoLost = true → a.dpllState (n + 1) k = 0) ∧
  (∀ (s a : State) (t : Nat), a = s.advance t → a.xoLost = false → exec (.xoReturn t) s = .next (s.closed a)) ∧
  (∀ (s a b : State) (t : Nat), a = s.advance t → a.xoLost = true → b = (a.setN (O.xo_xo_state 4) 0).endFault F.xoLoss →
    (∀ k, k < 4 → b.nat (O.dpll_mode k) ≠ 0) → exec (.xoReturn t) s = .next (s.closed b)) ∧
  (∀ (s a : State) (t k : Nat), a = s.advance t → k < 4 → a.ready = true → a.power.readyAt + 60000000000 ≤ a.now →
    a.nat (O.dpll_mode k) = 0 → a.dpllState 4 k = 0 →
    exec (.dpllFreerunCheck t k) s = .next (s.closed (a.follow F.dpllFreerun k 0 true))) ∧
  (∀ (s a : State) (t k : Nat), a = s.advance t → 4 ≤ k ∨ a.ready = false ∨ a.now < a.power.readyAt + 60000000000 ∨
    a.nat (O.dpll_mode k) ≠ 0 ∨ a.dpllState 4 k ≠ 0 → exec (.dpllFreerunCheck t k) s = .next (s.closed a)) ∧
  (∀ (s a : State) (t k : Nat), a = s.advance t → (a.dpll k).epoch = none → exec (.outputEpoch t k) s = .next (s.closed a)) ∧
  (∀ (s a : State) (t k e : Nat), a = s.advance t → (a.dpll k).epoch = some e → 4 ≤ k ∨ a.tbNow (a.nat (O.dpll_epoch_tb k)) < e →
    exec (.outputEpoch t k) s = .next (s.closed a)) ∧
  ∀ (s a : State) (t k e : Nat), a = s.advance t → (a.dpll k).epoch = some e → k < 4 → (a.dpll k).k = k →
    e ≤ a.tbNow (a.nat (O.dpll_epoch_tb k)) → ∃ u, exec (.outputEpoch t k) s = .next (s.closed u) ∧ (u.dpll k).epoch = none ∧
      u.nat (O.dpll_epoch_state k) = 2 ∧ ∀ x ∈ u.timing.staged, a.nat (O.cko_dpll x.1) = k → a.now < x.2.2 + 100000)

/-- What the events of PTP, of steps and of launch do (R347, R350, R357, R359, R361, R363, R365): an enabled port hears its
messages; a port sends what its state allows; masters that are not heard are dropped; the fault for a slave without a master
follows; a pending step that is accepted is made at its instant, or lapses within the guard; a scheduler with nothing due, or
whose interface is down, sends nothing. -/
def Obligations.TimeBaseEventsComplete : Prop :=
  (∀ (s a : State) (t p : Nat) (m : PtpMsg), a = s.advance t → p < 64 → a.flag (O.ptp_enable p) = true →
    exec (.ptpMessageRx t p m) s = .next (s.closed (a.ptpRx p m))) ∧
  (∀ (a : State) (p : Nat), a.ptpRx p .unsupported = (a.count (O.ptp_rx_messages p)).count (O.ptp_rx_errors p)) ∧
  (∀ (s a : State) (t p : Nat) (m : PtpMsg), a = s.advance t → 64 ≤ p ∨ a.flag (O.ptp_enable p) = false →
    exec (.ptpMessageRx t p m) s = .next (s.closed a)) ∧
  (∀ (s a : State) (t p : Nat) (kind : PtpSend), a = s.advance t → 64 ≤ p ∨ a.maySend p kind = false →
    exec (.ptpMessageTx t p kind) s = .next (s.closed a)) ∧
  (∀ (s a : State) (t p : Nat) (kind : PtpSend), a = s.advance t → p < 64 → a.maySend p kind = true → kind ≠ .announce →
    1024 ≤ a.nat (O.ptp_interface p) →
    exec (.ptpMessageTx t p kind) s = .next (s.closed ((a.count (O.ptp_tx_messages p)).emit (.ptp p kind 0 0 none)))) ∧
  (∀ (s a : State) (t p : Nat), a = s.advance t → 64 ≤ p ∨ a.flag (O.ptp_enable p) = false →
    exec (.announceTimeout t p) s = .next (s.closed a)) ∧
  (∀ (s a : State) (t p : Nat), a = s.advance t → p < 64 → a.flag (O.ptp_enable p) = true → (a.ptp p).heard ≠ [] →
    (∀ e ∈ (a.ptp p).heard, a.now < e.2 + a.announceNs p) → exec (.announceTimeout t p) s = .next (s.closed a)) ∧
  (∀ (s a : State) (t p : Nat), a = s.advance t → p < 64 → a.flag (O.ptp_enable p) = true → (a.ptp p).heard = [] →
    (a.ptp p).since + a.announceNs p ≤ a.now → (a.tbRec (a.nat (O.ptp_time_base p))).follows = none →
    exec (.announceTimeout t p) s = .next (s.closed
      ((a.putPtp { a.ptp p with heard := [], timedOut := true }).bmca (a.nat (O.ptp_time_base p))))) ∧
  (∀ (s a : State) (t tb : Nat), a = s.advance t →
    exec (.ptpNoMasterCheck t tb) s = .next (s.closed (if tb < 4 then a.reviewNoMaster tb else a))) ∧
  (∀ (s a : State) (t tb : Nat), a = s.advance t → 4 ≤ tb ∨ (a.tbRec tb).accept = none →
    exec (.stepInstant t tb) s = .next (s.closed a)) ∧
  (∀ (s a : State) (t tb at' : Nat), a = s.advance t → tb < 4 → (a.tbRec tb).accept = some at' →
    exec (.stepInstant t tb) s = .next (s.closed (if a.tbNow tb < at' then a
      else if a.nat (O.tb_jump_guard tb) < (a.int (O.tb_jump_pending tb)).natAbs then
        (a.endPending tb 3).stepTb tb (a.int (O.tb_jump_pending tb)) false
      else a.endPending tb 0))) ∧
  (∀ (s a : State) (t iface delay : Nat), a = s.advance t → a.ifaceUp iface = false ∨ a.nextLaunch iface = none →
    exec (.packetLaunch t iface delay) s = .next (s.closed a)) ∧
  ∀ (s a : State) (t iface delay : Nat) (l : Launchable) (r : LaunchReq), a = s.advance t → a.ifaceUp iface = true →
    a.nextLaunch iface = some l → l.what = .inr r → delay ≤ a.frameTime r.iface → r.stamp = false →
    ∃ b, exec (.packetLaunch t iface delay) s = .next (s.closed b) ∧ .launch r.iface r.frame ∈ b.out ∧ r ∉ b.clocks.launches

/-- What the events of serial lanes do (R375, R376, R381, R384, R388, R389, R391): a waking lane enters its set state with
its receiver locked; a lock that is lost is counted; a code error of a mesh lane is counted; a PLL that unlocks raises its
fault and one that locks again shows it; a reference offset of a mesh lane is judged against 20 ppm; a test ends with its
duration; the checker counts while it is locked, and a loss of its lock counts a relock. -/
def Obligations.LaneEventsComplete : Prop :=
  (∀ (s a : State) (t l : Nat), a = s.advance t → l < 1024 → a.nat (O.lane_state_now l) = 3 →
    exec (.laneExitDone t l) s = .next (s.closed ((a.setN (O.lane_state_now l) (a.nat (O.lane_state l))).laneLocked l))) ∧
  (∀ (s a : State) (t l : Nat), a = s.advance t → 1024 ≤ l ∨ a.nat (O.lane_state_now l) ≠ 3 →
    exec (.laneExitDone t l) s = .next (s.closed a)) ∧
  (∀ (s a : State) (t l : Nat), a = s.advance t → 1024 ≤ l ∨ a.nat (O.lane_state_now l) ≠ 0 →
    exec (.laneUnlock t l) s = .next (s.closed a)) ∧
  (∀ (s a : State) (t l : Nat), a = s.advance t → l < 1024 → a.nat (O.lane_state_now l) = 0 → 2 ≤ a.nat (O.eq_eq_mode l) →
    exec (.laneUnlock t l) s = .next (s.closed
      (((a.setN (O.lane_rx_lock l) 0).count (O.lane_lock_losses l)).strike (F.laneUnlock (l / 64)) l 0))) ∧
  (∀ (s a : State) (t l : Nat) (disparity : Bool), a = s.advance t → 1024 ≤ l ∨ a.portKind l ≠ 5 →
    exec (.laneCodeError t l disparity) s = .next (s.closed a)) ∧
  (∀ (s a : State) (t l at' : Nat) (disparity : Bool), a = s.advance t → l < 1024 → a.portKind l = 5 →
    kfind a.lanes.codeAt l = some at' → a.now ≤ at' + 1000000000 →
    ∃ u, exec (.laneCodeError t l disparity) s = .next (s.closed u) ∧
      u.objs = (a.count (if disparity then O.lane_disparity_errors l else O.lane_code_violations l)).objs ∧
      kfind u.lanes.codeAt l = some a.now) ∧
  (∀ (s a : State) (t tile pll : Nat), a = s.advance t → a.tiles ≤ tile ∨ 2 ≤ pll →
    exec (.txpllUnlock t tile pll) s = .next (s.closed a) ∧ exec (.txpllRelock t tile pll) s = .next (s.closed a)) ∧
  (∀ (s a : State) (t tile pll : Nat), a = s.advance t → tile < a.tiles → pll < 2 →
    exec (.txpllUnlock t tile pll) s = .next (s.closed
      ((a.setBit (O.tile_pll_status (1024 + tile)) (2 + pll) false).follow (F.txpllUnlock tile) pll 0 true)) ∧
    (a.bit (O.tile_pll_status (1024 + tile)) (3 - pll) = true →
      exec (.txpllRelock t tile pll) s = .next (s.closed
        ((a.setBit (O.tile_pll_status (1024 + tile)) (2 + pll) true).followShared (F.txpllUnlock tile) pll 0 false false)))) ∧
  (∀ (s a : State) (t l : Nat) (ppb : Int), a = s.advance t → 1024 ≤ l ∨ a.portKind l ≠ 5 →
    exec (.refMismatchCheck t l ppb) s = .next (s.closed a)) ∧
  (∀ (s a : State) (t l : Nat) (ppb : Int), a = s.advance t → l < 1024 → a.portKind l = 5 →
    (∀ i, i < 64 → 64 * (l / 64) + i ≠ l → a.portKind (64 * (l / 64) + i) ≠ 5) →
    exec (.refMismatchCheck t l ppb) s = .next (s.closed
      (((a.setI (O.lane_rx_offset l) ppb).setBit (O.tile_pll_status (1024 + l / 64)) 4 (20000 < ppb.natAbs)).followShared
        (F.laneRefMismatch (l / 64)) l ppb.natAbs (20000 < ppb.natAbs) false))) ∧
  (∀ (s a : State) (t l began : Nat), a = s.advance t → kfind a.lanes.tests l = some began → a.testRuns l = true →
    a.nat (O.ltest_duration l) ≠ 0 →
    exec (.laneTestDurationEnd t l) s = .next (s.closed
      (if began + a.nat (O.ltest_duration l) * 1000000000 ≤ a.now then a.finalCount l else a))) ∧
  (∀ (s a : State) (t l : Nat), a = s.advance t → kfind a.lanes.tests l = none ∨ a.nat (O.ltest_duration l) = 0 →
    exec (.laneTestDurationEnd t l) s = .next (s.closed a)) ∧
  (∀ (s a : State) (t l bits errors : Nat) (locked : Bool), a = s.advance t → 1024 ≤ l ∨ a.testRuns l = false ∨ a.flag (O.ltest_checker l) = false →
    exec (.checkerLock t l locked bits errors) s = .next (s.closed a)) ∧
  (∀ (s a : State) (t l bits errors : Nat), a = s.advance t → l < 1024 → a.testRuns l = true → a.flag (O.ltest_checker l) = true →
    a.flag (O.ltest_checker_lock l) = false →
    exec (.checkerLock t l true bits errors) s = .next (s.closed ((a.setN (O.ltest_checker_lock l) 1).setN (O.ltest_state l) 2)) ∧
    exec (.checkerLock t l false bits errors) s = .next (s.closed (a.setN (O.ltest_checker_lock l) 0))) ∧
  ∀ (s a : State) (t l bits errors : Nat), a = s.advance t → l < 1024 → a.testRuns l = true → a.flag (O.ltest_checker l) = true →
    a.flag (O.ltest_checker_lock l) = true →
    exec (.checkerLock t l false bits errors) s = .next (s.closed
      ((((a.count (O.ltest_bits l) bits 64).count (O.ltest_errors l) errors 64).setN (O.ltest_checker_lock l) 0).count (O.ltest_relocks l)))

/-- What the events of mesh links do (R376, R380, R398 to R402): a lane that may train begins to at alignment, announces
itself, hears the far end, and comes up once 16 echoes have been measured; a link that is up takes cells and credits, and
trains again when no credit comes or its signal is lost. -/
def Obligations.MeshLinkEventsComplete : Prop :=
  (∀ (s a : State) (t tile : Nat), a = s.advance t → a.tiles ≤ tile →
    exec (.lrefLoss t tile) s = .next (s.closed a) ∧ exec (.lrefRelock t tile) s = .next (s.closed a)) ∧
  (∀ (s a : State) (t tile : Nat), a = s.advance t → tile < a.tiles →
    exec (.lrefLoss t tile) s = .next (s.closed (a.lrefLost tile)) ∧
    exec (.lrefRelock t tile) s = .next (s.closed
      (((a.setBit (O.tile_pll_status (1024 + tile)) 0 true).setBit (O.tile_pll_status (1024 + tile)) 1 true).endFault (F.lrefLoss tile)))) ∧
  (∀ (s a : State) (t l : Nat), a = s.advance t → a.mayTrain l = true → a.nat (O.mlink_state (1 + l)) ≤ 1 →
    exec (.meshAligned t l) s = .next (s.closed
      (((a.setN (O.mlink_state (1 + l)) 2).putMlane ⟨l, 0, 0, 0, 0, [], [], false, 0, 0, 0, 0⟩).laneLocked l))) ∧
  (∀ (s a : State) (t l : Nat), a = s.advance t → a.mayTrain l = false ∨ a.nat (O.mlink_state (1 + l)) = 2 ∨ a.nat (O.mlink_state (1 + l)) = 3 →
    exec (.meshAligned t l) s = .next (s.closed a)) ∧
  (∀ (s a : State) (t l : Nat), a = s.advance t → l < 1024 → a.nat (O.mlink_state (1 + l)) = 2 →
    exec (.trainingAnnounce t l) s = .next (s.closed (a.emit (.notice 1023 (.training l (.announce (a.oct O.id_serial_number) a.chipId
      (a.nat O.id_pair_role) (a.nat O.id_ordering_code) (a.nat O.mesh_version_min) (a.nat O.mesh_version_max) l
      (a.nat O.mesh_plan_revision))))))) ∧
  (∀ (s a : State) (t l : Nat) (set : TrainingSet), a = s.advance t → 1024 ≤ l ∨ a.nat (O.mlink_state (1 + l)) ≠ 2 →
    exec (.trainingAnnounce t l) s = .next (s.closed a) ∧ exec (.trainingSetRx t l set) s = .next (s.closed a) ∧
    exec (.meshLinkUp t l) s = .next (s.closed a)) ∧
  (∀ (s a : State) (t l turn trip : Nat), a = s.advance t → l < 1024 → a.nat (O.mlink_state (1 + l)) = 2 → (a.mlane l).echoes.length < 15 →
    exec (.trainingSetRx t l (.echo turn trip)) s = .next (s.closed (a.putMlane { a.mlane l with
      echoes := (a.mlane l).echoes ++ [trip - turn] }))) ∧
  (∀ (s a : State) (t l turn trip : Nat), a = s.advance t → l < 1024 → a.nat (O.mlink_state (1 + l)) = 2 → (a.mlane l).echoes.length = 15 →
    ∃ u, exec (.trainingSetRx t l (.echo turn trip)) s = .next (s.closed u) ∧
      u.nat (O.mlink_delay (1 + l)) = echoDelay ((a.mlane l).echoes ++ [trip - turn])) ∧
  (∀ (s a : State) (t l : Nat), a = s.advance t → l < 1024 → (a.mlane l).echoes.length < 16 ∨ (a.mlane l).heard = false →
    exec (.meshLinkUp t l) s = .next (s.closed a)) ∧
  (∀ (s a : State) (t l : Nat), a = s.advance t → l < 1024 → a.nat (O.mlink_state (1 + l)) = 2 → (a.mlane l).echoes.length = 16 →
    (a.mlane l).heard = true → 3000000 < a.nat (O.mlink_delay (1 + l)) →
    exec (.meshLinkUp t l) s = .next (s.closed
      ((a.setN (O.mlink_state (1 + l)) 6).follow F.meshLinkLong l (a.nat (O.mlink_delay (1 + l))) true))) ∧
  (∀ (s a : State) (t l : Nat) (cause : LinkLoss), a = s.advance t → l < 1024 → cause ≠ .lock →
    exec (.meshLinkDown t l cause) s = .next (s.closed (a.linkDown l (lossCode cause)))) ∧
  (∀ (s a : State) (t l : Nat), a = s.advance t → l < 1024 →
    exec (.meshLinkDown t l .lock) s = .next (s.closed ((a.setN (O.lane_rx_lock l) 0).linkDown l 0))) ∧
  (∀ (s a : State) (t l : Nat) (cause : LinkLoss), a = s.advance t → 1024 ≤ l →
    exec (.meshLinkDown t l cause) s = .next (s.closed a)) ∧
  (∀ (s a : State) (t l cls word d : Nat), a = s.advance t → l < 1024 → a.nat (O.mlink_state (1 + l)) = 3 → a.faults.inject = none →
    decodeWord word = .good →
    exec (.meshCellRx t l true cls word d) s = .next (s.closed (a.count (O.mlink_cells_received (1 + l)) 1 64))) ∧
  (∀ (s a : State) (t l word d : Nat), a = s.advance t → l < 1024 → a.nat (O.mlink_state (1 + l)) = 3 → a.faults.inject = none →
    exec (.meshCellRx t l false 1 word d) s = .next (s.closed
      (((a.count (O.mlink_crc_errors (1 + l))).strike F.meshCrc l 1).cellDiscarded l))) ∧
  (∀ (s a : State) (t l count : Nat), a = s.advance t → l < 1024 → a.nat (O.mlink_state (1 + l)) = 3 →
    exec (.creditReturn t l 0 count) s = .next (s.closed (a.putMlane { a.mlane l with
      data := min 256 ((a.mlane l).data + count % 128), dataAt := a.now })) ∧
    exec (.creditReturn t l 1 count) s = .next (s.closed (a.putMlane { a.mlane l with
      ctl := min 32 ((a.mlane l).ctl + count % 128), ctlAt := a.now }))) ∧
  (∀ (s a : State) (t l : Nat), a = s.advance t → l < 1024 → a.nat (O.mlink_state (1 + l)) = 3 →
    exec (.creditTimeout t l 0) s = .next (s.closed (if (a.mlane l).dataAt + 100000 ≤ a.now
      then (a.count (O.mlink_credit_stalls (1 + l))).linkDown l 4 else a))) ∧
  ∀ (s a : State) (t l cls word d count : Nat) (ok : Bool), a = s.advance t → 1024 ≤ l ∨ a.nat (O.mlink_state (1 + l)) ≠ 3 →
    exec (.meshCellRx t l ok cls word d) s = .next (s.closed a) ∧ exec (.creditReturn t l cls count) s = .next (s.closed a) ∧
    exec (.creditTimeout t l cls) s = .next (s.closed a)

/-- What the events of the domain do (R405 to R407, R409, R410): heartbeats and link lists go over every up link; a lost chip
is struck out; of two plans the higher revision, and then the higher hash, is adopted; a chip with a planned identifier is
admitted; an election is held with a quorum only, and for a higher priority than the head's. -/
def Obligations.DomainEventsComplete : Prop :=
  (∀ (s a : State) (t : Nat), a = s.advance t →
    exec (.meshHeartbeat t) s = .next (s.closed (a.flood .heartbeat)) ∧
    exec (.linkListFlood t) s = .next (s.closed (a.flood (.linkList a.linkList a.ledgerReport)))) ∧
  (∀ (a : State) (n : Notice), a.upLanes = [] → a.flood n = a) ∧
  (∀ (s a : State) (t chip : Nat), a = s.advance t →
    exec (.chipLost t chip) s = .next (s.closed (if a.chipGone chip then (a.loseChip chip).routesLose chip else a))) ∧
  (∀ (s a : State) (t : Nat) (plan : Bytes), a = s.advance t →
    planFits plan = false ∨ field plan 0 4 < a.nat O.mesh_plan_revision ∨ plan = a.oct O.mesh_plan →
    exec (.planReceived t plan) s = .next (s.closed a)) ∧
  (∀ (s a : State) (t : Nat) (plan : Bytes), a = s.advance t → planFits plan = true → a.nat O.mesh_plan_revision < field plan 0 4 →
    plan ≠ a.oct O.mesh_plan → exec (.planReceived t plan) s = .next (s.closed (a.adoptPlan plan))) ∧
  (∀ (s a : State) (t : Nat) (plan : Bytes), a = s.advance t → planFits plan = true → field plan 0 4 = a.nat O.mesh_plan_revision →
    plan ≠ a.oct O.mesh_plan → beNat (sha256 (a.oct O.mesh_plan)) < beNat (sha256 plan) →
    exec (.planReceived t plan) s = .next (s.closed ((a.strike F.planConflict (field plan 0 4) 0).adoptPlan plan))) ∧
  (∀ (s a : State) (t : Nat), a = s.advance t → a.plannedId = none ∨ a.ready = false →
    exec (.domainAdmission t) s = .next (s.closed a)) ∧
  (∀ (s a : State) (t id : Nat), a = s.advance t → a.plannedId = some id → a.ready = true → a.admittedLinks = [] →
    a.nat O.mesh_version_min ≤ a.nat O.mesh_version_max →
    exec (.domainAdmission t) s = .next (s.closed
      (((((a.endFault F.meshVersion).setChipId id).setN O.mesh_domain_state 2).setN O.id_mesh_version (a.nat O.mesh_version_max)).showLevels))) ∧
  (∀ (s a : State) (t lvl : Nat) (cands : List (Nat × Nat)), a = s.advance t →
    exec (.headElection t lvl cands) s = .next (s.closed (a.elect lvl cands)) ∧
    (a.chipId = 1023 ∨ a.nat (O.mgroup_kind (2048 + lvl)) < 2 → a.elect lvl cands = a)) ∧
  (∀ (a : State) (lvl : Nat) (cands : List (Nat × Nat)), 2 ≤ a.nat (O.mgroup_kind (2048 + lvl)) → a.chipId ≠ 1023 →
    a.quorum (a.nat (O.mgroup_plan_group (2048 + lvl))) = false → a.elect lvl cands =
      (a.setN (O.mgroup_head (2048 + lvl)) 1023).follow F.domainNoQuorum (a.nat (O.mgroup_plan_group (2048 + lvl))) lvl true) ∧
  (∀ (s a : State) (t lvl p : Nat) (cands : List (Nat × Nat)), a = s.advance t →
    (a.candidates cands).find? (fun c => c.1 = a.nat (O.mgroup_head (2048 + lvl))) = some (a.nat (O.mgroup_head (2048 + lvl)), p) →
    (∀ c ∈ a.candidates cands, c.2 ≤ p) → exec (.headPriorityHold t lvl cands) s = .next (s.closed a)) ∧
  (∀ (s a : State) (t lvl p q c : Nat) (cands : List (Nat × Nat)), a = s.advance t →
    (a.candidates cands).find? (fun c => c.1 = a.nat (O.mgroup_head (2048 + lvl))) = some (a.nat (O.mgroup_head (2048 + lvl)), p) →
    (c, q) ∈ a.candidates cands → p < q → exec (.headPriorityHold t lvl cands) s = .next (s.closed (a.elect lvl cands))) ∧
  (∀ (s a : State) (t l : Nat) (complete : Bool) (m : CtlMsg), a = s.advance t → 1024 ≤ l ∨ a.nat (O.mlink_state (1 + l)) ≠ 3 →
    exec (.meshControlMessage t l complete m) s = .next (s.closed a)) ∧
  ∀ (s a : State) (t l : Nat) (m : CtlMsg), a = s.advance t → l < 1024 → a.nat (O.mlink_state (1 + l)) = 3 →
    exec (.meshControlMessage t l false m) s = .next (s.closed (a.count O.mesh_control_discarded)) ∧
    exec (.meshControlMessage t l true m) s = .next (s.closed ((a.count O.mesh_control_received).hearControl m))

/-- Who is elected head of a group (R409): the candidate of the highest priority, and among equals the lowest chip
identifier; a candidate of priority 0 is none, and a sitting head stays against candidates of no higher priority. The chip
itself stands with its own priority. -/
def Obligations.ElectionRule : Prop :=
  (∀ (sitting : Nat) (cands : List (Nat × Nat)), (∃ c ∈ cands, c.2 ≠ 0) →
    ∃ p, (electHead sitting cands, p) ∈ cands ∧ p ≠ 0 ∧ (∀ c ∈ cands, c.2 ≤ p) ∧
      (electHead sitting cands ≠ sitting → ∀ c ∈ cands, c.2 = p → electHead sitting cands ≤ c.1)) ∧
  (∀ (sitting p : Nat) (cands : List (Nat × Nat)), (sitting, p) ∈ cands → p ≠ 0 → (∀ c ∈ cands, c.2 ≤ p) →
    electHead sitting cands = sitting) ∧
  (∀ (sitting : Nat) (cands : List (Nat × Nat)), (∀ c ∈ cands, c.2 = 0) → electHead sitting cands = 1023) ∧
  ∀ (a : State) (cands : List (Nat × Nat)) (c : Nat × Nat), c ∈ a.candidates cands ↔
    (c ∈ cands ∧ c.1 ≠ a.chipId) ∨ c = (a.chipId, a.nat O.mesh_head_priority)

/-- A message that is whole, rightly tagged, fresh, and meant for this chip is carried out as the request that its type
names, under its session (R41, R42, R46, R51 to R55, R538): this covers READ, its describe form, WRITE, WRITE_TXN, SUBSCRIBE,
TAKE, SALVO_PREPARE, SALVO_POUR, SALVO_DROP and the BULK messages, on every path. -/
def Obligations.MessageIsCarriedOut : Prop :=
  ∀ (c : Instr) (t : Nat) (via : Via) (raw : Bytes) (s a : State) (x : Session), a = s.advance t →
    messageOf c = some (t, via, raw) → a.hears via raw x →
    exec c s = .next (s.closed
      ((((a.heard via raw x).serve (heardTicket via raw x) (field raw 5 1) (messageBody raw)).endRekeyed)))

/-- Until Ready every request on a management path is answered NOT_READY, with epoch zero and an all-zero tag, and nothing is
read or written (R50); once Ready, a message longer than 1 400 bytes or of wrong magic is dropped, and a wrong tag is counted
(R47, R52, R53); with SPI disabled its commands do nothing (R56). -/
def Obligations.MessagesThatAreNotCarriedOut : Prop :=
  (∀ (c : Instr) (t : Nat) (via : Via) (raw : Bytes) (s a : State), a = s.advance t → messageOf c = some (t, via, raw) →
    via.path = .mgt0 ∨ via.path = .mgt1 → a.ready = false → a.proto.sessions = [] → 32 ≤ raw.length → raw.length ≤ 1400 →
    ∃ m, exec c s = .next (s.closed (a.emit (.msg via m))) ∧ field m 6 1 = C.notReady ∧ field m 20 8 = 0 ∧ m.drop 32 = zeros 32) ∧
  (∀ (c : Instr) (t : Nat) (via : Via) (raw : Bytes) (s a : State), a = s.advance t → messageOf c = some (t, via, raw) →
    via.path ≠ .spi → 1400 < raw.length → exec c s = .next (s.closed a)) ∧
  (∀ (c : Instr) (t : Nat) (via : Via) (raw : Bytes) (s a : State), a = s.advance t → messageOf c = some (t, via, raw) →
    via.path ≠ .spi → a.ready = true → 32 ≤ raw.length → raw.length ≤ 1400 → field raw 0 2 ≠ 0x4F44 →
    exec c s = .next (s.closed a)) ∧
  (∀ (c : Instr) (t : Nat) (via : Via) (raw : Bytes) (s a : State), a = s.advance t → messageOf c = some (t, via, raw) →
    via.path ≠ .spi → a.ready = true → raw.length ≤ 1400 → raw.length = 32 + field raw 30 2 + 32 → field raw 0 2 = 0x4F44 →
    a.roleKey (field raw 7 1) ≠ [] →
    messageTag (a.roleKey (field raw 7 1)) (field raw 20 8) (field raw 8 4) (raw.take (32 + field raw 30 2)) ≠
      raw.drop (32 + field raw 30 2) →
    exec c s = .next (s.closed (a.count O.sec_tag_failures))) ∧
  ∀ (s a : State) (t len : Nat) (raw : Bytes), a = s.advance t → a.spiOn = false →
    exec (.spiSendMessage t len raw) s = .next (s.closed a) ∧ exec (.spiFetch t) s = .next (s.closed a) ∧
    exec (.spiWaitTimeout t raw) s = .next (s.closed a)

/-- What a READ does (R38, R43, R45, R47): a readable object of the right type is answered with its value, one that the
checks refuse with their code; and a READ of either form changes no object but a pace monitor's lowest reading, and no bank
word, route or take. What WRITE and WRITE_TXN do (R60): records are applied in order, each judged on what those before it
have left; a transaction is applied whole, or not at all, and then no object and no bank word changes. -/
def Obligations.ReadsAndTransactions : Prop :=
  ((∀ (b : State) (role : Nat) (r : Rec) (d : Desc), b.judgeRead role false r.k = 0 → descOf r.k = some d → r.ty = d.ty.code →
    r.reserved = 0 → r.value = [] → b.readRec1 role false r = b.valueRecord r.k) ∧
  (∀ (b : State) (role : Nat) (describe : Bool) (r : Rec), b.judgeRead role describe r.k ≠ 0 →
    b.readRec1 role describe r = r.answer (b.judgeRead role describe r.k)) ∧
  ∀ (b : State) (tk : Ticket) (flags : Nat) (body : Bytes), tk.typ = 1 →
    (∀ k, ¬(k.fam = 0x1400 ∧ 32 ≤ k.inst ∧ k.sub = 1) → (b.serve tk flags body).get k = b.get k) ∧
    (b.serve tk flags body).mem = b.mem ∧ (b.serve tk flags body).sw = b.sw ∧ (b.serve tk flags body).placer = b.placer) ∧
  ((∀ (b : State) (w : Writer) (ovr : List Nat) (r : Rec) (l : List Rec),
    b.writeRecs w ovr (l ++ [r]) = ((b.writeRecs w ovr l).1 ++ [((b.writeRecs w ovr l).2.writeRec w ovr r).1],
      ((b.writeRecs w ovr l).2.writeRec w ovr r).2)) ∧
  (∀ (b : State) (tk : Ticket) (recs : List Rec), (∃ c ∈ (b.writeRecs tk.writer (overrides recs) recs).1, c ≠ 0) →
    (∀ k, (b.serveTxn tk recs).get k = b.get k) ∧ (b.serveTxn tk recs).mem = b.mem ∧ (b.serveTxn tk recs).sw = b.sw) ∧
  (∀ (b : State) (tk : Ticket) (recs : List Rec), recs ≠ [] → recs.length ≤ 64 →
    (∀ c ∈ (b.writeRecs tk.writer (overrides recs) recs).1, c = 0) →
    ∀ k, (b.serveTxn tk recs).get k = (b.writeRecs tk.writer (overrides recs) recs).2.get k) ∧
  (∀ (b : State) (tk : Ticket) (recs : List Rec) (k : Key),
    (b.serveWrite tk recs).get k = (b.writeRecs tk.writer [] recs).2.get k) ∧
  ∀ (b : State) (w : Writer) (ovr : List Nat) (r : Rec) (d : Desc) (v : Val), b.judgeWrite w r.k = 0 → descOf r.k = some d →
    r.ty = d.ty.code → r.reserved = 0 → b.lockedHere r.k = false → r.value.length ≤ 1024 → decVal d.ty r.value = some v →
    b.writeRec w ovr r = b.putValue w ovr r.k v)

/-- What SUBSCRIBE does (R63): an operation, mode or interval out of range is refused; a remove ends the subscription that it
names, and a remove all every one of the session. What the timers of the protocol and of SPI do (R48, R49, R56, R64 to R66):
queued changes leave at their interval and reports at their period; a transfer without a chunk for 10 s ends; a silent
session closes after its idle timeout; SPI fetches one message at a time, and a message that it gives up is answered. -/
def Obligations.SubscriptionAndProtocolTimerRules : Prop :=
  ((∀ (b : State) (tk : Ticket) (body : Bytes), body.length = 12 → field body 11 1 = 0 → field body 0 1 = 0 ∨ 3 < field body 0 1 →
    b.serveSubscribe tk body = b.refuse tk C.range) ∧
  (∀ (b : State) (tk : Ticket) (mode interval fam inst sub : Nat),
    2 < mode ∨ (1 ≤ mode ∧ (interval < 10 ∨ 60000 < interval)) →
    b.subscribe tk mode interval fam inst sub = b.refuse tk C.range) ∧
  (∀ (b : State) (tk : Ticket) (mode fam inst sub : Nat), mode = 0 → b.judgePattern tk.role fam inst sub = 0 →
    256 ≤ (b.subsOf tk.slot).length ∨ 4096 ≤ b.proto.subs.length →
    b.subscribe tk mode 0 fam inst sub = b.refuse tk C.busy) ∧
  (∀ (b : State) (tk : Ticket) (body : Bytes), body.length = 12 → field body 11 1 = 0 → field body 0 1 = 2 →
    (∀ u ∈ b.proto.subs, u.slot = tk.slot → u.num ≠ field body 4 2) → b.serveSubscribe tk body = b.refuse tk C.range) ∧
  (∀ (b : State) (tk : Ticket) (body : Bytes) (u : Sub), body.length = 12 → field body 11 1 = 0 → field body 0 1 = 2 →
    u ∈ b.proto.subs → u.slot = tk.slot → u.num = field body 4 2 →
    ∀ v, v ∈ (b.serveSubscribe tk body).proto.subs ↔ v ∈ b.proto.subs ∧ ¬(v.slot = tk.slot ∧ v.num = field body 4 2)) ∧
  ∀ (b : State) (tk : Ticket) (body : Bytes), body.length = 12 → field body 11 1 = 0 → field body 0 1 = 3 →
    ∀ v, v ∈ (b.serveSubscribe tk body).proto.subs ↔ v ∈ b.proto.subs ∧ v.slot ≠ tk.slot) ∧
  ((∀ (s a : State) (t slot sub : Nat) (u : Sub), a = s.advance t → a.subOf slot sub = some u →
    exec (.eventInterval t slot sub) s = .next (s.closed (if u.mode = 2 then a.flushSub slot sub else a))) ∧
  (∀ (s a : State) (t slot sub unsent role : Nat) (u : Sub), a = s.advance t → a.subOf slot sub = some u → u.mode = 1 →
    a.subRole u = some role → exec (.periodicReport t slot sub unsent) s = .next (s.closed
      (a.sendEvents u.slot u.num unsent (a.tbNow 0) (a.matched role u)))) ∧
  (∀ (s a : State) (t slot sub unsent : Nat), a = s.advance t → a.subOf slot sub = none →
    exec (.eventInterval t slot sub) s = .next (s.closed a) ∧ exec (.periodicReport t slot sub unsent) s = .next (s.closed a)) ∧
  (∀ (s a : State) (t h : Nat) (x : Bulk), a = s.advance t → a.proto.bulks.find? (fun x => x.handle = h) = some x →
    exec (.bulkHandleTimeout t h) s = .next (s.closed (if x.lastAt + 10000000000 ≤ a.now then a.retire h false else a))) ∧
  (∀ (s a : State) (t h : Nat), a = s.advance t → (∀ x ∈ a.proto.bulks, x.handle ≠ h) →
    exec (.bulkHandleTimeout t h) s = .next (s.closed a)) ∧
  (∀ (b : State) (h : Nat), ∀ x ∈ (b.retire h false).proto.bulks, x.handle ≠ h) ∧
  (∀ (s a : State) (t slot : Nat) (x : Session), a = s.advance t → a.session slot = some x →
    exec (.sessionIdleTimeout t slot) s = .next (s.closed
      (if x.lastAt + a.nat O.sec_idle_timeout * 1000000000 ≤ a.now then a.endSession slot else a))) ∧
  (∀ (s a : State) (t slot : Nat), a = s.advance t → a.session slot = none →
    exec (.sessionIdleTimeout t slot) s = .next (s.closed a)) ∧
  (∀ (s a : State) (t : Nat) (m : Bytes) (l : List Bytes), a = s.advance t → a.spiOn = true → a.proto.spiOut = m :: l →
    exec (.spiFetch t) s = .next (s.closed (({ a with proto := { a.proto with spiOut := l } } : State).emit (.msg ⟨.spi, [], 0⟩ m)))) ∧
  (∀ (s a : State) (t : Nat), a = s.advance t → a.spiOn = true → a.proto.spiOut = [] → a.proto.subs = [] →
    exec (.spiFetch t) s = .next (s.closed (a.emit (.msg ⟨.spi, [], 0⟩ [])))) ∧
  ∀ (s a : State) (t : Nat) (raw : Bytes), a = s.advance t → a.spiOn = true → 32 ≤ raw.length → a.proto.sessions = [] →
    ∃ m, exec (.spiWaitTimeout t raw) s = .next (s.closed { a with proto := { a.proto with spiOut := a.proto.spiOut ++ [m] } }) ∧
      field m 6 1 = (if a.ready then C.busy else C.notReady))

/-- What TAKE and the salvo messages do (R61, R62, R126, R127, R130, R138, R141, R144): a take below the role Operator is
denied, a standby refuses it LOCKED, a full priority queue BUSY; an admitted take shows in its slot; a salvo is prepared only
from a loaded slot with its time base and lead in range and its instant far enough ahead; a pour and a drop answer by the
salvo's state. -/
def Obligations.TakeAndSalvoMessageRules : Prop :=
  (∀ (b : State) (tk : Ticket) (prio : Bool) (body : Bytes), body.length = 24 → field body 22 2 = 0 → tk.role = 0 →
    b.serveTake tk prio body = b.refuse tk C.denied) ∧
  (∀ (b : State) (tk : Ticket) (prio : Bool) (body : Bytes), body.length = 24 → field body 22 2 = 0 → 1 ≤ tk.role → b.standby = true →
    b.serveTake tk prio body = b.refuse tk C.locked) ∧
  (∀ (b : State) (tk : Ticket) (body : Bytes), body.length = 24 → field body 22 2 = 0 → 1 ≤ tk.role → b.standby = false →
    16 ≤ b.proto.priority.length →
    b.serveTake tk true body = (b.count O.sec_priority_overflows).refuse tk C.busy) ∧
  (∀ (b : State) (tk : Ticket) (body : Bytes) (d : Dst) (slot : Nat), body.length = 24 → field body 22 2 = 0 → 1 ≤ tk.role →
    b.standby = false → b.inLull = false → b.judgeTake (takeEntryOf body).1 (takeInstant body) = .ok d → b.takeBarred d = false →
    b.queued < 256 → b.nextSlot = some slot →
    b.serveTake tk false body = b.admitTake tk slot d (takeEntryOf body).1 false) ∧
  (∀ (b : State) (tk : Ticket) (slot : Nat) (e : TakeEntry) (inst : Option Nat) (prio : Bool), 1 ≤ slot → slot ≤ 4096 →
    (b.fillSlot slot tk e inst prio).nat (O.take_state slot) = 1 ∧
    (b.fillSlot slot tk e inst prio).nat (O.take_destination slot) = b.normId e.dst ∧
    (b.fillSlot slot tk e inst prio).nat (O.take_source slot) = b.normId e.src ∧
    (b.fillSlot slot tk e inst prio).nat (O.take_session slot) = tk.ident ∧
    (b.fillSlot slot tk e inst prio).nat (O.take_result slot) = 0) ∧
  (∀ (b : State) (tk : Ticket) (n : Nat) (body : Bytes) (f : State → Nat → Nat × State), body.length = n → tk.role = 0 →
    b.salvoRequest tk body n f = b.refuse tk C.denied) ∧
  (∀ (b : State) (tk : Ticket) (n : Nat) (body : Bytes) (f : State → Nat → Nat × State), body.length = n → 1 ≤ tk.role →
    b.standby = true → b.salvoRequest tk body n f = b.refuse tk C.locked) ∧
  (∀ (b : State) (tk : Ticket) (n k : Nat) (body : Bytes) (f : State → Nat → Nat × State), body.length = n → 1 ≤ tk.role →
    b.standby = false → b.salvoNamed (field body 0 4) = some k → (f b k).1 ≠ 0 →
    b.salvoRequest tk body n f = b.refuse tk (f b k).1) ∧
  (∀ (b : State) (k tb lead e : Nat), b.nat (O.salvo_state k) ≠ 1 ∨ 3 < tb ∨ (lead ≠ 0 ∧ (lead < 5 ∨ 60000 < lead)) ∨
      (lead ≠ 0 ∧ e ≠ 0 ∧ e < b.tbNow tb + 1000000 + 1000000 * lead) →
    b.prepareSalvo k tb lead e = (C.range, b)) ∧
  (∀ (b : State) (k tb lead e : Nat), b.nat (O.salvo_state k) = 1 → tb ≤ 3 → 5 ≤ lead → lead ≤ 60000 →
    (e = 0 ∨ b.tbNow tb + 1000000 + 1000000 * lead ≤ e) → b.listHeld k = true ∨ 16 ≤ b.salvos.own.length →
    b.prepareSalvo k tb lead e = (C.busy, b)) ∧
  (∀ (b : State) (k : Nat), (b.nat (O.salvo_state k) = 4 → b.askPour k = (0, b)) ∧ (b.nat (O.salvo_state k) = 2 → b.askPour k = (C.busy, b)) ∧
    (b.nat (O.salvo_state k) ≤ 1 ∨ 5 ≤ b.nat (O.salvo_state k) → b.askPour k = (C.range, b))) ∧
  (∀ (b : State) (k : Nat) (x : Salvo), b.nat (O.salvo_state k) = 3 → b.salvo k = some x → x.decided = none →
    b.askPour k = (0, b.pourSalvo k) ∧ b.askDrop k = (0, b.dropSalvo k 1 [])) ∧
  ∀ (b : State) (k : Nat), (b.nat (O.salvo_state k) = 1 → b.askDrop k = (0, b)) ∧
    (b.nat (O.salvo_state k) = 2 → b.askDrop k = (0, b.dropSalvo k 1 [])) ∧
    (b.nat (O.salvo_state k) = 4 ∨ b.nat (O.salvo_state k) = 5 → b.askDrop k = (C.tooLate, b)) ∧
    (b.nat (O.salvo_state k) = 0 → b.askDrop k = (C.range, b))

/-- What the BULK messages do (R65, R66): a close commits data that are whole and have the hash that it names; otherwise
nothing is written and the transfer ends; an abort before it leaves the object unchanged, and one after a commit answers
TOO_LATE. -/
def Obligations.BulkTransferRules : Prop :=
  (∀ (b : State) (tk : Ticket) (x : Bulk) (hash : Bytes), gather x.total x.pieces = none →
    b.commitBulk tk x hash = (b.retire x.handle false).refuse tk C.range) ∧
  (∀ (b : State) (tk : Ticket) (x : Bulk) (hash v : Bytes), gather x.total x.pieces = some v → sha256 v ≠ hash →
    b.commitBulk tk x hash = (b.retire x.handle false).refuse tk C.range) ∧
  (∀ (b : State) (tk : Ticket) (x : Bulk) (v : Bytes), gather x.total x.pieces = some v → x.write = true →
    ∀ k, (b.commitBulk tk x (sha256 v)).get k = (b.writeObject tk.writer [] x.key (.b v)).2.get k) ∧
  (∀ (v : Bytes), v ≠ [] → gather v.length [(0, v)] = some v) ∧
  (∀ (v w : Bytes), gather (v.length + w.length) [(0, v), (v.length, w)] = some (v ++ w)) ∧
  (∀ (b : State) (tk : Ticket) (body : Bytes) (x : Bulk), body.length = 36 → field body 3 1 = 0 → field body 2 1 = 1 →
    b.proto.bulks.find? (fun x => x.handle = field body 0 2 ∧ x.slot = tk.slot) = some x →
    (∀ k, (b.serveBulkClose tk body).get k = b.get k) ∧ ∀ y ∈ (b.serveBulkClose tk body).proto.bulks, y.handle ≠ field body 0 2) ∧
  (∀ (b : State) (tk : Ticket) (body : Bytes) (r : Retired), body.length = 36 → field body 3 1 = 0 → field body 2 1 ≤ 1 →
    b.proto.bulks.find? (fun x => x.handle = field body 0 2 ∧ x.slot = tk.slot) = none →
    b.proto.retired.find? (fun r => r.handle = field body 0 2 ∧ b.now < r.until') = some r →
    b.serveBulkClose tk body = b.refuse tk (if r.committed then C.tooLate else C.range)) ∧
  (∀ (b : State) (tk : Ticket) (body : Bytes) (x : Bulk), 8 < body.length → body.length ≤ 1032 → field body 2 2 = 0 →
    b.proto.bulks.find? (fun x => x.handle = field body 0 2 ∧ x.slot = tk.slot) = some x → x.write = true →
    field body 4 4 + (body.drop 8).length ≤ x.total →
    ∀ y ∈ (b.serveBulkChunk tk body).proto.bulks, y.handle = x.handle → (field body 4 4, body.drop 8) ∈ y.pieces ∧ y.lastAt = b.now) ∧
  (∀ (b : State) (tk : Ticket) (k : Key) (total : Nat), ∃ x ∈ (b.openBulk tk k true total).proto.bulks, x.key = k ∧ x.slot = tk.slot ∧
    x.write = true ∧ x.total = total ∧ x.pieces = []) ∧
  ∀ (b : State) (tk : Ticket) (body : Bytes) (d : Desc) (k : Key), k = ⟨field body 0 2, field body 2 2, field body 4 1⟩ →
    body.length = 10 → field body 5 1 = 0 → b.judgeRead tk.role false k = 0 → descOf k = some d → d.ty ≠ .oct →
    b.serveBulkOpen tk body = b.refuse tk C.type

/-- The symbol code of cells, SRAM, HBM and headers (R457, R458): a word of zero syndrome is correct; one whose syndrome is a
multiple of the column of symbol j has its error there, and adding S0 to that symbol corrects it; any other is uncorrectable.
Every column begins with 1 and no three are linearly dependent, so every error in one symbol of a codeword is corrected, and
every error in two symbols is reported uncorrectable. -/
def Obligations.SymbolCodeCorrectsOneAndDetectsTwo : Prop :=
  (∀ i, (gfColumn i).1 = 1) ∧
  (∀ i j k a b c : Nat, i < j → j < k → k < 36 → a < 16 → b < 16 → c < 16 → a ≠ 0 ∨ b ≠ 0 ∨ c ≠ 0 →
    ¬(a ^^^ b ^^^ c = 0 ∧
      gfMul a (gfColumn i).2.1 ^^^ gfMul b (gfColumn j).2.1 ^^^ gfMul c (gfColumn k).2.1 = 0 ∧
      gfMul a (gfColumn i).2.2.1 ^^^ gfMul b (gfColumn j).2.2.1 ^^^ gfMul c (gfColumn k).2.2.1 = 0 ∧
      gfMul a (gfColumn i).2.2.2 ^^^ gfMul b (gfColumn j).2.2.2 ^^^ gfMul c (gfColumn k).2.2.2 = 0)) ∧
  (∀ w : Nat, syndrome w = (0, 0, 0, 0) → decodeWord w = .good ∧ correctWord w = w) ∧
  (∀ w j : Nat, j < 36 → (syndrome w).1 ≠ 0 → (syndrome w).2.1 = gfMul (syndrome w).1 (gfColumn j).2.1 →
    (syndrome w).2.2.1 = gfMul (syndrome w).1 (gfColumn j).2.2.1 → (syndrome w).2.2.2 = gfMul (syndrome w).1 (gfColumn j).2.2.2 →
    decodeWord w = .corrected j ∧ correctWord w = w ^^^ ((syndrome w).1 <<< (4 * j))) ∧
  (∀ w : Nat, syndrome w ≠ (0, 0, 0, 0) → (∀ j, j < 36 → (syndrome w).1 = 0 ∨ (syndrome w).2.1 ≠ gfMul (syndrome w).1 (gfColumn j).2.1 ∨
      (syndrome w).2.2.1 ≠ gfMul (syndrome w).1 (gfColumn j).2.2.1 ∨ (syndrome w).2.2.2 ≠ gfMul (syndrome w).1 (gfColumn j).2.2.2) →
    decodeWord w = .uncorrectable) ∧
  (∀ w j e : Nat, syndrome w = (0, 0, 0, 0) → j < 36 → 1 ≤ e → e < 16 →
    decodeWord (w ^^^ (e <<< (4 * j))) = .corrected j ∧ correctWord (w ^^^ (e <<< (4 * j))) = w) ∧
  ∀ w i j e f : Nat, syndrome w = (0, 0, 0, 0) → i < 36 → j < 36 → i ≠ j → 1 ≤ e → e < 16 → 1 ≤ f → f < 16 →
    decodeWord (w ^^^ (e <<< (4 * i)) ^^^ (f <<< (4 * j))) = .uncorrectable

/-- How a layer's pixel is blended onto the one below (R260): every component of a result lies within 4 to 1 019, whichever
way it is rounded (a choice that is free, log entry 17); a transparent pixel leaves what is below, an opaque one covers it,
an additive one of black adds nothing, and a luma key is transparent up to its low level and opaque from its high one. -/
def Obligations.BlendingRule : Prop :=
  (∀ (up invert : Bool) (mode opacity lo hi : Nat) (l b : Pixel),
    (4 ≤ (blendPixel up mode opacity lo hi invert l b).y ∧ (blendPixel up mode opacity lo hi invert l b).y ≤ 1019) ∧
    (4 ≤ (blendPixel up mode opacity lo hi invert l b).cb ∧ (blendPixel up mode opacity lo hi invert l b).cb ≤ 1019) ∧
    (4 ≤ (blendPixel up mode opacity lo hi invert l b).cr ∧ (blendPixel up mode opacity lo hi invert l b).cr ≤ 1019)) ∧
  (∀ (up invert : Bool) (opacity lo hi : Nat) (l b : Pixel), 4 ≤ b.y → b.y ≤ 1019 → 4 ≤ b.cb → b.cb ≤ 1019 → 4 ≤ b.cr → b.cr ≤ 1019 →
    l.a = 0 ∨ opacity = 0 → blendPixel up 0 opacity lo hi invert l b = b ∧ blendPixel up 1 opacity lo hi invert l b = b) ∧
  (∀ (up invert : Bool) (lo hi : Nat) (l b : Pixel), 4 ≤ l.y → l.y ≤ 1019 → 4 ≤ l.cb → l.cb ≤ 1019 → 4 ≤ l.cr → l.cr ≤ 1019 →
    l.a = 1023 → blendPixel up 0 1024 lo hi invert l b = ⟨l.y, l.cb, l.cr, b.a⟩) ∧
  (∀ (up : Bool) (lo hi : Nat) (l b : Pixel), 4 ≤ b.y → b.y ≤ 1019 → 4 ≤ b.cb → b.cb ≤ 1019 → 4 ≤ b.cr → b.cr ≤ 1019 →
    l.y ≤ lo → lo < hi → blendPixel up 2 1024 lo hi false l b = b) ∧
  ∀ (up : Bool) (lo hi : Nat) (l b : Pixel), 4 ≤ l.y → l.y ≤ 1019 → 4 ≤ l.cb → l.cb ≤ 1019 → 4 ≤ l.cr → l.cr ≤ 1019 →
    hi ≤ l.y → lo < hi → blendPixel up 2 1024 lo hi false l b = ⟨l.y, l.cb, l.cr, b.a⟩

/-- What polarity, gain and mute make of an audio word (R285, R289): the result is a 24-bit sample, saturated where the exact
one is not; a gain of one without inversion changes nothing; a non-PCM word ignores polarity and gain; a mute, or no gain at
all, gives a zero word that keeps the non-PCM flag. -/
def Obligations.AudioProcessingRule : Prop :=
  (∀ (invert muted : Bool) (num den : Nat) (w : AudioWord), w.nonPcm = false →
    -8388608 ≤ (processWord invert num den muted w).1.sample ∧ (processWord invert num den muted w).1.sample ≤ 8388607) ∧
  (∀ (den : Nat) (w : AudioWord), den ≠ 0 → w.nonPcm = false → -8388608 ≤ w.sample → w.sample ≤ 8388607 →
    processWord false den den false w = (w, false)) ∧
  (∀ (w : AudioWord), w.nonPcm = false → -8388608 < w.sample → w.sample ≤ 8388607 →
    processWord true 1 1 false w = ({ w with sample := -w.sample }, false)) ∧
  (∀ (w : AudioWord), w.nonPcm = false → w.sample = -8388608 →
    processWord true 1 1 false w = ({ w with sample := 8388607 }, true)) ∧
  (∀ (invert : Bool) (num den : Nat) (w : AudioWord), w.nonPcm = true → num ≠ 0 → processWord invert num den false w = (w, false)) ∧
  ∀ (invert muted : Bool) (num den : Nat) (w : AudioWord), muted = true ∨ num = 0 →
    processWord invert num den muted w = (⟨w.nonPcm, false, false, false, false, 0⟩, false)
end

