-- ==== Sys2Proof/Laws/Objects.lean ====
section
/-! SUPPORT. The object store (R33, R34): a read after a write of the same object gives the value written, a write leaves every
other object alone, and the canonical form is kept. -/

namespace Sys2Proof.Machine
theorem Key.before_trans {a b c : Key} (h1 : a.before b = true) (h2 : b.before c = true) : a.before c = true := by
  simp [Key.before] at *; omega
theorem Key.before_total {a b : Key} (h1 : ¬ a = b) (h2 : ¬ b.before a = true) : a.before b = true := by
  cases a; cases b; simp [Key.before] at *; omega

/-- The canonical form, entry by entry. -/
theorem objsWf_iff (l : List (Key × Val)) :
    objsWf l = true ↔ (∀ e ∈ l, e.2 ≠ dflt e.1) ∧ l.Pairwise (fun a b => a.1.before b.1 = true) := by
  induction l with
  | nil => simp [objsWf]
  | cons e r ih =>
    obtain ⟨k, v⟩ := e
    cases r with
    | nil => simp [objsWf]
    | cons e' r' =>
      obtain ⟨k', v'⟩ := e'
      simp only [objsWf, Bool.and_eq_true, bne_iff_ne, ih, List.pairwise_cons (a := (k, v)), List.mem_cons (b := (k, v))]
      constructor
      · rintro ⟨⟨hv, hk⟩, hall, hp⟩
        refine ⟨fun e he => ?_, fun e he => ?_, hp⟩
        · rcases he with rfl | he
          · exact hv
          · exact hall e he
        · rcases List.mem_cons.1 he with rfl | he
          · exact hk
          · exact Key.before_trans hk ((List.pairwise_cons.1 hp).1 e he)
      · rintro ⟨hall, hb, hp⟩
        exact ⟨⟨hall _ (.inl rfl), hb _ (.head _)⟩, fun e he => hall e (.inr he), hp⟩

theorem objsWf_filter {l : List (Key × Val)} (p : Key × Val → Bool) (h : objsWf l = true) : objsWf (l.filter p) = true := by
  rw [objsWf_iff] at *
  exact ⟨fun e he => h.1 e (List.mem_of_mem_filter he), h.2.filter _⟩

theorem objsWf_kdel {l : List (Key × Val)} (k : Key) (h : objsWf l = true) : objsWf (kdel l k) = true := objsWf_filter _ h

theorem mem_objPut {k : Key} {v : Val} {l : List (Key × Val)} {e : Key × Val} (h : e ∈ objPut k v l) : e = (k, v) ∨ e ∈ l := by
  induction l with
  | nil => simpa [objPut] using h
  | cons x r ih =>
    obtain ⟨k', v'⟩ := x
    simp only [objPut] at h
    split at h
    · simp at h ⊢; tauto
    · split at h
      · simp at h ⊢; tauto
      · rcases List.mem_cons.1 h with rfl | h
        · simp
        · rcases ih h with h | h
          · exact .inl h
          · exact .inr (.tail _ h)

theorem objsWf_objPut {k : Key} {v : Val} {l : List (Key × Val)} (hv : v ≠ dflt k) (h : objsWf l = true) :
    objsWf (objPut k v l) = true := by
  rw [objsWf_iff] at *
  refine ⟨fun e he => ?_, ?_⟩
  · rcases mem_objPut he with rfl | he
    · exact hv
    · exact h.1 e he
  · obtain ⟨-, h⟩ := h
    induction l with
    | nil => simp [objPut]
    | cons x r ih =>
      obtain ⟨k', v'⟩ := x
      simp only [objPut]
      have hx := List.pairwise_cons.1 h
      split
      · rename_i e; subst e; exact List.pairwise_cons.2 hx
      · split
        · rename_i hb
          refine List.pairwise_cons.2 ⟨fun a ha => ?_, h⟩
          rcases List.mem_cons.1 ha with rfl | ha
          · exact hb
          · exact Key.before_trans hb (hx.1 a ha)
        · rename_i hn hb
          refine List.pairwise_cons.2 ⟨fun a ha => ?_, ih hx.2⟩
          rcases mem_objPut ha with rfl | ha
          · exact Key.before_total hn hb
          · exact hx.1 a ha

theorem kfind_objPut (k : Key) (v : Val) (l : List (Key × Val)) (k' : Key) :
    kfind (objPut k v l) k' = if k' = k then some v else kfind l k' := by
  induction l with
  | nil => simp only [objPut, kfind, eq_comm]
  | cons x r ih =>
    obtain ⟨a, b⟩ := x
    simp only [objPut]
    split
    · rename_i e; subst e; simp only [kfind]; by_cases hk : a = k' <;> simp [hk]
      exact fun h => absurd h.symm hk
    · split
      · simp only [kfind]; by_cases hk : k = k' <;> simp [hk]
        exact fun h => absurd h.symm hk
      · rename_i hn _
        simp only [kfind, ih]; by_cases hk : a = k'
        · subst hk; simp [hn]
        · simp [hk]

theorem kfind_kdel (k : Key) (l : List (Key × Val)) (k' : Key) :
    kfind (kdel l k) k' = if k' = k then none else kfind l k' := by
  induction l with
  | nil => simp [kdel, kfind]
  | cons x r ih =>
    obtain ⟨a, b⟩ := x
    simp only [kdel, List.filter_cons] at ih ⊢
    by_cases ha : a = k
    · subst ha; simp only [ne_eq, not_true, decide_false, kfind, ih, Bool.false_eq_true, if_false]
      by_cases hk : a = k' <;> simp [hk]
    · simp only [ne_eq, ha, not_false_eq_true, decide_true, if_true, kfind, ih]
      by_cases hk : a = k'
      · subst hk; simp [ha]
      · simp [hk]

/-- A read after a write. -/
theorem State.get_set (s : State) (k : Key) (v : Val) (k' : Key) : (s.set k v).get k' = if k' = k then v else s.get k' := by
  simp only [State.get, State.set]
  by_cases e : v = dflt k
  · rw [if_pos e, kfind_kdel]; by_cases h : k' = k
    · subst h; simp [e]
    · simp [h]
  · rw [if_neg e, kfind_objPut]; by_cases h : k' = k
    · simp [h]
    · simp [h]
end Sys2Proof.Machine
end

