-- ==== Sys2Proof/Laws/Words.lean ====
section
/-! SUPPORT. The words of banks and HBM windows (R469, R471): a read after a write of the same word gives the value written, a write
leaves every other word alone, and the canonical form is kept. -/

namespace Sys2Proof.Machine
theorem wordBefore_trans {a b c : Nat × Nat} (h1 : wordBefore a b = true) (h2 : wordBefore b c = true) : wordBefore a c = true := by
  simp [wordBefore] at *; omega
theorem wordBefore_total {a b : Nat × Nat} (h1 : ¬ a = b) (h2 : ¬ wordBefore b a = true) : wordBefore a b = true := by
  cases a; cases b; simp [wordBefore] at *; omega

/-- The canonical form, entry by entry. -/
theorem wordsWf_iff (l : List ((Nat × Nat) × Nat)) :
    wordsWf l = true ↔ (∀ e ∈ l, e.2 ≠ 0) ∧ l.Pairwise (fun a b => wordBefore a.1 b.1 = true) := by
  induction l with
  | nil => simp [wordsWf]
  | cons e r ih =>
    obtain ⟨k, v⟩ := e
    cases r with
    | nil => simp [wordsWf]
    | cons e' r' =>
      obtain ⟨k', v'⟩ := e'
      simp only [wordsWf, Bool.and_eq_true, bne_iff_ne, ih, List.pairwise_cons (a := (k, v)), List.mem_cons (b := (k, v))]
      constructor
      · rintro ⟨⟨hv, hk⟩, hall, hp⟩
        refine ⟨fun e he => ?_, fun e he => ?_, hp⟩
        · rcases he with rfl | he
          · exact hv
          · exact hall e he
        · rcases List.mem_cons.1 he with rfl | he
          · exact hk
          · exact wordBefore_trans hk ((List.pairwise_cons.1 hp).1 e he)
      · rintro ⟨hall, hb, hp⟩
        exact ⟨⟨hall _ (.inl rfl), hb _ (.head _)⟩, fun e he => hall e (.inr he), hp⟩

theorem wordsWf_filter {l : List ((Nat × Nat) × Nat)} (p : (Nat × Nat) × Nat → Bool) (h : wordsWf l = true) :
    wordsWf (l.filter p) = true := by
  rw [wordsWf_iff] at *
  exact ⟨fun e he => h.1 e (List.mem_of_mem_filter he), h.2.filter _⟩

theorem mem_wordPut {k : Nat × Nat} {v : Nat} {l : List ((Nat × Nat) × Nat)} {e : (Nat × Nat) × Nat} (h : e ∈ wordPut k v l) :
    e = (k, v) ∨ e ∈ l := by
  induction l with
  | nil => simpa [wordPut] using h
  | cons x r ih =>
    obtain ⟨k', v'⟩ := x
    simp only [wordPut] at h
    split at h
    · simp at h ⊢; tauto
    · split at h
      · simp at h ⊢; tauto
      · rcases List.mem_cons.1 h with rfl | h
        · simp
        · rcases ih h with h | h
          · exact .inl h
          · exact .inr (.tail _ h)

theorem wordsWf_wordPut {k : Nat × Nat} {v : Nat} {l : List ((Nat × Nat) × Nat)} (hv : v ≠ 0) (h : wordsWf l = true) :
    wordsWf (wordPut k v l) = true := by
  rw [wordsWf_iff] at *
  refine ⟨fun e he => ?_, ?_⟩
  · rcases mem_wordPut he with rfl | he
    · exact hv
    · exact h.1 e he
  · obtain ⟨-, h⟩ := h
    induction l with
    | nil => simp [wordPut]
    | cons x r ih =>
      obtain ⟨k', v'⟩ := x
      simp only [wordPut]
      have hx := List.pairwise_cons.1 h
      split
      · rename_i e; subst e; exact List.pairwise_cons.2 hx
      · split
        · rename_i hb
          refine List.pairwise_cons.2 ⟨fun a ha => ?_, h⟩
          rcases List.mem_cons.1 ha with rfl | ha
          · exact hb
          · exact wordBefore_trans hb (hx.1 a ha)
        · rename_i hn hb
          refine List.pairwise_cons.2 ⟨fun a ha => ?_, ih hx.2⟩
          rcases mem_wordPut ha with rfl | ha
          · exact wordBefore_total hn hb
          · exact hx.1 a ha

/-- A write of a word keeps the canonical form. -/
theorem State.putWord_wf {s : State} (unit addr v : Nat) (h : wordsWf s.mem.words = true) :
    wordsWf (s.putWord unit addr v).mem.words = true := by
  simp only [State.putWord]
  split
  · exact wordsWf_filter _ h
  · exact wordsWf_wordPut ‹_› h
end Sys2Proof.Machine
end

