-- ==== Sys2Proof/Laws/Keeps.lean ====
section
/-! SUPPORT. What every effect of a command keeps: the queue, the instant, the number of the command, the four time bases, and the
canonical forms of the object store and of the words of banks. -/

namespace Sys2Proof.Machine
/-- An effect that leads from `a` to `b` keeps the queue, the instant, the number of the command and the number of time bases,
and the canonical forms of the object store and of the words of banks. -/
def Keeps (a b : State) : Prop :=
  b.pending = a.pending ∧ b.now = a.now ∧ b.free = a.free ∧ b.tbs.length = a.tbs.length ∧
    (objsWf a.objs = true → objsWf b.objs = true) ∧ (wordsWf a.mem.words = true → wordsWf b.mem.words = true)

theorem Keeps.refl (a : State) : Keeps a a := ⟨rfl, rfl, rfl, rfl, id, id⟩

theorem Keeps.trans {a b c : State} (h : Keeps a b) (k : Keeps b c) : Keeps a c := by
  obtain ⟨h1, h2, h3, h4, h5, h6⟩ := h
  obtain ⟨k1, k2, k3, k4, k5, k6⟩ := k
  exact ⟨k1.trans h1, k2.trans h2, k3.trans h3, k4.trans h4, fun w => k5 (h5 w), fun w => k6 (h6 w)⟩

theorem Keeps.rest {a b : State} {lag : List (Key × Val)} {out : List Out} {proto : Proto} {sw : Switching} {placer : Placer} {salvos : Salvos} {sdi : Sdi} {packet : Packet} {comp : Comp} {audio : Audio} {timing : Timing} {clocks : Clocks} {lanes : Lanes} {mesh : Mesh} {twin : Twin} {faults : Faults} {errs : List (Nat × Nat)} {next : Nat} {stalled : List IcReq} {waiting : List IcWait} {taken : List IcTaken} {held : List (IcTaken × Bool)} {lockWaits : List (Nat × Nat)} {locks : List IcLock} {fw : Firmware} {power : Power} (h : Keeps a b) :
    Keeps a ⟨b.pending, b.now, b.free, b.objs, lag, out, proto, sw, placer, salvos, sdi, packet, comp, audio, timing, b.tbs, clocks, lanes, mesh, twin, faults, ⟨b.mem.words, errs, next, stalled, waiting, taken, held, lockWaits, locks⟩, fw, power⟩ := h

theorem keeps_foldl {α : Type} {a s : State} {f : State → α → State} {l : List α} (h : Keeps a s)
    (hf : ∀ st x, Keeps a st → Keeps a (f st x)) : Keeps a (l.foldl f s) := by
  induction l generalizing s with
  | nil => exact h
  | cons x r ih => exact ih (hf _ _ h)

theorem keeps_foldl_fst {α β : Type} {a : State} {p : State × β} {f : State × β → α → State × β} {l : List α} (h : Keeps a p.1)
    (hf : ∀ q x, Keeps a q.1 → Keeps a (f q x).1) : Keeps a (l.foldl f p).1 := by
  induction l generalizing p with
  | nil => exact h
  | cons x r ih => exact ih (hf _ _ h)

theorem keeps_foldl_snd {α β : Type} {a : State} {p : β × State} {f : β × State → α → β × State} {l : List α} (h : Keeps a p.2)
    (hf : ∀ q x, Keeps a q.2 → Keeps a (f q x).2) : Keeps a (l.foldl f p).2 := by
  induction l generalizing p with
  | nil => exact h
  | cons x r ih => exact ih (hf _ _ h)

theorem State.set_keeps {a s : State} (h : Keeps a s) (k : Key) (v : Val) : Keeps a (s.set k v) := by
  obtain ⟨h1, h2, h3, h4, h5, h6⟩ := h
  refine ⟨h1, h2, h3, h4, fun w => ?_, h6⟩
  simp only [State.set]
  split
  · exact objsWf_kdel _ (h5 w)
  · exact objsWf_objPut ‹_› (h5 w)

theorem State.modTb_keeps {a s : State} (h : Keeps a s) (n : Nat) (f : Tb → Tb) : Keeps a (s.modTb n f) := by
  obtain ⟨h1, h2, h3, h4, h5, h6⟩ := h
  unfold State.modTb
  split
  · exact ⟨h1, h2, h3, by simpa using h4, h5, h6⟩
  · exact ⟨h1, h2, h3, h4, h5, h6⟩
end Sys2Proof.Machine
end

