-- ==== Sys2Proof/Laws/KeepsOps.lean ====
section
/-! SUPPORT. What each operation on a state keeps (`Keeps`, in Laws/Keeps.lean): operations on objects, counters, the carry-over block, faults and sessions. -/

set_option linter.all false

namespace Sys2Proof.Machine

/-! ## Machine/Ops.lean -/

theorem State.setN_keeps {z s : State} (hk : Keeps z s) (k : Key) (v : Nat) : Keeps z (State.setN s k v) := by
  unfold State.setN
  try dsimp only
  repeat' (with_reducible first | assumption | apply State.set_keeps | split | intro _ | dsimp only | apply Keeps.rest)

theorem State.setI_keeps {z s : State} (hk : Keeps z s) (k : Key) (v : Int) : Keeps z (State.setI s k v) := by
  unfold State.setI
  try dsimp only
  repeat' (with_reducible first | assumption | apply State.set_keeps | split | intro _ | dsimp only | apply Keeps.rest)

theorem State.setB_keeps {z s : State} (hk : Keeps z s) (k : Key) (v : Bytes) : Keeps z (State.setB s k v) := by
  unfold State.setB
  try dsimp only
  repeat' (with_reducible first | assumption | apply State.set_keeps | split | intro _ | dsimp only | apply Keeps.rest)

theorem State.setF_keeps {z s : State} (hk : Keeps z s) (k : Key) (v : Bool) : Keeps z (State.setF s k v) := by
  unfold State.setF
  try dsimp only
  repeat' (with_reducible first | assumption | apply State.set_keeps | split | intro _ | dsimp only | apply Keeps.rest)

theorem State.setBit_keeps {z s : State} (hk : Keeps z s) (k : Key) (i : Nat) (on : Bool) : Keeps z (State.setBit s k i on) := by
  unfold State.setBit
  try dsimp only
  repeat' (with_reducible first | assumption | apply State.setN_keeps | split | intro _ | dsimp only | apply Keeps.rest)

theorem State.setLater_keeps {z s : State} (hk : Keeps z s) (k : Key) (v : Val) : Keeps z (State.setLater s k v) := by
  unfold State.setLater
  try dsimp only
  repeat' (with_reducible first | assumption | apply State.set_keeps | split | intro _ | dsimp only | apply Keeps.rest)

theorem State.takeEffect_keeps {z s : State} (hk : Keeps z s) (p : Key → Bool) : Keeps z (State.takeEffect s p) := by
  unfold State.takeEffect
  try dsimp only
  repeat' (with_reducible first | assumption | split | intro _ | dsimp only | apply Keeps.rest)

theorem State.count_keeps {z s : State} (hk : Keeps z s) (k : Key) (n : Nat) (w : Nat) : Keeps z (State.count s k n w) := by
  unfold State.count
  try dsimp only
  repeat' (with_reducible first | assumption | apply State.setN_keeps | split | intro _ | dsimp only | apply Keeps.rest)

theorem State.emit_keeps {z s : State} (hk : Keeps z s) (o : Out) : Keeps z (State.emit s o) := by
  unfold State.emit
  try dsimp only
  repeat' (with_reducible first | assumption | split | intro _ | dsimp only | apply Keeps.rest)

theorem State.correctTb_keeps {z s : State} (hk : Keeps z s) (n : Nat) (corr : Int) (slew : Nat) : Keeps z (State.correctTb s n corr slew) := by
  unfold State.correctTb
  try dsimp only
  repeat' (with_reducible first | assumption | apply State.modTb_keeps | split | intro _ | dsimp only | apply Keeps.rest)

theorem State.mirror_keeps {z s : State} (hk : Keeps z s) (i : MirrorItem) : Keeps z (State.mirror s i) := by
  unfold State.mirror
  try dsimp only
  repeat' (with_reducible first | assumption | apply State.emit_keeps | split | intro _ | dsimp only | apply Keeps.rest)

theorem State.tellTwin_keeps {z s : State} (hk : Keeps z s) (n : Notice) : Keeps z (State.tellTwin s n) := by
  unfold State.tellTwin
  try dsimp only
  repeat' (with_reducible first | assumption | apply State.emit_keeps | split | intro _ | dsimp only | apply Keeps.rest)

/-! ## Machine/Ledger.lean -/

theorem State.sweepStores_keeps {z s : State} (hk : Keeps z s)  : Keeps z (State.sweepStores s) := by
  unfold State.sweepStores
  try dsimp only
  repeat' (with_reducible first | assumption | split | intro _ | dsimp only | apply Keeps.rest)

/-! ## Machine/Reset.lean -/

theorem State.dropSide_keeps {z s : State} (hk : Keeps z s)  : Keeps z (State.dropSide s) := by
  unfold State.dropSide
  try dsimp only
  repeat' (with_reducible first | assumption | apply State.setN_keeps | apply keeps_foldl | apply keeps_foldl_fst | apply keeps_foldl_snd | split | intro _ | dsimp only | apply Keeps.rest)

theorem State.claimSide_keeps {z s : State} (hk : Keeps z s)  : Keeps z (State.claimSide s) := by
  unfold State.claimSide
  try dsimp only
  repeat' (with_reducible first | assumption | apply State.setN_keeps | apply keeps_foldl | apply keeps_foldl_fst | apply keeps_foldl_snd | split | intro _ | dsimp only | apply Keeps.rest)

theorem State.loseService_keeps {z s : State} (hk : Keeps z s)  : Keeps z (State.loseService s) := by
  unfold State.loseService
  try dsimp only
  repeat' (with_reducible first | assumption | apply State.count_keeps | apply State.setN_keeps | split | intro _ | dsimp only | apply Keeps.rest)

theorem State.enterSafe_keeps {z s : State} (hk : Keeps z s)  : Keeps z (State.enterSafe s) := by
  unfold State.enterSafe
  try dsimp only
  repeat' (with_reducible first | assumption | apply State.loseService_keeps | apply State.count_keeps | apply State.setF_keeps | apply State.dropSide_keeps | apply State.tellTwin_keeps | split | intro _ | dsimp only | apply Keeps.rest)

theorem State.programCarry_keeps {z s : State} (hk : Keeps z s)  : Keeps z (State.programCarry s) := by
  unfold State.programCarry
  try dsimp only
  repeat' (with_reducible first | assumption | split | intro _ | dsimp only | apply Keeps.rest)

theorem State.seal_keeps {z s : State} (hk : Keeps z s)  : Keeps z (State.seal s) := by
  unfold State.seal
  try dsimp only
  repeat' (with_reducible first | assumption | apply State.programCarry_keeps | apply State.setN_keeps | split | intro _ | dsimp only | apply Keeps.rest)

theorem State.putSettings_keeps {z s : State} (hk : Keeps z s) (slot : Nat) (l : List (Key × Val)) : Keeps z (State.putSettings s slot l) := by
  unfold State.putSettings
  try dsimp only
  repeat' (with_reducible first | assumption | apply State.set_keeps | split | intro _ | dsimp only | apply Keeps.rest)

theorem State.saveSettings_keeps {z s : State} (hk : Keeps z s)  : Keeps z (State.saveSettings s) := by
  unfold State.saveSettings
  try dsimp only
  repeat' (with_reducible first | assumption | apply State.putSettings_keeps | split | intro _ | dsimp only | apply Keeps.rest)

theorem State.wipe_keeps {z s0 : State} (hk : Keeps z s0) (lost : Bool) : Keeps z (State.wipe s0 lost) := by
  unfold State.wipe
  dsimp only
  have h : Keeps z (if s0.ready = true then s0.saveSettings else s0) := by
    split
    · exact State.saveSettings_keeps hk
    · exact hk
  generalize (if s0.ready = true then s0.saveSettings else s0) = s at h
  refine keeps_foldl ?_ (fun st x hs => ?_)
  · obtain ⟨h1, h2, h3, h4, h5, h6⟩ := h
    refine ⟨h1, h2, h3, ?_, fun w => objsWf_filter _ (h5 w), fun _ => rfl⟩
    dsimp only
    split
    · rw [List.length_map]; exact h4
    · exact h4
  · split
    · exact hs
    · exact State.setN_keeps hs _ _

theorem State.flipSlot_keeps {z s : State} (hk : Keeps z s)  : Keeps z (State.flipSlot s) := by
  unfold State.flipSlot
  try dsimp only
  repeat' (with_reducible first | assumption | apply State.setB_keeps | apply State.setN_keeps | split | intro _ | dsimp only | apply Keeps.rest)

theorem State.failProbation_keeps {z s : State} (hk : Keeps z s)  : Keeps z (State.failProbation s) := by
  unfold State.failProbation
  try dsimp only
  repeat' (with_reducible first | assumption | apply State.setN_keeps | apply State.flipSlot_keeps | split | intro _ | dsimp only | apply Keeps.rest)

theorem State.startUp_keeps {z s0 : State} (hk : Keeps z s0) (cause : Nat) : Keeps z (State.startUp s0 cause) := by
  unfold State.startUp
  try dsimp only
  repeat' (with_reducible first | assumption | apply State.count_keeps | apply State.setN_keeps | apply State.setB_keeps | apply State.failProbation_keeps | split | intro _ | dsimp only | apply Keeps.rest)

theorem State.failStart_keeps {z s : State} (hk : Keeps z s)  : Keeps z (State.failStart s) := by
  unfold State.failStart
  try dsimp only
  repeat' (with_reducible first | assumption | apply State.setN_keeps | split | intro _ | dsimp only | apply Keeps.rest)

theorem State.askRestart_keeps {z s0 : State} (hk : Keeps z s0) (cause : Nat) : Keeps z (State.askRestart s0 cause) := by
  unfold State.askRestart
  try dsimp only
  repeat' (with_reducible first | assumption | apply State.enterSafe_keeps | split | intro _ | dsimp only | apply Keeps.rest)

theorem State.restart_keeps {z s0 : State} (hk : Keeps z s0) (cause : Nat) : Keeps z (State.restart s0 cause) := by
  unfold State.restart
  dsimp only
  apply State.startUp_keeps
  apply State.setF_keeps
  refine State.wipe_keeps ?_ _
  split <;> split <;> first | (apply Keeps.rest; first | exact hk | apply State.failStart_keeps; exact hk) | (apply State.seal_keeps; first | exact hk | apply State.failStart_keeps; exact hk)

/-! ## Machine/Faults.lean -/

theorem State.leaveSafe_keeps {z s : State} (hk : Keeps z s)  : Keeps z (State.leaveSafe s) := by
  unfold State.leaveSafe
  try dsimp only
  repeat' (with_reducible first | assumption | apply State.claimSide_keeps | apply State.setF_keeps | split | intro _ | dsimp only | apply Keeps.rest)

theorem State.reviewSafe_keeps {z s : State} (hk : Keeps z s)  : Keeps z (State.reviewSafe s) := by
  unfold State.reviewSafe
  try dsimp only
  repeat' (with_reducible first | assumption | apply State.leaveSafe_keeps | split | intro _ | dsimp only | apply Keeps.rest)

theorem State.appendLog_keeps {z s : State} (hk : Keeps z s) (fr : Bytes) : Keeps z (State.appendLog s fr) := by
  unfold State.appendLog
  try dsimp only
  repeat' (with_reducible first | assumption | apply State.setB_keeps | apply State.setN_keeps | split | intro _ | dsimp only | apply Keeps.rest)

theorem State.captureFirst_keeps {z s : State} (hk : Keeps z s) (fr : Bytes) : Keeps z (State.captureFirst s fr) := by
  unfold State.captureFirst
  try dsimp only
  repeat' (with_reducible first | assumption | apply State.setB_keeps | apply State.count_keeps | apply State.setF_keeps | split | intro _ | dsimp only | apply Keeps.rest)

theorem State.react_keeps {z s : State} (hk : Keeps z s) (src unit : Nat) (fr : Bytes) : Keeps z (State.react s src unit fr) := by
  unfold State.react
  try dsimp only
  repeat' (with_reducible first | assumption | apply State.appendLog_keeps | apply State.askRestart_keeps | apply State.enterSafe_keeps | split | intro _ | dsimp only | apply Keeps.rest)

theorem State.latch_keeps {z s : State} (hk : Keeps z s) (src unit detail : Nat) : Keeps z (State.latch s src unit detail) := by
  unfold State.latch
  try dsimp only
  repeat' (with_reducible first | assumption | apply State.count_keeps | apply State.react_keeps | apply State.captureFirst_keeps | apply State.setN_keeps | apply State.askRestart_keeps | apply State.failProbation_keeps | split | intro _ | dsimp only | apply Keeps.rest)

theorem State.unlatch_keeps {z s : State} (hk : Keeps z s) (src : Nat) : Keeps z (State.unlatch s src) := by
  unfold State.unlatch
  try dsimp only
  repeat' (with_reducible first | assumption | apply State.setN_keeps | apply State.reviewSafe_keeps | split | intro _ | dsimp only | apply Keeps.rest)

theorem State.endFault_keeps {z s0 : State} (hk : Keeps z s0) (src : Nat) : Keeps z (State.endFault s0 src) := by
  unfold State.endFault
  try dsimp only
  repeat' (with_reducible first | assumption | apply State.setN_keeps | apply State.unlatch_keeps | split | intro _ | dsimp only | apply Keeps.rest)

theorem State.strike_keeps {z s : State} (hk : Keeps z s) (src unit detail : Nat) : Keeps z (State.strike s src unit detail) := by
  unfold State.strike
  try dsimp only
  repeat' (with_reducible first | assumption | apply State.endFault_keeps | apply State.latch_keeps | split | intro _ | dsimp only | apply Keeps.rest)

theorem State.follow_keeps {z s : State} (hk : Keeps z s) (src unit detail : Nat) (cond : Bool) : Keeps z (State.follow s src unit detail cond) := by
  unfold State.follow
  try dsimp only
  repeat' (with_reducible first | assumption | apply State.endFault_keeps | apply State.latch_keeps | split | intro _ | dsimp only | apply Keeps.rest)

theorem State.followShared_keeps {z s : State} (hk : Keeps z s) (src unit detail : Nat) (cond others : Bool) : Keeps z (State.followShared s src unit detail cond others) := by
  unfold State.followShared
  try dsimp only
  repeat' (with_reducible first | assumption | apply State.endFault_keeps | apply State.follow_keeps | split | intro _ | dsimp only | apply Keeps.rest)

theorem State.setExclusions_keeps {z s : State} (hk : Keeps z s) (l : List (Nat × Nat)) : Keeps z (State.setExclusions s l) := by
  unfold State.setExclusions
  try dsimp only
  repeat' (with_reducible first | assumption | apply State.setB_keeps | split | intro _ | dsimp only | apply Keeps.rest)

theorem State.markUnit_keeps {z s : State} (hk : Keeps z s) (kind unit : Nat) (out : Bool) : Keeps z (State.markUnit s kind unit out) := by
  unfold State.markUnit
  try dsimp only
  repeat' (with_reducible first | assumption | apply State.setF_keeps | apply State.setN_keeps | split | intro _ | dsimp only | apply Keeps.rest)

theorem State.exclude_keeps {z s : State} (hk : Keeps z s) (kind unit : Nat) : Keeps z (State.exclude s kind unit) := by
  unfold State.exclude
  try dsimp only
  repeat' (with_reducible first | assumption | apply State.markUnit_keeps | apply State.setExclusions_keeps | apply State.emit_keeps | apply State.mirror_keeps | split | intro _ | dsimp only | apply Keeps.rest)

theorem State.include_keeps {z s : State} (hk : Keeps z s) (kind unit : Nat) : Keeps z (State.include s kind unit) := by
  unfold State.include
  try dsimp only
  repeat' (with_reducible first | assumption | apply State.markUnit_keeps | apply State.setExclusions_keeps | split | intro _ | dsimp only | apply Keeps.rest)

theorem State.withInjection_keeps {z s : State} {target unit word : Nat} {f : State → Nat → State} (hk : Keeps z s)
    (hf : ∀ st w, Keeps z st → Keeps z (f st w)) : Keeps z (State.withInjection s target unit word f) := by
  unfold State.withInjection
  split
  · split
    · dsimp only
      apply Keeps.rest
      apply hf
      apply Keeps.rest
      exact State.setN_keeps hk _ _
    · exact hf _ _ hk
  · exact hf _ _ hk

theorem State.fireInjection_keeps {z s : State} (hk : Keeps z s)  : Keeps z (State.fireInjection s) := by
  unfold State.fireInjection
  try dsimp only
  repeat' (with_reducible first | assumption | apply State.setN_keeps | split | intro _ | dsimp only | apply Keeps.rest)

/-! ## Machine/Sessions.lean -/

theorem State.sendOn_keeps {z s : State} (hk : Keeps z s) (via : Via) (raw : Bytes) : Keeps z (State.sendOn s via raw) := by
  unfold State.sendOn
  try dsimp only
  repeat' (with_reducible first | assumption | apply State.emit_keeps | split | intro _ | dsimp only | apply Keeps.rest)

theorem State.modSession_keeps {z s : State} (hk : Keeps z s) (slot : Nat) (f : Session → Session) : Keeps z (State.modSession s slot f) := by
  unfold State.modSession
  try dsimp only
  repeat' (with_reducible first | assumption | split | intro _ | dsimp only | apply Keeps.rest)

theorem State.sendReply_keeps {z s : State} (hk : Keeps z s) (tk : Ticket) (raw : Bytes) : Keeps z (State.sendReply s tk raw) := by
  unfold State.sendReply
  try dsimp only
  repeat' (with_reducible first | assumption | apply State.sendOn_keeps | apply State.modSession_keeps | split | intro _ | dsimp only | apply Keeps.rest)

theorem State.reply_keeps {z s : State} (hk : Keeps z s) (tk : Ticket) (status : Nat) (body : Bytes) : Keeps z (State.reply s tk status body) := by
  unfold State.reply
  try dsimp only
  repeat' (with_reducible first | assumption | apply State.sendReply_keeps | split | intro _ | dsimp only | apply Keeps.rest)

theorem State.replyMirrored_keeps {z s : State} (hk : Keeps z s) (before : Nat) (tk : Ticket) (status : Nat) (body : Bytes) : Keeps z (State.replyMirrored s before tk status body) := by
  unfold State.replyMirrored
  try dsimp only
  repeat' (with_reducible first | assumption | apply State.reply_keeps | split | intro _ | dsimp only | apply Keeps.rest)

theorem State.releaseHeld_keeps {z s : State} (hk : Keeps z s) (acked : Nat) : Keeps z (State.releaseHeld s acked) := by
  unfold State.releaseHeld
  try dsimp only
  repeat' (with_reducible first | assumption | apply State.sendReply_keeps | apply keeps_foldl | apply keeps_foldl_fst | apply keeps_foldl_snd | split | intro _ | dsimp only | apply Keeps.rest)

theorem State.releaseAllHeld_keeps {z s : State} (hk : Keeps z s)  : Keeps z (State.releaseAllHeld s) := by
  unfold State.releaseAllHeld
  try dsimp only
  repeat' (with_reducible first | assumption | apply State.sendReply_keeps | apply keeps_foldl | apply keeps_foldl_fst | apply keeps_foldl_snd | split | intro _ | dsimp only | apply Keeps.rest)

theorem State.showSessions_keeps {z s : State} (hk : Keeps z s)  : Keeps z (State.showSessions s) := by
  unfold State.showSessions
  try dsimp only
  repeat' (with_reducible first | assumption | apply State.setN_keeps | split | intro _ | dsimp only | apply Keeps.rest)

theorem State.closeSession_keeps {z s : State} (hk : Keeps z s) (slot : Nat) : Keeps z (State.closeSession s slot) := by
  unfold State.closeSession
  try dsimp only
  repeat' (with_reducible first | assumption | apply State.setN_keeps | apply State.setB_keeps | apply State.showSessions_keeps | split | intro _ | dsimp only | apply Keeps.rest)

theorem State.closeRekeyed_keeps {z s : State} (hk : Keeps z s) (role : Nat) (old : Bytes) : Keeps z (State.closeRekeyed s role old) := by
  unfold State.closeRekeyed
  try dsimp only
  repeat' (with_reducible first | assumption | apply State.closeSession_keeps | apply keeps_foldl | apply keeps_foldl_fst | apply keeps_foldl_snd | split | intro _ | dsimp only | apply Keeps.rest)

end Sys2Proof.Machine
end

