-- ==== Sys2Proof/Laws/KeepsSwitching.lean ====
section
/-! SUPPORT. What each operation on a state keeps (`Keeps`, in Laws/Keeps.lean): takes, the placer, salvos and frame stores. -/

set_option linter.all false

namespace Sys2Proof.Machine

/-! ## Machine/Taking.lean -/

theorem State.modTake_keeps {z s : State} (hk : Keeps z s) (num : Nat) (f : TakeRec → TakeRec) : Keeps z (State.modTake s num f) := by
  unfold State.modTake
  try dsimp only
  repeat' (with_reducible first | assumption | split | intro _ | dsimp only | apply Keeps.rest)

theorem State.dropTake_keeps {z s : State} (hk : Keeps z s) (num : Nat) : Keeps z (State.dropTake s num) := by
  unfold State.dropTake
  try dsimp only
  repeat' (with_reducible first | assumption | split | intro _ | dsimp only | apply Keeps.rest)

theorem State.showTake_keeps {z s : State} (hk : Keeps z s) (slot st : Nat) : Keeps z (State.showTake s slot st) := by
  unfold State.showTake
  try dsimp only
  repeat' (with_reducible first | assumption | apply State.setN_keeps | split | intro _ | dsimp only | apply Keeps.rest)

theorem State.finishTake_keeps {z s : State} (hk : Keeps z s) (slot st : Nat) : Keeps z (State.finishTake s slot st) := by
  unfold State.finishTake
  try dsimp only
  repeat' (with_reducible first | assumption | apply State.showTake_keeps | split | intro _ | dsimp only | apply Keeps.rest)

theorem State.clearSlot_keeps {z s : State} (hk : Keeps z s) (slot : Nat) : Keeps z (State.clearSlot s slot) := by
  unfold State.clearSlot
  try dsimp only
  repeat' (with_reducible first | assumption | apply State.set_keeps | apply keeps_foldl | apply keeps_foldl_fst | apply keeps_foldl_snd | split | intro _ | dsimp only | apply Keeps.rest)

theorem State.slotFlag_keeps {z s : State} (hk : Keeps z s) (slot bit : Nat) : Keeps z (State.slotFlag s slot bit) := by
  unfold State.slotFlag
  try dsimp only
  repeat' (with_reducible first | assumption | apply State.setBit_keeps | split | intro _ | dsimp only | apply Keeps.rest)

theorem State.answerTake_keeps {z s : State} (hk : Keeps z s) (r : TakeRec) (before : Nat) : Keeps z (State.answerTake s r before) := by
  unfold State.answerTake
  try dsimp only
  repeat' (with_reducible first | assumption | apply State.count_keeps | apply State.replyMirrored_keeps | apply State.modTake_keeps | split | intro _ | dsimp only | apply Keeps.rest)

theorem State.showAsrc_keeps {z s : State} (hk : Keeps z s) (a : AsrcBook) (inUse : Bool) : Keeps z (State.showAsrc s a inUse) := by
  unfold State.showAsrc
  try dsimp only
  repeat' (with_reducible first | assumption | apply State.setN_keeps | split | intro _ | dsimp only | apply Keeps.rest)

theorem State.takeAsrc_keeps {z s : State} (hk : Keeps z s) (l : List AsrcBook) : Keeps z (State.takeAsrc s l) := by
  unfold State.takeAsrc
  try dsimp only
  repeat' (with_reducible first | assumption | apply State.showAsrc_keeps | apply keeps_foldl | apply keeps_foldl_fst | apply keeps_foldl_snd | split | intro _ | dsimp only | apply Keeps.rest)

theorem State.sweepAsrc_keeps {z s : State} (hk : Keeps z s)  : Keeps z (State.sweepAsrc s) := by
  unfold State.sweepAsrc
  try dsimp only
  repeat' (with_reducible first | assumption | apply State.showAsrc_keeps | apply keeps_foldl | apply keeps_foldl_fst | apply keeps_foldl_snd | split | intro _ | dsimp only | apply Keeps.rest)

theorem State.sweep_keeps {z s : State} (hk : Keeps z s)  : Keeps z (State.sweep s) := by
  unfold State.sweep
  try dsimp only
  repeat' (with_reducible first | assumption | apply State.sweepStores_keeps | apply State.setN_keeps | apply State.sweepAsrc_keeps | apply keeps_foldl | apply keeps_foldl_fst | apply keeps_foldl_snd | split | intro _ | dsimp only | apply Keeps.rest)

theorem State.enqueue_keeps {z s : State} (hk : Keeps z s) (t : Task) : Keeps z (State.enqueue s t) := by
  unfold State.enqueue
  try dsimp only
  repeat' (with_reducible first | assumption | split | intro _ | dsimp only | apply Keeps.rest)

theorem State.retryLost_keeps {z s : State} (hk : Keeps z s)  : Keeps z (State.retryLost s) := by
  unfold State.retryLost
  try dsimp only
  repeat' (with_reducible first | assumption | apply State.enqueue_keeps | apply keeps_foldl | apply keeps_foldl_fst | apply keeps_foldl_snd | split | intro _ | dsimp only | apply Keeps.rest)

theorem State.reviewLost_keeps {z s : State} (hk : Keeps z s)  : Keeps z (State.reviewLost s) := by
  unfold State.reviewLost
  try dsimp only
  repeat' (with_reducible first | assumption | apply State.endFault_keeps | split | intro _ | dsimp only | apply Keeps.rest)

theorem State.loseRoute_keeps {z s : State} (hk : Keeps z s) (d : Dst) : Keeps z (State.loseRoute s d) := by
  unfold State.loseRoute
  try dsimp only
  repeat' (with_reducible first | assumption | apply State.follow_keeps | split | intro _ | dsimp only | apply Keeps.rest)

theorem State.failRoutes_keeps {z s : State} (hk : Keeps z s) (p : Placement → Bool) : Keeps z (State.failRoutes s p) := by
  unfold State.failRoutes
  try dsimp only
  repeat' (with_reducible first | assumption | apply State.retryLost_keeps | split | intro _ | dsimp only | apply Keeps.rest)

theorem State.abandonTake_keeps {z s : State} (hk : Keeps z s) (num : Nat) : Keeps z (State.abandonTake s num) := by
  unfold State.abandonTake
  try dsimp only
  repeat' (with_reducible first | assumption | apply State.mirror_keeps | apply State.retryLost_keeps | apply State.dropTake_keeps | apply State.sweep_keeps | split | intro _ | dsimp only | apply Keeps.rest)

theorem State.supersede_keeps {z s : State} (hk : Keeps z s) (d : Dst) (num : Nat) : Keeps z (State.supersede s d num) := by
  unfold State.supersede
  try dsimp only
  repeat' (with_reducible first | assumption | apply State.answerTake_keeps | apply State.finishTake_keeps | apply State.abandonTake_keeps | apply keeps_foldl | apply keeps_foldl_fst | apply keeps_foldl_snd | split | intro _ | dsimp only | apply Keeps.rest)

theorem State.arm_keeps {z s : State} (hk : Keeps z s) (num : Nat) : Keeps z (State.arm s num) := by
  unfold State.arm
  try dsimp only
  repeat' (with_reducible first | assumption | apply State.mirror_keeps | apply State.showTake_keeps | apply State.modTake_keeps | split | intro _ | dsimp only | apply Keeps.rest)

theorem State.pathReady_keeps {z s : State} (hk : Keeps z s) (num : Nat) : Keeps z (State.pathReady s num) := by
  unfold State.pathReady
  try dsimp only
  repeat' (with_reducible first | assumption | apply State.showTake_keeps | apply State.arm_keeps | apply State.modTake_keeps | split | intro _ | dsimp only | apply Keeps.rest)

theorem State.afterPlaced_keeps {z s : State} (hk : Keeps z s) (num : Nat) : Keeps z (State.afterPlaced s num) := by
  unfold State.afterPlaced
  try dsimp only
  repeat' (with_reducible first | assumption | apply State.pathReady_keeps | apply State.showTake_keeps | apply State.modTake_keeps | split | intro _ | dsimp only | apply Keeps.rest)

theorem State.startRepl_keeps {z s : State} (hk : Keeps z s) (d : Dst) (pl : Placement) : Keeps z (State.startRepl s d pl) := by
  unfold State.startRepl
  try dsimp only
  repeat' (with_reducible first | assumption | apply State.afterPlaced_keeps | apply State.dropTake_keeps | apply keeps_foldl | apply keeps_foldl_fst | apply keeps_foldl_snd | split | intro _ | dsimp only | apply Keeps.rest)

theorem State.followOne_keeps {z s : State} (hk : Keeps z s) (lead : Placement) (f : Dst × Option Nat) : Keeps z (State.followOne s lead f) := by
  unfold State.followOne
  try dsimp only
  repeat' (with_reducible first | assumption | apply State.takeAsrc_keeps | apply State.follow_keeps | apply State.set_keeps | split | intro _ | dsimp only | apply Keeps.rest)

theorem State.giveAsrc_keeps {z s : State} (hk : Keeps z s) (r : Route) : Keeps z (State.giveAsrc s r) := by
  unfold State.giveAsrc
  try dsimp only
  repeat' (with_reducible first | assumption | apply State.takeAsrc_keeps | apply State.startRepl_keeps | split | intro _ | dsimp only | apply Keeps.rest)

theorem State.retryShort_keeps {z s : State} (hk : Keeps z s)  : Keeps z (State.retryShort s) := by
  unfold State.retryShort
  try dsimp only
  repeat' (with_reducible first | assumption | apply State.endFault_keeps | apply State.giveAsrc_keeps | apply keeps_foldl | apply keeps_foldl_fst | apply keeps_foldl_snd | split | intro _ | dsimp only | apply Keeps.rest)

theorem State.pruneAsrc_keeps {z s : State} (hk : Keeps z s) (d : Nat) : Keeps z (State.pruneAsrc s d) := by
  unfold State.pruneAsrc
  try dsimp only
  repeat' (with_reducible first | assumption | split | intro _ | dsimp only | apply Keeps.rest)

theorem State.applyFollow_keeps {z s : State} (hk : Keeps z s) (d : Nat) : Keeps z (State.applyFollow s d) := by
  unfold State.applyFollow
  try dsimp only
  repeat' (with_reducible first | assumption | apply State.pruneAsrc_keeps | apply State.followOne_keeps | apply State.retryShort_keeps | apply State.sweepAsrc_keeps | apply keeps_foldl | apply keeps_foldl_fst | apply keeps_foldl_snd | split | intro _ | dsimp only | apply Keeps.rest)

theorem State.breakAway_keeps {z s : State} (hk : Keeps z s) (d : Dst) : Keeps z (State.breakAway s d) := by
  unfold State.breakAway
  try dsimp only
  repeat' (with_reducible first | assumption | apply State.setBit_keeps | apply keeps_foldl | apply keeps_foldl_fst | apply keeps_foldl_snd | split | intro _ | dsimp only | apply Keeps.rest)

theorem State.putRead_keeps {z s : State} (hk : Keeps z s) (r : ReadRec) : Keeps z (State.putRead s r) := by
  unfold State.putRead
  try dsimp only
  repeat' (with_reducible first | assumption | split | intro _ | dsimp only | apply Keeps.rest)

theorem State.delayChange_keeps {z s : State} (hk : Keeps z s) (d old new : Nat) (taken : Bool) : Keeps z (State.delayChange s d old new taken) := by
  unfold State.delayChange
  try dsimp only
  repeat' (with_reducible first | assumption | apply State.putRead_keeps | split | intro _ | dsimp only | apply Keeps.rest)

theorem State.reportSwitch_keeps {z s : State} (hk : Keeps z s) (r : TakeRec) (pl : Placement) (at' : Nat) : Keeps z (State.reportSwitch s r pl at') := by
  unfold State.reportSwitch
  try dsimp only
  repeat' (with_reducible first | assumption | apply State.slotFlag_keeps | apply State.count_keeps | apply State.finishTake_keeps | apply State.setN_keeps | apply State.strike_keeps | split | intro _ | dsimp only | apply Keeps.rest)

theorem State.changeOver_keeps {z s : State} (hk : Keeps z s) (d : Dst) (pl : Placement) : Keeps z (State.changeOver s d pl) := by
  unfold State.changeOver
  try dsimp only
  repeat' (with_reducible first | assumption | split | intro _ | dsimp only | apply Keeps.rest)

theorem State.switchOne_keeps {z s : State} (hk : Keeps z s) (r : TakeRec) (at' : Nat) : Keeps z (State.switchOne s r at') := by
  unfold State.switchOne
  try dsimp only
  repeat' (with_reducible first | assumption | apply State.count_keeps | apply State.putRead_keeps | apply State.reportSwitch_keeps | apply State.setN_keeps | apply State.changeOver_keeps | apply State.dropTake_keeps | apply State.reviewLost_keeps | apply State.startRepl_keeps | split | intro _ | dsimp only | apply Keeps.rest)

theorem State.releaseOld_keeps {z s : State} (hk : Keeps z s) (p : Route → Bool) : Keeps z (State.releaseOld s p) := by
  unfold State.releaseOld
  try dsimp only
  repeat' (with_reducible first | assumption | apply State.retryShort_keeps | apply State.retryLost_keeps | apply State.sweep_keeps | split | intro _ | dsimp only | apply Keeps.rest)

theorem State.switchInstant_keeps {z s : State} (hk : Keeps z s) (d : Dst) : Keeps z (State.switchInstant s d) := by
  unfold State.switchInstant
  try dsimp only
  repeat' (with_reducible first | assumption | apply State.switchOne_keeps | apply State.releaseOld_keeps | apply State.delayChange_keeps | apply State.takeEffect_keeps | apply State.applyFollow_keeps | apply keeps_foldl | apply keeps_foldl_fst | apply keeps_foldl_snd | split | intro _ | dsimp only | apply Keeps.rest)

theorem State.noteHints_keeps {z s : State} (hk : Keeps z s) (pl : Placement) : Keeps z (State.noteHints s pl) := by
  unfold State.noteHints
  try dsimp only
  repeat' (with_reducible first | assumption | apply State.setN_keeps | apply keeps_foldl | apply keeps_foldl_fst | apply keeps_foldl_snd | split | intro _ | dsimp only | apply Keeps.rest)

theorem State.noteHintRefusal_keeps {z s : State} (hk : Keeps z s) (src dst : Nat) : Keeps z (State.noteHintRefusal s src dst) := by
  unfold State.noteHintRefusal
  try dsimp only
  repeat' (with_reducible first | assumption | apply State.setN_keeps | apply keeps_foldl | apply keeps_foldl_fst | apply keeps_foldl_snd | split | intro _ | dsimp only | apply Keeps.rest)

theorem State.noteRefusal_keeps {z s : State} (hk : Keeps z s) (r : Refuse) (dstId : Nat) : Keeps z (State.noteRefusal s r dstId) := by
  unfold State.noteRefusal
  try dsimp only
  repeat' (with_reducible first | assumption | apply State.count_keeps | apply State.setN_keeps | split | intro _ | dsimp only | apply Keeps.rest)

theorem State.noteRefused_keeps {z s : State} (hk : Keeps z s) (why : Refuse) (src dst : Nat) : Keeps z (State.noteRefused s why src dst) := by
  unfold State.noteRefused
  try dsimp only
  repeat' (with_reducible first | assumption | apply State.noteHintRefusal_keeps | apply State.noteRefusal_keeps | split | intro _ | dsimp only | apply Keeps.rest)

theorem State.refuseTake_keeps {z s : State} (hk : Keeps z s) (r : TakeRec) (why : Refuse) : Keeps z (State.refuseTake s r why) := by
  unfold State.refuseTake
  try dsimp only
  repeat' (with_reducible first | assumption | apply State.replyMirrored_keeps | apply State.loseRoute_keeps | apply State.clearSlot_keeps | apply State.abandonTake_keeps | apply State.noteRefused_keeps | split | intro _ | dsimp only | apply Keeps.rest)

theorem State.cancelTake_keeps_eq {z s : State} {r : State} {slot : Nat} (hk : Keeps z s) (hr : State.cancelTake s slot = .ok r) : Keeps z r := by
  unfold State.cancelTake at hr
  try dsimp only at hr
  repeat' (split at hr)
  all_goals first | (simp only [reduceCtorEq] at hr; done) | (replace hr := Except.ok.inj hr; subst hr; (try dsimp only); repeat' (with_reducible first | assumption | apply State.answerTake_keeps | apply State.finishTake_keeps | apply State.abandonTake_keeps | apply State.retryShort_keeps | split | intro _ | dsimp only | apply Keeps.rest))

theorem State.askReplace_keeps {z s : State} (hk : Keeps z s) (d : Dst) : Keeps z (State.askReplace s d) := by
  unfold State.askReplace
  try dsimp only
  repeat' (with_reducible first | assumption | apply State.enqueue_keeps | split | intro _ | dsimp only | apply Keeps.rest)

/-! ## Machine/Placer.lean -/

theorem State.withPlan_keeps {z s : State} (hk : Keeps z s) (t : Task) (p : Plan) : Keeps z (State.withPlan s t p) := by
  unfold State.withPlan
  try dsimp only
  repeat' (with_reducible first | assumption | split | intro _ | dsimp only | apply Keeps.rest)

theorem State.without_keeps {z s : State} (hk : Keeps z s) (d : Dst) : Keeps z (State.without s d) := by
  unfold State.without
  try dsimp only
  repeat' (with_reducible first | assumption | split | intro _ | dsimp only | apply Keeps.rest)

theorem State.askAfar_keeps {z s : State} (hk : Keeps z s) (d : Dst) (src : Nat) : Keeps z (State.askAfar s d src).1 := by
  unfold State.askAfar
  try dsimp only
  repeat' (with_reducible first | assumption | split | intro _ | dsimp only | apply Keeps.rest)
theorem State.askAfar_keeps_eq {z s s1 : State} {c : Task} {d : Dst} {src : Nat} (hk : Keeps z s) (hr : State.askAfar s d src = (s1, c)) : Keeps z s1 := by
  have kk := State.askAfar_keeps (z := z) hk d src
  rw [hr] at kk
  exact kk

theorem State.restoreTask_keeps {z s : State} (hk : Keeps z s) (t : Task) : Keeps z (State.restoreTask s t).1 := by
  unfold State.restoreTask
  try dsimp only
  repeat' (with_reducible first | assumption | apply State.askAfar_keeps | refine State.askAfar_keeps_eq ?_ (by assumption) | split | intro _ | dsimp only | apply Keeps.rest)
theorem State.restoreTask_keeps_eq {z s s1 : State} {c : Task} {t : Task} (hk : Keeps z s) (hr : State.restoreTask s t = (s1, c)) : Keeps z s1 := by
  have kk := State.restoreTask_keeps (z := z) hk t
  rw [hr] at kk
  exact kk

theorem State.startTask_keeps {z s0 : State} (hk : Keeps z s0) (t0 : Task) : Keeps z (State.startTask s0 t0) := by
  unfold State.startTask
  try dsimp only
  repeat' (with_reducible first | assumption | apply State.emit_keeps | apply State.restoreTask_keeps | refine State.restoreTask_keeps_eq ?_ (by assumption) | apply keeps_foldl | apply keeps_foldl_fst | apply keeps_foldl_snd | split | intro _ | dsimp only | apply Keeps.rest)

theorem State.moveStoreStripe_keeps {z s : State} (hk : Keeps z s) (m : Nat × Nat × Nat) : Keeps z (State.moveStoreStripe s m) := by
  unfold State.moveStoreStripe
  try dsimp only
  repeat' (with_reducible first | assumption | split | intro _ | dsimp only | apply Keeps.rest)

theorem State.markDeepening_keeps {z s : State} (hk : Keeps z s) (e : Nat × Nat) : Keeps z (State.markDeepening s e) := by
  unfold State.markDeepening
  try dsimp only
  repeat' (with_reducible first | assumption | split | intro _ | dsimp only | apply Keeps.rest)

theorem State.mirrorPlan_keeps {z s : State} (hk : Keeps z s) (p : Plan) : Keeps z (State.mirrorPlan s p) := by
  unfold State.mirrorPlan
  try dsimp only
  repeat' (with_reducible first | assumption | apply State.mirror_keeps | apply keeps_foldl | apply keeps_foldl_fst | apply keeps_foldl_snd | split | intro _ | dsimp only | apply Keeps.rest)

theorem State.book_keeps {z s0 : State} (hk : Keeps z s0) (p : Plan) : Keeps z (State.book s0 p) := by
  unfold State.book
  try dsimp only
  repeat' (with_reducible first | assumption | apply State.takeAsrc_keeps | apply State.markDeepening_keeps | apply State.setN_keeps | apply State.mirrorPlan_keeps | apply keeps_foldl | apply keeps_foldl_fst | apply keeps_foldl_snd | split | intro _ | dsimp only | apply Keeps.rest)

theorem State.givePlacement_keeps {z s : State} (hk : Keeps z s) (num : Nat) (pl : Placement) : Keeps z (State.givePlacement s num pl) := by
  unfold State.givePlacement
  try dsimp only
  repeat' (with_reducible first | assumption | apply State.modTake_keeps | apply State.noteHints_keeps | apply State.mirror_keeps | split | intro _ | dsimp only | apply Keeps.rest)

theorem State.taskOver_keeps {z s : State} (hk : Keeps z s)  : Keeps z (State.taskOver s) := by
  unfold State.taskOver
  try dsimp only
  repeat' (with_reducible first | assumption | split | intro _ | dsimp only | apply Keeps.rest)

theorem State.makeMoves_keeps {z s : State} (hk : Keeps z s) (t : Task) (ms : List (Nat × Nat × Nat)) : Keeps z (State.makeMoves s t ms) := by
  unfold State.makeMoves
  try dsimp only
  repeat' (with_reducible first | assumption | apply State.startRepl_keeps | apply State.moveStoreStripe_keeps | apply keeps_foldl | apply keeps_foldl_fst | apply keeps_foldl_snd | split | intro _ | dsimp only | apply Keeps.rest)

theorem State.beginRepl_keeps {z s : State} (hk : Keeps z s) (d : Dst) (pl : Placement) : Keeps z (State.beginRepl s d pl) := by
  unfold State.beginRepl
  try dsimp only
  repeat' (with_reducible first | assumption | apply State.noteHints_keeps | apply State.startRepl_keeps | apply State.mirror_keeps | split | intro _ | dsimp only | apply Keeps.rest)

theorem State.completeTake_keeps {z s : State} (hk : Keeps z s) (num : Nat) (p : Plan) : Keeps z (State.completeTake s num p) := by
  unfold State.completeTake
  try dsimp only
  repeat' (with_reducible first | assumption | apply State.answerTake_keeps | apply State.slotFlag_keeps | apply State.count_keeps | apply State.afterPlaced_keeps | apply State.book_keeps | apply State.refuseTake_keeps | apply State.givePlacement_keeps | split | intro _ | dsimp only | apply Keeps.rest)

theorem State.completePart_keeps {z s : State} (hk : Keeps z s) (p : Plan) : Keeps z (State.completePart s p) := by
  unfold State.completePart
  try dsimp only
  repeat' (with_reducible first | assumption | apply State.count_keeps | apply State.book_keeps | apply State.givePlacement_keeps | apply State.afterPlaced_keeps | apply keeps_foldl | apply keeps_foldl_fst | apply keeps_foldl_snd | split | intro _ | dsimp only | apply Keeps.rest)

theorem State.completeReserve_keeps {z s : State} (hk : Keeps z s) (head ident : Nat) (v : Verdict) : Keeps z (State.completeReserve s head ident v) := by
  unfold State.completeReserve
  try dsimp only
  repeat' (with_reducible first | assumption | apply State.emit_keeps | apply State.book_keeps | split | intro _ | dsimp only | apply Keeps.rest)

theorem State.dropReserve_keeps {z s : State} (hk : Keeps z s) (head ident : Nat) : Keeps z (State.dropReserve s head ident) := by
  unfold State.dropReserve
  try dsimp only
  repeat' (with_reducible first | assumption | split | intro _ | dsimp only | apply Keeps.rest)

theorem State.releaseReserve_keeps {z s : State} (hk : Keeps z s) (head ident : Nat) : Keeps z (State.releaseReserve s head ident) := by
  unfold State.releaseReserve
  try dsimp only
  repeat' (with_reducible first | assumption | apply State.dropReserve_keeps | apply State.sweep_keeps | apply State.retryLost_keeps | split | intro _ | dsimp only | apply Keeps.rest)

theorem State.confirmReserve_keeps {z s : State} (hk : Keeps z s) (head ident : Nat) : Keeps z (State.confirmReserve s head ident) := by
  unfold State.confirmReserve
  try dsimp only
  repeat' (with_reducible first | assumption | apply State.answerTake_keeps | apply State.dropReserve_keeps | apply State.count_keeps | apply State.afterPlaced_keeps | apply State.givePlacement_keeps | split | intro _ | dsimp only | apply Keeps.rest)

/-! ## Machine/Members.lean -/

theorem State.joinLeg_keeps {z s : State} (hk : Keeps z s) (fam inst leg : Nat) : Keeps z (State.joinLeg s fam inst leg) := by
  unfold State.joinLeg
  try dsimp only
  repeat' (with_reducible first | assumption | apply State.emit_keeps | split | intro _ | dsimp only | apply Keeps.rest)

theorem State.joinFlow_keeps {z s : State} (hk : Keeps z s) (fam inst : Nat) : Keeps z (State.joinFlow s fam inst) := by
  unfold State.joinFlow
  try dsimp only
  repeat' (with_reducible first | assumption | apply State.joinLeg_keeps | apply keeps_foldl | apply keeps_foldl_fst | apply keeps_foldl_snd | split | intro _ | dsimp only | apply Keeps.rest)

theorem State.leaveFlow_keeps {z s : State} (hk : Keeps z s) (fam inst : Nat) : Keeps z (State.leaveFlow s fam inst) := by
  unfold State.leaveFlow
  try dsimp only
  repeat' (with_reducible first | assumption | apply State.emit_keeps | apply keeps_foldl | apply keeps_foldl_fst | apply keeps_foldl_snd | split | intro _ | dsimp only | apply Keeps.rest)

theorem State.reviewMember_keeps {z s : State} (hk : Keeps z s) (fam inst : Nat) : Keeps z (State.reviewMember s fam inst) := by
  unfold State.reviewMember
  try dsimp only
  repeat' (with_reducible first | assumption | apply State.joinFlow_keeps | split | intro _ | dsimp only | apply Keeps.rest)

theorem State.reviewMembers_keeps {z s : State} (hk : Keeps z s)  : Keeps z (State.reviewMembers s) := by
  unfold State.reviewMembers
  try dsimp only
  repeat' (with_reducible first | assumption | apply State.reviewMember_keeps | apply keeps_foldl | apply keeps_foldl_fst | apply keeps_foldl_snd | split | intro _ | dsimp only | apply Keeps.rest)

/-! ## Machine/Salvos.lean -/

theorem State.writeTakeList_keeps {z s : State} (hk : Keeps z s) (k : Nat) (bs : Bytes) : Keeps z (State.writeTakeList s k bs).2 := by
  unfold State.writeTakeList
  try dsimp only
  repeat' (with_reducible first | assumption | apply State.setN_keeps | apply State.setB_keeps | split | intro _ | dsimp only | apply Keeps.rest)
theorem State.writeTakeList_keeps_eq {z s s1 : State} {c : Nat} {k : Nat} {bs : Bytes} (hk : Keeps z s) (hr : State.writeTakeList s k bs = (c, s1)) : Keeps z s1 := by
  have kk := State.writeTakeList_keeps (z := z) hk k bs
  rw [hr] at kk
  exact kk

theorem State.releaseSalvo_keeps {z s : State} (hk : Keeps z s) (k : Nat) : Keeps z (State.releaseSalvo s k).2 := by
  unfold State.releaseSalvo
  try dsimp only
  repeat' (with_reducible first | assumption | apply State.set_keeps | apply keeps_foldl | apply keeps_foldl_fst | apply keeps_foldl_snd | split | intro _ | dsimp only | apply Keeps.rest)
theorem State.releaseSalvo_keeps_eq {z s s1 : State} {c : Nat} {k : Nat} (hk : Keeps z s) (hr : State.releaseSalvo s k = (c, s1)) : Keeps z s1 := by
  have kk := State.releaseSalvo_keeps (z := z) hk k
  rw [hr] at kk
  exact kk

theorem State.modSalvo_keeps {z s : State} (hk : Keeps z s) (k : Nat) (f : Salvo → Salvo) : Keeps z (State.modSalvo s k f) := by
  unfold State.modSalvo
  try dsimp only
  repeat' (with_reducible first | assumption | split | intro _ | dsimp only | apply Keeps.rest)

theorem State.modPart_keeps {z s : State} (hk : Keeps z s) (coord slot : Nat) (f : Part → Part) : Keeps z (State.modPart s coord slot f) := by
  unfold State.modPart
  try dsimp only
  repeat' (with_reducible first | assumption | split | intro _ | dsimp only | apply Keeps.rest)

theorem State.removePart_keeps {z s : State} (hk : Keeps z s) (coord slot : Nat) : Keeps z (State.removePart s coord slot) := by
  unfold State.removePart
  try dsimp only
  repeat' (with_reducible first | assumption | split | intro _ | dsimp only | apply Keeps.rest)

theorem State.showResults_keeps {z s : State} (hk : Keeps z s) (k : Nat) (res : List (Nat × Nat)) : Keeps z (State.showResults s k res) := by
  unfold State.showResults
  try dsimp only
  repeat' (with_reducible first | assumption | apply State.setB_keeps | split | intro _ | dsimp only | apply Keeps.rest)

theorem State.dropPart_keeps {z s : State} (hk : Keeps z s) (coord slot : Nat) : Keeps z (State.dropPart s coord slot) := by
  unfold State.dropPart
  try dsimp only
  repeat' (with_reducible first | assumption | apply State.abandonTake_keeps | apply State.removePart_keeps | apply keeps_foldl | apply keeps_foldl_fst | apply keeps_foldl_snd | split | intro _ | dsimp only | apply Keeps.rest)

theorem State.makePart_keeps {z s : State} (hk : Keeps z s) (coord slot gen : Nat) (entries : List (TakeEntry × Nat)) : Keeps z (State.makePart s coord slot gen entries) := by
  unfold State.makePart
  try dsimp only
  repeat' (with_reducible first | assumption | apply State.enqueue_keeps | apply State.mirror_keeps | split | intro _ | dsimp only | apply Keeps.rest)

theorem State.dropSalvo_keeps {z s : State} (hk : Keeps z s) (k cause : Nat) (res : List (Nat × Nat)) : Keeps z (State.dropSalvo s k cause res) := by
  unfold State.dropSalvo
  try dsimp only
  repeat' (with_reducible first | assumption | apply State.count_keeps | apply State.mirror_keeps | apply State.emit_keeps | apply State.dropPart_keeps | apply State.setN_keeps | apply State.setB_keeps | apply State.showResults_keeps | apply keeps_foldl | apply keeps_foldl_fst | apply keeps_foldl_snd | split | intro _ | dsimp only | apply Keeps.rest)

theorem State.partReported_keeps {z s : State} (hk : Keeps z s) (k pair code index : Nat) : Keeps z (State.partReported s k pair code index) := by
  unfold State.partReported
  try dsimp only
  repeat' (with_reducible first | assumption | apply State.setN_keeps | apply State.dropSalvo_keeps | apply State.modSalvo_keeps | split | intro _ | dsimp only | apply Keeps.rest)

theorem State.reportPart_keeps {z s : State} (hk : Keeps z s) (coord slot code index : Nat) : Keeps z (State.reportPart s coord slot code index) := by
  unfold State.reportPart
  try dsimp only
  repeat' (with_reducible first | assumption | apply State.emit_keeps | apply State.partReported_keeps | split | intro _ | dsimp only | apply Keeps.rest)

theorem State.reviewPart_keeps {z s : State} (hk : Keeps z s) (p : Part) : Keeps z (State.reviewPart s p) := by
  unfold State.reviewPart
  try dsimp only
  repeat' (with_reducible first | assumption | apply State.reportPart_keeps | apply State.modPart_keeps | split | intro _ | dsimp only | apply Keeps.rest)

theorem State.reviewParts_keeps {z s : State} (hk : Keeps z s)  : Keeps z (State.reviewParts s) := by
  unfold State.reviewParts
  try dsimp only
  repeat' (with_reducible first | assumption | apply State.reviewPart_keeps | apply keeps_foldl | apply keeps_foldl_fst | apply keeps_foldl_snd | split | intro _ | dsimp only | apply Keeps.rest)

theorem State.partDone_keeps {z s : State} (hk : Keeps z s) (k pair : Nat) (results : List (Nat × Nat)) : Keeps z (State.partDone s k pair results) := by
  unfold State.partDone
  try dsimp only
  repeat' (with_reducible first | assumption | apply State.setN_keeps | apply State.setBit_keeps | apply State.showResults_keeps | apply State.modSalvo_keeps | apply keeps_foldl | apply keeps_foldl_fst | apply keeps_foldl_snd | split | intro _ | dsimp only | apply Keeps.rest)

theorem State.reviewDone_keeps {z s : State} (hk : Keeps z s) (p : Part) : Keeps z (State.reviewDone s p) := by
  unfold State.reviewDone
  try dsimp only
  repeat' (with_reducible first | assumption | apply State.emit_keeps | apply State.partDone_keeps | apply State.removePart_keeps | split | intro _ | dsimp only | apply Keeps.rest)

theorem State.reviewDones_keeps {z s : State} (hk : Keeps z s)  : Keeps z (State.reviewDones s) := by
  unfold State.reviewDones
  try dsimp only
  repeat' (with_reducible first | assumption | apply State.reviewDone_keeps | apply keeps_foldl | apply keeps_foldl_fst | apply keeps_foldl_snd | split | intro _ | dsimp only | apply Keeps.rest)

theorem State.pourPart_keeps {z s : State} (hk : Keeps z s) (coord slot e tb : Nat) : Keeps z (State.pourPart s coord slot e tb) := by
  unfold State.pourPart
  try dsimp only
  repeat' (with_reducible first | assumption | apply State.pathReady_keeps | apply State.modTake_keeps | apply State.modPart_keeps | apply keeps_foldl | apply keeps_foldl_fst | apply keeps_foldl_snd | split | intro _ | dsimp only | apply Keeps.rest)

theorem State.finishPour_keeps {z s : State} (hk : Keeps z s) (k : Nat) (mirrored : Bool) : Keeps z (State.finishPour s k mirrored) := by
  unfold State.finishPour
  try dsimp only
  repeat' (with_reducible first | assumption | apply State.count_keeps | apply State.emit_keeps | apply State.setN_keeps | apply State.setBit_keeps | apply State.pourPart_keeps | apply State.modSalvo_keeps | apply keeps_foldl | apply keeps_foldl_fst | apply keeps_foldl_snd | split | intro _ | dsimp only | apply Keeps.rest)

theorem State.pourSalvo_keeps {z s : State} (hk : Keeps z s) (k : Nat) : Keeps z (State.pourSalvo s k) := by
  unfold State.pourSalvo
  try dsimp only
  repeat' (with_reducible first | assumption | apply State.mirror_keeps | apply State.finishPour_keeps | apply State.modSalvo_keeps | split | intro _ | dsimp only | apply Keeps.rest)

theorem State.pourDue_keeps {z s : State} (hk : Keeps z s) (k : Nat) : Keeps z (State.pourDue s k) := by
  unfold State.pourDue
  try dsimp only
  repeat' (with_reducible first | assumption | apply State.pourSalvo_keeps | apply State.dropSalvo_keeps | split | intro _ | dsimp only | apply Keeps.rest)

theorem State.prepareSalvo_keeps {z s : State} (hk : Keeps z s) (k tb lead e : Nat) : Keeps z (State.prepareSalvo s k tb lead e).2 := by
  unfold State.prepareSalvo
  try dsimp only
  repeat' (with_reducible first | assumption | apply State.emit_keeps | apply State.makePart_keeps | apply State.setN_keeps | apply State.setB_keeps | apply State.showResults_keeps | apply keeps_foldl | apply keeps_foldl_fst | apply keeps_foldl_snd | split | intro _ | dsimp only | apply Keeps.rest)
theorem State.prepareSalvo_keeps_eq {z s s1 : State} {c : Nat} {k tb lead e : Nat} (hk : Keeps z s) (hr : State.prepareSalvo s k tb lead e = (c, s1)) : Keeps z s1 := by
  have kk := State.prepareSalvo_keeps (z := z) hk k tb lead e
  rw [hr] at kk
  exact kk

theorem State.askPour_keeps {z s : State} (hk : Keeps z s) (k : Nat) : Keeps z (State.askPour s k).2 := by
  unfold State.askPour
  try dsimp only
  repeat' (with_reducible first | assumption | apply State.pourSalvo_keeps | split | intro _ | dsimp only | apply Keeps.rest)
theorem State.askPour_keeps_eq {z s s1 : State} {c : Nat} {k : Nat} (hk : Keeps z s) (hr : State.askPour s k = (c, s1)) : Keeps z s1 := by
  have kk := State.askPour_keeps (z := z) hk k
  rw [hr] at kk
  exact kk

theorem State.askDrop_keeps {z s : State} (hk : Keeps z s) (k : Nat) : Keeps z (State.askDrop s k).2 := by
  unfold State.askDrop
  try dsimp only
  repeat' (with_reducible first | assumption | apply State.dropSalvo_keeps | split | intro _ | dsimp only | apply Keeps.rest)
theorem State.askDrop_keeps_eq {z s s1 : State} {c : Nat} {k : Nat} (hk : Keeps z s) (hr : State.askDrop s k = (c, s1)) : Keeps z s1 := by
  have kk := State.askDrop_keeps (z := z) hk k
  rw [hr] at kk
  exact kk

theorem State.memberLost_keeps {z s : State} (hk : Keeps z s) (pair : Nat) : Keeps z (State.memberLost s pair) := by
  unfold State.memberLost
  try dsimp only
  repeat' (with_reducible first | assumption | apply State.dropSalvo_keeps | apply keeps_foldl | apply keeps_foldl_fst | apply keeps_foldl_snd | split | intro _ | dsimp only | apply Keeps.rest)

theorem State.afterStep_keeps {z s : State} (hk : Keeps z s) (tb : Nat) : Keeps z (State.afterStep s tb) := by
  unfold State.afterStep
  try dsimp only
  repeat' (with_reducible first | assumption | apply State.pathReady_keeps | apply State.pourDue_keeps | apply keeps_foldl | apply keeps_foldl_fst | apply keeps_foldl_snd | split | intro _ | dsimp only | apply Keeps.rest)

theorem State.completePlaced_keeps {z s : State} (hk : Keeps z s) (t : Task) (p : Plan) : Keeps z (State.completePlaced s t p) := by
  unfold State.completePlaced
  try dsimp only
  repeat' (with_reducible first | assumption | apply State.reportPart_keeps | apply State.beginRepl_keeps | apply State.dropPart_keeps | apply State.reviewParts_keeps | apply State.book_keeps | apply State.completeTake_keeps | apply State.completeReserve_keeps | apply State.noteRefusal_keeps | apply State.completePart_keeps | apply keeps_foldl | apply keeps_foldl_fst | apply keeps_foldl_snd | split | intro _ | dsimp only | apply Keeps.rest)

theorem State.completeRefused_keeps {z s : State} (hk : Keeps z s) (t : Task) (c d i : Nat) : Keeps z (State.completeRefused s t c d i) := by
  unfold State.completeRefused
  try dsimp only
  repeat' (with_reducible first | assumption | apply State.reportPart_keeps | apply State.loseRoute_keeps | apply State.dropPart_keeps | apply State.noteRefused_keeps | apply State.refuseTake_keeps | apply State.completeReserve_keeps | apply State.noteRefusal_keeps | split | intro _ | dsimp only | apply Keeps.rest)

theorem State.completeTask_keeps {z s : State} (hk : Keeps z s) (t : Task) (v : Verdict) : Keeps z (State.completeTask s t v) := by
  unfold State.completeTask
  try dsimp only
  repeat' (with_reducible first | assumption | apply State.completePlaced_keeps | apply State.completeRefused_keeps | apply State.taskOver_keeps | apply State.makeMoves_keeps | split | intro _ | dsimp only | apply Keeps.rest)

/-! ## Machine/Stores.lean -/

theorem State.setMark_keeps {z s : State} (hk : Keeps z s) (d v : Nat) : Keeps z (State.setMark s d v) := by
  unfold State.setMark
  try dsimp only
  repeat' (with_reducible first | assumption | split | intro _ | dsimp only | apply Keeps.rest)

theorem State.fillLine_keeps {z s : State} (hk : Keeps z s) (d line : Nat) : Keeps z (State.fillLine s d line) := by
  unfold State.fillLine
  try dsimp only
  repeat' (with_reducible first | assumption | apply State.emit_keeps | apply State.setMark_keeps | apply State.count_keeps | apply State.follow_keeps | split | intro _ | dsimp only | apply Keeps.rest)

theorem State.reviewFormat_keeps {z s : State} (hk : Keeps z s) (d : Nat) : Keeps z (State.reviewFormat s d) := by
  unfold State.reviewFormat
  try dsimp only
  repeat' (with_reducible first | assumption | apply State.followShared_keeps | split | intro _ | dsimp only | apply Keeps.rest)

theorem State.measure_keeps {z s : State} (hk : Keeps z s) (x : Nat) : Keeps z (State.measure s x) := by
  unfold State.measure
  try dsimp only
  repeat' (with_reducible first | assumption | apply State.setN_keeps | apply State.setI_keeps | split | intro _ | dsimp only | apply Keeps.rest)

theorem State.modStore_keeps {z s : State} (hk : Keeps z s) (i : Nat) (f : StoreRec → StoreRec) : Keeps z (State.modStore s i f) := by
  unfold State.modStore
  try dsimp only
  repeat' (with_reducible first | assumption | split | intro _ | dsimp only | apply Keeps.rest)

theorem State.storeFrame_keeps {z s : State} (hk : Keeps z s) (src fmt count : Nat) (whole : Bool) : Keeps z (State.storeFrame s src fmt count whole) := by
  unfold State.storeFrame
  try dsimp only
  repeat' (with_reducible first | assumption | apply State.count_keeps | split | intro _ | dsimp only | apply Keeps.rest)

theorem State.stopStores_keeps {z s : State} (hk : Keeps z s) (src : Nat) : Keeps z (State.stopStores s src) := by
  unfold State.stopStores
  try dsimp only
  repeat' (with_reducible first | assumption | split | intro _ | dsimp only | apply Keeps.rest)

theorem State.moveOn_keeps {z s : State} (hk : Keeps z s) (src : Nat) : Keeps z (State.moveOn s src) := by
  unfold State.moveOn
  try dsimp only
  repeat' (with_reducible first | assumption | split | intro _ | dsimp only | apply Keeps.rest)

theorem State.watchDelta_keeps {z s : State} (hk : Keeps z s) (x : Nat) : Keeps z (State.watchDelta s x) := by
  unfold State.watchDelta
  try dsimp only
  repeat' (with_reducible first | assumption | apply State.askReplace_keeps | apply keeps_foldl | apply keeps_foldl_fst | apply keeps_foldl_snd | split | intro _ | dsimp only | apply Keeps.rest)

theorem State.reviewLinebuf_keeps {z s : State} (hk : Keeps z s) (n : Nat) : Keeps z (State.reviewLinebuf s n) := by
  unfold State.reviewLinebuf
  try dsimp only
  repeat' (with_reducible first | assumption | apply State.followShared_keeps | split | intro _ | dsimp only | apply Keeps.rest)

theorem State.putScaler_keeps {z s : State} (hk : Keeps z s) (r : ScalerRec) : Keeps z (State.putScaler s r) := by
  unfold State.putScaler
  try dsimp only
  repeat' (with_reducible first | assumption | split | intro _ | dsimp only | apply Keeps.rest)

theorem State.reviewScaler_keeps {z s : State} (hk : Keeps z s) (n : Nat) : Keeps z (State.reviewScaler s n) := by
  unfold State.reviewScaler
  try dsimp only
  repeat' (with_reducible first | assumption | apply State.reviewLinebuf_keeps | apply State.count_keeps | apply State.putScaler_keeps | split | intro _ | dsimp only | apply Keeps.rest)

theorem State.growScaler_keeps {z s : State} (hk : Keeps z s) (n : Nat) : Keeps z (State.growScaler s n) := by
  unfold State.growScaler
  try dsimp only
  repeat' (with_reducible first | assumption | apply State.setN_keeps | apply State.reviewScaler_keeps | apply keeps_foldl | apply keeps_foldl_fst | apply keeps_foldl_snd | split | intro _ | dsimp only | apply Keeps.rest)

theorem State.scalerTurn_keeps {z s : State} (hk : Keeps z s) (n : Nat) : Keeps z (State.scalerTurn s n) := by
  unfold State.scalerTurn
  try dsimp only
  repeat' (with_reducible first | assumption | apply State.count_keeps | apply State.mirror_keeps | apply State.putScaler_keeps | split | intro _ | dsimp only | apply Keeps.rest)

theorem State.scalerFrame_keeps {z s : State} (hk : Keeps z s) (n : Nat) : Keeps z (State.scalerFrame s n) := by
  unfold State.scalerFrame
  try dsimp only
  repeat' (with_reducible first | assumption | apply State.growScaler_keeps | apply State.takeEffect_keeps | apply State.scalerTurn_keeps | split | intro _ | dsimp only | apply Keeps.rest)

theorem State.scalerTakes_keeps {z s : State} (hk : Keeps z s) (src tb : Nat) : Keeps z (State.scalerTakes s src tb) := by
  unfold State.scalerTakes
  try dsimp only
  repeat' (with_reducible first | assumption | apply State.switchOne_keeps | apply keeps_foldl | apply keeps_foldl_fst | apply keeps_foldl_snd | split | intro _ | dsimp only | apply Keeps.rest)

theorem State.noteSkew_keeps {z s : State} (hk : Keeps z s) (p skew : Nat) : Keeps z (State.noteSkew s p skew) := by
  unfold State.noteSkew
  try dsimp only
  repeat' (with_reducible first | assumption | apply State.setN_keeps | apply State.followShared_keeps | split | intro _ | dsimp only | apply Keeps.rest)

theorem State.frameStart_keeps {z s : State} (hk : Keeps z s) (x skew : Nat) : Keeps z (State.frameStart s x skew) := by
  unfold State.frameStart
  try dsimp only
  repeat' (with_reducible first | assumption | apply State.scalerTakes_keeps | apply State.count_keeps | apply State.scalerFrame_keeps | apply State.releaseOld_keeps | apply State.noteSkew_keeps | apply State.measure_keeps | apply State.storeFrame_keeps | apply State.watchDelta_keeps | apply State.moveOn_keeps | apply keeps_foldl | apply keeps_foldl_fst | apply keeps_foldl_snd | split | intro _ | dsimp only | apply Keeps.rest)

theorem State.readStore_keeps {z s : State} (hk : Keeps z s) (d : Nat) (rt : Route) (x : StoreRec) : Keeps z (State.readStore s d rt x) := by
  unfold State.readStore
  try dsimp only
  repeat' (with_reducible first | assumption | apply State.setMark_keeps | apply State.strike_keeps | apply State.putRead_keeps | apply State.count_keeps | apply State.mirror_keeps | apply State.setN_keeps | split | intro _ | dsimp only | apply Keeps.rest)

theorem State.readInstant_keeps {z s : State} (hk : Keeps z s) (d : Nat) : Keeps z (State.readInstant s d) := by
  unfold State.readInstant
  try dsimp only
  repeat' (with_reducible first | assumption | apply State.readStore_keeps | split | intro _ | dsimp only | apply Keeps.rest)

theorem State.writeRecirc_keeps {z s : State} (hk : Keeps z s) (x i : Nat) : Keeps z (State.writeRecirc s x i).2 := by
  unfold State.writeRecirc
  try dsimp only
  repeat' (with_reducible first | assumption | apply State.setN_keeps | split | intro _ | dsimp only | apply Keeps.rest)
theorem State.writeRecirc_keeps_eq {z s s1 : State} {c : Nat} {x i : Nat} (hk : Keeps z s) (hr : State.writeRecirc s x i = (c, s1)) : Keeps z s1 := by
  have kk := State.writeRecirc_keeps (z := z) hk x i
  rw [hr] at kk
  exact kk

theorem State.writeRecircDelay_keeps {z s : State} (hk : Keeps z s) (x v : Nat) : Keeps z (State.writeRecircDelay s x v).2 := by
  unfold State.writeRecircDelay
  try dsimp only
  repeat' (with_reducible first | assumption | apply State.writeRecirc_keeps | refine State.writeRecirc_keeps_eq ?_ (by assumption) | apply State.setN_keeps | split | intro _ | dsimp only | apply Keeps.rest)
theorem State.writeRecircDelay_keeps_eq {z s s1 : State} {c : Nat} {x v : Nat} (hk : Keeps z s) (hr : State.writeRecircDelay s x v = (c, s1)) : Keeps z s1 := by
  have kk := State.writeRecircDelay_keeps (z := z) hk x v
  rw [hr] at kk
  exact kk

theorem State.writeHint_keeps {z s : State} (hk : Keeps z s) (h : Nat) (on : Bool) : Keeps z (State.writeHint s h on).2 := by
  unfold State.writeHint
  try dsimp only
  repeat' (with_reducible first | assumption | apply State.setF_keeps | apply State.setN_keeps | split | intro _ | dsimp only | apply Keeps.rest)
theorem State.writeHint_keeps_eq {z s s1 : State} {c : Nat} {h : Nat} {on : Bool} (hk : Keeps z s) (hr : State.writeHint s h on = (c, s1)) : Keeps z s1 := by
  have kk := State.writeHint_keeps (z := z) hk h on
  rw [hr] at kk
  exact kk

theorem State.askReoptimise_keeps {z s : State} (hk : Keeps z s)  : Keeps z (State.askReoptimise s).2 := by
  unfold State.askReoptimise
  try dsimp only
  repeat' (with_reducible first | assumption | apply State.enqueue_keeps | split | intro _ | dsimp only | apply Keeps.rest)
theorem State.askReoptimise_keeps_eq {z s s1 : State} {c : Nat}  (hk : Keeps z s) (hr : State.askReoptimise s = (c, s1)) : Keeps z s1 := by
  have kk := State.askReoptimise_keeps (z := z) hk
  rw [hr] at kk
  exact kk

theorem State.excludePlane_keeps {z s : State} (hk : Keeps z s) (p : Nat) : Keeps z (State.excludePlane s p) := by
  unfold State.excludePlane
  try dsimp only
  repeat' (with_reducible first | assumption | apply State.failRoutes_keeps | apply State.exclude_keeps | split | intro _ | dsimp only | apply Keeps.rest)

theorem State.excludeStack_keeps {z s : State} (hk : Keeps z s) (k : Nat) : Keeps z (State.excludeStack s k) := by
  unfold State.excludeStack
  try dsimp only
  repeat' (with_reducible first | assumption | apply State.exclude_keeps | apply State.writeRecirc_keeps | refine State.writeRecirc_keeps_eq ?_ (by assumption) | apply State.failRoutes_keeps | apply keeps_foldl | apply keeps_foldl_fst | apply keeps_foldl_snd | split | intro _ | dsimp only | apply Keeps.rest)

theorem State.noteDiscard_keeps {z s : State} (hk : Keeps z s) (p : Nat) : Keeps z (State.noteDiscard s p) := by
  unfold State.noteDiscard
  try dsimp only
  repeat' (with_reducible first | assumption | apply State.strike_keeps | apply State.excludePlane_keeps | split | intro _ | dsimp only | apply Keeps.rest)

theorem State.cellWord_keeps {z s : State} (hk : Keeps z s) (plane outTile d : Nat) (kind3 : Bool) (word : Nat) : Keeps z (State.cellWord s plane outTile d kind3 word) := by
  unfold State.cellWord
  try dsimp only
  repeat' (with_reducible first | assumption | apply State.noteDiscard_keeps | apply State.strike_keeps | apply State.fillLine_keeps | split | intro _ | dsimp only | apply Keeps.rest)

theorem State.hbmWord_keeps {z s : State} (hk : Keeps z s) (k addr use d word : Nat) : Keeps z (State.hbmWord s k addr use d word) := by
  unfold State.hbmWord
  try dsimp only
  repeat' (with_reducible first | assumption | apply State.count_keeps | apply State.setN_keeps | apply State.strike_keeps | apply State.fillLine_keeps | apply State.excludeStack_keeps | split | intro _ | dsimp only | apply Keeps.rest)

theorem State.substitute_keeps {z s : State} (hk : Keeps z s) (d : Nat) (pl : Placement) : Keeps z (State.substitute s d pl) := by
  unfold State.substitute
  try dsimp only
  repeat' (with_reducible first | assumption | apply State.count_keeps | split | intro _ | dsimp only | apply Keeps.rest)

end Sys2Proof.Machine
end

