-- ==== Sys2Proof/Laws/KeepsMedia.lean ====
section
/-! SUPPORT. What each operation on a state keeps (`Keeps`, in Laws/Keeps.lean): SDI ports, packet video, composition and audio. -/

set_option linter.all false

namespace Sys2Proof.Machine

/-! ## Machine/SdiPorts.lean -/

theorem State.keepOutput_keeps {z s s' : State} (h : Keeps z s) (h' : Keeps z s') (d : Nat) : Keeps z (State.keepOutput s s' d).2 := by
  unfold State.keepOutput
  split
  · exact h'
  · exact h

theorem State.writeSdi_keeps_eq {z s : State} {r : Nat × State} {k : Key} {v : Val} (hk : Keeps z s) (hr : State.writeSdi s k v = some r) : Keeps z r.2 := by
  unfold State.writeSdi at hr
  try dsimp only at hr
  repeat' (split at hr)
  all_goals first | (simp only [reduceCtorEq] at hr; done) | (replace hr := Option.some.inj hr; subst hr; (try dsimp only); repeat' (with_reducible first | assumption | apply State.set_keeps | refine State.keepOutput_keeps ?_ ?_ _ | apply State.keepOutput_keeps | split | intro _ | dsimp only | apply Keeps.rest))
theorem State.writeSdi_keeps_pair {z s s1 : State} {c : Nat} {k : Key} {v : Val} (hk : Keeps z s) (hr : State.writeSdi s k v = some (c, s1)) : Keeps z s1 :=
  State.writeSdi_keeps_eq (r := (c, s1)) hk hr

theorem State.writeAnc_keeps_eq {z s : State} {r : Nat × State} {k : Key} {v : Val} (hk : Keeps z s) (hr : State.writeAnc s k v = some r) : Keeps z r.2 := by
  unfold State.writeAnc at hr
  try dsimp only at hr
  repeat' (split at hr)
  all_goals first | (simp only [reduceCtorEq] at hr; done) | (replace hr := Option.some.inj hr; subst hr; (try dsimp only); repeat' (with_reducible first | assumption | apply State.set_keeps | split | intro _ | dsimp only | apply Keeps.rest))
theorem State.writeAnc_keeps_pair {z s s1 : State} {c : Nat} {k : Key} {v : Val} (hk : Keeps z s) (hr : State.writeAnc s k v = some (c, s1)) : Keeps z s1 :=
  State.writeAnc_keeps_eq (r := (c, s1)) hk hr

theorem State.laneLocked_keeps {z s : State} (hk : Keeps z s) (l : Nat) : Keeps z (State.laneLocked s l) := by
  unfold State.laneLocked
  try dsimp only
  repeat' (with_reducible first | assumption | apply State.setN_keeps | apply State.setB_keeps | split | intro _ | dsimp only | apply Keeps.rest)

theorem State.formatChanged_keeps {z s : State} (hk : Keeps z s) (x : Nat) : Keeps z (State.formatChanged s x) := by
  unfold State.formatChanged
  try dsimp only
  repeat' (with_reducible first | assumption | apply State.reviewFormat_keeps | apply State.growScaler_keeps | apply keeps_foldl | apply keeps_foldl_fst | apply keeps_foldl_snd | split | intro _ | dsimp only | apply Keeps.rest)

theorem State.detected_keeps {z s : State} (hk : Keeps z s) (p : Nat) (det : SdiDetect) : Keeps z (State.detected s p det) := by
  unfold State.detected
  try dsimp only
  repeat' (with_reducible first | assumption | apply State.setN_keeps | apply State.setBit_keeps | apply State.formatChanged_keeps | apply State.followShared_keeps | split | intro _ | dsimp only | apply Keeps.rest)

theorem State.sdiClear_keeps {z s : State} (hk : Keeps z s) (p : Nat) : Keeps z (State.sdiClear s p) := by
  unfold State.sdiClear
  try dsimp only
  repeat' (with_reducible first | assumption | apply State.setN_keeps | split | intro _ | dsimp only | apply Keeps.rest)

theorem State.sdiLost_keeps {z s : State} (hk : Keeps z s) (p : Nat) : Keeps z (State.sdiLost s p) := by
  unfold State.sdiLost
  try dsimp only
  repeat' (with_reducible first | assumption | apply State.setBit_keeps | apply State.formatChanged_keeps | apply State.follow_keeps | apply State.sdiClear_keeps | split | intro _ | dsimp only | apply Keeps.rest)

theorem State.sdiError_keeps {z s : State} (hk : Keeps z s) (p kind : Nat) : Keeps z (State.sdiError s p kind) := by
  unfold State.sdiError
  try dsimp only
  repeat' (with_reducible first | assumption | apply State.count_keeps | apply State.strike_keeps | split | intro _ | dsimp only | apply Keeps.rest)

theorem State.extract_keeps {z s : State} (hk : Keeps z s) (p : Nat) (pkt : AncPacket) : Keeps z (State.extract s p pkt) := by
  unfold State.extract
  try dsimp only
  repeat' (with_reducible first | assumption | apply State.count_keeps | apply State.setN_keeps | apply keeps_foldl | apply keeps_foldl_fst | apply keeps_foldl_snd | split | intro _ | dsimp only | apply Keeps.rest)

theorem State.insert_keeps {z s : State} (hk : Keeps z s) (j : Nat) (pkt : AncPacket) (room : List Nat) : Keeps z (State.insert s j pkt room) := by
  unfold State.insert
  try dsimp only
  repeat' (with_reducible first | assumption | apply State.emit_keeps | apply State.count_keeps | apply State.strike_keeps | split | intro _ | dsimp only | apply Keeps.rest)

/-! ## Machine/Packets.lean -/

theorem State.modRx_keeps {z s : State} (hk : Keeps z s) (fam inst : Nat) (f : RxFlow → RxFlow) : Keeps z (State.modRx s fam inst f) := by
  unfold State.modRx
  try dsimp only
  repeat' (with_reducible first | assumption | split | intro _ | dsimp only | apply Keeps.rest)

theorem State.startResolve_keeps {z s : State} (hk : Keeps z s) (fam inst leg : Nat) : Keeps z (State.startResolve s fam inst leg) := by
  unfold State.startResolve
  try dsimp only
  repeat' (with_reducible first | assumption | split | intro _ | dsimp only | apply Keeps.rest)

theorem State.enableFlow_keeps_eq {z s : State} {r : State} {fam inst : Nat} (hk : Keeps z s) (hr : State.enableFlow s fam inst = .ok r) : Keeps z r := by
  unfold State.enableFlow at hr
  try dsimp only at hr
  repeat' (split at hr)
  all_goals first | (simp only [reduceCtorEq] at hr; done) | (replace hr := Except.ok.inj hr; subst hr; (try dsimp only); repeat' (with_reducible first | assumption | apply State.joinFlow_keeps | apply State.startResolve_keeps | apply State.setF_keeps | apply State.setN_keeps | apply keeps_foldl | apply keeps_foldl_fst | apply keeps_foldl_snd | split | intro _ | dsimp only | apply Keeps.rest))

theorem State.reviewLegs_keeps {z s : State} (hk : Keeps z s) (tile : Nat) : Keeps z (State.reviewLegs s tile) := by
  unfold State.reviewLegs
  try dsimp only
  repeat' (with_reducible first | assumption | apply State.endFault_keeps | split | intro _ | dsimp only | apply Keeps.rest)

theorem State.disableFlow_keeps {z s : State} (hk : Keeps z s) (fam inst : Nat) : Keeps z (State.disableFlow s fam inst) := by
  unfold State.disableFlow
  try dsimp only
  repeat' (with_reducible first | assumption | apply State.setF_keeps | apply State.setN_keeps | apply State.reviewLegs_keeps | apply State.leaveFlow_keeps | split | intro _ | dsimp only | apply Keeps.rest)

theorem State.sourceGone_keeps {z s : State} (hk : Keeps z s) (x : Nat) : Keeps z (State.sourceGone s x) := by
  unfold State.sourceGone
  try dsimp only
  repeat' (with_reducible first | assumption | apply State.stopStores_keeps | apply State.setN_keeps | split | intro _ | dsimp only | apply Keeps.rest)

theorem State.enableMembers_keeps_eq {z s r : State} {tx : Bool} {g : Nat} {l : List (Nat × Nat)} (hk : Keeps z s)
    (hr : State.enableMembers s tx g l = .ok r) : Keeps z r := by
  induction l generalizing s with
  | nil => rw [State.enableMembers] at hr; cases hr; exact hk
  | cons m l ih =>
    rw [State.enableMembers] at hr
    split at hr
    · cases hr
    · have h1 := State.enableFlow_keeps_eq hk ‹_›
      split at hr
      · dsimp only at hr
        split at hr
        · cases hr
        · exact ih (by apply Keeps.rest; exact h1) hr
      · exact ih h1 hr

theorem State.writeGroup_keeps {z s : State} (hk : Keeps z s) (inst : Nat) (on : Bool) : Keeps z (State.writeGroup s inst on).2 := by
  unfold State.writeGroup
  try dsimp only
  repeat' (with_reducible first | assumption | refine State.enableMembers_keeps_eq ?_ (by assumption) | apply State.setF_keeps | apply State.setN_keeps | apply State.setBit_keeps | apply State.setB_keeps | apply State.formatChanged_keeps | apply State.disableFlow_keeps | apply State.sourceGone_keeps | apply keeps_foldl | apply keeps_foldl_fst | apply keeps_foldl_snd | split | intro _ | dsimp only | apply Keeps.rest)
theorem State.writeGroup_keeps_eq {z s s1 : State} {c : Nat} {inst : Nat} {on : Bool} (hk : Keeps z s) (hr : State.writeGroup s inst on = (c, s1)) : Keeps z s1 := by
  have kk := State.writeGroup_keeps (z := z) hk inst on
  rw [hr] at kk
  exact kk

theorem State.writeFlowEnable_keeps {z s : State} (hk : Keeps z s) (fam inst : Nat) (on : Bool) : Keeps z (State.writeFlowEnable s fam inst on).2 := by
  unfold State.writeFlowEnable
  try dsimp only
  repeat' (with_reducible first | assumption | refine State.enableFlow_keeps_eq ?_ (by assumption) | apply State.disableFlow_keeps | split | intro _ | dsimp only | apply Keeps.rest)
theorem State.writeFlowEnable_keeps_eq {z s s1 : State} {c : Nat} {fam inst : Nat} {on : Bool} (hk : Keeps z s) (hr : State.writeFlowEnable s fam inst on = (c, s1)) : Keeps z s1 := by
  have kk := State.writeFlowEnable_keeps (z := z) hk fam inst on
  rw [hr] at kk
  exact kk

theorem State.writeChannels_keeps {z s : State} (hk : Keeps z s) (inst n : Nat) : Keeps z (State.writeChannels s inst n).2 := by
  unfold State.writeChannels
  try dsimp only
  repeat' (with_reducible first | assumption | apply State.setN_keeps | split | intro _ | dsimp only | apply Keeps.rest)
theorem State.writeChannels_keeps_eq {z s s1 : State} {c : Nat} {inst n : Nat} (hk : Keeps z s) (hr : State.writeChannels s inst n = (c, s1)) : Keeps z s1 := by
  have kk := State.writeChannels_keeps (z := z) hk inst n
  rw [hr] at kk
  exact kk

theorem State.writeFlow_keeps_eq {z s : State} {r : Nat × State} {k : Key} {v : Val} (hk : Keeps z s) (hr : State.writeFlow s k v = some r) : Keeps z r.2 := by
  unfold State.writeFlow at hr
  try dsimp only at hr
  repeat' (split at hr)
  all_goals first | (simp only [reduceCtorEq] at hr; done) | (replace hr := Option.some.inj hr; subst hr; (try dsimp only); repeat' (with_reducible first | assumption | apply State.setN_keeps | apply State.writeChannels_keeps | refine State.writeChannels_keeps_eq ?_ (by assumption) | apply State.writeFlowEnable_keeps | refine State.writeFlowEnable_keeps_eq ?_ (by assumption) | apply keeps_foldl | apply keeps_foldl_fst | apply keeps_foldl_snd | split | intro _ | dsimp only | apply Keeps.rest))
theorem State.writeFlow_keeps_pair {z s s1 : State} {c : Nat} {k : Key} {v : Val} (hk : Keeps z s) (hr : State.writeFlow s k v = some (c, s1)) : Keeps z s1 :=
  State.writeFlow_keeps_eq (r := (c, s1)) hk hr

theorem State.writePacket_keeps_eq {z s : State} {r : Nat × State} {k : Key} {v : Val} (hk : Keeps z s) (hr : State.writePacket s k v = some r) : Keeps z r.2 := by
  unfold State.writePacket at hr
  try dsimp only at hr
  repeat' (split at hr)
  all_goals first | (simp only [reduceCtorEq] at hr; done) | (replace hr := Option.some.inj hr; subst hr; (try dsimp only); repeat' (with_reducible first | assumption | refine State.writeFlow_keeps_eq ?_ (by assumption) | refine State.writeFlow_keeps_pair ?_ (by assumption) | apply State.set_keeps | apply State.writeGroup_keeps | refine State.writeGroup_keeps_eq ?_ (by assumption) | split | intro _ | dsimp only | apply Keeps.rest)) | (refine State.writeFlow_keeps_eq ?_ hr; repeat' (with_reducible first | assumption | refine State.writeFlow_keeps_eq ?_ (by assumption) | refine State.writeFlow_keeps_pair ?_ (by assumption) | apply State.set_keeps | apply State.writeGroup_keeps | refine State.writeGroup_keeps_eq ?_ (by assumption) | split | intro _ | dsimp only | apply Keeps.rest))
theorem State.writePacket_keeps_pair {z s s1 : State} {c : Nat} {k : Key} {v : Val} (hk : Keeps z s) (hr : State.writePacket s k v = some (c, s1)) : Keeps z s1 :=
  State.writePacket_keeps_eq (r := (c, s1)) hk hr

theorem State.showFlow_keeps {z s : State} (hk : Keeps z s) (fam inst : Nat) : Keeps z (State.showFlow s fam inst) := by
  unfold State.showFlow
  try dsimp only
  repeat' (with_reducible first | assumption | apply State.setN_keeps | split | intro _ | dsimp only | apply Keeps.rest)

theorem State.restartFlow_keeps {z s : State} (hk : Keeps z s) (r : RxFlow) : Keeps z (State.restartFlow s r) := by
  unfold State.restartFlow
  try dsimp only
  repeat' (with_reducible first | assumption | apply State.modRx_keeps | apply State.sourceGone_keeps | split | intro _ | dsimp only | apply Keeps.rest)

theorem State.secondCopy_keeps {z s : State} (hk : Keeps z s) (r : RxFlow) (h : HeldPacket) (leg hash : Nat) : Keeps z (State.secondCopy s r h leg hash) := by
  unfold State.secondCopy
  try dsimp only
  repeat' (with_reducible first | assumption | apply State.count_keeps | apply State.setN_keeps | apply State.setI_keeps | apply State.modRx_keeps | split | intro _ | dsimp only | apply Keeps.rest)

theorem State.merge_keeps {z s : State} (hk : Keeps z s) (r : RxFlow) (leg : Nat) (pkt : RxPacket) : Keeps z (State.merge s r leg pkt) := by
  unfold State.merge
  try dsimp only
  repeat' (with_reducible first | assumption | apply State.count_keeps | apply State.modRx_keeps | apply State.secondCopy_keeps | split | intro _ | dsimp only | apply Keeps.rest)

theorem State.receive_keeps {z s : State} (hk : Keeps z s) (r : RxFlow) (leg : Nat) (pkt : RxPacket) : Keeps z (State.receive s r leg pkt) := by
  unfold State.receive
  try dsimp only
  repeat' (with_reducible first | assumption | apply State.showFlow_keeps | apply State.count_keeps | apply State.modRx_keeps | apply State.setBit_keeps | apply State.merge_keeps | apply State.reviewLegs_keeps | apply State.restartFlow_keeps | split | intro _ | dsimp only | apply Keeps.rest)

theorem State.releaseFrame_keeps {z s : State} (hk : Keeps z s) (g : Nat) : Keeps z (State.releaseFrame s g) := by
  unfold State.releaseFrame
  try dsimp only
  repeat' (with_reducible first | assumption | apply State.frameStart_keeps | apply State.count_keeps | apply State.modRx_keeps | apply State.strike_keeps | apply keeps_foldl | apply keeps_foldl_fst | apply keeps_foldl_snd | split | intro _ | dsimp only | apply Keeps.rest)

theorem State.resolved_keeps {z s : State} (hk : Keeps z s) (p : Nat) (a : Bytes) (mac : Nat) : Keeps z (State.resolved s p a mac) := by
  unfold State.resolved
  try dsimp only
  repeat' (with_reducible first | assumption | apply State.setN_keeps | apply keeps_foldl | apply keeps_foldl_fst | apply keeps_foldl_snd | split | intro _ | dsimp only | apply Keeps.rest)

theorem State.neighbour_keeps {z s : State} (hk : Keeps z s) (p : Nat) (f : NeighbourFrame) : Keeps z (State.neighbour s p f) := by
  unfold State.neighbour
  try dsimp only
  repeat' (with_reducible first | assumption | apply State.emit_keeps | apply State.resolved_keeps | split | intro _ | dsimp only | apply Keeps.rest)

theorem State.stageLeg_keeps {z s : State} (hk : Keeps z s) (fam inst leg : Nat) (l : Is05Leg) : Keeps z (State.stageLeg s fam inst leg l) := by
  unfold State.stageLeg
  try dsimp only
  repeat' (with_reducible first | assumption | apply State.setN_keeps | apply State.setB_keeps | split | intro _ | dsimp only | apply Keeps.rest)

theorem State.activateIs05_keeps {z s : State} (hk : Keeps z s) (fam inst : Nat) (legs : List Is05Leg) : Keeps z (State.activateIs05 s fam inst legs).2 := by
  unfold State.activateIs05
  try dsimp only
  repeat' (with_reducible first | assumption | apply State.stageLeg_keeps | apply State.writeFlowEnable_keeps | refine State.writeFlowEnable_keeps_eq ?_ (by assumption) | apply State.disableFlow_keeps | apply State.sourceGone_keeps | apply keeps_foldl | apply keeps_foldl_fst | apply keeps_foldl_snd | split | intro _ | dsimp only | apply Keeps.rest)
theorem State.activateIs05_keeps_eq {z s s1 : State} {c : Nat} {fam inst : Nat} {legs : List Is05Leg} (hk : Keeps z s) (hr : State.activateIs05 s fam inst legs = (c, s1)) : Keeps z s1 := by
  have kk := State.activateIs05_keeps (z := z) hk fam inst legs
  rw [hr] at kk
  exact kk

theorem State.ethLink_keeps {z s : State} (hk : Keeps z s) (p : Nat) (up : Bool) : Keeps z (State.ethLink s p up) := by
  unfold State.ethLink
  try dsimp only
  repeat' (with_reducible first | assumption | apply State.followShared_keeps | apply State.setN_keeps | split | intro _ | dsimp only | apply Keeps.rest)

/-! ## Machine/Composition.lean -/

theorem State.writeClass_keeps {z s : State} (hk : Keeps z s) (h cls : Nat) : Keeps z (State.writeClass s h cls).2 := by
  unfold State.writeClass
  try dsimp only
  repeat' (with_reducible first | assumption | apply State.setN_keeps | split | intro _ | dsimp only | apply Keeps.rest)
theorem State.writeClass_keeps_eq {z s s1 : State} {c : Nat} {h cls : Nat} (hk : Keeps z s) (hr : State.writeClass s h cls = (c, s1)) : Keeps z s1 := by
  have kk := State.writeClass_keeps (z := z) hk h cls
  rw [hr] at kk
  exact kk

theorem State.bindPort_keeps {z s : State} (hk : Keeps z s) (h p : Nat) : Keeps z (State.bindPort s h p).2 := by
  unfold State.bindPort
  try dsimp only
  repeat' (with_reducible first | assumption | apply State.setN_keeps | split | intro _ | dsimp only | apply Keeps.rest)
theorem State.bindPort_keeps_eq {z s s1 : State} {c : Nat} {h p : Nat} (hk : Keeps z s) (hr : State.bindPort s h p = (c, s1)) : Keeps z s1 := by
  have kk := State.bindPort_keeps (z := z) hk h p
  rw [hr] at kk
  exact kk

theorem State.rebook_keeps_eq {z s r : State} {fam inst die mbps bytes : Nat} (hk : Keeps z s)
    (hr : State.rebook s fam inst die mbps bytes = .ok r) : Keeps z r := by
  unfold State.rebook at hr
  dsimp only at hr
  split at hr
  · replace hr := Except.ok.inj hr; subst hr; exact hk
  · split at hr
    · split at hr
      · replace hr := Except.ok.inj hr; subst hr; exact hk
      · cases hb : State.bookBeside _ die mbps bytes <;> rw [hb] at hr
        · cases hr
        · replace hr := Except.ok.inj hr; subst hr; exact hk
    · cases hb : State.bookBeside _ die mbps bytes <;> rw [hb] at hr
      · cases hr
      · replace hr := Except.ok.inj hr; subst hr; exact hk

theorem State.rebookWindow_keeps_eq {z s : State} {r : State} {n : Nat} (hk : Keeps z s) (hr : State.rebookWindow s n = .ok r) : Keeps z r := by
  unfold State.rebookWindow at hr
  try dsimp only at hr
  repeat' (split at hr)
  all_goals first | (simp only [reduceCtorEq] at hr; done) | (replace hr := Except.ok.inj hr; subst hr; (try dsimp only); repeat' (with_reducible first | assumption | refine State.rebook_keeps_eq ?_ (by assumption) | split | intro _ | dsimp only | apply Keeps.rest)) | (refine State.rebook_keeps_eq ?_ hr; repeat' (with_reducible first | assumption | refine State.rebook_keeps_eq ?_ (by assumption) | split | intro _ | dsimp only | apply Keeps.rest))

theorem State.rebookLayer_keeps_eq {z s : State} {r : State} {l : Nat} (hk : Keeps z s) (hr : State.rebookLayer s l = .ok r) : Keeps z r := by
  unfold State.rebookLayer at hr
  try dsimp only at hr
  repeat' (split at hr)
  all_goals first | (simp only [reduceCtorEq] at hr; done) | (replace hr := Except.ok.inj hr; subst hr; (try dsimp only); repeat' (with_reducible first | assumption | refine State.rebook_keeps_eq ?_ (by assumption) | split | intro _ | dsimp only | apply Keeps.rest)) | (refine State.rebook_keeps_eq ?_ hr; repeat' (with_reducible first | assumption | refine State.rebook_keeps_eq ?_ (by assumption) | split | intro _ | dsimp only | apply Keeps.rest))

theorem State.rebookWindows_keeps_eq {z s r : State} {ns : List Nat} (hk : Keeps z s)
    (hr : State.rebookWindows s ns = .ok r) : Keeps z r := by
  unfold State.rebookWindows at hr
  have aux : ∀ (l : List Nat) (e : Except Refuse State), (∀ x, e = .ok x → Keeps z x) →
      ∀ x, l.foldl (fun r n => r.bind (fun st => st.rebookWindow n)) e = .ok x → Keeps z x := by
    intro l
    induction l with
    | nil => intro e he x hx; exact he x hx
    | cons n l ih =>
      intro e he x hx
      refine ih _ ?_ x hx
      intro y hy
      cases e with
      | error _ => cases hy
      | ok w => exact State.rebookWindow_keeps_eq (he w rfl) hy
  exact aux ns (.ok s) (fun x hx => by cases hx; exact hk) r hr

theorem State.claimLayer_keeps {z s : State} (hk : Keeps z s) (w : Writer) (l v : Nat) : Keeps z (State.claimLayer s w l v).2 := by
  unfold State.claimLayer
  try dsimp only
  repeat' (with_reducible first | assumption | apply State.setN_keeps | split | intro _ | dsimp only | apply Keeps.rest)
theorem State.claimLayer_keeps_eq {z s s1 : State} {c : Nat} {w : Writer} {l v : Nat} (hk : Keeps z s) (hr : State.claimLayer s w l v = (c, s1)) : Keeps z s1 := by
  have kk := State.claimLayer_keeps (z := z) hk w l v
  rw [hr] at kk
  exact kk

theorem State.releaseLayers_keeps {z s : State} (hk : Keeps z s) (session : Nat) : Keeps z (State.releaseLayers s session) := by
  unfold State.releaseLayers
  try dsimp only
  repeat' (with_reducible first | assumption | apply State.setN_keeps | apply keeps_foldl | apply keeps_foldl_fst | apply keeps_foldl_snd | split | intro _ | dsimp only | apply Keeps.rest)

theorem State.commitLayer_keeps {z s : State} (hk : Keeps z s) (l : Nat) : Keeps z (State.commitLayer s l) := by
  unfold State.commitLayer
  try dsimp only
  repeat' (with_reducible first | assumption | split | intro _ | dsimp only | apply Keeps.rest)

theorem State.autoCommit_keeps {z s : State} (hk : Keeps z s) (l : Nat) : Keeps z (State.autoCommit s l) := by
  unfold State.autoCommit
  try dsimp only
  repeat' (with_reducible first | assumption | apply State.commitLayer_keeps | split | intro _ | dsimp only | apply Keeps.rest)

theorem State.writeCommit_keeps {z s : State} (hk : Keeps z s) (l : Nat) (on : Bool) : Keeps z (State.writeCommit s l on).2 := by
  unfold State.writeCommit
  try dsimp only
  repeat' (with_reducible first | assumption | apply State.commitLayer_keeps | split | intro _ | dsimp only | apply Keeps.rest)
theorem State.writeCommit_keeps_eq {z s s1 : State} {c : Nat} {l : Nat} {on : Bool} (hk : Keeps z s) (hr : State.writeCommit s l on = (c, s1)) : Keeps z s1 := by
  have kk := State.writeCommit_keeps (z := z) hk l on
  rw [hr] at kk
  exact kk

theorem State.writeGroupCommit_keeps {z s : State} (hk : Keeps z s) (w : Writer) (g : Nat) (on : Bool) : Keeps z (State.writeGroupCommit s w g on).2 := by
  unfold State.writeGroupCommit
  try dsimp only
  repeat' (with_reducible first | assumption | split | intro _ | dsimp only | apply Keeps.rest)
theorem State.writeGroupCommit_keeps_eq {z s s1 : State} {c : Nat} {w : Writer} {g : Nat} {on : Bool} (hk : Keeps z s) (hr : State.writeGroupCommit s w g on = (c, s1)) : Keeps z s1 := by
  have kk := State.writeGroupCommit_keeps (z := z) hk w g on
  rw [hr] at kk
  exact kk

theorem State.writeGroup10_keeps {z s : State} (hk : Keeps z s) (l g : Nat) : Keeps z (State.writeGroup10 s l g).2 := by
  unfold State.writeGroup10
  try dsimp only
  repeat' (with_reducible first | assumption | apply State.setN_keeps | split | intro _ | dsimp only | apply Keeps.rest)
theorem State.writeGroup10_keeps_eq {z s s1 : State} {c : Nat} {l g : Nat} (hk : Keeps z s) (hr : State.writeGroup10 s l g = (c, s1)) : Keeps z s1 := by
  have kk := State.writeGroup10_keeps (z := z) hk l g
  rw [hr] at kk
  exact kk

theorem State.raiseFence_keeps {z s : State} (hk : Keeps z s) (f v : Nat) : Keeps z (State.raiseFence s f v).2 := by
  unfold State.raiseFence
  try dsimp only
  repeat' (with_reducible first | assumption | apply State.setN_keeps | split | intro _ | dsimp only | apply Keeps.rest)
theorem State.raiseFence_keeps_eq {z s s1 : State} {c : Nat} {f v : Nat} (hk : Keeps z s) (hr : State.raiseFence s f v = (c, s1)) : Keeps z s1 := by
  have kk := State.raiseFence_keeps (z := z) hk f v
  rw [hr] at kk
  exact kk

theorem State.resetFence_keeps {z s : State} (hk : Keeps z s) (f : Nat) (on : Bool) : Keeps z (State.resetFence s f on).2 := by
  unfold State.resetFence
  try dsimp only
  repeat' (with_reducible first | assumption | apply State.setN_keeps | split | intro _ | dsimp only | apply Keeps.rest)
theorem State.resetFence_keeps_eq {z s s1 : State} {c : Nat} {f : Nat} {on : Bool} (hk : Keeps z s) (hr : State.resetFence s f on = (c, s1)) : Keeps z s1 := by
  have kk := State.resetFence_keeps (z := z) hk f on
  rw [hr] at kk
  exact kk

theorem State.putImage_keeps {z s : State} (hk : Keeps z s) (i : LayerImage) : Keeps z (State.putImage s i) := by
  unfold State.putImage
  try dsimp only
  repeat' (with_reducible first | assumption | split | intro _ | dsimp only | apply Keeps.rest)

theorem State.flipLayer_keeps {z s : State} (hk : Keeps z s) (l : Nat) : Keeps z (State.flipLayer s l) := by
  unfold State.flipLayer
  try dsimp only
  repeat' (with_reducible first | assumption | apply State.takeEffect_keeps | apply State.putImage_keeps | apply State.count_keeps | split | intro _ | dsimp only | apply Keeps.rest)

theorem State.flipLone_keeps {z s : State} (hk : Keeps z s) (now : Nat) (l : Nat) : Keeps z (State.flipLone s now l) := by
  unfold State.flipLone
  try dsimp only
  repeat' (with_reducible first | assumption | apply State.count_keeps | apply State.follow_keeps | apply State.flipLayer_keeps | split | intro _ | dsimp only | apply Keeps.rest)

theorem State.flipGroup_keeps {z s : State} (hk : Keeps z s) (now : Nat) (c : GroupCommit) : Keeps z (State.flipGroup s now c) := by
  unfold State.flipGroup
  try dsimp only
  repeat' (with_reducible first | assumption | apply State.count_keeps | apply State.follow_keeps | apply State.flipLayer_keeps | apply keeps_foldl | apply keeps_foldl_fst | apply keeps_foldl_snd | split | intro _ | dsimp only | apply Keeps.rest)

theorem State.refollow_keeps {z s : State} (hk : Keeps z s) (x : Nat) : Keeps z (State.refollow s x) := by
  unfold State.refollow
  try dsimp only
  repeat' (with_reducible first | assumption | apply State.applyFollow_keeps | apply keeps_foldl | apply keeps_foldl_fst | apply keeps_foldl_snd | split | intro _ | dsimp only | apply Keeps.rest)

theorem State.flipPoint_keeps {z s : State} (hk : Keeps z s) (h : Nat) : Keeps z (State.flipPoint s h) := by
  unfold State.flipPoint
  try dsimp only
  repeat' (with_reducible first | assumption | apply State.flipLone_keeps | apply State.flipGroup_keeps | apply State.takeEffect_keeps | apply State.refollow_keeps | apply keeps_foldl | apply keeps_foldl_fst | apply keeps_foldl_snd | split | intro _ | dsimp only | apply Keeps.rest)

theorem State.readLayer_keeps {z s : State} (hk : Keeps z s) (l : Nat) : Keeps z (State.readLayer s l) := by
  unfold State.readLayer
  try dsimp only
  repeat' (with_reducible first | assumption | apply State.mirror_keeps | split | intro _ | dsimp only | apply Keeps.rest)

theorem State.headRead_keeps {z s : State} (hk : Keeps z s) (h : Nat) : Keeps z (State.headRead s h) := by
  unfold State.headRead
  try dsimp only
  repeat' (with_reducible first | assumption | apply State.count_keeps | apply State.emit_keeps | apply State.readLayer_keeps | apply keeps_foldl | apply keeps_foldl_fst | apply keeps_foldl_snd | split | intro _ | dsimp only | apply Keeps.rest)

theorem State.writeImage_keeps {z s : State} (hk : Keeps z s) (l : Nat) (b : Bytes) : Keeps z (State.writeImage s l b).2 := by
  unfold State.writeImage
  try dsimp only
  repeat' (with_reducible first | assumption | apply State.mirror_keeps | apply State.putImage_keeps | apply State.autoCommit_keeps | split | intro _ | dsimp only | apply Keeps.rest)
theorem State.writeImage_keeps_eq {z s s1 : State} {c : Nat} {l : Nat} {b : Bytes} (hk : Keeps z s) (hr : State.writeImage s l b = (c, s1)) : Keeps z s1 := by
  have kk := State.writeImage_keeps (z := z) hk l b
  rw [hr] at kk
  exact kk

theorem State.writeElements_keeps {z s : State} (hk : Keeps z s) (l : Nat) (b : Bytes) : Keeps z (State.writeElements s l b).2 := by
  unfold State.writeElements
  try dsimp only
  repeat' (with_reducible first | assumption | apply State.autoCommit_keeps | apply State.setLater_keeps | split | intro _ | dsimp only | apply Keeps.rest)
theorem State.writeElements_keeps_eq {z s s1 : State} {c : Nat} {l : Nat} {b : Bytes} (hk : Keeps z s) (hr : State.writeElements s l b = (c, s1)) : Keeps z s1 := by
  have kk := State.writeElements_keeps (z := z) hk l b
  rw [hr] at kk
  exact kk

theorem keeps_rebooked {z s s1 : State} {l : Nat} {f : State → List Nat} (hk : Keeps z s)
    (hr : (s.rebookLayer l).bind (fun st => st.rebookWindows (f st)) = .ok s1) : Keeps z s1 := by
  cases hb : s.rebookLayer l with
  | error _ => rw [hb] at hr; cases hr
  | ok w =>
    rw [hb] at hr
    exact State.rebookWindows_keeps_eq (State.rebookLayer_keeps_eq hk hb) hr
theorem State.writeAttr_keeps {z s : State} (hk : Keeps z s) (l sub : Nat) (v : Val) : Keeps z (State.writeAttr s l sub v).2 := by
  unfold State.writeAttr
  dsimp only
  repeat' (with_reducible first | assumption | exact hk | apply State.autoCommit_keeps | (refine keeps_rebooked ?_ (by assumption)) | apply State.setLater_keeps | apply State.putImage_keeps | split)
theorem State.writeAttr_keeps_eq {z s s1 : State} {c l sub : Nat} {v : Val} (hk : Keeps z s)
    (hr : State.writeAttr s l sub v = (c, s1)) : Keeps z s1 := by
  have kk := State.writeAttr_keeps (z := z) hk l sub v
  rw [hr] at kk
  exact kk

theorem State.writeLayer_keeps_eq {z s : State} {r : Nat × State} {w : Writer} {l sub : Nat} {v : Val} (hk : Keeps z s) (hr : State.writeLayer s w l sub v = some r) : Keeps z r.2 := by
  unfold State.writeLayer at hr
  try dsimp only at hr
  repeat' (split at hr)
  all_goals first | (simp only [reduceCtorEq] at hr; done) | (replace hr := Option.some.inj hr; subst hr; (try dsimp only); repeat' (with_reducible first | assumption | apply State.writeElements_keeps | refine State.writeElements_keeps_eq ?_ (by assumption) | apply State.claimLayer_keeps | refine State.claimLayer_keeps_eq ?_ (by assumption) | apply State.writeGroup10_keeps | refine State.writeGroup10_keeps_eq ?_ (by assumption) | apply State.setN_keeps | apply State.writeCommit_keeps | refine State.writeCommit_keeps_eq ?_ (by assumption) | apply State.writeAttr_keeps | refine State.writeAttr_keeps_eq ?_ (by assumption) | apply State.writeImage_keeps | refine State.writeImage_keeps_eq ?_ (by assumption) | split | intro _ | dsimp only | apply Keeps.rest))
theorem State.writeLayer_keeps_pair {z s s1 : State} {c : Nat} {w : Writer} {l sub : Nat} {v : Val} (hk : Keeps z s) (hr : State.writeLayer s w l sub v = some (c, s1)) : Keeps z s1 :=
  State.writeLayer_keeps_eq (r := (c, s1)) hk hr

theorem State.reallocate_keeps_eq {z s : State} {r : State} {n : Nat} (hk : Keeps z s) (hr : State.reallocate s n = .ok r) : Keeps z r := by
  unfold State.reallocate at hr
  try dsimp only at hr
  repeat' (split at hr)
  all_goals first | (simp only [reduceCtorEq] at hr; done) | (replace hr := Except.ok.inj hr; subst hr; (try dsimp only); repeat' (with_reducible first | assumption | refine State.rebookWindow_keeps_eq ?_ (by assumption) | apply State.setN_keeps | apply State.reviewScaler_keeps | apply keeps_foldl | apply keeps_foldl_fst | apply keeps_foldl_snd | split | intro _ | dsimp only | apply Keeps.rest)) | (refine State.rebookWindow_keeps_eq ?_ hr; repeat' (with_reducible first | assumption | refine State.rebookWindow_keeps_eq ?_ (by assumption) | apply State.setN_keeps | apply State.reviewScaler_keeps | apply keeps_foldl | apply keeps_foldl_fst | apply keeps_foldl_snd | split | intro _ | dsimp only | apply Keeps.rest))

theorem State.writeScaler_keeps {z s : State} (hk : Keeps z s) (n sub : Nat) (v : Val) : Keeps z (State.writeScaler s n sub v).2 := by
  unfold State.writeScaler
  try dsimp only
  repeat' (with_reducible first | assumption | refine State.reallocate_keeps_eq ?_ (by assumption) | apply State.setLater_keeps | split | intro _ | dsimp only | apply Keeps.rest)
theorem State.writeScaler_keeps_eq {z s s1 : State} {c : Nat} {n sub : Nat} {v : Val} (hk : Keeps z s) (hr : State.writeScaler s n sub v = (c, s1)) : Keeps z s1 := by
  have kk := State.writeScaler_keeps (z := z) hk n sub v
  rw [hr] at kk
  exact kk

theorem State.writePair_keeps {z s : State} (hk : Keeps z s) (n m : Nat) : Keeps z (State.writePair s n m).2 := by
  unfold State.writePair
  try dsimp only
  repeat' (with_reducible first | assumption | apply State.setN_keeps | apply State.reviewScaler_keeps | apply keeps_foldl | apply keeps_foldl_fst | apply keeps_foldl_snd | split | intro _ | dsimp only | apply Keeps.rest)
theorem State.writePair_keeps_eq {z s s1 : State} {c : Nat} {n m : Nat} (hk : Keeps z s) (hr : State.writePair s n m = (c, s1)) : Keeps z s1 := by
  have kk := State.writePair_keeps (z := z) hk n m
  rw [hr] at kk
  exact kk

theorem State.writeAudioLayer_keeps {z s : State} (hk : Keeps z s) (h l : Nat) : Keeps z (State.writeAudioLayer s h l).2 := by
  unfold State.writeAudioLayer
  try dsimp only
  repeat' (with_reducible first | assumption | refine State.rebookWindows_keeps_eq ?_ (by assumption) | apply State.setLater_keeps | split | intro _ | dsimp only | apply Keeps.rest)
theorem State.writeAudioLayer_keeps_eq {z s s1 : State} {c : Nat} {h l : Nat} (hk : Keeps z s) (hr : State.writeAudioLayer s h l = (c, s1)) : Keeps z s1 := by
  have kk := State.writeAudioLayer_keeps (z := z) hk h l
  rw [hr] at kk
  exact kk

theorem State.writeComposition_keeps_eq {z s : State} {r : Nat × State} {w : Writer} {k : Key} {v : Val} (hk : Keeps z s) (hr : State.writeComposition s w k v = some r) : Keeps z r.2 := by
  unfold State.writeComposition at hr
  try dsimp only at hr
  repeat' (split at hr)
  all_goals first | (simp only [reduceCtorEq] at hr; done) | (replace hr := Option.some.inj hr; subst hr; (try dsimp only); repeat' (with_reducible first | assumption | apply State.writeClass_keeps | refine State.writeClass_keeps_eq ?_ (by assumption) | apply State.writeScaler_keeps | refine State.writeScaler_keeps_eq ?_ (by assumption) | apply State.resetFence_keeps | refine State.resetFence_keeps_eq ?_ (by assumption) | apply State.writeGroupCommit_keeps | refine State.writeGroupCommit_keeps_eq ?_ (by assumption) | apply State.setLater_keeps | apply State.bindPort_keeps | refine State.bindPort_keeps_eq ?_ (by assumption) | refine State.writeLayer_keeps_eq ?_ (by assumption) | refine State.writeLayer_keeps_pair ?_ (by assumption) | apply State.writePair_keeps | refine State.writePair_keeps_eq ?_ (by assumption) | apply State.raiseFence_keeps | refine State.raiseFence_keeps_eq ?_ (by assumption) | apply State.writeAudioLayer_keeps | refine State.writeAudioLayer_keeps_eq ?_ (by assumption) | split | intro _ | dsimp only | apply Keeps.rest)) | (refine State.writeLayer_keeps_eq ?_ hr; repeat' (with_reducible first | assumption | apply State.writeClass_keeps | refine State.writeClass_keeps_eq ?_ (by assumption) | apply State.writeScaler_keeps | refine State.writeScaler_keeps_eq ?_ (by assumption) | apply State.resetFence_keeps | refine State.resetFence_keeps_eq ?_ (by assumption) | apply State.writeGroupCommit_keeps | refine State.writeGroupCommit_keeps_eq ?_ (by assumption) | apply State.setLater_keeps | apply State.bindPort_keeps | refine State.bindPort_keeps_eq ?_ (by assumption) | refine State.writeLayer_keeps_eq ?_ (by assumption) | refine State.writeLayer_keeps_pair ?_ (by assumption) | apply State.writePair_keeps | refine State.writePair_keeps_eq ?_ (by assumption) | apply State.raiseFence_keeps | refine State.raiseFence_keeps_eq ?_ (by assumption) | apply State.writeAudioLayer_keeps | refine State.writeAudioLayer_keeps_eq ?_ (by assumption) | split | intro _ | dsimp only | apply Keeps.rest))
theorem State.writeComposition_keeps_pair {z s s1 : State} {c : Nat} {w : Writer} {k : Key} {v : Val} (hk : Keeps z s) (hr : State.writeComposition s w k v = some (c, s1)) : Keeps z s1 :=
  State.writeComposition_keeps_eq (r := (c, s1)) hk hr

/-! ## Machine/Audio.lean -/

theorem State.ramp_keeps {z s : State} (hk : Keeps z s) (d sub : Nat) : Keeps z (State.ramp s d sub) := by
  unfold State.ramp
  try dsimp only
  repeat' (with_reducible first | assumption | split | intro _ | dsimp only | apply Keeps.rest)

theorem State.writeLevel_keeps {z s : State} (hk : Keeps z s) (d sub : Nat) (v : Val) : Keeps z (State.writeLevel s d sub v).2 := by
  unfold State.writeLevel
  try dsimp only
  repeat' (with_reducible first | assumption | apply State.ramp_keeps | apply State.set_keeps | split | intro _ | dsimp only | apply Keeps.rest)
theorem State.writeLevel_keeps_eq {z s s1 : State} {c : Nat} {d sub : Nat} {v : Val} (hk : Keeps z s) (hr : State.writeLevel s d sub v = (c, s1)) : Keeps z s1 := by
  have kk := State.writeLevel_keeps (z := z) hk d sub v
  rw [hr] at kk
  exact kk

theorem State.writeDelay_keeps {z s : State} (hk : Keeps z s) (d us : Nat) : Keeps z (State.writeDelay s d us).2 := by
  unfold State.writeDelay
  try dsimp only
  repeat' (with_reducible first | assumption | apply State.setN_keeps | refine State.rebook_keeps_eq ?_ (by assumption) | apply State.ramp_keeps | split | intro _ | dsimp only | apply Keeps.rest)
theorem State.writeDelay_keeps_eq {z s s1 : State} {c : Nat} {d us : Nat} (hk : Keeps z s) (hr : State.writeDelay s d us = (c, s1)) : Keeps z s1 := by
  have kk := State.writeDelay_keeps (z := z) hk d us
  rw [hr] at kk
  exact kk

theorem State.reviewAsrc_keeps {z s : State} (hk : Keeps z s) (src : Nat) : Keeps z (State.reviewAsrc s src) := by
  unfold State.reviewAsrc
  try dsimp only
  repeat' (with_reducible first | assumption | apply State.setN_keeps | apply keeps_foldl | apply keeps_foldl_fst | apply keeps_foldl_snd | split | intro _ | dsimp only | apply Keeps.rest)

theorem State.putSap_keeps {z s : State} (hk : Keeps z s) (r : SapRec) : Keeps z (State.putSap s r) := by
  unfold State.putSap
  try dsimp only
  repeat' (with_reducible first | assumption | split | intro _ | dsimp only | apply Keeps.rest)

theorem State.stopSap_keeps {z s : State} (hk : Keeps z s) (dir : Nat) : Keeps z (State.stopSap s dir) := by
  unfold State.stopSap
  try dsimp only
  repeat' (with_reducible first | assumption | apply State.setF_keeps | apply State.setN_keeps | split | intro _ | dsimp only | apply Keeps.rest)

theorem State.armStart_keeps {z s : State} (hk : Keeps z s)  : Keeps z (State.armStart s).2 := by
  unfold State.armStart
  try dsimp only
  repeat' (with_reducible first | assumption | apply State.setN_keeps | apply State.putSap_keeps | apply State.set_keeps | apply keeps_foldl | apply keeps_foldl_fst | apply keeps_foldl_snd | split | intro _ | dsimp only | apply Keeps.rest)
theorem State.armStart_keeps_eq {z s s1 : State} {c : Nat}  (hk : Keeps z s) (hr : State.armStart s = (c, s1)) : Keeps z s1 := by
  have kk := State.armStart_keeps (z := z) hk
  rw [hr] at kk
  exact kk

theorem State.disarmStart_keeps {z s : State} (hk : Keeps z s)  : Keeps z (State.disarmStart s).2 := by
  unfold State.disarmStart
  try dsimp only
  repeat' (with_reducible first | assumption | apply State.stopSap_keeps | apply State.setN_keeps | apply keeps_foldl | apply keeps_foldl_fst | apply keeps_foldl_snd | split | intro _ | dsimp only | apply Keeps.rest)
theorem State.disarmStart_keeps_eq {z s s1 : State} {c : Nat}  (hk : Keeps z s) (hr : State.disarmStart s = (c, s1)) : Keeps z s1 := by
  have kk := State.disarmStart_keeps (z := z) hk
  rw [hr] at kk
  exact kk

theorem State.fireStart_keeps {z s : State} (hk : Keeps z s) (at' : Nat) : Keeps z (State.fireStart s at') := by
  unfold State.fireStart
  try dsimp only
  repeat' (with_reducible first | assumption | apply State.setF_keeps | apply State.setN_keeps | apply State.set_keeps | apply keeps_foldl | apply keeps_foldl_fst | apply keeps_foldl_snd | split | intro _ | dsimp only | apply Keeps.rest)

theorem State.writeRun_keeps {z s : State} (hk : Keeps z s) (dir : Nat) (run : Bool) : Keeps z (State.writeRun s dir run).2 := by
  unfold State.writeRun
  try dsimp only
  repeat' (with_reducible first | assumption | apply State.stopSap_keeps | apply State.setF_keeps | apply State.setN_keeps | apply State.putSap_keeps | split | intro _ | dsimp only | apply Keeps.rest)
theorem State.writeRun_keeps_eq {z s s1 : State} {c : Nat} {dir : Nat} {run : Bool} (hk : Keeps z s) (hr : State.writeRun s dir run = (c, s1)) : Keeps z s1 := by
  have kk := State.writeRun_keeps (z := z) hk dir run
  rw [hr] at kk
  exact kk

theorem State.writeFrameKey_keeps {z s : State} (hk : Keeps z s) (dir sub : Nat) (v : Val) : Keeps z (State.writeFrameKey s dir sub v).2 := by
  unfold State.writeFrameKey
  try dsimp only
  repeat' (with_reducible first | assumption | apply State.setLater_keeps | apply State.putSap_keeps | apply State.set_keeps | split | intro _ | dsimp only | apply Keeps.rest)
theorem State.writeFrameKey_keeps_eq {z s s1 : State} {c : Nat} {dir sub : Nat} {v : Val} (hk : Keeps z s) (hr : State.writeFrameKey s dir sub v = (c, s1)) : Keeps z s1 := by
  have kk := State.writeFrameKey_keeps (z := z) hk dir sub v
  rw [hr] at kk
  exact kk

theorem State.frameKeys_keeps {z s : State} (hk : Keeps z s) (dir : Nat) : Keeps z (State.frameKeys s dir) := by
  unfold State.frameKeys
  try dsimp only
  repeat' (with_reducible first | assumption | apply State.takeEffect_keeps | apply State.setN_keeps | split | intro _ | dsimp only | apply Keeps.rest)

theorem State.tdmFrame_keeps {z s : State} (hk : Keeps z s) (dir : Nat) (fits : Bool) : Keeps z (State.tdmFrame s dir fits) := by
  unfold State.tdmFrame
  try dsimp only
  repeat' (with_reducible first | assumption | apply State.count_keeps | apply State.stopSap_keeps | apply State.emit_keeps | apply State.setN_keeps | apply State.putSap_keeps | apply State.frameKeys_keeps | split | intro _ | dsimp only | apply Keeps.rest)

theorem State.sapMeasure_keeps {z s : State} (hk : Keeps z s) (dir mhz ppb : Nat) : Keeps z (State.sapMeasure s dir mhz ppb) := by
  unfold State.sapMeasure
  try dsimp only
  repeat' (with_reducible first | assumption | apply State.count_keeps | apply State.setN_keeps | apply State.strike_keeps | apply State.followShared_keeps | split | intro _ | dsimp only | apply Keeps.rest)

theorem State.enableLoud_keeps {z s : State} (hk : Keeps z s) (g : Nat) (on : Bool) : Keeps z (State.enableLoud s g on).2 := by
  unfold State.enableLoud
  try dsimp only
  repeat' (with_reducible first | assumption | apply State.setF_keeps | split | intro _ | dsimp only | apply Keeps.rest)
theorem State.enableLoud_keeps_eq {z s s1 : State} {c : Nat} {g : Nat} {on : Bool} (hk : Keeps z s) (hr : State.enableLoud s g on = (c, s1)) : Keeps z s1 := by
  have kk := State.enableLoud_keeps (z := z) hk g on
  rw [hr] at kk
  exact kk

theorem State.loudAlarm_keeps {z s : State} (hk : Keeps z s) (g bit : Nat) (on : Bool) : Keeps z (State.loudAlarm s g bit on) := by
  unfold State.loudAlarm
  try dsimp only
  repeat' (with_reducible first | assumption | apply State.setBit_keeps | apply State.strike_keeps | split | intro _ | dsimp only | apply Keeps.rest)

theorem State.loudUpdate_keeps {z s : State} (hk : Keeps z s) (g : Nat) (m : LoudMeas) : Keeps z (State.loudUpdate s g m) := by
  unfold State.loudUpdate
  try dsimp only
  repeat' (with_reducible first | assumption | apply State.setN_keeps | apply State.setI_keeps | apply State.loudAlarm_keeps | split | intro _ | dsimp only | apply Keeps.rest)

theorem State.writeAudio_keeps_eq {z s : State} {r : Nat × State} {k : Key} {v : Val} (hk : Keeps z s) (hr : State.writeAudio s k v = some r) : Keeps z r.2 := by
  unfold State.writeAudio at hr
  try dsimp only at hr
  repeat' (split at hr)
  all_goals first | (simp only [reduceCtorEq] at hr; done) | (replace hr := Option.some.inj hr; subst hr; (try dsimp only); repeat' (with_reducible first | assumption | apply State.enableLoud_keeps | refine State.enableLoud_keeps_eq ?_ (by assumption) | apply State.writeFrameKey_keeps | refine State.writeFrameKey_keeps_eq ?_ (by assumption) | apply State.reviewAsrc_keeps | apply State.armStart_keeps | refine State.armStart_keeps_eq ?_ (by assumption) | apply State.disarmStart_keeps | refine State.disarmStart_keeps_eq ?_ (by assumption) | apply State.writeRun_keeps | refine State.writeRun_keeps_eq ?_ (by assumption) | apply State.writeDelay_keeps | refine State.writeDelay_keeps_eq ?_ (by assumption) | apply State.set_keeps | apply State.writeLevel_keeps | refine State.writeLevel_keeps_eq ?_ (by assumption) | split | intro _ | dsimp only | apply Keeps.rest))
theorem State.writeAudio_keeps_pair {z s s1 : State} {c : Nat} {k : Key} {v : Val} (hk : Keeps z s) (hr : State.writeAudio s k v = some (c, s1)) : Keeps z s1 :=
  State.writeAudio_keeps_eq (r := (c, s1)) hk hr

end Sys2Proof.Machine
end

