-- ==== Sys2Proof/Laws/KeepsTiming.lean ====
section
/-! SUPPORT. What each operation on a state keeps (`Keeps`, in Laws/Keeps.lean): references, DPLLs, clock outputs, time bases and PTP. -/

set_option linter.all false

namespace Sys2Proof.Machine

/-! ## Machine/Timing.lean -/

theorem State.reglide_keeps {z s : State} (hk : Keeps z s) (kind n : Nat) (target : Int) (rate : Nat) : Keeps z (State.reglide s kind n target rate) := by
  unfold State.reglide
  try dsimp only
  repeat' (with_reducible first | assumption | split | intro _ | dsimp only | apply Keeps.rest)

theorem State.putDpll_keeps {z s : State} (hk : Keeps z s) (r : DpllRec) : Keeps z (State.putDpll s r) := by
  unfold State.putDpll
  try dsimp only
  repeat' (with_reducible first | assumption | split | intro _ | dsimp only | apply Keeps.rest)

theorem State.tuneTo_keeps {z s : State} (hk : Keeps z s) (k : Nat) (target : Int) : Keeps z (State.tuneTo s k target) := by
  unfold State.tuneTo
  try dsimp only
  repeat' (with_reducible first | assumption | apply State.putDpll_keeps | split | intro _ | dsimp only | apply Keeps.rest)

theorem State.putRef_keeps {z s : State} (hk : Keeps z s) (r : RefRec) : Keeps z (State.putRef s r) := by
  unfold State.putRef
  try dsimp only
  repeat' (with_reducible first | assumption | split | intro _ | dsimp only | apply Keeps.rest)

theorem State.setDpllState_keeps {z s : State} (hk : Keeps z s) (k st : Nat) : Keeps z (State.setDpllState s k st) := by
  unfold State.setDpllState
  try dsimp only
  repeat' (with_reducible first | assumption | apply State.count_keeps | apply State.putDpll_keeps | apply State.setN_keeps | apply State.correctTb_keeps | apply State.followShared_keeps | apply State.tuneTo_keeps | apply keeps_foldl | apply keeps_foldl_fst | apply keeps_foldl_snd | split | intro _ | dsimp only | apply Keeps.rest)

theorem State.loseEntry_keeps {z s : State} (hk : Keeps z s) (e : Nat) : Keeps z (State.loseEntry s e) := by
  unfold State.loseEntry
  try dsimp only
  repeat' (with_reducible first | assumption | apply State.setN_keeps | apply State.setDpllState_keeps | apply keeps_foldl | apply keeps_foldl_fst | apply keeps_foldl_snd | split | intro _ | dsimp only | apply Keeps.rest)

theorem State.setRefState_keeps {z s : State} (hk : Keeps z s) (e v : Nat) : Keeps z (State.setRefState s e v) := by
  unfold State.setRefState
  try dsimp only
  repeat' (with_reducible first | assumption | apply State.count_keeps | apply State.setN_keeps | apply State.strike_keeps | apply State.putRef_keeps | apply State.loseEntry_keeps | apply State.followShared_keeps | split | intro _ | dsimp only | apply Keeps.rest)

theorem State.phaseSample_keeps {z s : State} (hk : Keeps z s) (e mtie : Nat) (freq : Int) (format : Nat) : Keeps z (State.phaseSample s e mtie freq format) := by
  unfold State.phaseSample
  try dsimp only
  repeat' (with_reducible first | assumption | apply State.setN_keeps | apply State.setRefState_keeps | apply State.putRef_keeps | apply State.tuneTo_keeps | apply keeps_foldl | apply keeps_foldl_fst | apply keeps_foldl_snd | split | intro _ | dsimp only | apply Keeps.rest)

theorem State.remodel_keeps {z s : State} (hk : Keeps z s) (k : Nat) : Keeps z (State.remodel s k) := by
  unfold State.remodel
  try dsimp only
  repeat' (with_reducible first | assumption | apply State.putDpll_keeps | apply State.setF_keeps | apply State.setI_keeps | split | intro _ | dsimp only | apply Keeps.rest)

theorem State.evaluate_keeps {z s : State} (hk : Keeps z s) (means : List Int) : Keeps z (State.evaluate s means) := by
  unfold State.evaluate
  try dsimp only
  repeat' (with_reducible first | assumption | apply State.setI_keeps | apply State.follow_keeps | apply State.setRefState_keeps | apply State.remodel_keeps | apply keeps_foldl | apply keeps_foldl_fst | apply keeps_foldl_snd | split | intro _ | dsimp only | apply Keeps.rest)

theorem State.moveTo_keeps {z s : State} (hk : Keeps z s) (k e : Nat) : Keeps z (State.moveTo s k e) := by
  unfold State.moveTo
  try dsimp only
  repeat' (with_reducible first | assumption | apply State.putDpll_keeps | apply State.setN_keeps | apply State.setDpllState_keeps | split | intro _ | dsimp only | apply Keeps.rest)

theorem State.runSelector_keeps {z s : State} (hk : Keeps z s) (k : Nat) : Keeps z (State.runSelector s k) := by
  unfold State.runSelector
  try dsimp only
  repeat' (with_reducible first | assumption | apply State.moveTo_keeps | apply State.setN_keeps | apply State.follow_keeps | apply State.setDpllState_keeps | split | intro _ | dsimp only | apply Keeps.rest)

theorem State.writeRef_keeps_eq {z s : State} {r : Nat × State} {i sub : Nat} {v : Val} (hk : Keeps z s) (hr : State.writeRef s i sub v = some r) : Keeps z r.2 := by
  unfold State.writeRef at hr
  try dsimp only at hr
  repeat' (split at hr)
  all_goals first | (simp only [reduceCtorEq] at hr; done) | (replace hr := Option.some.inj hr; subst hr; (try dsimp only); repeat' (with_reducible first | assumption | apply State.setN_keeps | apply State.set_keeps | apply State.setRefState_keeps | apply State.putRef_keeps | apply State.setDpllState_keeps | apply keeps_foldl | apply keeps_foldl_fst | apply keeps_foldl_snd | split | intro _ | dsimp only | apply Keeps.rest))
theorem State.writeRef_keeps_pair {z s s1 : State} {c : Nat} {i sub : Nat} {v : Val} (hk : Keeps z s) (hr : State.writeRef s i sub v = some (c, s1)) : Keeps z s1 :=
  State.writeRef_keeps_eq (r := (c, s1)) hk hr

theorem State.writeDpllMode_keeps {z s : State} (hk : Keeps z s) (k sub : Nat) (v : Val) : Keeps z (State.writeDpllMode s k sub v).2 := by
  unfold State.writeDpllMode
  try dsimp only
  repeat' (with_reducible first | assumption | apply State.putDpll_keeps | apply State.setN_keeps | apply State.set_keeps | apply State.setDpllState_keeps | split | intro _ | dsimp only | apply Keeps.rest)
theorem State.writeDpllMode_keeps_eq {z s s1 : State} {c : Nat} {k sub : Nat} {v : Val} (hk : Keeps z s) (hr : State.writeDpllMode s k sub v = (c, s1)) : Keeps z s1 := by
  have kk := State.writeDpllMode_keeps (z := z) hk k sub v
  rw [hr] at kk
  exact kk

theorem State.armEpoch_keeps {z s : State} (hk : Keeps z s) (k : Nat) : Keeps z (State.armEpoch s k).2 := by
  unfold State.armEpoch
  try dsimp only
  repeat' (with_reducible first | assumption | apply State.putDpll_keeps | apply State.setN_keeps | split | intro _ | dsimp only | apply Keeps.rest)
theorem State.armEpoch_keeps_eq {z s s1 : State} {c : Nat} {k : Nat} (hk : Keeps z s) (hr : State.armEpoch s k = (c, s1)) : Keeps z s1 := by
  have kk := State.armEpoch_keeps (z := z) hk k
  rw [hr] at kk
  exact kk

theorem State.disarmEpoch_keeps {z s : State} (hk : Keeps z s) (k : Nat) : Keeps z (State.disarmEpoch s k).2 := by
  unfold State.disarmEpoch
  try dsimp only
  repeat' (with_reducible first | assumption | apply State.putDpll_keeps | apply State.setN_keeps | split | intro _ | dsimp only | apply Keeps.rest)
theorem State.disarmEpoch_keeps_eq {z s s1 : State} {c : Nat} {k : Nat} (hk : Keeps z s) (hr : State.disarmEpoch s k = (c, s1)) : Keeps z s1 := by
  have kk := State.disarmEpoch_keeps (z := z) hk k
  rw [hr] at kk
  exact kk

theorem State.writeDpll_keeps_eq {z s : State} {r : Nat × State} {k sub : Nat} {v : Val} (hk : Keeps z s) (hr : State.writeDpll s k sub v = some r) : Keeps z r.2 := by
  unfold State.writeDpll at hr
  try dsimp only at hr
  repeat' (split at hr)
  all_goals first | (simp only [reduceCtorEq] at hr; done) | (replace hr := Option.some.inj hr; subst hr; (try dsimp only); repeat' (with_reducible first | assumption | apply State.armEpoch_keeps | refine State.armEpoch_keeps_eq ?_ (by assumption) | apply State.disarmEpoch_keeps | refine State.disarmEpoch_keeps_eq ?_ (by assumption) | apply State.runSelector_keeps | apply State.writeDpllMode_keeps | refine State.writeDpllMode_keeps_eq ?_ (by assumption) | apply State.set_keeps | apply State.tuneTo_keeps | split | intro _ | dsimp only | apply Keeps.rest))
theorem State.writeDpll_keeps_pair {z s s1 : State} {c : Nat} {k sub : Nat} {v : Val} (hk : Keeps z s) (hr : State.writeDpll s k sub v = some (c, s1)) : Keeps z s1 :=
  State.writeDpll_keeps_eq (r := (c, s1)) hk hr

theorem State.enableUnit_keeps {z s : State} (hk : Keeps z s) (k : Key) (n : Nat) (on : Bool) : Keeps z (State.enableUnit s k n on) := by
  unfold State.enableUnit
  try dsimp only
  repeat' (with_reducible first | assumption | apply State.setF_keeps | split | intro _ | dsimp only | apply Keeps.rest)

theorem State.writePhase_keeps {z s : State} (hk : Keeps z s) (o : Nat) (v : Int) : Keeps z (State.writePhase s o v).2 := by
  unfold State.writePhase
  try dsimp only
  repeat' (with_reducible first | assumption | apply State.setI_keeps | split | intro _ | dsimp only | apply Keeps.rest)
theorem State.writePhase_keeps_eq {z s s1 : State} {c : Nat} {o : Nat} {v : Int} (hk : Keeps z s) (hr : State.writePhase s o v = (c, s1)) : Keeps z s1 := by
  have kk := State.writePhase_keeps (z := z) hk o v
  rw [hr] at kk
  exact kk

theorem State.writeCko_keeps_eq {z s : State} {r : Nat × State} {o sub : Nat} {v : Val} (hk : Keeps z s) (hr : State.writeCko s o sub v = some r) : Keeps z r.2 := by
  unfold State.writeCko at hr
  try dsimp only at hr
  repeat' (split at hr)
  all_goals first | (simp only [reduceCtorEq] at hr; done) | (replace hr := Option.some.inj hr; subst hr; (try dsimp only); repeat' (with_reducible first | assumption | apply State.enableUnit_keeps | apply State.writePhase_keeps | refine State.writePhase_keeps_eq ?_ (by assumption) | apply State.setLater_keeps | apply State.set_keeps | apply State.reglide_keeps | split | intro _ | dsimp only | apply Keeps.rest))
theorem State.writeCko_keeps_pair {z s s1 : State} {c : Nat} {o sub : Nat} {v : Val} (hk : Keeps z s) (hr : State.writeCko s o sub v = some (c, s1)) : Keeps z s1 :=
  State.writeCko_keeps_eq (r := (c, s1)) hk hr

theorem State.writeSwp_keeps_eq {z s : State} {r : Nat × State} {n sub : Nat} {v : Val} (hk : Keeps z s) (hr : State.writeSwp s n sub v = some r) : Keeps z r.2 := by
  unfold State.writeSwp at hr
  try dsimp only at hr
  repeat' (split at hr)
  all_goals first | (simp only [reduceCtorEq] at hr; done) | (replace hr := Option.some.inj hr; subst hr; (try dsimp only); repeat' (with_reducible first | assumption | apply State.enableUnit_keeps | apply State.set_keeps | apply State.reglide_keeps | split | intro _ | dsimp only | apply Keeps.rest))
theorem State.writeSwp_keeps_pair {z s s1 : State} {c : Nat} {n sub : Nat} {v : Val} (hk : Keeps z s) (hr : State.writeSwp s n sub v = some (c, s1)) : Keeps z s1 :=
  State.writeSwp_keeps_eq (r := (c, s1)) hk hr

theorem State.writeTiming_keeps_eq {z s : State} {r : Nat × State} {k : Key} {v : Val} (hk : Keeps z s) (hr : State.writeTiming s k v = some r) : Keeps z r.2 := by
  unfold State.writeTiming at hr
  try dsimp only at hr
  repeat' (split at hr)
  all_goals first | (simp only [reduceCtorEq] at hr; done) | (replace hr := Option.some.inj hr; subst hr; (try dsimp only); repeat' (with_reducible first | assumption | refine State.writeDpll_keeps_eq ?_ (by assumption) | refine State.writeDpll_keeps_pair ?_ (by assumption) | refine State.writeRef_keeps_eq ?_ (by assumption) | refine State.writeRef_keeps_pair ?_ (by assumption) | refine State.writeSwp_keeps_eq ?_ (by assumption) | refine State.writeSwp_keeps_pair ?_ (by assumption) | refine State.writeCko_keeps_eq ?_ (by assumption) | refine State.writeCko_keeps_pair ?_ (by assumption) | split | intro _ | dsimp only | apply Keeps.rest)) | (refine State.writeDpll_keeps_eq ?_ hr; repeat' (with_reducible first | assumption | refine State.writeDpll_keeps_eq ?_ (by assumption) | refine State.writeDpll_keeps_pair ?_ (by assumption) | refine State.writeRef_keeps_eq ?_ (by assumption) | refine State.writeRef_keeps_pair ?_ (by assumption) | refine State.writeSwp_keeps_eq ?_ (by assumption) | refine State.writeSwp_keeps_pair ?_ (by assumption) | refine State.writeCko_keeps_eq ?_ (by assumption) | refine State.writeCko_keeps_pair ?_ (by assumption) | split | intro _ | dsimp only | apply Keeps.rest)) | (refine State.writeRef_keeps_eq ?_ hr; repeat' (with_reducible first | assumption | refine State.writeDpll_keeps_eq ?_ (by assumption) | refine State.writeDpll_keeps_pair ?_ (by assumption) | refine State.writeRef_keeps_eq ?_ (by assumption) | refine State.writeRef_keeps_pair ?_ (by assumption) | refine State.writeSwp_keeps_eq ?_ (by assumption) | refine State.writeSwp_keeps_pair ?_ (by assumption) | refine State.writeCko_keeps_eq ?_ (by assumption) | refine State.writeCko_keeps_pair ?_ (by assumption) | split | intro _ | dsimp only | apply Keeps.rest)) | (refine State.writeSwp_keeps_eq ?_ hr; repeat' (with_reducible first | assumption | refine State.writeDpll_keeps_eq ?_ (by assumption) | refine State.writeDpll_keeps_pair ?_ (by assumption) | refine State.writeRef_keeps_eq ?_ (by assumption) | refine State.writeRef_keeps_pair ?_ (by assumption) | refine State.writeSwp_keeps_eq ?_ (by assumption) | refine State.writeSwp_keeps_pair ?_ (by assumption) | refine State.writeCko_keeps_eq ?_ (by assumption) | refine State.writeCko_keeps_pair ?_ (by assumption) | split | intro _ | dsimp only | apply Keeps.rest)) | (refine State.writeCko_keeps_eq ?_ hr; repeat' (with_reducible first | assumption | refine State.writeDpll_keeps_eq ?_ (by assumption) | refine State.writeDpll_keeps_pair ?_ (by assumption) | refine State.writeRef_keeps_eq ?_ (by assumption) | refine State.writeRef_keeps_pair ?_ (by assumption) | refine State.writeSwp_keeps_eq ?_ (by assumption) | refine State.writeSwp_keeps_pair ?_ (by assumption) | refine State.writeCko_keeps_eq ?_ (by assumption) | refine State.writeCko_keeps_pair ?_ (by assumption) | split | intro _ | dsimp only | apply Keeps.rest))
theorem State.writeTiming_keeps_pair {z s s1 : State} {c : Nat} {k : Key} {v : Val} (hk : Keeps z s) (hr : State.writeTiming s k v = some (c, s1)) : Keeps z s1 :=
  State.writeTiming_keeps_eq (r := (c, s1)) hk hr

/-! ## Machine/TimeBases.lean -/

theorem State.putPtp_keeps {z s : State} (hk : Keeps z s) (r : PtpRec) : Keeps z (State.putPtp s r) := by
  unfold State.putPtp
  try dsimp only
  repeat' (with_reducible first | assumption | split | intro _ | dsimp only | apply Keeps.rest)

theorem State.putTb_keeps {z s : State} (hk : Keeps z s) (r : TbRec) : Keeps z (State.putTb s r) := by
  unfold State.putTb
  try dsimp only
  repeat' (with_reducible first | assumption | split | intro _ | dsimp only | apply Keeps.rest)

theorem State.setPort_keeps {z s : State} (hk : Keeps z s) (p st : Nat) : Keeps z (State.setPort s p st) := by
  unfold State.setPort
  try dsimp only
  repeat' (with_reducible first | assumption | apply State.mirror_keeps | apply State.setN_keeps | split | intro _ | dsimp only | apply Keeps.rest)

theorem State.reviewNoMaster_keeps {z s : State} (hk : Keeps z s) (t : Nat) : Keeps z (State.reviewNoMaster s t) := by
  unfold State.reviewNoMaster
  try dsimp only
  repeat' (with_reducible first | assumption | apply State.followShared_keeps | split | intro _ | dsimp only | apply Keeps.rest)

theorem State.followMaster_keeps {z s : State} (hk : Keeps z s) (t p : Nat) (m : PtpMaster) : Keeps z (State.followMaster s t p m) := by
  unfold State.followMaster
  try dsimp only
  repeat' (with_reducible first | assumption | apply State.setN_keeps | apply State.setI_keeps | apply State.putPtp_keeps | apply State.setB_keeps | apply State.setPort_keeps | apply State.putTb_keeps | split | intro _ | dsimp only | apply Keeps.rest)

theorem State.bmca_keeps {z s : State} (hk : Keeps z s) (t : Nat) : Keeps z (State.bmca s t) := by
  unfold State.bmca
  try dsimp only
  repeat' (with_reducible first | assumption | apply State.followMaster_keeps | apply State.reviewNoMaster_keeps | apply State.setPort_keeps | apply State.putTb_keeps | apply keeps_foldl | apply keeps_foldl_fst | apply keeps_foldl_snd | split | intro _ | dsimp only | apply Keeps.rest)

theorem State.stepTb_keeps {z s : State} (hk : Keeps z s) (t : Nat) (delta : Int) (alone : Bool) : Keeps z (State.stepTb s t delta alone) := by
  unfold State.stepTb
  try dsimp only
  repeat' (with_reducible first | assumption | apply State.count_keeps | apply State.mirror_keeps | apply State.modTb_keeps | apply State.afterStep_keeps | split | intro _ | dsimp only | apply Keeps.rest)

theorem State.reviewJump_keeps {z s : State} (hk : Keeps z s) (t : Nat) : Keeps z (State.reviewJump s t) := by
  unfold State.reviewJump
  try dsimp only
  repeat' (with_reducible first | assumption | apply State.followShared_keeps | split | intro _ | dsimp only | apply Keeps.rest)

theorem State.endPending_keeps {z s : State} (hk : Keeps z s) (t st : Nat) : Keeps z (State.endPending s t st) := by
  unfold State.endPending
  try dsimp only
  repeat' (with_reducible first | assumption | apply State.putTb_keeps | apply State.reviewJump_keeps | apply State.setN_keeps | apply State.setI_keeps | split | intro _ | dsimp only | apply Keeps.rest)

theorem State.stepDue_keeps {z s : State} (hk : Keeps z s) (t : Nat) : Keeps z (State.stepDue s t) := by
  unfold State.stepDue
  try dsimp only
  repeat' (with_reducible first | assumption | apply State.stepTb_keeps | apply State.endPending_keeps | split | intro _ | dsimp only | apply Keeps.rest)

theorem State.guardOffset_keeps {z s : State} (hk : Keeps z s) (t : Nat) (offset : Int) : Keeps z (State.guardOffset s t offset) := by
  unfold State.guardOffset
  try dsimp only
  repeat' (with_reducible first | assumption | apply State.count_keeps | apply State.setN_keeps | apply State.setI_keeps | apply State.stepTb_keeps | apply State.endPending_keeps | apply State.reviewJump_keeps | apply State.putTb_keeps | split | intro _ | dsimp only | apply Keeps.rest)

theorem State.syncMeasured_keeps {z s : State} (hk : Keeps z s) (p : Nat) (offset path : Int) : Keeps z (State.syncMeasured s p offset path) := by
  unfold State.syncMeasured
  try dsimp only
  repeat' (with_reducible first | assumption | apply State.reviewNoMaster_keeps | apply State.correctTb_keeps | apply State.setI_keeps | apply State.putPtp_keeps | apply State.setPort_keeps | apply State.guardOffset_keeps | apply State.putTb_keeps | split | intro _ | dsimp only | apply Keeps.rest)

theorem State.announceHeard_keeps {z s : State} (hk : Keeps z s) (p : Nat) (m : PtpMaster) : Keeps z (State.announceHeard s p m) := by
  unfold State.announceHeard
  try dsimp only
  repeat' (with_reducible first | assumption | apply State.putPtp_keeps | apply State.bmca_keeps | split | intro _ | dsimp only | apply Keeps.rest)

theorem State.ptpRx_keeps {z s : State} (hk : Keeps z s) (p : Nat) (m : PtpMsg) : Keeps z (State.ptpRx s p m) := by
  unfold State.ptpRx
  try dsimp only
  repeat' (with_reducible first | assumption | apply State.count_keeps | apply State.syncMeasured_keeps | apply State.setI_keeps | apply State.announceHeard_keeps | split | intro _ | dsimp only | apply Keeps.rest)

theorem State.ptpTx_keeps {z s : State} (hk : Keeps z s) (p : Nat) (kind : PtpSend) : Keeps z (State.ptpTx s p kind) := by
  unfold State.ptpTx
  try dsimp only
  repeat' (with_reducible first | assumption | apply State.count_keeps | apply State.emit_keeps | split | intro _ | dsimp only | apply Keeps.rest)

theorem State.queueStamp_keeps {z s : State} (hk : Keeps z s) (l : LaunchReq) (status : Nat) : Keeps z (State.queueStamp s l status) := by
  unfold State.queueStamp
  try dsimp only
  repeat' (with_reducible first | assumption | apply State.count_keeps | apply State.setN_keeps | apply State.setBit_keeps | apply State.setB_keeps | apply State.strike_keeps | split | intro _ | dsimp only | apply Keeps.rest)

theorem State.releaseStamps_keeps {z s : State} (hk : Keeps z s) (t seq : Nat) : Keeps z (State.releaseStamps s t seq).2 := by
  unfold State.releaseStamps
  try dsimp only
  repeat' (with_reducible first | assumption | apply State.setB_keeps | apply State.setN_keeps | split | intro _ | dsimp only | apply Keeps.rest)
theorem State.releaseStamps_keeps_eq {z s s1 : State} {c : Nat} {t seq : Nat} (hk : Keeps z s) (hr : State.releaseStamps s t seq = (c, s1)) : Keeps z s1 := by
  have kk := State.releaseStamps_keeps (z := z) hk t seq
  rw [hr] at kk
  exact kk

theorem State.writeLaunch_keeps {z s : State} (hk : Keeps z s) (req : Bytes) : Keeps z (State.writeLaunch s req).2 := by
  unfold State.writeLaunch
  try dsimp only
  repeat' (with_reducible first | assumption | split | intro _ | dsimp only | apply Keeps.rest)
theorem State.writeLaunch_keeps_eq {z s s1 : State} {c : Nat} {req : Bytes} (hk : Keeps z s) (hr : State.writeLaunch s req = (c, s1)) : Keeps z s1 := by
  have kk := State.writeLaunch_keeps (z := z) hk req
  rw [hr] at kk
  exact kk

theorem State.frameLeaves_keeps {z s : State} (hk : Keeps z s) (iface delay : Nat) : Keeps z (State.frameLeaves s iface delay) := by
  unfold State.frameLeaves
  try dsimp only
  repeat' (with_reducible first | assumption | apply State.count_keeps | apply State.setN_keeps | split | intro _ | dsimp only | apply Keeps.rest)

theorem State.launchRequest_keeps {z s : State} (hk : Keeps z s) (l : LaunchReq) (delay : Nat) : Keeps z (State.launchRequest s l delay) := by
  unfold State.launchRequest
  try dsimp only
  repeat' (with_reducible first | assumption | apply State.count_keeps | apply State.emit_keeps | apply State.frameLeaves_keeps | apply State.strike_keeps | apply State.queueStamp_keeps | split | intro _ | dsimp only | apply Keeps.rest)

theorem State.launchNext_keeps {z s : State} (hk : Keeps z s) (iface delay : Nat) : Keeps z (State.launchNext s iface delay) := by
  unfold State.launchNext
  try dsimp only
  repeat' (with_reducible first | assumption | apply State.emit_keeps | apply State.frameLeaves_keeps | apply State.launchRequest_keeps | split | intro _ | dsimp only | apply Keeps.rest)

theorem State.writeTime_keeps {z s : State} (hk : Keeps z s) (t reading : Nat) (override : Bool) : Keeps z (State.writeTime s t reading override).2 := by
  unfold State.writeTime
  try dsimp only
  repeat' (with_reducible first | assumption | apply State.stepTb_keeps | split | intro _ | dsimp only | apply Keeps.rest)
theorem State.writeTime_keeps_eq {z s s1 : State} {c : Nat} {t reading : Nat} {override : Bool} (hk : Keeps z s) (hr : State.writeTime s t reading override = (c, s1)) : Keeps z s1 := by
  have kk := State.writeTime_keeps (z := z) hk t reading override
  rw [hr] at kk
  exact kk

theorem State.acceptJump_keeps {z s : State} (hk : Keeps z s) (t : Nat) : Keeps z (State.acceptJump s t).2 := by
  unfold State.acceptJump
  try dsimp only
  repeat' (with_reducible first | assumption | apply State.setN_keeps | apply State.putTb_keeps | split | intro _ | dsimp only | apply Keeps.rest)
theorem State.acceptJump_keeps_eq {z s s1 : State} {c : Nat} {t : Nat} (hk : Keeps z s) (hr : State.acceptJump s t = (c, s1)) : Keeps z s1 := by
  have kk := State.acceptJump_keeps (z := z) hk t
  rw [hr] at kk
  exact kk

theorem State.withdrawJump_keeps {z s : State} (hk : Keeps z s) (t : Nat) : Keeps z (State.withdrawJump s t).2 := by
  unfold State.withdrawJump
  try dsimp only
  repeat' (with_reducible first | assumption | apply State.putTb_keeps | apply State.setN_keeps | split | intro _ | dsimp only | apply Keeps.rest)
theorem State.withdrawJump_keeps_eq {z s s1 : State} {c : Nat} {t : Nat} (hk : Keeps z s) (hr : State.withdrawJump s t = (c, s1)) : Keeps z s1 := by
  have kk := State.withdrawJump_keeps (z := z) hk t
  rw [hr] at kk
  exact kk

theorem State.enablePtp_keeps {z s : State} (hk : Keeps z s) (p : Nat) (on : Bool) : Keeps z (State.enablePtp s p on).2 := by
  unfold State.enablePtp
  try dsimp only
  repeat' (with_reducible first | assumption | apply State.setF_keeps | apply State.putPtp_keeps | apply State.bmca_keeps | apply State.setPort_keeps | split | intro _ | dsimp only | apply Keeps.rest)
theorem State.enablePtp_keeps_eq {z s s1 : State} {c : Nat} {p : Nat} {on : Bool} (hk : Keeps z s) (hr : State.enablePtp s p on = (c, s1)) : Keeps z s1 := by
  have kk := State.enablePtp_keeps (z := z) hk p on
  rw [hr] at kk
  exact kk

theorem State.writeTimeBase_keeps_eq {z s : State} {r : Nat × State} {ovr : List Nat} {k : Key} {v : Val} (hk : Keeps z s) (hr : State.writeTimeBase s ovr k v = some r) : Keeps z r.2 := by
  unfold State.writeTimeBase at hr
  try dsimp only at hr
  repeat' (split at hr)
  all_goals first | (simp only [reduceCtorEq] at hr; done) | (replace hr := Option.some.inj hr; subst hr; (try dsimp only); repeat' (with_reducible first | assumption | apply State.acceptJump_keeps | refine State.acceptJump_keeps_eq ?_ (by assumption) | apply State.releaseStamps_keeps | refine State.releaseStamps_keeps_eq ?_ (by assumption) | apply State.writeTime_keeps | refine State.writeTime_keeps_eq ?_ (by assumption) | apply State.withdrawJump_keeps | refine State.withdrawJump_keeps_eq ?_ (by assumption) | apply State.setN_keeps | apply State.setBit_keeps | apply State.writeLaunch_keeps | refine State.writeLaunch_keeps_eq ?_ (by assumption) | apply State.bmca_keeps | apply State.endPending_keeps | apply State.enablePtp_keeps | refine State.enablePtp_keeps_eq ?_ (by assumption) | apply State.set_keeps | apply State.putTb_keeps | split | intro _ | dsimp only | apply Keeps.rest))
theorem State.writeTimeBase_keeps_pair {z s s1 : State} {c : Nat} {ovr : List Nat} {k : Key} {v : Val} (hk : Keeps z s) (hr : State.writeTimeBase s ovr k v = some (c, s1)) : Keeps z s1 :=
  State.writeTimeBase_keeps_eq (r := (c, s1)) hk hr

end Sys2Proof.Machine
end

