-- ==== Sys2Proof/Laws/KeepsLanes.lean ====
section
/-! SUPPORT. What each operation on a state keeps (`Keeps`, in Laws/Keeps.lean): lanes, the mesh and the pair. -/

set_option linter.all false

namespace Sys2Proof.Machine

/-! ## Machine/Lanes.lean -/

theorem State.linkForget_keeps {z s : State} (hk : Keeps z s) (l : Nat) : Keeps z (State.linkForget s l) := by
  unfold State.linkForget
  try dsimp only
  repeat' (with_reducible first | assumption | apply State.setN_keeps | apply State.setB_keeps | split | intro _ | dsimp only | apply Keeps.rest)

theorem State.portReset_keeps {z s : State} (hk : Keeps z s) (q : Nat) : Keeps z (State.portReset s q) := by
  unfold State.portReset
  try dsimp only
  repeat' (with_reducible first | assumption | apply State.linkForget_keeps | apply State.setN_keeps | apply State.sourceGone_keeps | apply State.sdiClear_keeps | split | intro _ | dsimp only | apply Keeps.rest)

theorem State.formPort_keeps {z s : State} (hk : Keeps z s) (p kind : Nat) : Keeps z (State.formPort s p kind) := by
  unfold State.formPort
  try dsimp only
  repeat' (with_reducible first | assumption | apply State.setN_keeps | apply State.portReset_keeps | apply keeps_foldl | apply keeps_foldl_fst | apply keeps_foldl_snd | split | intro _ | dsimp only | apply Keeps.rest)

theorem State.writeKind_keeps {z s : State} (hk : Keeps z s) (p kind : Nat) : Keeps z (State.writeKind s p kind).2 := by
  unfold State.writeKind
  try dsimp only
  repeat' (with_reducible first | assumption | apply State.formPort_keeps | split | intro _ | dsimp only | apply Keeps.rest)
theorem State.writeKind_keeps_eq {z s s1 : State} {c : Nat} {p kind : Nat} (hk : Keeps z s) (hr : State.writeKind s p kind = (c, s1)) : Keeps z s1 := by
  have kk := State.writeKind_keeps (z := z) hk p kind
  rw [hr] at kk
  exact kk

theorem State.laneSleeps_keeps {z s : State} (hk : Keeps z s) (l : Nat) : Keeps z (State.laneSleeps s l) := by
  unfold State.laneSleeps
  try dsimp only
  repeat' (with_reducible first | assumption | apply State.setN_keeps | apply State.sourceGone_keeps | split | intro _ | dsimp only | apply Keeps.rest)

theorem State.laneTo_keeps {z s : State} (hk : Keeps z s) (l v : Nat) : Keeps z (State.laneTo s l v) := by
  unfold State.laneTo
  try dsimp only
  repeat' (with_reducible first | assumption | apply State.laneSleeps_keeps | apply State.setN_keeps | split | intro _ | dsimp only | apply Keeps.rest)

theorem State.writeLaneState_keeps {z s : State} (hk : Keeps z s) (l v : Nat) : Keeps z (State.writeLaneState s l v).2 := by
  unfold State.writeLaneState
  try dsimp only
  repeat' (with_reducible first | assumption | apply State.setN_keeps | apply State.laneTo_keeps | split | intro _ | dsimp only | apply Keeps.rest)
theorem State.writeLaneState_keeps_eq {z s s1 : State} {c : Nat} {l v : Nat} (hk : Keeps z s) (hr : State.writeLaneState s l v = (c, s1)) : Keeps z s1 := by
  have kk := State.writeLaneState_keeps (z := z) hk l v
  rw [hr] at kk
  exact kk

theorem State.writeEq_keeps_eq {z s : State} {r : Nat × State} {l sub : Nat} {v : Val} (hk : Keeps z s) (hr : State.writeEq s l sub v = some r) : Keeps z r.2 := by
  unfold State.writeEq at hr
  try dsimp only at hr
  repeat' (split at hr)
  all_goals first | (simp only [reduceCtorEq] at hr; done) | (replace hr := Option.some.inj hr; subst hr; (try dsimp only); repeat' (with_reducible first | assumption | apply State.setN_keeps | apply State.setB_keeps | apply State.set_keeps | split | intro _ | dsimp only | apply Keeps.rest))
theorem State.writeEq_keeps_pair {z s s1 : State} {c : Nat} {l sub : Nat} {v : Val} (hk : Keeps z s) (hr : State.writeEq s l sub v = some (c, s1)) : Keeps z s1 :=
  State.writeEq_keeps_eq (r := (c, s1)) hk hr

theorem State.startTest_keeps {z s : State} (hk : Keeps z s) (l : Nat) : Keeps z (State.startTest s l).2 := by
  unfold State.startTest
  try dsimp only
  repeat' (with_reducible first | assumption | apply State.setN_keeps | split | intro _ | dsimp only | apply Keeps.rest)
theorem State.startTest_keeps_eq {z s s1 : State} {c : Nat} {l : Nat} (hk : Keeps z s) (hr : State.startTest s l = (c, s1)) : Keeps z s1 := by
  have kk := State.startTest_keeps (z := z) hk l
  rw [hr] at kk
  exact kk

theorem State.endTest_keeps {z s : State} (hk : Keeps z s) (l st : Nat) : Keeps z (State.endTest s l st) := by
  unfold State.endTest
  try dsimp only
  repeat' (with_reducible first | assumption | apply State.setN_keeps | split | intro _ | dsimp only | apply Keeps.rest)

theorem State.finalCount_keeps {z s : State} (hk : Keeps z s) (l : Nat) : Keeps z (State.finalCount s l) := by
  unfold State.finalCount
  try dsimp only
  repeat' (with_reducible first | assumption | apply State.endTest_keeps | apply State.setN_keeps | split | intro _ | dsimp only | apply Keeps.rest)

theorem State.abortTest_keeps {z s : State} (hk : Keeps z s) (l : Nat) : Keeps z (State.abortTest s l) := by
  unfold State.abortTest
  try dsimp only
  repeat' (with_reducible first | assumption | apply State.endTest_keeps | apply State.setN_keeps | split | intro _ | dsimp only | apply Keeps.rest)

theorem State.writeTest_keeps_eq {z s : State} {r : Nat × State} {l sub : Nat} {v : Val} (hk : Keeps z s) (hr : State.writeTest s l sub v = some r) : Keeps z r.2 := by
  unfold State.writeTest at hr
  try dsimp only at hr
  repeat' (split at hr)
  all_goals first | (simp only [reduceCtorEq] at hr; done) | (replace hr := Option.some.inj hr; subst hr; (try dsimp only); repeat' (with_reducible first | assumption | apply State.count_keeps | apply State.abortTest_keeps | apply State.startTest_keeps | refine State.startTest_keeps_eq ?_ (by assumption) | apply State.finalCount_keeps | split | intro _ | dsimp only | apply Keeps.rest))
theorem State.writeTest_keeps_pair {z s s1 : State} {c : Nat} {l sub : Nat} {v : Val} (hk : Keeps z s) (hr : State.writeTest s l sub v = some (c, s1)) : Keeps z s1 :=
  State.writeTest_keeps_eq (r := (c, s1)) hk hr

theorem State.writeLanes_keeps_eq {z s : State} {r : Nat × State} {k : Key} {v : Val} (hk : Keeps z s) (hr : State.writeLanes s k v = some r) : Keeps z r.2 := by
  unfold State.writeLanes at hr
  try dsimp only at hr
  repeat' (split at hr)
  all_goals first | (simp only [reduceCtorEq] at hr; done) | (replace hr := Option.some.inj hr; subst hr; (try dsimp only); repeat' (with_reducible first | assumption | apply State.writeLaneState_keeps | refine State.writeLaneState_keeps_eq ?_ (by assumption) | apply State.setN_keeps | refine State.writeEq_keeps_eq ?_ (by assumption) | refine State.writeEq_keeps_pair ?_ (by assumption) | apply State.writeKind_keeps | refine State.writeKind_keeps_eq ?_ (by assumption) | refine State.writeTest_keeps_eq ?_ (by assumption) | refine State.writeTest_keeps_pair ?_ (by assumption) | split | intro _ | dsimp only | apply Keeps.rest)) | (refine State.writeEq_keeps_eq ?_ hr; repeat' (with_reducible first | assumption | apply State.writeLaneState_keeps | refine State.writeLaneState_keeps_eq ?_ (by assumption) | apply State.setN_keeps | refine State.writeEq_keeps_eq ?_ (by assumption) | refine State.writeEq_keeps_pair ?_ (by assumption) | apply State.writeKind_keeps | refine State.writeKind_keeps_eq ?_ (by assumption) | refine State.writeTest_keeps_eq ?_ (by assumption) | refine State.writeTest_keeps_pair ?_ (by assumption) | split | intro _ | dsimp only | apply Keeps.rest)) | (refine State.writeTest_keeps_eq ?_ hr; repeat' (with_reducible first | assumption | apply State.writeLaneState_keeps | refine State.writeLaneState_keeps_eq ?_ (by assumption) | apply State.setN_keeps | refine State.writeEq_keeps_eq ?_ (by assumption) | refine State.writeEq_keeps_pair ?_ (by assumption) | apply State.writeKind_keeps | refine State.writeKind_keeps_eq ?_ (by assumption) | refine State.writeTest_keeps_eq ?_ (by assumption) | refine State.writeTest_keeps_pair ?_ (by assumption) | split | intro _ | dsimp only | apply Keeps.rest))
theorem State.writeLanes_keeps_pair {z s s1 : State} {c : Nat} {k : Key} {v : Val} (hk : Keeps z s) (hr : State.writeLanes s k v = some (c, s1)) : Keeps z s1 :=
  State.writeLanes_keeps_eq (r := (c, s1)) hk hr

/-! ## Machine/Mesh.lean -/

theorem State.putMlane_keeps {z s : State} (hk : Keeps z s) (r : MeshLane) : Keeps z (State.putMlane s r) := by
  unfold State.putMlane
  try dsimp only
  repeat' (with_reducible first | assumption | split | intro _ | dsimp only | apply Keeps.rest)

theorem State.sendCtl_keeps {z s : State} (hk : Keeps z s) (l : Nat) (n : Notice) : Keeps z (State.sendCtl s l n) := by
  unfold State.sendCtl
  try dsimp only
  repeat' (with_reducible first | assumption | apply State.emit_keeps | apply State.count_keeps | split | intro _ | dsimp only | apply Keeps.rest)

theorem State.flood_keeps {z s : State} (hk : Keeps z s) (n : Notice) : Keeps z (State.flood s n) := by
  unfold State.flood
  try dsimp only
  repeat' (with_reducible first | assumption | apply State.sendCtl_keeps | apply keeps_foldl | apply keeps_foldl_fst | apply keeps_foldl_snd | split | intro _ | dsimp only | apply Keeps.rest)

theorem State.judgeLinks_keeps {z s : State} (hk : Keeps z s)  : Keeps z (State.judgeLinks s) := by
  unfold State.judgeLinks
  try dsimp only
  repeat' (with_reducible first | assumption | apply State.endFault_keeps | apply State.setN_keeps | apply State.follow_keeps | apply keeps_foldl | apply keeps_foldl_fst | apply keeps_foldl_snd | split | intro _ | dsimp only | apply Keeps.rest)

theorem State.linkDown_keeps {z s : State} (hk : Keeps z s) (l : Nat) (cause : Nat) : Keeps z (State.linkDown s l cause) := by
  unfold State.linkDown
  try dsimp only
  repeat' (with_reducible first | assumption | apply State.count_keeps | apply State.setN_keeps | apply State.flood_keeps | apply State.follow_keeps | apply State.putMlane_keeps | apply State.failRoutes_keeps | apply State.judgeLinks_keeps | split | intro _ | dsimp only | apply Keeps.rest)

theorem State.writeLinkAdmin_keeps {z s : State} (hk : Keeps z s) (l : Nat) (up : Bool) : Keeps z (State.writeLinkAdmin s l up).2 := by
  unfold State.writeLinkAdmin
  try dsimp only
  repeat' (with_reducible first | assumption | apply State.setF_keeps | apply State.linkForget_keeps | apply State.setN_keeps | apply State.flood_keeps | apply State.judgeLinks_keeps | split | intro _ | dsimp only | apply Keeps.rest)
theorem State.writeLinkAdmin_keeps_eq {z s s1 : State} {c : Nat} {l : Nat} {up : Bool} (hk : Keeps z s) (hr : State.writeLinkAdmin s l up = (c, s1)) : Keeps z s1 := by
  have kk := State.writeLinkAdmin_keeps (z := z) hk l up
  rw [hr] at kk
  exact kk

theorem State.trainingSet_keeps {z s : State} (hk : Keeps z s) (l : Nat) (set : TrainingSet) : Keeps z (State.trainingSet s l set) := by
  unfold State.trainingSet
  try dsimp only
  repeat' (with_reducible first | assumption | apply State.emit_keeps | apply State.setN_keeps | apply State.setB_keeps | apply State.putMlane_keeps | apply State.set_keeps | split | intro _ | dsimp only | apply Keeps.rest)

theorem State.linkUp_keeps {z s : State} (hk : Keeps z s) (l : Nat) : Keeps z (State.linkUp s l) := by
  unfold State.linkUp
  try dsimp only
  repeat' (with_reducible first | assumption | apply State.sendCtl_keeps | apply State.setN_keeps | apply State.retryLost_keeps | apply State.flood_keeps | apply State.follow_keeps | apply State.putMlane_keeps | apply State.followShared_keeps | apply State.judgeLinks_keeps | split | intro _ | dsimp only | apply Keeps.rest)

theorem State.cellDiscarded_keeps {z s : State} (hk : Keeps z s) (l : Nat) : Keeps z (State.cellDiscarded s l) := by
  unfold State.cellDiscarded
  try dsimp only
  repeat' (with_reducible first | assumption | apply State.linkDown_keeps | apply State.putMlane_keeps | split | intro _ | dsimp only | apply Keeps.rest)

theorem State.meshCell_keeps {z s : State} (hk : Keeps z s) (l cls d : Nat) (crcOk : Bool) (word : Nat) : Keeps z (State.meshCell s l cls d crcOk word) := by
  unfold State.meshCell
  try dsimp only
  repeat' (with_reducible first | assumption | apply State.count_keeps | apply State.cellDiscarded_keeps | apply State.strike_keeps | apply State.fillLine_keeps | split | intro _ | dsimp only | apply Keeps.rest)

theorem State.lrefLost_keeps {z s : State} (hk : Keeps z s) (t : Nat) : Keeps z (State.lrefLost s t) := by
  unfold State.lrefLost
  try dsimp only
  repeat' (with_reducible first | assumption | apply State.linkDown_keeps | apply State.setBit_keeps | apply State.follow_keeps | apply State.ethLink_keeps | apply keeps_foldl | apply keeps_foldl_fst | apply keeps_foldl_snd | split | intro _ | dsimp only | apply Keeps.rest)

theorem State.showLevels_keeps {z s : State} (hk : Keeps z s)  : Keeps z (State.showLevels s) := by
  unfold State.showLevels
  try dsimp only
  repeat' (with_reducible first | assumption | apply State.setN_keeps | apply keeps_foldl | apply keeps_foldl_fst | apply keeps_foldl_snd | split | intro _ | dsimp only | apply Keeps.rest)

theorem State.setChipId_keeps {z s : State} (hk : Keeps z s) (id : Nat) : Keeps z (State.setChipId s id) := by
  unfold State.setChipId
  try dsimp only
  repeat' (with_reducible first | assumption | apply State.setN_keeps | split | intro _ | dsimp only | apply Keeps.rest)

theorem State.reviewPlan_keeps {z s : State} (hk : Keeps z s)  : Keeps z (State.reviewPlan s) := by
  unfold State.reviewPlan
  try dsimp only
  repeat' (with_reducible first | assumption | apply State.linkDown_keeps | apply State.setChipId_keeps | apply State.setN_keeps | apply keeps_foldl | apply keeps_foldl_fst | apply keeps_foldl_snd | split | intro _ | dsimp only | apply Keeps.rest)

theorem State.adoptPlan_keeps {z s : State} (hk : Keeps z s) (p : Bytes) : Keeps z (State.adoptPlan s p) := by
  unfold State.adoptPlan
  try dsimp only
  repeat' (with_reducible first | assumption | apply State.setB_keeps | apply State.flood_keeps | apply State.reviewPlan_keeps | apply State.showLevels_keeps | apply State.setN_keeps | split | intro _ | dsimp only | apply Keeps.rest)

theorem State.writePlan_keeps {z s : State} (hk : Keeps z s) (p : Bytes) : Keeps z (State.writePlan s p).2 := by
  unfold State.writePlan
  try dsimp only
  repeat' (with_reducible first | assumption | apply State.adoptPlan_keeps | split | intro _ | dsimp only | apply Keeps.rest)
theorem State.writePlan_keeps_eq {z s s1 : State} {c : Nat} {p : Bytes} (hk : Keeps z s) (hr : State.writePlan s p = (c, s1)) : Keeps z s1 := by
  have kk := State.writePlan_keeps (z := z) hk p
  rw [hr] at kk
  exact kk

theorem State.planHeard_keeps {z s : State} (hk : Keeps z s) (p : Bytes) : Keeps z (State.planHeard s p) := by
  unfold State.planHeard
  try dsimp only
  repeat' (with_reducible first | assumption | apply State.strike_keeps | apply State.adoptPlan_keeps | split | intro _ | dsimp only | apply Keeps.rest)

theorem State.joinPermit_keeps {z s : State} (hk : Keeps z s)  : Keeps z (State.joinPermit s) := by
  unfold State.joinPermit
  try dsimp only
  repeat' (with_reducible first | assumption | apply State.setChipId_keeps | apply State.endFault_keeps | apply State.setN_keeps | apply State.follow_keeps | apply State.showLevels_keeps | apply keeps_foldl | apply keeps_foldl_fst | apply keeps_foldl_snd | split | intro _ | dsimp only | apply Keeps.rest)

theorem State.elect_keeps {z s : State} (hk : Keeps z s) (lvl : Nat) (cands : List (Nat × Nat)) : Keeps z (State.elect s lvl cands) := by
  unfold State.elect
  try dsimp only
  repeat' (with_reducible first | assumption | apply State.count_keeps | apply State.setN_keeps | apply State.strike_keeps | apply State.follow_keeps | apply State.followShared_keeps | apply keeps_foldl | apply keeps_foldl_fst | apply keeps_foldl_snd | split | intro _ | dsimp only | apply Keeps.rest)

theorem State.loseChip_keeps {z s : State} (hk : Keeps z s) (chip : Nat) : Keeps z (State.loseChip s chip) := by
  unfold State.loseChip
  try dsimp only
  repeat' (with_reducible first | assumption | apply State.memberLost_keeps | apply State.failRoutes_keeps | apply State.judgeLinks_keeps | split | intro _ | dsimp only | apply Keeps.rest)

theorem State.writeMesh_keeps_eq {z s : State} {r : Nat × State} {k : Key} {v : Val} (hk : Keeps z s) (hr : State.writeMesh s k v = some r) : Keeps z r.2 := by
  unfold State.writeMesh at hr
  try dsimp only at hr
  repeat' (split at hr)
  all_goals first | (simp only [reduceCtorEq] at hr; done) | (replace hr := Option.some.inj hr; subst hr; (try dsimp only); repeat' (with_reducible first | assumption | apply State.writeLinkAdmin_keeps | refine State.writeLinkAdmin_keeps_eq ?_ (by assumption) | apply State.setN_keeps | apply State.writePlan_keeps | refine State.writePlan_keeps_eq ?_ (by assumption) | apply keeps_foldl | apply keeps_foldl_fst | apply keeps_foldl_snd | split | intro _ | dsimp only | apply Keeps.rest))
theorem State.writeMesh_keeps_pair {z s s1 : State} {c : Nat} {k : Key} {v : Val} (hk : Keeps z s) (hr : State.writeMesh s k v = some (c, s1)) : Keeps z s1 :=
  State.writeMesh_keeps_eq (r := (c, s1)) hk hr

/-! ## Machine/Routes.lean -/

theorem State.putHeadRoute_keeps {z s : State} (hk : Keeps z s) (r : HeadRoute) : Keeps z (State.putHeadRoute s r) := by
  unfold State.putHeadRoute
  exact Keeps.rest hk

theorem State.dropHeadRoute_keeps {z s : State} (hk : Keeps z s) (ident : Nat) : Keeps z (State.dropHeadRoute s ident) := by
  unfold State.dropHeadRoute
  exact Keeps.rest hk

theorem State.routeRefusedHere_keeps {z s : State} (hk : Keeps z s) (dst : Nat) (why : Refuse) : Keeps z (State.routeRefusedHere s dst why) := by
  unfold State.routeRefusedHere
  try dsimp only
  repeat' (with_reducible first | assumption | apply State.refuseTake_keeps | split | intro _ | dsimp only | apply Keeps.rest)

theorem State.refuseRoute_keeps {z s : State} (hk : Keeps z s) (asker dst : Nat) (why : Refuse) : Keeps z (State.refuseRoute s asker dst why) := by
  unfold State.refuseRoute
  try dsimp only
  repeat' (with_reducible first | assumption | apply State.routeRefusedHere_keeps | apply State.emit_keeps | split | intro _ | dsimp only | apply Keeps.rest)

theorem State.askPart_keeps {z s : State} (hk : Keeps z s) (r : HeadRoute) : Keeps z (State.askPart s r) := by
  unfold State.askPart
  try dsimp only
  repeat' (with_reducible first | assumption | apply State.emit_keeps | split | intro _ | dsimp only | apply Keeps.rest)

theorem State.coordinate_keeps {z s : State} (hk : Keeps z s) (asker dst src mbps limit : Nat) : Keeps z (State.coordinate s asker dst src mbps limit) := by
  unfold State.coordinate
  try dsimp only
  repeat' (with_reducible first | assumption | apply State.refuseRoute_keeps | apply State.askPart_keeps | apply State.putHeadRoute_keeps | split | intro _ | dsimp only | apply Keeps.rest)

theorem State.nextCandidate_keeps {z s : State} (hk : Keeps z s) (r : HeadRoute) (why : Refuse) : Keeps z (State.nextCandidate s r why) := by
  unfold State.nextCandidate
  try dsimp only
  repeat' (with_reducible first | assumption | apply State.refuseRoute_keeps | apply State.dropHeadRoute_keeps | apply State.askPart_keeps | apply State.putHeadRoute_keeps | apply State.emit_keeps | apply keeps_foldl | apply keeps_foldl_fst | apply keeps_foldl_snd | split | intro _ | dsimp only | apply Keeps.rest)

theorem State.partAnswered_keeps {z s : State} (hk : Keeps z s) (chip ident : Nat) (why : Refuse) : Keeps z (State.partAnswered s chip ident why) := by
  unfold State.partAnswered
  try dsimp only
  repeat' (with_reducible first | assumption | apply State.nextCandidate_keeps | apply State.askPart_keeps | apply State.putHeadRoute_keeps | apply State.emit_keeps | apply keeps_foldl | apply keeps_foldl_fst | apply keeps_foldl_snd | apply State.dropHeadRoute_keeps | split | intro _ | dsimp only | apply Keeps.rest)

theorem State.routesLose_keeps {z s : State} (hk : Keeps z s) (chip : Nat) : Keeps z (State.routesLose s chip) := by
  unfold State.routesLose
  try dsimp only
  repeat' (with_reducible first | assumption | apply keeps_foldl | apply keeps_foldl_fst | apply keeps_foldl_snd | apply State.nextCandidate_keeps | split | intro _ | dsimp only | apply Keeps.rest)

theorem State.answerReserve_keeps {z s : State} (hk : Keeps z s) (head ident : Nat) (why : Refuse) : Keeps z (State.answerReserve s head ident why) := by
  unfold State.answerReserve
  try dsimp only
  repeat' (with_reducible first | assumption | apply State.partAnswered_keeps | apply State.emit_keeps | split | intro _ | dsimp only | apply Keeps.rest)

theorem State.startHeaded_keeps {z s : State} (hk : Keeps z s) (task : Task) : Keeps z (State.startHeaded s task) := by
  unfold State.startHeaded
  try dsimp only
  repeat' (with_reducible first | assumption | apply keeps_foldl | apply keeps_foldl_fst | apply keeps_foldl_snd | apply State.coordinate_keeps | apply State.startTask_keeps | split | intro _ | dsimp only | apply Keeps.rest)

theorem State.completeHeaded_keeps {z s : State} (hk : Keeps z s) (task : Task) (v : Verdict) : Keeps z (State.completeHeaded s task v) := by
  unfold State.completeHeaded
  try dsimp only
  repeat' (with_reducible first | assumption | apply State.partAnswered_keeps | apply State.completeTask_keeps | split | intro _ | dsimp only | apply Keeps.rest)

/-! ## Machine/Twin.lean -/

theorem State.watchBarometer_keeps {z s : State} (hk : Keeps z s)  : Keeps z (State.watchBarometer s) := by
  unfold State.watchBarometer
  try dsimp only
  repeat' (with_reducible first | assumption | apply State.mirror_keeps | apply State.emit_keeps | split | intro _ | dsimp only | apply Keeps.rest)

theorem State.noteRole_keeps {z s : State} (hk : Keeps z s) (cause : Nat) : Keeps z (State.noteRole s cause) := by
  unfold State.noteRole
  try dsimp only
  repeat' (with_reducible first | assumption | apply State.count_keeps | apply State.setN_keeps | split | intro _ | dsimp only | apply Keeps.rest)

theorem State.dropFindings_keeps {z s : State} (hk : Keeps z s)  : Keeps z (State.dropFindings s) := by
  unfold State.dropFindings
  try dsimp only
  repeat' (with_reducible first | assumption | apply State.endFault_keeps | apply keeps_foldl | apply keeps_foldl_fst | apply keeps_foldl_snd | split | intro _ | dsimp only | apply Keeps.rest)

theorem State.reportAll_keeps {z s : State} (hk : Keeps z s)  : Keeps z (State.reportAll s) := by
  unfold State.reportAll
  try dsimp only
  repeat' (with_reducible first | assumption | apply State.emit_keeps | apply keeps_foldl | apply keeps_foldl_fst | apply keeps_foldl_snd | split | intro _ | dsimp only | apply Keeps.rest)

theorem State.takeCharge_keeps {z s : State} (hk : Keeps z s) (cause : Nat) : Keeps z (State.takeCharge s cause) := by
  unfold State.takeCharge
  try dsimp only
  repeat' (with_reducible first | assumption | apply State.noteRole_keeps | apply State.count_keeps | apply State.claimSide_keeps | apply State.reportAll_keeps | apply State.setN_keeps | apply State.retryLost_keeps | apply State.runSelector_keeps | apply State.showLevels_keeps | apply State.setRefState_keeps | apply State.dropFindings_keeps | apply keeps_foldl | apply keeps_foldl_fst | apply keeps_foldl_snd | split | intro _ | dsimp only | apply Keeps.rest)

theorem State.standDown_keeps {z s : State} (hk : Keeps z s) (keep : Bool) : Keeps z (State.standDown s keep) := by
  unfold State.standDown
  try dsimp only
  repeat' (with_reducible first | assumption | apply State.noteRole_keeps | apply State.dropSide_keeps | apply State.setN_keeps | apply State.showLevels_keeps | split | intro _ | dsimp only | apply Keeps.rest)

theorem State.sendCatchUp_keeps {z s : State} (hk : Keeps z s)  : Keeps z (State.sendCatchUp s) := by
  unfold State.sendCatchUp
  try dsimp only
  repeat' (with_reducible first | assumption | apply State.mirror_keeps | apply keeps_foldl | apply keeps_foldl_fst | apply keeps_foldl_snd | split | intro _ | dsimp only | apply Keeps.rest)

theorem State.beginCatchUp_keeps {z s : State} (hk : Keeps z s)  : Keeps z (State.beginCatchUp s) := by
  unfold State.beginCatchUp
  try dsimp only
  repeat' (with_reducible first | assumption | apply State.sendCatchUp_keeps | apply State.setN_keeps | apply State.follow_keeps | split | intro _ | dsimp only | apply Keeps.rest)

theorem State.comeBehind_keeps {z s : State} (hk : Keeps z s)  : Keeps z (State.comeBehind s) := by
  unfold State.comeBehind
  try dsimp only
  repeat' (with_reducible first | assumption | apply State.beginCatchUp_keeps | split | intro _ | dsimp only | apply Keeps.rest)

theorem State.linkTrained_keeps {z s : State} (hk : Keeps z s) (h : TwinHello) : Keeps z (State.linkTrained s h) := by
  unfold State.linkTrained
  try dsimp only
  repeat' (with_reducible first | assumption | apply State.endFault_keeps | apply State.twinLaneDown_keeps | apply State.setN_keeps | apply State.setB_keeps | apply State.follow_keeps | apply State.twinLinkDown_keeps | split | intro _ | dsimp only | apply Keeps.rest)

theorem State.secondRestart_keeps {z s : State} (hk : Keeps z s) (a : Activation) : Keeps z (State.secondRestart s a) := by
  unfold State.secondRestart
  try dsimp only
  repeat' (with_reducible first | assumption | apply State.flipSlot_keeps | apply State.askRestart_keeps | apply State.seal_keeps | split | intro _ | dsimp only | apply Keeps.rest)

theorem State.resumeActivation_keeps {z s : State} (hk : Keeps z s)  : Keeps z (State.resumeActivation s) := by
  unfold State.resumeActivation
  try dsimp only
  repeat' (with_reducible first | assumption | apply State.secondRestart_keeps | split | intro _ | dsimp only | apply Keeps.rest)

theorem State.rejoin_keeps {z s : State} (hk : Keeps z s) (h : TwinHello) : Keeps z (State.rejoin s h) := by
  unfold State.rejoin
  try dsimp only
  repeat' (with_reducible first | assumption | apply State.beginCatchUp_keeps | apply State.endFault_keeps | apply State.setN_keeps | apply State.follow_keeps | split | intro _ | dsimp only | apply Keeps.rest)

theorem State.handshake_keeps {z s : State} (hk : Keeps z s) (h : TwinHello) : Keeps z (State.handshake s h) := by
  unfold State.handshake
  try dsimp only
  repeat' (with_reducible first | assumption | apply State.linkTrained_keeps | apply State.takeCharge_keeps | apply State.rejoin_keeps | apply State.setN_keeps | apply State.strike_keeps | apply State.standDown_keeps | apply State.resumeActivation_keeps | split | intro _ | dsimp only | apply Keeps.rest)

theorem State.handshakeTimeout_keeps {z s : State} (hk : Keeps z s)  : Keeps z (State.handshakeTimeout s) := by
  unfold State.handshakeTimeout
  try dsimp only
  repeat' (with_reducible first | assumption | apply State.noteRole_keeps | apply State.takeCharge_keeps | apply State.setN_keeps | apply State.showLevels_keeps | split | intro _ | dsimp only | apply Keeps.rest)

theorem State.twinLaneUp_keeps {z s : State} (hk : Keeps z s) (n : Nat) : Keeps z (State.twinLaneUp s n) := by
  unfold State.twinLaneUp
  try dsimp only
  repeat' (with_reducible first | assumption | apply State.setBit_keeps | apply State.endFault_keeps | apply State.twinLaneDown_keeps | split | intro _ | dsimp only | apply Keeps.rest)

theorem State.twinLaneDown_keeps {z s : State} (hk : Keeps z s) (n : Nat) : Keeps z (State.twinLaneDown s n) := by
  unfold State.twinLaneDown
  try dsimp only
  repeat' (with_reducible first | assumption | apply State.setBit_keeps | apply State.latch_keeps | split | intro _ | dsimp only | apply Keeps.rest)

theorem State.twinLinkDown_keeps {z s : State} (hk : Keeps z s)  : Keeps z (State.twinLinkDown s) := by
  unfold State.twinLinkDown
  try dsimp only
  repeat' (with_reducible first | assumption | apply State.emit_keeps | apply State.endFault_keeps | apply State.setN_keeps | apply State.follow_keeps | split | intro _ | dsimp only | apply Keeps.rest)

theorem State.activationGoesOn_keeps {z s : State} (hk : Keeps z s)  : Keeps z (State.activationGoesOn s) := by
  unfold State.activationGoesOn
  try dsimp only
  repeat' (with_reducible first | assumption | split | intro _ | dsimp only | apply Keeps.rest)

theorem State.inheritSalvos_keeps {z s : State} (hk : Keeps z s)  : Keeps z (State.inheritSalvos s) := by
  unfold State.inheritSalvos
  try dsimp only
  repeat' (with_reducible first | assumption | apply State.count_keeps | apply State.dropPart_keeps | apply State.setN_keeps | apply keeps_foldl | apply keeps_foldl_fst | apply keeps_foldl_snd | split | intro _ | dsimp only | apply Keeps.rest)

theorem State.failOver_keeps {z s : State} (hk : Keeps z s) (cause : Nat) : Keeps z (State.failOver s cause) := by
  unfold State.failOver
  try dsimp only
  repeat' (with_reducible first | assumption | apply State.takeCharge_keeps | apply State.inheritSalvos_keeps | apply State.strike_keeps | apply State.activationGoesOn_keeps | apply State.setN_keeps | split | intro _ | dsimp only | apply Keeps.rest)

theorem State.primaryDeath_keeps {z s : State} (hk : Keeps z s)  : Keeps z (State.primaryDeath s) := by
  unfold State.primaryDeath
  try dsimp only
  repeat' (with_reducible first | assumption | apply State.failOver_keeps | split | intro _ | dsimp only | apply Keeps.rest)

theorem State.safeNotice_keeps {z s : State} (hk : Keeps z s)  : Keeps z (State.safeNotice s) := by
  unfold State.safeNotice
  try dsimp only
  repeat' (with_reducible first | assumption | apply State.failOver_keeps | split | intro _ | dsimp only | apply Keeps.rest)

theorem State.powerNotice_keeps {z s : State} (hk : Keeps z s)  : Keeps z (State.powerNotice s) := by
  unfold State.powerNotice
  try dsimp only
  repeat' (with_reducible first | assumption | apply State.setN_keeps | apply State.failOver_keeps | split | intro _ | dsimp only | apply Keeps.rest)

theorem State.powerWarnings_keeps {z s : State} (hk : Keeps z s) (a b : Bool) : Keeps z (State.powerWarnings s a b) := by
  unfold State.powerWarnings
  try dsimp only
  repeat' (with_reducible first | assumption | apply State.loseService_keeps | apply State.dropSide_keeps | apply State.setN_keeps | apply State.follow_keeps | apply State.tellTwin_keeps | apply State.seal_keeps | split | intro _ | dsimp only | apply Keeps.rest)

theorem State.askHandover_keeps {z s : State} (hk : Keeps z s) (cause : Nat) (restart : Bool) : Keeps z (State.askHandover s cause restart).2 := by
  unfold State.askHandover
  try dsimp only
  repeat' (with_reducible first | assumption | apply State.setN_keeps | apply State.restart_keeps | split | intro _ | dsimp only | apply Keeps.rest)
theorem State.askHandover_keeps_eq {z s s1 : State} {c : Nat} {cause : Nat} {restart : Bool} (hk : Keeps z s) (hr : State.askHandover s cause restart = (c, s1)) : Keeps z s1 := by
  have kk := State.askHandover_keeps (z := z) hk cause restart
  rw [hr] at kk
  exact kk

theorem State.abortHandover_keeps {z s : State} (hk : Keeps z s)  : Keeps z (State.abortHandover s).2 := by
  unfold State.abortHandover
  try dsimp only
  repeat' (with_reducible first | assumption | apply State.setN_keeps | split | intro _ | dsimp only | apply Keeps.rest)
theorem State.abortHandover_keeps_eq {z s s1 : State} {c : Nat}  (hk : Keeps z s) (hr : State.abortHandover s = (c, s1)) : Keeps z s1 := by
  have kk := State.abortHandover_keeps (z := z) hk
  rw [hr] at kk
  exact kk

theorem State.shedWork_keeps {z s : State} (hk : Keeps z s) (cause : Nat) : Keeps z (State.shedWork s cause) := by
  unfold State.shedWork
  try dsimp only
  repeat' (with_reducible first | assumption | apply State.reportPart_keeps | apply State.completeRefused_keeps | apply State.dropPart_keeps | apply State.dropSalvo_keeps | apply keeps_foldl | apply keeps_foldl_fst | apply keeps_foldl_snd | split | intro _ | dsimp only | apply Keeps.rest)

theorem State.commitHandover_keeps {z s : State} (hk : Keeps z s)  : Keeps z (State.commitHandover s) := by
  unfold State.commitHandover
  try dsimp only
  repeat' (with_reducible first | assumption | apply State.beginCatchUp_keeps | apply State.abortHandover_keeps | refine State.abortHandover_keeps_eq ?_ (by assumption) | apply State.takeCharge_keeps | apply State.activationGoesOn_keeps | apply State.setN_keeps | apply State.tellTwin_keeps | apply State.standDown_keeps | apply State.shedWork_keeps | apply State.inheritSalvos_keeps | split | intro _ | dsimp only | apply Keeps.rest)

theorem State.handoverDone_keeps {z s : State} (hk : Keeps z s)  : Keeps z (State.handoverDone s) := by
  unfold State.handoverDone
  try dsimp only
  repeat' (with_reducible first | assumption | apply State.dropSide_keeps | apply State.setN_keeps | apply State.restart_keeps | apply State.askRestart_keeps | apply State.secondRestart_keeps | split | intro _ | dsimp only | apply Keeps.rest)

theorem State.takeback_keeps {z s : State} (hk : Keeps z s)  : Keeps z (State.takeback s) := by
  unfold State.takeback
  try dsimp only
  repeat' (with_reducible first | assumption | apply State.tellTwin_keeps | split | intro _ | dsimp only | apply Keeps.rest)

theorem State.sigStep_keeps {z s : State} (hk : Keeps z s) (d : Nat) (audio differs : Bool) : Keeps z (State.sigStep s d audio differs) := by
  unfold State.sigStep
  try dsimp only
  repeat' (with_reducible first | assumption | apply State.followShared_keeps | split | intro _ | dsimp only | apply Keeps.rest)

theorem State.compareFrame_keeps {z s : State} (hk : Keeps z s) (f : SigFrame) : Keeps z (State.compareFrame s f) := by
  unfold State.compareFrame
  try dsimp only
  repeat' (with_reducible first | assumption | apply State.count_keeps | apply State.sigStep_keeps | apply State.setN_keeps | split | intro _ | dsimp only | apply Keeps.rest)

theorem State.bistRun_keeps {z s : State} (hk : Keeps z s) (kind unit : Nat) (fail : Option Nat) : Keeps z (State.bistRun s kind unit fail) := by
  unfold State.bistRun
  try dsimp only
  repeat' (with_reducible first | assumption | apply State.exclude_keeps | apply State.latch_keeps | apply State.endFault_keeps | apply State.setN_keeps | split | intro _ | dsimp only | apply Keeps.rest)

theorem State.loopbackRun_keeps {z s : State} (hk : Keeps z s) (l errors : Nat) : Keeps z (State.loopbackRun s l errors) := by
  unfold State.loopbackRun
  try dsimp only
  repeat' (with_reducible first | assumption | apply State.setN_keeps | apply State.followShared_keeps | split | intro _ | dsimp only | apply Keeps.rest)

theorem State.writeTwin_keeps_eq {z s : State} {r : Nat × State} {w : Writer} {k : Key} {v : Val} (hk : Keeps z s) (hr : State.writeTwin s w k v = some r) : Keeps z r.2 := by
  unfold State.writeTwin at hr
  try dsimp only at hr
  repeat' (split at hr)
  all_goals first | (simp only [reduceCtorEq] at hr; done) | (replace hr := Option.some.inj hr; subst hr; (try dsimp only); repeat' (with_reducible first | assumption | apply State.abortHandover_keeps | refine State.abortHandover_keeps_eq ?_ (by assumption) | apply State.askHandover_keeps | refine State.askHandover_keeps_eq ?_ (by assumption) | split | intro _ | dsimp only | apply Keeps.rest))
theorem State.writeTwin_keeps_pair {z s s1 : State} {c : Nat} {w : Writer} {k : Key} {v : Val} (hk : Keeps z s) (hr : State.writeTwin s w k v = some (c, s1)) : Keeps z s1 :=
  State.writeTwin_keeps_eq (r := (c, s1)) hk hr

end Sys2Proof.Machine
end

