-- ==== Sys2Proof/Laws/KeepsChip.lean ====
section
/-! SUPPORT. What each operation on a state keeps (`Keeps`, in Laws/Keeps.lean): the fault collector, banks, firmware, power and subscriptions. -/

set_option linter.all false

namespace Sys2Proof.Machine

/-! ## Machine/Collector.lean -/

theorem State.excludeUnit_keeps {z s : State} (hk : Keeps z s) (kind unit : Nat) : Keeps z (State.excludeUnit s kind unit) := by
  unfold State.excludeUnit
  try dsimp only
  repeat' (with_reducible first | assumption | apply State.exclude_keeps | apply State.excludeStack_keeps | apply State.excludePlane_keeps | split | intro _ | dsimp only | apply Keeps.rest)

theorem State.faultLatch_keeps {z s : State} (hk : Keeps z s) (src unit detail : Nat) : Keeps z (State.faultLatch s src unit detail) := by
  unfold State.faultLatch
  try dsimp only
  repeat' (with_reducible first | assumption | apply State.excludeUnit_keeps | apply State.latch_keeps | split | intro _ | dsimp only | apply Keeps.rest)

theorem State.resetOver_keeps {z s : State} (hk : Keeps z s) (src : Nat) : Keeps z (State.resetOver s src) := by
  unfold State.resetOver
  try dsimp only
  repeat' (with_reducible first | assumption | apply State.laneSleeps_keeps | apply State.laneTo_keeps | split | intro _ | dsimp only | apply Keeps.rest)

theorem State.treeCheck_keeps {z s : State} (hk : Keeps z s) (ok : Bool) : Keeps z (State.treeCheck s ok) := by
  unfold State.treeCheck
  try dsimp only
  repeat' (with_reducible first | assumption | apply State.count_keeps | apply State.follow_keeps | split | intro _ | dsimp only | apply Keeps.rest)

theorem State.clearFault_keeps {z s : State} (hk : Keeps z s) (role src : Nat) : Keeps z (State.clearFault s role src).2 := by
  unfold State.clearFault
  try dsimp only
  repeat' (with_reducible first | assumption | apply State.unlatch_keeps | split | intro _ | dsimp only | apply Keeps.rest)
theorem State.clearFault_keeps_eq {z s s1 : State} {c : Nat} {role src : Nat} (hk : Keeps z s) (hr : State.clearFault s role src = (c, s1)) : Keeps z s1 := by
  have kk := State.clearFault_keeps (z := z) hk role src
  rw [hr] at kk
  exact kk

theorem State.clearAll_keeps {z s : State} (hk : Keeps z s)  : Keeps z (State.clearAll s).2 := by
  unfold State.clearAll
  try dsimp only
  repeat' (with_reducible first | assumption | apply State.unlatch_keeps | apply keeps_foldl | apply keeps_foldl_fst | apply keeps_foldl_snd | split | intro _ | dsimp only | apply Keeps.rest)
theorem State.clearAll_keeps_eq {z s s1 : State} {c : Nat}  (hk : Keeps z s) (hr : State.clearAll s = (c, s1)) : Keeps z s1 := by
  have kk := State.clearAll_keeps (z := z) hk
  rw [hr] at kk
  exact kk

theorem State.writeAutoClear_keeps {z s : State} (hk : Keeps z s) (src : Nat) (on : Bool) : Keeps z (State.writeAutoClear s src on).2 := by
  unfold State.writeAutoClear
  try dsimp only
  repeat' (with_reducible first | assumption | apply State.setF_keeps | apply State.unlatch_keeps | split | intro _ | dsimp only | apply Keeps.rest)
theorem State.writeAutoClear_keeps_eq {z s s1 : State} {c : Nat} {src : Nat} {on : Bool} (hk : Keeps z s) (hr : State.writeAutoClear s src on = (c, s1)) : Keeps z s1 := by
  have kk := State.writeAutoClear_keeps (z := z) hk src on
  rw [hr] at kk
  exact kk

theorem State.writeReactions_keeps {z s : State} (hk : Keeps z s) (src set : Nat) : Keeps z (State.writeReactions s src set).2 := by
  unfold State.writeReactions
  try dsimp only
  repeat' (with_reducible first | assumption | apply State.reviewSafe_keeps | apply State.set_keeps | apply State.setN_keeps | split | intro _ | dsimp only | apply Keeps.rest)
theorem State.writeReactions_keeps_eq {z s s1 : State} {c : Nat} {src set : Nat} (hk : Keeps z s) (hr : State.writeReactions s src set = (c, s1)) : Keeps z s1 := by
  have kk := State.writeReactions_keeps (z := z) hk src set
  rw [hr] at kk
  exact kk

theorem State.rearm_keeps {z s : State} (hk : Keeps z s)  : Keeps z (State.rearm s).2 := by
  unfold State.rearm
  try dsimp only
  repeat' (with_reducible first | assumption | apply State.setF_keeps | apply State.setN_keeps | split | intro _ | dsimp only | apply Keeps.rest)
theorem State.rearm_keeps_eq {z s s1 : State} {c : Nat}  (hk : Keeps z s) (hr : State.rearm s = (c, s1)) : Keeps z s1 := by
  have kk := State.rearm_keeps (z := z) hk
  rw [hr] at kk
  exact kk

theorem State.includeUnit_keeps {z s : State} (hk : Keeps z s) (entry : Bytes) : Keeps z (State.includeUnit s entry).2 := by
  unfold State.includeUnit
  try dsimp only
  repeat' (with_reducible first | assumption | apply State.include_keeps | apply State.retryLost_keeps | split | intro _ | dsimp only | apply Keeps.rest)
theorem State.includeUnit_keeps_eq {z s s1 : State} {c : Nat} {entry : Bytes} (hk : Keeps z s) (hr : State.includeUnit s entry = (c, s1)) : Keeps z s1 := by
  have kk := State.includeUnit_keeps (z := z) hk entry
  rw [hr] at kk
  exact kk

theorem State.armInjection_keeps {z s : State} (hk : Keeps z s)  : Keeps z (State.armInjection s).2 := by
  unfold State.armInjection
  try dsimp only
  repeat' (with_reducible first | assumption | apply State.setF_keeps | apply State.setN_keeps | apply State.strike_keeps | split | intro _ | dsimp only | apply Keeps.rest)
theorem State.armInjection_keeps_eq {z s s1 : State} {c : Nat}  (hk : Keeps z s) (hr : State.armInjection s = (c, s1)) : Keeps z s1 := by
  have kk := State.armInjection_keeps (z := z) hk
  rw [hr] at kk
  exact kk

theorem State.disarmInjection_keeps {z s : State} (hk : Keeps z s)  : Keeps z (State.disarmInjection s).2 := by
  unfold State.disarmInjection
  try dsimp only
  repeat' (with_reducible first | assumption | apply State.setF_keeps | apply State.setN_keeps | split | intro _ | dsimp only | apply Keeps.rest)
theorem State.disarmInjection_keeps_eq {z s s1 : State} {c : Nat}  (hk : Keeps z s) (hr : State.disarmInjection s = (c, s1)) : Keeps z s1 := by
  have kk := State.disarmInjection_keeps (z := z) hk
  rw [hr] at kk
  exact kk

theorem State.writeFaults_keeps_eq {z s : State} {r : Nat × State} {w : Writer} {k : Key} {v : Val} (hk : Keeps z s) (hr : State.writeFaults s w k v = some r) : Keeps z r.2 := by
  unfold State.writeFaults at hr
  try dsimp only at hr
  repeat' (split at hr)
  all_goals first | (simp only [reduceCtorEq] at hr; done) | (replace hr := Option.some.inj hr; subst hr; (try dsimp only); repeat' (with_reducible first | assumption | apply State.armInjection_keeps | refine State.armInjection_keeps_eq ?_ (by assumption) | apply State.clearFault_keeps | refine State.clearFault_keeps_eq ?_ (by assumption) | apply State.writeAutoClear_keeps | refine State.writeAutoClear_keeps_eq ?_ (by assumption) | apply State.disarmInjection_keeps | refine State.disarmInjection_keeps_eq ?_ (by assumption) | apply State.includeUnit_keeps | refine State.includeUnit_keeps_eq ?_ (by assumption) | apply State.writeReactions_keeps | refine State.writeReactions_keeps_eq ?_ (by assumption) | apply State.clearAll_keeps | refine State.clearAll_keeps_eq ?_ (by assumption) | apply State.rearm_keeps | refine State.rearm_keeps_eq ?_ (by assumption) | split | intro _ | dsimp only | apply Keeps.rest))
theorem State.writeFaults_keeps_pair {z s s1 : State} {c : Nat} {w : Writer} {k : Key} {v : Val} (hk : Keeps z s) (hr : State.writeFaults s w k v = some (c, s1)) : Keeps z s1 :=
  State.writeFaults_keeps_eq (r := (c, s1)) hk hr

/-! ## Machine/Banks.lean -/

theorem State.bankTimer_keeps {z s : State} (hk : Keeps z s) (b : Nat) : Keeps z (State.bankTimer s b) := by
  unfold State.bankTimer
  split
  · exact hk
  · split
    · exact State.setN_keeps hk _ _
    · split
      · have h := State.setN_keeps hk (O.bank_state b) 2
        exact ⟨h.1, h.2.1, h.2.2.1, h.2.2.2.1, h.2.2.2.2.1, fun w => wordsWf_filter _ (hk.2.2.2.2.2 w)⟩
      · exact hk
    · exact hk

theorem State.wakeBank_keeps {z s : State} (hk : Keeps z s) (b : Nat) : Keeps z (State.wakeBank s b) := by
  unfold State.wakeBank
  try dsimp only
  repeat' (with_reducible first | assumption | apply State.count_keeps | apply State.setN_keeps | split | intro _ | dsimp only | apply Keeps.rest)

theorem State.wordEffect_keeps {z s : State} (hk : Keeps z s) (b unit : Nat) : Keeps z (State.wordEffect s b unit) := by
  unfold State.wordEffect
  try dsimp only
  repeat' (with_reducible first | assumption | apply State.fillLine_keeps | apply State.closeSession_keeps | split | intro _ | dsimp only | apply Keeps.rest)

theorem State.bankWord_keeps {z s : State} (hk : Keeps z s) (b addr unit word : Nat) : Keeps z (State.bankWord s b addr unit word) := by
  unfold State.bankWord
  try dsimp only
  repeat' (with_reducible first | assumption | apply State.count_keeps | apply State.excludeUnit_keeps | apply State.setN_keeps | apply State.strike_keeps | apply State.wordEffect_keeps | split | intro _ | dsimp only | apply Keeps.rest)

theorem State.scrubBank_keeps {z s : State} (hk : Keeps z s) (b : Nat) : Keeps z (State.scrubBank s b) := by
  unfold State.scrubBank
  try dsimp only
  repeat' (with_reducible first | assumption | split | intro _ | dsimp only | apply Keeps.rest)

theorem State.putWord_keeps {z s : State} (hk : Keeps z s) (unit addr v : Nat) : Keeps z (State.putWord s unit addr v) := by
  exact ⟨hk.1, hk.2.1, hk.2.2.1, hk.2.2.2.1, hk.2.2.2.2.1, fun w => State.putWord_wf unit addr v (hk.2.2.2.2.2 w)⟩

theorem State.modLock_keeps {z s : State} (hk : Keeps z s) (i j : Nat) (f : IcLock → IcLock) : Keeps z (State.modLock s i j f) := by
  unfold State.modLock
  try dsimp only
  repeat' (with_reducible first | assumption | split | intro _ | dsimp only | apply Keeps.rest)

theorem State.grantLock_keeps {z s : State} (hk : Keeps z s) (j : Nat) : Keeps z (State.grantLock s j) := by
  unfold State.grantLock
  split
  · exact hk
  · split
    · exact State.setN_keeps hk _ _
    · rename_i e _
      have h := State.setN_keeps hk (O.tgt_lock_holder (32 + j)) e.1
      exact ⟨h.1, h.2.1, h.2.2.1, h.2.2.2.1, h.2.2.2.2.1, hk.2.2.2.2.2⟩

theorem State.endLock_keeps {z s : State} (hk : Keeps z s) (i j : Nat) : Keeps z (State.endLock s i j) := by
  unfold State.endLock
  try dsimp only
  repeat' (with_reducible first | assumption | apply State.grantLock_keeps | split | intro _ | dsimp only | apply Keeps.rest)

theorem State.deliverHeld_keeps {z s : State} (hk : Keeps z s)  : Keeps z (State.deliverHeld s) := by
  unfold State.deliverHeld
  try dsimp only
  repeat' (with_reducible first | assumption | apply State.emit_keeps | apply State.setN_keeps | apply keeps_foldl | apply keeps_foldl_fst | apply keeps_foldl_snd | split | intro _ | dsimp only | apply Keeps.rest)

theorem State.icAnswer_keeps {z s : State} (hk : Keeps z s) (x : IcTaken) (err : Bool) : Keeps z (State.icAnswer s x err) := by
  unfold State.icAnswer
  try dsimp only
  repeat' (with_reducible first | assumption | apply State.count_keeps | apply State.deliverHeld_keeps | split | intro _ | dsimp only | apply Keeps.rest)

theorem State.icIssue_keeps {z s : State} (hk : Keeps z s) (r : IcReq) : Keeps z (State.icIssue s r) := by
  unfold State.icIssue
  try dsimp only
  repeat' (with_reducible first | assumption | apply State.count_keeps | apply State.setN_keeps | apply State.strike_keeps | apply State.endLock_keeps | apply State.icAnswer_keeps | split | intro _ | dsimp only | apply Keeps.rest)

theorem State.icPresent_keeps {z s : State} (hk : Keeps z s) (r : IcReq) : Keeps z (State.icPresent s r) := by
  unfold State.icPresent
  try dsimp only
  repeat' (with_reducible first | assumption | apply State.icIssue_keeps | apply State.count_keeps | split | intro _ | dsimp only | apply Keeps.rest)

theorem State.icUnstall_keeps {z s : State} (hk : Keeps z s)  : Keeps z (State.icUnstall s) := by
  unfold State.icUnstall
  try dsimp only
  repeat' (with_reducible first | assumption | apply State.icIssue_keeps | apply keeps_foldl | apply keeps_foldl_fst | apply keeps_foldl_snd | split | intro _ | dsimp only | apply Keeps.rest)

theorem State.icPerform_keeps {z s : State} (hk : Keeps z s) (x : IcTaken) : Keeps z (State.icPerform s x).1 := by
  unfold State.icPerform
  try dsimp only
  repeat' (with_reducible first | assumption | apply State.withInjection_keeps | apply State.bankWord_keeps | apply State.putWord_keeps | split | intro _ | dsimp only | apply Keeps.rest)
theorem State.icPerform_keeps_eq {z s s1 : State} {c : Nat} {x : IcTaken} (hk : Keeps z s) (hr : State.icPerform s x = (s1, c)) : Keeps z s1 := by
  have kk := State.icPerform_keeps (z := z) hk x
  rw [hr] at kk
  exact kk

theorem State.icDone_keeps {z s : State} (hk : Keeps z s) (x : IcTaken) : Keeps z (State.icDone s x) := by
  unfold State.icDone
  try dsimp only
  repeat' (with_reducible first | assumption | apply State.icPerform_keeps | refine State.icPerform_keeps_eq ?_ (by assumption) | split | intro _ | dsimp only | apply Keeps.rest)

theorem State.serveBank_keeps {z s : State} (hk : Keeps z s) (b : Nat) : Keeps z (State.serveBank s b) := by
  unfold State.serveBank
  try dsimp only
  repeat' (with_reducible first | assumption | apply State.count_keeps | apply State.wakeBank_keeps | apply State.icDone_keeps | split | intro _ | dsimp only | apply Keeps.rest)

theorem State.icAccept_keeps {z s : State} (hk : Keeps z s) (x : IcWait) : Keeps z (State.icAccept s x) := by
  unfold State.icAccept
  try dsimp only
  repeat' (with_reducible first | assumption | apply State.modLock_keeps | apply State.icDone_keeps | apply State.setN_keeps | apply State.endLock_keeps | apply State.icAnswer_keeps | split | intro _ | dsimp only | apply Keeps.rest)

theorem State.icSlot_keeps {z s : State} (hk : Keeps z s) (j : Nat) : Keeps z (State.icSlot s j) := by
  unfold State.icSlot
  try dsimp only
  repeat' (with_reducible first | assumption | apply State.count_keeps | apply State.icAccept_keeps | apply State.serveBank_keeps | apply keeps_foldl | apply keeps_foldl_fst | apply keeps_foldl_snd | split | intro _ | dsimp only | apply Keeps.rest)

theorem State.icRequests_keeps {z s : State} (hk : Keeps z s) (j : Nat) (reqs : List IcReq) : Keeps z (State.icRequests s j reqs) := by
  unfold State.icRequests
  try dsimp only
  repeat' (with_reducible first | assumption | apply State.icPresent_keeps | apply State.icSlot_keeps | apply keeps_foldl | apply keeps_foldl_fst | apply keeps_foldl_snd | split | intro _ | dsimp only | apply Keeps.rest)

theorem State.bankAwake_keeps {z s : State} (hk : Keeps z s) (b : Nat) : Keeps z (State.bankAwake s b) := by
  unfold State.bankAwake
  try dsimp only
  repeat' (with_reducible first | assumption | apply State.serveBank_keeps | apply State.setN_keeps | split | intro _ | dsimp only | apply Keeps.rest)

theorem State.icRespond_keeps {z s : State} (hk : Keeps z s) (j ident : Nat) : Keeps z (State.icRespond s j ident) := by
  unfold State.icRespond
  try dsimp only
  repeat' (with_reducible first | assumption | apply State.icUnstall_keeps | apply State.icAnswer_keeps | split | intro _ | dsimp only | apply Keeps.rest)

theorem State.icTimeout_keeps {z s : State} (hk : Keeps z s) (j : Nat) : Keeps z (State.icTimeout s j) := by
  unfold State.icTimeout
  try dsimp only
  repeat' (with_reducible first | assumption | apply State.icUnstall_keeps | apply State.count_keeps | apply State.strike_keeps | apply State.icAnswer_keeps | split | intro _ | dsimp only | apply Keeps.rest)

theorem State.openLock_keeps {z s : State} (hk : Keeps z s) (i j ident : Nat) : Keeps z (State.openLock s i j ident) := by
  unfold State.openLock
  try dsimp only
  repeat' (with_reducible first | assumption | apply State.count_keeps | apply State.emit_keeps | apply State.grantLock_keeps | apply State.strike_keeps | split | intro _ | dsimp only | apply Keeps.rest)

theorem State.cutLock_keeps {z s : State} (hk : Keeps z s) (j : Nat) : Keeps z (State.cutLock s j) := by
  unfold State.cutLock
  try dsimp only
  repeat' (with_reducible first | assumption | apply State.count_keeps | apply State.modLock_keeps | apply State.grantLock_keeps | apply State.strike_keeps | split | intro _ | dsimp only | apply Keeps.rest)

theorem State.writeInterconnect_keeps_eq {z s : State} {r : Nat × State} {k : Key} {v : Val} (hk : Keeps z s) (hr : State.writeInterconnect s k v = some r) : Keeps z r.2 := by
  unfold State.writeInterconnect at hr
  try dsimp only at hr
  repeat' (split at hr)
  all_goals first | (simp only [reduceCtorEq] at hr; done) | (replace hr := Option.some.inj hr; subst hr; (try dsimp only); repeat' (with_reducible first | assumption | apply State.setN_keeps | split | intro _ | dsimp only | apply Keeps.rest))
theorem State.writeInterconnect_keeps_pair {z s s1 : State} {c : Nat} {k : Key} {v : Val} (hk : Keeps z s) (hr : State.writeInterconnect s k v = some (c, s1)) : Keeps z s1 :=
  State.writeInterconnect_keeps_eq (r := (c, s1)) hk hr

/-! ## Machine/Firmware.lean -/

theorem State.showParts_keeps {z s : State} (hk : Keeps z s) (ps : List PartEntry) : Keeps z (State.showParts s ps) := by
  unfold State.showParts
  try dsimp only
  repeat' (with_reducible first | assumption | apply State.setF_keeps | apply State.setN_keeps | apply keeps_foldl | apply keeps_foldl_fst | apply keeps_foldl_snd | split | intro _ | dsimp only | apply Keeps.rest)

theorem State.offerManifest_keeps {z s : State} (hk : Keeps z s) (b : Bytes) : Keeps z (State.offerManifest s b).2 := by
  unfold State.offerManifest
  try dsimp only
  repeat' (with_reducible first | assumption | apply State.showParts_keeps | apply State.setF_keeps | apply State.setN_keeps | apply State.setB_keeps | split | intro _ | dsimp only | apply Keeps.rest)
theorem State.offerManifest_keeps_eq {z s s1 : State} {c : Nat} {b : Bytes} (hk : Keeps z s) (hr : State.offerManifest s b = (c, s1)) : Keeps z s1 := by
  have kk := State.offerManifest_keeps (z := z) hk b
  rw [hr] at kk
  exact kk

theorem State.writePart_keeps {z s : State} (hk : Keeps z s) (k : Nat) (data : Bytes) : Keeps z (State.writePart s k data).2 := by
  unfold State.writePart
  try dsimp only
  repeat' (with_reducible first | assumption | apply State.setF_keeps | apply State.setN_keeps | split | intro _ | dsimp only | apply Keeps.rest)
theorem State.writePart_keeps_eq {z s s1 : State} {c : Nat} {k : Nat} {data : Bytes} (hk : Keeps z s) (hr : State.writePart s k data = (c, s1)) : Keeps z s1 := by
  have kk := State.writePart_keeps (z := z) hk k data
  rw [hr] at kk
  exact kk

theorem State.emptyCaddy_keeps {z s : State} (hk : Keeps z s)  : Keeps z (State.emptyCaddy s) := by
  unfold State.emptyCaddy
  try dsimp only
  repeat' (with_reducible first | assumption | apply State.setB_keeps | apply State.showParts_keeps | apply State.setF_keeps | apply State.setN_keeps | split | intro _ | dsimp only | apply Keeps.rest)

theorem State.discardCaddy_keeps {z s : State} (hk : Keeps z s)  : Keeps z (State.discardCaddy s).2 := by
  unfold State.discardCaddy
  try dsimp only
  repeat' (with_reducible first | assumption | apply State.emptyCaddy_keeps | split | intro _ | dsimp only | apply Keeps.rest)
theorem State.discardCaddy_keeps_eq {z s s1 : State} {c : Nat}  (hk : Keeps z s) (hr : State.discardCaddy s = (c, s1)) : Keeps z s1 := by
  have kk := State.discardCaddy_keeps (z := z) hk
  rw [hr] at kk
  exact kk

theorem State.revokeKey_keeps {z s : State} (hk : Keeps z s) (k : Nat) : Keeps z (State.revokeKey s k).2 := by
  unfold State.revokeKey
  try dsimp only
  repeat' (with_reducible first | assumption | apply State.setN_keeps | split | intro _ | dsimp only | apply Keeps.rest)
theorem State.revokeKey_keeps_eq {z s s1 : State} {c : Nat} {k : Nat} (hk : Keeps z s) (hr : State.revokeKey s k = (c, s1)) : Keeps z s1 := by
  have kk := State.revokeKey_keeps (z := z) hk k
  rw [hr] at kk
  exact kk

theorem State.abortCopy_keeps {z s : State} (hk : Keeps z s)  : Keeps z (State.abortCopy s).2 := by
  unfold State.abortCopy
  try dsimp only
  repeat' (with_reducible first | assumption | split | intro _ | dsimp only | apply Keeps.rest)
theorem State.abortCopy_keeps_eq {z s s1 : State} {c : Nat}  (hk : Keeps z s) (hr : State.abortCopy s = (c, s1)) : Keeps z s1 := by
  have kk := State.abortCopy_keeps (z := z) hk
  rw [hr] at kk
  exact kk

theorem State.carrySettings_keeps {z s : State} (hk : Keeps z s)  : Keeps z (State.carrySettings s) := by
  unfold State.carrySettings
  try dsimp only
  repeat' (with_reducible first | assumption | apply State.putSettings_keeps | split | intro _ | dsimp only | apply Keeps.rest)

theorem State.showImage_keeps {z s : State} (hk : Keeps z s) (i : Nat) (img : Image) : Keeps z (State.showImage s i img) := by
  unfold State.showImage
  try dsimp only
  repeat' (with_reducible first | assumption | apply State.setB_keeps | apply State.setN_keeps | split | intro _ | dsimp only | apply Keeps.rest)

theorem State.copyCaddy_keeps {z s : State} (hk : Keeps z s)  : Keeps z (State.copyCaddy s) := by
  unfold State.copyCaddy
  try dsimp only
  repeat' (with_reducible first | assumption | apply State.showImage_keeps | apply State.flipSlot_keeps | apply State.setN_keeps | apply State.set_keeps | apply State.carrySettings_keeps | split | intro _ | dsimp only | apply Keeps.rest)

theorem State.setResults_keeps {z s : State} (hk : Keeps z s) (p : Nat → Bool) (stage code chip : Nat) : Keeps z (State.setResults s p stage code chip) := by
  unfold State.setResults
  try dsimp only
  repeat' (with_reducible first | assumption | apply State.setB_keeps | split | intro _ | dsimp only | apply Keeps.rest)

theorem State.tellDrop_keeps {z s : State} (hk : Keeps z s) (act : Bytes) : Keeps z (State.tellDrop s act) := by
  unfold State.tellDrop
  try dsimp only
  repeat' (with_reducible first | assumption | apply State.emit_keeps | apply keeps_foldl | apply keeps_foldl_fst | apply keeps_foldl_snd | split | intro _ | dsimp only | apply Keeps.rest)

theorem State.dropAct_keeps {z s : State} (hk : Keeps z s)  : Keeps z (State.dropAct s) := by
  unfold State.dropAct
  try dsimp only
  repeat' (with_reducible first | assumption | split | intro _ | dsimp only | apply Keeps.rest)

theorem State.dropActivation_keeps {z s : State} (hk : Keeps z s) (st stage code chip : Nat) : Keeps z (State.dropActivation s st stage code chip) := by
  unfold State.dropActivation
  try dsimp only
  repeat' (with_reducible first | assumption | apply State.setN_keeps | apply State.tellDrop_keeps | apply State.setResults_keeps | apply State.dropAct_keeps | split | intro _ | dsimp only | apply Keeps.rest)

theorem State.actReport_keeps {z s : State} (hk : Keeps z s) (chip code : Nat) : Keeps z (State.actReport s chip code) := by
  unfold State.actReport
  try dsimp only
  repeat' (with_reducible first | assumption | apply State.dropActivation_keeps | apply State.setN_keeps | apply State.setResults_keeps | split | intro _ | dsimp only | apply Keeps.rest)

theorem State.prepareRx_keeps {z s : State} (hk : Keeps z s) (coord : Nat) (act : Bytes) (twinActive : Nat) (twinPeers : List (Nat × Nat)) : Keeps z (State.prepareRx s coord act twinActive twinPeers) := by
  unfold State.prepareRx
  try dsimp only
  repeat' (with_reducible first | assumption | apply State.emit_keeps | apply State.setN_keeps | apply State.actReport_keeps | split | intro _ | dsimp only | apply Keeps.rest)

theorem State.writeActivation_keeps {z s : State} (hk : Keeps z s) (act : Bytes) : Keeps z (State.writeActivation s act).2 := by
  unfold State.writeActivation
  try dsimp only
  repeat' (with_reducible first | assumption | apply State.emit_keeps | apply State.prepareRx_keeps | apply State.setN_keeps | apply State.setB_keeps | apply keeps_foldl | apply keeps_foldl_fst | apply keeps_foldl_snd | split | intro _ | dsimp only | apply Keeps.rest)
theorem State.writeActivation_keeps_eq {z s s1 : State} {c : Nat} {act : Bytes} (hk : Keeps z s) (hr : State.writeActivation s act = (c, s1)) : Keeps z s1 := by
  have kk := State.writeActivation_keeps (z := z) hk act
  rw [hr] at kk
  exact kk

theorem State.actDeadline_keeps {z s : State} (hk : Keeps z s)  : Keeps z (State.actDeadline s) := by
  unfold State.actDeadline
  try dsimp only
  repeat' (with_reducible first | assumption | apply State.dropActivation_keeps | split | intro _ | dsimp only | apply Keeps.rest)

theorem State.abortActivation_keeps {z s : State} (hk : Keeps z s)  : Keeps z (State.abortActivation s).2 := by
  unfold State.abortActivation
  try dsimp only
  repeat' (with_reducible first | assumption | apply State.dropActivation_keeps | split | intro _ | dsimp only | apply Keeps.rest)
theorem State.abortActivation_keeps_eq {z s s1 : State} {c : Nat}  (hk : Keeps z s) (hr : State.abortActivation s = (c, s1)) : Keeps z s1 := by
  have kk := State.abortActivation_keeps (z := z) hk
  rw [hr] at kk
  exact kk

theorem State.actRestart_keeps {z s : State} (hk : Keeps z s) (a : Activation) : Keeps z (State.actRestart s a) := by
  unfold State.actRestart
  try dsimp only
  repeat' (with_reducible first | assumption | apply State.setN_keeps | apply State.flipSlot_keeps | apply State.askRestart_keeps | apply State.seal_keeps | split | intro _ | dsimp only | apply Keeps.rest)

theorem State.actInstantAt_keeps {z s : State} (hk : Keeps z s)  : Keeps z (State.actInstantAt s) := by
  unfold State.actInstantAt
  try dsimp only
  repeat' (with_reducible first | assumption | apply State.actRestart_keeps | apply State.setN_keeps | apply State.setResults_keeps | split | intro _ | dsimp only | apply Keeps.rest)

theorem State.actDone_keeps {z s : State} (hk : Keeps z s) (a : Activation) : Keeps z (State.actDone s a) := by
  unfold State.actDone
  try dsimp only
  repeat' (with_reducible first | assumption | apply State.setResults_keeps | apply State.setN_keeps | split | intro _ | dsimp only | apply Keeps.rest)

theorem State.probationOver_keeps {z s : State} (hk : Keeps z s)  : Keeps z (State.probationOver s) := by
  unfold State.probationOver
  try dsimp only
  repeat' (with_reducible first | assumption | apply State.actDone_keeps | apply State.setN_keeps | apply State.askRestart_keeps | apply State.tellTwin_keeps | apply State.failProbation_keeps | split | intro _ | dsimp only | apply Keeps.rest)

theorem State.switchRegion_keeps {z s : State} (hk : Keeps z s)  : Keeps z (State.switchRegion s) := by
  unfold State.switchRegion
  try dsimp only
  repeat' (with_reducible first | assumption | apply State.count_keeps | split | intro _ | dsimp only | apply Keeps.rest)

theorem State.writeFirmware_keeps_eq {z s : State} {r : Nat × State} {k : Key} {v : Val} (hk : Keeps z s) (hr : State.writeFirmware s k v = some r) : Keeps z r.2 := by
  unfold State.writeFirmware at hr
  try dsimp only at hr
  repeat' (split at hr)
  all_goals first | (simp only [reduceCtorEq] at hr; done) | (replace hr := Option.some.inj hr; subst hr; (try dsimp only); repeat' (with_reducible first | assumption | apply State.revokeKey_keeps | refine State.revokeKey_keeps_eq ?_ (by assumption) | apply State.discardCaddy_keeps | refine State.discardCaddy_keeps_eq ?_ (by assumption) | apply State.abortCopy_keeps | refine State.abortCopy_keeps_eq ?_ (by assumption) | apply State.offerManifest_keeps | refine State.offerManifest_keeps_eq ?_ (by assumption) | apply State.abortActivation_keeps | refine State.abortActivation_keeps_eq ?_ (by assumption) | apply State.writePart_keeps | refine State.writePart_keeps_eq ?_ (by assumption) | apply State.writeActivation_keeps | refine State.writeActivation_keeps_eq ?_ (by assumption) | split | intro _ | dsimp only | apply Keeps.rest))
theorem State.writeFirmware_keeps_pair {z s s1 : State} {c : Nat} {k : Key} {v : Val} (hk : Keeps z s) (hr : State.writeFirmware s k v = some (c, s1)) : Keeps z s1 :=
  State.writeFirmware_keeps_eq (r := (c, s1)) hk hr

/-! ## Machine/Power.lean -/

theorem State.reviewPace_keeps {z s : State} (hk : Keeps z s) (die : Nat) : Keeps z (State.reviewPace s die) := by
  unfold State.reviewPace
  try dsimp only
  repeat' (with_reducible first | assumption | apply State.followShared_keeps | split | intro _ | dsimp only | apply Keeps.rest)

theorem State.paceWindow_keeps {z s : State} (hk : Keeps z s) (t pace : Nat) : Keeps z (State.paceWindow s t pace) := by
  unfold State.paceWindow
  try dsimp only
  repeat' (with_reducible first | assumption | apply State.setN_keeps | apply State.reviewPace_keeps | split | intro _ | dsimp only | apply Keeps.rest)

theorem State.paceTimeout_keeps {z s : State} (hk : Keeps z s) (die : Nat) : Keeps z (State.paceTimeout s die) := by
  unfold State.paceTimeout
  try dsimp only
  repeat' (with_reducible first | assumption | apply State.follow_keeps | split | intro _ | dsimp only | apply Keeps.rest)

theorem State.showLoop_keeps {z s : State} (hk : Keeps z s) (die : Nat) : Keeps z (State.showLoop s die) := by
  unfold State.showLoop
  try dsimp only
  repeat' (with_reducible first | assumption | apply State.setN_keeps | split | intro _ | dsimp only | apply Keeps.rest)

theorem State.sendVout_keeps {z s : State} (hk : Keeps z s) (die : Nat) : Keeps z (State.sendVout s die) := by
  unfold State.sendVout
  try dsimp only
  repeat' (with_reducible first | assumption | apply State.emit_keeps | split | intro _ | dsimp only | apply Keeps.rest)

theorem State.voltageLoop_keeps {z s : State} (hk : Keeps z s) (die : Nat) : Keeps z (State.voltageLoop s die) := by
  unfold State.voltageLoop
  try dsimp only
  repeat' (with_reducible first | assumption | apply State.sendVout_keeps | apply State.setN_keeps | apply State.reviewPace_keeps | apply State.set_keeps | apply State.showLoop_keeps | split | intro _ | dsimp only | apply Keeps.rest)

theorem State.pollRegulator_keeps {z s : State} (hk : Keeps z s) (die : Nat) (ack : Bool) (vout status : Nat) : Keeps z (State.pollRegulator s die ack vout status) := by
  unfold State.pollRegulator
  try dsimp only
  repeat' (with_reducible first | assumption | apply State.setN_keeps | apply State.set_keeps | apply State.followShared_keeps | apply State.showLoop_keeps | split | intro _ | dsimp only | apply Keeps.rest)

theorem State.railReads_keeps {z s : State} (hk : Keeps z s) (r mv : Nat) : Keeps z (State.railReads s r mv) := by
  unfold State.railReads
  try dsimp only
  repeat' (with_reducible first | assumption | apply State.setN_keeps | split | intro _ | dsimp only | apply Keeps.rest)

theorem State.addBrown_keeps {z s : State} (hk : Keeps z s) (r : Bytes) : Keeps z (State.addBrown s r) := by
  unfold State.addBrown
  try dsimp only
  repeat' (with_reducible first | assumption | apply State.setB_keeps | apply State.count_keeps | split | intro _ | dsimp only | apply Keeps.rest)

theorem State.railTrip_keeps {z s : State} (hk : Keeps z s) (r : Nat) (high : Bool) (mv : Nat) : Keeps z (State.railTrip s r high mv) := by
  unfold State.railTrip
  try dsimp only
  repeat' (with_reducible first | assumption | apply State.railReads_keeps | apply State.addBrown_keeps | apply State.setN_keeps | apply State.follow_keeps | split | intro _ | dsimp only | apply Keeps.rest)

theorem State.brownEnd_keeps {z s : State} (hk : Keeps z s) (r lowest : Nat) : Keeps z (State.brownEnd s r lowest) := by
  unfold State.brownEnd
  try dsimp only
  repeat' (with_reducible first | assumption | apply State.endFault_keeps | apply State.setN_keeps | apply State.setB_keeps | split | intro _ | dsimp only | apply Keeps.rest)

theorem State.undervolt_keeps {z s : State} (hk : Keeps z s) (die mv : Nat) : Keeps z (State.undervolt s die mv) := by
  unfold State.undervolt
  try dsimp only
  repeat' (with_reducible first | assumption | apply State.railTrip_keeps | split | intro _ | dsimp only | apply Keeps.rest)

theorem State.writeRing_keeps {z s : State} (hk : Keeps z s)  : Keeps z (State.writeRing s) := by
  unfold State.writeRing
  try dsimp only
  repeat' (with_reducible first | assumption | split | intro _ | dsimp only | apply Keeps.rest)

theorem State.resetLow_keeps {z s : State} (hk : Keeps z s)  : Keeps z (State.resetLow s) := by
  unfold State.resetLow
  try dsimp only
  repeat' (with_reducible first | assumption | apply State.wipe_keeps | split | intro _ | dsimp only | apply Keeps.rest)

theorem State.extest_keeps {z s : State} (hk : Keeps z s)  : Keeps z (State.extest s) := by
  unfold State.extest
  try dsimp only
  repeat' (with_reducible first | assumption | apply State.wipe_keeps | split | intro _ | dsimp only | apply Keeps.rest)

theorem State.pwrgdFall_keeps {z s : State} (hk : Keeps z s)  : Keeps z (State.pwrgdFall s) := by
  unfold State.pwrgdFall
  try dsimp only
  repeat' (with_reducible first | assumption | apply State.addBrown_keeps | apply State.wipe_keeps | split | intro _ | dsimp only | apply Keeps.rest)

theorem State.bringupStart_keeps {z s : State} (hk : Keeps z s)  : Keeps z (State.bringupStart s) := by
  unfold State.bringupStart
  try dsimp only
  repeat' (with_reducible first | assumption | apply State.startUp_keeps | split | intro _ | dsimp only | apply Keeps.rest)

theorem State.tapReset_keeps {z s : State} (hk : Keeps z s)  : Keeps z (State.tapReset s) := by
  unfold State.tapReset
  try dsimp only
  repeat' (with_reducible first | assumption | apply State.startUp_keeps | split | intro _ | dsimp only | apply Keeps.rest)

theorem State.phaseOver_keeps {z s : State} (hk : Keeps z s) (next : Nat) (ms : Nat) : Keeps z (State.phaseOver s next ms) := by
  unfold State.phaseOver
  try dsimp only
  repeat' (with_reducible first | assumption | split | intro _ | dsimp only | apply Keeps.rest)

theorem State.fallBack_keeps {z s : State} (hk : Keeps z s) (otherOk : Bool) : Keeps z (State.fallBack s otherOk) := by
  unfold State.fallBack
  try dsimp only
  repeat' (with_reducible first | assumption | apply State.flipSlot_keeps | apply State.setN_keeps | apply State.strike_keeps | apply State.failProbation_keeps | split | intro _ | dsimp only | apply Keeps.rest)

theorem State.copyAborted_keeps {z s : State} (hk : Keeps z s)  : Keeps z (State.copyAborted s) := by
  unfold State.copyAborted
  try dsimp only
  repeat' (with_reducible first | assumption | apply State.setN_keeps | split | intro _ | dsimp only | apply Keeps.rest)

theorem State.phaseRom_keeps {z s : State} (hk : Keeps z s) (r : PhaseResult) : Keeps z (State.phaseRom s r) := by
  unfold State.phaseRom
  try dsimp only
  repeat' (with_reducible first | assumption | apply State.phaseOver_keeps | apply State.copyAborted_keeps | apply State.fallBack_keeps | apply State.setN_keeps | apply State.strike_keeps | apply keeps_foldl | apply keeps_foldl_fst | apply keeps_foldl_snd | split | intro _ | dsimp only | apply Keeps.rest)

theorem State.phaseCopy_keeps {z s : State} (hk : Keeps z s) (r : PhaseResult) : Keeps z (State.phaseCopy s r) := by
  unfold State.phaseCopy
  try dsimp only
  repeat' (with_reducible first | assumption | apply State.phaseOver_keeps | apply State.copyCaddy_keeps | split | intro _ | dsimp only | apply Keeps.rest)

theorem State.phaseVerify_keeps {z s : State} (hk : Keeps z s) (r : PhaseResult) : Keeps z (State.phaseVerify s r) := by
  unfold State.phaseVerify
  try dsimp only
  repeat' (with_reducible first | assumption | apply State.phaseOver_keeps | apply State.fallBack_keeps | split | intro _ | dsimp only | apply Keeps.rest)

theorem State.phaseHbm_keeps {z s : State} (hk : Keeps z s) (r : PhaseResult) : Keeps z (State.phaseHbm s r) := by
  unfold State.phaseHbm
  try dsimp only
  repeat' (with_reducible first | assumption | apply State.phaseOver_keeps | apply State.exclude_keeps | apply State.setN_keeps | apply State.showLoop_keeps | apply keeps_foldl | apply keeps_foldl_fst | apply keeps_foldl_snd | split | intro _ | dsimp only | apply Keeps.rest)

theorem State.phaseLanes_keeps {z s : State} (hk : Keeps z s) (r : PhaseResult) : Keeps z (State.phaseLanes s r) := by
  unfold State.phaseLanes
  try dsimp only
  repeat' (with_reducible first | assumption | apply State.phaseOver_keeps | apply State.setN_keeps | apply keeps_foldl | apply keeps_foldl_fst | apply keeps_foldl_snd | split | intro _ | dsimp only | apply Keeps.rest)

theorem State.bringupOverrun_keeps {z s : State} (hk : Keeps z s)  : Keeps z (State.bringupOverrun s) := by
  unfold State.bringupOverrun
  try dsimp only
  repeat' (with_reducible first | assumption | apply State.failStart_keeps | apply State.restart_keeps | split | intro _ | dsimp only | apply Keeps.rest)

theorem State.writeRestart_keeps {z s : State} (hk : Keeps z s) (v : Nat) : Keeps z (State.writeRestart s v).2 := by
  unfold State.writeRestart
  try dsimp only
  repeat' (with_reducible first | assumption | apply State.askHandover_keeps | refine State.askHandover_keeps_eq ?_ (by assumption) | apply State.askRestart_keeps | split | intro _ | dsimp only | apply Keeps.rest)
theorem State.writeRestart_keeps_eq {z s s1 : State} {c : Nat} {v : Nat} (hk : Keeps z s) (hr : State.writeRestart s v = (c, s1)) : Keeps z s1 := by
  have kk := State.writeRestart_keeps (z := z) hk v
  rw [hr] at kk
  exact kk

theorem State.enterLull_keeps {z s : State} (hk : Keeps z s)  : Keeps z (State.enterLull s) := by
  unfold State.enterLull
  try dsimp only
  repeat' (with_reducible first | assumption | apply State.count_keeps | apply State.sendVout_keeps | apply State.laneSleeps_keeps | apply State.linkForget_keeps | apply State.setN_keeps | apply keeps_foldl | apply keeps_foldl_fst | apply keeps_foldl_snd | split | intro _ | dsimp only | apply Keeps.rest)

theorem State.wakeLull_keeps {z s : State} (hk : Keeps z s) (cause : Nat) : Keeps z (State.wakeLull s cause) := by
  unfold State.wakeLull
  try dsimp only
  repeat' (with_reducible first | assumption | apply State.count_keeps | apply State.setF_keeps | apply State.setN_keeps | apply State.showLoop_keeps | apply keeps_foldl | apply keeps_foldl_fst | apply keeps_foldl_snd | split | intro _ | dsimp only | apply Keeps.rest)

theorem State.writeLull_keeps {z s : State} (hk : Keeps z s) (on : Bool) : Keeps z (State.writeLull s on).2 := by
  unfold State.writeLull
  try dsimp only
  repeat' (with_reducible first | assumption | apply State.wakeLull_keeps | apply State.emit_keeps | apply State.setF_keeps | apply State.enterLull_keeps | apply State.setN_keeps | split | intro _ | dsimp only | apply Keeps.rest)
theorem State.writeLull_keeps_eq {z s s1 : State} {c : Nat} {on : Bool} (hk : Keeps z s) (hr : State.writeLull s on = (c, s1)) : Keeps z s1 := by
  have kk := State.writeLull_keeps (z := z) hk on
  rw [hr] at kk
  exact kk

theorem State.lullOver_keeps {z s : State} (hk : Keeps z s)  : Keeps z (State.lullOver s) := by
  unfold State.lullOver
  try dsimp only
  repeat' (with_reducible first | assumption | apply State.laneLocked_keeps | apply State.setN_keeps | apply keeps_foldl | apply keeps_foldl_fst | apply keeps_foldl_snd | split | intro _ | dsimp only | apply Keeps.rest)

theorem State.lullLate_keeps {z s : State} (hk : Keeps z s)  : Keeps z (State.lullLate s) := by
  unfold State.lullLate
  try dsimp only
  repeat' (with_reducible first | assumption | apply State.strike_keeps | split | intro _ | dsimp only | apply Keeps.rest)

theorem State.writePower_keeps_eq {z s : State} {r : Nat × State} {k : Key} {v : Val} (hk : Keeps z s) (hr : State.writePower s k v = some r) : Keeps z r.2 := by
  unfold State.writePower at hr
  try dsimp only at hr
  repeat' (split at hr)
  all_goals first | (simp only [reduceCtorEq] at hr; done) | (replace hr := Option.some.inj hr; subst hr; (try dsimp only); repeat' (with_reducible first | assumption | apply State.setN_keeps | apply State.setB_keeps | apply State.writeLull_keeps | refine State.writeLull_keeps_eq ?_ (by assumption) | apply State.writeRestart_keeps | refine State.writeRestart_keeps_eq ?_ (by assumption) | split | intro _ | dsimp only | apply Keeps.rest))
theorem State.writePower_keeps_pair {z s s1 : State} {c : Nat} {k : Key} {v : Val} (hk : Keeps z s) (hr : State.writePower s k v = some (c, s1)) : Keeps z s1 :=
  State.writePower_keeps_eq (r := (c, s1)) hk hr

/-! ## Machine/Events.lean -/

theorem State.queueEvent_keeps {z s : State} (hk : Keeps z s) (u : Sub) (k : Key) : Keeps z (State.queueEvent s u k) := by
  unfold State.queueEvent
  try dsimp only
  repeat' (with_reducible first | assumption | apply State.count_keeps | apply State.modSession_keeps | split | intro _ | dsimp only | apply Keeps.rest)

theorem State.queueChanges_keeps {z s : State} (hk : Keeps z s) (s0 : State) (u : Sub) : Keeps z (State.queueChanges s s0 u) := by
  unfold State.queueChanges
  try dsimp only
  repeat' (with_reducible first | assumption | apply State.queueEvent_keeps | apply keeps_foldl | apply keeps_foldl_fst | apply keeps_foldl_snd | split | intro _ | dsimp only | apply Keeps.rest)

theorem State.eventMessage_keeps {z s : State} (hk : Keeps z s) (x : Session) (body : Bytes) : Keeps z (State.eventMessage s x body).1 := by
  unfold State.eventMessage
  try dsimp only
  repeat' (with_reducible first | assumption | apply State.modSession_keeps | split | intro _ | dsimp only | apply Keeps.rest)
theorem State.eventMessage_keeps_eq {z s s1 : State} {c : Bytes} {x : Session} {body : Bytes} (hk : Keeps z s) (hr : State.eventMessage s x body = (s1, c)) : Keeps z s1 := by
  have kk := State.eventMessage_keeps (z := z) hk x body
  rw [hr] at kk
  exact kk

theorem State.sendEvents_keeps {z s : State} (hk : Keeps z s) (slot num lost newest : Nat) (keys : List Key) : Keeps z (State.sendEvents s slot num lost newest keys) := by
  unfold State.sendEvents
  try dsimp only
  repeat' (with_reducible first | assumption | apply State.sendOn_keeps | apply State.eventMessage_keeps | refine State.eventMessage_keeps_eq ?_ (by assumption) | apply keeps_foldl | apply keeps_foldl_fst | apply keeps_foldl_snd | split | intro _ | dsimp only | apply Keeps.rest)

theorem State.flushSub_keeps {z s : State} (hk : Keeps z s) (slot num : Nat) : Keeps z (State.flushSub s slot num) := by
  unfold State.flushSub
  try dsimp only
  repeat' (with_reducible first | assumption | apply State.sendEvents_keeps | apply State.modSession_keeps | split | intro _ | dsimp only | apply Keeps.rest)

theorem State.flushNow_keeps {z s : State} (hk : Keeps z s) (u : Sub) : Keeps z (State.flushNow s u) := by
  unfold State.flushNow
  try dsimp only
  repeat' (with_reducible first | assumption | apply State.flushSub_keeps | split | intro _ | dsimp only | apply Keeps.rest)

theorem State.notify_keeps {z s : State} (hk : Keeps z s) (s0 : State) : Keeps z (State.notify s s0) := by
  unfold State.notify
  try dsimp only
  repeat' (with_reducible first | assumption | apply State.flushNow_keeps | apply State.queueChanges_keeps | apply keeps_foldl | apply keeps_foldl_fst | apply keeps_foldl_snd | split | intro _ | dsimp only | apply Keeps.rest)

theorem State.settle_keeps {z s : State} (hk : Keeps z s)  : Keeps z (State.settle s) := by
  unfold State.settle
  try dsimp only
  repeat' (with_reducible first | assumption | apply State.watchBarometer_keeps | apply State.comeBehind_keeps | apply State.releaseAllHeld_keeps | split | intro _ | dsimp only | apply Keeps.rest)

theorem State.restartDue_keeps {z s : State} (hk : Keeps z s)  : Keeps z (State.restartDue s) := by
  unfold State.restartDue
  try dsimp only
  repeat' (with_reducible first | assumption | apply State.restart_keeps | split | intro _ | dsimp only | apply Keeps.rest)

end Sys2Proof.Machine
end

