-- ==== Sys2Proof/Laws/KeepsWrite.lean ====
section
/-! SUPPORT. What each operation on a state keeps (`Keeps`, in Laws/Keeps.lean): the write path and mirrored items. -/

set_option linter.all false

namespace Sys2Proof.Machine

/-! ## Machine/Write.lean -/

theorem State.endSession_keeps {z s : State} (hk : Keeps z s) (slot : Nat) : Keeps z (State.endSession s slot) := by
  unfold State.endSession
  try dsimp only
  repeat' (with_reducible first | assumption | apply State.releaseLayers_keeps | apply State.closeSession_keeps | split | intro _ | dsimp only | apply Keeps.rest)

theorem State.endRekeyed_keeps {z s : State} (hk : Keeps z s)  : Keeps z (State.endRekeyed s) := by
  unfold State.endRekeyed
  try dsimp only
  repeat' (with_reducible first | assumption | apply State.endSession_keeps | apply keeps_foldl | apply keeps_foldl_fst | apply keeps_foldl_snd | split | intro _ | dsimp only | apply Keeps.rest)

theorem State.writeSession_keeps_eq {z s : State} {r : Nat × State} {k : Key} {v : Val} (hk : Keeps z s) (hr : State.writeSession s k v = some r) : Keeps z r.2 := by
  unfold State.writeSession at hr
  try dsimp only at hr
  repeat' (split at hr)
  all_goals first | (simp only [reduceCtorEq] at hr; done) | (replace hr := Option.some.inj hr; subst hr; (try dsimp only); repeat' (with_reducible first | assumption | apply State.endSession_keeps | apply State.set_keeps | split | intro _ | dsimp only | apply Keeps.rest))
theorem State.writeSession_keeps_pair {z s s1 : State} {c : Nat} {k : Key} {v : Val} (hk : Keeps z s) (hr : State.writeSession s k v = some (c, s1)) : Keeps z s1 :=
  State.writeSession_keeps_eq (r := (c, s1)) hk hr

theorem State.writeSource_keeps_eq {z s : State} {r : Nat × State} {k : Key} {v : Val} (hk : Keeps z s) (hr : State.writeSource s k v = some r) : Keeps z r.2 := by
  unfold State.writeSource at hr
  try dsimp only at hr
  repeat' (split at hr)
  all_goals first | (simp only [reduceCtorEq] at hr; done) | (replace hr := Option.some.inj hr; subst hr; (try dsimp only); repeat' (with_reducible first | assumption | apply State.writeRecirc_keeps | refine State.writeRecirc_keeps_eq ?_ (by assumption) | apply State.writeRecircDelay_keeps | refine State.writeRecircDelay_keeps_eq ?_ (by assumption) | split | intro _ | dsimp only | apply Keeps.rest))
theorem State.writeSource_keeps_pair {z s s1 : State} {c : Nat} {k : Key} {v : Val} (hk : Keeps z s) (hr : State.writeSource s k v = some (c, s1)) : Keeps z s1 :=
  State.writeSource_keeps_eq (r := (c, s1)) hk hr

theorem State.writeFollowBase_keeps {z s : State} (hk : Keeps z s) (k : Key) (ess : Essence) (v : Val) : Keeps z (State.writeFollowBase s k ess v).2 := by
  unfold State.writeFollowBase
  try dsimp only
  repeat' (with_reducible first | assumption | apply State.setLater_keeps | split | intro _ | dsimp only | apply Keeps.rest)
theorem State.writeFollowBase_keeps_eq {z s s1 : State} {c : Nat} {k : Key} {ess : Essence} {v : Val} (hk : Keeps z s) (hr : State.writeFollowBase s k ess v = (c, s1)) : Keeps z s1 := by
  have kk := State.writeFollowBase_keeps (z := z) hk k ess v
  rw [hr] at kk
  exact kk

theorem State.writeDestination_keeps_eq {z s : State} {r : Nat × State} {k : Key} {v : Val} (hk : Keeps z s) (hr : State.writeDestination s k v = some r) : Keeps z r.2 := by
  unfold State.writeDestination at hr
  try dsimp only at hr
  repeat' (split at hr)
  all_goals first | (simp only [reduceCtorEq] at hr; done) | (replace hr := Option.some.inj hr; subst hr; (try dsimp only); repeat' (with_reducible first | assumption | apply State.writeFollowBase_keeps | refine State.writeFollowBase_keeps_eq ?_ (by assumption) | apply State.setLater_keeps | apply State.set_keeps | refine State.keepOutput_keeps ?_ ?_ _ | apply State.keepOutput_keeps | split | intro _ | dsimp only | apply Keeps.rest))
theorem State.writeDestination_keeps_pair {z s s1 : State} {c : Nat} {k : Key} {v : Val} (hk : Keeps z s) (hr : State.writeDestination s k v = some (c, s1)) : Keeps z s1 :=
  State.writeDestination_keeps_eq (r := (c, s1)) hk hr

theorem State.writeProgrammeDelay_keeps {z s : State} (hk : Keeps z s) (k : Key) (v : Val) : Keeps z (State.writeProgrammeDelay s k v).2 := by
  unfold State.writeProgrammeDelay
  try dsimp only
  repeat' (with_reducible first | assumption | apply State.askReplace_keeps | apply State.setLater_keeps | split | intro _ | dsimp only | apply Keeps.rest)
theorem State.writeProgrammeDelay_keeps_eq {z s s1 : State} {c : Nat} {k : Key} {v : Val} (hk : Keeps z s) (hr : State.writeProgrammeDelay s k v = (c, s1)) : Keeps z s1 := by
  have kk := State.writeProgrammeDelay_keeps (z := z) hk k v
  rw [hr] at kk
  exact kk

theorem State.writeSwitching_keeps_eq {z s : State} {r : Nat × State} {k : Key} {v : Val} (hk : Keeps z s) (hr : State.writeSwitching s k v = some r) : Keeps z r.2 := by
  unfold State.writeSwitching at hr
  try dsimp only at hr
  repeat' (split at hr)
  all_goals first | (simp only [reduceCtorEq] at hr; done) | (replace hr := Option.some.inj hr; subst hr; (try dsimp only); repeat' (with_reducible first | assumption | apply State.writeHint_keeps | refine State.writeHint_keeps_eq ?_ (by assumption) | apply State.releaseSalvo_keeps | refine State.releaseSalvo_keeps_eq ?_ (by assumption) | refine State.cancelTake_keeps_eq ?_ (by assumption) | apply State.writeProgrammeDelay_keeps | refine State.writeProgrammeDelay_keeps_eq ?_ (by assumption) | apply State.writeTakeList_keeps | refine State.writeTakeList_keeps_eq ?_ (by assumption) | apply State.askReoptimise_keeps | refine State.askReoptimise_keeps_eq ?_ (by assumption) | split | intro _ | dsimp only | apply Keeps.rest)) | (refine State.cancelTake_keeps_eq ?_ hr; repeat' (with_reducible first | assumption | apply State.writeHint_keeps | refine State.writeHint_keeps_eq ?_ (by assumption) | apply State.releaseSalvo_keeps | refine State.releaseSalvo_keeps_eq ?_ (by assumption) | refine State.cancelTake_keeps_eq ?_ (by assumption) | apply State.writeProgrammeDelay_keeps | refine State.writeProgrammeDelay_keeps_eq ?_ (by assumption) | apply State.writeTakeList_keeps | refine State.writeTakeList_keeps_eq ?_ (by assumption) | apply State.askReoptimise_keeps | refine State.askReoptimise_keeps_eq ?_ (by assumption) | split | intro _ | dsimp only | apply Keeps.rest))
theorem State.writeSwitching_keeps_pair {z s s1 : State} {c : Nat} {k : Key} {v : Val} (hk : Keeps z s) (hr : State.writeSwitching s k v = some (c, s1)) : Keeps z s1 :=
  State.writeSwitching_keeps_eq (r := (c, s1)) hk hr

theorem State.familyWrite_keeps_eq {z s : State} {r : Nat × State} {w : Writer} {ovr : List Nat} {k : Key} {v : Val} (hk : Keeps z s) (hr : State.familyWrite s w ovr k v = some r) : Keeps z r.2 := by
  unfold State.familyWrite at hr
  try dsimp only at hr
  repeat' (split at hr)
  all_goals first | (simp only [reduceCtorEq] at hr; done) | (replace hr := Option.some.inj hr; subst hr; (try dsimp only); repeat' (with_reducible first | assumption | refine State.writeInterconnect_keeps_eq ?_ (by assumption) | refine State.writeInterconnect_keeps_pair ?_ (by assumption) | refine State.writeFirmware_keeps_eq ?_ (by assumption) | refine State.writeFirmware_keeps_pair ?_ (by assumption) | refine State.writeSession_keeps_eq ?_ (by assumption) | refine State.writeSession_keeps_pair ?_ (by assumption) | refine State.writeLanes_keeps_eq ?_ (by assumption) | refine State.writeLanes_keeps_pair ?_ (by assumption) | refine State.writeAudio_keeps_eq ?_ (by assumption) | refine State.writeAudio_keeps_pair ?_ (by assumption) | refine State.writeFlow_keeps_eq ?_ (by assumption) | refine State.writeFlow_keeps_pair ?_ (by assumption) | refine State.writeComposition_keeps_eq ?_ (by assumption) | refine State.writeComposition_keeps_pair ?_ (by assumption) | refine State.writeSource_keeps_eq ?_ (by assumption) | refine State.writeSource_keeps_pair ?_ (by assumption) | refine State.writeFaults_keeps_eq ?_ (by assumption) | refine State.writeFaults_keeps_pair ?_ (by assumption) | refine State.writePower_keeps_eq ?_ (by assumption) | refine State.writePower_keeps_pair ?_ (by assumption) | refine State.writeTiming_keeps_eq ?_ (by assumption) | refine State.writeTiming_keeps_pair ?_ (by assumption) | refine State.writeSdi_keeps_eq ?_ (by assumption) | refine State.writeSdi_keeps_pair ?_ (by assumption) | refine State.writeMesh_keeps_eq ?_ (by assumption) | refine State.writeMesh_keeps_pair ?_ (by assumption) | refine State.writeTwin_keeps_eq ?_ (by assumption) | refine State.writeTwin_keeps_pair ?_ (by assumption) | refine State.writeTimeBase_keeps_eq ?_ (by assumption) | refine State.writeTimeBase_keeps_pair ?_ (by assumption) | refine State.writeAnc_keeps_eq ?_ (by assumption) | refine State.writeAnc_keeps_pair ?_ (by assumption) | refine State.writePacket_keeps_eq ?_ (by assumption) | refine State.writePacket_keeps_pair ?_ (by assumption) | refine State.writeDestination_keeps_eq ?_ (by assumption) | refine State.writeDestination_keeps_pair ?_ (by assumption) | refine State.writeSwitching_keeps_eq ?_ (by assumption) | refine State.writeSwitching_keeps_pair ?_ (by assumption) | split | intro _ | dsimp only | apply Keeps.rest)) | (refine State.writeInterconnect_keeps_eq ?_ hr; repeat' (with_reducible first | assumption | refine State.writeInterconnect_keeps_eq ?_ (by assumption) | refine State.writeInterconnect_keeps_pair ?_ (by assumption) | refine State.writeFirmware_keeps_eq ?_ (by assumption) | refine State.writeFirmware_keeps_pair ?_ (by assumption) | refine State.writeSession_keeps_eq ?_ (by assumption) | refine State.writeSession_keeps_pair ?_ (by assumption) | refine State.writeLanes_keeps_eq ?_ (by assumption) | refine State.writeLanes_keeps_pair ?_ (by assumption) | refine State.writeAudio_keeps_eq ?_ (by assumption) | refine State.writeAudio_keeps_pair ?_ (by assumption) | refine State.writeFlow_keeps_eq ?_ (by assumption) | refine State.writeFlow_keeps_pair ?_ (by assumption) | refine State.writeComposition_keeps_eq ?_ (by assumption) | refine State.writeComposition_keeps_pair ?_ (by assumption) | refine State.writeSource_keeps_eq ?_ (by assumption) | refine State.writeSource_keeps_pair ?_ (by assumption) | refine State.writeFaults_keeps_eq ?_ (by assumption) | refine State.writeFaults_keeps_pair ?_ (by assumption) | refine State.writePower_keeps_eq ?_ (by assumption) | refine State.writePower_keeps_pair ?_ (by assumption) | refine State.writeTiming_keeps_eq ?_ (by assumption) | refine State.writeTiming_keeps_pair ?_ (by assumption) | refine State.writeSdi_keeps_eq ?_ (by assumption) | refine State.writeSdi_keeps_pair ?_ (by assumption) | refine State.writeMesh_keeps_eq ?_ (by assumption) | refine State.writeMesh_keeps_pair ?_ (by assumption) | refine State.writeTwin_keeps_eq ?_ (by assumption) | refine State.writeTwin_keeps_pair ?_ (by assumption) | refine State.writeTimeBase_keeps_eq ?_ (by assumption) | refine State.writeTimeBase_keeps_pair ?_ (by assumption) | refine State.writeAnc_keeps_eq ?_ (by assumption) | refine State.writeAnc_keeps_pair ?_ (by assumption) | refine State.writePacket_keeps_eq ?_ (by assumption) | refine State.writePacket_keeps_pair ?_ (by assumption) | refine State.writeDestination_keeps_eq ?_ (by assumption) | refine State.writeDestination_keeps_pair ?_ (by assumption) | refine State.writeSwitching_keeps_eq ?_ (by assumption) | refine State.writeSwitching_keeps_pair ?_ (by assumption) | split | intro _ | dsimp only | apply Keeps.rest)) | (refine State.writeFirmware_keeps_eq ?_ hr; repeat' (with_reducible first | assumption | refine State.writeInterconnect_keeps_eq ?_ (by assumption) | refine State.writeInterconnect_keeps_pair ?_ (by assumption) | refine State.writeFirmware_keeps_eq ?_ (by assumption) | refine State.writeFirmware_keeps_pair ?_ (by assumption) | refine State.writeSession_keeps_eq ?_ (by assumption) | refine State.writeSession_keeps_pair ?_ (by assumption) | refine State.writeLanes_keeps_eq ?_ (by assumption) | refine State.writeLanes_keeps_pair ?_ (by assumption) | refine State.writeAudio_keeps_eq ?_ (by assumption) | refine State.writeAudio_keeps_pair ?_ (by assumption) | refine State.writeFlow_keeps_eq ?_ (by assumption) | refine State.writeFlow_keeps_pair ?_ (by assumption) | refine State.writeComposition_keeps_eq ?_ (by assumption) | refine State.writeComposition_keeps_pair ?_ (by assumption) | refine State.writeSource_keeps_eq ?_ (by assumption) | refine State.writeSource_keeps_pair ?_ (by assumption) | refine State.writeFaults_keeps_eq ?_ (by assumption) | refine State.writeFaults_keeps_pair ?_ (by assumption) | refine State.writePower_keeps_eq ?_ (by assumption) | refine State.writePower_keeps_pair ?_ (by assumption) | refine State.writeTiming_keeps_eq ?_ (by assumption) | refine State.writeTiming_keeps_pair ?_ (by assumption) | refine State.writeSdi_keeps_eq ?_ (by assumption) | refine State.writeSdi_keeps_pair ?_ (by assumption) | refine State.writeMesh_keeps_eq ?_ (by assumption) | refine State.writeMesh_keeps_pair ?_ (by assumption) | refine State.writeTwin_keeps_eq ?_ (by assumption) | refine State.writeTwin_keeps_pair ?_ (by assumption) | refine State.writeTimeBase_keeps_eq ?_ (by assumption) | refine State.writeTimeBase_keeps_pair ?_ (by assumption) | refine State.writeAnc_keeps_eq ?_ (by assumption) | refine State.writeAnc_keeps_pair ?_ (by assumption) | refine State.writePacket_keeps_eq ?_ (by assumption) | refine State.writePacket_keeps_pair ?_ (by assumption) | refine State.writeDestination_keeps_eq ?_ (by assumption) | refine State.writeDestination_keeps_pair ?_ (by assumption) | refine State.writeSwitching_keeps_eq ?_ (by assumption) | refine State.writeSwitching_keeps_pair ?_ (by assumption) | split | intro _ | dsimp only | apply Keeps.rest)) | (refine State.writeSession_keeps_eq ?_ hr; repeat' (with_reducible first | assumption | refine State.writeInterconnect_keeps_eq ?_ (by assumption) | refine State.writeInterconnect_keeps_pair ?_ (by assumption) | refine State.writeFirmware_keeps_eq ?_ (by assumption) | refine State.writeFirmware_keeps_pair ?_ (by assumption) | refine State.writeSession_keeps_eq ?_ (by assumption) | refine State.writeSession_keeps_pair ?_ (by assumption) | refine State.writeLanes_keeps_eq ?_ (by assumption) | refine State.writeLanes_keeps_pair ?_ (by assumption) | refine State.writeAudio_keeps_eq ?_ (by assumption) | refine State.writeAudio_keeps_pair ?_ (by assumption) | refine State.writeFlow_keeps_eq ?_ (by assumption) | refine State.writeFlow_keeps_pair ?_ (by assumption) | refine State.writeComposition_keeps_eq ?_ (by assumption) | refine State.writeComposition_keeps_pair ?_ (by assumption) | refine State.writeSource_keeps_eq ?_ (by assumption) | refine State.writeSource_keeps_pair ?_ (by assumption) | refine State.writeFaults_keeps_eq ?_ (by assumption) | refine State.writeFaults_keeps_pair ?_ (by assumption) | refine State.writePower_keeps_eq ?_ (by assumption) | refine State.writePower_keeps_pair ?_ (by assumption) | refine State.writeTiming_keeps_eq ?_ (by assumption) | refine State.writeTiming_keeps_pair ?_ (by assumption) | refine State.writeSdi_keeps_eq ?_ (by assumption) | refine State.writeSdi_keeps_pair ?_ (by assumption) | refine State.writeMesh_keeps_eq ?_ (by assumption) | refine State.writeMesh_keeps_pair ?_ (by assumption) | refine State.writeTwin_keeps_eq ?_ (by assumption) | refine State.writeTwin_keeps_pair ?_ (by assumption) | refine State.writeTimeBase_keeps_eq ?_ (by assumption) | refine State.writeTimeBase_keeps_pair ?_ (by assumption) | refine State.writeAnc_keeps_eq ?_ (by assumption) | refine State.writeAnc_keeps_pair ?_ (by assumption) | refine State.writePacket_keeps_eq ?_ (by assumption) | refine State.writePacket_keeps_pair ?_ (by assumption) | refine State.writeDestination_keeps_eq ?_ (by assumption) | refine State.writeDestination_keeps_pair ?_ (by assumption) | refine State.writeSwitching_keeps_eq ?_ (by assumption) | refine State.writeSwitching_keeps_pair ?_ (by assumption) | split | intro _ | dsimp only | apply Keeps.rest)) | (refine State.writeLanes_keeps_eq ?_ hr; repeat' (with_reducible first | assumption | refine State.writeInterconnect_keeps_eq ?_ (by assumption) | refine State.writeInterconnect_keeps_pair ?_ (by assumption) | refine State.writeFirmware_keeps_eq ?_ (by assumption) | refine State.writeFirmware_keeps_pair ?_ (by assumption) | refine State.writeSession_keeps_eq ?_ (by assumption) | refine State.writeSession_keeps_pair ?_ (by assumption) | refine State.writeLanes_keeps_eq ?_ (by assumption) | refine State.writeLanes_keeps_pair ?_ (by assumption) | refine State.writeAudio_keeps_eq ?_ (by assumption) | refine State.writeAudio_keeps_pair ?_ (by assumption) | refine State.writeFlow_keeps_eq ?_ (by assumption) | refine State.writeFlow_keeps_pair ?_ (by assumption) | refine State.writeComposition_keeps_eq ?_ (by assumption) | refine State.writeComposition_keeps_pair ?_ (by assumption) | refine State.writeSource_keeps_eq ?_ (by assumption) | refine State.writeSource_keeps_pair ?_ (by assumption) | refine State.writeFaults_keeps_eq ?_ (by assumption) | refine State.writeFaults_keeps_pair ?_ (by assumption) | refine State.writePower_keeps_eq ?_ (by assumption) | refine State.writePower_keeps_pair ?_ (by assumption) | refine State.writeTiming_keeps_eq ?_ (by assumption) | refine State.writeTiming_keeps_pair ?_ (by assumption) | refine State.writeSdi_keeps_eq ?_ (by assumption) | refine State.writeSdi_keeps_pair ?_ (by assumption) | refine State.writeMesh_keeps_eq ?_ (by assumption) | refine State.writeMesh_keeps_pair ?_ (by assumption) | refine State.writeTwin_keeps_eq ?_ (by assumption) | refine State.writeTwin_keeps_pair ?_ (by assumption) | refine State.writeTimeBase_keeps_eq ?_ (by assumption) | refine State.writeTimeBase_keeps_pair ?_ (by assumption) | refine State.writeAnc_keeps_eq ?_ (by assumption) | refine State.writeAnc_keeps_pair ?_ (by assumption) | refine State.writePacket_keeps_eq ?_ (by assumption) | refine State.writePacket_keeps_pair ?_ (by assumption) | refine State.writeDestination_keeps_eq ?_ (by assumption) | refine State.writeDestination_keeps_pair ?_ (by assumption) | refine State.writeSwitching_keeps_eq ?_ (by assumption) | refine State.writeSwitching_keeps_pair ?_ (by assumption) | split | intro _ | dsimp only | apply Keeps.rest)) | (refine State.writeAudio_keeps_eq ?_ hr; repeat' (with_reducible first | assumption | refine State.writeInterconnect_keeps_eq ?_ (by assumption) | refine State.writeInterconnect_keeps_pair ?_ (by assumption) | refine State.writeFirmware_keeps_eq ?_ (by assumption) | refine State.writeFirmware_keeps_pair ?_ (by assumption) | refine State.writeSession_keeps_eq ?_ (by assumption) | refine State.writeSession_keeps_pair ?_ (by assumption) | refine State.writeLanes_keeps_eq ?_ (by assumption) | refine State.writeLanes_keeps_pair ?_ (by assumption) | refine State.writeAudio_keeps_eq ?_ (by assumption) | refine State.writeAudio_keeps_pair ?_ (by assumption) | refine State.writeFlow_keeps_eq ?_ (by assumption) | refine State.writeFlow_keeps_pair ?_ (by assumption) | refine State.writeComposition_keeps_eq ?_ (by assumption) | refine State.writeComposition_keeps_pair ?_ (by assumption) | refine State.writeSource_keeps_eq ?_ (by assumption) | refine State.writeSource_keeps_pair ?_ (by assumption) | refine State.writeFaults_keeps_eq ?_ (by assumption) | refine State.writeFaults_keeps_pair ?_ (by assumption) | refine State.writePower_keeps_eq ?_ (by assumption) | refine State.writePower_keeps_pair ?_ (by assumption) | refine State.writeTiming_keeps_eq ?_ (by assumption) | refine State.writeTiming_keeps_pair ?_ (by assumption) | refine State.writeSdi_keeps_eq ?_ (by assumption) | refine State.writeSdi_keeps_pair ?_ (by assumption) | refine State.writeMesh_keeps_eq ?_ (by assumption) | refine State.writeMesh_keeps_pair ?_ (by assumption) | refine State.writeTwin_keeps_eq ?_ (by assumption) | refine State.writeTwin_keeps_pair ?_ (by assumption) | refine State.writeTimeBase_keeps_eq ?_ (by assumption) | refine State.writeTimeBase_keeps_pair ?_ (by assumption) | refine State.writeAnc_keeps_eq ?_ (by assumption) | refine State.writeAnc_keeps_pair ?_ (by assumption) | refine State.writePacket_keeps_eq ?_ (by assumption) | refine State.writePacket_keeps_pair ?_ (by assumption) | refine State.writeDestination_keeps_eq ?_ (by assumption) | refine State.writeDestination_keeps_pair ?_ (by assumption) | refine State.writeSwitching_keeps_eq ?_ (by assumption) | refine State.writeSwitching_keeps_pair ?_ (by assumption) | split | intro _ | dsimp only | apply Keeps.rest)) | (refine State.writeFlow_keeps_eq ?_ hr; repeat' (with_reducible first | assumption | refine State.writeInterconnect_keeps_eq ?_ (by assumption) | refine State.writeInterconnect_keeps_pair ?_ (by assumption) | refine State.writeFirmware_keeps_eq ?_ (by assumption) | refine State.writeFirmware_keeps_pair ?_ (by assumption) | refine State.writeSession_keeps_eq ?_ (by assumption) | refine State.writeSession_keeps_pair ?_ (by assumption) | refine State.writeLanes_keeps_eq ?_ (by assumption) | refine State.writeLanes_keeps_pair ?_ (by assumption) | refine State.writeAudio_keeps_eq ?_ (by assumption) | refine State.writeAudio_keeps_pair ?_ (by assumption) | refine State.writeFlow_keeps_eq ?_ (by assumption) | refine State.writeFlow_keeps_pair ?_ (by assumption) | refine State.writeComposition_keeps_eq ?_ (by assumption) | refine State.writeComposition_keeps_pair ?_ (by assumption) | refine State.writeSource_keeps_eq ?_ (by assumption) | refine State.writeSource_keeps_pair ?_ (by assumption) | refine State.writeFaults_keeps_eq ?_ (by assumption) | refine State.writeFaults_keeps_pair ?_ (by assumption) | refine State.writePower_keeps_eq ?_ (by assumption) | refine State.writePower_keeps_pair ?_ (by assumption) | refine State.writeTiming_keeps_eq ?_ (by assumption) | refine State.writeTiming_keeps_pair ?_ (by assumption) | refine State.writeSdi_keeps_eq ?_ (by assumption) | refine State.writeSdi_keeps_pair ?_ (by assumption) | refine State.writeMesh_keeps_eq ?_ (by assumption) | refine State.writeMesh_keeps_pair ?_ (by assumption) | refine State.writeTwin_keeps_eq ?_ (by assumption) | refine State.writeTwin_keeps_pair ?_ (by assumption) | refine State.writeTimeBase_keeps_eq ?_ (by assumption) | refine State.writeTimeBase_keeps_pair ?_ (by assumption) | refine State.writeAnc_keeps_eq ?_ (by assumption) | refine State.writeAnc_keeps_pair ?_ (by assumption) | refine State.writePacket_keeps_eq ?_ (by assumption) | refine State.writePacket_keeps_pair ?_ (by assumption) | refine State.writeDestination_keeps_eq ?_ (by assumption) | refine State.writeDestination_keeps_pair ?_ (by assumption) | refine State.writeSwitching_keeps_eq ?_ (by assumption) | refine State.writeSwitching_keeps_pair ?_ (by assumption) | split | intro _ | dsimp only | apply Keeps.rest)) | (refine State.writeComposition_keeps_eq ?_ hr; repeat' (with_reducible first | assumption | refine State.writeInterconnect_keeps_eq ?_ (by assumption) | refine State.writeInterconnect_keeps_pair ?_ (by assumption) | refine State.writeFirmware_keeps_eq ?_ (by assumption) | refine State.writeFirmware_keeps_pair ?_ (by assumption) | refine State.writeSession_keeps_eq ?_ (by assumption) | refine State.writeSession_keeps_pair ?_ (by assumption) | refine State.writeLanes_keeps_eq ?_ (by assumption) | refine State.writeLanes_keeps_pair ?_ (by assumption) | refine State.writeAudio_keeps_eq ?_ (by assumption) | refine State.writeAudio_keeps_pair ?_ (by assumption) | refine State.writeFlow_keeps_eq ?_ (by assumption) | refine State.writeFlow_keeps_pair ?_ (by assumption) | refine State.writeComposition_keeps_eq ?_ (by assumption) | refine State.writeComposition_keeps_pair ?_ (by assumption) | refine State.writeSource_keeps_eq ?_ (by assumption) | refine State.writeSource_keeps_pair ?_ (by assumption) | refine State.writeFaults_keeps_eq ?_ (by assumption) | refine State.writeFaults_keeps_pair ?_ (by assumption) | refine State.writePower_keeps_eq ?_ (by assumption) | refine State.writePower_keeps_pair ?_ (by assumption) | refine State.writeTiming_keeps_eq ?_ (by assumption) | refine State.writeTiming_keeps_pair ?_ (by assumption) | refine State.writeSdi_keeps_eq ?_ (by assumption) | refine State.writeSdi_keeps_pair ?_ (by assumption) | refine State.writeMesh_keeps_eq ?_ (by assumption) | refine State.writeMesh_keeps_pair ?_ (by assumption) | refine State.writeTwin_keeps_eq ?_ (by assumption) | refine State.writeTwin_keeps_pair ?_ (by assumption) | refine State.writeTimeBase_keeps_eq ?_ (by assumption) | refine State.writeTimeBase_keeps_pair ?_ (by assumption) | refine State.writeAnc_keeps_eq ?_ (by assumption) | refine State.writeAnc_keeps_pair ?_ (by assumption) | refine State.writePacket_keeps_eq ?_ (by assumption) | refine State.writePacket_keeps_pair ?_ (by assumption) | refine State.writeDestination_keeps_eq ?_ (by assumption) | refine State.writeDestination_keeps_pair ?_ (by assumption) | refine State.writeSwitching_keeps_eq ?_ (by assumption) | refine State.writeSwitching_keeps_pair ?_ (by assumption) | split | intro _ | dsimp only | apply Keeps.rest)) | (refine State.writeSource_keeps_eq ?_ hr; repeat' (with_reducible first | assumption | refine State.writeInterconnect_keeps_eq ?_ (by assumption) | refine State.writeInterconnect_keeps_pair ?_ (by assumption) | refine State.writeFirmware_keeps_eq ?_ (by assumption) | refine State.writeFirmware_keeps_pair ?_ (by assumption) | refine State.writeSession_keeps_eq ?_ (by assumption) | refine State.writeSession_keeps_pair ?_ (by assumption) | refine State.writeLanes_keeps_eq ?_ (by assumption) | refine State.writeLanes_keeps_pair ?_ (by assumption) | refine State.writeAudio_keeps_eq ?_ (by assumption) | refine State.writeAudio_keeps_pair ?_ (by assumption) | refine State.writeFlow_keeps_eq ?_ (by assumption) | refine State.writeFlow_keeps_pair ?_ (by assumption) | refine State.writeComposition_keeps_eq ?_ (by assumption) | refine State.writeComposition_keeps_pair ?_ (by assumption) | refine State.writeSource_keeps_eq ?_ (by assumption) | refine State.writeSource_keeps_pair ?_ (by assumption) | refine State.writeFaults_keeps_eq ?_ (by assumption) | refine State.writeFaults_keeps_pair ?_ (by assumption) | refine State.writePower_keeps_eq ?_ (by assumption) | refine State.writePower_keeps_pair ?_ (by assumption) | refine State.writeTiming_keeps_eq ?_ (by assumption) | refine State.writeTiming_keeps_pair ?_ (by assumption) | refine State.writeSdi_keeps_eq ?_ (by assumption) | refine State.writeSdi_keeps_pair ?_ (by assumption) | refine State.writeMesh_keeps_eq ?_ (by assumption) | refine State.writeMesh_keeps_pair ?_ (by assumption) | refine State.writeTwin_keeps_eq ?_ (by assumption) | refine State.writeTwin_keeps_pair ?_ (by assumption) | refine State.writeTimeBase_keeps_eq ?_ (by assumption) | refine State.writeTimeBase_keeps_pair ?_ (by assumption) | refine State.writeAnc_keeps_eq ?_ (by assumption) | refine State.writeAnc_keeps_pair ?_ (by assumption) | refine State.writePacket_keeps_eq ?_ (by assumption) | refine State.writePacket_keeps_pair ?_ (by assumption) | refine State.writeDestination_keeps_eq ?_ (by assumption) | refine State.writeDestination_keeps_pair ?_ (by assumption) | refine State.writeSwitching_keeps_eq ?_ (by assumption) | refine State.writeSwitching_keeps_pair ?_ (by assumption) | split | intro _ | dsimp only | apply Keeps.rest)) | (refine State.writeFaults_keeps_eq ?_ hr; repeat' (with_reducible first | assumption | refine State.writeInterconnect_keeps_eq ?_ (by assumption) | refine State.writeInterconnect_keeps_pair ?_ (by assumption) | refine State.writeFirmware_keeps_eq ?_ (by assumption) | refine State.writeFirmware_keeps_pair ?_ (by assumption) | refine State.writeSession_keeps_eq ?_ (by assumption) | refine State.writeSession_keeps_pair ?_ (by assumption) | refine State.writeLanes_keeps_eq ?_ (by assumption) | refine State.writeLanes_keeps_pair ?_ (by assumption) | refine State.writeAudio_keeps_eq ?_ (by assumption) | refine State.writeAudio_keeps_pair ?_ (by assumption) | refine State.writeFlow_keeps_eq ?_ (by assumption) | refine State.writeFlow_keeps_pair ?_ (by assumption) | refine State.writeComposition_keeps_eq ?_ (by assumption) | refine State.writeComposition_keeps_pair ?_ (by assumption) | refine State.writeSource_keeps_eq ?_ (by assumption) | refine State.writeSource_keeps_pair ?_ (by assumption) | refine State.writeFaults_keeps_eq ?_ (by assumption) | refine State.writeFaults_keeps_pair ?_ (by assumption) | refine State.writePower_keeps_eq ?_ (by assumption) | refine State.writePower_keeps_pair ?_ (by assumption) | refine State.writeTiming_keeps_eq ?_ (by assumption) | refine State.writeTiming_keeps_pair ?_ (by assumption) | refine State.writeSdi_keeps_eq ?_ (by assumption) | refine State.writeSdi_keeps_pair ?_ (by assumption) | refine State.writeMesh_keeps_eq ?_ (by assumption) | refine State.writeMesh_keeps_pair ?_ (by assumption) | refine State.writeTwin_keeps_eq ?_ (by assumption) | refine State.writeTwin_keeps_pair ?_ (by assumption) | refine State.writeTimeBase_keeps_eq ?_ (by assumption) | refine State.writeTimeBase_keeps_pair ?_ (by assumption) | refine State.writeAnc_keeps_eq ?_ (by assumption) | refine State.writeAnc_keeps_pair ?_ (by assumption) | refine State.writePacket_keeps_eq ?_ (by assumption) | refine State.writePacket_keeps_pair ?_ (by assumption) | refine State.writeDestination_keeps_eq ?_ (by assumption) | refine State.writeDestination_keeps_pair ?_ (by assumption) | refine State.writeSwitching_keeps_eq ?_ (by assumption) | refine State.writeSwitching_keeps_pair ?_ (by assumption) | split | intro _ | dsimp only | apply Keeps.rest)) | (refine State.writePower_keeps_eq ?_ hr; repeat' (with_reducible first | assumption | refine State.writeInterconnect_keeps_eq ?_ (by assumption) | refine State.writeInterconnect_keeps_pair ?_ (by assumption) | refine State.writeFirmware_keeps_eq ?_ (by assumption) | refine State.writeFirmware_keeps_pair ?_ (by assumption) | refine State.writeSession_keeps_eq ?_ (by assumption) | refine State.writeSession_keeps_pair ?_ (by assumption) | refine State.writeLanes_keeps_eq ?_ (by assumption) | refine State.writeLanes_keeps_pair ?_ (by assumption) | refine State.writeAudio_keeps_eq ?_ (by assumption) | refine State.writeAudio_keeps_pair ?_ (by assumption) | refine State.writeFlow_keeps_eq ?_ (by assumption) | refine State.writeFlow_keeps_pair ?_ (by assumption) | refine State.writeComposition_keeps_eq ?_ (by assumption) | refine State.writeComposition_keeps_pair ?_ (by assumption) | refine State.writeSource_keeps_eq ?_ (by assumption) | refine State.writeSource_keeps_pair ?_ (by assumption) | refine State.writeFaults_keeps_eq ?_ (by assumption) | refine State.writeFaults_keeps_pair ?_ (by assumption) | refine State.writePower_keeps_eq ?_ (by assumption) | refine State.writePower_keeps_pair ?_ (by assumption) | refine State.writeTiming_keeps_eq ?_ (by assumption) | refine State.writeTiming_keeps_pair ?_ (by assumption) | refine State.writeSdi_keeps_eq ?_ (by assumption) | refine State.writeSdi_keeps_pair ?_ (by assumption) | refine State.writeMesh_keeps_eq ?_ (by assumption) | refine State.writeMesh_keeps_pair ?_ (by assumption) | refine State.writeTwin_keeps_eq ?_ (by assumption) | refine State.writeTwin_keeps_pair ?_ (by assumption) | refine State.writeTimeBase_keeps_eq ?_ (by assumption) | refine State.writeTimeBase_keeps_pair ?_ (by assumption) | refine State.writeAnc_keeps_eq ?_ (by assumption) | refine State.writeAnc_keeps_pair ?_ (by assumption) | refine State.writePacket_keeps_eq ?_ (by assumption) | refine State.writePacket_keeps_pair ?_ (by assumption) | refine State.writeDestination_keeps_eq ?_ (by assumption) | refine State.writeDestination_keeps_pair ?_ (by assumption) | refine State.writeSwitching_keeps_eq ?_ (by assumption) | refine State.writeSwitching_keeps_pair ?_ (by assumption) | split | intro _ | dsimp only | apply Keeps.rest)) | (refine State.writeTiming_keeps_eq ?_ hr; repeat' (with_reducible first | assumption | refine State.writeInterconnect_keeps_eq ?_ (by assumption) | refine State.writeInterconnect_keeps_pair ?_ (by assumption) | refine State.writeFirmware_keeps_eq ?_ (by assumption) | refine State.writeFirmware_keeps_pair ?_ (by assumption) | refine State.writeSession_keeps_eq ?_ (by assumption) | refine State.writeSession_keeps_pair ?_ (by assumption) | refine State.writeLanes_keeps_eq ?_ (by assumption) | refine State.writeLanes_keeps_pair ?_ (by assumption) | refine State.writeAudio_keeps_eq ?_ (by assumption) | refine State.writeAudio_keeps_pair ?_ (by assumption) | refine State.writeFlow_keeps_eq ?_ (by assumption) | refine State.writeFlow_keeps_pair ?_ (by assumption) | refine State.writeComposition_keeps_eq ?_ (by assumption) | refine State.writeComposition_keeps_pair ?_ (by assumption) | refine State.writeSource_keeps_eq ?_ (by assumption) | refine State.writeSource_keeps_pair ?_ (by assumption) | refine State.writeFaults_keeps_eq ?_ (by assumption) | refine State.writeFaults_keeps_pair ?_ (by assumption) | refine State.writePower_keeps_eq ?_ (by assumption) | refine State.writePower_keeps_pair ?_ (by assumption) | refine State.writeTiming_keeps_eq ?_ (by assumption) | refine State.writeTiming_keeps_pair ?_ (by assumption) | refine State.writeSdi_keeps_eq ?_ (by assumption) | refine State.writeSdi_keeps_pair ?_ (by assumption) | refine State.writeMesh_keeps_eq ?_ (by assumption) | refine State.writeMesh_keeps_pair ?_ (by assumption) | refine State.writeTwin_keeps_eq ?_ (by assumption) | refine State.writeTwin_keeps_pair ?_ (by assumption) | refine State.writeTimeBase_keeps_eq ?_ (by assumption) | refine State.writeTimeBase_keeps_pair ?_ (by assumption) | refine State.writeAnc_keeps_eq ?_ (by assumption) | refine State.writeAnc_keeps_pair ?_ (by assumption) | refine State.writePacket_keeps_eq ?_ (by assumption) | refine State.writePacket_keeps_pair ?_ (by assumption) | refine State.writeDestination_keeps_eq ?_ (by assumption) | refine State.writeDestination_keeps_pair ?_ (by assumption) | refine State.writeSwitching_keeps_eq ?_ (by assumption) | refine State.writeSwitching_keeps_pair ?_ (by assumption) | split | intro _ | dsimp only | apply Keeps.rest)) | (refine State.writeSdi_keeps_eq ?_ hr; repeat' (with_reducible first | assumption | refine State.writeInterconnect_keeps_eq ?_ (by assumption) | refine State.writeInterconnect_keeps_pair ?_ (by assumption) | refine State.writeFirmware_keeps_eq ?_ (by assumption) | refine State.writeFirmware_keeps_pair ?_ (by assumption) | refine State.writeSession_keeps_eq ?_ (by assumption) | refine State.writeSession_keeps_pair ?_ (by assumption) | refine State.writeLanes_keeps_eq ?_ (by assumption) | refine State.writeLanes_keeps_pair ?_ (by assumption) | refine State.writeAudio_keeps_eq ?_ (by assumption) | refine State.writeAudio_keeps_pair ?_ (by assumption) | refine State.writeFlow_keeps_eq ?_ (by assumption) | refine State.writeFlow_keeps_pair ?_ (by assumption) | refine State.writeComposition_keeps_eq ?_ (by assumption) | refine State.writeComposition_keeps_pair ?_ (by assumption) | refine State.writeSource_keeps_eq ?_ (by assumption) | refine State.writeSource_keeps_pair ?_ (by assumption) | refine State.writeFaults_keeps_eq ?_ (by assumption) | refine State.writeFaults_keeps_pair ?_ (by assumption) | refine State.writePower_keeps_eq ?_ (by assumption) | refine State.writePower_keeps_pair ?_ (by assumption) | refine State.writeTiming_keeps_eq ?_ (by assumption) | refine State.writeTiming_keeps_pair ?_ (by assumption) | refine State.writeSdi_keeps_eq ?_ (by assumption) | refine State.writeSdi_keeps_pair ?_ (by assumption) | refine State.writeMesh_keeps_eq ?_ (by assumption) | refine State.writeMesh_keeps_pair ?_ (by assumption) | refine State.writeTwin_keeps_eq ?_ (by assumption) | refine State.writeTwin_keeps_pair ?_ (by assumption) | refine State.writeTimeBase_keeps_eq ?_ (by assumption) | refine State.writeTimeBase_keeps_pair ?_ (by assumption) | refine State.writeAnc_keeps_eq ?_ (by assumption) | refine State.writeAnc_keeps_pair ?_ (by assumption) | refine State.writePacket_keeps_eq ?_ (by assumption) | refine State.writePacket_keeps_pair ?_ (by assumption) | refine State.writeDestination_keeps_eq ?_ (by assumption) | refine State.writeDestination_keeps_pair ?_ (by assumption) | refine State.writeSwitching_keeps_eq ?_ (by assumption) | refine State.writeSwitching_keeps_pair ?_ (by assumption) | split | intro _ | dsimp only | apply Keeps.rest)) | (refine State.writeMesh_keeps_eq ?_ hr; repeat' (with_reducible first | assumption | refine State.writeInterconnect_keeps_eq ?_ (by assumption) | refine State.writeInterconnect_keeps_pair ?_ (by assumption) | refine State.writeFirmware_keeps_eq ?_ (by assumption) | refine State.writeFirmware_keeps_pair ?_ (by assumption) | refine State.writeSession_keeps_eq ?_ (by assumption) | refine State.writeSession_keeps_pair ?_ (by assumption) | refine State.writeLanes_keeps_eq ?_ (by assumption) | refine State.writeLanes_keeps_pair ?_ (by assumption) | refine State.writeAudio_keeps_eq ?_ (by assumption) | refine State.writeAudio_keeps_pair ?_ (by assumption) | refine State.writeFlow_keeps_eq ?_ (by assumption) | refine State.writeFlow_keeps_pair ?_ (by assumption) | refine State.writeComposition_keeps_eq ?_ (by assumption) | refine State.writeComposition_keeps_pair ?_ (by assumption) | refine State.writeSource_keeps_eq ?_ (by assumption) | refine State.writeSource_keeps_pair ?_ (by assumption) | refine State.writeFaults_keeps_eq ?_ (by assumption) | refine State.writeFaults_keeps_pair ?_ (by assumption) | refine State.writePower_keeps_eq ?_ (by assumption) | refine State.writePower_keeps_pair ?_ (by assumption) | refine State.writeTiming_keeps_eq ?_ (by assumption) | refine State.writeTiming_keeps_pair ?_ (by assumption) | refine State.writeSdi_keeps_eq ?_ (by assumption) | refine State.writeSdi_keeps_pair ?_ (by assumption) | refine State.writeMesh_keeps_eq ?_ (by assumption) | refine State.writeMesh_keeps_pair ?_ (by assumption) | refine State.writeTwin_keeps_eq ?_ (by assumption) | refine State.writeTwin_keeps_pair ?_ (by assumption) | refine State.writeTimeBase_keeps_eq ?_ (by assumption) | refine State.writeTimeBase_keeps_pair ?_ (by assumption) | refine State.writeAnc_keeps_eq ?_ (by assumption) | refine State.writeAnc_keeps_pair ?_ (by assumption) | refine State.writePacket_keeps_eq ?_ (by assumption) | refine State.writePacket_keeps_pair ?_ (by assumption) | refine State.writeDestination_keeps_eq ?_ (by assumption) | refine State.writeDestination_keeps_pair ?_ (by assumption) | refine State.writeSwitching_keeps_eq ?_ (by assumption) | refine State.writeSwitching_keeps_pair ?_ (by assumption) | split | intro _ | dsimp only | apply Keeps.rest)) | (refine State.writeTwin_keeps_eq ?_ hr; repeat' (with_reducible first | assumption | refine State.writeInterconnect_keeps_eq ?_ (by assumption) | refine State.writeInterconnect_keeps_pair ?_ (by assumption) | refine State.writeFirmware_keeps_eq ?_ (by assumption) | refine State.writeFirmware_keeps_pair ?_ (by assumption) | refine State.writeSession_keeps_eq ?_ (by assumption) | refine State.writeSession_keeps_pair ?_ (by assumption) | refine State.writeLanes_keeps_eq ?_ (by assumption) | refine State.writeLanes_keeps_pair ?_ (by assumption) | refine State.writeAudio_keeps_eq ?_ (by assumption) | refine State.writeAudio_keeps_pair ?_ (by assumption) | refine State.writeFlow_keeps_eq ?_ (by assumption) | refine State.writeFlow_keeps_pair ?_ (by assumption) | refine State.writeComposition_keeps_eq ?_ (by assumption) | refine State.writeComposition_keeps_pair ?_ (by assumption) | refine State.writeSource_keeps_eq ?_ (by assumption) | refine State.writeSource_keeps_pair ?_ (by assumption) | refine State.writeFaults_keeps_eq ?_ (by assumption) | refine State.writeFaults_keeps_pair ?_ (by assumption) | refine State.writePower_keeps_eq ?_ (by assumption) | refine State.writePower_keeps_pair ?_ (by assumption) | refine State.writeTiming_keeps_eq ?_ (by assumption) | refine State.writeTiming_keeps_pair ?_ (by assumption) | refine State.writeSdi_keeps_eq ?_ (by assumption) | refine State.writeSdi_keeps_pair ?_ (by assumption) | refine State.writeMesh_keeps_eq ?_ (by assumption) | refine State.writeMesh_keeps_pair ?_ (by assumption) | refine State.writeTwin_keeps_eq ?_ (by assumption) | refine State.writeTwin_keeps_pair ?_ (by assumption) | refine State.writeTimeBase_keeps_eq ?_ (by assumption) | refine State.writeTimeBase_keeps_pair ?_ (by assumption) | refine State.writeAnc_keeps_eq ?_ (by assumption) | refine State.writeAnc_keeps_pair ?_ (by assumption) | refine State.writePacket_keeps_eq ?_ (by assumption) | refine State.writePacket_keeps_pair ?_ (by assumption) | refine State.writeDestination_keeps_eq ?_ (by assumption) | refine State.writeDestination_keeps_pair ?_ (by assumption) | refine State.writeSwitching_keeps_eq ?_ (by assumption) | refine State.writeSwitching_keeps_pair ?_ (by assumption) | split | intro _ | dsimp only | apply Keeps.rest)) | (refine State.writeTimeBase_keeps_eq ?_ hr; repeat' (with_reducible first | assumption | refine State.writeInterconnect_keeps_eq ?_ (by assumption) | refine State.writeInterconnect_keeps_pair ?_ (by assumption) | refine State.writeFirmware_keeps_eq ?_ (by assumption) | refine State.writeFirmware_keeps_pair ?_ (by assumption) | refine State.writeSession_keeps_eq ?_ (by assumption) | refine State.writeSession_keeps_pair ?_ (by assumption) | refine State.writeLanes_keeps_eq ?_ (by assumption) | refine State.writeLanes_keeps_pair ?_ (by assumption) | refine State.writeAudio_keeps_eq ?_ (by assumption) | refine State.writeAudio_keeps_pair ?_ (by assumption) | refine State.writeFlow_keeps_eq ?_ (by assumption) | refine State.writeFlow_keeps_pair ?_ (by assumption) | refine State.writeComposition_keeps_eq ?_ (by assumption) | refine State.writeComposition_keeps_pair ?_ (by assumption) | refine State.writeSource_keeps_eq ?_ (by assumption) | refine State.writeSource_keeps_pair ?_ (by assumption) | refine State.writeFaults_keeps_eq ?_ (by assumption) | refine State.writeFaults_keeps_pair ?_ (by assumption) | refine State.writePower_keeps_eq ?_ (by assumption) | refine State.writePower_keeps_pair ?_ (by assumption) | refine State.writeTiming_keeps_eq ?_ (by assumption) | refine State.writeTiming_keeps_pair ?_ (by assumption) | refine State.writeSdi_keeps_eq ?_ (by assumption) | refine State.writeSdi_keeps_pair ?_ (by assumption) | refine State.writeMesh_keeps_eq ?_ (by assumption) | refine State.writeMesh_keeps_pair ?_ (by assumption) | refine State.writeTwin_keeps_eq ?_ (by assumption) | refine State.writeTwin_keeps_pair ?_ (by assumption) | refine State.writeTimeBase_keeps_eq ?_ (by assumption) | refine State.writeTimeBase_keeps_pair ?_ (by assumption) | refine State.writeAnc_keeps_eq ?_ (by assumption) | refine State.writeAnc_keeps_pair ?_ (by assumption) | refine State.writePacket_keeps_eq ?_ (by assumption) | refine State.writePacket_keeps_pair ?_ (by assumption) | refine State.writeDestination_keeps_eq ?_ (by assumption) | refine State.writeDestination_keeps_pair ?_ (by assumption) | refine State.writeSwitching_keeps_eq ?_ (by assumption) | refine State.writeSwitching_keeps_pair ?_ (by assumption) | split | intro _ | dsimp only | apply Keeps.rest)) | (refine State.writeAnc_keeps_eq ?_ hr; repeat' (with_reducible first | assumption | refine State.writeInterconnect_keeps_eq ?_ (by assumption) | refine State.writeInterconnect_keeps_pair ?_ (by assumption) | refine State.writeFirmware_keeps_eq ?_ (by assumption) | refine State.writeFirmware_keeps_pair ?_ (by assumption) | refine State.writeSession_keeps_eq ?_ (by assumption) | refine State.writeSession_keeps_pair ?_ (by assumption) | refine State.writeLanes_keeps_eq ?_ (by assumption) | refine State.writeLanes_keeps_pair ?_ (by assumption) | refine State.writeAudio_keeps_eq ?_ (by assumption) | refine State.writeAudio_keeps_pair ?_ (by assumption) | refine State.writeFlow_keeps_eq ?_ (by assumption) | refine State.writeFlow_keeps_pair ?_ (by assumption) | refine State.writeComposition_keeps_eq ?_ (by assumption) | refine State.writeComposition_keeps_pair ?_ (by assumption) | refine State.writeSource_keeps_eq ?_ (by assumption) | refine State.writeSource_keeps_pair ?_ (by assumption) | refine State.writeFaults_keeps_eq ?_ (by assumption) | refine State.writeFaults_keeps_pair ?_ (by assumption) | refine State.writePower_keeps_eq ?_ (by assumption) | refine State.writePower_keeps_pair ?_ (by assumption) | refine State.writeTiming_keeps_eq ?_ (by assumption) | refine State.writeTiming_keeps_pair ?_ (by assumption) | refine State.writeSdi_keeps_eq ?_ (by assumption) | refine State.writeSdi_keeps_pair ?_ (by assumption) | refine State.writeMesh_keeps_eq ?_ (by assumption) | refine State.writeMesh_keeps_pair ?_ (by assumption) | refine State.writeTwin_keeps_eq ?_ (by assumption) | refine State.writeTwin_keeps_pair ?_ (by assumption) | refine State.writeTimeBase_keeps_eq ?_ (by assumption) | refine State.writeTimeBase_keeps_pair ?_ (by assumption) | refine State.writeAnc_keeps_eq ?_ (by assumption) | refine State.writeAnc_keeps_pair ?_ (by assumption) | refine State.writePacket_keeps_eq ?_ (by assumption) | refine State.writePacket_keeps_pair ?_ (by assumption) | refine State.writeDestination_keeps_eq ?_ (by assumption) | refine State.writeDestination_keeps_pair ?_ (by assumption) | refine State.writeSwitching_keeps_eq ?_ (by assumption) | refine State.writeSwitching_keeps_pair ?_ (by assumption) | split | intro _ | dsimp only | apply Keeps.rest)) | (refine State.writePacket_keeps_eq ?_ hr; repeat' (with_reducible first | assumption | refine State.writeInterconnect_keeps_eq ?_ (by assumption) | refine State.writeInterconnect_keeps_pair ?_ (by assumption) | refine State.writeFirmware_keeps_eq ?_ (by assumption) | refine State.writeFirmware_keeps_pair ?_ (by assumption) | refine State.writeSession_keeps_eq ?_ (by assumption) | refine State.writeSession_keeps_pair ?_ (by assumption) | refine State.writeLanes_keeps_eq ?_ (by assumption) | refine State.writeLanes_keeps_pair ?_ (by assumption) | refine State.writeAudio_keeps_eq ?_ (by assumption) | refine State.writeAudio_keeps_pair ?_ (by assumption) | refine State.writeFlow_keeps_eq ?_ (by assumption) | refine State.writeFlow_keeps_pair ?_ (by assumption) | refine State.writeComposition_keeps_eq ?_ (by assumption) | refine State.writeComposition_keeps_pair ?_ (by assumption) | refine State.writeSource_keeps_eq ?_ (by assumption) | refine State.writeSource_keeps_pair ?_ (by assumption) | refine State.writeFaults_keeps_eq ?_ (by assumption) | refine State.writeFaults_keeps_pair ?_ (by assumption) | refine State.writePower_keeps_eq ?_ (by assumption) | refine State.writePower_keeps_pair ?_ (by assumption) | refine State.writeTiming_keeps_eq ?_ (by assumption) | refine State.writeTiming_keeps_pair ?_ (by assumption) | refine State.writeSdi_keeps_eq ?_ (by assumption) | refine State.writeSdi_keeps_pair ?_ (by assumption) | refine State.writeMesh_keeps_eq ?_ (by assumption) | refine State.writeMesh_keeps_pair ?_ (by assumption) | refine State.writeTwin_keeps_eq ?_ (by assumption) | refine State.writeTwin_keeps_pair ?_ (by assumption) | refine State.writeTimeBase_keeps_eq ?_ (by assumption) | refine State.writeTimeBase_keeps_pair ?_ (by assumption) | refine State.writeAnc_keeps_eq ?_ (by assumption) | refine State.writeAnc_keeps_pair ?_ (by assumption) | refine State.writePacket_keeps_eq ?_ (by assumption) | refine State.writePacket_keeps_pair ?_ (by assumption) | refine State.writeDestination_keeps_eq ?_ (by assumption) | refine State.writeDestination_keeps_pair ?_ (by assumption) | refine State.writeSwitching_keeps_eq ?_ (by assumption) | refine State.writeSwitching_keeps_pair ?_ (by assumption) | split | intro _ | dsimp only | apply Keeps.rest)) | (refine State.writeDestination_keeps_eq ?_ hr; repeat' (with_reducible first | assumption | refine State.writeInterconnect_keeps_eq ?_ (by assumption) | refine State.writeInterconnect_keeps_pair ?_ (by assumption) | refine State.writeFirmware_keeps_eq ?_ (by assumption) | refine State.writeFirmware_keeps_pair ?_ (by assumption) | refine State.writeSession_keeps_eq ?_ (by assumption) | refine State.writeSession_keeps_pair ?_ (by assumption) | refine State.writeLanes_keeps_eq ?_ (by assumption) | refine State.writeLanes_keeps_pair ?_ (by assumption) | refine State.writeAudio_keeps_eq ?_ (by assumption) | refine State.writeAudio_keeps_pair ?_ (by assumption) | refine State.writeFlow_keeps_eq ?_ (by assumption) | refine State.writeFlow_keeps_pair ?_ (by assumption) | refine State.writeComposition_keeps_eq ?_ (by assumption) | refine State.writeComposition_keeps_pair ?_ (by assumption) | refine State.writeSource_keeps_eq ?_ (by assumption) | refine State.writeSource_keeps_pair ?_ (by assumption) | refine State.writeFaults_keeps_eq ?_ (by assumption) | refine State.writeFaults_keeps_pair ?_ (by assumption) | refine State.writePower_keeps_eq ?_ (by assumption) | refine State.writePower_keeps_pair ?_ (by assumption) | refine State.writeTiming_keeps_eq ?_ (by assumption) | refine State.writeTiming_keeps_pair ?_ (by assumption) | refine State.writeSdi_keeps_eq ?_ (by assumption) | refine State.writeSdi_keeps_pair ?_ (by assumption) | refine State.writeMesh_keeps_eq ?_ (by assumption) | refine State.writeMesh_keeps_pair ?_ (by assumption) | refine State.writeTwin_keeps_eq ?_ (by assumption) | refine State.writeTwin_keeps_pair ?_ (by assumption) | refine State.writeTimeBase_keeps_eq ?_ (by assumption) | refine State.writeTimeBase_keeps_pair ?_ (by assumption) | refine State.writeAnc_keeps_eq ?_ (by assumption) | refine State.writeAnc_keeps_pair ?_ (by assumption) | refine State.writePacket_keeps_eq ?_ (by assumption) | refine State.writePacket_keeps_pair ?_ (by assumption) | refine State.writeDestination_keeps_eq ?_ (by assumption) | refine State.writeDestination_keeps_pair ?_ (by assumption) | refine State.writeSwitching_keeps_eq ?_ (by assumption) | refine State.writeSwitching_keeps_pair ?_ (by assumption) | split | intro _ | dsimp only | apply Keeps.rest)) | (refine State.writeSwitching_keeps_eq ?_ hr; repeat' (with_reducible first | assumption | refine State.writeInterconnect_keeps_eq ?_ (by assumption) | refine State.writeInterconnect_keeps_pair ?_ (by assumption) | refine State.writeFirmware_keeps_eq ?_ (by assumption) | refine State.writeFirmware_keeps_pair ?_ (by assumption) | refine State.writeSession_keeps_eq ?_ (by assumption) | refine State.writeSession_keeps_pair ?_ (by assumption) | refine State.writeLanes_keeps_eq ?_ (by assumption) | refine State.writeLanes_keeps_pair ?_ (by assumption) | refine State.writeAudio_keeps_eq ?_ (by assumption) | refine State.writeAudio_keeps_pair ?_ (by assumption) | refine State.writeFlow_keeps_eq ?_ (by assumption) | refine State.writeFlow_keeps_pair ?_ (by assumption) | refine State.writeComposition_keeps_eq ?_ (by assumption) | refine State.writeComposition_keeps_pair ?_ (by assumption) | refine State.writeSource_keeps_eq ?_ (by assumption) | refine State.writeSource_keeps_pair ?_ (by assumption) | refine State.writeFaults_keeps_eq ?_ (by assumption) | refine State.writeFaults_keeps_pair ?_ (by assumption) | refine State.writePower_keeps_eq ?_ (by assumption) | refine State.writePower_keeps_pair ?_ (by assumption) | refine State.writeTiming_keeps_eq ?_ (by assumption) | refine State.writeTiming_keeps_pair ?_ (by assumption) | refine State.writeSdi_keeps_eq ?_ (by assumption) | refine State.writeSdi_keeps_pair ?_ (by assumption) | refine State.writeMesh_keeps_eq ?_ (by assumption) | refine State.writeMesh_keeps_pair ?_ (by assumption) | refine State.writeTwin_keeps_eq ?_ (by assumption) | refine State.writeTwin_keeps_pair ?_ (by assumption) | refine State.writeTimeBase_keeps_eq ?_ (by assumption) | refine State.writeTimeBase_keeps_pair ?_ (by assumption) | refine State.writeAnc_keeps_eq ?_ (by assumption) | refine State.writeAnc_keeps_pair ?_ (by assumption) | refine State.writePacket_keeps_eq ?_ (by assumption) | refine State.writePacket_keeps_pair ?_ (by assumption) | refine State.writeDestination_keeps_eq ?_ (by assumption) | refine State.writeDestination_keeps_pair ?_ (by assumption) | refine State.writeSwitching_keeps_eq ?_ (by assumption) | refine State.writeSwitching_keeps_pair ?_ (by assumption) | split | intro _ | dsimp only | apply Keeps.rest))
theorem State.familyWrite_keeps_pair {z s s1 : State} {c : Nat} {w : Writer} {ovr : List Nat} {k : Key} {v : Val} (hk : Keeps z s) (hr : State.familyWrite s w ovr k v = some (c, s1)) : Keeps z s1 :=
  State.familyWrite_keeps_eq (r := (c, s1)) hk hr

theorem State.plainWrite_keeps {z s : State} (hk : Keeps z s) (d : Desc) (k : Key) (v : Val) : Keeps z (State.plainWrite s d k v) := by
  unfold State.plainWrite
  try dsimp only
  repeat' (with_reducible first | assumption | apply State.setLater_keeps | apply State.set_keeps | split | intro _ | dsimp only | apply Keeps.rest)

theorem State.applyWrite_keeps {z s : State} (hk : Keeps z s) (w : Writer) (ovr : List Nat) (d : Desc) (k : Key) (v : Val) : Keeps z (State.applyWrite s w ovr d k v).2 := by
  unfold State.applyWrite
  try dsimp only
  repeat' (with_reducible first | assumption | apply State.plainWrite_keeps | refine State.familyWrite_keeps_eq ?_ (by assumption) | refine State.familyWrite_keeps_pair ?_ (by assumption) | split | intro _ | dsimp only | apply Keeps.rest)
theorem State.applyWrite_keeps_eq {z s s1 : State} {c : Nat} {w : Writer} {ovr : List Nat} {d : Desc} {k : Key} {v : Val} (hk : Keeps z s) (hr : State.applyWrite s w ovr d k v = (c, s1)) : Keeps z s1 := by
  have kk := State.applyWrite_keeps (z := z) hk w ovr d k v
  rw [hr] at kk
  exact kk

theorem State.putValue_keeps {z s : State} (hk : Keeps z s) (w : Writer) (ovr : List Nat) (k : Key) (v : Val) : Keeps z (State.putValue s w ovr k v).2 := by
  unfold State.putValue
  try dsimp only
  repeat' (with_reducible first | assumption | apply State.mirror_keeps | apply State.applyWrite_keeps | refine State.applyWrite_keeps_eq ?_ (by assumption) | split | intro _ | dsimp only | apply Keeps.rest)
theorem State.putValue_keeps_eq {z s s1 : State} {c : Nat} {w : Writer} {ovr : List Nat} {k : Key} {v : Val} (hk : Keeps z s) (hr : State.putValue s w ovr k v = (c, s1)) : Keeps z s1 := by
  have kk := State.putValue_keeps (z := z) hk w ovr k v
  rw [hr] at kk
  exact kk

theorem State.writeObject_keeps {z s : State} (hk : Keeps z s) (w : Writer) (ovr : List Nat) (k : Key) (v : Val) : Keeps z (State.writeObject s w ovr k v).2 := by
  unfold State.writeObject
  try dsimp only
  repeat' (with_reducible first | assumption | apply State.putValue_keeps | refine State.putValue_keeps_eq ?_ (by assumption) | split | intro _ | dsimp only | apply Keeps.rest)
theorem State.writeObject_keeps_eq {z s s1 : State} {c : Nat} {w : Writer} {ovr : List Nat} {k : Key} {v : Val} (hk : Keeps z s) (hr : State.writeObject s w ovr k v = (c, s1)) : Keeps z s1 := by
  have kk := State.writeObject_keeps (z := z) hk w ovr k v
  rw [hr] at kk
  exact kk

/-! ## Machine/WriterCommands.lean -/

theorem State.command_keeps {z s : State} (hk : Keeps z s) (w : Writer) (ovr : List Nat) (k : Key) (v : Val) : Keeps z (State.command s w ovr k v) := by
  unfold State.command
  try dsimp only
  repeat' (with_reducible first | assumption | apply State.writeObject_keeps | refine State.writeObject_keeps_eq ?_ (by assumption) | apply State.emit_keeps | apply State.endRekeyed_keeps | split | intro _ | dsimp only | apply Keeps.rest)

/-! ## Machine/Mirroring.lean -/

theorem State.mirrorWrite_keeps {z s : State} (hk : Keeps z s) (k : Key) (v : Val) : Keeps z (State.mirrorWrite s k v) := by
  unfold State.mirrorWrite
  try dsimp only
  repeat' (with_reducible first | assumption | apply State.plainWrite_keeps | apply State.writeObject_keeps | refine State.writeObject_keeps_eq ?_ (by assumption) | split | intro _ | dsimp only | apply Keeps.rest)

theorem State.mirrorPlace_keeps {z s : State} (hk : Keeps z s) (pl : Placement) : Keeps z (State.mirrorPlace s pl).1 := by
  unfold State.mirrorPlace
  try dsimp only
  repeat' (with_reducible first | assumption | apply State.dropTake_keeps | apply State.modTake_keeps | apply keeps_foldl | apply keeps_foldl_fst | apply keeps_foldl_snd | split | intro _ | dsimp only | apply Keeps.rest)
theorem State.mirrorPlace_keeps_eq {z s s1 : State} {c : Nat} {pl : Placement} (hk : Keeps z s) (hr : State.mirrorPlace s pl = (s1, c)) : Keeps z s1 := by
  have kk := State.mirrorPlace_keeps (z := z) hk pl
  rw [hr] at kk
  exact kk

theorem State.skipFrame_keeps {z s : State} (hk : Keeps z s) (d : Dst) : Keeps z (State.skipFrame s d) := by
  unfold State.skipFrame
  try dsimp only
  repeat' (with_reducible first | assumption | split | intro _ | dsimp only | apply Keeps.rest)

theorem State.mirrorArm_keeps {z s : State} (hk : Keeps z s) (num at' : Nat) : Keeps z (State.mirrorArm s num at') := by
  unfold State.mirrorArm
  try dsimp only
  repeat' (with_reducible first | assumption | apply State.skipFrame_keeps | apply State.modTake_keeps | apply State.modPart_keeps | split | intro _ | dsimp only | apply Keeps.rest)

theorem State.mirrorPlacement_keeps {z s : State} (hk : Keeps z s) (pl : Placement) (at' : Nat) : Keeps z (State.mirrorPlacement s pl at') := by
  unfold State.mirrorPlacement
  try dsimp only
  repeat' (with_reducible first | assumption | apply State.mirrorPlace_keeps | refine State.mirrorPlace_keeps_eq ?_ (by assumption) | apply State.mirrorArm_keeps | split | intro _ | dsimp only | apply Keeps.rest)

theorem State.mirrorRelease_keeps {z s : State} (hk : Keeps z s) (dst : Nat) : Keeps z (State.mirrorRelease s dst) := by
  unfold State.mirrorRelease
  try dsimp only
  repeat' (with_reducible first | assumption | apply State.sweep_keeps | apply State.dropTake_keeps | split | intro _ | dsimp only | apply Keeps.rest)

theorem State.mirrorStore_keeps {z s : State} (hk : Keeps z s) (x : StoreRec) (deepens : Option Nat) : Keeps z (State.mirrorStore s x deepens) := by
  unfold State.mirrorStore
  try dsimp only
  repeat' (with_reducible first | assumption | apply State.markDeepening_keeps | split | intro _ | dsimp only | apply Keeps.rest)

theorem State.mirrorPour_keeps {z s : State} (hk : Keeps z s) (slot gen e tb : Nat) : Keeps z (State.mirrorPour s slot gen e tb) := by
  unfold State.mirrorPour
  try dsimp only
  repeat' (with_reducible first | assumption | apply State.setN_keeps | apply State.pourPart_keeps | apply keeps_foldl | apply keeps_foldl_fst | apply keeps_foldl_snd | split | intro _ | dsimp only | apply Keeps.rest)

theorem State.mirrorDrop_keeps {z s : State} (hk : Keeps z s) (slot cause : Nat) : Keeps z (State.mirrorDrop s slot cause) := by
  unfold State.mirrorDrop
  try dsimp only
  repeat' (with_reducible first | assumption | apply State.dropPart_keeps | apply State.setN_keeps | apply keeps_foldl | apply keeps_foldl_fst | apply keeps_foldl_snd | split | intro _ | dsimp only | apply Keeps.rest)

theorem State.mirrorPart_keeps {z s : State} (hk : Keeps z s) (slot gen coord : Nat) (entries : List (TakeEntry × Nat)) : Keeps z (State.mirrorPart s slot gen coord entries) := by
  unfold State.mirrorPart
  try dsimp only
  repeat' (with_reducible first | assumption | apply State.makePart_keeps | split | intro _ | dsimp only | apply Keeps.rest)

theorem State.mirrorRead_keeps {z s : State} (hk : Keeps z s) (d frame : Nat) : Keeps z (State.mirrorRead s d frame) := by
  unfold State.mirrorRead
  try dsimp only
  repeat' (with_reducible first | assumption | apply State.putRead_keeps | split | intro _ | dsimp only | apply Keeps.rest)

theorem State.mirrorTurn_keeps {z s : State} (hk : Keeps z s) (n : Nat) : Keeps z (State.mirrorTurn s n) := by
  unfold State.mirrorTurn
  try dsimp only
  repeat' (with_reducible first | assumption | apply State.putScaler_keeps | split | intro _ | dsimp only | apply Keeps.rest)

theorem State.mirrorStep_keeps {z s : State} (hk : Keeps z s) (tb : Nat) (delta : Int) : Keeps z (State.mirrorStep s tb delta) := by
  unfold State.mirrorStep
  try dsimp only
  repeat' (with_reducible first | assumption | apply State.skipFrame_keeps | apply State.stepTb_keeps | apply keeps_foldl | apply keeps_foldl_fst | apply keeps_foldl_snd | split | intro _ | dsimp only | apply Keeps.rest)

theorem State.mirrorOffset_keeps {z s : State} (hk : Keeps z s) (tb reading : Nat) (pending : Int) : Keeps z (State.mirrorOffset s tb reading pending) := by
  unfold State.mirrorOffset
  try dsimp only
  repeat' (with_reducible first | assumption | apply State.setN_keeps | apply State.setI_keeps | apply State.modTb_keeps | split | intro _ | dsimp only | apply Keeps.rest)

theorem State.mirrorDpll_keeps {z s : State} (hk : Keeps z s) (k : Nat) (freq model : Int) (valid : Bool) : Keeps z (State.mirrorDpll s k freq model valid) := by
  unfold State.mirrorDpll
  try dsimp only
  repeat' (with_reducible first | assumption | apply State.setF_keeps | apply State.setI_keeps | split | intro _ | dsimp only | apply Keeps.rest)

theorem State.mirrorBuffers_keeps {z s : State} (hk : Keeps z s) (layer : Nat) (front back : List Bytes) (palette : Bytes) : Keeps z (State.mirrorBuffers s layer front back palette) := by
  unfold State.mirrorBuffers
  try dsimp only
  repeat' (with_reducible first | assumption | apply State.putImage_keeps | split | intro _ | dsimp only | apply Keeps.rest)

theorem State.followItem_keeps {z s : State} (hk : Keeps z s) (i : MirrorItem) : Keeps z (State.followItem s i) := by
  unfold State.followItem
  try dsimp only
  repeat' (with_reducible first | assumption | apply State.mirrorRead_keeps | apply State.writeImage_keeps | refine State.writeImage_keeps_eq ?_ (by assumption) | apply State.reviewMembers_keeps | apply State.takeAsrc_keeps | apply State.mirrorBuffers_keeps | apply State.mirrorPart_keeps | apply State.mirrorStore_keeps | apply State.mirrorDrop_keeps | apply State.exclude_keeps | apply State.mirrorOffset_keeps | apply State.mirrorStep_keeps | apply State.mirrorPlacement_keeps | apply State.mirrorWrite_keeps | apply State.mirrorRelease_keeps | apply State.mirrorTurn_keeps | apply State.setN_keeps | apply State.mirrorDpll_keeps | apply State.mirrorPour_keeps | split | intro _ | dsimp only | apply Keeps.rest)

theorem State.hearStandby_keeps {z s : State} (hk : Keeps z s) (i : MirrorItem) : Keeps z (State.hearStandby s i) := by
  unfold State.hearStandby
  try dsimp only
  repeat' (with_reducible first | assumption | apply State.beginCatchUp_keeps | apply State.exclude_keeps | split | intro _ | dsimp only | apply Keeps.rest)

theorem State.mirrorItem_keeps {z s : State} (hk : Keeps z s) (seq : Nat) (i : MirrorItem) : Keeps z (State.mirrorItem s seq i) := by
  unfold State.mirrorItem
  try dsimp only
  repeat' (with_reducible first | assumption | apply State.followItem_keeps | apply State.emit_keeps | apply State.hearStandby_keeps | split | intro _ | dsimp only | apply Keeps.rest)

theorem State.discardOwn_keeps {z s : State} (hk : Keeps z s)  : Keeps z (State.discardOwn s) := by
  unfold State.discardOwn
  try dsimp only
  repeat' (with_reducible first | assumption | apply State.reviewLost_keeps | apply State.mirrorWrite_keeps | apply State.sweep_keeps | apply keeps_foldl | apply keeps_foldl_fst | apply keeps_foldl_snd | split | intro _ | dsimp only | apply Keeps.rest)

theorem State.catchUpDone_keeps {z s : State} (hk : Keeps z s)  : Keeps z (State.catchUpDone s) := by
  unfold State.catchUpDone
  try dsimp only
  repeat' (with_reducible first | assumption | apply State.endFault_keeps | apply State.discardOwn_keeps | apply State.setN_keeps | split | intro _ | dsimp only | apply Keeps.rest)

end Sys2Proof.Machine
end

