-- ==== Sys2Proof/Laws/KeepsMessages.lean ====
section
/-! SUPPORT. What each operation on a state keeps (`Keeps`, in Laws/Keeps.lean): bring-up, Odrath messages and what is left. -/

set_option linter.all false

namespace Sys2Proof.Machine

/-! ## Machine/Bringup.lean -/

theorem State.seedDpll_keeps {z s : State} (hk : Keeps z s) (c : CarryRec) : Keeps z (State.seedDpll s c) := by
  unfold State.seedDpll
  try dsimp only
  repeat' (with_reducible first | assumption | apply State.setDpllState_keeps | apply State.setF_keeps | apply State.setI_keeps | split | intro _ | dsimp only | apply Keeps.rest)

theorem State.reapply_keeps {z s : State} (hk : Keeps z s) (k : Key) (v : Val) : Keeps z (State.reapply s k v) := by
  unfold State.reapply
  try dsimp only
  repeat' (with_reducible first | assumption | apply State.applyWrite_keeps | refine State.applyWrite_keeps_eq ?_ (by assumption) | apply State.set_keeps | split | intro _ | dsimp only | apply Keeps.rest)

theorem State.applySettings_keeps {z s : State} (hk : Keeps z s)  : Keeps z (State.applySettings s) := by
  unfold State.applySettings
  try dsimp only
  repeat' (with_reducible first | assumption | apply State.reapply_keeps | apply State.showLevels_keeps | apply keeps_foldl | apply keeps_foldl_fst | apply keeps_foldl_snd | split | intro _ | dsimp only | apply Keeps.rest)

theorem State.lanesAsleep_keeps {z s : State} (hk : Keeps z s)  : Keeps z (State.lanesAsleep s) := by
  unfold State.lanesAsleep
  try dsimp only
  repeat' (with_reducible first | assumption | apply State.setN_keeps | apply keeps_foldl | apply keeps_foldl_fst | apply keeps_foldl_snd | split | intro _ | dsimp only | apply Keeps.rest)

theorem State.phaseLoad_keeps {z s : State} (hk : Keeps z s) (r : PhaseResult) : Keeps z (State.phaseLoad s r) := by
  unfold State.phaseLoad
  try dsimp only
  repeat' (with_reducible first | assumption | apply State.phaseOver_keeps | apply State.applySettings_keeps | apply State.setN_keeps | apply State.seedDpll_keeps | apply State.lanesAsleep_keeps | apply State.putSettings_keeps | apply State.strike_keeps | apply State.set_keeps | apply keeps_foldl | apply keeps_foldl_fst | apply keeps_foldl_snd | split | intro _ | dsimp only | apply Keeps.rest)

theorem State.phaseDone_keeps {z s : State} (hk : Keeps z s) (r : PhaseResult) : Keeps z (State.phaseDone s r) := by
  unfold State.phaseDone
  try dsimp only
  repeat' (with_reducible first | assumption | apply State.phaseHbm_keeps | apply State.phaseOver_keeps | apply State.phaseLanes_keeps | apply State.phaseLoad_keeps | apply State.phaseVerify_keeps | apply State.phaseRom_keeps | apply State.phaseCopy_keeps | split | intro _ | dsimp only | apply Keeps.rest)

theorem State.resumeRoute_keeps {z s : State} (hk : Keeps z s) (dst src mode : Nat) : Keeps z (State.resumeRoute s dst src mode) := by
  unfold State.resumeRoute
  try dsimp only
  repeat' (with_reducible first | assumption | apply State.enqueue_keeps | split | intro _ | dsimp only | apply Keeps.rest)

theorem State.resumeTimed_keeps {z s : State} (hk : Keeps z s) (e : TakeEntry) (inst : Nat) : Keeps z (State.resumeTimed s e inst) := by
  unfold State.resumeTimed
  try dsimp only
  repeat' (with_reducible first | assumption | apply State.enqueue_keeps | apply State.clearSlot_keeps | apply State.setN_keeps | split | intro _ | dsimp only | apply Keeps.rest)

theorem State.resumePart_keeps {z s : State} (hk : Keeps z s) (salvo coord : Nat) (entries : List TakeEntry) : Keeps z (State.resumePart s salvo coord entries) := by
  unfold State.resumePart
  try dsimp only
  repeat' (with_reducible first | assumption | apply State.enqueue_keeps | split | intro _ | dsimp only | apply Keeps.rest)

theorem State.resumeCarry_keeps {z s : State} (hk : Keeps z s)  : Keeps z (State.resumeCarry s) := by
  unfold State.resumeCarry
  try dsimp only
  repeat' (with_reducible first | assumption | apply State.resumeTimed_keeps | apply State.resumeRoute_keeps | apply State.resumePart_keeps | apply State.reviewDones_keeps | apply keeps_foldl | apply keeps_foldl_fst | apply keeps_foldl_snd | split | intro _ | dsimp only | apply Keeps.rest)

theorem State.raiseReady_keeps {z s : State} (hk : Keeps z s)  : Keeps z (State.raiseReady s) := by
  unfold State.raiseReady
  try dsimp only
  repeat' (with_reducible first | assumption | apply State.setN_keeps | apply State.setB_keeps | split | intro _ | dsimp only | apply Keeps.rest)

theorem State.readyFaults_keeps {z s : State} (hk : Keeps z s)  : Keeps z (State.readyFaults s) := by
  unfold State.readyFaults
  try dsimp only
  repeat' (with_reducible first | assumption | apply State.latch_keeps | apply State.setN_keeps | apply State.strike_keeps | apply keeps_foldl | apply keeps_foldl_fst | apply keeps_foldl_snd | split | intro _ | dsimp only | apply Keeps.rest)

theorem State.beginProbation_keeps {z s : State} (hk : Keeps z s)  : Keeps z (State.beginProbation s) := by
  unfold State.beginProbation
  try dsimp only
  repeat' (with_reducible first | assumption | apply State.setN_keeps | split | intro _ | dsimp only | apply Keeps.rest)

theorem State.startNmos_keeps {z s : State} (hk : Keeps z s)  : Keeps z (State.startNmos s) := by
  unfold State.startNmos
  try dsimp only
  repeat' (with_reducible first | assumption | apply State.setN_keeps | split | intro _ | dsimp only | apply Keeps.rest)

theorem State.becomeReady_keeps {z s : State} (hk : Keeps z s)  : Keeps z (State.becomeReady s) := by
  unfold State.becomeReady
  try dsimp only
  repeat' (with_reducible first | assumption | apply State.resumeCarry_keeps | apply State.startNmos_keeps | apply State.reviewSafe_keeps | apply State.raiseReady_keeps | apply State.beginProbation_keeps | apply State.readyFaults_keeps | apply State.claimSide_keeps | split | intro _ | dsimp only | apply Keeps.rest)

/-! ## Machine/Messages.lean -/

theorem State.refuse_keeps {z s : State} (hk : Keeps z s) (tk : Ticket) (code : Nat) : Keeps z (State.refuse s tk code) := by
  unfold State.refuse
  try dsimp only
  repeat' (with_reducible first | assumption | apply State.reply_keeps | split | intro _ | dsimp only | apply Keeps.rest)

theorem State.afterRead_keeps {z s : State} (hk : Keeps z s) (k : Key) : Keeps z (State.afterRead s k) := by
  unfold State.afterRead
  try dsimp only
  repeat' (with_reducible first | assumption | apply State.set_keeps | split | intro _ | dsimp only | apply Keeps.rest)

theorem State.serveRead_keeps {z s : State} (hk : Keeps z s) (tk : Ticket) (describe : Bool) (recs : List Rec) : Keeps z (State.serveRead s tk describe recs) := by
  unfold State.serveRead
  try dsimp only
  repeat' (with_reducible first | assumption | apply State.reply_keeps | apply State.afterRead_keeps | apply keeps_foldl | apply keeps_foldl_fst | apply keeps_foldl_snd | split | intro _ | dsimp only | apply Keeps.rest)

theorem State.writeRec_keeps {z s : State} (hk : Keeps z s) (w : Writer) (ovr : List Nat) (r : Rec) : Keeps z (State.writeRec s w ovr r).2 := by
  unfold State.writeRec
  try dsimp only
  repeat' (with_reducible first | assumption | apply State.putValue_keeps | refine State.putValue_keeps_eq ?_ (by assumption) | split | intro _ | dsimp only | apply Keeps.rest)
theorem State.writeRec_keeps_eq {z s s1 : State} {c : Nat} {w : Writer} {ovr : List Nat} {r : Rec} (hk : Keeps z s) (hr : State.writeRec s w ovr r = (c, s1)) : Keeps z s1 := by
  have kk := State.writeRec_keeps (z := z) hk w ovr r
  rw [hr] at kk
  exact kk

theorem State.writeRecs_keeps {z s : State} (hk : Keeps z s) (w : Writer) (ovr : List Nat) (recs : List Rec) : Keeps z (State.writeRecs s w ovr recs).2 := by
  unfold State.writeRecs
  try dsimp only
  repeat' (with_reducible first | assumption | apply State.writeRec_keeps | refine State.writeRec_keeps_eq ?_ (by assumption) | apply keeps_foldl | apply keeps_foldl_fst | apply keeps_foldl_snd | split | intro _ | dsimp only | apply Keeps.rest)
theorem State.writeRecs_keeps_eq {z s s1 : State} {c : List Nat} {w : Writer} {ovr : List Nat} {recs : List Rec} (hk : Keeps z s) (hr : State.writeRecs s w ovr recs = (c, s1)) : Keeps z s1 := by
  have kk := State.writeRecs_keeps (z := z) hk w ovr recs
  rw [hr] at kk
  exact kk

theorem State.serveWrite_keeps {z s : State} (hk : Keeps z s) (tk : Ticket) (recs : List Rec) : Keeps z (State.serveWrite s tk recs) := by
  unfold State.serveWrite
  try dsimp only
  repeat' (with_reducible first | assumption | apply State.replyMirrored_keeps | apply State.writeRecs_keeps | refine State.writeRecs_keeps_eq ?_ (by assumption) | split | intro _ | dsimp only | apply Keeps.rest)

theorem State.serveTxn_keeps {z s : State} (hk : Keeps z s) (tk : Ticket) (recs : List Rec) : Keeps z (State.serveTxn s tk recs) := by
  unfold State.serveTxn
  try dsimp only
  repeat' (with_reducible first | assumption | apply State.replyMirrored_keeps | apply State.refuse_keeps | apply State.reply_keeps | apply State.writeRecs_keeps | refine State.writeRecs_keeps_eq ?_ (by assumption) | split | intro _ | dsimp only | apply Keeps.rest)

theorem State.showSubs_keeps {z s : State} (hk : Keeps z s) (slot : Nat) : Keeps z (State.showSubs s slot) := by
  unfold State.showSubs
  try dsimp only
  repeat' (with_reducible first | assumption | apply State.setN_keeps | split | intro _ | dsimp only | apply Keeps.rest)

theorem State.subscribe_keeps {z s : State} (hk : Keeps z s) (tk : Ticket) (mode interval fam inst sub : Nat) : Keeps z (State.subscribe s tk mode interval fam inst sub) := by
  unfold State.subscribe
  try dsimp only
  repeat' (with_reducible first | assumption | apply State.showSubs_keeps | apply State.refuse_keeps | apply State.reply_keeps | split | intro _ | dsimp only | apply Keeps.rest)

theorem State.unsubscribe_keeps {z s : State} (hk : Keeps z s) (slot : Nat) (p : Nat → Bool) : Keeps z (State.unsubscribe s slot p) := by
  unfold State.unsubscribe
  try dsimp only
  repeat' (with_reducible first | assumption | apply State.showSubs_keeps | apply State.modSession_keeps | split | intro _ | dsimp only | apply Keeps.rest)

theorem State.serveSubscribe_keeps {z s : State} (hk : Keeps z s) (tk : Ticket) (b : Bytes) : Keeps z (State.serveSubscribe s tk b) := by
  unfold State.serveSubscribe
  try dsimp only
  repeat' (with_reducible first | assumption | apply State.refuse_keeps | apply State.subscribe_keeps | apply State.unsubscribe_keeps | split | intro _ | dsimp only | apply Keeps.rest)

theorem State.fillSlot_keeps {z s : State} (hk : Keeps z s) (slot : Nat) (tk : Ticket) (e : TakeEntry) (inst : Option Nat) (prio : Bool) : Keeps z (State.fillSlot s slot tk e inst prio) := by
  unfold State.fillSlot
  try dsimp only
  repeat' (with_reducible first | assumption | apply State.clearSlot_keeps | apply State.setN_keeps | split | intro _ | dsimp only | apply Keeps.rest)

theorem State.admitTake_keeps {z s : State} (hk : Keeps z s) (tk : Ticket) (slot : Nat) (d : Dst) (e : TakeEntry) (prio : Bool) : Keeps z (State.admitTake s tk slot d e prio) := by
  unfold State.admitTake
  try dsimp only
  repeat' (with_reducible first | assumption | apply State.enqueue_keeps | apply State.fillSlot_keeps | apply State.retryShort_keeps | apply State.breakAway_keeps | apply State.supersede_keeps | split | intro _ | dsimp only | apply Keeps.rest)

theorem State.serveTake_keeps {z s : State} (hk : Keeps z s) (tk : Ticket) (prio : Bool) (b : Bytes) : Keeps z (State.serveTake s tk prio b) := by
  unfold State.serveTake
  try dsimp only
  repeat' (with_reducible first | assumption | apply State.count_keeps | apply State.refuse_keeps | apply State.admitTake_keeps | apply State.noteRefusal_keeps | split | intro _ | dsimp only | apply Keeps.rest)

theorem State.salvoRequest_keeps {z s : State} {tk : Ticket} {b : Bytes} {n : Nat} {f : State → Nat → Nat × State} (hk : Keeps z s)
    (hf : ∀ st k, Keeps z st → Keeps z (f st k).2) : Keeps z (State.salvoRequest s tk b n f) := by
  unfold State.salvoRequest
  dsimp only
  repeat' split
  all_goals first | exact State.refuse_keeps hk _ _ | exact State.replyMirrored_keeps (hf _ _ hk) _ _ _ _

theorem State.servePrepare_keeps {z s : State} (hk : Keeps z s) (tk : Ticket) (b : Bytes) : Keeps z (State.servePrepare s tk b) := by
  unfold State.servePrepare
  try dsimp only
  repeat' (with_reducible first | assumption | apply State.refuse_keeps | apply State.salvoRequest_keeps | apply State.prepareSalvo_keeps | refine State.prepareSalvo_keeps_eq ?_ (by assumption) | split | intro _ | dsimp only | apply Keeps.rest)

theorem State.servePour_keeps {z s : State} (hk : Keeps z s) (tk : Ticket) (b : Bytes) : Keeps z (State.servePour s tk b) := by
  unfold State.servePour
  try dsimp only
  repeat' (with_reducible first | assumption | apply State.salvoRequest_keeps | apply State.askPour_keeps | refine State.askPour_keeps_eq ?_ (by assumption) | split | intro _ | dsimp only | apply Keeps.rest)

theorem State.serveDrop_keeps {z s : State} (hk : Keeps z s) (tk : Ticket) (b : Bytes) : Keeps z (State.serveDrop s tk b) := by
  unfold State.serveDrop
  try dsimp only
  repeat' (with_reducible first | assumption | apply State.askDrop_keeps | refine State.askDrop_keeps_eq ?_ (by assumption) | apply State.salvoRequest_keeps | split | intro _ | dsimp only | apply Keeps.rest)

theorem State.openBulk_keeps {z s : State} (hk : Keeps z s) (tk : Ticket) (k : Key) (write : Bool) (total : Nat) : Keeps z (State.openBulk s tk k write total) := by
  unfold State.openBulk
  try dsimp only
  repeat' (with_reducible first | assumption | apply State.reply_keeps | split | intro _ | dsimp only | apply Keeps.rest)

theorem State.serveBulkOpen_keeps {z s : State} (hk : Keeps z s) (tk : Ticket) (b : Bytes) : Keeps z (State.serveBulkOpen s tk b) := by
  unfold State.serveBulkOpen
  try dsimp only
  repeat' (with_reducible first | assumption | apply State.refuse_keeps | apply State.openBulk_keeps | split | intro _ | dsimp only | apply Keeps.rest)

theorem State.serveBulkChunk_keeps {z s : State} (hk : Keeps z s) (tk : Ticket) (b : Bytes) : Keeps z (State.serveBulkChunk s tk b) := by
  unfold State.serveBulkChunk
  try dsimp only
  repeat' (with_reducible first | assumption | apply State.refuse_keeps | apply State.reply_keeps | split | intro _ | dsimp only | apply Keeps.rest)

theorem State.retire_keeps {z s : State} (hk : Keeps z s) (h : Nat) (committed : Bool) : Keeps z (State.retire s h committed) := by
  unfold State.retire
  try dsimp only
  repeat' (with_reducible first | assumption | split | intro _ | dsimp only | apply Keeps.rest)

theorem State.commitBulk_keeps {z s : State} (hk : Keeps z s) (tk : Ticket) (x : Bulk) (hash : Bytes) : Keeps z (State.commitBulk s tk x hash) := by
  unfold State.commitBulk
  try dsimp only
  repeat' (with_reducible first | assumption | apply State.replyMirrored_keeps | apply State.refuse_keeps | apply State.writeObject_keeps | refine State.writeObject_keeps_eq ?_ (by assumption) | apply State.retire_keeps | split | intro _ | dsimp only | apply Keeps.rest)

theorem State.serveBulkClose_keeps {z s : State} (hk : Keeps z s) (tk : Ticket) (b : Bytes) : Keeps z (State.serveBulkClose s tk b) := by
  unfold State.serveBulkClose
  try dsimp only
  repeat' (with_reducible first | assumption | apply State.refuse_keeps | apply State.commitBulk_keeps | apply State.retire_keeps | split | intro _ | dsimp only | apply Keeps.rest)

theorem State.serve_keeps {z s : State} (hk : Keeps z s) (tk : Ticket) (flags : Nat) (b : Bytes) : Keeps z (State.serve s tk flags b) := by
  unfold State.serve
  try dsimp only
  repeat' (with_reducible first | assumption | apply State.serveBulkChunk_keeps | apply State.serveBulkClose_keeps | apply State.serveTake_keeps | apply State.refuse_keeps | apply State.serveTxn_keeps | apply State.serveBulkOpen_keeps | apply State.servePour_keeps | apply State.serveRead_keeps | apply State.servePrepare_keeps | apply State.serveSubscribe_keeps | apply State.serveDrop_keeps | apply State.serveWrite_keeps | split | intro _ | dsimp only | apply Keeps.rest)

theorem State.forward_keeps {z s : State} (hk : Keeps z s) (tk : Ticket) (raw : Bytes) : Keeps z (State.forward s tk raw) := by
  unfold State.forward
  try dsimp only
  repeat' (with_reducible first | assumption | apply State.count_keeps | apply State.refuse_keeps | apply State.emit_keeps | split | intro _ | dsimp only | apply Keeps.rest)

theorem State.request_keeps {z s : State} (hk : Keeps z s) (tk : Ticket) (raw : Bytes) : Keeps z (State.request s tk raw) := by
  unfold State.request
  try dsimp only
  repeat' (with_reducible first | assumption | apply State.serve_keeps | apply State.refuse_keeps | apply State.endRekeyed_keeps | apply State.forward_keeps | split | intro _ | dsimp only | apply Keeps.rest)

theorem State.showSlot_keeps {z s : State} (hk : Keeps z s) (x : Session) : Keeps z (State.showSlot s x) := by
  unfold State.showSlot
  try dsimp only
  repeat' (with_reducible first | assumption | apply State.setN_keeps | apply State.setB_keeps | split | intro _ | dsimp only | apply Keeps.rest)

theorem State.openSession_keeps_eq {z s : State} {r : State × Session} {role ident : Nat} {key : Bytes} {via : Via} (hk : Keeps z s) (hr : State.openSession s role ident key via = some r) : Keeps z r.1 := by
  unfold State.openSession at hr
  try dsimp only at hr
  repeat' (split at hr)
  all_goals first | (simp only [reduceCtorEq] at hr; done) | (replace hr := Option.some.inj hr; subst hr; (try dsimp only); repeat' (with_reducible first | assumption | apply State.showSessions_keeps | split | intro _ | dsimp only | apply Keeps.rest))
theorem State.openSession_keeps_pair {z s s1 : State} {c : Session} {role ident : Nat} {key : Bytes} {via : Via} (hk : Keeps z s) (hr : State.openSession s role ident key via = some (s1, c)) : Keeps z s1 :=
  State.openSession_keeps_eq (r := (s1, c)) hk hr

theorem State.noteMessage_keeps {z s : State} (hk : Keeps z s) (x : Session) (q : Nat) (via : Via) : Keeps z (State.noteMessage s x q via).1 := by
  unfold State.noteMessage
  try dsimp only
  repeat' (with_reducible first | assumption | apply State.showSlot_keeps | apply State.modSession_keeps | split | intro _ | dsimp only | apply Keeps.rest)
theorem State.noteMessage_keeps_eq {z s s1 : State} {c : Session} {x : Session} {q : Nat} {via : Via} (hk : Keeps z s) (hr : State.noteMessage s x q via = (s1, c)) : Keeps z s1 := by
  have kk := State.noteMessage_keeps (z := z) hk x q via
  rw [hr] at kk
  exact kk

theorem State.repeatReply_keeps_eq {z s : State} {r : State} {x : Session} {q : Nat} {via : Via} (hk : Keeps z s) (hr : State.repeatReply s x q via = some r) : Keeps z r := by
  unfold State.repeatReply at hr
  try dsimp only at hr
  repeat' (split at hr)
  all_goals first | (simp only [reduceCtorEq] at hr; done) | (replace hr := Option.some.inj hr; subst hr; (try dsimp only); repeat' (with_reducible first | assumption | apply State.sendOn_keeps | apply State.showSlot_keeps | apply State.modSession_keeps | split | intro _ | dsimp only | apply Keeps.rest))

theorem State.takeUp_keeps {z s : State} (hk : Keeps z s) (via : Via) (raw key : Bytes) : Keeps z (State.takeUp s via raw key) := by
  unfold State.takeUp
  try dsimp only
  repeat' (with_reducible first | assumption | apply State.request_keeps | apply State.count_keeps | refine State.repeatReply_keeps_eq ?_ (by assumption) | refine State.openSession_keeps_eq ?_ (by assumption) | refine State.openSession_keeps_pair ?_ (by assumption) | apply State.refuse_keeps | apply State.noteMessage_keeps | refine State.noteMessage_keeps_eq ?_ (by assumption) | split | intro _ | dsimp only | apply Keeps.rest)

theorem State.arrive_keeps {z s : State} (hk : Keeps z s) (via : Via) (len : Nat) (raw : Bytes) : Keeps z (State.arrive s via len raw) := by
  unfold State.arrive
  try dsimp only
  repeat' (with_reducible first | assumption | apply State.count_keeps | apply State.refuse_keeps | apply State.takeUp_keeps | split | intro _ | dsimp only | apply Keeps.rest)

theorem State.arriveMesh_keeps {z s : State} (hk : Keeps z s) (chip : Nat) (raw : Bytes) : Keeps z (State.arriveMesh s chip raw) := by
  unfold State.arriveMesh
  try dsimp only
  repeat' (with_reducible first | assumption | apply State.count_keeps | apply State.refuse_keeps | apply State.takeUp_keeps | split | intro _ | dsimp only | apply Keeps.rest)

theorem State.comeBack_keeps {z s : State} (hk : Keeps z s) (raw : Bytes) : Keeps z (State.comeBack s raw) := by
  unfold State.comeBack
  try dsimp only
  repeat' (with_reducible first | assumption | apply State.sendOn_keeps | apply State.reply_keeps | split | intro _ | dsimp only | apply Keeps.rest)

theorem State.spiEvents_keeps {z s : State} (hk : Keeps z s)  : Keeps z (State.spiEvents s) := by
  unfold State.spiEvents
  try dsimp only
  repeat' (with_reducible first | assumption | apply State.flushSub_keeps | apply keeps_foldl | apply keeps_foldl_fst | apply keeps_foldl_snd | split | intro _ | dsimp only | apply Keeps.rest)

theorem State.spiPop_keeps {z s : State} (hk : Keeps z s)  : Keeps z (State.spiPop s) := by
  unfold State.spiPop
  try dsimp only
  repeat' (with_reducible first | assumption | apply State.emit_keeps | split | intro _ | dsimp only | apply Keeps.rest)

/-! ## Machine/MessageCommands.lean -/

theorem State.periodic_keeps {z s : State} (hk : Keeps z s) (u : Sub) (unsent : Nat) : Keeps z (State.periodic s u unsent) := by
  unfold State.periodic
  try dsimp only
  repeat' (with_reducible first | assumption | apply State.sendEvents_keeps | split | intro _ | dsimp only | apply Keeps.rest)

theorem State.spiGivesUp_keeps {z s : State} (hk : Keeps z s) (raw : Bytes) : Keeps z (State.spiGivesUp s raw) := by
  unfold State.spiGivesUp
  try dsimp only
  repeat' (with_reducible first | assumption | apply State.refuse_keeps | split | intro _ | dsimp only | apply Keeps.rest)

theorem State.hearChip_keeps {z s : State} (hk : Keeps z s) (chip : Nat) (f : MeshPeer → MeshPeer) : Keeps z (State.hearChip s chip f) := by
  unfold State.hearChip
  try dsimp only
  repeat' (with_reducible first | assumption | split | intro _ | dsimp only | apply Keeps.rest)

theorem State.hearControl_keeps {z s : State} (hk : Keeps z s) (m : CtlMsg) : Keeps z (State.hearControl s m) := by
  unfold State.hearControl
  try dsimp only
  repeat' (with_reducible first | assumption | apply State.arriveMesh_keeps | apply State.emit_keeps | apply State.comeBack_keeps | apply State.dropPart_keeps | apply State.hearChip_keeps | apply State.coordinate_keeps | apply State.partAnswered_keeps | apply State.routeRefusedHere_keeps | apply State.reviewDones_keeps | apply State.judgeLinks_keeps | apply State.pourPart_keeps | split | intro _ | dsimp only | apply Keeps.rest)

/-! ## Machine/SalvosCommands.lean -/

theorem State.forgetSalvo_keeps {z s : State} (hk : Keeps z s) (slot : Nat) : Keeps z (State.forgetSalvo s slot) := by
  unfold State.forgetSalvo
  try dsimp only
  repeat' (with_reducible first | assumption | apply State.setN_keeps | split | intro _ | dsimp only | apply Keeps.rest)

/-! ## Machine/TwinCommands.lean -/

theorem State.mirrorAcked_keeps {z s : State} (hk : Keeps z s) (seq : Nat) : Keeps z (State.mirrorAcked s seq) := by
  unfold State.mirrorAcked
  try dsimp only
  repeat' (with_reducible first | assumption | apply State.enterLull_keeps | apply State.releaseHeld_keeps | split | intro _ | dsimp only | apply Keeps.rest)

theorem State.twinBeat_keeps {z s : State} (hk : Keeps z s)  : Keeps z (State.twinBeat s) := by
  unfold State.twinBeat
  try dsimp only
  repeat' (with_reducible first | assumption | apply State.tellTwin_keeps | split | intro _ | dsimp only | apply Keeps.rest)

end Sys2Proof.Machine
end

