-- ==== Sys2Proof/Laws/State.lean ====
section
/-! SUPPORT. What each update of the state leaves of each field, and what objects read after it: no later proof unfolds a record
update. -/

namespace Sys2Proof.Machine

/-! ## Fields after updates -/

@[simp] theorem State.set_pending (s : State) (k : Key) (v : Val) : (s.set k v).pending = s.pending := rfl
@[simp] theorem State.set_now (s : State) (k : Key) (v : Val) : (s.set k v).now = s.now := rfl
@[simp] theorem State.set_free (s : State) (k : Key) (v : Val) : (s.set k v).free = s.free := rfl
@[simp] theorem State.set_lag (s : State) (k : Key) (v : Val) : (s.set k v).lag = s.lag := rfl
@[simp] theorem State.set_out (s : State) (k : Key) (v : Val) : (s.set k v).out = s.out := rfl
@[simp] theorem State.set_proto (s : State) (k : Key) (v : Val) : (s.set k v).proto = s.proto := rfl
@[simp] theorem State.set_sw (s : State) (k : Key) (v : Val) : (s.set k v).sw = s.sw := rfl
@[simp] theorem State.set_placer (s : State) (k : Key) (v : Val) : (s.set k v).placer = s.placer := rfl
@[simp] theorem State.set_salvos (s : State) (k : Key) (v : Val) : (s.set k v).salvos = s.salvos := rfl
@[simp] theorem State.set_sdi (s : State) (k : Key) (v : Val) : (s.set k v).sdi = s.sdi := rfl
@[simp] theorem State.set_packet (s : State) (k : Key) (v : Val) : (s.set k v).packet = s.packet := rfl
@[simp] theorem State.set_comp (s : State) (k : Key) (v : Val) : (s.set k v).comp = s.comp := rfl
@[simp] theorem State.set_audio (s : State) (k : Key) (v : Val) : (s.set k v).audio = s.audio := rfl
@[simp] theorem State.set_timing (s : State) (k : Key) (v : Val) : (s.set k v).timing = s.timing := rfl
@[simp] theorem State.set_tbs (s : State) (k : Key) (v : Val) : (s.set k v).tbs = s.tbs := rfl
@[simp] theorem State.set_clocks (s : State) (k : Key) (v : Val) : (s.set k v).clocks = s.clocks := rfl
@[simp] theorem State.set_lanes (s : State) (k : Key) (v : Val) : (s.set k v).lanes = s.lanes := rfl
@[simp] theorem State.set_mesh (s : State) (k : Key) (v : Val) : (s.set k v).mesh = s.mesh := rfl
@[simp] theorem State.set_twin (s : State) (k : Key) (v : Val) : (s.set k v).twin = s.twin := rfl
@[simp] theorem State.set_faults (s : State) (k : Key) (v : Val) : (s.set k v).faults = s.faults := rfl
@[simp] theorem State.set_mem (s : State) (k : Key) (v : Val) : (s.set k v).mem = s.mem := rfl
@[simp] theorem State.set_fw (s : State) (k : Key) (v : Val) : (s.set k v).fw = s.fw := rfl
@[simp] theorem State.set_power (s : State) (k : Key) (v : Val) : (s.set k v).power = s.power := rfl

@[simp] theorem State.setN_pending (s : State) (k : Key) (v : Nat) : (s.setN k v).pending = s.pending := rfl
@[simp] theorem State.setN_now (s : State) (k : Key) (v : Nat) : (s.setN k v).now = s.now := rfl
@[simp] theorem State.setN_free (s : State) (k : Key) (v : Nat) : (s.setN k v).free = s.free := rfl
@[simp] theorem State.setN_lag (s : State) (k : Key) (v : Nat) : (s.setN k v).lag = s.lag := rfl
@[simp] theorem State.setN_out (s : State) (k : Key) (v : Nat) : (s.setN k v).out = s.out := rfl
@[simp] theorem State.setN_proto (s : State) (k : Key) (v : Nat) : (s.setN k v).proto = s.proto := rfl
@[simp] theorem State.setN_sw (s : State) (k : Key) (v : Nat) : (s.setN k v).sw = s.sw := rfl
@[simp] theorem State.setN_placer (s : State) (k : Key) (v : Nat) : (s.setN k v).placer = s.placer := rfl
@[simp] theorem State.setN_salvos (s : State) (k : Key) (v : Nat) : (s.setN k v).salvos = s.salvos := rfl
@[simp] theorem State.setN_sdi (s : State) (k : Key) (v : Nat) : (s.setN k v).sdi = s.sdi := rfl
@[simp] theorem State.setN_packet (s : State) (k : Key) (v : Nat) : (s.setN k v).packet = s.packet := rfl
@[simp] theorem State.setN_comp (s : State) (k : Key) (v : Nat) : (s.setN k v).comp = s.comp := rfl
@[simp] theorem State.setN_audio (s : State) (k : Key) (v : Nat) : (s.setN k v).audio = s.audio := rfl
@[simp] theorem State.setN_timing (s : State) (k : Key) (v : Nat) : (s.setN k v).timing = s.timing := rfl
@[simp] theorem State.setN_tbs (s : State) (k : Key) (v : Nat) : (s.setN k v).tbs = s.tbs := rfl
@[simp] theorem State.setN_clocks (s : State) (k : Key) (v : Nat) : (s.setN k v).clocks = s.clocks := rfl
@[simp] theorem State.setN_lanes (s : State) (k : Key) (v : Nat) : (s.setN k v).lanes = s.lanes := rfl
@[simp] theorem State.setN_mesh (s : State) (k : Key) (v : Nat) : (s.setN k v).mesh = s.mesh := rfl
@[simp] theorem State.setN_twin (s : State) (k : Key) (v : Nat) : (s.setN k v).twin = s.twin := rfl
@[simp] theorem State.setN_faults (s : State) (k : Key) (v : Nat) : (s.setN k v).faults = s.faults := rfl
@[simp] theorem State.setN_mem (s : State) (k : Key) (v : Nat) : (s.setN k v).mem = s.mem := rfl
@[simp] theorem State.setN_fw (s : State) (k : Key) (v : Nat) : (s.setN k v).fw = s.fw := rfl
@[simp] theorem State.setN_power (s : State) (k : Key) (v : Nat) : (s.setN k v).power = s.power := rfl

@[simp] theorem State.setI_pending (s : State) (k : Key) (v : Int) : (s.setI k v).pending = s.pending := rfl
@[simp] theorem State.setI_now (s : State) (k : Key) (v : Int) : (s.setI k v).now = s.now := rfl
@[simp] theorem State.setI_free (s : State) (k : Key) (v : Int) : (s.setI k v).free = s.free := rfl
@[simp] theorem State.setI_lag (s : State) (k : Key) (v : Int) : (s.setI k v).lag = s.lag := rfl
@[simp] theorem State.setI_out (s : State) (k : Key) (v : Int) : (s.setI k v).out = s.out := rfl
@[simp] theorem State.setI_proto (s : State) (k : Key) (v : Int) : (s.setI k v).proto = s.proto := rfl
@[simp] theorem State.setI_sw (s : State) (k : Key) (v : Int) : (s.setI k v).sw = s.sw := rfl
@[simp] theorem State.setI_placer (s : State) (k : Key) (v : Int) : (s.setI k v).placer = s.placer := rfl
@[simp] theorem State.setI_salvos (s : State) (k : Key) (v : Int) : (s.setI k v).salvos = s.salvos := rfl
@[simp] theorem State.setI_sdi (s : State) (k : Key) (v : Int) : (s.setI k v).sdi = s.sdi := rfl
@[simp] theorem State.setI_packet (s : State) (k : Key) (v : Int) : (s.setI k v).packet = s.packet := rfl
@[simp] theorem State.setI_comp (s : State) (k : Key) (v : Int) : (s.setI k v).comp = s.comp := rfl
@[simp] theorem State.setI_audio (s : State) (k : Key) (v : Int) : (s.setI k v).audio = s.audio := rfl
@[simp] theorem State.setI_timing (s : State) (k : Key) (v : Int) : (s.setI k v).timing = s.timing := rfl
@[simp] theorem State.setI_tbs (s : State) (k : Key) (v : Int) : (s.setI k v).tbs = s.tbs := rfl
@[simp] theorem State.setI_clocks (s : State) (k : Key) (v : Int) : (s.setI k v).clocks = s.clocks := rfl
@[simp] theorem State.setI_lanes (s : State) (k : Key) (v : Int) : (s.setI k v).lanes = s.lanes := rfl
@[simp] theorem State.setI_mesh (s : State) (k : Key) (v : Int) : (s.setI k v).mesh = s.mesh := rfl
@[simp] theorem State.setI_twin (s : State) (k : Key) (v : Int) : (s.setI k v).twin = s.twin := rfl
@[simp] theorem State.setI_faults (s : State) (k : Key) (v : Int) : (s.setI k v).faults = s.faults := rfl
@[simp] theorem State.setI_mem (s : State) (k : Key) (v : Int) : (s.setI k v).mem = s.mem := rfl
@[simp] theorem State.setI_fw (s : State) (k : Key) (v : Int) : (s.setI k v).fw = s.fw := rfl
@[simp] theorem State.setI_power (s : State) (k : Key) (v : Int) : (s.setI k v).power = s.power := rfl

@[simp] theorem State.setB_pending (s : State) (k : Key) (v : Bytes) : (s.setB k v).pending = s.pending := rfl
@[simp] theorem State.setB_now (s : State) (k : Key) (v : Bytes) : (s.setB k v).now = s.now := rfl
@[simp] theorem State.setB_free (s : State) (k : Key) (v : Bytes) : (s.setB k v).free = s.free := rfl
@[simp] theorem State.setB_lag (s : State) (k : Key) (v : Bytes) : (s.setB k v).lag = s.lag := rfl
@[simp] theorem State.setB_out (s : State) (k : Key) (v : Bytes) : (s.setB k v).out = s.out := rfl
@[simp] theorem State.setB_proto (s : State) (k : Key) (v : Bytes) : (s.setB k v).proto = s.proto := rfl
@[simp] theorem State.setB_sw (s : State) (k : Key) (v : Bytes) : (s.setB k v).sw = s.sw := rfl
@[simp] theorem State.setB_placer (s : State) (k : Key) (v : Bytes) : (s.setB k v).placer = s.placer := rfl
@[simp] theorem State.setB_salvos (s : State) (k : Key) (v : Bytes) : (s.setB k v).salvos = s.salvos := rfl
@[simp] theorem State.setB_sdi (s : State) (k : Key) (v : Bytes) : (s.setB k v).sdi = s.sdi := rfl
@[simp] theorem State.setB_packet (s : State) (k : Key) (v : Bytes) : (s.setB k v).packet = s.packet := rfl
@[simp] theorem State.setB_comp (s : State) (k : Key) (v : Bytes) : (s.setB k v).comp = s.comp := rfl
@[simp] theorem State.setB_audio (s : State) (k : Key) (v : Bytes) : (s.setB k v).audio = s.audio := rfl
@[simp] theorem State.setB_timing (s : State) (k : Key) (v : Bytes) : (s.setB k v).timing = s.timing := rfl
@[simp] theorem State.setB_tbs (s : State) (k : Key) (v : Bytes) : (s.setB k v).tbs = s.tbs := rfl
@[simp] theorem State.setB_clocks (s : State) (k : Key) (v : Bytes) : (s.setB k v).clocks = s.clocks := rfl
@[simp] theorem State.setB_lanes (s : State) (k : Key) (v : Bytes) : (s.setB k v).lanes = s.lanes := rfl
@[simp] theorem State.setB_mesh (s : State) (k : Key) (v : Bytes) : (s.setB k v).mesh = s.mesh := rfl
@[simp] theorem State.setB_twin (s : State) (k : Key) (v : Bytes) : (s.setB k v).twin = s.twin := rfl
@[simp] theorem State.setB_faults (s : State) (k : Key) (v : Bytes) : (s.setB k v).faults = s.faults := rfl
@[simp] theorem State.setB_mem (s : State) (k : Key) (v : Bytes) : (s.setB k v).mem = s.mem := rfl
@[simp] theorem State.setB_fw (s : State) (k : Key) (v : Bytes) : (s.setB k v).fw = s.fw := rfl
@[simp] theorem State.setB_power (s : State) (k : Key) (v : Bytes) : (s.setB k v).power = s.power := rfl

@[simp] theorem State.setF_pending (s : State) (k : Key) (v : Bool) : (s.setF k v).pending = s.pending := rfl
@[simp] theorem State.setF_now (s : State) (k : Key) (v : Bool) : (s.setF k v).now = s.now := rfl
@[simp] theorem State.setF_free (s : State) (k : Key) (v : Bool) : (s.setF k v).free = s.free := rfl
@[simp] theorem State.setF_lag (s : State) (k : Key) (v : Bool) : (s.setF k v).lag = s.lag := rfl
@[simp] theorem State.setF_out (s : State) (k : Key) (v : Bool) : (s.setF k v).out = s.out := rfl
@[simp] theorem State.setF_proto (s : State) (k : Key) (v : Bool) : (s.setF k v).proto = s.proto := rfl
@[simp] theorem State.setF_sw (s : State) (k : Key) (v : Bool) : (s.setF k v).sw = s.sw := rfl
@[simp] theorem State.setF_placer (s : State) (k : Key) (v : Bool) : (s.setF k v).placer = s.placer := rfl
@[simp] theorem State.setF_salvos (s : State) (k : Key) (v : Bool) : (s.setF k v).salvos = s.salvos := rfl
@[simp] theorem State.setF_sdi (s : State) (k : Key) (v : Bool) : (s.setF k v).sdi = s.sdi := rfl
@[simp] theorem State.setF_packet (s : State) (k : Key) (v : Bool) : (s.setF k v).packet = s.packet := rfl
@[simp] theorem State.setF_comp (s : State) (k : Key) (v : Bool) : (s.setF k v).comp = s.comp := rfl
@[simp] theorem State.setF_audio (s : State) (k : Key) (v : Bool) : (s.setF k v).audio = s.audio := rfl
@[simp] theorem State.setF_timing (s : State) (k : Key) (v : Bool) : (s.setF k v).timing = s.timing := rfl
@[simp] theorem State.setF_tbs (s : State) (k : Key) (v : Bool) : (s.setF k v).tbs = s.tbs := rfl
@[simp] theorem State.setF_clocks (s : State) (k : Key) (v : Bool) : (s.setF k v).clocks = s.clocks := rfl
@[simp] theorem State.setF_lanes (s : State) (k : Key) (v : Bool) : (s.setF k v).lanes = s.lanes := rfl
@[simp] theorem State.setF_mesh (s : State) (k : Key) (v : Bool) : (s.setF k v).mesh = s.mesh := rfl
@[simp] theorem State.setF_twin (s : State) (k : Key) (v : Bool) : (s.setF k v).twin = s.twin := rfl
@[simp] theorem State.setF_faults (s : State) (k : Key) (v : Bool) : (s.setF k v).faults = s.faults := rfl
@[simp] theorem State.setF_mem (s : State) (k : Key) (v : Bool) : (s.setF k v).mem = s.mem := rfl
@[simp] theorem State.setF_fw (s : State) (k : Key) (v : Bool) : (s.setF k v).fw = s.fw := rfl
@[simp] theorem State.setF_power (s : State) (k : Key) (v : Bool) : (s.setF k v).power = s.power := rfl

@[simp] theorem State.setBit_pending (s : State) (k : Key) (i : Nat) (v : Bool) : (s.setBit k i v).pending = s.pending := rfl
@[simp] theorem State.setBit_now (s : State) (k : Key) (i : Nat) (v : Bool) : (s.setBit k i v).now = s.now := rfl
@[simp] theorem State.setBit_free (s : State) (k : Key) (i : Nat) (v : Bool) : (s.setBit k i v).free = s.free := rfl
@[simp] theorem State.setBit_lag (s : State) (k : Key) (i : Nat) (v : Bool) : (s.setBit k i v).lag = s.lag := rfl
@[simp] theorem State.setBit_out (s : State) (k : Key) (i : Nat) (v : Bool) : (s.setBit k i v).out = s.out := rfl
@[simp] theorem State.setBit_proto (s : State) (k : Key) (i : Nat) (v : Bool) : (s.setBit k i v).proto = s.proto := rfl
@[simp] theorem State.setBit_sw (s : State) (k : Key) (i : Nat) (v : Bool) : (s.setBit k i v).sw = s.sw := rfl
@[simp] theorem State.setBit_placer (s : State) (k : Key) (i : Nat) (v : Bool) : (s.setBit k i v).placer = s.placer := rfl
@[simp] theorem State.setBit_salvos (s : State) (k : Key) (i : Nat) (v : Bool) : (s.setBit k i v).salvos = s.salvos := rfl
@[simp] theorem State.setBit_sdi (s : State) (k : Key) (i : Nat) (v : Bool) : (s.setBit k i v).sdi = s.sdi := rfl
@[simp] theorem State.setBit_packet (s : State) (k : Key) (i : Nat) (v : Bool) : (s.setBit k i v).packet = s.packet := rfl
@[simp] theorem State.setBit_comp (s : State) (k : Key) (i : Nat) (v : Bool) : (s.setBit k i v).comp = s.comp := rfl
@[simp] theorem State.setBit_audio (s : State) (k : Key) (i : Nat) (v : Bool) : (s.setBit k i v).audio = s.audio := rfl
@[simp] theorem State.setBit_timing (s : State) (k : Key) (i : Nat) (v : Bool) : (s.setBit k i v).timing = s.timing := rfl
@[simp] theorem State.setBit_tbs (s : State) (k : Key) (i : Nat) (v : Bool) : (s.setBit k i v).tbs = s.tbs := rfl
@[simp] theorem State.setBit_clocks (s : State) (k : Key) (i : Nat) (v : Bool) : (s.setBit k i v).clocks = s.clocks := rfl
@[simp] theorem State.setBit_lanes (s : State) (k : Key) (i : Nat) (v : Bool) : (s.setBit k i v).lanes = s.lanes := rfl
@[simp] theorem State.setBit_mesh (s : State) (k : Key) (i : Nat) (v : Bool) : (s.setBit k i v).mesh = s.mesh := rfl
@[simp] theorem State.setBit_twin (s : State) (k : Key) (i : Nat) (v : Bool) : (s.setBit k i v).twin = s.twin := rfl
@[simp] theorem State.setBit_faults (s : State) (k : Key) (i : Nat) (v : Bool) : (s.setBit k i v).faults = s.faults := rfl
@[simp] theorem State.setBit_mem (s : State) (k : Key) (i : Nat) (v : Bool) : (s.setBit k i v).mem = s.mem := rfl
@[simp] theorem State.setBit_fw (s : State) (k : Key) (i : Nat) (v : Bool) : (s.setBit k i v).fw = s.fw := rfl
@[simp] theorem State.setBit_power (s : State) (k : Key) (i : Nat) (v : Bool) : (s.setBit k i v).power = s.power := rfl

@[simp] theorem State.setLater_pending (s : State) (k : Key) (v : Val) : (s.setLater k v).pending = s.pending := rfl
@[simp] theorem State.setLater_now (s : State) (k : Key) (v : Val) : (s.setLater k v).now = s.now := rfl
@[simp] theorem State.setLater_free (s : State) (k : Key) (v : Val) : (s.setLater k v).free = s.free := rfl
@[simp] theorem State.setLater_out (s : State) (k : Key) (v : Val) : (s.setLater k v).out = s.out := rfl
@[simp] theorem State.setLater_proto (s : State) (k : Key) (v : Val) : (s.setLater k v).proto = s.proto := rfl
@[simp] theorem State.setLater_sw (s : State) (k : Key) (v : Val) : (s.setLater k v).sw = s.sw := rfl
@[simp] theorem State.setLater_placer (s : State) (k : Key) (v : Val) : (s.setLater k v).placer = s.placer := rfl
@[simp] theorem State.setLater_salvos (s : State) (k : Key) (v : Val) : (s.setLater k v).salvos = s.salvos := rfl
@[simp] theorem State.setLater_sdi (s : State) (k : Key) (v : Val) : (s.setLater k v).sdi = s.sdi := rfl
@[simp] theorem State.setLater_packet (s : State) (k : Key) (v : Val) : (s.setLater k v).packet = s.packet := rfl
@[simp] theorem State.setLater_comp (s : State) (k : Key) (v : Val) : (s.setLater k v).comp = s.comp := rfl
@[simp] theorem State.setLater_audio (s : State) (k : Key) (v : Val) : (s.setLater k v).audio = s.audio := rfl
@[simp] theorem State.setLater_timing (s : State) (k : Key) (v : Val) : (s.setLater k v).timing = s.timing := rfl
@[simp] theorem State.setLater_tbs (s : State) (k : Key) (v : Val) : (s.setLater k v).tbs = s.tbs := rfl
@[simp] theorem State.setLater_clocks (s : State) (k : Key) (v : Val) : (s.setLater k v).clocks = s.clocks := rfl
@[simp] theorem State.setLater_lanes (s : State) (k : Key) (v : Val) : (s.setLater k v).lanes = s.lanes := rfl
@[simp] theorem State.setLater_mesh (s : State) (k : Key) (v : Val) : (s.setLater k v).mesh = s.mesh := rfl
@[simp] theorem State.setLater_twin (s : State) (k : Key) (v : Val) : (s.setLater k v).twin = s.twin := rfl
@[simp] theorem State.setLater_faults (s : State) (k : Key) (v : Val) : (s.setLater k v).faults = s.faults := rfl
@[simp] theorem State.setLater_mem (s : State) (k : Key) (v : Val) : (s.setLater k v).mem = s.mem := rfl
@[simp] theorem State.setLater_fw (s : State) (k : Key) (v : Val) : (s.setLater k v).fw = s.fw := rfl
@[simp] theorem State.setLater_power (s : State) (k : Key) (v : Val) : (s.setLater k v).power = s.power := rfl

@[simp] theorem State.count_pending (s : State) (k : Key) (n w : Nat) : (s.count k n w).pending = s.pending := rfl
@[simp] theorem State.count_now (s : State) (k : Key) (n w : Nat) : (s.count k n w).now = s.now := rfl
@[simp] theorem State.count_free (s : State) (k : Key) (n w : Nat) : (s.count k n w).free = s.free := rfl
@[simp] theorem State.count_lag (s : State) (k : Key) (n w : Nat) : (s.count k n w).lag = s.lag := rfl
@[simp] theorem State.count_out (s : State) (k : Key) (n w : Nat) : (s.count k n w).out = s.out := rfl
@[simp] theorem State.count_proto (s : State) (k : Key) (n w : Nat) : (s.count k n w).proto = s.proto := rfl
@[simp] theorem State.count_sw (s : State) (k : Key) (n w : Nat) : (s.count k n w).sw = s.sw := rfl
@[simp] theorem State.count_placer (s : State) (k : Key) (n w : Nat) : (s.count k n w).placer = s.placer := rfl
@[simp] theorem State.count_salvos (s : State) (k : Key) (n w : Nat) : (s.count k n w).salvos = s.salvos := rfl
@[simp] theorem State.count_sdi (s : State) (k : Key) (n w : Nat) : (s.count k n w).sdi = s.sdi := rfl
@[simp] theorem State.count_packet (s : State) (k : Key) (n w : Nat) : (s.count k n w).packet = s.packet := rfl
@[simp] theorem State.count_comp (s : State) (k : Key) (n w : Nat) : (s.count k n w).comp = s.comp := rfl
@[simp] theorem State.count_audio (s : State) (k : Key) (n w : Nat) : (s.count k n w).audio = s.audio := rfl
@[simp] theorem State.count_timing (s : State) (k : Key) (n w : Nat) : (s.count k n w).timing = s.timing := rfl
@[simp] theorem State.count_tbs (s : State) (k : Key) (n w : Nat) : (s.count k n w).tbs = s.tbs := rfl
@[simp] theorem State.count_clocks (s : State) (k : Key) (n w : Nat) : (s.count k n w).clocks = s.clocks := rfl
@[simp] theorem State.count_lanes (s : State) (k : Key) (n w : Nat) : (s.count k n w).lanes = s.lanes := rfl
@[simp] theorem State.count_mesh (s : State) (k : Key) (n w : Nat) : (s.count k n w).mesh = s.mesh := rfl
@[simp] theorem State.count_twin (s : State) (k : Key) (n w : Nat) : (s.count k n w).twin = s.twin := rfl
@[simp] theorem State.count_faults (s : State) (k : Key) (n w : Nat) : (s.count k n w).faults = s.faults := rfl
@[simp] theorem State.count_mem (s : State) (k : Key) (n w : Nat) : (s.count k n w).mem = s.mem := rfl
@[simp] theorem State.count_fw (s : State) (k : Key) (n w : Nat) : (s.count k n w).fw = s.fw := rfl
@[simp] theorem State.count_power (s : State) (k : Key) (n w : Nat) : (s.count k n w).power = s.power := rfl

@[simp] theorem State.takeEffect_pending (s : State) (p : Key → Bool) : (s.takeEffect p).pending = s.pending := rfl
@[simp] theorem State.takeEffect_now (s : State) (p : Key → Bool) : (s.takeEffect p).now = s.now := rfl
@[simp] theorem State.takeEffect_free (s : State) (p : Key → Bool) : (s.takeEffect p).free = s.free := rfl
@[simp] theorem State.takeEffect_objs (s : State) (p : Key → Bool) : (s.takeEffect p).objs = s.objs := rfl
@[simp] theorem State.takeEffect_out (s : State) (p : Key → Bool) : (s.takeEffect p).out = s.out := rfl
@[simp] theorem State.takeEffect_proto (s : State) (p : Key → Bool) : (s.takeEffect p).proto = s.proto := rfl
@[simp] theorem State.takeEffect_sw (s : State) (p : Key → Bool) : (s.takeEffect p).sw = s.sw := rfl
@[simp] theorem State.takeEffect_placer (s : State) (p : Key → Bool) : (s.takeEffect p).placer = s.placer := rfl
@[simp] theorem State.takeEffect_salvos (s : State) (p : Key → Bool) : (s.takeEffect p).salvos = s.salvos := rfl
@[simp] theorem State.takeEffect_sdi (s : State) (p : Key → Bool) : (s.takeEffect p).sdi = s.sdi := rfl
@[simp] theorem State.takeEffect_packet (s : State) (p : Key → Bool) : (s.takeEffect p).packet = s.packet := rfl
@[simp] theorem State.takeEffect_comp (s : State) (p : Key → Bool) : (s.takeEffect p).comp = s.comp := rfl
@[simp] theorem State.takeEffect_audio (s : State) (p : Key → Bool) : (s.takeEffect p).audio = s.audio := rfl
@[simp] theorem State.takeEffect_timing (s : State) (p : Key → Bool) : (s.takeEffect p).timing = s.timing := rfl
@[simp] theorem State.takeEffect_tbs (s : State) (p : Key → Bool) : (s.takeEffect p).tbs = s.tbs := rfl
@[simp] theorem State.takeEffect_clocks (s : State) (p : Key → Bool) : (s.takeEffect p).clocks = s.clocks := rfl
@[simp] theorem State.takeEffect_lanes (s : State) (p : Key → Bool) : (s.takeEffect p).lanes = s.lanes := rfl
@[simp] theorem State.takeEffect_mesh (s : State) (p : Key → Bool) : (s.takeEffect p).mesh = s.mesh := rfl
@[simp] theorem State.takeEffect_twin (s : State) (p : Key → Bool) : (s.takeEffect p).twin = s.twin := rfl
@[simp] theorem State.takeEffect_faults (s : State) (p : Key → Bool) : (s.takeEffect p).faults = s.faults := rfl
@[simp] theorem State.takeEffect_mem (s : State) (p : Key → Bool) : (s.takeEffect p).mem = s.mem := rfl
@[simp] theorem State.takeEffect_fw (s : State) (p : Key → Bool) : (s.takeEffect p).fw = s.fw := rfl
@[simp] theorem State.takeEffect_power (s : State) (p : Key → Bool) : (s.takeEffect p).power = s.power := rfl

@[simp] theorem State.emit_pending (s : State) (o : Out) : (s.emit o).pending = s.pending := rfl
@[simp] theorem State.emit_now (s : State) (o : Out) : (s.emit o).now = s.now := rfl
@[simp] theorem State.emit_free (s : State) (o : Out) : (s.emit o).free = s.free := rfl
@[simp] theorem State.emit_objs (s : State) (o : Out) : (s.emit o).objs = s.objs := rfl
@[simp] theorem State.emit_lag (s : State) (o : Out) : (s.emit o).lag = s.lag := rfl
@[simp] theorem State.emit_proto (s : State) (o : Out) : (s.emit o).proto = s.proto := rfl
@[simp] theorem State.emit_sw (s : State) (o : Out) : (s.emit o).sw = s.sw := rfl
@[simp] theorem State.emit_placer (s : State) (o : Out) : (s.emit o).placer = s.placer := rfl
@[simp] theorem State.emit_salvos (s : State) (o : Out) : (s.emit o).salvos = s.salvos := rfl
@[simp] theorem State.emit_sdi (s : State) (o : Out) : (s.emit o).sdi = s.sdi := rfl
@[simp] theorem State.emit_packet (s : State) (o : Out) : (s.emit o).packet = s.packet := rfl
@[simp] theorem State.emit_comp (s : State) (o : Out) : (s.emit o).comp = s.comp := rfl
@[simp] theorem State.emit_audio (s : State) (o : Out) : (s.emit o).audio = s.audio := rfl
@[simp] theorem State.emit_timing (s : State) (o : Out) : (s.emit o).timing = s.timing := rfl
@[simp] theorem State.emit_tbs (s : State) (o : Out) : (s.emit o).tbs = s.tbs := rfl
@[simp] theorem State.emit_clocks (s : State) (o : Out) : (s.emit o).clocks = s.clocks := rfl
@[simp] theorem State.emit_lanes (s : State) (o : Out) : (s.emit o).lanes = s.lanes := rfl
@[simp] theorem State.emit_mesh (s : State) (o : Out) : (s.emit o).mesh = s.mesh := rfl
@[simp] theorem State.emit_twin (s : State) (o : Out) : (s.emit o).twin = s.twin := rfl
@[simp] theorem State.emit_faults (s : State) (o : Out) : (s.emit o).faults = s.faults := rfl
@[simp] theorem State.emit_mem (s : State) (o : Out) : (s.emit o).mem = s.mem := rfl
@[simp] theorem State.emit_fw (s : State) (o : Out) : (s.emit o).fw = s.fw := rfl
@[simp] theorem State.emit_power (s : State) (o : Out) : (s.emit o).power = s.power := rfl

@[simp] theorem State.advance_pending (s : State) (t : Nat) : (s.advance t).pending = s.pending := rfl
@[simp] theorem State.advance_objs (s : State) (t : Nat) : (s.advance t).objs = s.objs := rfl
@[simp] theorem State.advance_lag (s : State) (t : Nat) : (s.advance t).lag = s.lag := rfl
@[simp] theorem State.advance_out (s : State) (t : Nat) : (s.advance t).out = s.out := rfl
@[simp] theorem State.advance_proto (s : State) (t : Nat) : (s.advance t).proto = s.proto := rfl
@[simp] theorem State.advance_sw (s : State) (t : Nat) : (s.advance t).sw = s.sw := rfl
@[simp] theorem State.advance_placer (s : State) (t : Nat) : (s.advance t).placer = s.placer := rfl
@[simp] theorem State.advance_salvos (s : State) (t : Nat) : (s.advance t).salvos = s.salvos := rfl
@[simp] theorem State.advance_sdi (s : State) (t : Nat) : (s.advance t).sdi = s.sdi := rfl
@[simp] theorem State.advance_packet (s : State) (t : Nat) : (s.advance t).packet = s.packet := rfl
@[simp] theorem State.advance_comp (s : State) (t : Nat) : (s.advance t).comp = s.comp := rfl
@[simp] theorem State.advance_audio (s : State) (t : Nat) : (s.advance t).audio = s.audio := rfl
@[simp] theorem State.advance_timing (s : State) (t : Nat) : (s.advance t).timing = s.timing := rfl
@[simp] theorem State.advance_tbs (s : State) (t : Nat) : (s.advance t).tbs = s.tbs := rfl
@[simp] theorem State.advance_clocks (s : State) (t : Nat) : (s.advance t).clocks = s.clocks := rfl
@[simp] theorem State.advance_lanes (s : State) (t : Nat) : (s.advance t).lanes = s.lanes := rfl
@[simp] theorem State.advance_mesh (s : State) (t : Nat) : (s.advance t).mesh = s.mesh := rfl
@[simp] theorem State.advance_twin (s : State) (t : Nat) : (s.advance t).twin = s.twin := rfl
@[simp] theorem State.advance_faults (s : State) (t : Nat) : (s.advance t).faults = s.faults := rfl
@[simp] theorem State.advance_mem (s : State) (t : Nat) : (s.advance t).mem = s.mem := rfl
@[simp] theorem State.advance_fw (s : State) (t : Nat) : (s.advance t).fw = s.fw := rfl
@[simp] theorem State.advance_power (s : State) (t : Nat) : (s.advance t).power = s.power := rfl

@[simp] theorem State.advance_now (s : State) (t : Nat) : (s.advance t).now = max s.now t := rfl
@[simp] theorem State.advance_free (s : State) (t : Nat) : (s.advance t).free = s.free + 1 := rfl
@[simp] theorem State.emit_out (s : State) (o : Out) : (s.emit o).out = s.out ++ [o] := rfl

/-! ## Objects after updates -/

@[simp] theorem State.get_advance (s : State) (t : Nat) (k : Key) : (s.advance t).get k = s.get k := rfl
@[simp] theorem State.nat_advance (s : State) (t : Nat) (k : Key) : (s.advance t).nat k = s.nat k := rfl
@[simp] theorem State.get_emit (s : State) (o : Out) (k : Key) : (s.emit o).get k = s.get k := rfl
@[simp] theorem State.nat_emit (s : State) (o : Out) (k : Key) : (s.emit o).nat k = s.nat k := rfl

theorem State.nat_set (s : State) (k k' : Key) (v : Val) :
    (s.set k v).nat k' = if k' = k then v.int.toNat else s.nat k' := by
  unfold State.nat; rw [State.get_set]; split <;> rfl

theorem State.nat_setN (s : State) (k k' : Key) (v : Nat) : (s.setN k v).nat k' = if k' = k then v else s.nat k' := by
  rw [State.setN, State.nat_set]; split <;> rfl

theorem State.int_set (s : State) (k k' : Key) (v : Val) : (s.set k v).int k' = if k' = k then v.int else s.int k' := by
  unfold State.int; rw [State.get_set]; split <;> rfl

theorem State.oct_set (s : State) (k k' : Key) (v : Val) : (s.set k v).oct k' = if k' = k then v.oct else s.oct k' := by
  unfold State.oct; rw [State.get_set]; split <;> rfl

@[simp] theorem State.nat_setN_same (s : State) (k : Key) (v : Nat) : (s.setN k v).nat k = v := by
  rw [State.nat_setN]; simp

theorem State.nat_setN_other (s : State) {k k' : Key} (v : Nat) (h : k' ≠ k) : (s.setN k v).nat k' = s.nat k' := by
  rw [State.nat_setN, if_neg h]

end Sys2Proof.Machine
end

