-- ==== Sys2Proof/Laws/Writes.lean ====
section
/-! SUPPORT. What a command of one object does, by the verdict of its checks: the lemmas that statements about such commands cite
instead of unfolding the write path (R37, R60, R61, R538). -/

namespace Sys2Proof.Machine

/-- Every command's meaning ends so: its own effect, closed. -/
theorem done_closed (s u : State) : done s u = .next (s.closed u) := rfl

/-! ## The mirror item of an accepted write -/

/-- A mirror item changes what has left the chip and the account of the link, and nothing else. -/
theorem State.sentOn_eq (s : State) (k : Key) (v : Val) :
    s.sentOn k v = { s with out := (s.sentOn k v).out, twin := (s.sentOn k v).twin } := by
  unfold State.sentOn State.mirror
  split
  · split
    · rfl
    · rfl
  · rfl

@[simp] theorem State.sentOn_get (s : State) (k k' : Key) (v : Val) : (s.sentOn k v).get k' = s.get k' := by
  rw [State.sentOn_eq]; rfl

@[simp] theorem State.sentOn_nat (s : State) (k k' : Key) (v : Val) : (s.sentOn k v).nat k' = s.nat k' := by
  rw [State.sentOn_eq]; rfl

@[simp] theorem State.sentOn_int (s : State) (k k' : Key) (v : Val) : (s.sentOn k v).int k' = s.int k' := by
  rw [State.sentOn_eq]; rfl

@[simp] theorem State.sentOn_oct (s : State) (k k' : Key) (v : Val) : (s.sentOn k v).oct k' = s.oct k' := by
  rw [State.sentOn_eq]; rfl

@[simp] theorem State.sentOn_flag (s : State) (k k' : Key) (v : Val) : (s.sentOn k v).flag k' = s.flag k' := by
  rw [State.sentOn_eq]; rfl

theorem State.sentOn_keeps (s : State) (k : Key) (v : Val) : Keeps s (s.sentOn k v) := by
  rw [State.sentOn_eq]; exact Keeps.refl s

/-! ## Accepted and refused writes -/

/-- An object record that the checks let through. -/
theorem State.admits_parts {s : State} {w : Writer} {k : Key} {v : Val} (h : s.admits w k v = true) :
    s.ready = true ∧ s.judgeWrite w k = 0 ∧ (s.lockedHere k = false ∨ w.slot = 0) ∧
      ∃ d, descOf k = some d ∧ (tyFits d.ty v && d.rng.holds v) = true ∧ ¬(d.acc = .rwi ∧ (!s.unitIdle k) = true) := by
  unfold State.admits at h
  cases hd : descOf k with
  | none => simp [hd] at h
  | some d =>
    simp only [hd, Bool.and_eq_true, Bool.or_eq_true, Bool.not_eq_true', beq_iff_eq, Bool.and_eq_false_iff] at h
    obtain ⟨⟨⟨h1, h2⟩, h3⟩, ⟨h4, h5⟩, h6⟩ := h
    refine ⟨h1, h2, h3, d, rfl, by simp [h4, h5], ?_⟩
    rintro ⟨ha, hb⟩
    rcases h6 with h6 | h6
    · simp [ha] at h6
    · simp [h6] at hb

/-- An accepted write whose family accepts the value: it takes effect after its mirror item, and is granted. -/
theorem State.command_granted {s : State} {w : Writer} {ovr : List Nat} {k : Key} {v : Val} {d : Desc} (h : s.admits w k v = true)
    (hd : descOf k = some d) (hc : (s.applyWrite w ovr d k v).1 = 0) :
    s.command w ovr k v = (((s.sentOn k v).applyWrite w ovr d k v).2).granted k := by
  obtain ⟨h1, h2, h3, d', hd', h4, h5⟩ := State.admits_parts h
  rw [hd] at hd'; cases hd'
  have hl : ¬(s.lockedHere k = true ∧ w.slot ≠ 0) := by
    rintro ⟨ha, hb⟩; rcases h3 with h3 | h3
    · simp [h3] at ha
    · exact hb h3
  have hp : s.putValue w ovr k v = (0, ((s.sentOn k v).applyWrite w ovr d k v).2) := by
    unfold State.putValue
    simp only [hd]
    rw [if_neg (by simpa using h4), if_neg h5]
    unfold State.sentOn
    cases hr : s.applyWrite w ovr d k v with
    | mk c s1 =>
      have : c = 0 := by simpa [hr] using hc
      subst this
      by_cases hg : s.writeGoesOn k = true
      · simp only [hg, if_true]
      · simp [hg, hr]
  have ho : s.writeObject w ovr k v = (0, ((s.sentOn k v).applyWrite w ovr d k v).2) := by
    unfold State.writeObject
    simp only [h2]
    rw [if_neg hl, hp]
  unfold State.command State.granted
  rw [if_pos h1]
  simp only [ho]

/-- A write that a rule of its object's family accepts: the rule's effect, after the mirror item. -/
theorem State.command_family {s : State} {w : Writer} {ovr : List Nat} {k : Key} {v : Val} {f : State → Nat × State}
    (h : s.admits w k v = true) (hf : ∀ st : State, st.objs = s.objs → st.power = s.power →
      st.familyWrite w ovr k v = some (f st)) (hc : (f s).1 = 0) :
    s.command w ovr k v = ((f (s.sentOn k v)).2).granted k := by
  obtain ⟨_, _, _, d, hd, _, _⟩ := State.admits_parts h
  have h1 : s.applyWrite w ovr d k v = f s := by
    unfold State.applyWrite; rw [hf s rfl rfl]
  have h2 : (s.sentOn k v).applyWrite w ovr d k v = f (s.sentOn k v) := by
    unfold State.applyWrite; rw [hf _ (by rw [State.sentOn_eq]) (by rw [State.sentOn_eq])]
  rw [State.command_granted h hd (by rw [h1]; exact hc), h2]

/-- A write without a rule of its own: the object is set, at once or by its takes-effect rule. -/
theorem State.command_plain {s : State} {w : Writer} {ovr : List Nat} {k : Key} {v : Val} {d : Desc} (h : s.admits w k v = true)
    (hd : descOf k = some d) (hf : ∀ st : State, st.objs = s.objs → st.power = s.power → st.familyWrite w ovr k v = none) :
    s.command w ovr k v = ((s.sentOn k v).plainWrite d k v).granted k := by
  have h1 : s.applyWrite w ovr d k v = (0, s.plainWrite d k v) := by
    unfold State.applyWrite; rw [hf s rfl rfl]
  have h2 : (s.sentOn k v).applyWrite w ovr d k v = (0, (s.sentOn k v).plainWrite d k v) := by
    unfold State.applyWrite; rw [hf _ (by rw [State.sentOn_eq]) (by rw [State.sentOn_eq])]
  rw [State.command_granted h hd (by rw [h1]), h2]

/-- A write whose checks or whose rule refuse it leaves the state as it was, but for the index that a refused take list leaves. -/
theorem State.command_refused {s : State} {w : Writer} {ovr : List Nat} {k : Key} {v : Val} (hr : s.ready = true)
    (hk : ¬(k.fam = 0x3300 ∧ k.sub = 0x03)) (hc : (s.writeObject w ovr k v).1 ≠ 0) :
    s.command w ovr k v = (s.emit (.result k (s.writeObject w ovr k v).1)).endRekeyed := by
  have h2 : (s.writeObject w ovr k v).2 = s := by
    revert hc
    unfold State.writeObject
    split
    · split
      · simp
      · unfold State.putValue
        cases descOf k with
        | none => simp
        | some d =>
          dsimp only
          split
          · simp
          · split
            · simp
            · split
              · split <;> simp
              · simp
    · simp
  unfold State.command
  rw [if_pos hr]
  dsimp only
  rw [h2]

end Sys2Proof.Machine
end

