-- ==== Sys2Proof/WellFormed.lean ====
section
/-! DEFINITION. When a command is well formed: a message is of the type, flags and form of its row (Tables 2.5 to 2.11), a writer holds
a role and a session slot (R36, R54), and a unit that an event names exists (Tables 1.5 to 1.7, 17.11, R2). The meanings do not ask for
it: they judge what reaches them by the rules. -/

namespace Sys2Proof

open Machine (field bit)

/-- The bytes of a message of a type and of a flag's value: at least a header (Table 2.5). -/
def isMessage (typ : Nat) (raw : Bytes) : Bool := decide (32 ≤ raw.length) && field raw 4 1 == typ

/-- A message of a type whose body holds a byte at an offset. -/
def isForm (typ off v : Nat) (raw : Bytes) : Bool :=
  isMessage typ raw && decide (32 + off < raw.length) && field raw (32 + off) 1 == v

/-- A writer of one object: a role, and an open session's slot (R36, R54). -/
def Writer.wellFormed (w : Writer) : Bool := decide (w.role ≤ 4) && decide (1 ≤ w.slot) && decide (w.slot ≤ 64) && w.session != 0

/-- A destination index of its essence (Tables 1.5 to 1.7). -/
def Dst.wellFormed (d : Dst) : Bool :=
  match d.ess with | .video => d.idx < 4096 | .audio => d.idx < 63520 | .anc => d.idx < 4096 | .timing => false

/-- A flow's family and instance (Table 9.1). -/
def isFlow (fam inst : Nat) : Bool := (fam == 0x3700 && 2048 ≤ inst) || (fam == 0x7000 && 4096 ≤ inst)

/-- The 6000h instance of a bank (Table 17.11). -/
def isBank (b : Nat) : Bool := (1 ≤ b && b ≤ 2048) || (4096 ≤ b && b ≤ 4143)

/-- A lane, or a port. -/
def isLane (l : Nat) : Bool := l < 1024

/-- The operands of a command name what its row is about. -/
def Instr.wellFormed : Instr → Bool
  | .read _ _ raw => isMessage 0x01 raw && !bit (field raw 5 1) 3
  | .readDescribe _ _ raw => isMessage 0x01 raw && bit (field raw 5 1) 3
  | .write _ _ raw => isMessage 0x02 raw
  | .writeTxn _ _ raw => isMessage 0x03 raw
  | .genericObjectWrite _ w _ _ => w.wellFormed
  | .subscribeAdd _ _ raw => isForm 0x04 0 1 raw
  | .subscribeRemove _ _ raw => isForm 0x04 0 2 raw
  | .subscribeRemoveAll _ _ raw => isForm 0x04 0 3 raw
  | .eventInterval _ slot sub => 1 ≤ slot && slot ≤ 64 && 1 ≤ sub
  | .periodicReport _ slot sub _ => 1 ≤ slot && slot ≤ 64 && 1 ≤ sub
  | .take _ _ raw => isMessage 0x06 raw && !bit (field raw 5 1) 1
  | .priorityTake _ _ raw => isMessage 0x06 raw && bit (field raw 5 1) 1
  | .salvoPrepare _ _ raw => isMessage 0x07 raw
  | .salvoPour _ _ raw => isMessage 0x08 raw
  | .salvoDrop _ _ raw => isMessage 0x09 raw
  | .bulkOpen _ _ raw => isMessage 0x0A raw
  | .bulkChunk _ _ raw => isMessage 0x0B raw
  | .bulkClose _ _ raw => isForm 0x0C 2 0 raw
  | .bulkAbort _ _ raw => isForm 0x0C 2 1 raw
  | .bulkHandleTimeout _ handle => 1 ≤ handle && handle ≤ 65535
  | .spiSendMessage _ len raw => raw.length ≤ len
  | .spiFetch _ => true
  | .spiWaitTimeout _ _ => true
  | .sessionIdleTimeout _ slot => 1 ≤ slot && slot ≤ 64
  | .sessionClose _ w slot => w.wellFormed && 1 ≤ slot && slot ≤ 64
  | .keyWrite _ w role key => w.wellFormed && decide (role ≤ 3) && key.length == 32
  | .takeCancel _ w slot => w.wellFormed && 1 ≤ slot && slot ≤ 4096
  | .placerTaskStart _ => true
  | .placementComplete _ => true
  | .timedTakeArm _ slot => slot ≤ 4096
  | .storePrimed _ store => store < 2048
  | .switchInstant _ d => d.wellFormed
  | .takeListWrite _ w slot _ => w.wellFormed && 1 ≤ slot && slot ≤ 256
  | .salvoRelease _ w slot => w.wellFormed && 1 ≤ slot && slot ≤ 256
  | .salvoPartArrival _ _ slot _ _ => 1 ≤ slot && slot ≤ 256
  | .salvoPartReport _ slot _ _ _ => 1 ≤ slot && slot ≤ 256
  | .pourInstant _ slot => 1 ≤ slot && slot ≤ 256
  | .pourDecisionAck _ slot => 1 ≤ slot && slot ≤ 256
  | .pourAckTimeout _ slot => 1 ≤ slot && slot ≤ 256
  | .pourNotice _ _ slot _ tb => 1 ≤ slot && slot ≤ 256 && tb < 4
  | .salvoPartDone _ slot _ _ => 1 ≤ slot && slot ≤ 256
  | .salvoDropNotice _ _ slot => 1 ≤ slot && slot ≤ 256
  | .salvoMemberQuery _ _ slot => 1 ≤ slot && slot ≤ 256
  | .salvoOrphan _ _ slot => 1 ≤ slot && slot ≤ 256
  | .crossChipReserve _ _ _ _ _ _ _ => true
  | .reserveConfirm _ _ _ _ => true
  | .reserveTimeout _ _ _ => true
  | .hintEnable _ w inst _ => w.wellFormed && 1 ≤ inst
  | .reoptimise _ w => w.wellFormed
  | .sourceFrameStart _ x _ => x < 4096
  | .sourceAbsent _ x => x < 4096
  | .storeReadInstant _ d => d < 3072
  | .storeDeepenReady _ store => store < 2048
  | .recircWrite _ w x _ => w.wellFormed && 3200 ≤ x && x < 4096
  | .linePlayout _ d _ _ => d < 3072
  | .fabricCellError _ plane i o _ _ d => plane < 32 && i < 16 && o < 16 && d < 4096
  | .hbmWordError _ stack _ _ use _ => stack < 4 && use < 3
  | .hbmScrubPeriod _ stack => stack < 4
  | .sdiLaneLocked _ p _ => isLane p
  | .sdiFormatDetected _ p _ => isLane p
  | .sdiLossOfSignal _ p => isLane p
  | .sdiCheckError _ p kind => isLane p && kind < 4
  | .ancPacketExtract _ p _ => isLane p
  | .ancPacketInsert _ slot _ _ => slot < 2048
  | .ethLinkChange _ p _ => isLane p
  | .addressResolveTimeout _ fam inst leg => isFlow fam inst && leg < 2
  | .flowEnable _ w fam inst _ => w.wellFormed && isFlow fam inst
  | .groupEnable _ w inst _ => w.wellFormed && 2048 ≤ inst && inst < 6144
  | .audioChannelsWrite _ w inst _ => w.wellFormed && isFlow 0x3700 inst
  | .packetLaunch _ iface _ => iface < 1026
  | .rxPacket _ fam inst leg _ => isFlow fam inst && leg < 2
  | .mergeLostDeclare _ fam inst _ => isFlow fam inst
  | .frameRelease _ g => g < 2048
  | .standaloneRelease _ fam inst _ => isFlow fam inst
  | .legDown _ fam inst leg => isFlow fam inst && leg < 2
  | .mergeSkewCheck _ fam inst => isFlow fam inst
  | .mcastQuery _ p _ _ => isLane p
  | .unsolicitedReport _ fam inst leg => isFlow fam inst && leg < 2
  | .leaveHoldExpiry _ fam inst => isFlow fam inst
  | .mcastCompatEnter _ p _ => isLane p
  | .mcastCompatExpiry _ p _ => isLane p
  | .is05Activation _ fam inst legs _ => isFlow fam inst && decide (legs.length ≤ 2)
  | .is05ScheduledActivation _ fam inst => isFlow fam inst
  | .headClassWrite _ w head _ => w.wellFormed && head < 64
  | .headPortBind _ w head _ => w.wellFormed && head < 64
  | .headReadInstant _ head => head < 64
  | .scalerFrameWrite _ n => n < 1024
  | .scalerPairWrite _ w n _ => w.wellFormed && n < 1024
  | .layerCommit _ w l => w.wellFormed && l < 2048
  | .flipPoint _ head => head < 64
  | .commitTimeout _ g => g < 256
  | .fenceRaise _ w _ _ => w.wellFormed
  | .fenceReset _ w _ => w.wellFormed
  | .groupJoin _ w l _ => w.wellFormed && l < 2048
  | .groupCommit _ w _ => w.wellFormed
  | .layerClaim _ w l => w.wellFormed && l < 2048
  | .layerToRenderer _ w l => w.wellFormed && l < 2048
  | .layerRelease _ w l => w.wellFormed && l < 2048
  | .imageWrite _ w l _ => w.wellFormed && l < 2048
  | .elementsWrite _ w l _ => w.wellFormed && l < 2048
  | .rendererRedraw _ l _ => l < 2048
  | .mirrorImageAck _ l => l < 2048
  | .mirrorFlipAlone _ l => l < 2048
  | .audioClassChange _ d => d < 63520
  | .audioSlip _ d => d < 63520
  | .audioLevelWrite _ w d sub _ => w.wellFormed && d < 63520 && 3 ≤ sub && sub ≤ 5
  | .audioDelayWrite _ w d _ => w.wellFormed && d < 63520
  | .tdmFrameStart _ dir _ => 1 ≤ dir && dir ≤ 64
  | .sapRateMeasure _ dir _ _ => 1 ≤ dir && dir ≤ 64
  | .sapClockLost _ dir => 1 ≤ dir && dir ≤ 64
  | .sapFsReturn _ dir => 1 ≤ dir && dir ≤ 64
  | .startArm _ w => w.wellFormed
  | .startDisarm _ w => w.wellFormed
  | .startTrigEdge _ _ => true
  | .startAtInstant _ => true
  | .sapRunWrite _ w dir _ => w.wellFormed && 1 ≤ dir && dir ≤ 64
  | .asrcRelock _ ch => ch < 2048
  | .aesLock _ n _ _ => n < 16
  | .aesBlockComplete _ x block _ _ _ => x < 63520 && block.length == 24
  | .aesLos _ n => n < 16
  | .loudnessEnable _ w _ _ => w.wellFormed
  | .loudnessUpdate _ _ _ => true
  | .loudnessReset _ w _ => w.wellFormed
  | .refPhaseSample _ e _ _ _ => e < 16
  | .refActivityLost _ e => e < 16
  | .refQualified _ e => e < 16
  | .refEvaluation _ means => means.length == 16
  | .selectorRun _ k => k < 4
  | .buildoutComplete _ k _ => k < 4
  | .dpllLocked _ k _ => k < 4
  | .forceEntryWrite _ w k _ => w.wellFormed && k < 4
  | .dpllModeWrite _ w k sub _ => w.wellFormed && k < 4 && sub ≤ 4
  | .steerWrite _ w k _ => w.wellFormed && k < 4
  | .xoLoss _ => true
  | .xoReturn _ => true
  | .dpllFreerunCheck _ k => k < 4
  | .epochArm _ w k => w.wellFormed && k < 4
  | .epochDisarm _ w k => w.wellFormed && k < 4
  | .outputEpoch _ k => k < 4
  | .ckoEnable _ w _ => w.wellFormed
  | .ckoDisable _ w _ => w.wellFormed
  | .phaseOffsetWrite _ w _ _ => w.wellFormed
  | .swpEnable _ w _ _ => w.wellFormed
  | .ptpMessageRx _ port _ => 1 ≤ port && port ≤ 1025
  | .ptpMessageTx _ port _ => 1 ≤ port && port ≤ 1025
  | .announceTimeout _ port => 1 ≤ port && port ≤ 1025
  | .ptpNoMasterCheck _ tb => tb < 4
  | .jumpAccept _ w tb => w.wellFormed && tb < 4
  | .jumpWithdraw _ w tb => w.wellFormed && tb < 4
  | .stepInstant _ tb => tb < 4
  | .timeSet _ w tb _ _ => w.wellFormed && tb < 4
  | .launchRequest _ w _ => w.wellFormed
  | .tsQueueRelease _ w tb _ => w.wellFormed && tb < 4
  | .tsOverflowClear _ w tb => w.wellFormed && tb < 4
  | .portKindWrite _ w p _ => w.wellFormed && isLane p
  | .laneSetActive _ w l => w.wellFormed && isLane l
  | .laneSetIdle _ w l => w.wellFormed && isLane l
  | .laneSetDormant _ w l => w.wellFormed && isLane l
  | .laneExitDone _ l => isLane l
  | .laneUnlock _ l => isLane l
  | .laneCodeError _ l _ => isLane l
  | .lrefLoss _ tile => tile < 16
  | .lrefRelock _ tile => tile < 16
  | .txpllUnlock _ tile pll => tile < 16 && pll < 2
  | .refMismatchCheck _ l _ => isLane l
  | .eqRestart _ w l => w.wellFormed && isLane l
  | .laneTestStart _ w l => w.wellFormed && isLane l
  | .laneTestStop _ w l => w.wellFormed && isLane l
  | .laneTestFinish _ w l => w.wellFormed && isLane l
  | .laneTestDurationEnd _ l => isLane l
  | .checkerLock _ l _ _ _ => isLane l
  | .injectSingle _ w l => w.wellFormed && isLane l
  | .injectBurst _ w l _ => w.wellFormed && isLane l
  | .meshLinkAdmin _ w l _ => w.wellFormed && isLane l
  | .meshAligned _ l => isLane l
  | .trainingAnnounce _ l => isLane l
  | .trainingSetRx _ l _ => isLane l
  | .meshLinkUp _ l => isLane l
  | .meshLinkDown _ l _ => isLane l
  | .meshCellRx _ l _ cls _ _ => isLane l && cls < 2
  | .creditReturn _ l cls _ => isLane l && cls < 2
  | .creditTimeout _ l cls => isLane l && cls < 2
  | .meshControlMessage _ l _ _ => isLane l
  | .meshHeartbeat _ => true
  | .linkListFlood _ => true
  | .chipLost _ chip => chip < 1000
  | .planWrite _ w _ => w.wellFormed
  | .planReceived _ _ => true
  | .domainAdmission _ => true
  | .headElection _ _ _ => true
  | .headPriorityHold _ _ _ => true
  | .twinHandshake _ _ => true
  | .twinHandshakeTimeout _ => true
  | .twinHeartbeat _ => true
  | .twinLaneDown _ n => n < 4
  | .twinLinkDown _ => true
  | .primaryDeath _ => true
  | .safeStateNoticeRx _ => true
  | .powerFailNoticeRx _ => true
  | .mirrorItemRx _ _ _ => true
  | .mirrorAck _ _ => true
  | .catchUpComplete _ => true
  | .signatureCompare _ f => f.dst < 3072
  | .backgroundBist _ kind _ _ => kind == 2 || kind == 3
  | .backgroundLoopback _ l _ => isLane l
  | .handoverRequest _ _ => true
  | .handoverAbort _ w => w.wellFormed
  | .handoverCommit _ => true
  | .handoverDone _ => true
  | .takeback _ => true
  | .pfWarnings _ _ _ => true
  | .faultLatch _ x _ _ => x < 2176
  | .blockResetDone _ x => x < 2176
  | .faultConditionEnd _ x => x < 2176
  | .faultClear _ w x => w.wellFormed && x < 2176
  | .faultClearAll _ w => w.wellFormed
  | .autoClearWrite _ w x _ => w.wellFormed && x < 2176
  | .reactionsWrite _ w x _ => w.wellFormed && x < 2176
  | .firstRecordRearm _ w => w.wellFormed
  | .faultTreeSelfCheck _ _ => true
  | .unitInclude _ w _ => w.wellFormed
  | .injectArm _ w => w.wellFormed
  | .injectDisarm _ w => w.wellFormed
  | .bankIdleTimer _ bank => isBank bank
  | .bankWake _ bank => isBank bank
  | .bankWakeDone _ bank => isBank bank
  | .sramWordError _ bank _ _ _ => isBank bank
  | .bankScrub _ bank => isBank bank
  | .icRequest _ target reqs => reqs.all (fun r => r.target == target)
  | .icResponse _ _ _ => true
  | .icTimeout _ _ => true
  | .icLockOpen _ _ _ _ => true
  | .icLockCut _ _ => true
  | .icPriorityWrite _ w _ _ => w.wellFormed
  | .offerManifest _ w _ => w.wellFormed
  | .partWrite _ w part _ => w.wellFormed && part < 6
  | .caddyDiscard _ w => w.wellFormed
  | .copyAbort _ w => w.wellFormed
  | .keyRevoke _ w slot => w.wellFormed && slot < 4
  | .activationWrite _ w _ => w.wellFormed
  | .activationPrepareRx _ _ _ _ _ => true
  | .activationReportRx _ _ _ => true
  | .activationReportDeadline _ => true
  | .activationAbort _ w => w.wellFormed
  | .activationInstant _ => true
  | .probationEnd _ => true
  | .carryOverAppend _ => true
  | .carryOverRegionSwitch _ => true
  | .voltageLoopPeriod _ die => die < 2
  | .paceMonitorWindow _ tile _ => tile < 16
  | .paceMarginTimeout _ die => die < 2
  | .regulatorPoll _ die _ _ _ => die < 2
  | .railMonitorTrip _ rail _ _ => rail < 13
  | .brownoutEnd _ rail _ => rail < 13
  | .brownoutRingWrite _ => true
  | .pwrgdFall _ => true
  | .resetNLow _ => true
  | .bringupStart _ => true
  | .bringupPhaseDone _ _ => true
  | .bringupOverrun _ => true
  | .bringupReady _ => true
  | .restartHandover _ w => w.wellFormed
  | .restartNow _ w => w.wellFormed
  | .restartWithCopy _ w => w.wellFormed
  | .lullEnter _ w => w.wellFormed
  | .lullWakeWrite _ w => w.wellFormed
  | .wakeNFall _ _ => true
  | .lullWakeDone _ => true
  | .lullWakeLate _ => true
  | .undervoltTrip _ die _ => die < 2
  | .jtagExtest _ => true
  | .tapReset _ => true
  | .arpNdEchoFrameRx _ p _ => isLane p
  | .nmosRegistration _ _ => true
  | .asrcAcquired _ ch _ => ch < 2048
  | .txpllRelock _ tile pll => tile < 16 && pll < 2
  | .twinLaneUp _ n => n < 4
  | .salvoRetentionExpiry _ slot => 1 ≤ slot && slot ≤ 256
  | .refreshModeChange _ stack _ => stack < 4

end Sys2Proof
end

