-- ==== Sys2Proof/Tests/Slice0.lean ====
section
/-! SUPPORT. The tests of the model: values that the spec works out, the smoke test of the checks of WellFormed, the commands
that write one object and the messages in a state that accepts each, and for every statement the states and operands that meet
the hypotheses of each of its clauses. -/

namespace Sys2Proof.Tests

open Sys2Proof Sys2Proof.Machine

set_option Elab.async false

/-! ## States and operands on which the tests are built -/

/-- The state right after reset, on which the witnesses are built. -/
def Z : State := State.reset
/-- A Maintainer's session, and an Operator's. -/
def W1 : Writer := ⟨3, 1, 1⟩
def W2 : Writer := ⟨1, 2, 2⟩
/-- The chip at Ready. -/
def rdy (s : State) : State := { s with power := { s.power with ready := true } }
def sby (s : State) : State := s.setN O.id_pair_role 1
def prm (s : State) : State := s.setN O.id_pair_role 0
def safeOn (s : State) : State := s.setN O.fault_safe_state 1
def via0 : Via := ⟨.mgt0, [], 0⟩
def tk0 : Ticket := ⟨via0, 1, 3, 1, 1, 1023, false, [], 1⟩
def ses0 : Session := ⟨1, 3, 1, [], via0, 0, [], [], [], 0, [], 0⟩
def pl0 : Placement := ⟨0, 0, 1, none, [], [], [], 0, 0⟩
def rt0 : Route := ⟨⟨.video, 0⟩, pl0, [], false, false⟩
def tr0 : TakeRec := ⟨1, 1, ⟨.video, 0⟩, 0, 0, false, false, none, none, none, 2, none, none, none⟩
def te0 : TakeEntry := ⟨0, 0, 0, 0, 0, 0⟩
def sv0 : Salvo := ⟨1, 1, false, 0, 0, 10, 0, 0, [], none, []⟩
def pt0 : Part := ⟨0, 1, 1, [], [], 1, []⟩
def st0 : StoreRec := ⟨0, 1, 0, 0, 1, 0, 0, 2, [(1, 0)], 1, none, 0, 0, [], none⟩
def sap0 : SapRec := ⟨1, some 0, some 0, 0, 0, 0, false, [], 0⟩
def rx0 : RxFlow := ⟨0x3700, 8192, none, [], [], [], none, none, none, false, false, [], none⟩
def pk0 : RxPacket := ⟨0, 0, [], 0, [], 96, 0, 0, 0, false, true, 0⟩
def hello0 : TwinHello := ⟨[], 0, [], 1, [], 1, 0, 0, true, [], 15, 0⟩
def frame0 : SigFrame := ⟨0, 1, 1, [], [], false, false, false⟩
def det0 : SdiDetect := ⟨1, 1, 0, none, false, 0, 0, false, 0⟩
def anc0 : AncPacket := ⟨0x41, 1, 0, 10, 0, 0, 5, true⟩
def sub0 : Sub := ⟨1, 1, 1, 100, 0x1000, 0, 1, 0⟩
def bulk0 : Bulk := ⟨1, 1, ⟨0x1000, 0, 1⟩, true, 1, [(0, [1])], 0⟩
def manifest0 : Bytes := []
def act0 : Activation := ⟨0, [], false, 0, 0⟩
/-- The chip with its power good, out of reset. -/
def upp (s : State) : State := { s with power := { s.power with pwrgd := true, resetN := true } }
/-- A plan of one pair in one group. -/
def plan0 : Bytes := beBytes 4 1 ++ beBytes 2 1 ++ beBytes 2 1 ++ (beBytes 2 0 ++ beBytes 2 1 ++ beBytes 16 5 ++ beBytes 16 6 ++ zeros 4) ++
  (beBytes 2 1 ++ beBytes 2 65535 ++ [1, 0, 0, 0])
/-- The state that an outcome goes on to. -/
def after (o : Host.Outcome State Fault Refusal) : State := match o with | .next t => t | _ => Z
/-- The twin link up and a fit standby heard. -/
def fitTwin (s : State) : State := { s.setN O.twin_twin_link 15 with twin := { s.twin with report := some ⟨true, false, []⟩ } }

/-- A manifest of five parts of one byte each, signed in key slot 0 (private key 1, nonce 1). -/
def manBody : Bytes := beBytes 4 0x47454D46 ++ beBytes 2 1 ++ beBytes 2 5 ++ beBytes 4 7 ++ zeros 10 ++ beBytes 2 0 ++ beBytes 2 1 ++
  beBytes 2 1 ++ beBytes 2 1 ++ beBytes 2 1 ++ beBytes 2 1 ++ zeros 2 ++ [65, 49] ++ beBytes 4 1 ++ beBytes 4 9 ++
  ([1, 2, 3, 4, 5].map (fun p => beBytes 4 (p * 16777216) ++ beBytes 4 7 ++ beBytes 4 1 ++ zeros 4 ++ sha384 [8])).flatten ++
  zeros 4 ++ ([4] ++ beBytes 48 p384G.1 ++ beBytes 48 p384G.2)
def man0 : Bytes := manBody ++ beBytes 48 (p384G.1 % p384N) ++ beBytes 48 ((beNat (sha384 manBody) + p384G.1) % p384N)
def manKey : Bytes := [4] ++ beBytes 48 p384G.1 ++ beBytes 48 p384G.2
def man0M : Manifest := (manifestOf man0).get (by decide +kernel)
/-- An activation of one pair at second 11 of time base 0, refused by none of the layout's rules. -/
def actW (pair : Nat) : Bytes := [0, 0] ++ beBytes 2 1 ++ zeros 4 ++ (beBytes 6 11 ++ zeros 4) ++ zeros 48 ++ beBytes 2 pair
/-- The pace monitors of die 0 read well above the demand. -/
def paced (s : State) : State := (List.range 8).foldl (fun st i => st.setN (O.pace_last (32 + i)) 100000) s
/-- A plan of two pairs in one group, of which pair 2 has a twin. -/
def plan2 : Bytes := beBytes 4 1 ++ beBytes 2 2 ++ beBytes 2 1 ++ (beBytes 2 0 ++ beBytes 2 1 ++ beBytes 16 5 ++ beBytes 16 6 ++ zeros 4) ++
  (beBytes 2 2 ++ beBytes 2 1 ++ beBytes 16 7 ++ beBytes 16 8 ++ zeros 4) ++ (beBytes 2 1 ++ beBytes 2 65535 ++ [1, 0, 0, 0])
/-- Lane 0 a 25GbE port. -/
def eth0 (s : State) : State := s.setN (O.port_kind 0) 2
/-- An audio flow of one channel over lane 0. -/
def ethFlow (s : State) (inst : Nat) : State := ((eth0 s).setN (O.flow_a_port 0x3700 inst) 0).setN (O.aflow_channels 0x3700 inst) 1
def okOf (r : Except Refuse State) : State := match r with | .ok u => u | .error _ => Z
def rxUp (s : State) (r : RxFlow) : State := { s with packet := { s.packet with rx := [r] } }
def nmosOn (s : State) : State := (s.setN O.pk_nmos_enable 1).setN O.pk_nmos_write 1
/-- The plan of one pair, of revision 0, with `n` in its second serial. -/
def planN (n : Nat) : Bytes := beBytes 4 0 ++ beBytes 2 1 ++ beBytes 2 1 ++ (beBytes 2 0 ++ beBytes 2 1 ++ beBytes 16 5 ++ beBytes 16 n ++ zeros 4) ++
  (beBytes 2 1 ++ beBytes 2 65535 ++ [1, 0, 0, 0])
def withRoute (s : State) (r : Route) : State := { s with sw := { s.sw with routes := [r] } }
def withStores (s : State) (l : List StoreRec) : State := { s with sw := { s.sw with stores := l } }
def aud (asrc : List Nat) : Route := { rt0 with dst := ⟨.audio, 0⟩, pl := { pl0 with src := mkId 1023 1 0 63520, asrc := asrc } }
def stRt (path : Nat) : Route := { rt0 with pl := { pl0 with path := path, store := some 0 } }
/-- Tile 0's slice is the one allowed for destination 0, and its channels are all booked. -/
def noAsrc (s : State) : State :=
  { ((((s.setN (O.asource_gen_dpll 63520) 1).setN (O.hint_kind 256) 4).setN (O.hint_subject 256) (mkId 1023 1 1 0)).setN (O.hint_action 256) 0).setN
      (O.hint_enable 256) 1 with placer := { s.placer with asrc := (List.range 128).map (fun i => ⟨i, 0, 0, 0⟩) } }
def sapUp (s : State) (r : SapRec) : State := { s with audio := { s.audio with saps := [r] } }
/-- Entry 0 of the reference table enabled for DPLL 0, in a state. -/
def refUp (s : State) (st : Nat) : State := ((s.setN (O.ref_source 1) 2).setN (O.ref_dpll_mask 1) 1).setN (O.ref_state 1) st
def mlk (s : State) (r : MeshLane) : State := { s with mesh := { s.mesh with lanes := [r] } }
def key0 : Bytes := zeros 31 ++ [1]
/-- A message of a type under session 1 of role Maintainer, with its tag. -/
def msgOf (typ flags : Nat) (body : Bytes) : Bytes :=
  let h := beBytes 2 0x4F44 ++ [1, 0] ++ beBytes 1 typ ++ beBytes 1 flags ++ [0, 3] ++ beBytes 4 1 ++ beBytes 8 1 ++ beBytes 8 0 ++ beBytes 2 1023 ++
    beBytes 2 body.length ++ body
  h ++ messageTag key0 0 1 h
/-- The chip at Ready with the Maintainer's key written and session 1 open. -/
def open1 (s : State) : State := { (rdy s).setB ⟨0x1010, 0, 8⟩ key0 with proto := { s.proto with sessions := [ses0] } }
def withSubs (s : State) (l : List Sub) : State := { s with proto := { s.proto with sessions := [ses0], subs := l } }
def withBulk (s : State) (x : Bulk) : State := { s with proto := { s.proto with bulks := [x] } }
/-- The hypotheses of AcceptedWriteTakesEffect: the command writes one object, the checks let it through and its rule accepts it. -/
def acceptedIn (c : Instr) (s : State) : Bool :=
  match objectRecord c with
  | some (t, w, ovr, k, v) => (s.advance t).admits w k v &&
      (match descOf k with | some d => ((s.advance t).applyWrite w ovr d k v).1 == 0 | none => false)
  | none => false
/-- The hypotheses of MessageIsCarriedOut, with session 1 open. -/
def heardIn (c : Instr) (s : State) : Bool :=
  match messageOf c with
  | some (t, via, raw) => let a := s.advance t
    a.ready && decide (raw.length ≤ 1400) && raw.length == 32 + field raw 30 2 + 32 && field raw 0 2 == 0x4F44 && a.roleKey (field raw 7 1) != [] &&
      messageTag (a.roleKey (field raw 7 1)) (field raw 20 8) (field raw 8 4) (raw.take (32 + field raw 30 2)) == raw.drop (32 + field raw 30 2) &&
      field raw 20 8 == a.epoch && a.sessionOf (field raw 7 1) (field raw 8 4) == some ses0 && a.freshSeq ses0 (field raw 12 8) &&
      judgeHeader raw == 0 && field raw 28 2 == 1023 && (via.path != .spi || a.natNow O.sec_spi_enable == 1)
  | none => false
/-- A plan of the unpaired chips 0 and 2 in group 1, and chip 0 with a link to chip 2 from its lane 7 to lane 5. -/
def plan4 : Bytes := beBytes 4 1 ++ beBytes 2 2 ++ beBytes 2 1 ++ (beBytes 2 0 ++ beBytes 2 1 ++ beBytes 16 5 ++ zeros 16 ++ zeros 4) ++
  (beBytes 2 2 ++ beBytes 2 1 ++ beBytes 16 7 ++ zeros 16 ++ zeros 4) ++ (beBytes 2 1 ++ beBytes 2 65535 ++ [2, 0, 0, 0])
def linked : State :=
  { ((((Z.setN O.id_chip_id 0).setB O.mesh_plan plan4).setN (O.mlink_state 8) 3).setN (O.mlink_peer_chip 8) 2).setN (O.mlink_peer_lane 8) 5 with
    mesh := { Z.mesh with peers := [⟨2, 0, 0, 1, [(5, 0, 7)], []⟩] } }
/-- A route that the chip coordinates, with its candidates and how many parts have been reserved. -/
def withHead (s : State) (cands : List (List RoutePart)) (got : Nat) : State :=
  { s with mesh := { s.mesh with routes := [⟨1, 2, mkId 2 0 1 0, mkId 0 0 0 0, 1000, cands, got⟩] } }

/-! ## Values that the spec works out -/

/-- No row of the table gives bits, so no word spells a command. -/
theorem test_noWordSpellsACommand : decodeTableWord 8 0 = none ∧ State.reset.withFetchWord 8 0 = State.reset := by decide +kernel

/-- On an empty queue the block idles. -/
theorem test_emptyQueueIdles : step State.reset = .next State.reset := rfl

/-- A step takes the front command and leaves the rest of the queue. -/
theorem test_stepTakesTheFront :
    (after (step { rdy Z with pending := [.genericObjectWrite 0 W1 (O.fence_value 5) (.n 3), .spiFetch 9] })).pending = [.spiFetch 9] ∧
    (after (step { rdy Z with pending := [.genericObjectWrite 0 W1 (O.fence_value 5) (.n 3), .spiFetch 9] })).nat (O.fence_value 5) = 3 := by
  decide +kernel

/-- Expected from the example after R31: chip 37's serial audio port 5, slot 12, is destination 0918F14Ch of pair 36, and
0958F14Ch is taken for it. -/
theorem test_audioDestinationIdentifier :
    mkId 36 1 1 (61440 + 64 * 5 + 12) = 0x0918F14C ∧ (Z.setN O.id_chip_id 37).normId 0x0958F14C = 0x0918F14C := by decide +kernel

/-- Expected from Table 7.3 and the example after R202: the slot of a 2160p50 frame and its stream. -/
theorem test_slotOf2160p50 : slotBytes 27 0 = 20867072 ∧ streamMbps 27 0 = 10434 := by decide +kernel

/-- Expected from Table 7.3: the slots and streams of 525i59.94, 720p50 and 1080p25. -/
theorem test_slotsOfSmallerFormats :
    (slotBytes 1 0 = 1005872 ∧ streamMbps 1 0 = 302) ∧ (slotBytes 3 0 = 2435072 ∧ streamMbps 3 0 = 1218) := by decide +kernel

/-- Expected from the example after R224: 1080p50 is sent in 4 320 packets of 1 286 bytes a frame. -/
theorem test_packetsOf1080p50 : packetsPerFrame 19 0 0 0 = 4320 ∧ 1200 + 8 + wireOverhead true false = 1286 := by decide +kernel

/-- Expected from the example after R458: the error 1000b in symbol 5 has the syndrome (1000b, 1110b, 0000b, 0011b), lies in
symbol 5, and is corrected. -/
theorem test_singleSymbolError :
    syndrome (8 <<< 20) = (8, 14, 0, 3) ∧ decodeWord (8 <<< 20) = .corrected 5 ∧ correctWord (8 <<< 20) = 0 := by decide +kernel

/-- Expected from R458: a second symbol in error makes the word uncorrectable. -/
theorem test_doubleSymbolError : decodeWord ((8 <<< 20) ^^^ (1 <<< 40)) = .uncorrectable := by decide +kernel

/-- The message of Table 2.12: a WRITE of the label of chip 14, the 49th of session A01h, with its tag under an Engineer's key. -/
def labelWrite : Bytes :=
  let h := [0x4F, 0x44, 1, 0, 2, 0, 0, 2, 0, 0, 0x0A, 1, 0, 0, 0, 0, 0, 0, 0, 0x31, 0x5E, 0x1C, 0x0A, 0x77, 0x03, 0xD2, 0x9B, 0x40,
    0, 0x0E, 0, 0x14, 0, 1, 0, 0, 0x10, 0, 0, 0, 0x0C, 0x0E, 0, 0, 0, 6, 0x43, 0x4F, 0x52, 0x45, 0x2D, 0x37]
  h ++ messageTag key0 0x5E1C0A7703D29B40 0xA01 h

/-- Chip 14 at Ready, with the Engineer's key written and session A01h open, whose latest message was its 48th. -/
def chip14 : State :=
  { (((rdy Z).setN O.id_chip_id 14).setN O.sec_boot_epoch 0x5E1C0A7703D29B40).setB ⟨0x1010, 0, 7⟩ key0 with
    proto := { Z.proto with sessions := [⟨1, 2, 0xA01, [], via0, 0, [48], [], [], 0, [], 0⟩] } }

/-- Expected from the example after Table 2.12: the label is CORE-7, and the reply has 78 bytes, flags 01h, status 00h, sequence
49 and a body of count 1 with the record's header. -/
theorem test_labelWrite :
    labelWrite.length = 84 ∧ (after (exec (.write 0 via0 labelWrite) chip14)).oct ⟨0x1000, 0, 0x0C⟩ = ascii "CORE-7" ∧
    ((after (exec (.write 0 via0 labelWrite) chip14)).out.any (fun o => match o with
      | .msg _ raw => decide (raw.length = 78) && decide ((raw.drop 4).take 16 = [2, 1, 0, 2, 0, 0, 0x0A, 1, 0, 0, 0, 0, 0, 0, 0, 0x31]) &&
          decide ((raw.drop 30).take 16 = [0, 14, 0, 1, 0, 0, 0x10, 0, 0, 0, 0x0C, 0x0E, 0, 0, 0, 0])
      | _ => false)) = true := by
  decide +kernel

/-- The reset machine keeps its lists in their canonical form. -/
theorem test_resetIsCanonical : State.reset.wf = true := by decide +kernel

/-! ## Ill-formed terms are refused -/

/-- Every check of every command refuses a term that is ill formed by it alone, part 1. -/
theorem test_illFormedRefused1 :
  ([.read 0 via0 (msgOf 0x3F 0 []),
   .read 0 via0 [],
   .read 0 via0 (msgOf 0x01 8 []),
   .readDescribe 0 via0 (msgOf 0x3F 8 []),
   .readDescribe 0 via0 [],
   .readDescribe 0 via0 (msgOf 0x01 0 []),
   .write 0 via0 (msgOf 0x3F 0 []),
   .write 0 via0 [],
   .writeTxn 0 via0 (msgOf 0x3F 0 []),
   .writeTxn 0 via0 [],
   .genericObjectWrite 0 ⟨5, 1, 1⟩ ⟨0, 0, 0⟩ (.n 0),
   .genericObjectWrite 0 ⟨1, 1, 0⟩ ⟨0, 0, 0⟩ (.n 0),
   .subscribeAdd 0 via0 (msgOf 0x04 0 (zeros 0 ++ [9])),
   .subscribeRemove 0 via0 (msgOf 0x04 0 (zeros 0 ++ [9])),
   .subscribeRemoveAll 0 via0 (msgOf 0x04 0 (zeros 0 ++ [9])),
   .eventInterval 0 0 1,
   .eventInterval 0 65 1,
   .eventInterval 0 1 0,
   .periodicReport 0 0 1 0,
   .periodicReport 0 65 1 0,
   .periodicReport 0 1 0 0,
   .take 0 via0 (msgOf 0x3F 0 []),
   .take 0 via0 [],
   .take 0 via0 (msgOf 0x06 2 []),
   .priorityTake 0 via0 (msgOf 0x3F 2 []),
   .priorityTake 0 via0 [],
   .priorityTake 0 via0 (msgOf 0x06 0 []),
   .salvoPrepare 0 via0 (msgOf 0x3F 0 []),
   .salvoPrepare 0 via0 [],
   .salvoPour 0 via0 (msgOf 0x3F 0 []),
   .salvoPour 0 via0 [],
   .salvoDrop 0 via0 (msgOf 0x3F 0 []),
   .salvoDrop 0 via0 [],
   .bulkOpen 0 via0 (msgOf 0x3F 0 []),
   .bulkOpen 0 via0 [],
   .bulkChunk 0 via0 (msgOf 0x3F 0 []),
   .bulkChunk 0 via0 [],
   .bulkClose 0 via0 (msgOf 0x0C 0 (zeros 2 ++ [9])),
   .bulkAbort 0 via0 (msgOf 0x0C 0 (zeros 2 ++ [9])),
   .bulkHandleTimeout 0 0,
   .bulkHandleTimeout 0 65536,
   .spiSendMessage 0 0 [0],
   .sessionIdleTimeout 0 0,
   .sessionIdleTimeout 0 65,
   .sessionClose 0 ⟨5, 1, 1⟩ 1,
   .sessionClose 0 ⟨1, 1, 0⟩ 1,
   .sessionClose 0 W1 0,
   .sessionClose 0 W1 65,
   .keyWrite 0 ⟨5, 1, 1⟩ 0 (zeros 32),
   .keyWrite 0 ⟨1, 1, 0⟩ 0 (zeros 32),
   .keyWrite 0 W1 4 (zeros 32),
   .keyWrite 0 W1 0 [],
   .takeCancel 0 ⟨5, 1, 1⟩ 1,
   .takeCancel 0 ⟨1, 1, 0⟩ 1,
   .takeCancel 0 W1 0,
   .takeCancel 0 W1 4097,
   .timedTakeArm 0 4097,
   .storePrimed 0 2048,
   .switchInstant 0 ⟨.video, 4096⟩,
   .takeListWrite 0 ⟨5, 1, 1⟩ 1 []] : List Instr).all (fun c => !c.wellFormed) = true := by decide +kernel

/-- Every check of every command refuses a term that is ill formed by it alone, part 2. -/
theorem test_illFormedRefused2 :
  ([.takeListWrite 0 ⟨1, 1, 0⟩ 1 [],
   .takeListWrite 0 W1 0 [],
   .takeListWrite 0 W1 257 [],
   .salvoRelease 0 ⟨5, 1, 1⟩ 1,
   .salvoRelease 0 ⟨1, 1, 0⟩ 1,
   .salvoRelease 0 W1 0,
   .salvoRelease 0 W1 257,
   .salvoPartArrival 0 0 0 0 [],
   .salvoPartArrival 0 0 257 0 [],
   .salvoPartReport 0 0 0 0 0,
   .salvoPartReport 0 257 0 0 0,
   .pourInstant 0 0,
   .pourInstant 0 257,
   .pourDecisionAck 0 0,
   .pourDecisionAck 0 257,
   .pourAckTimeout 0 0,
   .pourAckTimeout 0 257,
   .pourNotice 0 0 0 0 0,
   .pourNotice 0 0 257 0 0,
   .pourNotice 0 0 1 0 4,
   .salvoPartDone 0 0 0 [],
   .salvoPartDone 0 257 0 [],
   .salvoDropNotice 0 0 0,
   .salvoDropNotice 0 0 257,
   .salvoMemberQuery 0 0 0,
   .salvoMemberQuery 0 0 257,
   .salvoOrphan 0 0 0,
   .salvoOrphan 0 0 257,
   .hintEnable 0 ⟨5, 1, 1⟩ 1 false,
   .hintEnable 0 ⟨1, 1, 0⟩ 1 false,
   .hintEnable 0 W1 0 false,
   .reoptimise 0 ⟨5, 1, 1⟩,
   .reoptimise 0 ⟨1, 1, 0⟩,
   .sourceFrameStart 0 4096 0,
   .sourceAbsent 0 4096,
   .storeReadInstant 0 3072,
   .storeDeepenReady 0 2048,
   .recircWrite 0 ⟨5, 1, 1⟩ 3200 0,
   .recircWrite 0 ⟨1, 1, 0⟩ 3200 0,
   .recircWrite 0 W1 3199 0,
   .recircWrite 0 W1 4096 0,
   .linePlayout 0 3072 0 false,
   .fabricCellError 0 32 0 0 0 false 0,
   .fabricCellError 0 0 16 0 0 false 0,
   .fabricCellError 0 0 0 16 0 false 0,
   .fabricCellError 0 0 0 0 0 false 4096,
   .hbmWordError 0 4 0 0 0 0,
   .hbmWordError 0 0 0 0 3 0,
   .hbmScrubPeriod 0 4,
   .sdiLaneLocked 0 1024 0,
   .sdiFormatDetected 0 1024 det0,
   .sdiLossOfSignal 0 1024,
   .sdiCheckError 0 1024 0,
   .sdiCheckError 0 0 4,
   .ancPacketExtract 0 1024 anc0,
   .ancPacketInsert 0 2048 anc0 [],
   .ethLinkChange 0 1024 false,
   .addressResolveTimeout 0 0x3600 8192 0,
   .addressResolveTimeout 0 0x3700 2047 0,
   .addressResolveTimeout 0 0x3700 8192 2] : List Instr).all (fun c => !c.wellFormed) = true := by decide +kernel

/-- Every check of every command refuses a term that is ill formed by it alone, part 3. -/
theorem test_illFormedRefused3 :
  ([.flowEnable 0 ⟨5, 1, 1⟩ 0x3700 8192 false,
   .flowEnable 0 ⟨1, 1, 0⟩ 0x3700 8192 false,
   .flowEnable 0 W1 0x3600 8192 false,
   .flowEnable 0 W1 0x3700 2047 false,
   .groupEnable 0 ⟨5, 1, 1⟩ 2048 false,
   .groupEnable 0 ⟨1, 1, 0⟩ 2048 false,
   .groupEnable 0 W1 2047 false,
   .groupEnable 0 W1 6144 false,
   .audioChannelsWrite 0 ⟨5, 1, 1⟩ 8192 0,
   .audioChannelsWrite 0 ⟨1, 1, 0⟩ 8192 0,
   .audioChannelsWrite 0 W1 2047 0,
   .packetLaunch 0 1026 0,
   .rxPacket 0 0x3600 8192 0 pk0,
   .rxPacket 0 0x3700 2047 0 pk0,
   .rxPacket 0 0x3700 8192 2 pk0,
   .mergeLostDeclare 0 0x3600 8192 0,
   .mergeLostDeclare 0 0x3700 2047 0,
   .frameRelease 0 2048,
   .standaloneRelease 0 0x3600 8192 0,
   .standaloneRelease 0 0x3700 2047 0,
   .legDown 0 0x3600 8192 0,
   .legDown 0 0x3700 2047 0,
   .legDown 0 0x3700 8192 2,
   .mergeSkewCheck 0 0x3600 8192,
   .mergeSkewCheck 0 0x3700 2047,
   .mcastQuery 0 1024 false [],
   .unsolicitedReport 0 0x3600 8192 0,
   .unsolicitedReport 0 0x3700 2047 0,
   .unsolicitedReport 0 0x3700 8192 2,
   .leaveHoldExpiry 0 0x3600 8192,
   .leaveHoldExpiry 0 0x3700 2047,
   .mcastCompatEnter 0 1024 false,
   .mcastCompatExpiry 0 1024 false,
   .is05Activation 0 0x3600 8192 [] none,
   .is05Activation 0 0x3700 2047 [] none,
   .is05Activation 0 0x3700 8192 (List.replicate 3 ⟨0, [], [], 0, false⟩) none,
   .is05ScheduledActivation 0 0x3600 8192,
   .is05ScheduledActivation 0 0x3700 2047,
   .headClassWrite 0 ⟨5, 1, 1⟩ 0 0,
   .headClassWrite 0 ⟨1, 1, 0⟩ 0 0,
   .headClassWrite 0 W1 64 0,
   .headPortBind 0 ⟨5, 1, 1⟩ 0 0,
   .headPortBind 0 ⟨1, 1, 0⟩ 0 0,
   .headPortBind 0 W1 64 0,
   .headReadInstant 0 64,
   .scalerFrameWrite 0 1024,
   .scalerPairWrite 0 ⟨5, 1, 1⟩ 0 0,
   .scalerPairWrite 0 ⟨1, 1, 0⟩ 0 0,
   .scalerPairWrite 0 W1 1024 0,
   .layerCommit 0 ⟨5, 1, 1⟩ 0,
   .layerCommit 0 ⟨1, 1, 0⟩ 0,
   .layerCommit 0 W1 2048,
   .flipPoint 0 64,
   .commitTimeout 0 256,
   .fenceRaise 0 ⟨5, 1, 1⟩ 0 0,
   .fenceRaise 0 ⟨1, 1, 0⟩ 0 0,
   .fenceReset 0 ⟨5, 1, 1⟩ 0,
   .fenceReset 0 ⟨1, 1, 0⟩ 0,
   .groupJoin 0 ⟨5, 1, 1⟩ 0 0,
   .groupJoin 0 ⟨1, 1, 0⟩ 0 0] : List Instr).all (fun c => !c.wellFormed) = true := by decide +kernel

/-- Every check of every command refuses a term that is ill formed by it alone, part 4. -/
theorem test_illFormedRefused4 :
  ([.groupJoin 0 W1 2048 0,
   .groupCommit 0 ⟨5, 1, 1⟩ 0,
   .groupCommit 0 ⟨1, 1, 0⟩ 0,
   .layerClaim 0 ⟨5, 1, 1⟩ 0,
   .layerClaim 0 ⟨1, 1, 0⟩ 0,
   .layerClaim 0 W1 2048,
   .layerToRenderer 0 ⟨5, 1, 1⟩ 0,
   .layerToRenderer 0 ⟨1, 1, 0⟩ 0,
   .layerToRenderer 0 W1 2048,
   .layerRelease 0 ⟨5, 1, 1⟩ 0,
   .layerRelease 0 ⟨1, 1, 0⟩ 0,
   .layerRelease 0 W1 2048,
   .imageWrite 0 ⟨5, 1, 1⟩ 0 [],
   .imageWrite 0 ⟨1, 1, 0⟩ 0 [],
   .imageWrite 0 W1 2048 [],
   .elementsWrite 0 ⟨5, 1, 1⟩ 0 [],
   .elementsWrite 0 ⟨1, 1, 0⟩ 0 [],
   .elementsWrite 0 W1 2048 [],
   .rendererRedraw 0 2048 false,
   .mirrorImageAck 0 2048,
   .mirrorFlipAlone 0 2048,
   .audioClassChange 0 63520,
   .audioSlip 0 63520,
   .audioLevelWrite 0 ⟨5, 1, 1⟩ 0 3 0,
   .audioLevelWrite 0 ⟨1, 1, 0⟩ 0 3 0,
   .audioLevelWrite 0 W1 63520 3 0,
   .audioLevelWrite 0 W1 0 2 0,
   .audioLevelWrite 0 W1 0 6 0,
   .audioDelayWrite 0 ⟨5, 1, 1⟩ 0 0,
   .audioDelayWrite 0 ⟨1, 1, 0⟩ 0 0,
   .audioDelayWrite 0 W1 63520 0,
   .tdmFrameStart 0 0 false,
   .tdmFrameStart 0 65 false,
   .sapRateMeasure 0 0 0 0,
   .sapRateMeasure 0 65 0 0,
   .sapClockLost 0 0,
   .sapClockLost 0 65,
   .sapFsReturn 0 0,
   .sapFsReturn 0 65,
   .startArm 0 ⟨5, 1, 1⟩,
   .startArm 0 ⟨1, 1, 0⟩,
   .startDisarm 0 ⟨5, 1, 1⟩,
   .startDisarm 0 ⟨1, 1, 0⟩,
   .sapRunWrite 0 ⟨5, 1, 1⟩ 1 false,
   .sapRunWrite 0 ⟨1, 1, 0⟩ 1 false,
   .sapRunWrite 0 W1 0 false,
   .sapRunWrite 0 W1 65 false,
   .asrcRelock 0 2048,
   .aesLock 0 16 0 0,
   .aesBlockComplete 0 63520 (zeros 24) false 0 0,
   .aesBlockComplete 0 0 [] false 0 0,
   .aesLos 0 16,
   .loudnessEnable 0 ⟨5, 1, 1⟩ 0 false,
   .loudnessEnable 0 ⟨1, 1, 0⟩ 0 false,
   .loudnessReset 0 ⟨5, 1, 1⟩ 0,
   .loudnessReset 0 ⟨1, 1, 0⟩ 0,
   .refPhaseSample 0 16 0 0 0,
   .refActivityLost 0 16,
   .refQualified 0 16,
   .refEvaluation 0 []] : List Instr).all (fun c => !c.wellFormed) = true := by decide +kernel

/-- Every check of every command refuses a term that is ill formed by it alone, part 5. -/
theorem test_illFormedRefused5 :
  ([.selectorRun 0 4,
   .buildoutComplete 0 4 0,
   .dpllLocked 0 4 0,
   .forceEntryWrite 0 ⟨5, 1, 1⟩ 0 0,
   .forceEntryWrite 0 ⟨1, 1, 0⟩ 0 0,
   .forceEntryWrite 0 W1 4 0,
   .dpllModeWrite 0 ⟨5, 1, 1⟩ 0 0 0,
   .dpllModeWrite 0 ⟨1, 1, 0⟩ 0 0 0,
   .dpllModeWrite 0 W1 4 0 0,
   .dpllModeWrite 0 W1 0 5 0,
   .steerWrite 0 ⟨5, 1, 1⟩ 0 0,
   .steerWrite 0 ⟨1, 1, 0⟩ 0 0,
   .steerWrite 0 W1 4 0,
   .dpllFreerunCheck 0 4,
   .epochArm 0 ⟨5, 1, 1⟩ 0,
   .epochArm 0 ⟨1, 1, 0⟩ 0,
   .epochArm 0 W1 4,
   .epochDisarm 0 ⟨5, 1, 1⟩ 0,
   .epochDisarm 0 ⟨1, 1, 0⟩ 0,
   .epochDisarm 0 W1 4,
   .outputEpoch 0 4,
   .ckoEnable 0 ⟨5, 1, 1⟩ 0,
   .ckoEnable 0 ⟨1, 1, 0⟩ 0,
   .ckoDisable 0 ⟨5, 1, 1⟩ 0,
   .ckoDisable 0 ⟨1, 1, 0⟩ 0,
   .phaseOffsetWrite 0 ⟨5, 1, 1⟩ 0 0,
   .phaseOffsetWrite 0 ⟨1, 1, 0⟩ 0 0,
   .swpEnable 0 ⟨5, 1, 1⟩ 0 false,
   .swpEnable 0 ⟨1, 1, 0⟩ 0 false,
   .ptpMessageRx 0 0 .unsupported,
   .ptpMessageRx 0 1026 .unsupported,
   .ptpMessageTx 0 0 .sync,
   .ptpMessageTx 0 1026 .sync,
   .announceTimeout 0 0,
   .announceTimeout 0 1026,
   .ptpNoMasterCheck 0 4,
   .jumpAccept 0 ⟨5, 1, 1⟩ 0,
   .jumpAccept 0 ⟨1, 1, 0⟩ 0,
   .jumpAccept 0 W1 4,
   .jumpWithdraw 0 ⟨5, 1, 1⟩ 0,
   .jumpWithdraw 0 ⟨1, 1, 0⟩ 0,
   .jumpWithdraw 0 W1 4,
   .stepInstant 0 4,
   .timeSet 0 ⟨5, 1, 1⟩ 0 0 false,
   .timeSet 0 ⟨1, 1, 0⟩ 0 0 false,
   .timeSet 0 W1 4 0 false,
   .launchRequest 0 ⟨5, 1, 1⟩ [],
   .launchRequest 0 ⟨1, 1, 0⟩ [],
   .tsQueueRelease 0 ⟨5, 1, 1⟩ 0 0,
   .tsQueueRelease 0 ⟨1, 1, 0⟩ 0 0,
   .tsQueueRelease 0 W1 4 0,
   .tsOverflowClear 0 ⟨5, 1, 1⟩ 0,
   .tsOverflowClear 0 ⟨1, 1, 0⟩ 0,
   .tsOverflowClear 0 W1 4,
   .portKindWrite 0 ⟨5, 1, 1⟩ 0 0,
   .portKindWrite 0 ⟨1, 1, 0⟩ 0 0,
   .portKindWrite 0 W1 1024 0,
   .laneSetActive 0 ⟨5, 1, 1⟩ 0,
   .laneSetActive 0 ⟨1, 1, 0⟩ 0,
   .laneSetActive 0 W1 1024] : List Instr).all (fun c => !c.wellFormed) = true := by decide +kernel

/-- Every check of every command refuses a term that is ill formed by it alone, part 6. -/
theorem test_illFormedRefused6 :
  ([.laneSetIdle 0 ⟨5, 1, 1⟩ 0,
   .laneSetIdle 0 ⟨1, 1, 0⟩ 0,
   .laneSetIdle 0 W1 1024,
   .laneSetDormant 0 ⟨5, 1, 1⟩ 0,
   .laneSetDormant 0 ⟨1, 1, 0⟩ 0,
   .laneSetDormant 0 W1 1024,
   .laneExitDone 0 1024,
   .laneUnlock 0 1024,
   .laneCodeError 0 1024 false,
   .lrefLoss 0 16,
   .lrefRelock 0 16,
   .txpllUnlock 0 16 0,
   .txpllUnlock 0 0 2,
   .refMismatchCheck 0 1024 0,
   .eqRestart 0 ⟨5, 1, 1⟩ 0,
   .eqRestart 0 ⟨1, 1, 0⟩ 0,
   .eqRestart 0 W1 1024,
   .laneTestStart 0 ⟨5, 1, 1⟩ 0,
   .laneTestStart 0 ⟨1, 1, 0⟩ 0,
   .laneTestStart 0 W1 1024,
   .laneTestStop 0 ⟨5, 1, 1⟩ 0,
   .laneTestStop 0 ⟨1, 1, 0⟩ 0,
   .laneTestStop 0 W1 1024,
   .laneTestFinish 0 ⟨5, 1, 1⟩ 0,
   .laneTestFinish 0 ⟨1, 1, 0⟩ 0,
   .laneTestFinish 0 W1 1024,
   .laneTestDurationEnd 0 1024,
   .checkerLock 0 1024 false 0 0,
   .injectSingle 0 ⟨5, 1, 1⟩ 0,
   .injectSingle 0 ⟨1, 1, 0⟩ 0,
   .injectSingle 0 W1 1024,
   .injectBurst 0 ⟨5, 1, 1⟩ 0 0,
   .injectBurst 0 ⟨1, 1, 0⟩ 0 0,
   .injectBurst 0 W1 1024 0,
   .meshLinkAdmin 0 ⟨5, 1, 1⟩ 0 false,
   .meshLinkAdmin 0 ⟨1, 1, 0⟩ 0 false,
   .meshLinkAdmin 0 W1 1024 false,
   .meshAligned 0 1024,
   .trainingAnnounce 0 1024,
   .trainingSetRx 0 1024 (.echo 1 1),
   .meshLinkUp 0 1024,
   .meshLinkDown 0 1024 .commas,
   .meshCellRx 0 1024 false 0 0 0,
   .meshCellRx 0 0 false 2 0 0,
   .creditReturn 0 1024 0 0,
   .creditReturn 0 0 2 0,
   .creditTimeout 0 1024 0,
   .creditTimeout 0 0 2,
   .meshControlMessage 0 1024 false (.probe 1),
   .chipLost 0 1000,
   .planWrite 0 ⟨5, 1, 1⟩ [],
   .planWrite 0 ⟨1, 1, 0⟩ [],
   .twinLaneDown 0 4,
   .signatureCompare 0 { frame0 with dst := 3072 },
   .backgroundBist 0 1 0 none,
   .backgroundLoopback 0 1024 0,
   .handoverAbort 0 ⟨5, 1, 1⟩,
   .handoverAbort 0 ⟨1, 1, 0⟩,
   .faultLatch 0 2176 0 0,
   .blockResetDone 0 2176] : List Instr).all (fun c => !c.wellFormed) = true := by decide +kernel

/-- Every check of every command refuses a term that is ill formed by it alone, part 7. -/
theorem test_illFormedRefused7 :
  ([.faultConditionEnd 0 2176,
   .faultClear 0 ⟨5, 1, 1⟩ 0,
   .faultClear 0 ⟨1, 1, 0⟩ 0,
   .faultClear 0 W1 2176,
   .faultClearAll 0 ⟨5, 1, 1⟩,
   .faultClearAll 0 ⟨1, 1, 0⟩,
   .autoClearWrite 0 ⟨5, 1, 1⟩ 0 false,
   .autoClearWrite 0 ⟨1, 1, 0⟩ 0 false,
   .autoClearWrite 0 W1 2176 false,
   .reactionsWrite 0 ⟨5, 1, 1⟩ 0 0,
   .reactionsWrite 0 ⟨1, 1, 0⟩ 0 0,
   .reactionsWrite 0 W1 2176 0,
   .firstRecordRearm 0 ⟨5, 1, 1⟩,
   .firstRecordRearm 0 ⟨1, 1, 0⟩,
   .unitInclude 0 ⟨5, 1, 1⟩ [],
   .unitInclude 0 ⟨1, 1, 0⟩ [],
   .injectArm 0 ⟨5, 1, 1⟩,
   .injectArm 0 ⟨1, 1, 0⟩,
   .injectDisarm 0 ⟨5, 1, 1⟩,
   .injectDisarm 0 ⟨1, 1, 0⟩,
   .bankIdleTimer 0 2049,
   .bankWake 0 2049,
   .bankWakeDone 0 2049,
   .sramWordError 0 2049 0 0 0,
   .bankScrub 0 2049,
   .icRequest 0 0 [⟨0, 4, 0, true, 0, 0, 0, false⟩],
   .icPriorityWrite 0 ⟨5, 1, 1⟩ 0 [],
   .icPriorityWrite 0 ⟨1, 1, 0⟩ 0 [],
   .offerManifest 0 ⟨5, 1, 1⟩ [],
   .offerManifest 0 ⟨1, 1, 0⟩ [],
   .partWrite 0 ⟨5, 1, 1⟩ 0 [],
   .partWrite 0 ⟨1, 1, 0⟩ 0 [],
   .partWrite 0 W1 6 [],
   .caddyDiscard 0 ⟨5, 1, 1⟩,
   .caddyDiscard 0 ⟨1, 1, 0⟩,
   .copyAbort 0 ⟨5, 1, 1⟩,
   .copyAbort 0 ⟨1, 1, 0⟩,
   .keyRevoke 0 ⟨5, 1, 1⟩ 0,
   .keyRevoke 0 ⟨1, 1, 0⟩ 0,
   .keyRevoke 0 W1 4,
   .activationWrite 0 ⟨5, 1, 1⟩ [],
   .activationWrite 0 ⟨1, 1, 0⟩ [],
   .activationAbort 0 ⟨5, 1, 1⟩,
   .activationAbort 0 ⟨1, 1, 0⟩,
   .voltageLoopPeriod 0 2,
   .paceMonitorWindow 0 16 0,
   .paceMarginTimeout 0 2,
   .regulatorPoll 0 2 false 0 0,
   .railMonitorTrip 0 13 false 0,
   .brownoutEnd 0 13 0,
   .restartHandover 0 ⟨5, 1, 1⟩,
   .restartHandover 0 ⟨1, 1, 0⟩,
   .restartNow 0 ⟨5, 1, 1⟩,
   .restartNow 0 ⟨1, 1, 0⟩,
   .restartWithCopy 0 ⟨5, 1, 1⟩,
   .restartWithCopy 0 ⟨1, 1, 0⟩,
   .lullEnter 0 ⟨5, 1, 1⟩,
   .lullEnter 0 ⟨1, 1, 0⟩,
   .lullWakeWrite 0 ⟨5, 1, 1⟩,
   .lullWakeWrite 0 ⟨1, 1, 0⟩] : List Instr).all (fun c => !c.wellFormed) = true := by decide +kernel

/-- Every check of every command refuses a term that is ill formed by it alone, part 8. -/
theorem test_illFormedRefused8 :
  ([.undervoltTrip 0 2 0,
   .arpNdEchoFrameRx 0 1024 (.arpRequest 0),
   .asrcAcquired 0 2048 0,
   .txpllRelock 0 16 0,
   .txpllRelock 0 0 2,
   .twinLaneUp 0 4,
   .salvoRetentionExpiry 0 0,
   .salvoRetentionExpiry 0 257,
   .refreshModeChange 0 4 0] : List Instr).all (fun c => !c.wellFormed) = true := by decide +kernel

/-- Every command has well-formed terms, part 1. -/
theorem test_wellFormedAccepted1 :
  ([.read 0 via0 (msgOf 0x01 0 []),
   .readDescribe 0 via0 (msgOf 0x01 8 []),
   .write 0 via0 (msgOf 0x02 0 []),
   .writeTxn 0 via0 (msgOf 0x03 0 []),
   .genericObjectWrite 0 W1 ⟨0, 0, 0⟩ (.n 0),
   .subscribeAdd 0 via0 (msgOf 0x04 0 (zeros 0 ++ [1])),
   .subscribeRemove 0 via0 (msgOf 0x04 0 (zeros 0 ++ [2])),
   .subscribeRemoveAll 0 via0 (msgOf 0x04 0 (zeros 0 ++ [3])),
   .eventInterval 0 1 1,
   .periodicReport 0 1 1 0,
   .take 0 via0 (msgOf 0x06 0 []),
   .priorityTake 0 via0 (msgOf 0x06 2 []),
   .salvoPrepare 0 via0 (msgOf 0x07 0 []),
   .salvoPour 0 via0 (msgOf 0x08 0 []),
   .salvoDrop 0 via0 (msgOf 0x09 0 []),
   .bulkOpen 0 via0 (msgOf 0x0A 0 []),
   .bulkChunk 0 via0 (msgOf 0x0B 0 []),
   .bulkClose 0 via0 (msgOf 0x0C 0 (zeros 2 ++ [0])),
   .bulkAbort 0 via0 (msgOf 0x0C 0 (zeros 2 ++ [1])),
   .bulkHandleTimeout 0 1,
   .spiSendMessage 0 0 [],
   .spiFetch 0,
   .spiWaitTimeout 0 [],
   .sessionIdleTimeout 0 1,
   .sessionClose 0 W1 1,
   .keyWrite 0 W1 0 (zeros 32),
   .takeCancel 0 W1 1,
   .placerTaskStart 0,
   .placementComplete 0,
   .timedTakeArm 0 0,
   .storePrimed 0 0,
   .switchInstant 0 ⟨.video, 0⟩,
   .takeListWrite 0 W1 1 [],
   .salvoRelease 0 W1 1,
   .salvoPartArrival 0 0 1 0 [],
   .salvoPartReport 0 1 0 0 0,
   .pourInstant 0 1,
   .pourDecisionAck 0 1,
   .pourAckTimeout 0 1,
   .pourNotice 0 0 1 0 0,
   .salvoPartDone 0 1 0 [],
   .salvoDropNotice 0 0 1,
   .salvoMemberQuery 0 0 1,
   .salvoOrphan 0 0 1,
   .crossChipReserve 0 0 0 pl0 0 0 0,
   .reserveConfirm 0 0 0 false,
   .reserveTimeout 0 0 0,
   .hintEnable 0 W1 1 false,
   .reoptimise 0 W1,
   .sourceFrameStart 0 0 0,
   .sourceAbsent 0 0,
   .storeReadInstant 0 0,
   .storeDeepenReady 0 0,
   .recircWrite 0 W1 3200 0,
   .linePlayout 0 0 0 false,
   .fabricCellError 0 0 0 0 0 false 0,
   .hbmWordError 0 0 0 0 0 0,
   .hbmScrubPeriod 0 0,
   .sdiLaneLocked 0 0 0,
   .sdiFormatDetected 0 0 det0] : List Instr).all Instr.wellFormed = true := by decide +kernel

/-- Every command has well-formed terms, part 2. -/
theorem test_wellFormedAccepted2 :
  ([.sdiLossOfSignal 0 0,
   .sdiCheckError 0 0 0,
   .ancPacketExtract 0 0 anc0,
   .ancPacketInsert 0 0 anc0 [],
   .ethLinkChange 0 0 false,
   .addressResolveTimeout 0 0x3700 8192 0,
   .flowEnable 0 W1 0x3700 8192 false,
   .groupEnable 0 W1 2048 false,
   .audioChannelsWrite 0 W1 8192 0,
   .packetLaunch 0 0 0,
   .rxPacket 0 0x3700 8192 0 pk0,
   .mergeLostDeclare 0 0x3700 8192 0,
   .frameRelease 0 0,
   .standaloneRelease 0 0x3700 8192 0,
   .legDown 0 0x3700 8192 0,
   .mergeSkewCheck 0 0x3700 8192,
   .mcastQuery 0 0 false [],
   .unsolicitedReport 0 0x3700 8192 0,
   .leaveHoldExpiry 0 0x3700 8192,
   .mcastCompatEnter 0 0 false,
   .mcastCompatExpiry 0 0 false,
   .is05Activation 0 0x3700 8192 [] none,
   .is05ScheduledActivation 0 0x3700 8192,
   .headClassWrite 0 W1 0 0,
   .headPortBind 0 W1 0 0,
   .headReadInstant 0 0,
   .scalerFrameWrite 0 0,
   .scalerPairWrite 0 W1 0 0,
   .layerCommit 0 W1 0,
   .flipPoint 0 0,
   .commitTimeout 0 0,
   .fenceRaise 0 W1 0 0,
   .fenceReset 0 W1 0,
   .groupJoin 0 W1 0 0,
   .groupCommit 0 W1 0,
   .layerClaim 0 W1 0,
   .layerToRenderer 0 W1 0,
   .layerRelease 0 W1 0,
   .imageWrite 0 W1 0 [],
   .elementsWrite 0 W1 0 [],
   .rendererRedraw 0 0 false,
   .mirrorImageAck 0 0,
   .mirrorFlipAlone 0 0,
   .audioClassChange 0 0,
   .audioSlip 0 0,
   .audioLevelWrite 0 W1 0 3 0,
   .audioDelayWrite 0 W1 0 0,
   .tdmFrameStart 0 1 false,
   .sapRateMeasure 0 1 0 0,
   .sapClockLost 0 1,
   .sapFsReturn 0 1,
   .startArm 0 W1,
   .startDisarm 0 W1,
   .startTrigEdge 0 false,
   .startAtInstant 0,
   .sapRunWrite 0 W1 1 false,
   .asrcRelock 0 0,
   .aesLock 0 0 0 0,
   .aesBlockComplete 0 0 (zeros 24) false 0 0,
   .aesLos 0 0] : List Instr).all Instr.wellFormed = true := by decide +kernel

/-- Every command has well-formed terms, part 3. -/
theorem test_wellFormedAccepted3 :
  ([.loudnessEnable 0 W1 0 false,
   .loudnessUpdate 0 0 ⟨0, 0, 0, 0, 0⟩,
   .loudnessReset 0 W1 0,
   .refPhaseSample 0 0 0 0 0,
   .refActivityLost 0 0,
   .refQualified 0 0,
   .refEvaluation 0 (List.replicate 16 0),
   .selectorRun 0 0,
   .buildoutComplete 0 0 0,
   .dpllLocked 0 0 0,
   .forceEntryWrite 0 W1 0 0,
   .dpllModeWrite 0 W1 0 0 0,
   .steerWrite 0 W1 0 0,
   .xoLoss 0,
   .xoReturn 0,
   .dpllFreerunCheck 0 0,
   .epochArm 0 W1 0,
   .epochDisarm 0 W1 0,
   .outputEpoch 0 0,
   .ckoEnable 0 W1 0,
   .ckoDisable 0 W1 0,
   .phaseOffsetWrite 0 W1 0 0,
   .swpEnable 0 W1 0 false,
   .ptpMessageRx 0 1 .unsupported,
   .ptpMessageTx 0 1 .sync,
   .announceTimeout 0 1,
   .ptpNoMasterCheck 0 0,
   .jumpAccept 0 W1 0,
   .jumpWithdraw 0 W1 0,
   .stepInstant 0 0,
   .timeSet 0 W1 0 0 false,
   .launchRequest 0 W1 [],
   .tsQueueRelease 0 W1 0 0,
   .tsOverflowClear 0 W1 0,
   .portKindWrite 0 W1 0 0,
   .laneSetActive 0 W1 0,
   .laneSetIdle 0 W1 0,
   .laneSetDormant 0 W1 0,
   .laneExitDone 0 0,
   .laneUnlock 0 0,
   .laneCodeError 0 0 false,
   .lrefLoss 0 0,
   .lrefRelock 0 0,
   .txpllUnlock 0 0 0,
   .refMismatchCheck 0 0 0,
   .eqRestart 0 W1 0,
   .laneTestStart 0 W1 0,
   .laneTestStop 0 W1 0,
   .laneTestFinish 0 W1 0,
   .laneTestDurationEnd 0 0,
   .checkerLock 0 0 false 0 0,
   .injectSingle 0 W1 0,
   .injectBurst 0 W1 0 0,
   .meshLinkAdmin 0 W1 0 false,
   .meshAligned 0 0,
   .trainingAnnounce 0 0,
   .trainingSetRx 0 0 (.echo 1 1),
   .meshLinkUp 0 0,
   .meshLinkDown 0 0 .commas,
   .meshCellRx 0 0 false 0 0 0] : List Instr).all Instr.wellFormed = true := by decide +kernel

/-- Every command has well-formed terms, part 4. -/
theorem test_wellFormedAccepted4 :
  ([.creditReturn 0 0 0 0,
   .creditTimeout 0 0 0,
   .meshControlMessage 0 0 false (.probe 1),
   .meshHeartbeat 0,
   .linkListFlood 0,
   .chipLost 0 0,
   .planWrite 0 W1 [],
   .planReceived 0 [],
   .domainAdmission 0,
   .headElection 0 0 [],
   .headPriorityHold 0 0 [],
   .twinHandshake 0 hello0,
   .twinHandshakeTimeout 0,
   .twinHeartbeat 0,
   .twinLaneDown 0 0,
   .twinLinkDown 0,
   .primaryDeath 0,
   .safeStateNoticeRx 0,
   .powerFailNoticeRx 0,
   .mirrorItemRx 0 0 (.readDecision 0 0),
   .mirrorAck 0 0,
   .catchUpComplete 0,
   .signatureCompare 0 frame0,
   .backgroundBist 0 2 0 none,
   .backgroundLoopback 0 0 0,
   .handoverRequest 0 W1,
   .handoverAbort 0 W1,
   .handoverCommit 0,
   .handoverDone 0,
   .takeback 0,
   .pfWarnings 0 false false,
   .faultLatch 0 0 0 0,
   .blockResetDone 0 0,
   .faultConditionEnd 0 0,
   .faultClear 0 W1 0,
   .faultClearAll 0 W1,
   .autoClearWrite 0 W1 0 false,
   .reactionsWrite 0 W1 0 0,
   .firstRecordRearm 0 W1,
   .faultTreeSelfCheck 0 false,
   .unitInclude 0 W1 [],
   .injectArm 0 W1,
   .injectDisarm 0 W1,
   .bankIdleTimer 0 1,
   .bankWake 0 1,
   .bankWakeDone 0 1,
   .sramWordError 0 1 0 0 0,
   .bankScrub 0 1,
   .icRequest 0 0 [],
   .icResponse 0 0 0,
   .icTimeout 0 0,
   .icLockOpen 0 0 0 0,
   .icLockCut 0 0,
   .icPriorityWrite 0 W1 0 [],
   .offerManifest 0 W1 [],
   .partWrite 0 W1 0 [],
   .caddyDiscard 0 W1,
   .copyAbort 0 W1,
   .keyRevoke 0 W1 0,
   .activationWrite 0 W1 []] : List Instr).all Instr.wellFormed = true := by decide +kernel

/-- Every command has well-formed terms, part 5. -/
theorem test_wellFormedAccepted5 :
  ([.activationPrepareRx 0 0 [] 0 [],
   .activationReportRx 0 0 0,
   .activationReportDeadline 0,
   .activationAbort 0 W1,
   .activationInstant 0,
   .probationEnd 0,
   .carryOverAppend 0,
   .carryOverRegionSwitch 0,
   .voltageLoopPeriod 0 0,
   .paceMonitorWindow 0 0 0,
   .paceMarginTimeout 0 0,
   .regulatorPoll 0 0 false 0 0,
   .railMonitorTrip 0 0 false 0,
   .brownoutEnd 0 0 0,
   .brownoutRingWrite 0,
   .pwrgdFall 0,
   .resetNLow 0,
   .bringupStart 0,
   .bringupPhaseDone 0 ⟨1, true, true, [], [], true, []⟩,
   .bringupOverrun 0,
   .bringupReady 0,
   .restartHandover 0 W1,
   .restartNow 0 W1,
   .restartWithCopy 0 W1,
   .lullEnter 0 W1,
   .lullWakeWrite 0 W1,
   .wakeNFall 0 false,
   .lullWakeDone 0,
   .lullWakeLate 0,
   .undervoltTrip 0 0 0,
   .jtagExtest 0,
   .tapReset 0,
   .arpNdEchoFrameRx 0 0 (.arpRequest 0),
   .nmosRegistration 0 false,
   .asrcAcquired 0 0 0,
   .txpllRelock 0 0 0,
   .twinLaneUp 0 0,
   .salvoRetentionExpiry 0 1,
   .refreshModeChange 0 0 0] : List Instr).all Instr.wellFormed = true := by decide +kernel

/-! ## Writers and messages that are accepted -/

/-- Each command that writes one object meets the hypotheses of AcceptedWriteTakesEffect in some state, part 1. -/
theorem test_writersAreAccepted1 :
  ([(.genericObjectWrite 0 W1 (O.fence_value 5) (.n 3), rdy Z),
   (.sessionClose 0 W1 1, open1 Z),
   (.keyWrite 0 W1 1 key0, rdy Z),
   (.takeCancel 0 W1 1, { (rdy Z).setN (O.take_state 1) 2 with sw := { Z.sw with takes := [tr0] } }),
   (.takeListWrite 0 W1 1 (beBytes 4 (mkId 1023 0 1 5) ++ beBytes 4 (mkId 1023 0 0 6) ++ zeros 16), rdy Z),
   (.salvoRelease 0 W1 1, (rdy Z).setN (O.salvo_state 1) 1),
   (.hintEnable 0 W1 256 true, (rdy Z).setN (O.hint_action 256) 1),
   (.reoptimise 0 W1, rdy Z),
   (.recircWrite 0 W1 3200 none32, rdy Z),
   (.flowEnable 0 W1 0x3700 16384 false, rdy Z),
   (.groupEnable 0 W1 2048 false, rdy Z),
   (.audioChannelsWrite 0 W1 12288 0, rdy Z),
   (.headClassWrite 0 W1 0 0, rdy Z),
   (.headPortBind 0 W1 0 none16, rdy Z),
   (.scalerPairWrite 0 W1 0 none8, rdy Z),
   (.layerCommit 0 W1 0, ((((rdy Z).setN (O.layer_owner 0) 1).setN (O.layer_owner_session 0) 1).setN (O.layer_head 0) 0)),
   (.fenceRaise 0 W1 0 1, rdy Z),
   (.fenceReset 0 W1 0, rdy Z),
   (.groupJoin 0 W1 0 2048, rdy Z),
   (.groupCommit 0 W1 2048, (((((rdy Z).setN (O.layer_owner 0) 1).setN (O.layer_owner_session 0) 1).setN (O.layer_head 0) 0).setN (O.layer_group 0) 2048)),
   (.layerClaim 0 W1 0, rdy Z),
   (.layerToRenderer 0 W1 0, (((rdy Z).setN (O.layer_owner 0) 1).setN (O.layer_owner_session 0) 1)),
   (.layerRelease 0 W1 0, (((rdy Z).setN (O.layer_owner 0) 1).setN (O.layer_owner_session 0) 1)),
   (.imageWrite 0 W1 0 (zeros 6 ++ [0, 1, 0, 1, 0, 0, 1, 2, 3, 4]), (((((rdy Z).setN (O.layer_owner 0) 1).setN (O.layer_owner_session 0) 1).setN (O.layer_width 0) 1).setN (O.layer_height 0) 1)),
   (.elementsWrite 0 W1 0 [], (((rdy Z).setN (O.layer_owner 0) 1).setN (O.layer_owner_session 0) 1)),
   (.audioLevelWrite 0 W1 0 3 0, rdy Z),
   (.audioDelayWrite 0 W1 0 0, rdy Z),
   (.startArm 0 W1, (rdy Z).setBit O.sapAll_start_rx 0 true)] : List (Instr × State)).all (fun e => acceptedIn e.1 e.2) = true := by decide +kernel

/-- Each command that writes one object meets the hypotheses of AcceptedWriteTakesEffect in some state, part 2. -/
theorem test_writersAreAccepted2 :
  ([(.startDisarm 0 W1, (rdy Z).setN O.sapAll_trigger_state 1),
   (.sapRunWrite 0 W1 1 true, rdy Z),
   (.loudnessEnable 0 W1 1 false, rdy Z),
   (.loudnessReset 0 W1 1, rdy Z),
   (.forceEntryWrite 0 W1 0 255, rdy Z),
   (.dpllModeWrite 0 W1 3 2 0, rdy Z),
   (.steerWrite 0 W1 0 0, rdy Z),
   (.epochArm 0 W1 0, (rdy Z).setN (O.dpll_epoch_at 0) 1000000),
   (.epochDisarm 0 W1 0, (rdy Z).setN (O.dpll_epoch_state 0) 1),
   (.ckoEnable 0 W1 0, rdy Z),
   (.ckoDisable 0 W1 0, rdy Z),
   (.phaseOffsetWrite 0 W1 0 0, rdy Z),
   (.swpEnable 0 W1 0 false, rdy Z),
   (.jumpAccept 0 W1 0, (rdy Z).setN (O.tb_jump_state 0) 1),
   (.jumpWithdraw 0 W1 0, (rdy Z).setN (O.tb_jump_state 0) 2),
   (.launchRequest 0 W1 (zeros 2 ++ beBytes 2 1024 ++ zeros 2 ++ zeros 6 ++ beBytes 4 2000 ++ zeros 16), rdy Z),
   (.tsQueueRelease 0 W1 0 7, (rdy Z).setB (O.tsq_entries 0) (beBytes 2 7 ++ zeros 18)),
   (.tsOverflowClear 0 W1 0, rdy Z),
   (.portKindWrite 0 W1 0 2, rdy Z),
   (.laneSetActive 0 W1 0, rdy Z),
   (.laneSetIdle 0 W1 0, rdy Z),
   (.laneSetDormant 0 W1 1023, rdy Z),
   (.eqRestart 0 W1 0, rdy Z),
   (.laneTestStart 0 W1 0, rdy Z),
   (.laneTestStop 0 W1 0, (rdy Z).setN (O.ltest_state 0) 1),
   (.laneTestFinish 0 W1 0, (rdy Z).setN (O.ltest_state 0) 1),
   (.injectSingle 0 W1 0, (rdy Z).setN (O.ltest_state 0) 1),
   (.injectBurst 0 W1 0 80, (rdy Z).setN (O.ltest_state 0) 2)] : List (Instr × State)).all (fun e => acceptedIn e.1 e.2) = true := by decide +kernel

/-- Each command that writes one object meets the hypotheses of AcceptedWriteTakesEffect in some state, part 3. -/
theorem test_writersAreAccepted3 :
  ([(.meshLinkAdmin 0 W1 0 false, rdy Z),
   (.planWrite 0 W1 plan0, rdy Z),
   (.handoverRequest 0 W1, rdy (fitTwin (prm Z))),
   (.handoverAbort 0 W1, rdy ((prm Z).setN O.twin_handover_state 1)),
   (.faultClear 0 W1 0, rdy Z),
   (.faultClearAll 0 W1, (rdy Z).setN O.bring_mode 1),
   (.autoClearWrite 0 W1 0 true, rdy Z),
   (.reactionsWrite 0 W1 0 0, rdy Z),
   (.firstRecordRearm 0 W1, rdy Z),
   (.unitInclude 0 W1 (zeros 8), rdy Z),
   (.injectArm 0 W1, (rdy Z).setN O.bring_mode 2),
   (.injectDisarm 0 W1, (rdy Z).setN O.bring_mode 2),
   (.icPriorityWrite 0 W1 0 (zeros 20), rdy Z),
   (.offerManifest 0 W1 man0, ((rdy Z).setN O.fw_caddy_state 1).setB O.fw_caddy_hash (sha384 man0)),
   (.partWrite 0 W1 4 [8], { rdy Z with fw := { Z.fw with caddy := man0 } }),
   (.caddyDiscard 0 W1, rdy Z),
   (.copyAbort 0 W1, { rdy Z with fw := { Z.fw with copyDue := true } }),
   (.keyRevoke 0 W1 1, rdy Z),
   (.activationWrite 0 W1 (actW 2), rdy (((((Z.setN O.id_chip_id 0).setB O.mesh_plan plan2).setN (O.mgroup_kind 2048) 1).setN (O.mgroup_plan_group 2048) 1).setN (O.mgroup_head 2048) 0)),
   (.activationAbort 0 W1, ((rdy Z).setB O.fw_activation_results [1]).setN O.fw_activation_state 2),
   (.restartHandover 0 W1, rdy Z),
   (.restartNow 0 W1, rdy Z),
   (.restartWithCopy 0 W1, (rdy Z).setN O.bring_mode 3),
   (.lullEnter 0 W1, rdy Z),
   (.lullWakeWrite 0 W1, rdy Z),
   (.timeSet 0 W1 0 0 false, rdy Z)] : List (Instr × State)).all (fun e => acceptedIn e.1 e.2) = true := by decide +kernel

/-- Commands that bring a message meet the hypotheses of MessageIsCarriedOut: one read, one transaction, one take and one that
comes over SPI. -/
theorem test_messagesAreHeard :
  ([.read 0 via0 (msgOf 1 0 []), .writeTxn 0 via0 (msgOf 3 0 []), .priorityTake 0 via0 (msgOf 6 2 []),
    .spiSendMessage 0 64 (msgOf 1 0 [])] : List Instr).all (fun c => heardIn c (open1 Z)) = true := by decide +kernel

/-! ## Witnesses of the statements' hypotheses -/

/-- States and operands that meet the hypotheses of each clause of StepRunsTheFrontCommand. -/
theorem witness_StepRunsTheFrontCommand :
  (∃ (s : State) (c : Instr) (rest : List Instr), s.pending = c :: rest) ∧
  (∃ (s : State), s.pending = []) :=
  ⟨⟨{ Z with pending := [.spiFetch 0] }, .spiFetch 0, [], by decide +kernel⟩,
  ⟨Z, by decide +kernel⟩⟩

/-- States and operands that meet the hypotheses of each clause of EveryStepKeepsTheStoresCanonical. -/
theorem witness_EveryStepKeepsTheStoresCanonical :
  (∃ (s : State) (s' : State), step s = .next s' ∧ s.wf = true) :=
  ⟨Z, Z, rfl, by decide +kernel⟩

/-- States and operands that meet the hypotheses of each clause of ResetStateAndItsDefaults. -/
theorem witness_ResetStateAndItsDefaults :
  (∃ (l : Nat), l < 1024) :=
  ⟨0, by decide +kernel⟩

/-- States and operands that meet the hypotheses of each clause of CommandsKeepQueueTimeAndTimeBases. -/
theorem witness_CommandsKeepQueueTimeAndTimeBases :
  (∃ (c : Instr) (s : State) (s' : State), exec c s = .next s') ∧
  (∃ (c : Instr) (s : State) (s' : State), exec c s = .next s' ∧ s.tbs.length = 4) :=
  ⟨⟨.spiFetch 0, Z, after (exec (.spiFetch 0) Z), rfl⟩,
  ⟨.spiFetch 0, Z, after (exec (.spiFetch 0) Z), rfl, by decide +kernel⟩⟩

/-- States and operands that meet the hypotheses of each clause of ObjectsAndWordsReadBack. -/
theorem witness_ObjectsAndWordsReadBack :
  (∃ (s : State), s.mem.wf = true) :=
  ⟨Z, by decide +kernel⟩

/-- States and operands that meet the hypotheses of each clause of AcceptedWriteTakesEffect. -/
theorem witness_AcceptedWriteTakesEffect :
  (∃ (c : Instr) (t : Nat) (w : Writer) (ovr : List Nat) (k : Key) (v : Val) (d : Desc) (s : State), objectRecord c = some (t, w, ovr, k, v) ∧ (s.advance t).admits w k v = true ∧ descOf k = some d ∧ ((s.advance t).applyWrite w ovr d k v).1 = 0) :=
  ⟨.fenceRaise 0 W1 5 3, 0, W1, [], O.fence_value 5, .n 3, (descOf (O.fence_value 5)).get (by decide +kernel), rdy Z, by decide +kernel⟩

/-- States and operands that meet the hypotheses of each clause of RefusedWriteChangesNothing. -/
theorem witness_RefusedWriteChangesNothing :
  (∃ (c : Instr) (t : Nat) (w : Writer) (ovr : List Nat) (k : Key) (v : Val) (s : State), objectRecord c = some (t, w, ovr, k, v) ∧ (s.advance t).ready = true ∧ ¬(k.fam = 0x3300 ∧ k.sub = 0x03) ∧ ((s.advance t).writeObject w ovr k v).1 ≠ 0) ∧
  (∃ (c : Instr) (t : Nat) (w : Writer) (ovr : List Nat) (k : Key) (v : Val) (s : State), objectRecord c = some (t, w, ovr, k, v) ∧ s.ready = false) :=
  ⟨⟨.fenceReset 0 W2 5000, 0, W2, [], O.fence_reset 5000, .n 1, rdy Z, by decide +kernel⟩,
  ⟨.fenceReset 0 W2 5, 0, W2, [], O.fence_reset 5, .n 1, Z, by decide +kernel⟩⟩

/-- States and operands that meet the hypotheses of each clause of CommandsEndInTheirOwnEffect. -/
theorem witness_CommandsEndInTheirOwnEffect :
  (∃ (u : State), u.proto.subs = [] ∧ u.proto.held = [] ∧ u.standby = false ∧ u.twin.clearSince = none ∧ u.power.due = none) ∧
  (∃ (u : State) (k : Key), k.fam ≠ 0x1010 ∧ u.proto.held = [] ∧ u.standby = false ∧ u.power.due = none) :=
  ⟨⟨Z, by decide +kernel⟩,
  ⟨Z, ⟨0x1000, 0, 1⟩, by decide +kernel⟩⟩

/-- States and operands that meet the hypotheses of each clause of DpllAndClockOutputWriteRules. -/
theorem witness_DpllAndClockOutputWriteRules :
  (∃ (k : Nat) (e : Nat), k < 4 ∧ e < 16) ∧
  (∃ (k : Nat), k < 4) ∧
  (∃ (k : Nat), k < 4) ∧
  (∃ (k : Nat) (sub : Nat), k < 4 ∧ 1 ≤ sub ∧ sub ≤ 4) ∧
  (∃ (b : State) (k : Nat) (e : Nat) (now' : Nat), k < 4 ∧ e = b.nat (O.dpll_epoch_at k) ∧ now' = b.tbNow (b.nat (O.dpll_epoch_tb k))) ∧
  (∃ (k : Nat), k < 4) ∧
  (∃ (o : Nat), o < 24) ∧
  (∃ (o : Nat), o < 24) :=
  ⟨⟨0, 0, by decide +kernel⟩,
  ⟨0, by decide +kernel⟩,
  ⟨0, by decide +kernel⟩,
  ⟨0, 1, by decide +kernel⟩,
  ⟨Z, 0, Z.nat (O.dpll_epoch_at 0), Z.tbNow (Z.nat (O.dpll_epoch_tb 0)), by decide +kernel⟩,
  ⟨0, by decide +kernel⟩,
  ⟨0, by decide +kernel⟩,
  ⟨0, by decide +kernel⟩⟩

/-- States and operands that meet the hypotheses of each clause of TimeBaseAndLaunchWriteRules. -/
theorem witness_TimeBaseAndLaunchWriteRules :
  (∃ (b : State) (n : Nat) (at' : Nat), (b.nat (O.tb_jump_state n) = 1 ∨ b.nat (O.tb_jump_state n) = 2) ∧ at' = (if b.nat (O.tb_jump_at n) = 0 then b.tbNow n + 1000000 else b.nat (O.tb_jump_at n))) ∧
  (∃ (b : State) (n : Nat), (b.nat (O.tb_jump_state n) = 0 ∨ b.nat (O.tb_jump_state n) = 3)) ∧
  (∃ (b : State) (n : Nat), b.nat (O.tb_role n) < 2) ∧
  (∃ (b : State) (n : Nat), 2 ≤ b.nat (O.tb_role n)) ∧
  (∃ (b : State) (n : Nat) (seq : Nat) (l : List Bytes), dropStamps seq (records 20 (b.oct (O.tsq_entries n))) = some l) ∧
  (∃ (b : State) (n : Nat) (seq : Nat), dropStamps seq (records 20 (b.oct (O.tsq_entries n))) = none) ∧
  (∃ (b : State), b.standby = true) ∧
  (∃ (b : State) (req : Bytes) (n : Nat) (i : Nat), b.standby = false ∧ 30 ≤ req.length ∧ req.length ≤ 1530 ∧ n = field req 0 1 ∧ n < 4 ∧ field req 1 1 < 2 ∧ b.launchInstant n (slice req 6 10) = some i ∧ b.tbNow n + 2000 ≤ i ∧ i ≤ b.tbNow n + 1000000000 ∧ b.ifaceUp (field req 2 2) = true) :=
  ⟨⟨(Z.setN (O.tb_jump_state 0) 1), 0, (if ((Z.setN (O.tb_jump_state 0) 1)).nat (O.tb_jump_at 0) = 0 then ((Z.setN (O.tb_jump_state 0) 1)).tbNow 0 + 1000000 else ((Z.setN (O.tb_jump_state 0) 1)).nat (O.tb_jump_at 0)), by decide +kernel⟩,
  ⟨(Z.setN (O.tb_jump_state 0) 0), 0, by decide +kernel⟩,
  ⟨Z, 0, by decide +kernel⟩,
  ⟨(Z.setN (O.tb_role 0) 2), 0, by decide +kernel⟩,
  ⟨Z.setB (O.tsq_entries 0) (beBytes 2 7 ++ zeros 18), 0, 7, [], by decide +kernel⟩,
  ⟨Z, 0, 0, by decide +kernel⟩,
  ⟨(sby Z), by decide +kernel⟩,
  ⟨Z, zeros 2 ++ beBytes 2 1024 ++ zeros 2 ++ zeros 6 ++ beBytes 4 2000 ++ zeros 16, field (zeros 2 ++ beBytes 2 1024 ++ zeros 2 ++ zeros 6 ++ beBytes 4 2000 ++ zeros 16) 0 1, 2000, by decide +kernel⟩⟩

/-- States and operands that meet the hypotheses of each clause of AudioWriteRules. -/
theorem witness_AudioWriteRules :
  (∃ (sub : Nat), 3 ≤ sub ∧ sub ≤ 5) ∧
  (∃ (b : State) (st : State) (d : Nat) (us : Nat), b.rebook 0x4100 d (b.adstTile d / 8) (b.delayBook d us).1 (b.delayBook d us).2 = .ok st) ∧
  (∃ (b : State) (d : Nat) (us : Nat) (e : Refuse), b.rebook 0x4100 d (b.adstTile d / 8) (b.delayBook d us).1 (b.delayBook d us).2 = .error e) ∧
  (∃ (b : State), b.startSet ≠ [] ∧ ((∀ d ∈ b.startSet, b.nat (O.sap_state d) = 0))) ∧
  (∃ (b : State), b.startSet = []) ∧
  (∃ (b : State) (d : Nat), d ∈ b.startSet ∧ b.nat (O.sap_state d) ≠ 0) ∧
  (∃ (b : State) (dir : Nat), 1 ≤ dir ∧ b.sap dir = none) ∧
  (∃ (b : State) (dir : Nat) (r : SapRec), 1 ≤ dir ∧ b.sap dir = some r ∧ r.grid.isSome = true ∧ r.first.isSome = true ∧ b.nat (O.sap_state dir) ≠ 3) ∧
  (∃ (b : State) (g : Nat) (c : Nat × Nat) (l : List (Option (Nat × Nat))), (loudMembers (b.oct (O.loud_members g))).map (fun m => b.memberClock m.1) = some c :: l ∧ ((∀ x ∈ l, x = some c))) :=
  ⟨⟨3, by decide +kernel⟩,
  ⟨Z, Z, 0, 0, rfl⟩,
  ⟨(((Z.setN (O.hbm_state 0) 1).setN (O.hbm_state 1) 1).setN (O.hbm_state 2) 1).setN (O.hbm_state 3) 1, 0, 400000, (C.noPath, 13), by decide +kernel⟩,
  ⟨Z.setBit O.sapAll_start_rx 0 true, by decide +kernel⟩,
  ⟨Z, by decide +kernel⟩,
  ⟨(Z.setBit O.sapAll_start_rx 0 true).setN (O.sap_state 1) 2, 1, by decide +kernel⟩,
  ⟨Z, 1, by decide +kernel⟩,
  ⟨{ Z with audio := { Z.audio with saps := [sap0] } }, 1, sap0, by decide +kernel⟩,
  ⟨Z.setB (O.loud_members 1) (beBytes 4 (mkId 1023 1 0 63520) ++ [0, 0, 0, 0]), 1, (0, 2), [], by decide +kernel⟩⟩

/-- States and operands that meet the hypotheses of each clause of CompositionWriteRules. -/
theorem witness_CompositionWriteRules :
  (∃ (b : State) (f : Nat) (v : Nat), v < b.nat (O.fence_value f)) ∧
  (∃ (b : State) (f : Nat) (v : Nat), f ≠ none16 ∧ b.nat (O.fence_value f) ≤ v) ∧
  (∃ (b : State) (w : Writer) (l : Nat), l < 2048 ∧ (b.layerOwner l = 0 ∨ (b.layerOwner l = 1 ∧ b.nat (O.layer_owner_session l) = 0) ∨ w.role = 3 ∨ w.role = 4)) ∧
  (∃ (b : State) (w : Writer) (l : Nat), l < 2048 ∧ b.layerOwner l = 2 ∧ w.role < 3) ∧
  (∃ (l : Nat), l < 2048) ∧
  (∃ (l : Nat), l < 2048) ∧
  (∃ (b : State) (l : Nat), l < 2048 ∧ b.nat (O.layer_group l) = none16) ∧
  (∃ (b : State) (l : Nat) (g : Nat), l < 2048 ∧ b.nat (O.layer_group l) = none16 ∧ g ≠ none16 ∧ ¬(2048 + 16 * (l / 128) ≤ g ∧ g < 2064 + 16 * (l / 128))) ∧
  (∃ (b : State) (l : Nat) (g : Nat), l < 2048 ∧ b.nat (O.layer_group l) = none16 ∧ 2048 + 16 * (l / 128) ≤ g ∧ g < 2064 + 16 * (l / 128) ∧ b.groupPending g = none ∧ b.nat (O.cgroup_head g) = b.nat (O.layer_head l) ∧ ((∀ m ∈ b.commitMembers g, b.flag (O.layer_mirror m) = b.flag (O.layer_mirror l)))) ∧
  (∃ (b : State) (w : Writer) (l : Nat) (h : Nat), l < 2048 ∧ b.mayWriteLayer w l 0x14 = true ∧ b.layerGroup l = none ∧ b.flipHead l = some h ∧ b.layerSteeps l = false) ∧
  (∃ (b : State) (w : Writer) (l : Nat), l < 2048 ∧ b.mayWriteLayer w l 0x14 = false) ∧
  (∃ (b : State) (w : Writer) (l : Nat), l < 2048 ∧ b.mayWriteLayer w l 0x14 = true ∧ (b.layerGroup l).isSome = true) ∧
  (∃ (b : State) (w : Writer) (g : Nat) (l : Nat) (h : Nat) (ls : List Nat), 2048 ≤ g ∧ b.commitMembers g = l :: ls ∧ ((∀ m ∈ l :: ls, b.mayWriteLayer w m 0x14 = true)) ∧ b.flipHead l = some h) ∧
  (∃ (b : State) (w : Writer) (g : Nat) (m : Nat), 2048 ≤ g ∧ m ∈ b.commitMembers g ∧ b.mayWriteLayer w m 0x14 = false) ∧
  (∃ (b : State) (w : Writer) (l : Nat) (code : Nat) (image : Bytes), l < 2048 ∧ b.mayWriteLayer w l 0x15 = true ∧ b.judgeImage l image = .error code) ∧
  (∃ (b : State) (w : Writer) (l : Nat) (image : Bytes) (palette : Bytes) (r : ImageRect), l < 2048 ∧ b.mayWriteLayer w l 0x15 = true ∧ b.judgeImage l image = .ok (r, palette) ∧ b.flag (O.layer_mirror l) = false) ∧
  (∃ (b : State) (w : Writer) (l : Nat), l < 2048 ∧ b.mayWriteLayer w l 0x16 = true) ∧
  (∃ (h : Nat) (p : Nat), p ≠ none16 ∧ p / 64 ≠ h / 4) ∧
  (∃ (n : Nat) (m : Nat), m ≠ none8 ∧ 64 * (n / 64) + m = n) ∧
  (∃ (b : State) (n : Nat), b.pairWith n = none) ∧
  (∃ (b : State) (n : Nat) (m : Nat) (o : Nat) (need : Nat), m ≠ none8 ∧ o = 64 * (n / 64) + m ∧ o ≠ n ∧ b.pairWith n = none ∧ b.pairWith o = none ∧ need = max (b.needNow n) (b.needNow o)) :=
  ⟨⟨Z.setN (O.fence_value 0) 1, 0, 0, by decide +kernel⟩,
  ⟨Z, 0, 0, by decide +kernel⟩,
  ⟨Z, W1, 0, by decide +kernel⟩,
  ⟨Z.setN (O.layer_owner 0) 2, W2, 0, by decide +kernel⟩,
  ⟨0, by decide +kernel⟩,
  ⟨0, by decide +kernel⟩,
  ⟨Z, 0, by decide +kernel⟩,
  ⟨Z, 0, 0, by decide +kernel⟩,
  ⟨Z, 0, 2048, by decide +kernel⟩,
  ⟨((Z.setN (O.layer_owner 0) 1).setN (O.layer_owner_session 0) 1).setN (O.layer_head 0) 0, W1, 0, 0, by decide +kernel⟩,
  ⟨Z, W1, 0, by decide +kernel⟩,
  ⟨((Z.setN (O.layer_owner 0) 1).setN (O.layer_owner_session 0) 1).setN (O.layer_group 0) 2048, W1, 0, by decide +kernel⟩,
  ⟨(((Z.setN (O.layer_owner 0) 1).setN (O.layer_owner_session 0) 1).setN (O.layer_group 0) 2048).setN (O.layer_head 0) 0, W1, 2048, 0, 0, [], by decide +kernel⟩,
  ⟨Z.setN (O.layer_group 0) 2048, W1, 2048, 0, by decide +kernel⟩,
  ⟨(Z.setN (O.layer_owner 0) 1).setN (O.layer_owner_session 0) 1, W1, 0, C.range, [], by decide +kernel⟩,
  ⟨(((Z.setN (O.layer_owner 0) 1).setN (O.layer_owner_session 0) 1).setN (O.layer_width 0) 1).setN (O.layer_height 0) 1, W1, 0, zeros 6 ++ [0, 1, 0, 1, 0, 0, 1, 2, 3, 4], [], ⟨0, 0, 0, 1, 1, [], [1, 2, 3, 4]⟩, by decide +kernel⟩,
  ⟨(Z.setN (O.layer_owner 0) 1).setN (O.layer_owner_session 0) 1, W1, 0, by decide +kernel⟩,
  ⟨0, 64, by decide +kernel⟩,
  ⟨0, 0, by decide +kernel⟩,
  ⟨Z, 0, by decide +kernel⟩,
  ⟨Z, 0, 1, 64 * (0 / 64) + 1, max (Z.needNow 0) (Z.needNow (64 * (0 / 64) + 1)), by decide +kernel⟩⟩

/-- States and operands that meet the hypotheses of each clause of PortKindWriteRules. -/
theorem witness_PortKindWriteRules :
  (∃ (p : Nat) (kind : Nat), (kind = 6 ∨ p % kindLanes kind ≠ 0)) ∧
  (∃ (b : State) (p : Nat) (kind : Nat), kind ≠ 6 ∧ p % kindLanes kind = 0 ∧ kind = b.portKind p) ∧
  (∃ (b : State) (p : Nat) (kind : Nat) (l : Nat), kind ≠ 6 ∧ p % kindLanes kind = 0 ∧ kind ≠ b.portKind p ∧ ¬(2 ≤ kind ∧ kind ≤ 4 ∧ b.natNow (O.tile_lref_spread (1024 + p / 64)) ≠ 0) ∧ kindLanes (b.portKind p) = 1 ∧ p ≤ l ∧ l < p + kindLanes kind ∧ b.laneFree p l = false) ∧
  (∃ (b : State) (p : Nat) (kind : Nat), 2 ≤ kind ∧ kind ≤ 4 ∧ p % kindLanes kind = 0 ∧ kind ≠ b.portKind p ∧ b.natNow (O.tile_lref_spread (1024 + p / 64)) ≠ 0) ∧
  (∃ (b : State) (p : Nat), b.portKind p = 1 ∧ ((∀ i : Nat, i < 4 → b.laneFree p (p + i) = true)) ∧ b.tileGroup (p / 64) [p, p, p + 1, p + 2, p + 3] = 0) ∧
  (∃ (b : State) (p : Nat), p % 4 = 0 ∧ b.portKind p = 0 ∧ b.natNow (O.tile_lref_spread (1024 + p / 64)) = 0 ∧ ((∀ i : Nat, i < 4 → b.laneFree p (p + i) = true)) ∧ (b.tileGroup (p / 64) [p, p + 1, p + 2, p + 3, p] = 0 ∨ b.tileGroup (p / 64) [p, p + 1, p + 2, p + 3, p] = 2)) ∧
  (∃ (b : State) (p : Nat) (i : Nat), b.portKind p = 0 ∧ 1 ≤ i ∧ i < 4) :=
  ⟨⟨0, 6, by decide +kernel⟩,
  ⟨Z, 0, Z.portKind 0, by decide +kernel⟩,
  ⟨Z.setN (O.ltest_state 0) 1, 0, 5, 0, by decide +kernel⟩,
  ⟨Z.setN (O.tile_lref_spread 1024) 1, 0, 2, by decide +kernel⟩,
  ⟨Z.formPort 0 1, 0, by decide +kernel⟩,
  ⟨Z, 0, by decide +kernel⟩,
  ⟨Z, 0, 1, by decide +kernel⟩⟩

/-- States and operands that meet the hypotheses of each clause of LaneStateAndTestWriteRules. -/
theorem witness_LaneStateAndTestWriteRules :
  (∃ (b : State) (l : Nat) (v : Nat), l < 1024 ∧ (v = 0 ∨ (v = 1 ∧ b.mayIdle (b.ownerPort l) = true))) ∧
  (∃ (b : State) (l : Nat), l < 1024 ∧ b.mayIdle (b.ownerPort l) = false) ∧
  (∃ (b : State) (l : Nat), l < 1024 ∧ b.mayDormant (b.ownerPort l) = false) ∧
  (∃ (b : State) (l : Nat), l < 1024 ∧ b.mayDormant (b.ownerPort l) = true ∧ b.nat (O.lane_state_now l) ≠ 2) ∧
  (∃ (b : State) (l : Nat), b.inLull = false ∧ (b.nat (O.lane_state_now l) ≠ 0 ∨ b.testRuns l = true ∨ b.mayIdle (b.ownerPort l) = false)) ∧
  (∃ (b : State), b.inLull = true) ∧
  (∃ (b : State) (l : Nat), b.inLull = false ∧ b.nat (O.lane_state_now l) = 0 ∧ b.testRuns l = false ∧ b.mayIdle (b.ownerPort l) = true ∧ rateGroup (b.testRate l) = some 0) ∧
  (∃ (b : State) (l : Nat), b.testRuns l = true) ∧
  (∃ (b : State) (l : Nat), b.testRuns l = true) ∧
  (∃ (b : State) (l : Nat), b.testRuns l = false ∧ b.nat (O.ltest_state l) = 3) ∧
  (∃ (b : State) (l : Nat), b.testRuns l = false) :=
  ⟨⟨Z, 0, 0, by decide +kernel⟩,
  ⟨Z.setN (O.ltest_state 0) 1, 0, by decide +kernel⟩,
  ⟨Z.setN (O.ltest_state 0) 1, 0, by decide +kernel⟩,
  ⟨Z, 0, by decide +kernel⟩,
  ⟨Z.setN (O.ltest_state 0) 1, 0, by decide +kernel⟩,
  ⟨Z.setN O.pow_lull_state 1, by decide +kernel⟩,
  ⟨Z, 0, by decide +kernel⟩,
  ⟨Z.setN (O.ltest_state 0) 1, 0, by decide +kernel⟩,
  ⟨Z.setN (O.ltest_state 0) 2, 0, by decide +kernel⟩,
  ⟨(Z.setN (O.ltest_state 0) 3), 0, by decide +kernel⟩,
  ⟨Z, 0, by decide +kernel⟩⟩

/-- States and operands that meet the hypotheses of each clause of InjectedBitsAreCounted. -/
theorem witness_InjectedBitsAreCounted :
  (∃ (b : State) (l : Nat), b.testRuns l = true) ∧
  (∃ (b : State) (l : Nat), b.testRuns l = true) ∧
  (∃ (b : State) (l : Nat) (n : Nat), b.nat (O.ltest_injected l) + n < 4294967296) ∧
  (∃ (b : State) (l : Nat), b.testRuns l = false) ∧
  (∃ (b : State) (w : Writer) (l : Nat) (n : Nat), b.admits w (O.ltest_inject_burst l) (.n n) = true) :=
  ⟨⟨Z.setN (O.ltest_state 0) 1, 0, by decide +kernel⟩,
  ⟨Z.setN (O.ltest_state 0) 2, 0, by decide +kernel⟩,
  ⟨Z, 0, 80, by decide +kernel⟩,
  ⟨Z, 0, by decide +kernel⟩,
  ⟨rdy Z, W1, 0, 80, by decide +kernel⟩⟩

/-- States and operands that meet the hypotheses of each clause of MeshWriteRules. -/
theorem witness_MeshWriteRules :
  (∃ (b : State) (l : Nat), b.meshBooked l ≠ 0) ∧
  (∃ (b : State) (l : Nat), b.meshBooked l = 0 ∧ b.nat (O.mlink_state (1 + l)) = 0) ∧
  (∃ (b : State) (l : Nat), b.meshBooked l = 0 ∧ b.nat (O.mlink_state (1 + l)) = 3) ∧
  (∃ (b : State) (plan : Bytes), (field plan 0 4 ≤ b.nat O.mesh_plan_revision ∨ planFits plan = false ∨ (∃ e ∈ planPairs plan, ∃ a ∈ b.admittedSerials, (a.1 = e.serialA ∨ a.1 = e.serialB) ∧ pairOf a.2 ≠ e.pair))) ∧
  (∃ (b : State) (plan : Bytes), b.nat O.mesh_plan_revision < field plan 0 4 ∧ planFits plan = true ∧ ((∀ e ∈ planPairs plan, ∀ a ∈ b.admittedSerials, a.1 = e.serialA ∨ a.1 = e.serialB → pairOf a.2 = e.pair))) :=
  ⟨⟨{ Z with sw := { Z.sw with routes := [{ rt0 with pl := { pl0 with lanes := [(0, 10)] } }] } }, 0, by decide +kernel⟩,
  ⟨(Z.setN (O.mlink_state (1 + 0)) 0), 0, by decide +kernel⟩,
  ⟨(Z.setN (O.mlink_state (1 + 0)) 3), 0, by decide +kernel⟩,
  ⟨Z, [], by decide +kernel⟩,
  ⟨Z, plan0, by decide +kernel⟩⟩

/-- States and operands that meet the hypotheses of each clause of FaultSourcesLatchAndCount. -/
theorem witness_FaultSourcesLatchAndCount :
  (∃ (s : State) (src : Nat), (faultKindOf src).isSome = true ∧ s.fusedOff ⟨0x1100, src + 1, 0⟩ = false ∧ s.heldDown = false ∧ s.nat (O.fsrc_state (src + 1)) = 0 ∧ s.nat (O.fsrc_count (src + 1)) + 1 < 4294967296) ∧
  (∃ (s : State) (src : Nat), (faultKindOf src).isSome = true ∧ s.fusedOff ⟨0x1100, src + 1, 0⟩ = false ∧ s.heldDown = false ∧ s.nat (O.fsrc_state (src + 1)) ≠ 0) ∧
  (∃ (s : State) (src : Nat), s.faults.relatch = [] ∧ s.isActive src = true ∧ s.flag (O.fsrc_auto_clear (src + 1)) = false) ∧
  (∃ (s : State) (src : Nat), s.faults.relatch = [] ∧ s.isActive src = false) ∧
  (∃ (s : State) (src : Nat), s.faults.relatch = [] ∧ s.isActive src = true ∧ s.flag (O.fsrc_auto_clear (src + 1)) = true ∧ faultClass src ≤ 2) :=
  ⟨⟨upp Z, 0, by decide +kernel⟩,
  ⟨(upp Z).setN (O.fsrc_state 1) 2, 0, by decide +kernel⟩,
  ⟨(Z.setN (O.fsrc_state 1) 1).setN (O.fsrc_auto_clear 1) 0, 0, by decide +kernel⟩,
  ⟨Z, 0, by decide +kernel⟩,
  ⟨(Z.setN (O.fsrc_state 1) 1).setN (O.fsrc_auto_clear 1) 1, 0, by decide +kernel⟩⟩

/-- States and operands that meet the hypotheses of each clause of LatchingReacts. -/
theorem witness_LatchingReacts :
  (∃ (s : State), s.flag O.fault_first_valid = false) ∧
  (∃ (s : State), s.flag O.fault_first_valid = true ∧ s.nat O.fault_overflow_count + 1 < 4294967296) ∧
  (∃ (s : State) (src : Nat), s.bringsSafe src = true) ∧
  (∃ (s : State) (src : Nat), s.bringsSafe src = false ∧ bit (s.reactionsOf src) 1 = true ∧ bit (s.reactionsOf src) 2 = false) ∧
  (∃ (s : State) (src : Nat), s.bringsSafe src = false ∧ bit (s.reactionsOf src) 1 = false ∧ bit (s.reactionsOf src) 2 = false) ∧
  (∃ (s : State) (fr : Bytes), fr.length = 24 ∧ (s.oct O.fault_log).length % 24 = 0 ∧ (s.oct O.fault_log).length ≤ 24576) :=
  ⟨⟨(Z.setN O.fault_first_valid 0), by decide +kernel⟩,
  ⟨(Z.setN O.fault_first_valid 1), by decide +kernel⟩,
  ⟨Z.setN (O.fsrc_reactions 1) 64, 0, by decide +kernel⟩,
  ⟨Z.setN (O.fsrc_reactions 1) 2, 0, by decide +kernel⟩,
  ⟨Z.setN (O.fsrc_reactions 1) 1, 0, by decide +kernel⟩,
  ⟨Z, zeros 24, by decide +kernel⟩⟩

/-- States and operands that meet the hypotheses of each clause of FaultEventsComplete. -/
theorem witness_FaultEventsComplete :
  (∃ (s : State) (a : State) (t : Nat) (src : Nat) (unit : Nat), a = s.advance t ∧ excludes src (unit / 268435456) (unit % 268435456) = false) ∧
  (∃ (s : State) (a : State) (t : Nat) (src : Nat) (unit : Nat), a = s.advance t ∧ excludes src (unit / 268435456) (unit % 268435456) = true) ∧
  (∃ (s : State) (a : State) (t : Nat) (src : Nat) (l : Nat), a = s.advance t ∧ a.faults.resets = [(src, l)] ∧ blockOf src l = .lane l ∧ a.laneExists l = true ∧ a.nat (O.lane_state l) = 2) ∧
  (∃ (s : State) (a : State) (t : Nat) (src : Nat), a = s.advance t ∧ ((∀ e ∈ a.faults.resets, e.1 ≠ src))) ∧
  (∃ (s : State) (a : State) (t : Nat) (src : Nat) (l : Nat), a = s.advance t ∧ a.faults.resets = [(src, l)] ∧ blockOf src l = .lane l ∧ a.laneExists l = true ∧ a.nat (O.lane_state l) ≠ 2) ∧
  (∃ (s : State) (a : State) (t : Nat) (src : Nat), a = s.advance t ∧ a.faults.relatch = [] ∧ a.isActive src = true ∧ a.flag (O.fsrc_auto_clear (src + 1)) = false) :=
  ⟨⟨Z, Z.advance 0, 0, 0, 0, rfl, by decide +kernel⟩,
  ⟨Z, Z.advance 0, 0, F.bistFail, 805306368, rfl, by decide +kernel⟩,
  ⟨{ Z.setN (O.lane_state 0) 2 with faults := { Z.faults with resets := [(0, 0)] } }, ({ Z.setN (O.lane_state 0) 2 with faults := { Z.faults with resets := [(0, 0)] } }).advance 0, 0, 0, 0, rfl, by decide +kernel⟩,
  ⟨Z, Z.advance 0, 0, 0, rfl, by decide +kernel⟩,
  ⟨{ Z with faults := { Z.faults with resets := [(0, 0)] } }, ({ Z with faults := { Z.faults with resets := [(0, 0)] } }).advance 0, 0, 0, 0, rfl, by decide +kernel⟩,
  ⟨(Z.setN (O.fsrc_state 1) 1).setN (O.fsrc_auto_clear 1) 0, ((Z.setN (O.fsrc_state 1) 1).setN (O.fsrc_auto_clear 1) 0).advance 0, 0, 0, rfl, by decide +kernel⟩⟩

/-- States and operands that meet the hypotheses of each clause of FaultWriteRules. -/
theorem witness_FaultWriteRules :
  (∃ (b : State) (src : Nat), faultClass src = 3 ∧ b.serviceMode = false) ∧
  (∃ (b : State) (w : Writer) (src : Nat), faultClass src = 3 ∧ b.serviceMode = true ∧ w.role < 3) ∧
  (∃ (b : State) (w : Writer) (src : Nat), (faultClass src ≠ 3 ∨ (b.serviceMode = true ∧ 3 ≤ w.role))) ∧
  (∃ (b : State), b.serviceMode = false) ∧
  (∃ (b : State), b.serviceMode = true ∧ b.latchedList.filter (fun x => !b.isActive x) = []) ∧
  (∃ (b : State) (x : Nat), b.serviceMode = true ∧ b.latchedList.filter (fun x => !b.isActive x) = [x]) ∧
  (∃ (src : Nat), faultClass src = 3) ∧
  (∃ (b : State) (src : Nat), faultClass src ≤ 2 ∧ b.nat (O.fsrc_state (src + 1)) = 2) ∧
  (∃ (b : State) (src : Nat) (set : Nat), (set &&& b.nat (O.fsrc_offered (src + 1)) ≠ set ∨ (faultClass src = 3 ∧ tempestKeeps set = false))) ∧
  (∃ (b : State) (src : Nat) (set : Nat), set &&& b.nat (O.fsrc_offered (src + 1)) = set ∧ faultClass src ≠ 3) ∧
  (∃ (kind : Nat) (unit : Nat) (entry : Bytes), entry.length = 8 ∧ field entry 6 2 = 0 ∧ kind = field entry 0 2 ∧ unit = field entry 2 4 ∧ unitExists kind unit = true) ∧
  (∃ (entry : Bytes), entry.length ≠ 8) ∧
  (∃ (b : State), b.mode ≠ 2) ∧
  (∃ (b : State), b.mode = 2 ∧ b.faults.inject.isSome = true) ∧
  (∃ (b : State) (target : Nat) (unit : Nat), b.mode = 2 ∧ b.faults.inject = none ∧ target = b.nat O.fault_inject_target ∧ unit = b.nat O.fault_inject_unit ∧ b.injectable target unit = false) ∧
  (∃ (b : State) (target : Nat) (unit : Nat), b.mode = 2 ∧ b.faults.inject = none ∧ target = b.nat O.fault_inject_target ∧ unit = b.nat O.fault_inject_unit ∧ b.injectable target unit = true ∧ target ≠ 6) :=
  ⟨⟨Z, 2064, by decide +kernel⟩,
  ⟨Z.setN O.bring_mode 1, W2, 2064, by decide +kernel⟩,
  ⟨Z, W1, 0, by decide +kernel⟩,
  ⟨Z, by decide +kernel⟩,
  ⟨Z.setN O.bring_mode 1, by decide +kernel⟩,
  ⟨(Z.setN O.bring_mode 1).setN (O.fsrc_state 1) 2, 0, by decide +kernel⟩,
  ⟨2064, by decide +kernel⟩,
  ⟨Z.setN (O.fsrc_state 1) 2, 0, by decide +kernel⟩,
  ⟨Z, 0, 65536, by decide +kernel⟩,
  ⟨Z, 0, 0, by decide +kernel⟩,
  ⟨field (zeros 8) 0 2, field (zeros 8) 2 4, zeros 8, by decide +kernel⟩,
  ⟨[], by decide +kernel⟩,
  ⟨Z, by decide +kernel⟩,
  ⟨{ Z.setN O.bring_mode 2 with faults := { Z.faults with inject := some (0, 0, 0) } }, by decide +kernel⟩,
  ⟨(Z.setN O.bring_mode 2).setN O.fault_inject_unit 4096, ((Z.setN O.bring_mode 2).setN O.fault_inject_unit 4096).nat O.fault_inject_target, ((Z.setN O.bring_mode 2).setN O.fault_inject_unit 4096).nat O.fault_inject_unit, by decide +kernel⟩,
  ⟨Z.setN O.bring_mode 2, (Z.setN O.bring_mode 2).nat O.fault_inject_target, (Z.setN O.bring_mode 2).nat O.fault_inject_unit, by decide +kernel⟩⟩

/-- States and operands that meet the hypotheses of each clause of HandoverWriteRules. -/
theorem witness_HandoverWriteRules :
  (∃ (b : State), b.primary = false) ∧
  (∃ (b : State), b.primary = true ∧ (b.nat O.twin_handover_state = 1 ∨ b.nat O.twin_handover_state = 2)) ∧
  (∃ (b : State), b.primary = true ∧ b.nat O.twin_handover_state ≠ 1 ∧ b.nat O.twin_handover_state ≠ 2 ∧ (b.nat O.twin_mirror_state = 3 ∨ b.nat O.twin_mirror_state = 4)) ∧
  (∃ (b : State), b.primary = true ∧ b.nat O.twin_handover_state ≠ 1 ∧ b.nat O.twin_handover_state ≠ 2 ∧ b.nat O.twin_mirror_state ≠ 3 ∧ b.nat O.twin_mirror_state ≠ 4 ∧ b.twinFit = false) ∧
  (∃ (b : State) (w : Writer), 0 < w.slot ∧ b.primary = true ∧ b.nat O.twin_handover_state ≠ 1 ∧ b.nat O.twin_handover_state ≠ 2 ∧ b.nat O.twin_mirror_state ≠ 3 ∧ b.nat O.twin_mirror_state ≠ 4 ∧ b.twinFit = true) ∧
  (∃ (b : State), b.nat O.twin_handover_state = 1) ∧
  (∃ (b : State), (b.nat O.twin_handover_state = 2 ∨ b.nat O.twin_handover_state = 3)) :=
  ⟨⟨Z, by decide +kernel⟩,
  ⟨(prm (Z.setN O.twin_handover_state 1)), by decide +kernel⟩,
  ⟨(prm (Z.setN O.twin_mirror_state 3)), by decide +kernel⟩,
  ⟨(prm Z), by decide +kernel⟩,
  ⟨fitTwin (prm Z), W1, by decide +kernel⟩,
  ⟨(Z.setN O.twin_handover_state 1), by decide +kernel⟩,
  ⟨(Z.setN O.twin_handover_state 2), by decide +kernel⟩⟩

/-- States and operands that meet the hypotheses of each clause of TwinLinkAndMirrorEventsComplete. -/
theorem witness_TwinLinkAndMirrorEventsComplete :
  (∃ (s : State) (a : State) (t : Nat), a = s.advance t ∧ a.serviceMode = true) ∧
  (∃ (s : State) (a : State) (l : State) (t : Nat) (h : TwinHello), a = s.advance t ∧ l = ({ a with twin := { a.twin with hello := some h, probe := 0 } } : State).linkTrained h ∧ a.serviceMode = false ∧ h.ready = true ∧ h.role = 0 ∧ l.ready = false ∧ h.epoch < l.nat O.twin_role_epoch ∧ ((l.standDown false).rejoin h).fw.act = none) ∧
  (∃ (s : State) (a : State) (t : Nat), a = s.advance t ∧ a.linkIsUp = true) ∧
  (∃ (s : State) (a : State) (t : Nat), a = s.advance t ∧ a.linkIsUp = false ∧ a.planEntry (a.oct O.id_serial_number) = none ∧ a.nat O.id_pair_role = 2) ∧
  (∃ (s : State) (a : State) (t : Nat), a = s.advance t ∧ a.power.resetN = true ∧ a.power.tap = false ∧ a.nat O.twin_twin_link % 16 ≠ 0) ∧
  (∃ (s : State) (a : State) (t : Nat), a = s.advance t ∧ a.nat O.twin_twin_link % 16 = 0) ∧
  (∃ (s : State) (a : State) (t : Nat) (n : Nat), a = s.advance t ∧ n < 4 ∧ a.bit O.twin_twin_link n = true) ∧
  (∃ (s : State) (a : State) (t : Nat) (n : Nat), a = s.advance t ∧ n < 4 ∧ (a.setBit O.twin_twin_link n true).nat O.twin_twin_link % 16 ≠ 15) ∧
  (∃ (s : State) (a : State) (t : Nat) (n : Nat), a = s.advance t ∧ n < 4 ∧ (a.setBit O.twin_twin_link n true).nat O.twin_twin_link % 16 = 15) ∧
  (∃ (s : State) (a : State) (t : Nat), a = s.advance t ∧ (a.paired = false ∨ a.bit O.twin_twin_link 5 = true)) ∧
  (∃ (s : State) (a : State) (t : Nat), a = s.advance t ∧ a.paired = true ∧ a.bit O.twin_twin_link 5 = false) ∧
  (∃ (s : State) (a : State) (t : Nat) (seq : Nat), a = s.advance t ∧ a.primary = false ∧ a.standby = true ∧ a.linkIsUp = true ∧ a.nat O.twin_mirror_state = 1 ∧ seq ≠ 0) ∧
  (∃ (s : State) (a : State) (t : Nat), a = s.advance t ∧ a.primary = true ∧ a.nat O.twin_mirror_state = 1) ∧
  (∃ (s : State) (a : State) (t : Nat), a = s.advance t ∧ a.primary = false ∧ a.standby = false) ∧
  (∃ (s : State) (a : State) (t : Nat), a = s.advance t ∧ a.nat O.twin_mirror_state = 2 ∧ a.standby = false) ∧
  (∃ (s : State) (a : State) (t : Nat), a = s.advance t ∧ a.nat O.twin_mirror_state = 2 ∧ a.standby = true) ∧
  (∃ (s : State) (a : State) (t : Nat), a = s.advance t ∧ a.nat O.pow_lull_state ≠ 1 ∧ a.proto.held = []) :=
  ⟨⟨Z.setN O.bring_mode 1, (Z.setN O.bring_mode 1).advance 0, 0, rfl, by decide +kernel⟩,
  ⟨Z.setN O.twin_role_epoch 2, (Z.setN O.twin_role_epoch 2).advance 0, ({ ((Z.setN O.twin_role_epoch 2).advance 0) with twin := { ((Z.setN O.twin_role_epoch 2).advance 0).twin with hello := some hello0, probe := 0 } } : State).linkTrained hello0, 0, hello0, rfl, rfl, by decide +kernel⟩,
  ⟨Z.setN O.twin_twin_link 1, (Z.setN O.twin_twin_link 1).advance 0, 0, rfl, by decide +kernel⟩,
  ⟨(Z.setN O.id_pair_role 2), ((Z.setN O.id_pair_role 2)).advance 0, 0, rfl, by decide +kernel⟩,
  ⟨(upp Z).setN O.twin_twin_link 1, ((upp Z).setN O.twin_twin_link 1).advance 0, 0, rfl, by decide +kernel⟩,
  ⟨Z, Z.advance 0, 0, rfl, by decide +kernel⟩,
  ⟨Z.setN O.twin_twin_link 8, (Z.setN O.twin_twin_link 8).advance 0, 0, 3, rfl, by decide +kernel⟩,
  ⟨Z, Z.advance 0, 0, 0, rfl, by decide +kernel⟩,
  ⟨Z.setN O.twin_twin_link 7, (Z.setN O.twin_twin_link 7).advance 0, 0, 3, rfl, by decide +kernel⟩,
  ⟨Z, Z.advance 0, 0, rfl, by decide +kernel⟩,
  ⟨prm Z, (prm Z).advance 0, 0, rfl, by decide +kernel⟩,
  ⟨((sby Z).setN O.twin_twin_link 1).setN O.twin_mirror_state 1, (((sby Z).setN O.twin_twin_link 1).setN O.twin_mirror_state 1).advance 0, 0, 1, rfl, by decide +kernel⟩,
  ⟨(prm (Z.setN O.twin_mirror_state 1)), ((prm (Z.setN O.twin_mirror_state 1))).advance 0, 0, rfl, by decide +kernel⟩,
  ⟨Z, Z.advance 0, 0, rfl, by decide +kernel⟩,
  ⟨(Z.setN O.twin_mirror_state 2), ((Z.setN O.twin_mirror_state 2)).advance 0, 0, rfl, by decide +kernel⟩,
  ⟨(sby (Z.setN O.twin_mirror_state 2)), ((sby (Z.setN O.twin_mirror_state 2))).advance 0, 0, rfl, by decide +kernel⟩,
  ⟨Z, Z.advance 0, 0, rfl, by decide +kernel⟩⟩

/-- States and operands that meet the hypotheses of each clause of FailOverAndStandbyEventsComplete. -/
theorem witness_FailOverAndStandbyEventsComplete :
  (∃ (s : State) (a : State) (t : Nat), a = s.advance t ∧ a.mayTakeOver = true ∧ a.bit O.twin_twin_link 5 = true ∧ (a.twin.probe ≠ 2 ∨ a.meshToTwin = false)) ∧
  (∃ (s : State) (a : State) (t : Nat), a = s.advance t ∧ a.mayTakeOver = true) ∧
  (∃ (s : State) (a : State) (n : State) (t : Nat), a = s.advance t ∧ n = a.setN O.twin_pf_state (a.nat O.twin_pf_state % 4 + 12) ∧ n.mayTakeOver = true) ∧
  (∃ (s : State) (a : State) (t : Nat), a = s.advance t ∧ a.mayTakeOver = false) ∧
  (∃ (s : State), s.standby = true) ∧
  (∃ (s : State) (a : State) (p : State) (t : Nat), a = s.advance t ∧ p = (a.setN O.twin_pf_state (a.nat O.twin_pf_state / 4 * 4 + 3)).follow F.pfSingle 0 3 true ∧ a.nat O.twin_pf_state % 4 ≠ 3 ∧ a.heldDown = false ∧ p.primary = true ∧ p.twinFit = true ∧ p.twinUnwarned = true) ∧
  (∃ (s : State) (a : State) (t : Nat), a = s.advance t ∧ a.primary = true ∧ a.nat O.twin_handover_state = 1 ∧ a.twinFit = true) ∧
  (∃ (s : State) (a : State) (t : Nat), a = s.advance t ∧ a.primary = true ∧ a.nat O.twin_handover_state = 1 ∧ a.twinFit = false) ∧
  (∃ (s : State) (a : State) (t : Nat), a = s.advance t ∧ a.nat O.twin_handover_state = 2 ∧ a.standby = false) ∧
  (∃ (s : State) (a : State) (t : Nat), a = s.advance t ∧ a.nat O.twin_handover_state = 2 ∧ a.standby = true ∧ a.twin.hand = none) ∧
  (∃ (s : State) (a : State) (t : Nat) (since : Nat), a = s.advance t ∧ a.standby = true ∧ a.isHome = true ∧ a.fit = true ∧ a.linkIsUp = true ∧ a.nat O.twin_mirror_state = 1 ∧ a.onProbation = false ∧ a.twin.clearSince = some since ∧ since + a.nat O.twin_hold_time * 1000000000 ≤ a.now) ∧
  (∃ (s : State) (a : State) (t : Nat), a = s.advance t ∧ (a.standby = false ∨ a.isHome = false ∨ a.fit = false ∨ a.twin.clearSince = none)) ∧
  (∃ (s : State) (a : State) (t : Nat) (f : SigFrame), a = s.advance t ∧ a.standby = true ∧ f.dst < 3072 ∧ a.nat O.twin_mirror_state ≠ 1) ∧
  (∃ (s : State) (a : State) (t : Nat) (f : SigFrame), a = s.advance t ∧ a.standby = true ∧ f.dst < 3072 ∧ a.nat O.twin_mirror_state = 1 ∧ f.ownFill = false ∧ f.twinFill = false ∧ f.twinSafe = false ∧ a.safe = false ∧ a.showsUnmarked f.dst = false ∧ a.twin.skip.contains f.dst = false ∧ f.video = f.ownVideo ∧ f.audio = []) ∧
  (∃ (s : State) (a : State) (t : Nat), a = s.advance t ∧ a.standby = false) ∧
  (∃ (s : State) (a : State) (t : Nat) (unit : Nat), a = s.advance t ∧ a.standby = true ∧ a.bistable 2 unit = true) ∧
  (∃ (s : State) (a : State) (t : Nat) (unit : Nat), a = s.advance t ∧ a.standby = true ∧ a.bistable 3 unit = true) ∧
  (∃ (s : State) (a : State) (t : Nat) (l : Nat) (errors : Nat), a = s.advance t ∧ a.standby = true ∧ a.laneExists l = true ∧ a.nat (O.lane_state_now l) = 0 ∧ a.mayDormant (a.ownerPort l) = true ∧ errors ≠ 0) ∧
  (∃ (s : State) (a : State) (t : Nat), a = s.advance t ∧ a.standby = false) :=
  ⟨⟨(rdy (sby Z)).setN O.twin_twin_link 32, ((rdy (sby Z)).setN O.twin_twin_link 32).advance 0, 0, rfl, by decide +kernel⟩,
  ⟨rdy (sby Z), (rdy (sby Z)).advance 0, 0, rfl, by decide +kernel⟩,
  ⟨rdy (sby Z), (rdy (sby Z)).advance 0, ((rdy (sby Z)).advance 0).setN O.twin_pf_state (((rdy (sby Z)).advance 0).nat O.twin_pf_state % 4 + 12), 0, rfl, rfl, by decide +kernel⟩,
  ⟨Z, Z.advance 0, 0, rfl, by decide +kernel⟩,
  ⟨(sby Z), by decide +kernel⟩,
  ⟨upp (fitTwin (prm Z)), (upp (fitTwin (prm Z))).advance 0, (((upp (fitTwin (prm Z))).advance 0).setN O.twin_pf_state (((upp (fitTwin (prm Z))).advance 0).nat O.twin_pf_state / 4 * 4 + 3)).follow F.pfSingle 0 3 true, 0, rfl, rfl, by decide +kernel⟩,
  ⟨(fitTwin (prm Z)).setN O.twin_handover_state 1, ((fitTwin (prm Z)).setN O.twin_handover_state 1).advance 0, 0, rfl, by decide +kernel⟩,
  ⟨(prm (Z.setN O.twin_handover_state 1)), ((prm (Z.setN O.twin_handover_state 1))).advance 0, 0, rfl, by decide +kernel⟩,
  ⟨(Z.setN O.twin_handover_state 2), ((Z.setN O.twin_handover_state 2)).advance 0, 0, rfl, by decide +kernel⟩,
  ⟨(sby (Z.setN O.twin_handover_state 2)), ((sby (Z.setN O.twin_handover_state 2))).advance 0, 0, rfl, by decide +kernel⟩,
  ⟨{ ((sby (rdy Z)).setN O.twin_twin_link 15).setN O.twin_mirror_state 1 with twin := { Z.twin with clearSince := some 0 } }, ({ ((sby (rdy Z)).setN O.twin_twin_link 15).setN O.twin_mirror_state 1 with twin := { Z.twin with clearSince := some 0 } }).advance 600000000000, 600000000000, 0, rfl, by decide +kernel⟩,
  ⟨Z, Z.advance 0, 0, rfl, by decide +kernel⟩,
  ⟨(sby Z), ((sby Z)).advance 0, 0, frame0, rfl, by decide +kernel⟩,
  ⟨(sby (Z.setN O.twin_mirror_state 1)), ((sby (Z.setN O.twin_mirror_state 1))).advance 0, 0, frame0, rfl, by decide +kernel⟩,
  ⟨Z, Z.advance 0, 0, rfl, by decide +kernel⟩,
  ⟨sby Z, (sby Z).advance 0, 0, 113, rfl, by decide +kernel⟩,
  ⟨(sby Z), ((sby Z)).advance 0, 0, 0, rfl, by decide +kernel⟩,
  ⟨(sby (Z.setN (O.lane_state_now 0) 0)), ((sby (Z.setN (O.lane_state_now 0) 0))).advance 0, 0, 0, 1, rfl, by decide +kernel⟩,
  ⟨Z, Z.advance 0, 0, rfl, by decide +kernel⟩⟩

/-- States and operands that meet the hypotheses of each clause of FirmwareAndActivationWriteRules. -/
theorem witness_FirmwareAndActivationWriteRules :
  (∃ (raw : Bytes), manifestOf raw = none) ∧
  (∃ (b : State) (raw : Bytes) (m : Manifest), manifestOf raw = some m ∧ b.nat O.fw_caddy_state ≠ 0) ∧
  (∃ (b : State) (raw : Bytes) (m : Manifest), manifestOf raw = some m ∧ b.nat O.fw_caddy_state = 0 ∧ b.authentic m = false) ∧
  (∃ (b : State) (k : Nat) (data : Bytes) (m : Manifest) (p : PartEntry), k < 6 ∧ b.caddyManifest = some m ∧ m.parts[k]? = some p ∧ (data.length ≠ p.length ∨ sha384 data ≠ p.hash)) ∧
  (∃ (b : State) (k : Nat) (data : Bytes) (m : Manifest) (p : PartEntry), k < 6 ∧ b.caddyManifest = some m ∧ m.parts[k]? = some p ∧ data.length = p.length ∧ sha384 data = p.hash ∧ b.flag (O.part_held (1 + k)) = false) ∧
  (∃ (b : State), b.activationHeld = none) ∧
  (∃ (b : State) (act : Bytes), b.activationHeld = some act ∧ fromFallback act = false) ∧
  (∃ (b : State), b.copyPending = true ∧ b.fw.copyOff = false) ∧
  (∃ (b : State) (x : Activation), b.copyPending = false ∧ b.fw.act = some x ∧ 2 ≤ x.stage) ∧
  (∃ (b : State) (k : Nat), ((∃ i, i < 4 ∧ i ≠ k ∧ b.nat (O.kslot_state (32 + i)) = 1)) ∧ b.caddyManifest = none ∧ ((∀ i : Nat, i < 2 → b.nat (O.img_state (16 + i)) < 2))) ∧
  (∃ (b : State) (k : Nat) (i : Nat), i < 2 ∧ b.nat (O.img_state (16 + i)) = 2 ∧ b.nat (O.img_key_slot (16 + i)) = k) ∧
  (∃ (b : State) (k : Nat), b.caddyManifest = none ∧ ((∀ i : Nat, i < 2 → b.nat (O.img_state (16 + i)) < 2)) ∧ ((∀ i : Nat, i < 4 → i ≠ k → b.nat (O.kslot_state (32 + i)) ≠ 1))) ∧
  (∃ (b : State) (act : Bytes), (actOk act = false ∨ b.headsAll (actPairs act) = false ∨ actInstant act < b.tbNow (actTb act) + 10000000000 ∨ b.tbNow (actTb act) + 604800000000000 < actInstant act ∨ b.activationHeld.isSome = true)) ∧
  (∃ (b : State) (act : Bytes), actOk act = true ∧ b.headsAll (actPairs act) = true ∧ b.tbNow (actTb act) + 10000000000 ≤ actInstant act ∧ actInstant act ≤ b.tbNow (actTb act) + 604800000000000 ∧ b.activationHeld = none ∧ ((∀ c ∈ (actPairs act).flatMap b.chipsOfPair, c ≠ b.chipId))) ∧
  (∃ (b : State), b.oct O.fw_activation_results ≠ [] ∧ (b.nat O.fw_activation_state = 1 ∨ b.nat O.fw_activation_state = 2)) ∧
  (∃ (b : State), b.oct O.fw_activation_results ≠ [] ∧ (b.nat O.fw_activation_state = 3 ∨ b.nat O.fw_activation_state = 4 ∨ b.nat O.fw_activation_state = 6)) ∧
  (∃ (b : State), b.oct O.fw_activation_results = []) :=
  ⟨⟨[], by decide +kernel⟩,
  ⟨Z.setN O.fw_caddy_state 1, man0, man0M, by decide +kernel⟩,
  ⟨Z, man0, man0M, by decide +kernel⟩,
  ⟨{ Z with fw := { Z.fw with caddy := man0 } }, 4, [], man0M, ⟨5, 7, 1, sha384 [8]⟩, by decide +kernel⟩,
  ⟨{ Z with fw := { Z.fw with caddy := man0 } }, 4, [8], man0M, ⟨5, 7, 1, sha384 [8]⟩, by decide +kernel⟩,
  ⟨Z, by decide +kernel⟩,
  ⟨{ Z.setN O.fw_activation_state 3 with fw := { Z.fw with act := some act0 } }, [], by decide +kernel⟩,
  ⟨{ Z with fw := { Z.fw with copyDue := true } }, by decide +kernel⟩,
  ⟨{ Z with fw := { Z.fw with act := some { act0 with stage := 2 } } }, { act0 with stage := 2 }, by decide +kernel⟩,
  ⟨(((Z.setN (O.img_state 16) 0).setN (O.img_state 17) 0).setN (O.kslot_state 33) 1), 0, ⟨1, by decide +kernel⟩, by decide +kernel⟩,
  ⟨(Z.setN (O.img_state (16 + 0)) 2), 0, 0, by decide +kernel⟩,
  ⟨((((Z.setN (O.img_state 16) 0).setN (O.img_state 17) 0).setN (O.kslot_state 33) 2).setN (O.kslot_state 34) 2).setN (O.kslot_state 35) 2, 0, by decide +kernel⟩,
  ⟨Z, [], by decide +kernel⟩,
  ⟨((((Z.setN O.id_chip_id 0).setB O.mesh_plan plan2).setN (O.mgroup_kind 2048) 1).setN (O.mgroup_plan_group 2048) 1).setN (O.mgroup_head 2048) 0, actW 2, by decide +kernel⟩,
  ⟨(Z.setB O.fw_activation_results [1]).setN O.fw_activation_state 2, by decide +kernel⟩,
  ⟨(Z.setB O.fw_activation_results [1]).setN O.fw_activation_state 3, by decide +kernel⟩,
  ⟨Z, by decide +kernel⟩⟩

/-- States and operands that meet the hypotheses of each clause of FirmwareEventsComplete. -/
theorem witness_FirmwareEventsComplete :
  (∃ (s : State) (a : State) (t : Nat) (coord : Nat) (code : Nat) (twinActive : Nat) (act : Bytes) (peers : List (Nat × Nat)), a = s.advance t ∧ coord ≠ a.chipId ∧ code = a.prepareCode act twinActive peers ∧ code ≠ 0) ∧
  (∃ (s : State) (a : State) (t : Nat) (coord : Nat) (twinActive : Nat) (act : Bytes) (peers : List (Nat × Nat)), a = s.advance t ∧ coord ≠ a.chipId ∧ a.prepareCode act twinActive peers = 0) ∧
  (∃ (s : State) (a : State) (t : Nat) (chip : Nat) (code : Nat), a = s.advance t ∧ a.nat O.fw_activation_state = 1 ∧ a.oct O.fw_activation_results ≠ [] ∧ chip ∈ (actPairs (a.oct O.fw_activation)).flatMap a.chipsOfPair ∧ code ≠ 0) ∧
  (∃ (s : State) (a : State) (t : Nat), a = s.advance t ∧ a.nat O.fw_activation_state ≠ 1) ∧
  (∃ (s : State) (a : State) (t : Nat) (missing : Nat), a = s.advance t ∧ a.nat O.fw_activation_state = 1 ∧ a.oct O.fw_activation_results ≠ [] ∧ ((actPairs (a.oct O.fw_activation)).flatMap a.chipsOfPair).find? (fun c => (kfind a.fw.reports c).isNone) = some missing) ∧
  (∃ (s : State) (a : State) (t : Nat) (x : Activation), a = s.advance t ∧ a.fw.act = some x ∧ x.stage = 0 ∧ x.coord ≠ a.chipId ∧ actInstant x.raw ≤ a.tbNow (actTb x.raw) ∧ a.coordinates = false ∧ a.single = true) ∧
  (∃ (s : State) (a : State) (t : Nat) (x : Activation), a = s.advance t ∧ a.fw.act = some x ∧ a.tbNow (actTb x.raw) < actInstant x.raw) ∧
  (∃ (s : State) (a : State) (t : Nat) (x : Activation), a = s.advance t ∧ a.fw.act = some x ∧ x.stage = 2 ∧ x.until' ≤ a.now ∧ a.standby = false) ∧
  (∃ (s : State) (a : State) (t : Nat), a = s.advance t ∧ a.fw.act = none) ∧
  (∃ (s : State) (a : State) (t : Nat), a = s.advance t ∧ a.ready = true) ∧
  (∃ (s : State) (a : State) (t : Nat), a = s.advance t ∧ 7340032 < a.fw.used) ∧
  (∃ (s : State) (a : State) (t : Nat), a = s.advance t ∧ a.fw.used ≤ 7340032) :=
  ⟨⟨Z, Z.advance 0, 0, 0, (Z.advance 0).prepareCode ([]) 0 ([]), 0, [], [], rfl, by decide +kernel⟩,
  ⟨{ Z.setN (O.img_state 17) 3 with fw := { Z.fw with act := none } }, ({ Z.setN (O.img_state 17) 3 with fw := { Z.fw with act := none } }).advance 0, 0, 5, 0, [0, 6] ++ zeros 64, [], rfl, by decide +kernel⟩,
  ⟨((Z.setN O.fw_activation_state 1).setB O.fw_activation_results [1]).setB O.fw_activation (actW 2), (((Z.setN O.fw_activation_state 1).setB O.fw_activation_results [1]).setB O.fw_activation (actW 2)).advance 0, 0, 2, 1, rfl, by decide +kernel⟩,
  ⟨Z, Z.advance 0, 0, rfl, by decide +kernel⟩,
  ⟨((Z.setN O.fw_activation_state 1).setB O.fw_activation_results [1]).setB O.fw_activation (actW 2), (((Z.setN O.fw_activation_state 1).setB O.fw_activation_results [1]).setB O.fw_activation (actW 2)).advance 0, 0, 2, rfl, by decide +kernel⟩,
  ⟨{ Z with fw := { Z.fw with act := some act0 } }, ({ Z with fw := { Z.fw with act := some act0 } }).advance 0, 0, act0, rfl, by decide +kernel⟩,
  ⟨{ Z with fw := { Z.fw with act := some { act0 with raw := actW 2 } } }, ({ Z with fw := { Z.fw with act := some { act0 with raw := actW 2 } } }).advance 0, 0, { act0 with raw := actW 2 }, rfl, by decide +kernel⟩,
  ⟨{ Z with fw := { Z.fw with act := some { act0 with stage := 2 } } }, ({ Z with fw := { Z.fw with act := some { act0 with stage := 2 } } }).advance 0, 0, { act0 with stage := 2 }, rfl, by decide +kernel⟩,
  ⟨Z, Z.advance 0, 0, rfl, by decide +kernel⟩,
  ⟨(rdy Z), ((rdy Z)).advance 0, 0, rfl, by decide +kernel⟩,
  ⟨{ Z with fw := { Z.fw with used := 7340033 } }, ({ Z with fw := { Z.fw with used := 7340033 } }).advance 0, 0, rfl, by decide +kernel⟩,
  ⟨Z, Z.advance 0, 0, rfl, by decide +kernel⟩⟩

/-- States and operands that meet the hypotheses of each clause of PowerWriteRules. -/
theorem witness_PowerWriteRules :
  (∃ (b : State), b.mode ≠ 3) ∧
  (∃ (b : State), b.mode = 3) ∧
  (∃ (b : State), b.power.due = none) ∧
  (∃ (b : State), b.nat O.pow_lull_state = 0 ∧ b.lullBarred = true) ∧
  (∃ (b : State), b.nat O.pow_lull_state = 0 ∧ b.lullBarred = false) ∧
  (∃ (b : State), (b.nat O.pow_lull_state = 0 ∨ b.nat O.pow_lull_state = 3)) ∧
  (∃ (b : State), (b.nat O.pow_lull_state = 1 ∨ b.nat O.pow_lull_state = 2)) :=
  ⟨⟨Z, by decide +kernel⟩,
  ⟨Z.setN O.bring_mode 3, by decide +kernel⟩,
  ⟨Z, by decide +kernel⟩,
  ⟨{ Z with sw := { Z.sw with routes := [rt0] } }, by decide +kernel⟩,
  ⟨(Z.setN O.pow_lull_state 0), by decide +kernel⟩,
  ⟨(Z.setN O.pow_lull_state 0), by decide +kernel⟩,
  ⟨(Z.setN O.pow_lull_state 1), by decide +kernel⟩⟩

/-- States and operands that meet the hypotheses of each clause of VoltageAndSupplyEventsComplete. -/
theorem witness_VoltageAndSupplyEventsComplete :
  (∃ (s : State) (a : State) (t : Nat) (die : Nat), a = s.advance t ∧ a.loopRuns die = false) ∧
  (∃ (s : State) (a : State) (t : Nat) (die : Nat), a = s.advance t ∧ a.loopRuns die = true ∧ 100 * a.lowPace die < 125 * a.loopDemand die) ∧
  (∃ (s : State) (a : State) (t : Nat) (die : Nat) (since : Nat), a = s.advance t ∧ a.loopRuns die = true ∧ 125 * a.loopDemand die ≤ 100 * a.lowPace die ∧ (a.nat (O.die_target (1 + die)) + 5) * a.loopDemand die < 100 * a.lowPace die ∧ kfind a.power.above die = some since ∧ since + 10000000 ≤ a.now ∧ a.power.badReg = []) ∧
  (∃ (s : State) (a : State) (t : Nat) (tile : Nat), a = s.advance t ∧ tile < a.tiles ∧ a.power.margin = [] ∧ a.power.short = []) ∧
  (∃ (s : State) (a : State) (t : Nat) (die : Nat), a = s.advance t ∧ a.loopRuns die = true ∧ a.marginLost die = true ∧ a.paceLost die = false ∧ a.nat (O.die_setpoint (1 + die)) = a.nat (O.die_v_max (1 + die)) ∧ a.power.margin = []) ∧
  (∃ (s : State) (a : State) (t : Nat) (die : Nat) (vout : Nat), a = s.advance t ∧ die < 2 ∧ a.loopRuns die = false ∧ a.nat (O.die_setpoint (1 + die)) = vout ∧ a.power.badReg = [] ∧ a.isActive F.avsRegulator = false ∧ a.faults.relatch = []) ∧
  (∃ (s : State) (a : State) (t : Nat) (die : Nat), a = s.advance t ∧ die < 2 ∧ a.loopRuns die = false ∧ a.power.badReg = [] ∧ a.isActive F.avsRegulator = false) ∧
  (∃ (s : State) (a : State) (t : Nat) (rail : Nat) (f : Nat), a = s.advance t ∧ railFault rail true = some f ∧ rail ≠ 6 ∧ rail ≠ 7) ∧
  (∃ (s : State) (a : State) (t : Nat) (rail : Nat) (f : Nat), a = s.advance t ∧ railFault rail false = some f ∧ rail ≠ 6 ∧ rail ≠ 7 ∧ a.power.brown = []) ∧
  (∃ (s : State) (a : State) (t : Nat), a = s.advance t ∧ a.power.brown = []) ∧
  (∃ (s : State) (a : State) (t : Nat) (rail : Nat) (mv : Nat) (since : Nat) (tb : Nat) (f : Nat), a = s.advance t ∧ rail < 13 ∧ railFault rail false = some f ∧ a.power.brown = [⟨rail, since, tb⟩] ∧ a.oct O.pow_brownout_ring = brownRecord rail 1 mv 0xFFFFFFFF tb ∧ a.isActive f = false ∧ a.faults.relatch = []) :=
  ⟨⟨Z, Z.advance 0, 0, 0, rfl, by decide +kernel⟩,
  ⟨rdy Z, (rdy Z).advance 0, 0, 0, rfl, by decide +kernel⟩,
  ⟨{ paced Z with power := { (rdy Z).power with above := [(0, 0)] } }, ({ paced Z with power := { (rdy Z).power with above := [(0, 0)] } }).advance 10000000, 10000000, 0, 0, rfl, by decide +kernel⟩,
  ⟨Z, Z.advance 0, 0, 0, rfl, by decide +kernel⟩,
  ⟨{ (rdy Z).setN (O.die_setpoint 1) (Z.nat (O.die_v_max 1)) with power := (rdy Z).power }, ({ (rdy Z).setN (O.die_setpoint 1) (Z.nat (O.die_v_max 1)) with power := (rdy Z).power }).advance 0, 0, 0, rfl, by decide +kernel⟩,
  ⟨Z, Z.advance 0, 0, 0, 0, rfl, by decide +kernel⟩,
  ⟨Z, Z.advance 0, 0, 0, rfl, by decide +kernel⟩,
  ⟨Z, Z.advance 0, 0, 11, F.hbmRail, rfl, by decide +kernel⟩,
  ⟨Z, Z.advance 0, 0, 12, F.hbmRail, rfl, by decide +kernel⟩,
  ⟨Z, Z.advance 0, 0, rfl, by decide +kernel⟩,
  ⟨{ Z.setB O.pow_brownout_ring (brownRecord 12 1 7 0xFFFFFFFF 6) with power := { Z.power with brown := [⟨12, 5, 6⟩] } }, ({ Z.setB O.pow_brownout_ring (brownRecord 12 1 7 0xFFFFFFFF 6) with power := { Z.power with brown := [⟨12, 5, 6⟩] } }).advance 0, 0, 12, 7, 5, 6, F.hbmRail, rfl, by decide +kernel⟩⟩

/-- States and operands that meet the hypotheses of each clause of ResetEventsComplete. -/
theorem witness_ResetEventsComplete :
  (∃ (s : State) (a : State) (t : Nat), a = s.advance t ∧ a.power.resetN = true) ∧
  (∃ (s : State) (a : State) (t : Nat), a = s.advance t ∧ a.power.tap = false ∧ a.power.resetN = true) ∧
  (∃ (s : State) (a : State) (t : Nat), a = s.advance t ∧ a.power.pwrgd = true ∧ a.power.resetN = false ∧ a.nat O.twin_pf_state % 4 ≠ 3) ∧
  (∃ (s : State) (a : State) (t : Nat), a = s.advance t ∧ a.power.tap = false ∧ (a.power.pwrgd = false ∨ a.power.resetN = false)) ∧
  (∃ (s : State) (a : State) (t : Nat), a = s.advance t ∧ a.power.tap = true ∧ a.power.pwrgd = true ∧ a.power.resetN = true) ∧
  (∃ (s : State) (a : State) (t : Nat), a = s.advance t ∧ a.power.tap = false) ∧
  (∃ (s : State) (a : State) (t : Nat), a = s.advance t ∧ a.ready = false ∧ a.power.pwrgd = true ∧ a.power.resetN = true ∧ a.power.tap = false ∧ a.power.stuck = false ∧ a.power.overrun = false) :=
  ⟨⟨upp Z, (upp Z).advance 0, 0, rfl, by decide +kernel⟩,
  ⟨upp Z, (upp Z).advance 0, 0, rfl, by decide +kernel⟩,
  ⟨{ Z with power := { Z.power with pwrgd := true } }, ({ Z with power := { Z.power with pwrgd := true } }).advance 0, 0, rfl, by decide +kernel⟩,
  ⟨Z, Z.advance 0, 0, rfl, by decide +kernel⟩,
  ⟨{ upp Z with power := { (upp Z).power with tap := true } }, ({ upp Z with power := { (upp Z).power with tap := true } }).advance 0, 0, rfl, by decide +kernel⟩,
  ⟨Z, Z.advance 0, 0, rfl, by decide +kernel⟩,
  ⟨upp Z, (upp Z).advance 0, 0, rfl, by decide +kernel⟩⟩

/-- States and operands that meet the hypotheses of each clause of BringUpAndLullGoOn. -/
theorem witness_BringUpAndLullGoOn :
  (∃ (s : State) (a : State) (t : Nat), a = s.advance t ∧ a.booting = false) ∧
  (∃ (s : State) (a : State) (t : Nat) (r : PhaseResult), a = s.advance t ∧ a.booting = true ∧ a.power.bootPh = 2 ∧ r.activeOk = true ∧ a.mode ≠ 3) ∧
  (∃ (s : State) (a : State) (t : Nat) (r : PhaseResult), a = s.advance t ∧ a.booting = true ∧ a.power.bootPh = 2 ∧ r.activeOk = true ∧ a.mode = 3) ∧
  (∃ (s : State) (a : State) (t : Nat), a = s.advance t ∧ a.booting = true ∧ a.power.bootPh = 6) ∧
  (∃ (s : State) (a : State) (t : Nat), a = s.advance t ∧ a.mayBeReady = false) ∧
  (∃ (s : State) (a : State) (t : Nat), a = s.advance t ∧ a.mayBeReady = true ∧ a.mode = 3) ∧
  (∃ (s : State) (a : State) (t : Nat), a = s.advance t ∧ (a.nat O.pow_lull_state = 0 ∨ a.nat O.pow_lull_state = 3)) ∧
  (∃ (s : State) (a : State) (t : Nat), a = s.advance t ∧ (a.nat O.pow_lull_state = 1 ∨ a.nat O.pow_lull_state = 2)) ∧
  (∃ (s : State) (a : State) (t : Nat), a = s.advance t ∧ a.nat O.pow_lull_state = 3) ∧
  (∃ (s : State) (a : State) (t : Nat), a = s.advance t ∧ a.nat O.pow_lull_state = 3) ∧
  (∃ (s : State) (a : State) (t : Nat), a = s.advance t ∧ a.nat O.pow_lull_state ≠ 3) :=
  ⟨⟨Z, Z.advance 0, 0, rfl, by decide +kernel⟩,
  ⟨{ upp Z with power := { (upp Z).power with bootPh := 2 } }, ({ upp Z with power := { (upp Z).power with bootPh := 2 } }).advance 0, 0, ⟨1, true, true, [], [], true, []⟩, rfl, by decide +kernel⟩,
  ⟨{ (upp Z).setN O.bring_mode 3 with power := { (upp Z).power with bootPh := 2 } }, ({ (upp Z).setN O.bring_mode 3 with power := { (upp Z).power with bootPh := 2 } }).advance 0, 0, ⟨1, true, true, [], [], true, []⟩, rfl, by decide +kernel⟩,
  ⟨{ upp Z with power := { (upp Z).power with bootPh := 6 } }, ({ upp Z with power := { (upp Z).power with bootPh := 6 } }).advance 0, 0, rfl, by decide +kernel⟩,
  ⟨Z, Z.advance 0, 0, rfl, by decide +kernel⟩,
  ⟨{ (upp Z).setN O.bring_mode 3 with power := { (upp Z).power with times := [1, 2, 3, 4, 5, 6, 7] } }, ({ (upp Z).setN O.bring_mode 3 with power := { (upp Z).power with times := [1, 2, 3, 4, 5, 6, 7] } }).advance 0, 0, rfl, by decide +kernel⟩,
  ⟨(Z.setN O.pow_lull_state 0), ((Z.setN O.pow_lull_state 0)).advance 0, 0, rfl, by decide +kernel⟩,
  ⟨(Z.setN O.pow_lull_state 1), ((Z.setN O.pow_lull_state 1)).advance 0, 0, rfl, by decide +kernel⟩,
  ⟨(Z.setN O.pow_lull_state 3), ((Z.setN O.pow_lull_state 3)).advance 0, 0, rfl, by decide +kernel⟩,
  ⟨(Z.setN O.pow_lull_state 3), ((Z.setN O.pow_lull_state 3)).advance 0, 0, rfl, by decide +kernel⟩,
  ⟨Z, Z.advance 0, 0, rfl, by decide +kernel⟩⟩

/-- States and operands that meet the hypotheses of each clause of BankEventsComplete. -/
theorem witness_BankEventsComplete :
  (∃ (s : State) (a : State) (t : Nat) (b : Nat), a = s.advance t ∧ a.bankExists b = true ∧ a.nat (O.bank_policy b) = 0 ∧ a.bankIdle b = true ∧ a.nat (O.bank_state b) = 0) ∧
  (∃ (s : State) (a : State) (t : Nat) (b : Nat), a = s.advance t ∧ a.bankExists b = true ∧ a.nat (O.bank_policy b) = 0 ∧ a.bankIdle b = true ∧ a.nat (O.bank_state b) = 1 ∧ bankUse b = 5) ∧
  (∃ (s : State) (a : State) (t : Nat) (b : Nat), a = s.advance t ∧ (a.nat (O.bank_policy b) ≠ 0 ∨ a.bankIdle b = false)) ∧
  (∃ (s : State) (a : State) (t : Nat) (b : Nat), a = s.advance t ∧ a.bankExists b = true ∧ (a.nat (O.bank_state b) = 1 ∨ a.nat (O.bank_state b) = 2)) ∧
  (∃ (s : State) (a : State) (t : Nat) (b : Nat), a = s.advance t ∧ a.nat (O.bank_state b) = 3 ∧ a.mem.taken = []) ∧
  (∃ (s : State) (a : State) (t : Nat) (b : Nat) (word : Nat), a = s.advance t ∧ a.bankExists b = true ∧ a.faults.inject = none ∧ decodeWord word = .good) ∧
  (∃ (s : State) (a : State) (t : Nat) (b : Nat) (word : Nat) (x : Nat), a = s.advance t ∧ a.bankExists b = true ∧ a.faults.inject = none ∧ decodeWord word = .corrected x) ∧
  (∃ (s : State) (a : State) (t : Nat) (b : Nat), a = s.advance t ∧ a.bankExists b = true ∧ a.nat (O.bank_state b) = 0) ∧
  (∃ (s : State) (a : State) (t : Nat) (b : Nat), a = s.advance t ∧ a.nat (O.bank_state b) ≠ 0) :=
  ⟨⟨Z.setN (O.lane_state_now 0) 2, (Z.setN (O.lane_state_now 0) 2).advance 0, 0, 1, rfl, by decide +kernel⟩,
  ⟨Z.setN (O.bank_state 128) 1, (Z.setN (O.bank_state 128) 1).advance 0, 0, 128, rfl, by decide +kernel⟩,
  ⟨Z, Z.advance 0, 0, 0, rfl, by decide +kernel⟩,
  ⟨Z.setN (O.bank_state 2048) 2, (Z.setN (O.bank_state 2048) 2).advance 0, 0, 2048, rfl, by decide +kernel⟩,
  ⟨(Z.setN (O.bank_state 0) 3), ((Z.setN (O.bank_state 0) 3)).advance 0, 0, 0, rfl, by decide +kernel⟩,
  ⟨Z, Z.advance 0, 0, 1, 0, rfl, by decide +kernel⟩,
  ⟨Z, Z.advance 0, 0, 4143, 1, 0, rfl, by decide +kernel⟩,
  ⟨(Z.setN (O.bank_state 4096) 0), ((Z.setN (O.bank_state 4096) 0)).advance 0, 0, 4096, rfl, by decide +kernel⟩,
  ⟨(Z.setN (O.bank_state 0) 1), ((Z.setN (O.bank_state 0) 1)).advance 0, 0, 0, rfl, by decide +kernel⟩⟩

/-- States and operands that meet the hypotheses of each clause of InterconnectEventsComplete. -/
theorem witness_InterconnectEventsComplete :
  (∃ (s : State) (a : State) (t : Nat) (j : Nat), a = s.advance t ∧ a.mem.waiting = [] ∧ a.mem.taken = [] ∧ isBankTarget j = false) ∧
  (∃ (a : State) (r : IcReq), 16 ≤ a.nat (O.ini_outstanding (1 + r.init))) ∧
  (∃ (s : State) (a : State) (t : Nat) (addr : Nat) (v : Nat) (r : IcReq), a = s.advance t ∧ r = ⟨0, 4, 0, true, 0, addr, v, false⟩ ∧ addr < 33554432 ∧ v < 340282366920938463463374607431768211456 ∧ a.mem.waiting = [] ∧ a.mem.taken = [] ∧ a.mem.stalled = [] ∧ a.mem.held = [] ∧ a.mem.locks = [] ∧ a.faults.inject = none ∧ a.nat (O.ini_outstanding 1) < 16) ∧
  (∃ (s : State) (a : State) (t : Nat) (j : Nat), a = s.advance t ∧ ((∀ x ∈ a.mem.taken, x.req.target ≠ j))) ∧
  (∃ (s : State) (a : State) (t : Nat) (x : IcTaken), a = s.advance t ∧ a.mem.taken = [x] ∧ x.req.target = 9 ∧ x.performed = true ∧ a.mem.held = [] ∧ a.mem.waiting = [] ∧ a.mem.stalled = [] ∧ 0 < a.nat (O.ini_outstanding (1 + x.req.init))) ∧
  (∃ (s : State) (a : State) (t : Nat) (j : Nat), a = s.advance t ∧ ((∀ x ∈ a.mem.taken, x.req.target ≠ j)) ∧ ((∀ x ∈ a.mem.waiting, x.req.target ≠ j))) ∧
  (∃ (s : State) (a : State) (t : Nat) (j : Nat) (x : IcTaken), a = s.advance t ∧ a.mem.taken = [x] ∧ x.req.target = j ∧ a.mem.waiting = []) ∧
  (∃ (s : State) (a : State) (t : Nat) (i : Nat) (j : Nat), a = s.advance t ∧ i = 11 ∧ j < 20) ∧
  (∃ (s : State) (a : State) (t : Nat) (i : Nat) (j : Nat), a = s.advance t ∧ i < 11 ∧ j < 20 ∧ a.mem.locks = [] ∧ a.mem.lockWaits = []) ∧
  (∃ (s : State) (a : State) (t : Nat) (i : Nat) (j : Nat) (beats : Nat), a = s.advance t ∧ a.mem.locks = [⟨i, j, beats, false⟩] ∧ beats < 16) ∧
  (∃ (s : State) (a : State) (t : Nat) (i : Nat) (j : Nat) (beats : Nat), a = s.advance t ∧ a.mem.locks = [⟨i, j, beats, false⟩] ∧ 16 ≤ beats ∧ a.mem.lockWaits = []) ∧
  (∃ (i : Nat) (ps : Bytes), i < 12 ∧ (ps.length ≠ 20 ∨ (∃ p ∈ ps, 15 < p.toNat))) ∧
  (∃ (i : Nat) (ps : Bytes) (d : Desc), i < 12 ∧ ps.length = 20 ∧ ((∀ p ∈ ps, p.toNat ≤ 15)) ∧ descOf (O.ini_priorities (1 + i)) = some d) ∧
  (∃ (j : Nat) (ps : Bytes), j < ps.length) :=
  ⟨⟨Z, Z.advance 0, 0, 9, rfl, by decide +kernel⟩,
  ⟨Z.setN (O.ini_outstanding 1) 16, ⟨0, 4, 0, true, 0, 0, 0, false⟩, by decide +kernel⟩,
  ⟨Z, Z.advance 0, 0, 0, 0, ⟨0, 4, 0, true, 0, 0, 0, false⟩, rfl, by decide +kernel⟩,
  ⟨Z, Z.advance 0, 0, 0, rfl, by decide +kernel⟩,
  ⟨{ Z.setN (O.ini_outstanding 1) 1 with mem := { Z.mem with taken := [⟨⟨0, 9, 0, false, 0, 0, 0, false⟩, 1, 0, true, 0⟩] } }, ({ Z.setN (O.ini_outstanding 1) 1 with mem := { Z.mem with taken := [⟨⟨0, 9, 0, false, 0, 0, 0, false⟩, 1, 0, true, 0⟩] } }).advance 0, 0, ⟨⟨0, 9, 0, false, 0, 0, 0, false⟩, 1, 0, true, 0⟩, rfl, by decide +kernel⟩,
  ⟨Z, Z.advance 0, 0, 0, rfl, by decide +kernel⟩,
  ⟨{ Z with mem := { Z.mem with taken := [⟨⟨0, 9, 0, false, 0, 0, 0, false⟩, 1, 0, true, 0⟩] } }, ({ Z with mem := { Z.mem with taken := [⟨⟨0, 9, 0, false, 0, 0, 0, false⟩, 1, 0, true, 0⟩] } }).advance 0, 0, 9, ⟨⟨0, 9, 0, false, 0, 0, 0, false⟩, 1, 0, true, 0⟩, rfl, by decide +kernel⟩,
  ⟨Z, Z.advance 0, 0, 11, 0, rfl, by decide +kernel⟩,
  ⟨Z, Z.advance 0, 0, 0, 0, rfl, by decide +kernel⟩,
  ⟨{ Z with mem := { Z.mem with locks := [⟨0, 1, 15, false⟩] } }, ({ Z with mem := { Z.mem with locks := [⟨0, 1, 15, false⟩] } }).advance 0, 0, 0, 1, 15, rfl, by decide +kernel⟩,
  ⟨{ Z with mem := { Z.mem with locks := [⟨0, 1, 16, false⟩] } }, ({ Z with mem := { Z.mem with locks := [⟨0, 1, 16, false⟩] } }).advance 0, 0, 0, 1, 16, rfl, by decide +kernel⟩,
  ⟨0, [], by decide +kernel⟩,
  ⟨11, zeros 20, (descOf (O.ini_priorities 12)).get (by decide +kernel), by decide +kernel⟩,
  ⟨19, zeros 20, by decide +kernel⟩⟩

/-- States and operands that meet the hypotheses of each clause of FlowWriteRules. -/
theorem witness_FlowWriteRules :
  (∃ (b : State) (fam : Nat) (inst : Nat), ((fam = 0x3700 ∧ 8192 ≤ inst) ∨ (fam = 0x7000 ∧ 4096 ≤ inst)) ∧ b.flag (O.flow_enable fam inst) = true ∧ b.inLull = false) ∧
  (∃ (b : State) (fam : Nat) (inst : Nat), ((fam = 0x3700 ∧ 8192 ≤ inst) ∨ (fam = 0x7000 ∧ 4096 ≤ inst)) ∧ b.inLull = true) ∧
  (∃ (b : State) (inst : Nat), 8192 ≤ inst ∧ inst < 12288 ∧ b.flag (O.flow_enable 0x3700 inst) = false ∧ b.inLull = false ∧ 2048 ≤ b.flowGroup 0x3700 inst) ∧
  (∃ (b : State) (u : State) (inst : Nat), b.enableFlow 0x3700 inst = .ok u ∧ 12288 ≤ inst ∧ b.flag (O.flow_enable 0x3700 inst) = false ∧ b.inLull = false) ∧
  (∃ (b : State) (inst : Nat) (code : Nat) (detail : Nat), 12288 ≤ inst ∧ b.flag (O.flow_enable 0x3700 inst) = false ∧ b.inLull = false ∧ b.enableFlow 0x3700 inst = .error (code, detail)) ∧
  (∃ (b : State) (fam : Nat) (inst : Nat) (l : Nat), l ∈ b.legs fam inst ∧ b.legOk fam inst l = false) ∧
  (∃ (b : State) (u : State) (fam : Nat) (inst : Nat), b.enableFlow fam inst = .ok u) ∧
  (∃ (b : State) (inst : Nat), 2048 ≤ inst ∧ inst < 8192 ∧ b.inLull = false ∧ b.flag (O.grp_enable inst) = true) ∧
  (∃ (b : State) (inst : Nat), 4096 ≤ inst ∧ inst < 8192 ∧ b.flag (O.grp_enable inst) = true) ∧
  (∃ (b : State) (inst : Nat), 4096 ≤ inst ∧ inst < 8192 ∧ b.inLull = false ∧ b.flag (O.grp_enable inst) = false ∧ (b.groupFits true (inst - 4096) = false ∨ b.groupFormat true (inst - 4096) = 0)) ∧
  (∃ (b : State) (inst : Nat) (n : Nat), 12288 ≤ inst ∧ channelsOk (b.nat (O.aflow_encoding 0x3700 inst)) (b.nat (O.aflow_sample_rate 0x3700 inst)) (b.nat (O.aflow_packet_time 0x3700 inst)) n = false) ∧
  (∃ (inst : Nat), 12288 ≤ inst) ∧
  (∃ (b : State) (inst : Nat) (n : Nat), 12288 ≤ inst ∧ n ≠ 0 ∧ channelsOk (b.nat (O.aflow_encoding 0x3700 inst)) (b.nat (O.aflow_sample_rate 0x3700 inst)) (b.nat (O.aflow_packet_time 0x3700 inst)) n = true) ∧
  (∃ (b : State) (inst : Nat) (n : Nat) (x : Nat), b.freeBlock inst n = some x) :=
  ⟨⟨Z.setN (O.flow_enable 0x3700 8192) 1, 0x3700, 8192, by decide +kernel⟩,
  ⟨Z.setN O.pow_lull_state 1, 0x7000, 4096, by decide +kernel⟩,
  ⟨(Z.setN (O.flow_enable 0x3700 8192) 0), 8192, by decide +kernel⟩,
  ⟨ethFlow Z 16384, okOf ((ethFlow Z 16384).enableFlow 0x3700 16384), 16384, rfl, by decide +kernel⟩,
  ⟨Z, 12288, C.range, 0, by decide +kernel⟩,
  ⟨Z, 0, 0, 0, by decide +kernel⟩,
  ⟨ethFlow Z 16384, okOf ((ethFlow Z 16384).enableFlow 0x3700 16384), 0x3700, 16384, rfl⟩,
  ⟨(Z.setN (O.grp_enable 2048) 1), 2048, by decide +kernel⟩,
  ⟨(Z.setN (O.grp_enable 4096) 1), 4096, by decide +kernel⟩,
  ⟨(Z.setN (O.grp_enable 4096) 0), 4096, by decide +kernel⟩,
  ⟨Z, 12288, 9999, by decide +kernel⟩,
  ⟨12288, by decide +kernel⟩,
  ⟨Z, 12288, 1, by decide +kernel⟩,
  ⟨Z, 12288, 8, 32768, by decide +kernel⟩⟩

/-- States and operands that meet the hypotheses of each clause of InterfaceAndReceptionEventsComplete. -/
theorem witness_InterfaceAndReceptionEventsComplete :
  (∃ (s : State) (a : State) (t : Nat) (p : Nat), a = s.advance t ∧ a.laneExists p = true ∧ a.isEth p = true) ∧
  (∃ (s : State) (a : State) (t : Nat) (p : Nat), a = s.advance t ∧ a.isEth p = false) ∧
  (∃ (s : State) (a : State) (t : Nat) (fam : Nat) (inst : Nat) (leg : Nat) (since : Nat), a = s.advance t ∧ a.packet.resolves = [⟨fam, inst, leg, since, none⟩]) ∧
  (∃ (s : State) (a : State) (t : Nat) (p : Nat) (address : Nat), a = s.advance t ∧ a.laneExists p = true ∧ a.isEth p = true ∧ a.nat (O.eth_ipv4_address (1 + p)) = address ∧ address ≠ 0) ∧
  (∃ (s : State) (a : State) (t : Nat) (p : Nat), a = s.advance t ∧ a.laneExists p = true ∧ a.isEth p = true) ∧
  (∃ (s : State) (a : State) (t : Nat) (p : Nat), a = s.advance t ∧ a.isEth p = false) ∧
  (∃ (s : State) (a : State) (t : Nat) (p : Nat), a = s.advance t ∧ a.laneExists p = true ∧ a.isEth p = true ∧ a.packet.members = []) ∧
  (∃ (s : State) (a : State) (t : Nat), a = s.advance t ∧ a.packet.members = []) ∧
  (∃ (s : State) (a : State) (t : Nat) (m : Member), a = s.advance t ∧ a.packet.members = [m] ∧ 0 < m.reports) ∧
  (∃ (s : State) (a : State) (t : Nat) (at' : Nat) (m : Member), a = s.advance t ∧ a.packet.members = [m] ∧ m.leaveAt = some at' ∧ at' ≤ a.now) ∧
  (∃ (s : State) (a : State) (t : Nat) (p : Nat), a = s.advance t ∧ a.laneExists p = true ∧ a.isEth p = true) ∧
  (∃ (s : State) (a : State) (t : Nat) (p : Nat), a = s.advance t ∧ a.nat (O.eth_igmp_querier (1 + p)) ≠ 2) ∧
  (∃ (s : State) (a : State) (t : Nat) (p : Nat), a = s.advance t ∧ a.nat (O.eth_igmp_querier (1 + p)) = 2) ∧
  (∃ (s : State) (a : State) (t : Nat) (pkt : RxPacket), a = s.advance t ∧ a.laneExists pkt.port = true ∧ a.isEth pkt.port = true ∧ a.packet.rx = []) ∧
  (∃ (s : State) (a : State) (t : Nat) (fam : Nat) (inst : Nat) (leg : Nat) (pkt : RxPacket) (r : RxFlow), a = s.advance t ∧ a.isEth pkt.port = false ∧ a.rxOf fam inst = some r ∧ leg ∈ a.legs fam inst ∧ r.fam = fam ∧ r.inst = inst ∧ a.legMatches fam inst leg pkt = true ∧ pkt.payloadType ≠ a.nat (O.flow_payload_type fam inst)) ∧
  (∃ (s : State) (a : State) (t : Nat) (fam : Nat) (inst : Nat), a = s.advance t ∧ a.rxOf fam inst = none) ∧
  (∃ (s : State) (a : State) (t : Nat) (inst : Nat) (seq : Nat) (at' : Nat) (r : RxFlow), a = s.advance t ∧ a.rxOf 0x3700 inst = some r ∧ r.missing = [(seq, at')] ∧ at' + a.nat (O.flow_merge_window 0x3700 inst) ≤ a.now) ∧
  (∃ (s : State) (a : State) (t : Nat) (inst : Nat) (r : RxFlow), a = s.advance t ∧ a.rxOf 0x3700 inst = some r ∧ r.held = []) ∧
  (∃ (s : State) (a : State) (t : Nat) (fam : Nat) (inst : Nat) (leg : Nat) (r : RxFlow), a = s.advance t ∧ a.rxOf fam inst = some r ∧ leg ∉ a.legs fam inst) ∧
  (∃ (s : State) (a : State) (t : Nat) (fam : Nat) (inst : Nat) (at' : Nat) (r : RxFlow), a = s.advance t ∧ a.rxOf fam inst = some r ∧ a.legs fam inst = [0, 1] ∧ r.lastA = some at' ∧ at' + 10000000 ≤ a.now ∧ r.downB = false) ∧
  (∃ (s : State) (a : State) (t : Nat) (fam : Nat) (inst : Nat) (r : RxFlow), a = s.advance t ∧ a.rxOf fam inst = some r ∧ a.packet.rx = [r] ∧ r.fam = fam ∧ r.inst = inst ∧ r.diffs = []) ∧
  (∃ (s : State) (a : State) (t : Nat) (g : Nat), a = s.advance t ∧ a.flag (O.grp_enable (2048 + g)) = false) ∧
  (∃ (s : State) (a : State) (t : Nat) (g : Nat), a = s.advance t ∧ g < 2048 ∧ a.flag (O.grp_enable (2048 + g)) = true) ∧
  (∃ (a : State) (g : Nat) (v : Nat) (r : RxFlow), a.groupMembers false g = [(0x3700, v)] ∧ a.groupVideo false g = [v] ∧ a.rxOf 0x3700 v = some r ∧ r.complete = true) ∧
  (∃ (s : State) (a : State) (t : Nat) (g : Nat), a = s.advance t ∧ g < 2048 ∧ a.flag (O.grp_enable (2048 + g)) = true ∧ a.groupMembers false g = [] ∧ a.groupVideo false g = [] ∧ a.nat (O.src_timing_state (1024 + g)) = 0) ∧
  (∃ (s : State) (a : State) (t : Nat), a = s.advance t ∧ a.nmosWrites = false) ∧
  (∃ (s : State) (a : State) (t : Nat), a = s.advance t ∧ a.nmosWrites = true ∧ a.packet.is05 = []) ∧
  (∃ (s : State) (a : State) (t : Nat), a = s.advance t ∧ a.nmosWrites = true) ∧
  (∃ (s : State) (a : State) (t : Nat) (fam : Nat) (inst : Nat) (at' : Nat) (legs : List Is05Leg), a = s.advance t ∧ a.packet.is05 = [⟨fam, inst, legs, at'⟩] ∧ a.tbNow 0 < at') ∧
  (∃ (s : State) (a : State) (u : State) (t : Nat) (fam : Nat) (inst : Nat) (at' : Nat) (legs : List Is05Leg), a = s.advance t ∧ a.packet.is05 = [⟨fam, inst, legs, at'⟩] ∧ at' ≤ a.tbNow 0 ∧ a.activateIs05 fam inst legs = (0, u) ∧ u.packet.is05 = a.packet.is05) :=
  ⟨⟨eth0 Z, (eth0 Z).advance 0, 0, 0, rfl, by decide +kernel⟩,
  ⟨Z, Z.advance 0, 0, 0, rfl, by decide +kernel⟩,
  ⟨{ Z with packet := { Z.packet with resolves := [⟨0x3700, 10240, 0, 0, none⟩] } }, ({ Z with packet := { Z.packet with resolves := [⟨0x3700, 10240, 0, 0, none⟩] } }).advance 0, 0, 0x3700, 10240, 0, 0, rfl, by decide +kernel⟩,
  ⟨(eth0 Z).setN (O.eth_ipv4_address 1) 5, ((eth0 Z).setN (O.eth_ipv4_address 1) 5).advance 0, 0, 0, 5, rfl, by decide +kernel⟩,
  ⟨eth0 Z, (eth0 Z).advance 0, 0, 0, rfl, by decide +kernel⟩,
  ⟨Z, Z.advance 0, 0, 0, rfl, by decide +kernel⟩,
  ⟨eth0 Z, (eth0 Z).advance 0, 0, 0, rfl, by decide +kernel⟩,
  ⟨Z, Z.advance 0, 0, rfl, by decide +kernel⟩,
  ⟨{ Z with packet := { Z.packet with members := [⟨0x3700, 8192, 0, 1, none⟩] } }, ({ Z with packet := { Z.packet with members := [⟨0x3700, 8192, 0, 1, none⟩] } }).advance 0, 0, ⟨0x3700, 8192, 0, 1, none⟩, rfl, by decide +kernel⟩,
  ⟨{ Z with packet := { Z.packet with members := [⟨0x3700, 8192, 0, 0, some 0⟩] } }, ({ Z with packet := { Z.packet with members := [⟨0x3700, 8192, 0, 0, some 0⟩] } }).advance 0, 0, 0, ⟨0x3700, 8192, 0, 0, some 0⟩, rfl, by decide +kernel⟩,
  ⟨eth0 Z, (eth0 Z).advance 0, 0, 0, rfl, by decide +kernel⟩,
  ⟨Z, Z.advance 0, 0, 0, rfl, by decide +kernel⟩,
  ⟨(Z.setN (O.eth_igmp_querier (1 + 0)) 2), ((Z.setN (O.eth_igmp_querier (1 + 0)) 2)).advance 0, 0, 0, rfl, by decide +kernel⟩,
  ⟨eth0 Z, (eth0 Z).advance 0, 0, pk0, rfl, by decide +kernel⟩,
  ⟨(rxUp Z rx0).setN (O.flow_a_port 0x3700 8192) 0, ((rxUp Z rx0).setN (O.flow_a_port 0x3700 8192) 0).advance 0, 0, 0x3700, 8192, 0, { pk0 with payloadType := 95, dstAddr := Z.oct (O.flow_a_address 0x3700 8192), udp := Z.nat (O.flow_a_udp 0x3700 8192), vlan := Z.nat (O.eth_vlan 1) }, rx0, rfl, by decide +kernel⟩,
  ⟨Z, Z.advance 0, 0, 0, 0, rfl, by decide +kernel⟩,
  ⟨rxUp Z { rx0 with missing := [(5, 0)] }, (rxUp Z { rx0 with missing := [(5, 0)] }).advance 1000000000, 1000000000, 8192, 5, 0, { rx0 with missing := [(5, 0)] }, rfl, by decide +kernel⟩,
  ⟨rxUp Z rx0, (rxUp Z rx0).advance 0, 0, 8192, rx0, rfl, by decide +kernel⟩,
  ⟨rxUp Z rx0, (rxUp Z rx0).advance 0, 0, 0x3700, 8192, 1, rx0, rfl, by decide +kernel⟩,
  ⟨(rxUp Z { rx0 with lastA := some 0 }).setN (O.flow_b_port 0x3700 8192) 4, ((rxUp Z { rx0 with lastA := some 0 }).setN (O.flow_b_port 0x3700 8192) 4).advance 10000000, 10000000, 0x3700, 8192, 0, { rx0 with lastA := some 0 }, rfl, by decide +kernel⟩,
  ⟨rxUp Z rx0, (rxUp Z rx0).advance 0, 0, 0x3700, 8192, rx0, rfl, by decide +kernel⟩,
  ⟨(Z.setN (O.grp_enable (2048 + 0)) 0), ((Z.setN (O.grp_enable (2048 + 0)) 0)).advance 0, 0, 0, rfl, by decide +kernel⟩,
  ⟨(Z.setN (O.grp_enable (2048 + 0)) 1), ((Z.setN (O.grp_enable (2048 + 0)) 1)).advance 0, 0, 0, rfl, by decide +kernel⟩,
  ⟨(rxUp Z { rx0 with held := [⟨0, 0, true, some 0, none, 0⟩], top := some 0 }).setN (O.flow_group 0x3700 8192) 3, 3, 8192, { rx0 with held := [⟨0, 0, true, some 0, none, 0⟩], top := some 0 }, by decide +kernel⟩,
  ⟨((Z.setN (O.grp_enable (2048 + 0)) 1).setN (O.src_timing_state (1024 + 0)) 0), (((Z.setN (O.grp_enable (2048 + 0)) 1).setN (O.src_timing_state (1024 + 0)) 0)).advance 0, 0, 0, rfl, by decide +kernel⟩,
  ⟨Z, Z.advance 0, 0, rfl, by decide +kernel⟩,
  ⟨nmosOn Z, (nmosOn Z).advance 0, 0, rfl, by decide +kernel⟩,
  ⟨nmosOn Z, (nmosOn Z).advance 0, 0, rfl, by decide +kernel⟩,
  ⟨{ Z with packet := { Z.packet with is05 := [⟨0x3700, 8192, [], 5⟩] } }, ({ Z with packet := { Z.packet with is05 := [⟨0x3700, 8192, [], 5⟩] } }).advance 0, 0, 0x3700, 8192, 5, [], rfl, by decide +kernel⟩,
  ⟨{ eth0 Z with packet := { Z.packet with is05 := [⟨0x3700, 8192, [⟨0, zeros 16, zeros 16, 5004, false⟩], 0⟩] } }, ({ eth0 Z with packet := { Z.packet with is05 := [⟨0x3700, 8192, [⟨0, zeros 16, zeros 16, 5004, false⟩], 0⟩] } }).advance 0, (State.activateIs05 (({ eth0 Z with packet := { Z.packet with is05 := [⟨0x3700, 8192, [⟨0, zeros 16, zeros 16, 5004, false⟩], 0⟩] } } : State).advance 0) 0x3700 8192 [⟨0, zeros 16, zeros 16, 5004, false⟩]).2, 0, 0x3700, 8192, 0, [⟨0, zeros 16, zeros 16, 5004, false⟩], rfl, by decide +kernel⟩⟩

/-- States and operands that meet the hypotheses of each clause of SwitchingWriteRules. -/
theorem witness_SwitchingWriteRules :
  (∃ (slot : Nat), slot ≠ 0) ∧
  (∃ (b : State) (slot : Nat) (x : Session), b.session slot = some x) ∧
  (∃ (role : Nat) (key : Bytes), role < 4 ∧ key.all (fun x => x = 0) = true) ∧
  (∃ (role : Nat) (key : Bytes), role < 4 ∧ key.all (fun x => x = 0) = false) ∧
  (∃ (b : State) (slot : Nat), b.nat (O.take_state slot) = 0) ∧
  (∃ (b : State) (slot : Nat), (b.nat (O.take_state slot) = 4 ∨ b.nat (O.take_state slot) = 5)) ∧
  (∃ (b : State) (slot : Nat), 6 ≤ b.nat (O.take_state slot) ∧ b.nat (O.take_state slot) ≤ 8) ∧
  (∃ (b : State) (slot : Nat) (r : TakeRec), 1 ≤ b.nat (O.take_state slot) ∧ b.nat (O.take_state slot) ≤ 3 ∧ b.sw.takes.find? (fun r => r.slot = slot) = some r) ∧
  (∃ (b : State) (code : Nat) (i : Nat) (list : Bytes), b.judgeList [] 0 (takePieces list) = some (code, i)) ∧
  (∃ (b : State) (list : Bytes), b.judgeList [] 0 (takePieces list) = none) ∧
  (∃ (b : State) (k : Nat), b.salvoIdle k = false) ∧
  (∃ (b : State) (k : Nat), 1 ≤ k ∧ k ≤ 256 ∧ b.salvoIdle k = true) ∧
  (∃ (b : State) (h : Nat) (g : Nat), h ≠ 0 ∧ b.nat (O.hint_action h) = 0 ∧ g ∈ b.hints (b.nat (O.hint_kind h)) [b.normId (b.nat (O.hint_subject h))] ∧ g ≠ h ∧ b.nat (O.hint_action g) = 0 ∧ b.nat (O.hint_value g) ≠ b.nat (O.hint_value h)) ∧
  (∃ (b : State) (h : Nat), h ≠ 0 ∧ b.nat (O.hint_action h) ≠ 0) ∧
  (∃ (h : Nat), h ≠ 0) ∧
  (∃ (b : State) (dst : Nat) (code : Nat), dst ≠ none32 ∧ b.judgeDst dst = .error code) ∧
  (∃ (b : State) (dst : Nat) (d : Dst), dst ≠ none32 ∧ b.judgeDst dst = .ok d ∧ d.ess ≠ .video) ∧
  (∃ (b : State) (x : Nat) (dst : Nat) (d : Dst) (r : Route), dst ≠ none32 ∧ b.judgeDst dst = .ok d ∧ d.ess = .video ∧ b.route d = some r ∧ idIdx r.pl.src = x) :=
  ⟨⟨1, by decide +kernel⟩,
  ⟨{ Z with proto := { Z.proto with sessions := [ses0] } }, 1, ses0, by decide +kernel⟩,
  ⟨0, [], by decide +kernel⟩,
  ⟨0, zeros 31 ++ [1], by decide +kernel⟩,
  ⟨(Z.setN (O.take_state 0) 0), 0, by decide +kernel⟩,
  ⟨(Z.setN (O.take_state 0) 4), 0, by decide +kernel⟩,
  ⟨(Z.setN (O.take_state 0) 6), 0, by decide +kernel⟩,
  ⟨{ Z.setN (O.take_state 1) 2 with sw := { Z.sw with takes := [tr0] } }, 1, tr0, by decide +kernel⟩,
  ⟨Z, C.range, 0, [0], by decide +kernel⟩,
  ⟨Z, [], by decide +kernel⟩,
  ⟨Z, 0, by decide +kernel⟩,
  ⟨Z, 1, by decide +kernel⟩,
  ⟨((((((Z.setN (O.hint_value 256) 1).setN (O.hint_value 257) 2).setN (O.hint_enable 257) 1).setN (O.hint_subject 256) 5).setN (O.hint_subject 257) 5).setN (O.hint_action 256) 0).setN (O.hint_action 257) 0, 256, 257, by decide +kernel⟩,
  ⟨(Z.setN (O.hint_action 1) 1), 1, by decide +kernel⟩,
  ⟨1, by decide +kernel⟩,
  ⟨Z, 0, C.type, by decide +kernel⟩,
  ⟨Z, mkId 1023 2 1 0, ⟨.anc, 0⟩, by decide +kernel⟩,
  ⟨{ Z with sw := { Z.sw with routes := [{ rt0 with pl := { pl0 with src := 3200 } }] } }, 3200, mkId 1023 0 1 0, ⟨.video, 0⟩, { rt0 with pl := { pl0 with src := 3200 } }, by decide +kernel⟩⟩

/-- States and operands that meet the hypotheses of each clause of TakeAndCrossChipEventsComplete. -/
theorem witness_TakeAndCrossChipEventsComplete :
  (∃ (s : State) (a : State) (t : Nat) (task : Task), a = s.advance t ∧ a.placer.running = none ∧ a.standby = false ∧ a.nextTask = some task) ∧
  (∃ (s : State) (a : State) (t : Nat), a = s.advance t ∧ (a.placer.running ≠ none ∨ a.standby = true ∨ a.nextTask = none)) ∧
  (∃ (task : Task), ((∀ d, task ≠ .restore d))) ∧
  (∃ (s : State) (a : State) (t : Nat) (task : Task) (v : Verdict), a = s.advance t ∧ a.placer.running = some (task, v)) ∧
  (∃ (s : State) (a : State) (t : Nat) (n : Nat) (code : Nat) (detail : Nat) (i : Nat) (r : TakeRec), a = s.advance t ∧ a.placer.running = some (.take n, .refused code detail i) ∧ a.taskOver.takeOf n = some r) ∧
  (∃ (s : State) (a : State) (t : Nat), a = s.advance t ∧ a.placer.running = none) ∧
  (∃ (a : State) (num : Nat) (inst : Nat) (r : TakeRec), a.takeOf num = some r ∧ r.part = none ∧ r.inst = some inst) ∧
  (∃ (a : State) (num : Nat) (r : TakeRec) (pl : Placement), a.takeOf num = some r ∧ r.pl = some pl ∧ ¬(r.dst.ess = .video ∧ 3072 ≤ r.dst.idx)) ∧
  (∃ (a : State) (d : Dst) (src : Nat) (pl : Placement), a.route d = none ∧ pl.src = src) ∧
  (∃ (s : State) (a : State) (t : Nat), a = s.advance t ∧ 256 ≤ a.queued) ∧
  (∃ (s : State) (a : State) (t : Nat) (meshIn : Nat) (meshOut : Nat), a = s.advance t ∧ a.queued < 256 ∧ a.standby = false ∧ meshIn < 1024 ∧ 1024 ≤ meshOut) ∧
  (∃ (s : State) (a : State) (t : Nat) (head : Nat) (ident : Nat) (r : Reserve), a = s.advance t ∧ a.reserveOf head ident = some r) ∧
  (∃ (s : State) (a : State) (t : Nat) (head : Nat) (ident : Nat), a = s.advance t ∧ a.reserveOf head ident = none) ∧
  (∃ (a : State) (g : Nat) (mbps : Nat) (limit : Nat) (src : Nat) (dst : Nat) (p : List MeshHop), p ∈ a.meshPaths g mbps limit src dst) ∧
  (∃ (a : State) (dst : Nat) (src : Nat), ((∀ g, a.commonGroup (pairOf (idChip dst)) (pairOf (idChip src)) = some g → a.headOf g ≠ a.chipId))) ∧
  (∃ (a : State) (chip : Nat) (ident : Nat) (r : HeadRoute) (parts : List RoutePart) (rest : List (List RoutePart)) (p : RoutePart), a.headRoute ident = some r ∧ r.cands = parts :: rest ∧ parts[r.got]? = some p ∧ p.chip = chip ∧ r.got + 1 < parts.length) ∧
  (∃ (a : State) (chip : Nat) (ident : Nat) (r : HeadRoute) (parts : List RoutePart) (rest : List (List RoutePart)) (p : RoutePart), a.headRoute ident = some r ∧ r.cands = parts :: rest ∧ parts[r.got]? = some p ∧ p.chip = chip ∧ r.got + 1 = parts.length) ∧
  (∃ (a : State) (chip : Nat) (ident : Nat) (code : Nat) (r : HeadRoute) (parts : List RoutePart) (p : RoutePart), a.headRoute ident = some r ∧ r.ident = ident ∧ r.cands = [parts] ∧ parts[r.got]? = some p ∧ p.chip = chip ∧ code ≠ 0 ∧ r.asker ≠ a.chipId) ∧
  (∃ (a : State) (task : Task), ((∀ r ∈ (a.startTask task).startedTakes, (a.startTask task).idHere r.src = true))) ∧
  (∃ (a : State) (task : Task) (v : Verdict), ((∀ ident pl, task ≠ .reserve (a.completeTask task v).chipId ident pl))) :=
  ⟨⟨{ Z with placer := { Z.placer with queue := [.take 1] } }, ({ Z with placer := { Z.placer with queue := [.take 1] } }).advance 0, 0, (.take 1), rfl, by decide +kernel⟩,
  ⟨Z, Z.advance 0, 0, rfl, by decide +kernel⟩,
  ⟨.take 1, by intro d h; cases h⟩,
  ⟨{ Z with placer := { Z.placer with running := some (.take 1, .refused 1 0 0) } }, ({ Z with placer := { Z.placer with running := some (.take 1, .refused 1 0 0) } }).advance 0, 0, (.take 1), (.refused 1 0 0), rfl, by decide +kernel⟩,
  ⟨{ Z with placer := { Z.placer with running := some (.take 1, .refused 1 0 0) }, sw := { Z.sw with takes := [tr0] } }, ({ Z with placer := { Z.placer with running := some (.take 1, .refused 1 0 0) }, sw := { Z.sw with takes := [tr0] } }).advance 0, 0, 1, 1, 0, 0, tr0, rfl, by decide +kernel⟩,
  ⟨Z, Z.advance 0, 0, rfl, by decide +kernel⟩,
  ⟨{ Z with sw := { Z.sw with takes := [{ tr0 with inst := some 5 }] } }, 1, 5, { tr0 with inst := some 5 }, by decide +kernel⟩,
  ⟨{ Z with sw := { Z.sw with takes := [{ tr0 with pl := some pl0 }] } }, 1, { tr0 with pl := some pl0 }, pl0, by decide +kernel⟩,
  ⟨Z, ⟨.video, 0⟩, 0, pl0, by decide +kernel⟩,
  ⟨{ Z with placer := { Z.placer with queue := List.replicate 256 (.take 1) } }, ({ Z with placer := { Z.placer with queue := List.replicate 256 (.take 1) } }).advance 0, 0, rfl, by decide +kernel⟩,
  ⟨Z, Z.advance 0, 0, 0, 1024, rfl, by decide +kernel⟩,
  ⟨{ Z with placer := { Z.placer with reserves := [⟨0, 1, pl0, 0, false⟩] } }, ({ Z with placer := { Z.placer with reserves := [⟨0, 1, pl0, 0, false⟩] } }).advance 10000000, 10000000, 0, 1, ⟨0, 1, pl0, 0, false⟩, rfl, by decide +kernel⟩,
  ⟨Z, Z.advance 0, 0, 0, 0, rfl, by decide +kernel⟩,
  ⟨linked, 1, 15000, 1, 0, 2, [⟨0, 7, 2, 5⟩], by decide +kernel⟩,
  ⟨Z, 0, 0, by decide +kernel⟩,
  ⟨withHead Z [[⟨2, 5, 1024⟩, ⟨0, 1024, 7⟩]] 0, 2, 1, ⟨1, 2, mkId 2 0 1 0, mkId 0 0 0 0, 1000, [[⟨2, 5, 1024⟩, ⟨0, 1024, 7⟩]], 0⟩, [⟨2, 5, 1024⟩, ⟨0, 1024, 7⟩], [], ⟨2, 5, 1024⟩, by decide +kernel⟩,
  ⟨withHead Z [[⟨2, 5, 1024⟩, ⟨0, 1024, 7⟩]] 1, 0, 1, ⟨1, 2, mkId 2 0 1 0, mkId 0 0 0 0, 1000, [[⟨2, 5, 1024⟩, ⟨0, 1024, 7⟩]], 1⟩, [⟨2, 5, 1024⟩, ⟨0, 1024, 7⟩], [], ⟨0, 1024, 7⟩, by decide +kernel⟩,
  ⟨withHead Z [[⟨2, 5, 1024⟩, ⟨0, 1024, 7⟩]] 1, 0, 1, 1, ⟨1, 2, mkId 2 0 1 0, mkId 0 0 0 0, 1000, [[⟨2, 5, 1024⟩, ⟨0, 1024, 7⟩]], 1⟩, [⟨2, 5, 1024⟩, ⟨0, 1024, 7⟩], ⟨0, 1024, 7⟩, by decide +kernel⟩,
  ⟨Z, (.take 1), by decide +kernel⟩,
  ⟨Z, .take 1, (.refused 1 0 0), by intro i p h; cases h⟩⟩

/-- States and operands that meet the hypotheses of each clause of SalvoEventsComplete. -/
theorem witness_SalvoEventsComplete :
  (∃ (s : State) (a : State) (t : Nat) (coord : Nat) (slot : Nat), a = s.advance t ∧ (a.standby = true ∨ (a.part coord slot).isSome = true)) ∧
  (∃ (s : State) (a : State) (t : Nat) (coord : Nat) (slot : Nat) (es : List (TakeEntry × Nat)), a = s.advance t ∧ a.standby = false ∧ a.part coord slot = none ∧ ((∀ e ∈ es, a.salvoHeld ⟨essOf (idEss e.1.dst), idIdx e.1.dst⟩ = false))) ∧
  (∃ (a : State) (k : Nat) (pair : Nat) (x : Salvo), a.salvo k = some x ∧ (pair, 0) ∈ x.parts ∧ ((∀ p ∈ x.parts, p.1 ≠ pair → p.2 ≠ 0))) ∧
  (∃ (s : State) (a : State) (t : Nat) (slot : Nat) (x : Salvo), a = s.advance t ∧ a.salvo slot = some x ∧ (x.onCommand = true ∨ a.tbNow x.tb < x.p)) ∧
  (∃ (s : State) (a : State) (t : Nat) (slot : Nat) (x : Salvo), a = s.advance t ∧ a.salvo slot = some x ∧ x.onCommand = false ∧ x.p ≤ a.tbNow x.tb ∧ x.decided = none ∧ a.nat (O.salvo_state slot) ≠ 4) ∧
  (∃ (a : State) (k : Nat) (cause : Nat) (x : Salvo), a.salvo k = some x ∧ ((∀ p ∈ x.parts, p.1 = a.pairId)) ∧ a.part a.chipId k = none ∧ cause ≠ 3 ∧ a.mirroring = false) ∧
  (∃ (s : State) (a : State) (t : Nat) (slot : Nat) (x : Salvo), a = s.advance t ∧ a.salvo slot = some x) ∧
  (∃ (s : State) (a : State) (t : Nat) (slot : Nat) (at' : Nat) (x : Salvo), a = s.advance t ∧ a.salvo slot = some x ∧ x.decided = some at') ∧
  (∃ (s : State) (a : State) (t : Nat) (slot : Nat) (x : Salvo), a = s.advance t ∧ a.salvo slot = some x ∧ x.decided = none) ∧
  (∃ (s : State) (a : State) (t : Nat) (slot : Nat), a = s.advance t ∧ a.salvo slot = none) ∧
  (∃ (a : State) (k : Nat) (pair : Nat) (x : Salvo), a.salvo k = some x ∧ x.parts = [(pair, 1)]) ∧
  (∃ (s : State) (a : State) (t : Nat) (coord : Nat) (slot : Nat) (p : Part), a = s.advance t ∧ a.part coord slot = some p ∧ p.state = 2) ∧
  (∃ (s : State) (a : State) (t : Nat) (coord : Nat) (slot : Nat) (p : Part), a = s.advance t ∧ a.part coord slot = some p ∧ p.state ≠ 2) ∧
  (∃ (s : State) (a : State) (t : Nat) (coord : Nat) (slot : Nat) (p : Part), a = s.advance t ∧ a.part coord slot = some p ∧ p.state = 1 ∧ coord % 2 = 0) ∧
  (∃ (s : State) (a : State) (t : Nat) (coord : Nat) (slot : Nat) (p : Part), a = s.advance t ∧ a.part coord slot = some p ∧ p.state = 1) ∧
  (∃ (s : State) (a : State) (t : Nat) (coord : Nat) (slot : Nat), a = s.advance t ∧ a.part coord slot = none) ∧
  (∃ (s : State) (a : State) (t : Nat) (slot : Nat) (until' : Nat), a = s.advance t ∧ a.salvos.kept = [(slot, until')]) :=
  ⟨⟨sby Z, (sby Z).advance 0, 0, 0, 0, rfl, by decide +kernel⟩,
  ⟨Z, Z.advance 0, 0, 0, 1, [], rfl, by decide +kernel⟩,
  ⟨{ Z with salvos := { Z.salvos with own := [{ sv0 with parts := [(0, 0), (2, 1)] }] } }, 1, 0, { sv0 with parts := [(0, 0), (2, 1)] }, by decide +kernel⟩,
  ⟨{ Z with salvos := { Z.salvos with own := [{ sv0 with onCommand := true }] } }, ({ Z with salvos := { Z.salvos with own := [{ sv0 with onCommand := true }] } }).advance 0, 0, 1, { sv0 with onCommand := true }, rfl, by decide +kernel⟩,
  ⟨{ Z with salvos := { Z.salvos with own := [sv0] } }, ({ Z with salvos := { Z.salvos with own := [sv0] } }).advance 0, 0, 1, sv0, rfl, by decide +kernel⟩,
  ⟨{ Z with salvos := { Z.salvos with own := [sv0] } }, 1, 1, sv0, by decide +kernel⟩,
  ⟨{ Z with salvos := { Z.salvos with own := [sv0] } }, ({ Z with salvos := { Z.salvos with own := [sv0] } }).advance 0, 0, 1, sv0, rfl, by decide +kernel⟩,
  ⟨{ Z with salvos := { Z.salvos with own := [{ sv0 with decided := some 0 }] } }, ({ Z with salvos := { Z.salvos with own := [{ sv0 with decided := some 0 }] } }).advance 5000, 5000, 1, 0, { sv0 with decided := some 0 }, rfl, by decide +kernel⟩,
  ⟨{ Z with salvos := { Z.salvos with own := [sv0] } }, ({ Z with salvos := { Z.salvos with own := [sv0] } }).advance 0, 0, 1, sv0, rfl, by decide +kernel⟩,
  ⟨Z, Z.advance 0, 0, 0, rfl, by decide +kernel⟩,
  ⟨{ Z with salvos := { Z.salvos with own := [{ sv0 with parts := [(2, 1)] }] } }, 1, 2, { sv0 with parts := [(2, 1)] }, by decide +kernel⟩,
  ⟨{ Z with salvos := { Z.salvos with parts := [{ pt0 with state := 2 }] } }, ({ Z with salvos := { Z.salvos with parts := [{ pt0 with state := 2 }] } }).advance 0, 0, 0, 1, { pt0 with state := 2 }, rfl, by decide +kernel⟩,
  ⟨{ Z with salvos := { Z.salvos with parts := [pt0] } }, ({ Z with salvos := { Z.salvos with parts := [pt0] } }).advance 0, 0, 0, 1, pt0, rfl, by decide +kernel⟩,
  ⟨{ Z with salvos := { Z.salvos with parts := [pt0] } }, ({ Z with salvos := { Z.salvos with parts := [pt0] } }).advance 0, 0, 0, 1, pt0, rfl, by decide +kernel⟩,
  ⟨{ Z with salvos := { Z.salvos with parts := [pt0] } }, ({ Z with salvos := { Z.salvos with parts := [pt0] } }).advance 0, 0, 0, 1, pt0, rfl, by decide +kernel⟩,
  ⟨Z, Z.advance 0, 0, 0, 0, rfl, by decide +kernel⟩,
  ⟨{ Z with salvos := { Z.salvos with kept := [(1, 0)] } }, ({ Z with salvos := { Z.salvos with kept := [(1, 0)] } }).advance 0, 0, 1, 0, rfl, by decide +kernel⟩⟩

/-- States and operands that meet the hypotheses of each clause of SourceEventsComplete. -/
theorem witness_SourceEventsComplete :
  (∃ (s : State) (a : State) (t : Nat) (x : Nat), a = s.advance t ∧ x < 4096 ∧ a.fusedOff ⟨0x3000, x, 0⟩ = false ∧ a.vsrcRuns x = true) ∧
  (∃ (s : State) (a : State) (t : Nat) (x : Nat), a = s.advance t ∧ (4096 ≤ x ∨ a.fusedOff ⟨0x3000, x, 0⟩ = true ∨ a.vsrcRuns x = false)) ∧
  (∃ (s : State) (a : State) (t : Nat) (x : Nat) (r : SrcTiming), a = s.advance t ∧ a.srcTiming x = some r ∧ a.now < r.last + 2 * framePeriod (a.vsrcFormat x)) ∧
  (∃ (s : State) (a : State) (t : Nat) (x : Nat) (r : SrcTiming), a = s.advance t ∧ a.srcTiming x = some r ∧ r.last + 2 * framePeriod (a.vsrcFormat x) ≤ a.now) ∧
  (∃ (s : State) (a : State) (t : Nat) (x : Nat), a = s.advance t ∧ a.srcTiming x = none) ∧
  (∃ (s : State) (a : State) (t : Nat) (d : Nat) (line : Nat), a = s.advance t ∧ line ≠ 1 ∧ (a.route ⟨.video, d⟩ = none ∨ a.safe = true) ∧ 1024 ≤ d) ∧
  (∃ (s : State) (a : State) (t : Nat) (d : Nat) (line : Nat), a = s.advance t ∧ line ≠ 1 ∧ d < 1024 ∧ a.ready = true ∧ a.laneExists d = true ∧ a.isSdi d = true) ∧
  (∃ (s : State) (a : State) (t : Nat) (d : Nat) (line : Nat) (r : Route), a = s.advance t ∧ line ≠ 1 ∧ a.route ⟨.video, d⟩ = some r ∧ a.safe = false) ∧
  (∃ (s : State) (a : State) (t : Nat) (d : Nat) (line : Nat) (r : Route), a = s.advance t ∧ line ≠ 1 ∧ a.route ⟨.video, d⟩ = some r ∧ a.safe = false ∧ a.broken r.pl = false ∧ a.outputResets d r.pl = false ∧ a.formatClash d r.pl = false ∧ a.realigning (a.nat (O.dst_time_base d)) (a.nat (O.dst_format d)) (a.int (O.dst_timing_offset d)) = false ∧ Machine.bit (a.mark d) 0 = true) ∧
  (∃ (a : State) (d : Nat) (line : Nat), d < 1024 ∧ a.natNow (O.dst_format d) ≠ 0 ∧ a.natNow (O.sdi_tc_mode d) = 1 ∧ line ∈ (insertLines (a.natNow (O.dst_format d))).2.2) ∧
  (∃ (a : State) (pl : Placement), pl.store ≠ none ∧ a.sourceSilent pl = true) :=
  ⟨⟨Z, Z.advance 0, 0, 0, rfl, by decide +kernel⟩,
  ⟨Z, Z.advance 0, 0, 4096, rfl, by decide +kernel⟩,
  ⟨{ Z.setN (O.src_format_detected 0) 1 with sw := { Z.sw with timing := [⟨0, 0, 0, []⟩] } }, ({ Z.setN (O.src_format_detected 0) 1 with sw := { Z.sw with timing := [⟨0, 0, 0, []⟩] } }).advance 0, 0, 0, ⟨0, 0, 0, []⟩, rfl, by decide +kernel⟩,
  ⟨{ Z.setN (O.src_format_detected 0) 1 with sw := { Z.sw with timing := [⟨0, 0, 0, []⟩] } }, ({ Z.setN (O.src_format_detected 0) 1 with sw := { Z.sw with timing := [⟨0, 0, 0, []⟩] } }).advance 1000000000, 1000000000, 0, ⟨0, 0, 0, []⟩, rfl, by decide +kernel⟩,
  ⟨Z, Z.advance 0, 0, 0, rfl, by decide +kernel⟩,
  ⟨Z, Z.advance 0, 0, 1024, 0, rfl, by decide +kernel⟩,
  ⟨rdy Z, (rdy Z).advance 0, 0, 1023, 0, rfl, by decide +kernel⟩,
  ⟨withRoute Z rt0, (withRoute Z rt0).advance 0, 0, 0, 0, rt0, rfl, by decide +kernel⟩,
  ⟨withRoute { Z with sw := { Z.sw with marks := [(0, 1)] } } rt0, (withRoute { Z with sw := { Z.sw with marks := [(0, 1)] } } rt0).advance 0, 0, 0, 0, rt0, rfl, by decide +kernel⟩,
  ⟨(Z.setN (O.dst_format 0) 19).setN (O.sdi_tc_mode 0) 1, 0, 9, by decide +kernel⟩,
  ⟨Z, { pl0 with store := some 0, src := mkId 1023 0 0 0 }, by decide +kernel⟩⟩

/-- States and operands that meet the hypotheses of each clause of StoreEventsComplete. -/
theorem witness_StoreEventsComplete :
  (∃ (s : State) (a : State) (t : Nat) (i : Nat) (x : StoreRec), a = s.advance t ∧ a.storeOf i = some x ∧ (x.state ≠ 1 ∨ x.frames = [])) ∧
  (∃ (s : State) (a : State) (t : Nat) (i : Nat) (x : StoreRec), a = s.advance t ∧ a.storeOf i = some x ∧ x.state = 1 ∧ x.frames ≠ [] ∧ a.sw.takes = [] ∧ ((∀ r ∈ a.sw.routes, r.pl.path ≠ 4))) ∧
  (∃ (s : State) (a : State) (t : Nat) (i : Nat) (x : StoreRec) (r : TakeRec), a = s.advance t ∧ a.storeOf i = some x ∧ x.state = 1 ∧ x.frames ≠ [] ∧ a.sw.takes = [r] ∧ r.state = 2 ∧ r.pl.bind (fun p => p.store) = some i ∧ a.sw.routes = []) ∧
  (∃ (a : State) (d : Nat) (i : Nat) (r : Route) (x : StoreRec), a.route ⟨.video, d⟩ = some r ∧ r.pl.store = some i ∧ a.storeOf i = some x ∧ r.pl.path = 2 ∧ x.state ≠ 1) ∧
  (∃ (a : State) (d : Nat) (i : Nat) (r : Route) (x : StoreRec), a.route ⟨.video, d⟩ = some r ∧ r.pl.store = some i ∧ a.storeOf i = some x ∧ x.state = 1) ∧
  (∃ (s : State) (a : State) (t : Nat) (i : Nat) (j : Nat) (x : StoreRec) (y : StoreRec), a = s.advance t ∧ a.storeOf i = some x ∧ x.deeper = some j ∧ a.storeOf j = some y ∧ y.frames ≠ [] ∧ y.state ≠ 1) ∧
  (∃ (s : State) (a : State) (t : Nat) (i : Nat) (x : StoreRec), a = s.advance t ∧ a.storeOf i = some x ∧ x.deeper = none) ∧
  (∃ (s : State) (a : State) (t : Nat) (i : Nat), a = s.advance t ∧ a.storeOf i = none) ∧
  (∃ (s : State) (a : State) (t : Nat) (word : Nat), a = s.advance t ∧ a.faults.inject = none ∧ decodeWord word = .good) ∧
  (∃ (s : State) (a : State) (t : Nat) (word : Nat) (j : Nat), a = s.advance t ∧ a.faults.inject = none ∧ decodeWord word = .corrected j) ∧
  (∃ (s : State) (a : State) (t : Nat) (word : Nat) (d : Nat) (kind3 : Bool), a = s.advance t ∧ a.faults.inject = none ∧ (kind3 = true ∨ decodeWord word = .uncorrectable) ∧ d < 3072) ∧
  (∃ (s : State) (a : State) (t : Nat) (k : Nat) (word : Nat), a = s.advance t ∧ k < 4 ∧ a.faults.inject = none ∧ decodeWord word = .good) ∧
  (∃ (s : State) (a : State) (t : Nat) (k : Nat) (word : Nat) (j : Nat), a = s.advance t ∧ k < 4 ∧ a.faults.inject = none ∧ decodeWord word = .corrected j) ∧
  (∃ (s : State) (a : State) (t : Nat) (k : Nat), a = s.advance t ∧ 4 ≤ k) ∧
  (∃ (s : State) (a : State) (t : Nat) (k : Nat), a = s.advance t ∧ k < 4) ∧
  (∃ (s : State) (a : State) (t : Nat) (k : Nat), a = s.advance t ∧ k < 4) ∧
  (∃ (s : State) (a : State) (t : Nat) (k : Nat), a = s.advance t ∧ 4 ≤ k) :=
  ⟨⟨withStores Z [{ st0 with frames := [] }], (withStores Z [{ st0 with frames := [] }]).advance 0, 0, 0, { st0 with frames := [] }, rfl, by decide +kernel⟩,
  ⟨withStores Z [st0], (withStores Z [st0]).advance 0, 0, 0, st0, rfl, by decide +kernel⟩,
  ⟨{ withStores Z [st0] with sw := { (withStores Z [st0]).sw with takes := [{ tr0 with pl := some { pl0 with store := some 0 } }] } }, ({ withStores Z [st0] with sw := { (withStores Z [st0]).sw with takes := [{ tr0 with pl := some { pl0 with store := some 0 } }] } }).advance 0, 0, 0, st0, { tr0 with pl := some { pl0 with store := some 0 } }, rfl, by decide +kernel⟩,
  ⟨withStores (withRoute Z (stRt 2)) [{ st0 with state := 2 }], 0, 0, stRt 2, { st0 with state := 2 }, by decide +kernel⟩,
  ⟨withStores (withRoute Z (stRt 2)) [st0], 0, 0, stRt 2, st0, by decide +kernel⟩,
  ⟨withStores Z [{ st0 with deeper := some 1 }, { st0 with i := 1, state := 2 }], (withStores Z [{ st0 with deeper := some 1 }, { st0 with i := 1, state := 2 }]).advance 0, 0, 0, 1, { st0 with deeper := some 1 }, { st0 with i := 1, state := 2 }, rfl, by decide +kernel⟩,
  ⟨withStores Z [st0], (withStores Z [st0]).advance 0, 0, 0, st0, rfl, by decide +kernel⟩,
  ⟨Z, Z.advance 0, 0, 0, rfl, by decide +kernel⟩,
  ⟨Z, Z.advance 0, 0, 0, rfl, by decide +kernel⟩,
  ⟨Z, Z.advance 0, 0, 1, 0, rfl, by decide +kernel⟩,
  ⟨Z, Z.advance 0, 0, 17, 3071, false, rfl, by decide +kernel⟩,
  ⟨Z, Z.advance 0, 0, 0, 0, rfl, by decide +kernel⟩,
  ⟨Z, Z.advance 0, 0, 3, 1, 0, rfl, by decide +kernel⟩,
  ⟨Z, Z.advance 0, 0, 4, rfl, by decide +kernel⟩,
  ⟨Z, Z.advance 0, 0, 0, rfl, by decide +kernel⟩,
  ⟨Z, Z.advance 0, 0, 0, rfl, by decide +kernel⟩,
  ⟨Z, Z.advance 0, 0, 4, rfl, by decide +kernel⟩⟩

/-- States and operands that meet the hypotheses of each clause of SdiEventsComplete. -/
theorem witness_SdiEventsComplete :
  (∃ (s : State) (a : State) (t : Nat) (p : Nat) (rate : Nat), a = s.advance t ∧ a.sdiPort p = true ∧ rate ∈ a.searched p ∧ a.nat (O.sdi_rx_state p) = 0) ∧
  (∃ (s : State) (a : State) (t : Nat) (p : Nat) (rate : Nat), a = s.advance t ∧ (a.sdiPort p = false ∨ rate ∉ a.searched p)) ∧
  (∃ (s : State) (a : State) (t : Nat) (p : Nat), a = s.advance t ∧ a.sdiPort p = true ∧ a.nat (O.sdi_rx_state p) ≠ 0) ∧
  (∃ (s : State) (a : State) (t : Nat) (p : Nat), a = s.advance t ∧ (a.sdiPort p = false ∨ a.nat (O.sdi_rx_state p) = 0)) ∧
  (∃ (det : SdiDetect), det.pid = none) ∧
  (∃ (s : State) (a : State) (t : Nat) (p : Nat), a = s.advance t ∧ a.sdiPort p = true) ∧
  (∃ (s : State) (a : State) (t : Nat) (p : Nat) (kind : Nat), a = s.advance t ∧ a.sdiPort p = true ∧ (kind = 1 ∨ kind = 2) ∧ a.nat (O.sdi_rx_mode p) ≠ 1) ∧
  (∃ (s : State) (a : State) (t : Nat) (p : Nat) (at' : Nat), a = s.advance t ∧ a.sdiPort p = true ∧ kfind a.sdi.errAt p = some at' ∧ at' / 1000000000 = a.now / 1000000000) ∧
  (∃ (s : State) (a : State) (t : Nat) (p : Nat), a = s.advance t ∧ a.sdiPort p = false) ∧
  (∃ (s : State) (a : State) (t : Nat) (p : Nat) (pkt : AncPacket), a = s.advance t ∧ a.sdiPort p = true ∧ isTimecode pkt = false) ∧
  (∃ (s : State) (a : State) (t : Nat) (j : Nat) (k : Nat) (w : Nat) (pkt : AncPacket) (room : List Nat), a = s.advance t ∧ j < 2048 ∧ (a.route ⟨.anc, j⟩).isSome = true ∧ a.safe = false ∧ (room.take (a.natNow (O.anci_line_span (2048 + j))))[k]? = some w ∧ pkt.size ≤ w ∧ ((∀ v ∈ room.take k, v < pkt.size))) ∧
  (∃ (s : State) (a : State) (t : Nat) (j : Nat) (pkt : AncPacket) (room : List Nat), a = s.advance t ∧ j < 2048 ∧ (a.route ⟨.anc, j⟩).isSome = true ∧ a.safe = false ∧ ((∀ w ∈ room.take (a.natNow (O.anci_line_span (2048 + j))), w < pkt.size))) ∧
  (∃ (s : State) (a : State) (t : Nat) (j : Nat), a = s.advance t ∧ (2048 ≤ j ∨ a.route ⟨.anc, j⟩ = none ∨ a.safe = true)) :=
  ⟨⟨(Z.setN (O.sdi_rx_state 0) 0), ((Z.setN (O.sdi_rx_state 0) 0)).advance 0, 0, 0, 2970000, rfl, by decide +kernel⟩,
  ⟨Z, Z.advance 0, 0, 0, 0, rfl, by decide +kernel⟩,
  ⟨(Z.setN (O.sdi_rx_state 0) 1), ((Z.setN (O.sdi_rx_state 0) 1)).advance 0, 0, 0, rfl, by decide +kernel⟩,
  ⟨Z, Z.advance 0, 0, 0, rfl, by decide +kernel⟩,
  ⟨det0, by decide +kernel⟩,
  ⟨Z, Z.advance 0, 0, 0, rfl, by decide +kernel⟩,
  ⟨Z, Z.advance 0, 0, 0, 1, rfl, by decide +kernel⟩,
  ⟨{ Z with sdi := { Z.sdi with errAt := [(0, 0)] } }, ({ Z with sdi := { Z.sdi with errAt := [(0, 0)] } }).advance 0, 0, 0, 0, rfl, by decide +kernel⟩,
  ⟨eth0 Z, (eth0 Z).advance 0, 0, 0, rfl, by decide +kernel⟩,
  ⟨Z, Z.advance 0, 0, 0, anc0, rfl, by decide +kernel⟩,
  ⟨(withRoute Z { rt0 with dst := ⟨.anc, 2047⟩ }).setN (O.anci_line_span 4095) 2, ((withRoute Z { rt0 with dst := ⟨.anc, 2047⟩ }).setN (O.anci_line_span 4095) 2).advance 0, 0, 2047, 1, 5, anc0, [4, 5], rfl, by decide +kernel⟩,
  ⟨withRoute Z { rt0 with dst := ⟨.anc, 0⟩ }, (withRoute Z { rt0 with dst := ⟨.anc, 0⟩ }).advance 0, 0, 0, anc0, [4], rfl, by decide +kernel⟩,
  ⟨Z, Z.advance 0, 0, 2048, rfl, by decide +kernel⟩⟩

/-- States and operands that meet the hypotheses of each clause of CompositionEventsComplete. -/
theorem witness_CompositionEventsComplete :
  (∃ (s : State) (a : State) (t : Nat) (h : Nat), a = s.advance t ∧ h < 64) ∧
  (∃ (s : State) (a : State) (t : Nat) (h : Nat), a = s.advance t ∧ 64 ≤ h) ∧
  (∃ (a : State) (h : Nat), a.nat (O.head_class h) = 0) ∧
  (∃ (a : State) (h : Nat), a.nat (O.head_class h) = 1 ∧ a.realigning (a.vsrcOffset (3072 + h)).2 (a.nat (O.head_format h)) (a.vsrcOffset (3072 + h)).1 = false ∧ a.stackNow h = []) ∧
  (∃ (s : State) (a : State) (t : Nat) (n : Nat), a = s.advance t ∧ (a.scalerRec n).writing = true) ∧
  (∃ (s : State) (a : State) (t : Nat) (n : Nat), a = s.advance t ∧ (a.scalerRec n).writing = false) ∧
  (∃ (s : State) (a : State) (t : Nat) (g : Nat), a = s.advance t ∧ a.groupPending (2048 + g) = none) ∧
  (∃ (s : State) (a : State) (t : Nat) (g : Nat) (h : Nat) (c : GroupCommit), a = s.advance t ∧ a.groupPending (2048 + g) = some c ∧ (c.members.head?).bind (fun m => a.flipHead m.1) = some h ∧ a.tbNow (a.nat (O.head_time_base h)) < a.groupDeadline c h) ∧
  (∃ (s : State) (a : State) (t : Nat) (g : Nat) (h : Nat) (c : GroupCommit), a = s.advance t ∧ a.groupPending (2048 + g) = some c ∧ (c.members.head?).bind (fun m => a.flipHead m.1) = some h ∧ a.groupDeadline c h ≤ a.tbNow (a.nat (O.head_time_base h)) ∧ ((∃ m ∈ c.members, a.steeps m.1 m.2.1 m.2.2 = true))) ∧
  (∃ (s : State) (a : State) (t : Nat) (l : Nat), a = s.advance t ∧ l < 2048 ∧ a.nat (O.layer_content l) = 3) ∧
  (∃ (s : State) (a : State) (t : Nat) (l : Nat), a = s.advance t ∧ (2048 ≤ l ∨ a.nat (O.layer_content l) ≠ 3)) ∧
  (∃ (s : State) (a : State) (t : Nat) (l : Nat) (h : Nat) (since : Nat) (e : Nat × Nat × Nat), a = s.advance t ∧ e = (l, e.2.1, since) ∧ a.comp.waits = [e] ∧ a.flipHead l = some h ∧ a.mirroring = true ∧ a.now < since + 2 * framePeriod (a.nat (O.head_format h))) ∧
  (∃ (s : State) (a : State) (t : Nat) (l : Nat) (h : Nat) (since : Nat) (e : Nat × Nat × Nat), a = s.advance t ∧ e = (l, e.2.1, since) ∧ a.comp.waits = [e] ∧ a.flipHead l = some h ∧ (a.mirroring = false ∨ since + 2 * framePeriod (a.nat (O.head_format h)) ≤ a.now)) ∧
  (∃ (s : State) (a : State) (t : Nat) (l : Nat), a = s.advance t ∧ a.awaitsTwin l = false) :=
  ⟨⟨Z, Z.advance 0, 0, 0, rfl, by decide +kernel⟩,
  ⟨Z, Z.advance 0, 0, 64, rfl, by decide +kernel⟩,
  ⟨(Z.setN (O.head_class 0) 0), 0, by decide +kernel⟩,
  ⟨(Z.setN (O.head_class 0) 1), 0, by decide +kernel⟩,
  ⟨{ Z with comp := { Z.comp with scalers := [⟨0, true, false, 0, 0, false⟩] } }, ({ Z with comp := { Z.comp with scalers := [⟨0, true, false, 0, 0, false⟩] } }).advance 0, 0, 0, rfl, by decide +kernel⟩,
  ⟨Z, Z.advance 0, 0, 0, rfl, by decide +kernel⟩,
  ⟨Z, Z.advance 0, 0, 0, rfl, by decide +kernel⟩,
  ⟨{ (Z.setN (O.layer_head 0) 0).setN (O.head_format 0) 1 with comp := { Z.comp with groups := [⟨2048, 0, [(0, 0, 1)]⟩] } }, ({ (Z.setN (O.layer_head 0) 0).setN (O.head_format 0) 1 with comp := { Z.comp with groups := [⟨2048, 0, [(0, 0, 1)]⟩] } }).advance 0, 0, 0, 0, ⟨2048, 0, [(0, 0, 1)]⟩, rfl, by decide +kernel⟩,
  ⟨{ (Z.setN (O.layer_head 0) 0).setN (O.head_format 0) 1 with comp := { Z.comp with groups := [⟨2048, 0, [(0, 0, 1)]⟩] } }, ({ (Z.setN (O.layer_head 0) 0).setN (O.head_format 0) 1 with comp := { Z.comp with groups := [⟨2048, 0, [(0, 0, 1)]⟩] } }).advance 10000000000, 10000000000, 0, 0, ⟨2048, 0, [(0, 0, 1)]⟩, rfl, by decide +kernel⟩,
  ⟨(Z.setN (O.layer_content 0) 3), ((Z.setN (O.layer_content 0) 3)).advance 0, 0, 0, rfl, by decide +kernel⟩,
  ⟨Z, Z.advance 0, 0, 2048, rfl, by decide +kernel⟩,
  ⟨{ ((prm Z).setN O.twin_mirror_state 1 |>.setN (O.layer_head 0) 0).setN (O.head_format 0) 1 with comp := { Z.comp with waits := [(0, 1, 0)] } }, ({ ((prm Z).setN O.twin_mirror_state 1 |>.setN (O.layer_head 0) 0).setN (O.head_format 0) 1 with comp := { Z.comp with waits := [(0, 1, 0)] } }).advance 0, 0, 0, 0, 0, (0, 1, 0), rfl, by decide +kernel⟩,
  ⟨{ (Z.setN (O.layer_head 0) 0).setN (O.head_format 0) 1 with comp := { Z.comp with waits := [(0, 1, 0)] } }, ({ (Z.setN (O.layer_head 0) 0).setN (O.head_format 0) 1 with comp := { Z.comp with waits := [(0, 1, 0)] } }).advance 0, 0, 0, 0, 0, (0, 1, 0), rfl, by decide +kernel⟩,
  ⟨Z, Z.advance 0, 0, 0, rfl, by decide +kernel⟩⟩

/-- States and operands that meet the hypotheses of each clause of AudioEventsComplete. -/
theorem witness_AudioEventsComplete :
  (∃ (s : State) (a : State) (t : Nat) (d : Nat), a = s.advance t ∧ a.route ⟨.audio, d⟩ = none) ∧
  (∃ (s : State) (a : State) (t : Nat) (d : Nat) (r : Route), a = s.advance t ∧ a.route ⟨.audio, d⟩ = some r ∧ r.follows = true) ∧
  (∃ (s : State) (a : State) (t : Nat) (d : Nat) (r : Route), a = s.advance t ∧ a.route ⟨.audio, d⟩ = some r ∧ r.follows = false ∧ a.idHere r.pl.src = true ∧ r.pl.asrc ≠ [] ∧ a.clocksRelated (idIdx r.pl.src) d = true) ∧
  (∃ (s : State) (a : State) (t : Nat) (d : Nat) (r : Route), a = s.advance t ∧ a.route ⟨.audio, d⟩ = some r ∧ r.follows = false ∧ a.idHere r.pl.src = true ∧ r.pl.asrc = [] ∧ a.asrcNeeded (idIdx r.pl.src) d = true ∧ ((∀ q ∈ a.sw.takes, q.repl = false)) ∧ a.freeAsrc true [a.dstId r.dst] [] (a.adstTile r.dst.idx) = none) ∧
  (∃ (s : State) (a : State) (t : Nat) (d : Nat) (r : Route), a = s.advance t ∧ a.route ⟨.audio, d⟩ = some r ∧ r.pl.asrc = [] ∧ a.idHere r.pl.src = true ∧ a.clocksRelated (idIdx r.pl.src) d = false) ∧
  (∃ (s : State) (a : State) (t : Nat) (d : Nat) (r : Route), a = s.advance t ∧ a.route ⟨.audio, d⟩ = some r ∧ (r.pl.asrc ≠ [] ∨ a.idHere r.pl.src = false ∨ a.clocksRelated (idIdx r.pl.src) d = true)) ∧
  (∃ (s : State) (a : State) (t : Nat) (ch : Nat) (x : AsrcBook), a = s.advance t ∧ x ∈ a.placer.asrc ∧ x.ch = ch) ∧
  (∃ (s : State) (a : State) (t : Nat) (ch : Nat), a = s.advance t ∧ ((∀ x ∈ a.placer.asrc, x.ch ≠ ch))) ∧
  (∃ (s : State) (a : State) (t : Nat) (ch : Nat) (ratio : Int), a = s.advance t ∧ a.nat (O.asrc_state (1 + ch)) = 1 ∧ 45 * 4294967296 ≤ 100 * ratio ∧ 100 * ratio ≤ 225 * 4294967296) ∧
  (∃ (s : State) (a : State) (t : Nat) (ch : Nat) (ratio : Int), a = s.advance t ∧ (a.nat (O.asrc_state (1 + ch)) ≠ 1 ∨ 100 * ratio < 45 * 4294967296 ∨ 225 * 4294967296 < 100 * ratio)) ∧
  (∃ (s : State) (a : State) (t : Nat) (n : Nat) (rate : Nat), a = s.advance t ∧ (16 ≤ n ∨ rate = 0 ∨ 4 < rate)) ∧
  (∃ (s : State) (a : State) (t : Nat) (n : Nat) (rate : Nat), a = s.advance t ∧ n < 16 ∧ 1 ≤ rate ∧ rate ≤ 4 ∧ ((∀ i : Nat, i < 16 → i ≠ n → a.nat (O.aes_rx_state i) ≠ 0 ∨ a.nat (O.aes_measured_rate i) = 0))) ∧
  (∃ (s : State) (a : State) (t : Nat) (n : Nat), a = s.advance t ∧ (16 ≤ n ∨ a.nat (O.aes_rx_state n) = 0)) ∧
  (∃ (s : State) (a : State) (t : Nat) (n : Nat), a = s.advance t ∧ n < 16 ∧ a.nat (O.aes_rx_state n) ≠ 0) ∧
  (∃ (s : State) (a : State) (t : Nat) (src : Nat) (block : Bytes), a = s.advance t ∧ (block.length ≠ 24 ∨ 63520 ≤ src)) ∧
  (∃ (s : State) (a : State) (t : Nat) (src : Nat) (block : Bytes), a = s.advance t ∧ block.length = 24 ∧ 63488 ≤ src ∧ src < 63520 ∧ Machine.bit (block.headD 0).toNat 0 = true) ∧
  (∃ (s : State) (a : State) (t : Nat) (src : Nat) (block : Bytes), a = s.advance t ∧ block.length = 24 ∧ src < 63520 ∧ a.placer.asrc = []) ∧
  (∃ (s : State) (a : State) (t : Nat) (g : Nat), a = s.advance t ∧ 1 ≤ g ∧ g ≤ 1024 ∧ a.flag (O.loud_enable g) = true) ∧
  (∃ (a : State) (g : Nat), (a.audio.resets.contains g) = true) ∧
  (∃ (s : State) (a : State) (t : Nat) (g : Nat), a = s.advance t ∧ (g = 0 ∨ 1024 < g ∨ a.flag (O.loud_enable g) = false)) :=
  ⟨⟨Z, Z.advance 0, 0, 0, rfl, by decide +kernel⟩,
  ⟨withRoute Z { aud [] with follows := true }, (withRoute Z { aud [] with follows := true }).advance 0, 0, 0, { aud [] with follows := true }, rfl, by decide +kernel⟩,
  ⟨withRoute Z (aud [5]), (withRoute Z (aud [5])).advance 0, 0, 0, aud [5], rfl, by decide +kernel⟩,
  ⟨noAsrc (withRoute Z (aud [])), (noAsrc (withRoute Z (aud []))).advance 0, 0, 0, aud [], rfl, by decide +kernel⟩,
  ⟨(withRoute Z (aud [])).setN (O.asource_gen_dpll 63520) 1, ((withRoute Z (aud [])).setN (O.asource_gen_dpll 63520) 1).advance 0, 0, 0, aud [], rfl, by decide +kernel⟩,
  ⟨withRoute Z (aud [5]), (withRoute Z (aud [5])).advance 0, 0, 0, aud [5], rfl, by decide +kernel⟩,
  ⟨{ Z with placer := { Z.placer with asrc := [⟨2047, 15, 0, 0⟩] } }, ({ Z with placer := { Z.placer with asrc := [⟨2047, 15, 0, 0⟩] } }).advance 0, 0, 2047, ⟨2047, 15, 0, 0⟩, rfl, by decide +kernel⟩,
  ⟨Z, Z.advance 0, 0, 0, rfl, by decide +kernel⟩,
  ⟨(Z.setN (O.asrc_state (1 + 0)) 1), ((Z.setN (O.asrc_state (1 + 0)) 1)).advance 0, 0, 0, 4294967296, rfl, by decide +kernel⟩,
  ⟨Z, Z.advance 0, 0, 0, 0, rfl, by decide +kernel⟩,
  ⟨Z, Z.advance 0, 0, 16, 0, rfl, by decide +kernel⟩,
  ⟨Z, Z.advance 0, 0, 0, 1, rfl, by decide +kernel⟩,
  ⟨Z, Z.advance 0, 0, 16, rfl, by decide +kernel⟩,
  ⟨(Z.setN (O.aes_rx_state 0) 1), ((Z.setN (O.aes_rx_state 0) 1)).advance 0, 0, 0, rfl, by decide +kernel⟩,
  ⟨Z, Z.advance 0, 0, 0, [], rfl, by decide +kernel⟩,
  ⟨Z, Z.advance 0, 0, 63519, [1] ++ zeros 23, rfl, by decide +kernel⟩,
  ⟨Z, Z.advance 0, 0, 0, zeros 24, rfl, by decide +kernel⟩,
  ⟨(Z.setN (O.loud_enable 1) 1), ((Z.setN (O.loud_enable 1) 1)).advance 0, 0, 1, rfl, by decide +kernel⟩,
  ⟨{ Z with audio := { Z.audio with resets := [0] } }, 0, by decide +kernel⟩,
  ⟨Z, Z.advance 0, 0, 0, rfl, by decide +kernel⟩⟩

/-- States and operands that meet the hypotheses of each clause of SerialAudioEventsComplete. -/
theorem witness_SerialAudioEventsComplete :
  (∃ (a : State) (dir : Nat), a.sap dir = none) ∧
  (∃ (a : State) (dir : Nat) (r : SapRec), a.sap dir = some r ∧ r.stopping = true) ∧
  (∃ (a : State) (dir : Nat) (first : Nat) (r : SapRec), a.sap dir = some r ∧ r.stopping = false ∧ r.first = some first ∧ r.grid ≠ none ∧ a.nat (O.sap_state dir) ≠ 3 ∧ a.now < r.wroteAt + a.twoSlots dir) ∧
  (∃ (s : State) (a : State) (t : Nat) (dir : Nat), a = s.advance t ∧ 1 ≤ dir ∧ dir ≤ 64) ∧
  (∃ (s : State) (a : State) (t : Nat) (dir : Nat), a = s.advance t ∧ (dir = 0 ∨ 64 < dir)) ∧
  (∃ (s : State) (a : State) (t : Nat) (dir : Nat) (r : SapRec), a = s.advance t ∧ a.sap dir = some r ∧ a.nat (O.sap_clock_role dir) = 0 ∧ a.nat (O.sap_state dir) = 2 ∧ r.latest + 4 * (1000000000 / a.sapHz dir) ≤ a.now) ∧
  (∃ (s : State) (a : State) (t : Nat) (dir : Nat), a = s.advance t ∧ (a.sap dir = none ∨ a.nat (O.sap_clock_role dir) ≠ 0 ∨ a.nat (O.sap_state dir) ≠ 2)) ∧
  (∃ (s : State) (a : State) (t : Nat) (dir : Nat) (first : Nat) (r : SapRec), a = s.advance t ∧ a.sap dir = some r ∧ a.nat (O.sap_state dir) = 3 ∧ r.first = some first ∧ ((∀ i : Nat, i < 64 → 1 + i ≠ dir → a.nat (O.sap_state (1 + i)) ≠ 3))) ∧
  (∃ (s : State) (a : State) (t : Nat) (dir : Nat), a = s.advance t ∧ (a.sap dir = none ∨ a.nat (O.sap_state dir) ≠ 3)) ∧
  (∃ (s : State) (a : State) (t : Nat), a = s.advance t ∧ a.nat O.sapAll_trigger_state = 1 ∧ a.nat O.sapAll_trigger_edge = 0) ∧
  (∃ (s : State) (a : State) (t : Nat), a = s.advance t ∧ a.nat O.sapAll_trigger_state ≠ 1) ∧
  (∃ (s : State) (a : State) (t : Nat) (x : Nat), a = s.advance t ∧ a.audio.startAt = some x) ∧
  (∃ (s : State) (a : State) (t : Nat), a = s.advance t ∧ a.audio.startAt = none) :=
  ⟨⟨Z, 0, by decide +kernel⟩,
  ⟨sapUp Z { sap0 with stopping := true }, 1, { sap0 with stopping := true }, by decide +kernel⟩,
  ⟨sapUp Z sap0, 1, 0, sap0, by decide +kernel⟩,
  ⟨Z, Z.advance 0, 0, 1, rfl, by decide +kernel⟩,
  ⟨Z, Z.advance 0, 0, 0, rfl, by decide +kernel⟩,
  ⟨((sapUp Z sap0).setN (O.sap_clock_role 1) 0).setN (O.sap_state 1) 2, (((sapUp Z sap0).setN (O.sap_clock_role 1) 0).setN (O.sap_state 1) 2).advance 1000000000, 1000000000, 1, sap0, rfl, by decide +kernel⟩,
  ⟨Z, Z.advance 0, 0, 0, rfl, by decide +kernel⟩,
  ⟨(sapUp Z sap0).setN (O.sap_state 1) 3, ((sapUp Z sap0).setN (O.sap_state 1) 3).advance 0, 0, 1, 0, sap0, rfl, by decide +kernel⟩,
  ⟨Z, Z.advance 0, 0, 0, rfl, by decide +kernel⟩,
  ⟨((Z.setN O.sapAll_trigger_state 1).setN O.sapAll_trigger_edge 0), (((Z.setN O.sapAll_trigger_state 1).setN O.sapAll_trigger_edge 0)).advance 0, 0, rfl, by decide +kernel⟩,
  ⟨Z, Z.advance 0, 0, rfl, by decide +kernel⟩,
  ⟨{ Z with audio := { Z.audio with startAt := some 0 } }, ({ Z with audio := { Z.audio with startAt := some 0 } }).advance 0, 0, 0, rfl, by decide +kernel⟩,
  ⟨Z, Z.advance 0, 0, rfl, by decide +kernel⟩⟩

/-- States and operands that meet the hypotheses of each clause of ReferenceAndDpllEventsComplete. -/
theorem witness_ReferenceAndDpllEventsComplete :
  (∃ (a : State) (e : Nat), a.nat (O.ref_source (1 + e)) = 0) ∧
  (∃ (s : State) (a : State) (t : Nat) (e : Nat), a = s.advance t ∧ e < 16 ∧ 2 ≤ a.refState e) ∧
  (∃ (s : State) (a : State) (t : Nat) (e : Nat), a = s.advance t ∧ (16 ≤ e ∨ a.refState e ≤ 1)) ∧
  (∃ (s : State) (a : State) (t : Nat) (e : Nat) (since : Nat), a = s.advance t ∧ e < 16 ∧ a.refState e = 2 ∧ a.phaseOk e = true ∧ a.hardOk e = true ∧ a.wrongFormat e = false ∧ (a.ref e).passSince = some since) ∧
  (∃ (s : State) (a : State) (t : Nat) (e : Nat), a = s.advance t ∧ (16 ≤ e ∨ a.refState e ≠ 2 ∨ a.phaseOk e = false ∨ a.hardOk e = false ∨ a.wrongFormat e = true)) ∧
  (∃ (s : State) (a : State) (t : Nat) (k : Nat), a = s.advance t ∧ k < 4) ∧
  (∃ (s : State) (a : State) (t : Nat) (k : Nat), a = s.advance t ∧ 4 ≤ k) ∧
  (∃ (a : State) (k : Nat) (e : Nat), a.nat (O.dpll_mode k) = 0 ∧ a.xoLost = false ∧ a.selectEntry k = (some e, false) ∧ a.nat (O.dpll_selected k) = e) ∧
  (∃ (a : State) (k : Nat) (e : Nat), a.nat (O.dpll_mode k) = 0 ∧ a.xoLost = false ∧ a.selectEntry k = (some e, false) ∧ a.nat (O.dpll_selected k) ≠ e) ∧
  (∃ (a : State) (k : Nat), a.nat (O.dpll_mode k) = 0 ∧ a.xoLost = false ∧ a.selectEntry k = (none, false) ∧ (a.nat (O.dpll_state k) = 1 ∨ a.nat (O.dpll_state k) = 3)) ∧
  (∃ (s : State) (a : State) (t : Nat) (k : Nat), a = s.advance t ∧ k < 4 ∧ (a.dpll k).building = true) ∧
  (∃ (s : State) (a : State) (t : Nat) (k : Nat), a = s.advance t ∧ (4 ≤ k ∨ (a.dpll k).building = false)) ∧
  (∃ (s : State) (a : State) (t : Nat) (k : Nat) (phase : Int), a = s.advance t ∧ k < 4 ∧ a.nat (O.dpll_mode k) = 0 ∧ a.nat (O.dpll_state k) = 3 ∧ (a.dpll k).building = false ∧ phase.natAbs ≤ a.nat (O.dpll_lock_window k) * 1000 ∧ ((a.setI (O.dpll_phase_error k) phase).setDpllState k 1).nat (O.dpll_realign k) = 0) ∧
  (∃ (s : State) (a : State) (t : Nat) (k : Nat) (phase : Int), a = s.advance t ∧ (4 ≤ k ∨ a.nat (O.dpll_mode k) ≠ 0 ∨ a.nat (O.dpll_state k) ≠ 3 ∨ (a.dpll k).building = true ∨ a.nat (O.dpll_lock_window k) * 1000 < phase.natAbs)) ∧
  (∃ (a : State), a.xoLost = true) ∧
  (∃ (s : State) (a : State) (t : Nat), a = s.advance t ∧ a.xoLost = false) ∧
  (∃ (s : State) (a : State) (b : State) (t : Nat), a = s.advance t ∧ b = (a.setN (O.xo_xo_state 4) 0).endFault F.xoLoss ∧ a.xoLost = true ∧ ((∀ k : Nat, k < 4 → b.nat (O.dpll_mode k) ≠ 0))) ∧
  (∃ (s : State) (a : State) (t : Nat) (k : Nat), a = s.advance t ∧ k < 4 ∧ a.ready = true ∧ a.power.readyAt + 60000000000 ≤ a.now ∧ a.nat (O.dpll_mode k) = 0 ∧ a.dpllState 4 k = 0) ∧
  (∃ (s : State) (a : State) (t : Nat) (k : Nat), a = s.advance t ∧ (4 ≤ k ∨ a.ready = false ∨ a.now < a.power.readyAt + 60000000000 ∨ a.nat (O.dpll_mode k) ≠ 0 ∨ a.dpllState 4 k ≠ 0)) ∧
  (∃ (s : State) (a : State) (t : Nat) (k : Nat), a = s.advance t ∧ (a.dpll k).epoch = none) ∧
  (∃ (s : State) (a : State) (t : Nat) (k : Nat) (e : Nat), a = s.advance t ∧ (a.dpll k).epoch = some e ∧ (4 ≤ k ∨ a.tbNow (a.nat (O.dpll_epoch_tb k)) < e)) ∧
  (∃ (s : State) (a : State) (t : Nat) (k : Nat) (e : Nat), a = s.advance t ∧ (a.dpll k).epoch = some e ∧ k < 4 ∧ (a.dpll k).k = k ∧ e ≤ a.tbNow (a.nat (O.dpll_epoch_tb k))) :=
  ⟨⟨(Z.setN (O.ref_source (1 + 0)) 0), 0, by decide +kernel⟩,
  ⟨refUp Z 2, (refUp Z 2).advance 0, 0, 0, rfl, by decide +kernel⟩,
  ⟨Z, Z.advance 0, 0, 16, rfl, by decide +kernel⟩,
  ⟨{ refUp Z 2 with timing := { Z.timing with refs := [⟨0, 0, 0, some 0, none⟩] } }, ({ refUp Z 2 with timing := { Z.timing with refs := [⟨0, 0, 0, some 0, none⟩] } }).advance 0, 0, 0, 0, rfl, by decide +kernel⟩,
  ⟨Z, Z.advance 0, 0, 16, rfl, by decide +kernel⟩,
  ⟨Z, Z.advance 0, 0, 0, rfl, by decide +kernel⟩,
  ⟨Z, Z.advance 0, 0, 4, rfl, by decide +kernel⟩,
  ⟨(refUp Z 3).setN (O.dpll_force_entry 0) 0 |>.setN (O.dpll_selected 0) 0, 0, 0, by decide +kernel⟩,
  ⟨(refUp Z 3).setN (O.dpll_force_entry 0) 0 |>.setN (O.dpll_selected 0) 5, 0, 0, by decide +kernel⟩,
  ⟨((Z.setN (O.dpll_mode 0) 0).setN (O.dpll_state 0) 1), 0, by decide +kernel⟩,
  ⟨{ Z with timing := { Z.timing with dplls := [⟨3, 0, true, 0, 0, [], 0, 0, 0, none⟩] } }, ({ Z with timing := { Z.timing with dplls := [⟨3, 0, true, 0, 0, [], 0, 0, 0, none⟩] } }).advance 0, 0, 3, rfl, by decide +kernel⟩,
  ⟨Z, Z.advance 0, 0, 4, rfl, by decide +kernel⟩,
  ⟨((Z.setN (O.dpll_mode 0) 0).setN (O.dpll_state 0) 3), (((Z.setN (O.dpll_mode 0) 0).setN (O.dpll_state 0) 3)).advance 0, 0, 0, 0, rfl, by decide +kernel⟩,
  ⟨Z, Z.advance 0, 0, 4, 0, rfl, by decide +kernel⟩,
  ⟨Z.setN (O.xo_xo_state 4) 1, by decide +kernel⟩,
  ⟨Z, Z.advance 0, 0, rfl, by decide +kernel⟩,
  ⟨(((((Z.setN (O.xo_xo_state 4) 1).setN (O.dpll_mode 0) 2).setN (O.dpll_mode 1) 2).setN (O.dpll_mode 2) 2).setN (O.dpll_mode 3) 2), ((((((Z.setN (O.xo_xo_state 4) 1).setN (O.dpll_mode 0) 2).setN (O.dpll_mode 1) 2).setN (O.dpll_mode 2) 2).setN (O.dpll_mode 3) 2)).advance 0, ((((((((Z.setN (O.xo_xo_state 4) 1).setN (O.dpll_mode 0) 2).setN (O.dpll_mode 1) 2).setN (O.dpll_mode 2) 2).setN (O.dpll_mode 3) 2)).advance 0).setN (O.xo_xo_state 4) 0).endFault F.xoLoss, 0, rfl, rfl, by decide +kernel⟩,
  ⟨rdy Z, (rdy Z).advance 60000000000, 60000000000, 0, rfl, by decide +kernel⟩,
  ⟨Z, Z.advance 0, 0, 4, rfl, by decide +kernel⟩,
  ⟨Z, Z.advance 0, 0, 0, rfl, by decide +kernel⟩,
  ⟨{ Z with timing := { Z.timing with dplls := [⟨0, 0, false, 0, 0, [], 0, 0, 0, some 5⟩] } }, ({ Z with timing := { Z.timing with dplls := [⟨0, 0, false, 0, 0, [], 0, 0, 0, some 5⟩] } }).advance 0, 0, 0, 5, rfl, by decide +kernel⟩,
  ⟨{ Z with timing := { Z.timing with dplls := [⟨0, 0, false, 0, 0, [], 0, 0, 0, some 5⟩] } }, ({ Z with timing := { Z.timing with dplls := [⟨0, 0, false, 0, 0, [], 0, 0, 0, some 5⟩] } }).advance 5, 5, 0, 5, rfl, by decide +kernel⟩⟩

/-- States and operands that meet the hypotheses of each clause of TimeBaseEventsComplete. -/
theorem witness_TimeBaseEventsComplete :
  (∃ (s : State) (a : State) (t : Nat) (p : Nat), a = s.advance t ∧ p < 64 ∧ a.flag (O.ptp_enable p) = true) ∧
  (∃ (s : State) (a : State) (t : Nat) (p : Nat), a = s.advance t ∧ (64 ≤ p ∨ a.flag (O.ptp_enable p) = false)) ∧
  (∃ (s : State) (a : State) (t : Nat) (p : Nat) (kind : PtpSend), a = s.advance t ∧ (64 ≤ p ∨ a.maySend p kind = false)) ∧
  (∃ (s : State) (a : State) (t : Nat) (p : Nat) (kind : PtpSend), a = s.advance t ∧ p < 64 ∧ a.maySend p kind = true ∧ kind ≠ .announce ∧ 1024 ≤ a.nat (O.ptp_interface p)) ∧
  (∃ (s : State) (a : State) (t : Nat) (p : Nat), a = s.advance t ∧ (64 ≤ p ∨ a.flag (O.ptp_enable p) = false)) ∧
  (∃ (s : State) (a : State) (t : Nat) (p : Nat), a = s.advance t ∧ p < 64 ∧ a.flag (O.ptp_enable p) = true ∧ (a.ptp p).heard ≠ [] ∧ ((∀ e ∈ (a.ptp p).heard, a.now < e.2 + a.announceNs p))) ∧
  (∃ (s : State) (a : State) (t : Nat) (p : Nat), a = s.advance t ∧ p < 64 ∧ a.flag (O.ptp_enable p) = true ∧ (a.ptp p).heard = [] ∧ (a.ptp p).since + a.announceNs p ≤ a.now ∧ (a.tbRec (a.nat (O.ptp_time_base p))).follows = none) ∧
  (∃ (s : State) (a : State) (t : Nat) (tb : Nat), a = s.advance t ∧ (4 ≤ tb ∨ (a.tbRec tb).accept = none)) ∧
  (∃ (s : State) (a : State) (t : Nat) (tb : Nat) (at' : Nat), a = s.advance t ∧ tb < 4 ∧ (a.tbRec tb).accept = some at') ∧
  (∃ (s : State) (a : State) (t : Nat) (iface : Nat), a = s.advance t ∧ (a.ifaceUp iface = false ∨ a.nextLaunch iface = none)) ∧
  (∃ (s : State) (a : State) (t : Nat) (iface : Nat) (delay : Nat) (l : Launchable) (r : LaunchReq), a = s.advance t ∧ a.ifaceUp iface = true ∧ a.nextLaunch iface = some l ∧ l.what = .inr r ∧ delay ≤ a.frameTime r.iface ∧ r.stamp = false) :=
  ⟨⟨(Z.setN (O.ptp_enable 0) 1), ((Z.setN (O.ptp_enable 0) 1)).advance 0, 0, 0, rfl, by decide +kernel⟩,
  ⟨Z, Z.advance 0, 0, 64, rfl, by decide +kernel⟩,
  ⟨Z, Z.advance 0, 0, 64, .sync, rfl, by decide +kernel⟩,
  ⟨((Z.setN (O.ptp_enable 0) 1).setN (O.ptp_interface 0) 1024).setN (O.ptp_port_state 0) 6, (((Z.setN (O.ptp_enable 0) 1).setN (O.ptp_interface 0) 1024).setN (O.ptp_port_state 0) 6).advance 0, 0, 0, .sync, rfl, by decide +kernel⟩,
  ⟨Z, Z.advance 0, 0, 64, rfl, by decide +kernel⟩,
  ⟨{ Z.setN (O.ptp_enable 0) 1 with clocks := { Z.clocks with ports := [⟨0, [(⟨0, 0, 0, 0, 0, [], 0, 0, []⟩, 0)], 0, 0, false⟩] } }, ({ Z.setN (O.ptp_enable 0) 1 with clocks := { Z.clocks with ports := [⟨0, [(⟨0, 0, 0, 0, 0, [], 0, 0, []⟩, 0)], 0, 0, false⟩] } }).advance 0, 0, 0, rfl, by decide +kernel⟩,
  ⟨Z.setN (O.ptp_enable 0) 1, (Z.setN (O.ptp_enable 0) 1).advance 1000000000000, 1000000000000, 0, rfl, by decide +kernel⟩,
  ⟨Z, Z.advance 0, 0, 4, rfl, by decide +kernel⟩,
  ⟨{ Z with clocks := { Z.clocks with tbs := [⟨3, none, 0, false, some 0, none⟩] } }, ({ Z with clocks := { Z.clocks with tbs := [⟨3, none, 0, false, some 0, none⟩] } }).advance 0, 0, 3, 0, rfl, by decide +kernel⟩,
  ⟨Z, Z.advance 0, 0, 0, rfl, by decide +kernel⟩,
  ⟨{ Z with clocks := { Z.clocks with launches := [⟨0, false, 1024, 0, 0, []⟩] } }, ({ Z with clocks := { Z.clocks with launches := [⟨0, false, 1024, 0, 0, []⟩] } }).advance 0, 0, 1024, 0, ⟨0, 4, 0, .inr ⟨0, false, 1024, 0, 0, []⟩⟩, ⟨0, false, 1024, 0, 0, []⟩, rfl, by decide +kernel⟩⟩

/-- States and operands that meet the hypotheses of each clause of LaneEventsComplete. -/
theorem witness_LaneEventsComplete :
  (∃ (s : State) (a : State) (t : Nat) (l : Nat), a = s.advance t ∧ l < 1024 ∧ a.nat (O.lane_state_now l) = 3) ∧
  (∃ (s : State) (a : State) (t : Nat) (l : Nat), a = s.advance t ∧ (1024 ≤ l ∨ a.nat (O.lane_state_now l) ≠ 3)) ∧
  (∃ (s : State) (a : State) (t : Nat) (l : Nat), a = s.advance t ∧ (1024 ≤ l ∨ a.nat (O.lane_state_now l) ≠ 0)) ∧
  (∃ (s : State) (a : State) (t : Nat) (l : Nat), a = s.advance t ∧ l < 1024 ∧ a.nat (O.lane_state_now l) = 0 ∧ 2 ≤ a.nat (O.eq_eq_mode l)) ∧
  (∃ (s : State) (a : State) (t : Nat) (l : Nat), a = s.advance t ∧ (1024 ≤ l ∨ a.portKind l ≠ 5)) ∧
  (∃ (s : State) (a : State) (t : Nat) (l : Nat) (at' : Nat), a = s.advance t ∧ l < 1024 ∧ a.portKind l = 5 ∧ kfind a.lanes.codeAt l = some at' ∧ a.now ≤ at' + 1000000000) ∧
  (∃ (s : State) (a : State) (t : Nat) (tile : Nat) (pll : Nat), a = s.advance t ∧ (a.tiles ≤ tile ∨ 2 ≤ pll)) ∧
  (∃ (s : State) (a : State) (t : Nat) (tile : Nat) (pll : Nat), a = s.advance t ∧ tile < a.tiles ∧ pll < 2) ∧
  (∃ (s : State) (a : State) (t : Nat) (l : Nat), a = s.advance t ∧ (1024 ≤ l ∨ a.portKind l ≠ 5)) ∧
  (∃ (s : State) (a : State) (t : Nat) (l : Nat), a = s.advance t ∧ l < 1024 ∧ a.portKind l = 5 ∧ ((∀ i : Nat, i < 64 → 64 * (l / 64) + i ≠ l → a.portKind (64 * (l / 64) + i) ≠ 5))) ∧
  (∃ (s : State) (a : State) (t : Nat) (l : Nat) (began : Nat), a = s.advance t ∧ kfind a.lanes.tests l = some began ∧ a.testRuns l = true ∧ a.nat (O.ltest_duration l) ≠ 0) ∧
  (∃ (s : State) (a : State) (t : Nat) (l : Nat), a = s.advance t ∧ (kfind a.lanes.tests l = none ∨ a.nat (O.ltest_duration l) = 0)) ∧
  (∃ (s : State) (a : State) (t : Nat) (l : Nat), a = s.advance t ∧ (1024 ≤ l ∨ a.testRuns l = false ∨ a.flag (O.ltest_checker l) = false)) ∧
  (∃ (s : State) (a : State) (t : Nat) (l : Nat), a = s.advance t ∧ l < 1024 ∧ a.testRuns l = true ∧ a.flag (O.ltest_checker l) = true ∧ a.flag (O.ltest_checker_lock l) = false) ∧
  (∃ (s : State) (a : State) (t : Nat) (l : Nat), a = s.advance t ∧ l < 1024 ∧ a.testRuns l = true ∧ a.flag (O.ltest_checker l) = true ∧ a.flag (O.ltest_checker_lock l) = true) :=
  ⟨⟨(Z.setN (O.lane_state_now 0) 3), ((Z.setN (O.lane_state_now 0) 3)).advance 0, 0, 0, rfl, by decide +kernel⟩,
  ⟨Z, Z.advance 0, 0, 1024, rfl, by decide +kernel⟩,
  ⟨Z, Z.advance 0, 0, 1024, rfl, by decide +kernel⟩,
  ⟨((Z.setN (O.lane_state_now 0) 0).setN (O.eq_eq_mode 0) 2), (((Z.setN (O.lane_state_now 0) 0).setN (O.eq_eq_mode 0) 2)).advance 0, 0, 0, rfl, by decide +kernel⟩,
  ⟨Z, Z.advance 0, 0, 1024, rfl, by decide +kernel⟩,
  ⟨{ Z.setN (O.port_kind 0) 5 with lanes := { Z.lanes with codeAt := [(0, 0)] } }, ({ Z.setN (O.port_kind 0) 5 with lanes := { Z.lanes with codeAt := [(0, 0)] } }).advance 1000000000, 1000000000, 0, 0, rfl, by decide +kernel⟩,
  ⟨Z, Z.advance 0, 0, 16, 0, rfl, by decide +kernel⟩,
  ⟨Z, Z.advance 0, 0, 0, 0, rfl, by decide +kernel⟩,
  ⟨Z, Z.advance 0, 0, 1024, rfl, by decide +kernel⟩,
  ⟨Z.setN (O.port_kind 0) 5, (Z.setN (O.port_kind 0) 5).advance 0, 0, 0, rfl, by decide +kernel⟩,
  ⟨{ (Z.setN (O.ltest_state 0) 1).setN (O.ltest_duration 0) 1 with lanes := { Z.lanes with tests := [(0, 0)] } }, ({ (Z.setN (O.ltest_state 0) 1).setN (O.ltest_duration 0) 1 with lanes := { Z.lanes with tests := [(0, 0)] } }).advance 0, 0, 0, 0, rfl, by decide +kernel⟩,
  ⟨Z, Z.advance 0, 0, 0, rfl, by decide +kernel⟩,
  ⟨Z, Z.advance 0, 0, 1024, rfl, by decide +kernel⟩,
  ⟨((Z.setN (O.ltest_state 0) 1).setN (O.ltest_checker 0) 1), (((Z.setN (O.ltest_state 0) 1).setN (O.ltest_checker 0) 1)).advance 0, 0, 0, rfl, by decide +kernel⟩,
  ⟨((Z.setN (O.ltest_state 0) 1).setN (O.ltest_checker 0) 1).setN (O.ltest_checker_lock 0) 1, (((Z.setN (O.ltest_state 0) 1).setN (O.ltest_checker 0) 1).setN (O.ltest_checker_lock 0) 1).advance 0, 0, 0, rfl, by decide +kernel⟩⟩

/-- States and operands that meet the hypotheses of each clause of MeshLinkEventsComplete. -/
theorem witness_MeshLinkEventsComplete :
  (∃ (s : State) (a : State) (t : Nat) (tile : Nat), a = s.advance t ∧ a.tiles ≤ tile) ∧
  (∃ (s : State) (a : State) (t : Nat) (tile : Nat), a = s.advance t ∧ tile < a.tiles) ∧
  (∃ (s : State) (a : State) (t : Nat) (l : Nat), a = s.advance t ∧ a.mayTrain l = true ∧ a.nat (O.mlink_state (1 + l)) ≤ 1) ∧
  (∃ (s : State) (a : State) (t : Nat) (l : Nat), a = s.advance t ∧ (a.mayTrain l = false ∨ a.nat (O.mlink_state (1 + l)) = 2 ∨ a.nat (O.mlink_state (1 + l)) = 3)) ∧
  (∃ (s : State) (a : State) (t : Nat) (l : Nat), a = s.advance t ∧ l < 1024 ∧ a.nat (O.mlink_state (1 + l)) = 2) ∧
  (∃ (s : State) (a : State) (t : Nat) (l : Nat), a = s.advance t ∧ (1024 ≤ l ∨ a.nat (O.mlink_state (1 + l)) ≠ 2)) ∧
  (∃ (s : State) (a : State) (t : Nat) (l : Nat), a = s.advance t ∧ l < 1024 ∧ a.nat (O.mlink_state (1 + l)) = 2 ∧ (a.mlane l).echoes.length < 15) ∧
  (∃ (s : State) (a : State) (t : Nat) (l : Nat), a = s.advance t ∧ l < 1024 ∧ a.nat (O.mlink_state (1 + l)) = 2 ∧ (a.mlane l).echoes.length = 15) ∧
  (∃ (s : State) (a : State) (t : Nat) (l : Nat), a = s.advance t ∧ l < 1024 ∧ ((a.mlane l).echoes.length < 16 ∨ (a.mlane l).heard = false)) ∧
  (∃ (s : State) (a : State) (t : Nat) (l : Nat), a = s.advance t ∧ l < 1024 ∧ a.nat (O.mlink_state (1 + l)) = 2 ∧ (a.mlane l).echoes.length = 16 ∧ (a.mlane l).heard = true ∧ 3000000 < a.nat (O.mlink_delay (1 + l))) ∧
  (∃ (s : State) (a : State) (t : Nat) (l : Nat) (cause : LinkLoss), a = s.advance t ∧ l < 1024 ∧ cause ≠ .lock) ∧
  (∃ (s : State) (a : State) (t : Nat) (l : Nat), a = s.advance t ∧ l < 1024) ∧
  (∃ (s : State) (a : State) (t : Nat) (l : Nat), a = s.advance t ∧ 1024 ≤ l) ∧
  (∃ (s : State) (a : State) (t : Nat) (l : Nat) (word : Nat), a = s.advance t ∧ l < 1024 ∧ a.nat (O.mlink_state (1 + l)) = 3 ∧ a.faults.inject = none ∧ decodeWord word = .good) ∧
  (∃ (s : State) (a : State) (t : Nat) (l : Nat), a = s.advance t ∧ l < 1024 ∧ a.nat (O.mlink_state (1 + l)) = 3 ∧ a.faults.inject = none) ∧
  (∃ (s : State) (a : State) (t : Nat) (l : Nat), a = s.advance t ∧ l < 1024 ∧ a.nat (O.mlink_state (1 + l)) = 3) ∧
  (∃ (s : State) (a : State) (t : Nat) (l : Nat), a = s.advance t ∧ l < 1024 ∧ a.nat (O.mlink_state (1 + l)) = 3) ∧
  (∃ (s : State) (a : State) (t : Nat) (l : Nat), a = s.advance t ∧ (1024 ≤ l ∨ a.nat (O.mlink_state (1 + l)) ≠ 3)) :=
  ⟨⟨Z, Z.advance 0, 0, 16, rfl, by decide +kernel⟩,
  ⟨Z, Z.advance 0, 0, 0, rfl, by decide +kernel⟩,
  ⟨(Z.setN (O.port_kind 0) 5).setN (O.mlink_admin 1) 1, ((Z.setN (O.port_kind 0) 5).setN (O.mlink_admin 1) 1).advance 0, 0, 0, rfl, by decide +kernel⟩,
  ⟨Z, Z.advance 0, 0, 0, rfl, by decide +kernel⟩,
  ⟨(Z.setN (O.mlink_state (1 + 0)) 2), ((Z.setN (O.mlink_state (1 + 0)) 2)).advance 0, 0, 0, rfl, by decide +kernel⟩,
  ⟨Z, Z.advance 0, 0, 1024, rfl, by decide +kernel⟩,
  ⟨(Z.setN (O.mlink_state (1 + 0)) 2), ((Z.setN (O.mlink_state (1 + 0)) 2)).advance 0, 0, 0, rfl, by decide +kernel⟩,
  ⟨mlk (Z.setN (O.mlink_state 1) 2) ⟨0, 0, 0, 0, 0, [], List.replicate 15 1, false, 0, 0, 0, 0⟩, (mlk (Z.setN (O.mlink_state 1) 2) ⟨0, 0, 0, 0, 0, [], List.replicate 15 1, false, 0, 0, 0, 0⟩).advance 0, 0, 0, rfl, by decide +kernel⟩,
  ⟨Z, Z.advance 0, 0, 0, rfl, by decide +kernel⟩,
  ⟨mlk ((Z.setN (O.mlink_state 1) 2).setN (O.mlink_delay 1) 3000001) ⟨0, 0, 0, 0, 0, [], List.replicate 16 1, true, 0, 0, 0, 0⟩, (mlk ((Z.setN (O.mlink_state 1) 2).setN (O.mlink_delay 1) 3000001) ⟨0, 0, 0, 0, 0, [], List.replicate 16 1, true, 0, 0, 0, 0⟩).advance 0, 0, 0, rfl, by decide +kernel⟩,
  ⟨Z, Z.advance 0, 0, 0, .commas, rfl, by decide +kernel⟩,
  ⟨Z, Z.advance 0, 0, 0, rfl, by decide +kernel⟩,
  ⟨Z, Z.advance 0, 0, 1024, rfl, by decide +kernel⟩,
  ⟨(Z.setN (O.mlink_state (1 + 0)) 3), ((Z.setN (O.mlink_state (1 + 0)) 3)).advance 0, 0, 0, 0, rfl, by decide +kernel⟩,
  ⟨(Z.setN (O.mlink_state (1 + 0)) 3), ((Z.setN (O.mlink_state (1 + 0)) 3)).advance 0, 0, 0, rfl, by decide +kernel⟩,
  ⟨(Z.setN (O.mlink_state (1 + 0)) 3), ((Z.setN (O.mlink_state (1 + 0)) 3)).advance 0, 0, 0, rfl, by decide +kernel⟩,
  ⟨(Z.setN (O.mlink_state (1 + 0)) 3), ((Z.setN (O.mlink_state (1 + 0)) 3)).advance 0, 0, 0, rfl, by decide +kernel⟩,
  ⟨Z, Z.advance 0, 0, 1024, rfl, by decide +kernel⟩⟩

/-- States and operands that meet the hypotheses of each clause of DomainEventsComplete. -/
theorem witness_DomainEventsComplete :
  (∃ (a : State), a.upLanes = []) ∧
  (∃ (s : State) (a : State) (t : Nat) (plan : Bytes), a = s.advance t ∧ (planFits plan = false ∨ field plan 0 4 < a.nat O.mesh_plan_revision ∨ plan = a.oct O.mesh_plan)) ∧
  (∃ (s : State) (a : State) (t : Nat) (plan : Bytes), a = s.advance t ∧ planFits plan = true ∧ a.nat O.mesh_plan_revision < field plan 0 4 ∧ plan ≠ a.oct O.mesh_plan) ∧
  (∃ (s : State) (a : State) (t : Nat) (plan : Bytes), a = s.advance t ∧ planFits plan = true ∧ field plan 0 4 = a.nat O.mesh_plan_revision ∧ plan ≠ a.oct O.mesh_plan ∧ beNat (sha256 (a.oct O.mesh_plan)) < beNat (sha256 plan)) ∧
  (∃ (s : State) (a : State) (t : Nat), a = s.advance t ∧ (a.plannedId = none ∨ a.ready = false)) ∧
  (∃ (s : State) (a : State) (t : Nat) (id : Nat), a = s.advance t ∧ a.plannedId = some id ∧ a.ready = true ∧ a.admittedLinks = [] ∧ a.nat O.mesh_version_min ≤ a.nat O.mesh_version_max) ∧
  (∃ (a : State) (lvl : Nat), 2 ≤ a.nat (O.mgroup_kind (2048 + lvl)) ∧ a.chipId ≠ 1023 ∧ a.quorum (a.nat (O.mgroup_plan_group (2048 + lvl))) = false) ∧
  (∃ (s : State) (a : State) (t : Nat) (lvl : Nat) (p : Nat) (cands : List (Nat × Nat)), a = s.advance t ∧ (a.candidates cands).find? (fun c => c.1 = a.nat (O.mgroup_head (2048 + lvl))) = some (a.nat (O.mgroup_head (2048 + lvl)), p) ∧ ((∀ c ∈ a.candidates cands, c.2 ≤ p))) ∧
  (∃ (s : State) (a : State) (t : Nat) (lvl : Nat) (p : Nat) (q : Nat) (c : Nat) (cands : List (Nat × Nat)), a = s.advance t ∧ (a.candidates cands).find? (fun c => c.1 = a.nat (O.mgroup_head (2048 + lvl))) = some (a.nat (O.mgroup_head (2048 + lvl)), p) ∧ (c, q) ∈ a.candidates cands ∧ p < q) ∧
  (∃ (s : State) (a : State) (t : Nat) (l : Nat), a = s.advance t ∧ (1024 ≤ l ∨ a.nat (O.mlink_state (1 + l)) ≠ 3)) ∧
  (∃ (s : State) (a : State) (t : Nat) (l : Nat), a = s.advance t ∧ l < 1024 ∧ a.nat (O.mlink_state (1 + l)) = 3) :=
  ⟨⟨Z, by decide +kernel⟩,
  ⟨Z, Z.advance 0, 0, [], rfl, by decide +kernel⟩,
  ⟨Z, Z.advance 0, 0, plan0, rfl, by decide +kernel⟩,
  ⟨Z, Z.advance 0, 0, planN 15, rfl, by decide +kernel⟩,
  ⟨Z, Z.advance 0, 0, rfl, by decide +kernel⟩,
  ⟨rdy ((Z.setB O.mesh_plan plan0).setB O.id_serial_number (beBytes 16 5)), (rdy ((Z.setB O.mesh_plan plan0).setB O.id_serial_number (beBytes 16 5))).advance 0, 0, 0, rfl, by decide +kernel⟩,
  ⟨(Z.setN O.id_chip_id 0).setN (O.mgroup_kind 2048) 2, 0, by decide +kernel⟩,
  ⟨Z, Z.advance 0, 0, 0, 128, [(1023, 5)], rfl, by decide +kernel⟩,
  ⟨Z, Z.advance 0, 0, 0, 128, 129, 7, [(1023, 5), (7, 129)], rfl, by decide +kernel⟩,
  ⟨Z, Z.advance 0, 0, 1024, rfl, by decide +kernel⟩,
  ⟨(Z.setN (O.mlink_state (1 + 0)) 3), ((Z.setN (O.mlink_state (1 + 0)) 3)).advance 0, 0, 0, rfl, by decide +kernel⟩⟩

/-- States and operands that meet the hypotheses of each clause of ElectionRule. -/
theorem witness_ElectionRule :
  (∃ (cands : List (Nat × Nat)), ((∃ c ∈ cands, c.2 ≠ 0))) ∧
  (∃ (sitting : Nat) (p : Nat) (cands : List (Nat × Nat)), (sitting, p) ∈ cands ∧ p ≠ 0 ∧ ((∀ c ∈ cands, c.2 ≤ p))) ∧
  (∃ (cands : List (Nat × Nat)), ((∀ c ∈ cands, c.2 = 0))) :=
  ⟨⟨[(1, 1)], by decide +kernel⟩,
  ⟨4, 1, [(4, 1)], by decide +kernel⟩,
  ⟨[], by decide +kernel⟩⟩

/-- States and operands that meet the hypotheses of each clause of MessageIsCarriedOut. -/
theorem witness_MessageIsCarriedOut :
  (∃ (c : Instr) (t : Nat) (via : Via) (raw : Bytes) (s : State) (a : State) (x : Session), a = s.advance t ∧ a.hears via raw x ∧ messageOf c = some (t, via, raw)) :=
  ⟨.read 0 via0 (msgOf 1 0 []), 0, via0, msgOf 1 0 [], open1 Z, (open1 Z).advance 0, ses0, rfl, by unfold State.hears; decide +kernel, by decide +kernel⟩

/-- States and operands that meet the hypotheses of each clause of MessagesThatAreNotCarriedOut. -/
theorem witness_MessagesThatAreNotCarriedOut :
  (∃ (c : Instr) (t : Nat) (via : Via) (raw : Bytes) (s : State) (a : State), a = s.advance t ∧ messageOf c = some (t, via, raw) ∧ (via.path = .mgt0 ∨ via.path = .mgt1) ∧ a.ready = false ∧ a.proto.sessions = [] ∧ 32 ≤ raw.length ∧ raw.length ≤ 1400) ∧
  (∃ (c : Instr) (t : Nat) (via : Via) (raw : Bytes) (s : State) (a : State), a = s.advance t ∧ messageOf c = some (t, via, raw) ∧ via.path ≠ .spi ∧ 1400 < raw.length) ∧
  (∃ (c : Instr) (t : Nat) (via : Via) (raw : Bytes) (s : State) (a : State), a = s.advance t ∧ messageOf c = some (t, via, raw) ∧ via.path ≠ .spi ∧ a.ready = true ∧ 32 ≤ raw.length ∧ raw.length ≤ 1400 ∧ field raw 0 2 ≠ 0x4F44) ∧
  (∃ (c : Instr) (t : Nat) (via : Via) (raw : Bytes) (s : State) (a : State), a = s.advance t ∧ messageOf c = some (t, via, raw) ∧ via.path ≠ .spi ∧ a.ready = true ∧ raw.length ≤ 1400 ∧ raw.length = 32 + field raw 30 2 + 32 ∧ field raw 0 2 = 0x4F44 ∧ a.roleKey (field raw 7 1) ≠ [] ∧ messageTag (a.roleKey (field raw 7 1)) (field raw 20 8) (field raw 8 4) (raw.take (32 + field raw 30 2)) ≠ raw.drop (32 + field raw 30 2)) ∧
  (∃ (s : State) (a : State) (t : Nat), a = s.advance t ∧ a.spiOn = false) :=
  ⟨⟨.read 0 via0 (zeros 32), 0, via0, zeros 32, Z, Z.advance 0, rfl, by decide +kernel⟩,
  ⟨.read 0 via0 (zeros 1401), 0, via0, zeros 1401, Z, Z.advance 0, rfl, by decide +kernel⟩,
  ⟨.read 0 via0 (zeros 1400), 0, via0, zeros 1400, rdy Z, (rdy Z).advance 0, rfl, by decide +kernel⟩,
  ⟨.read 0 via0 ((msgOf 1 0 []).take 32 ++ zeros 32), 0, via0, (msgOf 1 0 []).take 32 ++ zeros 32, open1 Z, (open1 Z).advance 0, rfl, by decide +kernel⟩,
  ⟨Z.setN O.sec_spi_enable 0, (Z.setN O.sec_spi_enable 0).advance 0, 0, rfl, by decide +kernel⟩⟩

/-- States and operands that meet the hypotheses of each clause of ReadsAndTransactions. -/
theorem witness_ReadsAndTransactions :
  (∃ (b : State) (role : Nat) (r : Rec) (d : Desc), b.judgeRead role false r.k = 0 ∧ descOf r.k = some d ∧ r.ty = d.ty.code ∧ r.reserved = 0 ∧ r.value = []) ∧
  (∃ (b : State) (role : Nat) (describe : Bool) (r : Rec), b.judgeRead role describe r.k ≠ 0) ∧
  (∃ (tk : Ticket), tk.typ = 1) ∧
  (∃ (b : State) (tk : Ticket) (recs : List Rec), ((∃ c ∈ (b.writeRecs tk.writer (overrides recs) recs).1, c ≠ 0))) ∧
  (∃ (b : State) (tk : Ticket) (recs : List Rec), recs ≠ [] ∧ recs.length ≤ 64 ∧ ((∀ c ∈ (b.writeRecs tk.writer (overrides recs) recs).1, c = 0))) ∧
  (∃ (b : State) (w : Writer) (r : Rec) (d : Desc) (v : Val), b.judgeWrite w r.k = 0 ∧ descOf r.k = some d ∧ r.ty = d.ty.code ∧ r.reserved = 0 ∧ b.lockedHere r.k = false ∧ r.value.length ≤ 1024 ∧ decVal d.ty r.value = some v) :=
  ⟨⟨rdy Z, 0, ⟨O.id_chip_id, Ty.u16.code, 0, 0, []⟩, (descOf O.id_chip_id).get (by decide +kernel), by decide +kernel⟩,
  ⟨rdy Z, 0, false, ⟨⟨0, 0, 0⟩, 0, 0, 0, []⟩, by decide +kernel⟩,
  ⟨tk0, by decide +kernel⟩,
  ⟨rdy Z, tk0, [⟨⟨0, 0, 0⟩, 0, 0, 0, []⟩], by decide +kernel⟩,
  ⟨rdy Z, tk0, [⟨O.fence_value 5, Ty.u64.code, 0, 0, [0, 0, 0, 0, 0, 0, 0, 1]⟩], by decide +kernel⟩,
  ⟨rdy Z, W1, ⟨O.fence_value 5, Ty.u64.code, 0, 0, [0, 0, 0, 0, 0, 0, 0, 1]⟩, (descOf (O.fence_value 5)).get (by decide +kernel), .n 1, by decide +kernel⟩⟩

/-- States and operands that meet the hypotheses of each clause of SubscriptionAndProtocolTimerRules. -/
theorem witness_SubscriptionAndProtocolTimerRules :
  (∃ (body : Bytes), body.length = 12 ∧ field body 11 1 = 0 ∧ (field body 0 1 = 0 ∨ 3 < field body 0 1)) ∧
  (∃ (mode : Nat) (interval : Nat), (2 < mode ∨ (1 ≤ mode ∧ (interval < 10 ∨ 60000 < interval)))) ∧
  (∃ (b : State) (tk : Ticket) (mode : Nat) (fam : Nat) (inst : Nat) (sub : Nat), mode = 0 ∧ b.judgePattern tk.role fam inst sub = 0 ∧ (256 ≤ (b.subsOf tk.slot).length ∨ 4096 ≤ b.proto.subs.length)) ∧
  (∃ (b : State) (tk : Ticket) (body : Bytes), body.length = 12 ∧ field body 11 1 = 0 ∧ field body 0 1 = 2 ∧ ((∀ u ∈ b.proto.subs, u.slot = tk.slot → u.num ≠ field body 4 2))) ∧
  (∃ (b : State) (tk : Ticket) (body : Bytes) (u : Sub), body.length = 12 ∧ field body 11 1 = 0 ∧ field body 0 1 = 2 ∧ u ∈ b.proto.subs ∧ u.slot = tk.slot ∧ u.num = field body 4 2) ∧
  (∃ (body : Bytes), body.length = 12 ∧ field body 11 1 = 0 ∧ field body 0 1 = 3) ∧
  (∃ (s : State) (a : State) (t : Nat) (slot : Nat) (sub : Nat) (u : Sub), a = s.advance t ∧ a.subOf slot sub = some u) ∧
  (∃ (s : State) (a : State) (t : Nat) (slot : Nat) (sub : Nat) (role : Nat) (u : Sub), a = s.advance t ∧ a.subOf slot sub = some u ∧ u.mode = 1 ∧ a.subRole u = some role) ∧
  (∃ (s : State) (a : State) (t : Nat) (slot : Nat) (sub : Nat), a = s.advance t ∧ a.subOf slot sub = none) ∧
  (∃ (s : State) (a : State) (t : Nat) (h : Nat) (x : Bulk), a = s.advance t ∧ a.proto.bulks.find? (fun x => x.handle = h) = some x) ∧
  (∃ (s : State) (a : State) (t : Nat) (h : Nat), a = s.advance t ∧ ((∀ x ∈ a.proto.bulks, x.handle ≠ h))) ∧
  (∃ (s : State) (a : State) (t : Nat) (slot : Nat) (x : Session), a = s.advance t ∧ a.session slot = some x) ∧
  (∃ (s : State) (a : State) (t : Nat) (slot : Nat), a = s.advance t ∧ a.session slot = none) ∧
  (∃ (s : State) (a : State) (t : Nat) (m : Bytes) (l : List Bytes), a = s.advance t ∧ a.spiOn = true ∧ a.proto.spiOut = m :: l) ∧
  (∃ (s : State) (a : State) (t : Nat), a = s.advance t ∧ a.spiOn = true ∧ a.proto.spiOut = [] ∧ a.proto.subs = []) ∧
  (∃ (s : State) (a : State) (t : Nat) (raw : Bytes), a = s.advance t ∧ a.spiOn = true ∧ 32 ≤ raw.length ∧ a.proto.sessions = []) :=
  ⟨⟨zeros 12, by decide +kernel⟩,
  ⟨3, 0, by decide +kernel⟩,
  ⟨{ rdy Z with proto := { Z.proto with subs := List.replicate 256 sub0 } }, tk0, 0, 0x1000, 0, 1, by decide +kernel⟩,
  ⟨Z, tk0, 2 :: zeros 11, by decide +kernel⟩,
  ⟨withSubs Z [sub0], tk0, 2 :: zeros 3 ++ [0, 1] ++ zeros 6, sub0, by decide +kernel⟩,
  ⟨3 :: zeros 11, by decide +kernel⟩,
  ⟨withSubs Z [sub0], (withSubs Z [sub0]).advance 0, 0, 1, 1, sub0, rfl, by decide +kernel⟩,
  ⟨withSubs Z [sub0], (withSubs Z [sub0]).advance 0, 0, 1, 1, 3, sub0, rfl, by decide +kernel⟩,
  ⟨Z, Z.advance 0, 0, 0, 0, rfl, by decide +kernel⟩,
  ⟨withBulk Z bulk0, (withBulk Z bulk0).advance 10000000000, 10000000000, 1, bulk0, rfl, by decide +kernel⟩,
  ⟨Z, Z.advance 0, 0, 0, rfl, by decide +kernel⟩,
  ⟨withSubs Z [], (withSubs Z []).advance 60000000000, 60000000000, 1, ses0, rfl, by decide +kernel⟩,
  ⟨Z, Z.advance 0, 0, 0, rfl, by decide +kernel⟩,
  ⟨{ Z with proto := { Z.proto with spiOut := [[1]] } }, ({ Z with proto := { Z.proto with spiOut := [[1]] } }).advance 0, 0, [1], [], rfl, by decide +kernel⟩,
  ⟨Z, Z.advance 0, 0, rfl, by decide +kernel⟩,
  ⟨Z, Z.advance 0, 0, zeros 32, rfl, by decide +kernel⟩⟩

/-- States and operands that meet the hypotheses of each clause of TakeAndSalvoMessageRules. -/
theorem witness_TakeAndSalvoMessageRules :
  (∃ (tk : Ticket) (body : Bytes), body.length = 24 ∧ field body 22 2 = 0 ∧ tk.role = 0) ∧
  (∃ (b : State) (tk : Ticket) (body : Bytes), body.length = 24 ∧ field body 22 2 = 0 ∧ 1 ≤ tk.role ∧ b.standby = true) ∧
  (∃ (b : State) (tk : Ticket) (body : Bytes), body.length = 24 ∧ field body 22 2 = 0 ∧ 1 ≤ tk.role ∧ b.standby = false ∧ 16 ≤ b.proto.priority.length) ∧
  (∃ (b : State) (tk : Ticket) (body : Bytes) (d : Dst) (slot : Nat), body.length = 24 ∧ field body 22 2 = 0 ∧ 1 ≤ tk.role ∧ b.standby = false ∧ b.inLull = false ∧ b.judgeTake (takeEntryOf body).1 (takeInstant body) = .ok d ∧ b.takeBarred d = false ∧ b.queued < 256 ∧ b.nextSlot = some slot) ∧
  (∃ (slot : Nat), 1 ≤ slot ∧ slot ≤ 4096) ∧
  (∃ (tk : Ticket) (n : Nat) (body : Bytes), body.length = n ∧ tk.role = 0) ∧
  (∃ (b : State) (tk : Ticket) (n : Nat) (body : Bytes), body.length = n ∧ 1 ≤ tk.role ∧ b.standby = true) ∧
  (∃ (b : State) (tk : Ticket) (n : Nat) (k : Nat) (body : Bytes) (f : State → Nat → Nat × State), body.length = n ∧ 1 ≤ tk.role ∧ b.standby = false ∧ b.salvoNamed (field body 0 4) = some k ∧ (f b k).1 ≠ 0) ∧
  (∃ (b : State) (k : Nat) (tb : Nat) (lead : Nat) (e : Nat), (b.nat (O.salvo_state k) ≠ 1 ∨ 3 < tb ∨ (lead ≠ 0 ∧ (lead < 5 ∨ 60000 < lead)) ∨ (lead ≠ 0 ∧ e ≠ 0 ∧ e < b.tbNow tb + 1000000 + 1000000 * lead))) ∧
  (∃ (b : State) (k : Nat) (tb : Nat) (lead : Nat) (e : Nat), b.nat (O.salvo_state k) = 1 ∧ tb ≤ 3 ∧ 5 ≤ lead ∧ lead ≤ 60000 ∧ ((e = 0 ∨ b.tbNow tb + 1000000 + 1000000 * lead ≤ e)) ∧ (b.listHeld k = true ∨ 16 ≤ b.salvos.own.length)) ∧
  (∃ (b : State) (k : Nat) (x : Salvo), b.nat (O.salvo_state k) = 3 ∧ b.salvo k = some x ∧ x.decided = none) :=
  ⟨⟨{ tk0 with role := 0 }, zeros 24, by decide +kernel⟩,
  ⟨sby Z, tk0, zeros 24, by decide +kernel⟩,
  ⟨{ Z with proto := { Z.proto with priority := List.range 16 } }, tk0, zeros 24, by decide +kernel⟩,
  ⟨rdy Z, tk0, beBytes 4 (mkId 1023 0 1 5) ++ beBytes 4 (mkId 1023 0 0 6) ++ zeros 16, ⟨.video, 5⟩, 1, by decide +kernel⟩,
  ⟨1, by decide +kernel⟩,
  ⟨{ tk0 with role := 0 }, 0, [], by decide +kernel⟩,
  ⟨sby Z, tk0, 0, [], by decide +kernel⟩,
  ⟨Z, tk0, 4, 256, beBytes 4 256, fun s _ => (1, s), by decide +kernel⟩,
  ⟨Z, 0, 0, 0, 0, by decide +kernel⟩,
  ⟨{ (((Z.setN (O.salvo_state 1) 1).setB (O.salvo_take_list 1) (beBytes 4 (mkId 1023 0 1 5) ++ zeros 20))) with salvos := { Z.salvos with own := List.replicate 16 sv0 } }, 1, 0, 5, 0, by decide +kernel⟩,
  ⟨{ Z.setN (O.salvo_state 1) 3 with salvos := { Z.salvos with own := [sv0] } }, 1, sv0, by decide +kernel⟩⟩

/-- States and operands that meet the hypotheses of each clause of BulkTransferRules. -/
theorem witness_BulkTransferRules :
  (∃ (x : Bulk), gather x.total x.pieces = none) ∧
  (∃ (x : Bulk) (hash : Bytes) (v : Bytes), gather x.total x.pieces = some v ∧ sha256 v ≠ hash) ∧
  (∃ (x : Bulk) (v : Bytes), gather x.total x.pieces = some v ∧ x.write = true) ∧
  (∃ (v : Bytes), v ≠ []) ∧
  (∃ (b : State) (tk : Ticket) (body : Bytes) (x : Bulk), body.length = 36 ∧ field body 3 1 = 0 ∧ field body 2 1 = 1 ∧ b.proto.bulks.find? (fun x => x.handle = field body 0 2 ∧ x.slot = tk.slot) = some x) ∧
  (∃ (b : State) (tk : Ticket) (body : Bytes) (r : Retired), body.length = 36 ∧ field body 3 1 = 0 ∧ field body 2 1 ≤ 1 ∧ b.proto.bulks.find? (fun x => x.handle = field body 0 2 ∧ x.slot = tk.slot) = none ∧ b.proto.retired.find? (fun r => r.handle = field body 0 2 ∧ b.now < r.until') = some r) ∧
  (∃ (b : State) (tk : Ticket) (body : Bytes) (x : Bulk), 8 < body.length ∧ body.length ≤ 1032 ∧ field body 2 2 = 0 ∧ b.proto.bulks.find? (fun x => x.handle = field body 0 2 ∧ x.slot = tk.slot) = some x ∧ x.write = true ∧ field body 4 4 + (body.drop 8).length ≤ x.total) ∧
  (∃ (b : State) (tk : Ticket) (body : Bytes) (d : Desc) (k : Key), k = ⟨field body 0 2, field body 2 2, field body 4 1⟩ ∧ body.length = 10 ∧ field body 5 1 = 0 ∧ b.judgeRead tk.role false k = 0 ∧ descOf k = some d ∧ d.ty ≠ .oct) :=
  ⟨⟨{ bulk0 with total := 2 }, by decide +kernel⟩,
  ⟨bulk0, [], [1], by decide +kernel⟩,
  ⟨bulk0, [1], by decide +kernel⟩,
  ⟨[1], by decide +kernel⟩,
  ⟨withBulk Z bulk0, tk0, [0, 1, 1, 0] ++ zeros 32, bulk0, by decide +kernel⟩,
  ⟨{ Z with proto := { Z.proto with retired := [⟨1, true, 10⟩] } }, tk0, [0, 1, 1, 0] ++ zeros 32, ⟨1, true, 10⟩, by decide +kernel⟩,
  ⟨withBulk Z bulk0, tk0, [0, 1, 0, 0, 0, 0, 0, 0, 7], bulk0, by decide +kernel⟩,
  ⟨rdy Z, tk0, [0x10, 0, 0, 0, 6] ++ zeros 5, (descOf ⟨0x1000, 0, 6⟩).get (by decide +kernel), ⟨field ([0x10, 0, 0, 0, 6] ++ zeros 5) 0 2, field ([0x10, 0, 0, 0, 6] ++ zeros 5) 2 2, field ([0x10, 0, 0, 0, 6] ++ zeros 5) 4 1⟩, by decide +kernel⟩⟩

/-- States and operands that meet the hypotheses of each clause of SymbolCodeCorrectsOneAndDetectsTwo. -/
theorem witness_SymbolCodeCorrectsOneAndDetectsTwo :
  (∃ (i : Nat) (j : Nat) (k : Nat) (a : Nat) (b : Nat) (c : Nat), i < j ∧ j < k ∧ k < 36 ∧ a < 16 ∧ b < 16 ∧ c < 16 ∧ (a ≠ 0 ∨ b ≠ 0 ∨ c ≠ 0)) ∧
  (∃ (w : Nat), syndrome w = (0, 0, 0, 0)) ∧
  (∃ (w : Nat) (j : Nat), j < 36 ∧ (syndrome w).1 ≠ 0 ∧ (syndrome w).2.1 = gfMul (syndrome w).1 (gfColumn j).2.1 ∧ (syndrome w).2.2.1 = gfMul (syndrome w).1 (gfColumn j).2.2.1 ∧ (syndrome w).2.2.2 = gfMul (syndrome w).1 (gfColumn j).2.2.2) ∧
  (∃ (w : Nat), syndrome w ≠ (0, 0, 0, 0) ∧ ((∀ j : Nat, j < 36 → (syndrome w).1 = 0 ∨ (syndrome w).2.1 ≠ gfMul (syndrome w).1 (gfColumn j).2.1 ∨ (syndrome w).2.2.1 ≠ gfMul (syndrome w).1 (gfColumn j).2.2.1 ∨ (syndrome w).2.2.2 ≠ gfMul (syndrome w).1 (gfColumn j).2.2.2))) ∧
  (∃ (w : Nat) (j : Nat) (e : Nat), syndrome w = (0, 0, 0, 0) ∧ j < 36 ∧ 1 ≤ e ∧ e < 16) ∧
  (∃ (w : Nat) (i : Nat) (j : Nat) (e : Nat) (f : Nat), syndrome w = (0, 0, 0, 0) ∧ i < 36 ∧ j < 36 ∧ i ≠ j ∧ 1 ≤ e ∧ e < 16 ∧ 1 ≤ f ∧ f < 16) :=
  ⟨⟨0, 1, 35, 15, 0, 0, by decide +kernel⟩,
  ⟨0, by decide +kernel⟩,
  ⟨2 ^ 140, 35, by decide +kernel⟩,
  ⟨17, by decide +kernel⟩,
  ⟨0, 0, 1, by decide +kernel⟩,
  ⟨0, 0, 35, 15, 15, by decide +kernel⟩⟩

/-- States and operands that meet the hypotheses of each clause of BlendingRule. -/
theorem witness_BlendingRule :
  (∃ (opacity : Nat) (l : Pixel) (b : Pixel), 4 ≤ b.y ∧ b.y ≤ 1019 ∧ 4 ≤ b.cb ∧ b.cb ≤ 1019 ∧ 4 ≤ b.cr ∧ b.cr ≤ 1019 ∧ (l.a = 0 ∨ opacity = 0)) ∧
  (∃ (l : Pixel), 4 ≤ l.y ∧ l.y ≤ 1019 ∧ 4 ≤ l.cb ∧ l.cb ≤ 1019 ∧ 4 ≤ l.cr ∧ l.cr ≤ 1019 ∧ l.a = 1023) ∧
  (∃ (lo : Nat) (hi : Nat) (l : Pixel) (b : Pixel), 4 ≤ b.y ∧ b.y ≤ 1019 ∧ 4 ≤ b.cb ∧ b.cb ≤ 1019 ∧ 4 ≤ b.cr ∧ b.cr ≤ 1019 ∧ l.y ≤ lo ∧ lo < hi) ∧
  (∃ (lo : Nat) (hi : Nat) (l : Pixel), 4 ≤ l.y ∧ l.y ≤ 1019 ∧ 4 ≤ l.cb ∧ l.cb ≤ 1019 ∧ 4 ≤ l.cr ∧ l.cr ≤ 1019 ∧ hi ≤ l.y ∧ lo < hi) :=
  ⟨⟨0, ⟨500, 500, 500, 1023⟩, ⟨1019, 4, 500, 0⟩, by decide +kernel⟩,
  ⟨⟨1019, 4, 500, 1023⟩, by decide +kernel⟩,
  ⟨100, 101, ⟨100, 500, 500, 1023⟩, ⟨1019, 4, 500, 0⟩, by decide +kernel⟩,
  ⟨100, 101, ⟨101, 500, 500, 1023⟩, by decide +kernel⟩⟩

/-- States and operands that meet the hypotheses of each clause of AudioProcessingRule. -/
theorem witness_AudioProcessingRule :
  (∃ (w : AudioWord), w.nonPcm = false) ∧
  (∃ (den : Nat) (w : AudioWord), den ≠ 0 ∧ w.nonPcm = false ∧ -8388608 ≤ w.sample ∧ w.sample ≤ 8388607) ∧
  (∃ (w : AudioWord), w.nonPcm = false ∧ -8388608 < w.sample ∧ w.sample ≤ 8388607) ∧
  (∃ (w : AudioWord), w.nonPcm = false ∧ w.sample = -8388608) ∧
  (∃ (num : Nat) (w : AudioWord), w.nonPcm = true ∧ num ≠ 0) ∧
  (∃ (muted : Bool) (num : Nat), (muted = true ∨ num = 0)) :=
  ⟨⟨⟨false, false, false, false, false, 5⟩, by decide +kernel⟩,
  ⟨1, ⟨false, false, false, false, false, 5⟩, by decide +kernel⟩,
  ⟨⟨false, false, false, false, false, 5⟩, by decide +kernel⟩,
  ⟨⟨false, false, false, false, false, -8388608⟩, by decide +kernel⟩,
  ⟨1, ⟨true, false, false, false, false, 1⟩, by decide +kernel⟩,
  ⟨false, 0, by decide +kernel⟩⟩

/-- Frames, a read instant, a guard, a hysteresis and a last frame that meet the hypotheses of each clause of
FrameSelectionFollowsTheProcedure, at the instants where one clause gives way to the next. -/
theorem witness_FrameSelectionFollowsTheProcedure :
  (∃ (frames : List (Nat × Nat)) (r guard last : Nat), last ≠ 0 ∧ (∀ f ∈ frames, f.1 < 4294967296) ∧
    (∀ f ∈ frames, ∀ g ∈ frames, f.1 = g.1 → f = g) ∧ frames ≠ [] ∧ (∀ f ∈ frames, r < f.2 + guard)) ∧
  (∃ (frames : List (Nat × Nat)) (r guard last : Nat) (c : Nat × Nat), last ≠ 0 ∧ (∀ f ∈ frames, f.1 < 4294967296) ∧
    (∀ f ∈ frames, ∀ g ∈ frames, f.1 = g.1 → f = g) ∧ c ∈ frames ∧ c.2 + guard ≤ r ∧
    (∀ f ∈ frames, f.2 + guard ≤ r → f.1 ≤ c.1) ∧ c.1 ≤ last) ∧
  (∃ (frames : List (Nat × Nat)) (r guard last : Nat) (c : Nat × Nat), last ≠ 0 ∧ (∀ f ∈ frames, f.1 < 4294967296) ∧
    (∀ f ∈ frames, ∀ g ∈ frames, f.1 = g.1 → f = g) ∧ c ∈ frames ∧ c.2 + guard ≤ r ∧
    (∀ f ∈ frames, f.2 + guard ≤ r → f.1 ≤ c.1) ∧ c.1 = last + 1) ∧
  (∃ (frames : List (Nat × Nat)) (r guard hyst last : Nat) (c : Nat × Nat), last ≠ 0 ∧ (∀ f ∈ frames, f.1 < 4294967296) ∧
    (∀ f ∈ frames, ∀ g ∈ frames, f.1 = g.1 → f = g) ∧ c ∈ frames ∧ c.2 + guard ≤ r ∧
    (∀ f ∈ frames, f.2 + guard ≤ r → f.1 ≤ c.1) ∧ c.1 = last + 2 ∧ r < c.2 + guard + hyst) ∧
  (∃ (frames : List (Nat × Nat)) (r guard hyst last : Nat) (c : Nat × Nat), last ≠ 0 ∧ (∀ f ∈ frames, f.1 < 4294967296) ∧
    (∀ f ∈ frames, ∀ g ∈ frames, f.1 = g.1 → f = g) ∧ c ∈ frames ∧ c.2 + guard ≤ r ∧
    (∀ f ∈ frames, f.2 + guard ≤ r → f.1 ≤ c.1) ∧ c.1 = last + 2 ∧ c.2 + guard + hyst ≤ r) ∧
  (∃ (frames : List (Nat × Nat)) (r guard last : Nat) (c : Nat × Nat), last ≠ 0 ∧ (∀ f ∈ frames, f.1 < 4294967296) ∧
    (∀ f ∈ frames, ∀ g ∈ frames, f.1 = g.1 → f = g) ∧ c ∈ frames ∧ c.2 + guard ≤ r ∧
    (∀ f ∈ frames, f.2 + guard ≤ r → f.1 ≤ c.1) ∧ last + 2 < c.1) :=
  ⟨⟨[(1, 0), (2, 100)], 49, 50, 1, by decide +kernel⟩,
  ⟨[(1, 0), (2, 100)], 149, 50, 1, (1, 0), by decide +kernel⟩,
  ⟨[(1, 0), (2, 100)], 150, 50, 1, (2, 100), by decide +kernel⟩,
  ⟨[(1, 0), (3, 100)], 150, 50, 1, 1, (3, 100), by decide +kernel⟩,
  ⟨[(1, 0), (3, 100)], 151, 50, 1, 1, (3, 100), by decide +kernel⟩,
  ⟨[(1, 0), (4, 100)], 150, 50, 1, (4, 100), by decide +kernel⟩⟩

/-- Formats, instants and offsets that meet the hypotheses of each clause of SwitchInstantIsTheFirstOnTheGrid, at the first
and the last format. -/
theorem witness_SwitchInstantIsTheFirstOnTheGrid :
  (∃ (f t : Nat) (off : Int) (k : Nat), 1 ≤ f ∧ f ≤ 29 ∧ f = 1 ∧ (t : Int) ≤ alignAt f k + off + switchOffset f) ∧
  (∃ (f t : Nat) (off : Int) (k : Nat), 1 ≤ f ∧ f ≤ 29 ∧ f = 29 ∧ (t : Int) ≤ alignAt f k + off + switchOffset f) ∧
  (∃ b : Beat, b.rate = 0 ∧ 1 ≤ b.fmt ∧ b.fmt ≤ 29) :=
  ⟨⟨1, 0, 0, 1, by decide +kernel⟩, ⟨29, 0, -1, 1, by decide +kernel⟩, ⟨Z.beat ⟨.video, 0⟩, by decide +kernel⟩⟩

end Sys2Proof.Tests
end

section
/-! What the machine holds right after reset (R10, R15). -/

namespace Sys2Proof.Machine

/-! ## Objects right after reset -/

/-- Right after reset no object is listed: each holds its default (R10). -/
theorem State.get_reset (k : Key) : State.reset.get k = dflt k := rfl

theorem State.nat_reset (k : Key) : State.reset.nat k = (dflt k).int.toNat := rfl

/-- The object map of a port gives its kind as SDI, and no port has a default apart from the map's (R13). -/
theorem dflt_port_kind {l : Nat} (h : l < 1024) : dflt (O.port_kind l) = .n 0 := by
  have own : dfltAt (O.port_kind l) = none := rfl
  have map : rowsOf 0x2300 l = rowsPort := if_pos (Nat.le_of_lt_succ h)
  have row : descOf (O.port_kind l) = rowsPort.find? (fun d => d.sub = 0) := by rw [← map]; rfl
  rw [dflt, own, row]
  rfl

/-- A port owns its own lane by default (R15). -/
theorem dflt_port_owner_port (l : Nat) : dflt (O.port_owner_port l) = .n l := by
  have own : dfltAt (O.port_owner_port l) = some (.n l) := rfl
  rw [dflt, own]

theorem State.portKind_reset {l : Nat} (h : l < 1024) : State.reset.portKind l = 0 := by
  rw [State.portKind, State.nat_reset, dflt_port_kind h]
  rfl

theorem State.ownerPort_reset (l : Nat) : State.reset.ownerPort l = l := by
  rw [State.ownerPort, State.nat_reset, dflt_port_owner_port]
  rfl

/-- Settles O4: the lists are empty and the single objects at the defaults of their maps by computation; the ports, of which
there are 1 024, by the row of their map. -/
theorem resetStateAndItsDefaults : Obligations.ResetStateAndItsDefaults := by
  unfold Obligations.ResetStateAndItsDefaults
  have lists : State.reset.wf = true ∧ State.reset.tbs.length = 4 ∧ State.reset.pending = [] ∧ State.reset.out = [] :=
    ⟨rfl, rfl, rfl, rfl⟩
  have ports : ∀ l, l < 1024 → State.reset.portKind l = 0 ∧ State.reset.ownerPort l = l :=
    fun l hl => ⟨State.portKind_reset hl, State.ownerPort_reset l⟩
  exact ⟨lists, rfl, rfl, rfl, rfl, rfl, rfl, rfl, rfl, rfl, rfl, rfl, rfl, ports, rfl, rfl, rfl, rfl⟩

end Sys2Proof.Machine
end

section
/-! Every command goes on to a state that keeps what `Keeps` names of the state of its arrival; so every step keeps the
canonical form of the stores (R10, R33, R34, R471). An event whose meaning searches or branches has a lemma of its own;
where it is a run of operations, guarded or not, the lemmas of those operations stand in `exec_keeps`. -/

namespace Sys2Proof.Machine

open State

/-! ## Commands that keep -/

/-- The canonical form of a state is that of its objects and that of its words. -/
theorem State.wf_iff (s : State) : s.wf = true ↔ objsWf s.objs = true ∧ wordsWf s.mem.words = true := by
  simp [State.wf, Memory.wf]

theorem Keeps.wf {a b : State} (h : Keeps a b) (w : a.wf = true) : b.wf = true := by
  obtain ⟨-, -, -, -, objs, words⟩ := h
  rw [State.wf_iff] at *
  exact ⟨objs w.1, words w.2⟩

/-- An effect under a guard keeps where both its branches do. -/
theorem Keeps.ite {a x y : State} {c : Prop} [Decidable c] (hx : Keeps a x) (hy : Keeps a y) :
    Keeps a (if c then x else y) := by
  split
  · exact hx
  · exact hy

/-- A command that arrives at the instant `t` in `s` goes on to a state that keeps what stood at its arrival. -/
def KeepsFrom (t : Nat) (s : State) (o : Host.Outcome State Fault Refusal) : Prop :=
  ∃ u, o = .next u ∧ Keeps (s.advance t) u

/-- How every command ends keeps too: settling, telling the subscribers, and a restart that is due (R64, R420, R513). -/
theorem done_keeps {t : Nat} {s u : State} (h : Keeps (s.advance t) u) : KeepsFrom t s (done s u) :=
  ⟨_, rfl, restartDue_keeps (notify_keeps (settle_keeps h) s)⟩

theorem writeCommand_keeps (t : Nat) (w : Writer) (k : Key) (v : Val) (s : State) : KeepsFrom t s (writeCommand t w k v s) :=
  done_keeps (command_keeps (.refl _) w [] k v)

/-! ## Events of audio (Machine/AudioCommands.lean) -/

theorem execAudioClassChange_keeps (t d : Nat) (s : State) : KeepsFrom t s (execAudioClassChange t d s) := by
  refine done_keeps ?_
  split
  · exact .refl _
  · exact .ite (.refl _) (.ite
      (.ite (.refl _) (.ite (giveAsrc_keeps (.refl _) _) (follow_keeps (giveAsrc_keeps (.refl _) _) ..)))
      (.ite (startRepl_keeps (.refl _) ..) (.refl _)))

theorem execAudioSlip_keeps (t d : Nat) (s : State) : KeepsFrom t s (execAudioSlip t d s) := by
  refine done_keeps ?_
  split
  · exact .refl _
  · exact .ite (.refl _) (strike_keeps (.rest (count_keeps (.refl _) ..)) ..)

theorem execSapClockLost_keeps (t dir : Nat) (s : State) : KeepsFrom t s (execSapClockLost t dir s) := by
  refine done_keeps ?_
  split
  · exact .refl _
  · exact .ite (.refl _) (follow_keeps (setN_keeps (.refl _) ..) ..)

theorem execSapFsReturn_keeps (t dir : Nat) (s : State) : KeepsFrom t s (execSapFsReturn t dir s) := by
  refine done_keeps ?_
  split
  · exact .refl _
  · exact .ite (.refl _) (followShared_keeps (setN_keeps (putSap_keeps (.refl _) ..) ..) ..)

theorem execStartTrigEdge_keeps (t : Nat) (rising : Bool) (s : State) : KeepsFrom t s (execStartTrigEdge t rising s) :=
  have edge := setN_keeps (.refl _) O.sapAll_last_trigger ((s.advance t).tbNow 0)
  done_keeps (.ite (fireStart_keeps edge _) edge)

theorem execStartAtInstant_keeps (t : Nat) (s : State) : KeepsFrom t s (execStartAtInstant t s) := by
  refine done_keeps ?_
  split
  · exact .refl _
  · exact .ite (fireStart_keeps (.refl _) _) (.refl _)

theorem State.aesErrors_keeps {z s : State} (h : Keeps z s) (src biphase parity : Nat) :
    Keeps z (s.aesErrors src biphase parity) :=
  .ite (count_keeps (count_keeps h ..) ..) h

theorem execAesBlockComplete_keeps (t src : Nat) (block : Bytes) (crcOk : Bool) (biphase parity : Nat) (s : State) :
    KeepsFrom t s (execAesBlockComplete t src block crcOk biphase parity s) :=
  have stored := aesErrors_keeps (setB_keeps (.refl (s.advance t)) (O.asource_channel_status src) block) src biphase parity
  done_keeps (.ite (.refl _) (.ite (.ite (count_keeps stored ..) stored) (reviewAsrc_keeps (.rest stored) _)))

/-! ## Events of banks, composition, lanes and the mesh -/

theorem execSramWordError_keeps (t bank addr word unit : Nat) (s : State) :
    KeepsFrom t s (execSramWordError t bank addr word unit s) :=
  done_keeps (.ite (.refl _) (withInjection_keeps (.refl _) (fun _ w h => bankWord_keeps h bank addr unit w)))

theorem execScalerFrameWrite_keeps (t n : Nat) (s : State) : KeepsFrom t s (execScalerFrameWrite t n s) :=
  done_keeps (.ite (count_keeps (putScaler_keeps (.refl _) _) ..) (.refl _))

theorem execCommitTimeout_keeps (t g : Nat) (s : State) : KeepsFrom t s (execCommitTimeout t g s) := by
  refine done_keeps ?_
  split
  · exact .refl _
  · split
    · exact .refl _
    · exact .ite (.refl _) (strike_keeps (count_keeps (.rest (.refl _)) ..) ..)

theorem execMirrorFlipAlone_keeps (t l : Nat) (s : State) : KeepsFrom t s (execMirrorFlipAlone t l s) := by
  refine done_keeps ?_
  split
  · exact .refl _
  · exact .ite (.refl _) (strike_keeps (.rest (.refl _)) ..)

theorem execLaneUnlock_keeps (t l : Nat) (s : State) : KeepsFrom t s (execLaneUnlock t l s) :=
  have lost := count_keeps (setN_keeps (.refl (s.advance t)) (O.lane_rx_lock l) 0) (O.lane_lock_losses l) 1 32
  done_keeps (.ite (.refl _) (strike_keeps (.ite (setN_keeps lost ..) lost) ..))

theorem execLaneCodeError_keeps (t l : Nat) (disparity : Bool) (s : State) :
    KeepsFrom t s (execLaneCodeError t l disparity s) := by
  refine done_keeps (.ite (.refl _) ?_)
  extract_lets s1 _ s2
  have counted : Keeps (s.advance t) s2 := .rest (count_keeps (.refl _) ..)
  split
  · exact .ite counted (strike_keeps counted ..)
  · exact strike_keeps counted ..

theorem execLaneTestDurationEnd_keeps (t l : Nat) (s : State) : KeepsFrom t s (execLaneTestDurationEnd t l s) := by
  refine done_keeps ?_
  split
  · exact .ite (finalCount_keeps (.refl _) _) (.refl _)
  · exact .refl _

theorem execCheckerLock_keeps (t l : Nat) (locked : Bool) (bits errors : Nat) (s : State) :
    KeepsFrom t s (execCheckerLock t l locked bits errors s) := by
  refine done_keeps (.ite (.refl _) ?_)
  extract_lets was s1 s2
  have counted : Keeps (s.advance t) s1 := .ite (count_keeps (count_keeps (.refl _) ..) ..) (.refl _)
  have unlocked : Keeps (s.advance t) s2 := setN_keeps counted ..
  exact .ite (setN_keeps (setN_keeps counted ..) ..) (.ite (count_keeps unlocked ..) unlocked)

theorem execMeshLinkDown_keeps (t l : Nat) (cause : LinkLoss) (s : State) : KeepsFrom t s (execMeshLinkDown t l cause s) :=
  done_keeps (.ite (.ite (linkDown_keeps (setN_keeps (.refl _) ..) ..) (linkDown_keeps (.refl _) ..)) (.refl _))

theorem execMeshCellRx_keeps (t l : Nat) (crcOk : Bool) (cls word d : Nat) (s : State) :
    KeepsFrom t s (execMeshCellRx t l crcOk cls word d s) :=
  done_keeps (.ite (.refl _) (withInjection_keeps (.refl _) (fun _ w h => meshCell_keeps h l cls d crcOk w)))

theorem execCreditTimeout_keeps (t l cls : Nat) (s : State) : KeepsFrom t s (execCreditTimeout t l cls s) :=
  done_keeps (.ite (.refl _) (.ite (linkDown_keeps (count_keeps (.refl _) ..) ..) (.refl _)))

theorem execMeshControlMessage_keeps (t l : Nat) (complete : Bool) (m : CtlMsg) (s : State) :
    KeepsFrom t s (execMeshControlMessage t l complete m s) :=
  done_keeps (.ite (.refl _) (.ite (count_keeps (.refl _) ..) (hearControl_keeps (count_keeps (.refl _) ..) m)))

/-! ## Intervals and timeouts of the protocol (Machine/MessageCommands.lean) -/

theorem execEventInterval_keeps (t slot sub : Nat) (s : State) : KeepsFrom t s (execEventInterval t slot sub s) := by
  refine done_keeps ?_
  split
  · exact .ite (flushSub_keeps (.refl _) ..) (.refl _)
  · exact .refl _

theorem execPeriodicReport_keeps (t slot sub unsent : Nat) (s : State) :
    KeepsFrom t s (execPeriodicReport t slot sub unsent s) := by
  refine done_keeps ?_
  split
  · exact .ite (periodic_keeps (.refl _) ..) (.refl _)
  · exact .refl _

theorem execBulkHandleTimeout_keeps (t handle : Nat) (s : State) : KeepsFrom t s (execBulkHandleTimeout t handle s) := by
  refine done_keeps ?_
  split
  · exact .ite (retire_keeps (.refl _) ..) (.refl _)
  · exact .refl _

theorem execSessionIdleTimeout_keeps (t slot : Nat) (s : State) : KeepsFrom t s (execSessionIdleTimeout t slot s) := by
  refine done_keeps ?_
  split
  · exact .ite (endSession_keeps (.refl _) _) (.refl _)
  · exact .refl _

/-! ## Events of packet video (Machine/PacketsCommands.lean) -/

theorem execRxPacket_keeps (t fam inst leg : Nat) (pkt : RxPacket) (s : State) :
    KeepsFrom t s (execRxPacket t fam inst leg pkt s) := by
  refine done_keeps ?_
  extract_lets s1
  have counted : Keeps (s.advance t) s1 := .ite (count_keeps (.refl _) ..) (.refl _)
  split
  · exact .ite (receive_keeps counted ..) counted
  · exact counted

theorem execMergeLostDeclare_keeps (t fam inst seq : Nat) (s : State) :
    KeepsFrom t s (execMergeLostDeclare t fam inst seq s) := by
  refine done_keeps ?_
  split
  · exact .refl _
  · exact count_keeps (modRx_keeps (.refl _) ..) ..

theorem execStandaloneRelease_keeps (t fam inst seq : Nat) (s : State) :
    KeepsFrom t s (execStandaloneRelease t fam inst seq s) := by
  refine done_keeps ?_
  split
  · exact .refl _
  · split
    · exact .ite (count_keeps (modRx_keeps (.refl _) ..) ..) (modRx_keeps (.refl _) ..)
    · exact .ite (count_keeps (.refl _) ..) (.refl _)

theorem execLegDown_keeps (t fam inst leg : Nat) (s : State) : KeepsFrom t s (execLegDown t fam inst leg s) := by
  refine done_keeps ?_
  split
  · exact .refl _
  · refine .ite (.refl _) ?_
    extract_lets tile s1 s2 all s3 g
    have shown : Keeps (s.advance t) s2 := showFlow_keeps (follow_keeps (modRx_keeps (.refl _) ..) ..) ..
    have raised : Keeps (s.advance t) s3 := follow_keeps shown ..
    exact .ite (.ite (sourceGone_keeps raised _) raised) shown

theorem execMergeSkewCheck_keeps (t fam inst : Nat) (s : State) : KeepsFrom t s (execMergeSkewCheck t fam inst s) := by
  refine done_keeps ?_
  split
  · exact .refl _
  · extract_lets l tile s1
    have measured : Keeps (s.advance t) s1 := setI_keeps (.refl _) ..
    exact .ite (.ite (follow_keeps (modRx_keeps measured ..) ..) (modRx_keeps measured ..))
      (followShared_keeps (modRx_keeps measured ..) ..)

theorem execMcastQuery_keeps (t p : Nat) (v6 : Bool) (group : Bytes) (s : State) :
    KeepsFrom t s (execMcastQuery t p v6 group s) :=
  done_keeps (.ite (.refl _) (keeps_foldl (.ite (setN_keeps (.refl _) ..) (.refl _)) (fun _ _ h => emit_keeps h _)))

theorem execMcastCompatExpiry_keeps (t p : Nat) (v6 : Bool) (s : State) :
    KeepsFrom t s (execMcastCompatExpiry t p v6 s) :=
  done_keeps (.ite (followShared_keeps (setN_keeps (.refl _) ..) ..) (.refl _))

theorem execIs05Activation_keeps (t fam inst : Nat) (legs : List Is05Leg) (sched : Option Nat) (s : State) :
    KeepsFrom t s (execIs05Activation t fam inst legs sched s) := by
  refine done_keeps (.ite (emit_keeps (.refl _) _) ?_)
  split
  · exact emit_keeps (activateIs05_keeps (.refl _) ..) _
  · exact .rest (.refl _)

theorem execIs05ScheduledActivation_keeps (t fam inst : Nat) (s : State) :
    KeepsFrom t s (execIs05ScheduledActivation t fam inst s) := by
  refine done_keeps ?_
  split
  · exact .refl _
  · next x _ =>
    have applied := activateIs05_keeps (.refl (s.advance t)) fam inst x.legs
    exact emit_keeps (.ite (.rest applied) applied) _

theorem execArpNdEchoFrameRx_keeps (t p : Nat) (f : NeighbourFrame) (s : State) :
    KeepsFrom t s (execArpNdEchoFrameRx t p f s) :=
  done_keeps (.ite (.ite (count_keeps (.refl _) ..) (neighbour_keeps (count_keeps (.refl _) ..) ..)) (.refl _))

theorem execNmosRegistration_keeps (t : Nat) (found : Bool) (s : State) :
    KeepsFrom t s (execNmosRegistration t found s) :=
  have shown (v : Nat) := setN_keeps (.refl (s.advance t)) O.pk_nmos_state v
  done_keeps (.ite (shown 0) (.ite (shown 3) (.ite (emit_keeps (shown 2) _) (shown 1))))

/-! ## Events of takes, salvos and cross-chip routes (Machine/SalvosCommands.lean) -/

theorem execPlacerTaskStart_keeps (t : Nat) (s : State) : KeepsFrom t s (execPlacerTaskStart t s) := by
  refine done_keeps ?_
  split
  · exact startHeaded_keeps (.refl _) _
  · exact .refl _

theorem execPlacementComplete_keeps (t : Nat) (s : State) : KeepsFrom t s (execPlacementComplete t s) := by
  refine done_keeps ?_
  split
  · exact reviewMembers_keeps (completeHeaded_keeps (.refl _) ..)
  · exact .refl _

theorem execTimedTakeArm_keeps (t slot : Nat) (s : State) : KeepsFrom t s (execTimedTakeArm t slot s) :=
  done_keeps (keeps_foldl (.refl _) (fun _ r h => pathReady_keeps h r.num))

theorem execSalvoPartArrival_keeps (t coord slot gen : Nat) (entries : List (TakeEntry × Nat)) (s : State) :
    KeepsFrom t s (execSalvoPartArrival t coord slot gen entries s) := by
  refine done_keeps (.ite (.refl _) ?_)
  split
  · exact reportPart_keeps (.refl _) ..
  · exact .ite (makePart_keeps (.refl _) ..) (reportPart_keeps (.refl _) ..)

theorem execPourInstant_keeps (t slot : Nat) (s : State) : KeepsFrom t s (execPourInstant t slot s) := by
  refine done_keeps ?_
  split
  · exact .ite (.refl _) (pourDue_keeps (.refl _) _)
  · exact .refl _

theorem execPourDecisionAck_keeps (t slot : Nat) (s : State) : KeepsFrom t s (execPourDecisionAck t slot s) := by
  refine done_keeps ?_
  split
  · exact .ite (finishPour_keeps (.refl _) ..) (.refl _)
  · exact .refl _

theorem execPourAckTimeout_keeps (t slot : Nat) (s : State) : KeepsFrom t s (execPourAckTimeout t slot s) := by
  refine done_keeps ?_
  split
  · split
    · exact .ite (finishPour_keeps (.refl _) ..) (.refl _)
    · exact .refl _
  · exact .refl _

theorem execSalvoDropNotice_keeps (t coord slot : Nat) (s : State) :
    KeepsFrom t s (execSalvoDropNotice t coord slot s) := by
  refine done_keeps ?_
  split
  · exact .ite (.refl _) (dropPart_keeps (.refl _) ..)
  · exact .refl _

theorem execSalvoMemberQuery_keeps (t coord slot : Nat) (s : State) :
    KeepsFrom t s (execSalvoMemberQuery t coord slot s) := by
  refine done_keeps ?_
  split
  · exact .ite (emit_keeps (emit_keeps (.refl _) _) _) (.refl _)
  · exact .refl _

theorem execSalvoOrphan_keeps (t coord slot : Nat) (s : State) : KeepsFrom t s (execSalvoOrphan t coord slot s) := by
  refine done_keeps ?_
  split
  · exact .ite (emit_keeps (strike_keeps (dropPart_keeps (.refl _) ..) ..) _) (.refl _)
  · exact .refl _

theorem execCrossChipReserve_keeps (t head ident : Nat) (part : Placement) (meshIn meshOut mbps : Nat) (s : State) :
    KeepsFrom t s (execCrossChipReserve t head ident part meshIn meshOut mbps s) :=
  done_keeps (.ite (answerReserve_keeps (.refl _) ..) (enqueue_keeps (.refl _) _))

theorem execReserveConfirm_keeps (t head ident : Nat) (confirm : Bool) (s : State) :
    KeepsFrom t s (execReserveConfirm t head ident confirm s) :=
  done_keeps (.ite (reviewParts_keeps (confirmReserve_keeps (.refl _) ..)) (releaseReserve_keeps (.refl _) ..))

theorem execReserveTimeout_keeps (t head ident : Nat) (s : State) : KeepsFrom t s (execReserveTimeout t head ident s) := by
  refine done_keeps ?_
  split
  · exact .ite (releaseReserve_keeps (.refl _) ..) (.refl _)
  · exact .refl _

/-! ## Events of SDI ports, sources and stores (Machine/SdiPortsCommands.lean, Machine/StoresCommands.lean) -/

theorem execSdiLaneLocked_keeps (t p rate : Nat) (s : State) : KeepsFrom t s (execSdiLaneLocked t p rate s) :=
  done_keeps (.ite (laneLocked_keeps (.rest (.ite (setN_keeps (.refl _) ..) (.refl _))) _) (.refl _))

theorem execSourceAbsent_keeps (t x : Nat) (s : State) : KeepsFrom t s (execSourceAbsent t x s) := by
  refine done_keeps ?_
  split
  · exact .refl _
  · exact .ite (.refl _) (stopStores_keeps (.rest (setN_keeps (.refl _) ..)) _)

theorem execStorePrimed_keeps (t i : Nat) (s : State) : KeepsFrom t s (execStorePrimed t i s) := by
  refine done_keeps ?_
  split
  · exact .refl _
  · have primed := modStore_keeps (.refl (s.advance t)) i (fun x => { x with state := 2 })
    exact .ite (.refl _) (keeps_foldl (keeps_foldl primed (fun _ r h => pathReady_keeps h r.num))
      (fun _ r h => startRepl_keeps h r.dst _))

theorem execStoreDeepenReady_keeps (t i : Nat) (s : State) : KeepsFrom t s (execStoreDeepenReady t i s) := by
  refine done_keeps ?_
  split
  · exact .refl _
  · split
    · exact .refl _
    · exact .ite (.refl _) (keeps_foldl (.ite (modStore_keeps (.refl _) ..) (.refl _)) (fun _ d h => askReplace_keeps h d))

theorem State.plainLine_keeps {z s : State} (h : Keeps z s) (d line : Nat) (l : LineOut) : Keeps z (s.plainLine d line l) :=
  .ite (emit_keeps h _) h

theorem execLinePlayout_keeps (t d line : Nat) (onTime : Bool) (s : State) :
    KeepsFrom t s (execLinePlayout t d line onTime s) := by
  refine done_keeps ?_
  extract_lets m s1 s2
  have marked : Keeps (s.advance t) s1 := .ite (setMark_keeps (.refl _) ..) (.refl _)
  have onEdge : Keeps (s.advance t) s2 := .ite marked (endFault_keeps marked _)
  split
  · exact .ite (plainLine_keeps marked ..) (plainLine_keeps marked ..)
  · exact .ite (plainLine_keeps marked ..)
      (.ite (fillLine_keeps marked ..) (emit_keeps (.ite (substitute_keeps onEdge ..) onEdge) _))

theorem execFabricCellError_keeps (t plane inTile outTile word : Nat) (kind3 : Bool) (d : Nat) (s : State) :
    KeepsFrom t s (execFabricCellError t plane inTile outTile word kind3 d s) :=
  done_keeps (withInjection_keeps (.refl _) (fun _ w h => cellWord_keeps h plane outTile d kind3 w))

theorem execHbmWordError_keeps (t stack addr word use d : Nat) (s : State) :
    KeepsFrom t s (execHbmWordError t stack addr word use d s) :=
  done_keeps (.ite (.refl _) (withInjection_keeps (.refl _) (fun _ w h => hbmWord_keeps h stack addr use d w)))

/-! ## Events of time bases, references and outputs (Machine/TimeBasesCommands.lean, Machine/TimingCommands.lean) -/

theorem execAnnounceTimeout_keeps (t port : Nat) (s : State) : KeepsFrom t s (execAnnounceTimeout t port s) :=
  have heard (r : PtpRec) := putPtp_keeps (.refl (s.advance t)) r
  done_keeps (.ite (.refl _) (.ite (.refl _) (bmca_keeps (.ite (putTb_keeps (heard _) _) (heard _)) _)))

theorem execRefQualified_keeps (t e : Nat) (s : State) : KeepsFrom t s (execRefQualified t e s) := by
  refine done_keeps (.ite (.refl _) ?_)
  split
  · exact .ite (setRefState_keeps (.refl _) ..) (.refl _)
  · exact .refl _

theorem execDpllLocked_keeps (t k : Nat) (phase : Int) (s : State) : KeepsFrom t s (execDpllLocked t k phase s) :=
  have locked := setDpllState_keeps (setI_keeps (.refl (s.advance t)) (O.dpll_phase_error k) phase) k 1
  done_keeps (.ite (.refl _) (.ite (putDpll_keeps locked _) locked))

theorem execXoReturn_keeps (t : Nat) (s : State) : KeepsFrom t s (execXoReturn t s) :=
  done_keeps (.ite (.refl _) (keeps_foldl (endFault_keeps (setN_keeps (.refl _) ..) _)
    (fun _ k h => .ite (setDpllState_keeps (setN_keeps h ..) k 0) h)))

theorem execOutputEpoch_keeps (t k : Nat) (s : State) : KeepsFrom t s (execOutputEpoch t k s) := by
  refine done_keeps ?_
  split
  · exact .refl _
  · exact .ite (.refl _) (setN_keeps (putDpll_keeps (.rest (takeEffect_keeps (.refl _) _)) _) ..)

/-! ## Every command, every step -/

/-- Every command goes on and keeps: the events of each family, the messages, and the commands that write one object. -/
theorem exec_keeps (c : Instr) (s : State) : ∃ t, KeepsFrom t s (exec c s) := by
  cases c with
  -- messages (Machine/MessageCommands.lean)
  | read | readDescribe | write | writeTxn | subscribeAdd | subscribeRemove | subscribeRemoveAll | take | priorityTake
    | salvoPrepare | salvoPour | salvoDrop | bulkOpen | bulkChunk | bulkClose | bulkAbort =>
    exact ⟨_, done_keeps (arrive_keeps (.refl _) ..)⟩
  -- Machine/MessageCommands.lean
  | eventInterval => exact ⟨_, execEventInterval_keeps ..⟩
  | periodicReport => exact ⟨_, execPeriodicReport_keeps ..⟩
  | bulkHandleTimeout => exact ⟨_, execBulkHandleTimeout_keeps ..⟩
  | spiSendMessage => exact ⟨_, done_keeps (.ite (arrive_keeps (.refl _) ..) (.refl _))⟩
  | spiFetch => exact ⟨_, done_keeps (.ite (spiPop_keeps (spiEvents_keeps (.refl _))) (.refl _))⟩
  | spiWaitTimeout => exact ⟨_, done_keeps (.ite (spiGivesUp_keeps (.refl _) ..) (.refl _))⟩
  | sessionIdleTimeout => exact ⟨_, execSessionIdleTimeout_keeps ..⟩
  | meshControlMessage => exact ⟨_, execMeshControlMessage_keeps ..⟩
  -- Machine/SalvosCommands.lean
  | placerTaskStart => exact ⟨_, execPlacerTaskStart_keeps ..⟩
  | placementComplete => exact ⟨_, execPlacementComplete_keeps ..⟩
  | timedTakeArm => exact ⟨_, execTimedTakeArm_keeps ..⟩
  | switchInstant => exact ⟨_, done_keeps (reviewMembers_keeps (reviewDones_keeps (switchInstant_keeps (.refl _) _)))⟩
  | salvoPartArrival => exact ⟨_, execSalvoPartArrival_keeps ..⟩
  | salvoPartReport => exact ⟨_, done_keeps (partReported_keeps (.refl _) ..)⟩
  | pourInstant => exact ⟨_, execPourInstant_keeps ..⟩
  | pourDecisionAck => exact ⟨_, execPourDecisionAck_keeps ..⟩
  | pourAckTimeout => exact ⟨_, execPourAckTimeout_keeps ..⟩
  | pourNotice => exact ⟨_, done_keeps (reviewDones_keeps (pourPart_keeps (.refl _) ..))⟩
  | salvoPartDone => exact ⟨_, done_keeps (.ite (partDone_keeps (.refl _) ..) (.refl _))⟩
  | salvoDropNotice => exact ⟨_, execSalvoDropNotice_keeps ..⟩
  | salvoMemberQuery => exact ⟨_, execSalvoMemberQuery_keeps ..⟩
  | salvoOrphan => exact ⟨_, execSalvoOrphan_keeps ..⟩
  | crossChipReserve => exact ⟨_, execCrossChipReserve_keeps ..⟩
  | reserveConfirm => exact ⟨_, execReserveConfirm_keeps ..⟩
  | reserveTimeout => exact ⟨_, execReserveTimeout_keeps ..⟩
  | salvoRetentionExpiry => exact ⟨_, done_keeps (.ite (forgetSalvo_keeps (.refl _) ..) (.refl _))⟩
  -- Machine/StoresCommands.lean
  | storePrimed => exact ⟨_, execStorePrimed_keeps ..⟩
  | sourceFrameStart => exact ⟨_, done_keeps (.ite (.refl _) (frameStart_keeps (.refl _) ..))⟩
  | sourceAbsent => exact ⟨_, execSourceAbsent_keeps ..⟩
  | storeReadInstant => exact ⟨_, done_keeps (readInstant_keeps (.refl _) ..)⟩
  | storeDeepenReady => exact ⟨_, execStoreDeepenReady_keeps ..⟩
  | linePlayout => exact ⟨_, execLinePlayout_keeps ..⟩
  | fabricCellError => exact ⟨_, execFabricCellError_keeps ..⟩
  | hbmWordError => exact ⟨_, execHbmWordError_keeps ..⟩
  | hbmScrubPeriod => exact ⟨_, done_keeps (.ite (.refl _) (setN_keeps (.refl _) ..))⟩
  | refreshModeChange => exact ⟨_, done_keeps (.ite (.refl _) (setN_keeps (setI_keeps (.refl _) ..) ..))⟩
  -- Machine/SdiPortsCommands.lean
  | sdiLaneLocked => exact ⟨_, execSdiLaneLocked_keeps ..⟩
  | sdiFormatDetected => exact ⟨_, done_keeps (.ite (detected_keeps (.refl _) ..) (.refl _))⟩
  | sdiLossOfSignal => exact ⟨_, done_keeps (.ite (sdiLost_keeps (.refl _) ..) (.refl _))⟩
  | sdiCheckError => exact ⟨_, done_keeps (.ite (sdiError_keeps (.refl _) ..) (.refl _))⟩
  | ancPacketExtract => exact ⟨_, done_keeps (.ite (extract_keeps (.refl _) ..) (.refl _))⟩
  | ancPacketInsert => exact ⟨_, done_keeps (.ite (insert_keeps (.refl _) ..) (.refl _))⟩
  -- Machine/PacketsCommands.lean
  | ethLinkChange => exact ⟨_, done_keeps (.ite (ethLink_keeps (.refl _) ..) (.refl _))⟩
  | addressResolveTimeout => exact ⟨_, done_keeps (.ite (setN_keeps (.refl _) ..) (.refl _))⟩
  | rxPacket => exact ⟨_, execRxPacket_keeps ..⟩
  | mergeLostDeclare => exact ⟨_, execMergeLostDeclare_keeps ..⟩
  | frameRelease => exact ⟨_, done_keeps (.ite (releaseFrame_keeps (.refl _) ..) (.refl _))⟩
  | standaloneRelease => exact ⟨_, execStandaloneRelease_keeps ..⟩
  | legDown => exact ⟨_, execLegDown_keeps ..⟩
  | mergeSkewCheck => exact ⟨_, execMergeSkewCheck_keeps ..⟩
  | mcastQuery => exact ⟨_, execMcastQuery_keeps ..⟩
  | unsolicitedReport => exact ⟨_, done_keeps (.ite (emit_keeps (.rest (.refl _)) _) (.refl _))⟩
  | leaveHoldExpiry => exact ⟨_, done_keeps (.ite (leaveFlow_keeps (.refl _) ..) (.refl _))⟩
  | mcastCompatEnter => exact ⟨_, done_keeps (.ite (.refl _) (follow_keeps (setN_keeps (.refl _) ..) ..))⟩
  | mcastCompatExpiry => exact ⟨_, execMcastCompatExpiry_keeps ..⟩
  | is05Activation => exact ⟨_, execIs05Activation_keeps ..⟩
  | is05ScheduledActivation => exact ⟨_, execIs05ScheduledActivation_keeps ..⟩
  | arpNdEchoFrameRx => exact ⟨_, execArpNdEchoFrameRx_keeps ..⟩
  | nmosRegistration => exact ⟨_, execNmosRegistration_keeps ..⟩
  -- Machine/TimeBasesCommands.lean
  | packetLaunch => exact ⟨_, done_keeps (launchNext_keeps (.refl _) ..)⟩
  | ptpMessageRx => exact ⟨_, done_keeps (.ite (ptpRx_keeps (.refl _) ..) (.refl _))⟩
  | ptpMessageTx => exact ⟨_, done_keeps (.ite (ptpTx_keeps (.refl _) ..) (.refl _))⟩
  | announceTimeout => exact ⟨_, execAnnounceTimeout_keeps ..⟩
  | ptpNoMasterCheck => exact ⟨_, done_keeps (.ite (reviewNoMaster_keeps (.refl _) ..) (.refl _))⟩
  | stepInstant => exact ⟨_, done_keeps (.ite (stepDue_keeps (.refl _) ..) (.refl _))⟩
  -- Machine/CompositionCommands.lean
  | headReadInstant => exact ⟨_, done_keeps (.ite (.refl _) (headRead_keeps (.refl _) ..))⟩
  | scalerFrameWrite => exact ⟨_, execScalerFrameWrite_keeps ..⟩
  | flipPoint => exact ⟨_, done_keeps (.ite (.refl _) (flipPoint_keeps (.refl _) ..))⟩
  | commitTimeout => exact ⟨_, execCommitTimeout_keeps ..⟩
  | rendererRedraw => exact ⟨_, done_keeps (.ite (autoCommit_keeps (.refl _) ..) (.refl _))⟩
  | mirrorImageAck => exact ⟨_, done_keeps (.rest (.refl _))⟩
  | mirrorFlipAlone => exact ⟨_, execMirrorFlipAlone_keeps ..⟩
  -- Machine/AudioCommands.lean
  | audioClassChange => exact ⟨_, execAudioClassChange_keeps ..⟩
  | audioSlip => exact ⟨_, execAudioSlip_keeps ..⟩
  | tdmFrameStart => exact ⟨_, done_keeps (tdmFrame_keeps (.refl _) ..)⟩
  | sapRateMeasure => exact ⟨_, done_keeps (.ite (sapMeasure_keeps (.refl _) ..) (.refl _))⟩
  | sapClockLost => exact ⟨_, execSapClockLost_keeps ..⟩
  | sapFsReturn => exact ⟨_, execSapFsReturn_keeps ..⟩
  | startTrigEdge => exact ⟨_, execStartTrigEdge_keeps ..⟩
  | startAtInstant => exact ⟨_, execStartAtInstant_keeps ..⟩
  | asrcRelock => exact ⟨_, done_keeps (.ite (count_keeps (setN_keeps (.refl _) ..) ..) (.refl _))⟩
  | aesLock => exact ⟨_, done_keeps (.ite (.refl _) (followShared_keeps
       (setN_keeps (setN_keeps (setN_keeps (.refl _) ..) ..) ..) ..))⟩
  | aesBlockComplete => exact ⟨_, execAesBlockComplete_keeps ..⟩
  | aesLos => exact ⟨_, done_keeps (.ite (.refl _) (latch_keeps (setN_keeps (setN_keeps (.refl _) ..) ..) ..))⟩
  | loudnessUpdate => exact ⟨_, done_keeps (.ite (loudUpdate_keeps (.refl _) ..) (.refl _))⟩
  | asrcAcquired => exact ⟨_, done_keeps (.ite (setI_keeps (setN_keeps (.refl _) ..) ..) (.refl _))⟩
  -- Machine/TimingCommands.lean
  | refPhaseSample => exact ⟨_, done_keeps (.ite (.refl _) (phaseSample_keeps (.refl _) ..))⟩
  | refActivityLost => exact ⟨_, done_keeps (.ite (.refl _) (setRefState_keeps (.refl _) ..))⟩
  | refQualified => exact ⟨_, execRefQualified_keeps ..⟩
  | refEvaluation => exact ⟨_, done_keeps (evaluate_keeps (.refl _) ..)⟩
  | selectorRun => exact ⟨_, done_keeps (.ite (.refl _) (runSelector_keeps (.refl _) ..))⟩
  | buildoutComplete => exact ⟨_, done_keeps (.ite (.refl _) (putDpll_keeps (.refl _) ..))⟩
  | dpllLocked => exact ⟨_, execDpllLocked_keeps ..⟩
  | xoLoss => exact ⟨_, done_keeps (follow_keeps (setN_keeps (.refl _) ..) ..)⟩
  | xoReturn => exact ⟨_, execXoReturn_keeps ..⟩
  | dpllFreerunCheck => exact ⟨_, done_keeps (.ite (.refl _) (follow_keeps (.refl _) ..))⟩
  | outputEpoch => exact ⟨_, execOutputEpoch_keeps ..⟩
  -- Machine/WriterCommands.lean
  | timeSet => exact ⟨_, done_keeps (command_keeps (.refl _) ..)⟩
  -- Machine/LanesCommands.lean
  | laneExitDone => exact ⟨_, done_keeps (.ite (laneLocked_keeps (setN_keeps (.refl _) ..) _) (.refl _))⟩
  | laneUnlock => exact ⟨_, execLaneUnlock_keeps ..⟩
  | laneCodeError => exact ⟨_, execLaneCodeError_keeps ..⟩
  | txpllUnlock => exact ⟨_, done_keeps (.ite (.refl _) (follow_keeps (setBit_keeps (.refl _) ..) ..))⟩
  | refMismatchCheck => exact ⟨_, done_keeps (.ite (.refl _) (followShared_keeps
       (setBit_keeps (setI_keeps (.refl _) ..) ..) ..))⟩
  | laneTestDurationEnd => exact ⟨_, execLaneTestDurationEnd_keeps ..⟩
  | checkerLock => exact ⟨_, execCheckerLock_keeps ..⟩
  | txpllRelock => exact ⟨_, done_keeps (.ite (.refl _) (followShared_keeps (setBit_keeps (.refl _) ..) ..))⟩
  -- Machine/MeshCommands.lean
  | lrefLoss => exact ⟨_, done_keeps (.ite (lrefLost_keeps (.refl _) ..) (.refl _))⟩
  | lrefRelock => exact ⟨_, done_keeps (.ite (endFault_keeps (setBit_keeps (setBit_keeps (.refl _) ..) ..) _) (.refl _))⟩
  | meshAligned => exact ⟨_, done_keeps (.ite (laneLocked_keeps (putMlane_keeps (setN_keeps (.refl _) ..) _) _) (.refl _))⟩
  | trainingAnnounce => exact ⟨_, done_keeps (.ite (emit_keeps (.refl _) _) (.refl _))⟩
  | trainingSetRx => exact ⟨_, done_keeps (.ite (trainingSet_keeps (.refl _) ..) (.refl _))⟩
  | meshLinkUp => exact ⟨_, done_keeps (.ite (linkUp_keeps (.refl _) ..) (.refl _))⟩
  | meshLinkDown => exact ⟨_, execMeshLinkDown_keeps ..⟩
  | meshCellRx => exact ⟨_, execMeshCellRx_keeps ..⟩
  | creditReturn => exact ⟨_, done_keeps (.ite (.refl _) (putMlane_keeps (.refl _) _))⟩
  | creditTimeout => exact ⟨_, execCreditTimeout_keeps ..⟩
  | meshHeartbeat => exact ⟨_, done_keeps (flood_keeps (.refl _) _)⟩
  | linkListFlood => exact ⟨_, done_keeps (flood_keeps (.refl _) _)⟩
  | chipLost => exact ⟨_, done_keeps (.ite (routesLose_keeps (loseChip_keeps (.refl _) _) _) (.refl _))⟩
  | planReceived => exact ⟨_, done_keeps (planHeard_keeps (.refl _) ..)⟩
  | domainAdmission => exact ⟨_, done_keeps (joinPermit_keeps (.refl _))⟩
  | headElection => exact ⟨_, done_keeps (elect_keeps (.refl _) ..)⟩
  | headPriorityHold => exact ⟨_, done_keeps (.ite (elect_keeps (.refl _) ..) (.refl _))⟩
  -- Machine/TwinCommands.lean
  | twinHandshake => exact ⟨_, done_keeps (handshake_keeps (.refl _) ..)⟩
  | twinHandshakeTimeout => exact ⟨_, done_keeps (handshakeTimeout_keeps (.refl _))⟩
  | twinHeartbeat => exact ⟨_, done_keeps (twinBeat_keeps (.refl _))⟩
  | twinLaneDown => exact ⟨_, done_keeps (twinLaneDown_keeps (.refl _) ..)⟩
  | twinLinkDown => exact ⟨_, done_keeps (twinLinkDown_keeps (.refl _))⟩
  | primaryDeath => exact ⟨_, done_keeps (primaryDeath_keeps (.refl _))⟩
  | safeStateNoticeRx => exact ⟨_, done_keeps (safeNotice_keeps (.refl _))⟩
  | powerFailNoticeRx => exact ⟨_, done_keeps (powerNotice_keeps (.refl _))⟩
  | mirrorAck => exact ⟨_, done_keeps (mirrorAcked_keeps (.refl _) ..)⟩
  | signatureCompare => exact ⟨_, done_keeps (compareFrame_keeps (.refl _) ..)⟩
  | backgroundBist => exact ⟨_, done_keeps (bistRun_keeps (.refl _) ..)⟩
  | backgroundLoopback => exact ⟨_, done_keeps (loopbackRun_keeps (.refl _) ..)⟩
  | handoverCommit => exact ⟨_, done_keeps (commitHandover_keeps (.refl _))⟩
  | handoverDone => exact ⟨_, done_keeps (handoverDone_keeps (.refl _))⟩
  | takeback => exact ⟨_, done_keeps (takeback_keeps (.refl _))⟩
  | pfWarnings => exact ⟨_, done_keeps (powerWarnings_keeps (.refl _) ..)⟩
  | twinLaneUp => exact ⟨_, done_keeps (twinLaneUp_keeps (.refl _) ..)⟩
  -- Machine/Mirroring.lean
  | mirrorItemRx => exact ⟨_, done_keeps (reviewDones_keeps (mirrorItem_keeps (.refl _) ..))⟩
  | catchUpComplete => exact ⟨_, done_keeps (catchUpDone_keeps (.refl _))⟩
  -- Machine/FaultsCommands.lean
  | faultLatch => exact ⟨_, done_keeps (faultLatch_keeps (.refl _) ..)⟩
  | blockResetDone => exact ⟨_, done_keeps (resetOver_keeps (.refl _) ..)⟩
  | faultConditionEnd => exact ⟨_, done_keeps (endFault_keeps (.refl _) ..)⟩
  | faultTreeSelfCheck => exact ⟨_, done_keeps (treeCheck_keeps (.refl _) ..)⟩
  -- Machine/BanksCommands.lean
  | bankIdleTimer => exact ⟨_, done_keeps (bankTimer_keeps (.refl _) ..)⟩
  | bankWake => exact ⟨_, done_keeps (wakeBank_keeps (.refl _) ..)⟩
  | bankWakeDone => exact ⟨_, done_keeps (bankAwake_keeps (.refl _) ..)⟩
  | sramWordError => exact ⟨_, execSramWordError_keeps ..⟩
  | bankScrub => exact ⟨_, done_keeps (scrubBank_keeps (.refl _) ..)⟩
  | icRequest => exact ⟨_, done_keeps (icRequests_keeps (.refl _) ..)⟩
  | icResponse => exact ⟨_, done_keeps (icRespond_keeps (.refl _) ..)⟩
  | icTimeout => exact ⟨_, done_keeps (icTimeout_keeps (.refl _) ..)⟩
  | icLockOpen => exact ⟨_, done_keeps (openLock_keeps (.refl _) ..)⟩
  | icLockCut => exact ⟨_, done_keeps (cutLock_keeps (.refl _) ..)⟩
  -- Machine/FirmwareCommands.lean
  | activationPrepareRx => exact ⟨_, done_keeps (prepareRx_keeps (.refl _) ..)⟩
  | activationReportRx => exact ⟨_, done_keeps (actReport_keeps (.refl _) ..)⟩
  | activationReportDeadline => exact ⟨_, done_keeps (actDeadline_keeps (.refl _))⟩
  | activationInstant => exact ⟨_, done_keeps (actInstantAt_keeps (.refl _))⟩
  | probationEnd => exact ⟨_, done_keeps (probationOver_keeps (.refl _))⟩
  | carryOverAppend => exact ⟨_, done_keeps (programCarry_keeps (.refl _))⟩
  | carryOverRegionSwitch => exact ⟨_, done_keeps (switchRegion_keeps (.refl _))⟩
  -- Machine/PowerCommands.lean
  | voltageLoopPeriod => exact ⟨_, done_keeps (voltageLoop_keeps (.refl _) ..)⟩
  | paceMonitorWindow => exact ⟨_, done_keeps (paceWindow_keeps (.refl _) ..)⟩
  | paceMarginTimeout => exact ⟨_, done_keeps (paceTimeout_keeps (.refl _) ..)⟩
  | regulatorPoll => exact ⟨_, done_keeps (pollRegulator_keeps (.refl _) ..)⟩
  | railMonitorTrip => exact ⟨_, done_keeps (railTrip_keeps (.refl _) ..)⟩
  | brownoutEnd => exact ⟨_, done_keeps (brownEnd_keeps (.refl _) ..)⟩
  | brownoutRingWrite => exact ⟨_, done_keeps (writeRing_keeps (.refl _))⟩
  | pwrgdFall => exact ⟨_, done_keeps (pwrgdFall_keeps (.refl _))⟩
  | resetNLow => exact ⟨_, done_keeps (resetLow_keeps (.refl _))⟩
  | bringupStart => exact ⟨_, done_keeps (bringupStart_keeps (.refl _))⟩
  | bringupOverrun => exact ⟨_, done_keeps (bringupOverrun_keeps (.refl _))⟩
  | wakeNFall => exact ⟨_, done_keeps (wakeLull_keeps (.refl _) ..)⟩
  | lullWakeDone => exact ⟨_, done_keeps (lullOver_keeps (.refl _))⟩
  | lullWakeLate => exact ⟨_, done_keeps (lullLate_keeps (.refl _))⟩
  | undervoltTrip => exact ⟨_, done_keeps (undervolt_keeps (.refl _) ..)⟩
  | jtagExtest => exact ⟨_, done_keeps (extest_keeps (.refl _))⟩
  | tapReset => exact ⟨_, done_keeps (tapReset_keeps (.refl _))⟩
  -- Machine/Bringup.lean
  | bringupPhaseDone => exact ⟨_, done_keeps (phaseDone_keeps (.refl _) ..)⟩
  | bringupReady => exact ⟨_, done_keeps (becomeReady_keeps (.refl _))⟩
  -- commands of one object (Machine/WriterCommands.lean)
  | _ => exact ⟨_, writeCommand_keeps ..⟩

/-- A step keeps the canonical form of the stores: an idle one changes nothing, and one that carries out a command keeps. -/
theorem step_keeps_wf {s s' : State} (w : s.wf = true) (h : step s = .next s') : s'.wf = true := by
  unfold step at h
  split at h
  · cases h
    exact w
  · next c rest _ =>
    obtain ⟨t, u, hu, keeps⟩ := exec_keeps c { s with pending := rest }
    rw [hu] at h
    cases h
    exact keeps.wf w

/-- Settles O3: each command's effect keeps both stores canonical (`exec_keeps`), and a step runs one command or idles. -/
theorem everyStepKeepsTheStoresCanonical : Obligations.EveryStepKeepsTheStoresCanonical := by
  unfold Obligations.EveryStepKeepsTheStoresCanonical
  exact fun _ _ => step_keeps_wf

end Sys2Proof.Machine
end

section
/-! One step, the words of memory, and commands that write one object: what an accepted record does and what a refused one
leaves (R33, R34, R37, R50, R60, R538). -/

namespace Sys2Proof.Machine

/-! ## One step (log entry 1) -/

/-- A step on a queue that is not empty runs its front with the rest of the queue (log entry 1). -/
theorem step_of_pending {s : State} {c : Instr} {rest : List Instr} (h : s.pending = c :: rest) :
    step s = exec c { s with pending := rest } := by
  rw [step, h]

theorem step_of_idle {s : State} (h : s.pending = []) : step s = .next s := by
  rw [step, h]

/-- Settles O1: by the two rules of `step`. -/
theorem stepRunsTheFrontCommand : Obligations.StepRunsTheFrontCommand := by
  unfold Obligations.StepRunsTheFrontCommand
  exact ⟨fun _ _ _ => step_of_pending, fun _ => step_of_idle⟩

/-- Settles O2: every command goes on to a state (`exec_keeps`). -/
theorem everyCommandGoesOn : Obligations.EveryCommandGoesOn := by
  unfold Obligations.EveryCommandGoesOn
  intro c s
  obtain ⟨_, u, hu, -⟩ := exec_keeps c s
  exact ⟨u, hu⟩

/-! ## Words of banks and HBM windows (R469, R471) -/

theorem kdel_cons {κ α : Type} [DecidableEq κ] (a : κ) (b : α) (l : List (κ × α)) (k : κ) :
    kdel ((a, b) :: l) k = if a = k then kdel l k else (a, b) :: kdel l k := by
  by_cases h : a = k <;> simp [kdel, h]

/-- A lookup after a delete, for keys of any type. -/
theorem kfind_kdel_ite {κ α : Type} [DecidableEq κ] (k : κ) (l : List (κ × α)) (k' : κ) :
    kfind (kdel l k) k' = if k' = k then none else kfind l k' := by
  induction l with
  | nil => simp [kdel, kfind]
  | cons x r ih =>
    obtain ⟨a, b⟩ := x
    rw [kdel_cons]
    by_cases ha : a = k
    · rw [if_pos ha, ih]
      by_cases hk : k' = k
      · simp [hk]
      · simp [kfind, ha, hk, Ne.symm hk]
    · by_cases hk : a = k'
      · simp [kfind, ← hk, ha]
      · simp [kfind, ha, hk, ih]

/-- A lookup after a word is put. -/
theorem kfind_wordPut (k : Nat × Nat) (v : Nat) (l : List ((Nat × Nat) × Nat)) (k' : Nat × Nat) :
    kfind (wordPut k v l) k' = if k' = k then some v else kfind l k' := by
  induction l with
  | nil => simp only [wordPut, kfind, eq_comm]
  | cons x r ih =>
    obtain ⟨a, b⟩ := x
    by_cases ha : a = k
    · by_cases hk : k' = k
      · simp [wordPut, kfind, ha, hk]
      · simp [wordPut, kfind, ha, hk, Ne.symm hk]
    · by_cases before : wordBefore k a = true
      · by_cases hk : k' = k
        · simp [wordPut, kfind, ha, before, hk]
        · simp [wordPut, kfind, ha, before, hk, Ne.symm hk]
      · by_cases hk : a = k'
        · simp [wordPut, kfind, ← hk, ha, before]
        · simp [wordPut, kfind, ha, before, hk, ih]

/-- A word reads back after a write of a word. -/
theorem State.wordAt_putWord (s : State) (unit addr v unit' addr' : Nat) :
    (s.putWord unit addr v).wordAt unit' addr' = if unit' = unit ∧ addr' = addr then v else s.wordAt unit' addr' := by
  have same : (unit', addr') = (unit, addr) ↔ unit' = unit ∧ addr' = addr := Prod.mk.injEq .. ▸ Iff.rfl
  simp only [State.wordAt, State.putWord]
  by_cases hv : v = 0
  · rw [if_pos hv, kfind_kdel_ite]
    by_cases h : unit' = unit ∧ addr' = addr
    · simp [h, hv]
    · simp [same, h]
  · rw [if_neg hv, kfind_wordPut]
    by_cases h : unit' = unit ∧ addr' = addr
    · simp [h]
    · simp [same, h]

/-- Settles O6: objects by `State.get_set`, words by `State.wordAt_putWord`; the list of words is canonical still. -/
theorem objectsAndWordsReadBack : Obligations.ObjectsAndWordsReadBack := by
  unfold Obligations.ObjectsAndWordsReadBack
  refine ⟨fun s k k' v => ?_, State.wordAt_putWord, fun s => s.putWord_wf, fun _ _ => rfl⟩
  exact ⟨by rw [State.get_set, if_pos rfl], fun other => by rw [State.get_set, if_neg other]⟩

/-! ## Commands that write one object (R37, R50, R60, R538) -/

/-- Each command of one object hands its record to the write path, at its instant. -/
theorem exec_of_objectRecord {c : Instr} {t : Nat} {w : Writer} {ovr : List Nat} {k : Key} {v : Val}
    (h : objectRecord c = some (t, w, ovr, k, v)) (s : State) :
    exec c s = .next (s.closed ((s.advance t).command w ovr k v)) := by
  unfold objectRecord at h
  split at h <;> cases h <;> rfl

/-- Before Ready nothing is written (R50). -/
theorem State.command_not_ready {s : State} (h : s.ready = false) (w : Writer) (ovr : List Nat) (k : Key) (v : Val) :
    s.command w ovr k v = s.emit (.result k C.notReady) := by
  simp [State.command, h]

/-- Settles O7: the command runs the write path, which grants what the checks and the rule accept. -/
theorem acceptedWriteTakesEffect : Obligations.AcceptedWriteTakesEffect := by
  unfold Obligations.AcceptedWriteTakesEffect
  intro c t w ovr k v d s hc admitted hd accepted
  rw [exec_of_objectRecord hc, State.command_granted admitted hd accepted]

/-- Settles O8: the write path hands back the state of a refused record; before Ready it is not entered. -/
theorem refusedWriteChangesNothing : Obligations.RefusedWriteChangesNothing := by
  unfold Obligations.RefusedWriteChangesNothing
  refine ⟨fun c t w ovr k v s hc ready notList refused => ?_, fun c t w ovr k v s hc notReady => ?_⟩
  · rw [exec_of_objectRecord hc, State.command_refused ready notList refused]
  · have atArrival : (s.advance t).ready = false := notReady
    rw [exec_of_objectRecord hc, State.command_not_ready atArrival]

end Sys2Proof.Machine
end

section
/-! The frame of the protocol: what requests, replies and events change is the account of the sessions and what has left the
chip (R41, R55, R64). -/

namespace Sys2Proof.Machine

/-- `b` differs from `a` in the account of the protocol and in what has left the chip, and in nothing else. -/
def SaysOnly (a b : State) : Prop := ∃ o p, b = { a with out := o, proto := p }

theorem SaysOnly.refl (a : State) : SaysOnly a a := ⟨_, _, rfl⟩

theorem SaysOnly.trans {a b c : State} (h : SaysOnly a b) (k : SaysOnly b c) : SaysOnly a c := by
  obtain ⟨_, _, rfl⟩ := h
  obtain ⟨_, _, rfl⟩ := k
  exact ⟨_, _, rfl⟩

namespace SaysOnly

variable {a b : State}

theorem get (h : SaysOnly a b) (k : Key) : b.get k = a.get k := by
  obtain ⟨_, _, rfl⟩ := h
  rfl

theorem mem (h : SaysOnly a b) : b.mem = a.mem := by
  obtain ⟨_, _, rfl⟩ := h
  rfl

theorem sw (h : SaysOnly a b) : b.sw = a.sw := by
  obtain ⟨_, _, rfl⟩ := h
  rfl

theorem placer (h : SaysOnly a b) : b.placer = a.placer := by
  obtain ⟨_, _, rfl⟩ := h
  rfl

theorem power (h : SaysOnly a b) : b.power = a.power := by
  obtain ⟨_, _, rfl⟩ := h
  rfl

end SaysOnly

/-! ## Objects after numbers, bytes and defaults are set -/

theorem State.get_setN (s : State) (k k' : Key) (v : Nat) : (s.setN k v).get k' = if k' = k then .n v else s.get k' :=
  s.get_set ..

theorem State.get_setB (s : State) (k k' : Key) (v : Bytes) : (s.setB k v).get k' = if k' = k then .b v else s.get k' :=
  s.get_set ..

/-- Subindices of one unit put back at their defaults. -/
theorem State.get_foldl_dflt (fam i : Nat) (subs : List Nat) (s : State) (k : Key) :
    (subs.foldl (fun st sub => st.set ⟨fam, i, sub⟩ (dflt ⟨fam, i, sub⟩)) s).get k =
      if k.fam = fam ∧ k.inst = i ∧ k.sub ∈ subs then dflt k else s.get k := by
  induction subs generalizing s with
  | nil => simp
  | cons sub rest ih =>
    rw [List.foldl_cons, ih, State.get_set]
    by_cases here : k = ⟨fam, i, sub⟩
    · subst here
      simp
    · have apart : ¬(k.fam = fam ∧ k.inst = i ∧ k.sub = sub) := fun ⟨hf, hi, hs⟩ => here (by rw [← hf, ← hi, ← hs])
      simp only [List.mem_cons, if_neg here, and_or_left, apart, false_or]

/-! ## Replies -/

theorem State.modSession_says (s : State) (slot : Nat) (f : Session → Session) : SaysOnly s (s.modSession slot f) :=
  ⟨_, _, rfl⟩

theorem State.sendOn_says (s : State) (via : Via) (raw : Bytes) : SaysOnly s (s.sendOn via raw) := by
  unfold State.sendOn
  split
  · exact ⟨_, _, rfl⟩
  · exact ⟨_, _, rfl⟩

theorem State.reply_says (s : State) (tk : Ticket) (status : Nat) (body : Bytes) : SaysOnly s (s.reply tk status body) :=
  (s.modSession_says ..).trans (State.sendOn_says ..)

theorem State.refuse_says (s : State) (tk : Ticket) (code : Nat) : SaysOnly s (s.refuse tk code) := s.reply_says ..

theorem State.replyMirrored_says (s : State) (before : Nat) (tk : Ticket) (status : Nat) (body : Bytes) :
    SaysOnly s (s.replyMirrored before tk status body) := by
  unfold State.replyMirrored
  split
  · exact s.reply_says ..
  · exact ⟨_, _, rfl⟩

theorem State.retire_says (s : State) (handle : Nat) (committed : Bool) : SaysOnly s (s.retire handle committed) :=
  ⟨_, _, rfl⟩

/-! ## Events -/

theorem State.sendEvents_says (s : State) (slot num lost newest : Nat) (keys : List Key) :
    SaysOnly s (s.sendEvents slot num lost newest keys) := by
  unfold State.sendEvents
  refine List.foldlRecOn (motive := fun p : State × Nat => SaysOnly s p.1) _ _ (.refl s) fun p said recs _ => ?_
  split
  · exact said
  · exact (said.trans (State.modSession_says ..)).trans (State.sendOn_says ..)

theorem State.flushSub_says (s : State) (slot num : Nat) : SaysOnly s (s.flushSub slot num) := by
  unfold State.flushSub
  split
  · exact .refl s
  · split
    · exact .refl s
    · exact (s.modSession_says ..).trans (State.sendEvents_says ..)

theorem State.flushNow_says (s : State) (u : Sub) : SaysOnly s (s.flushNow u) := by
  unfold State.flushNow
  split
  · exact .refl s
  · split
    · exact s.flushSub_says ..
    · exact .refl s

end Sys2Proof.Machine
end

section
/-! How a command ends: what is due of the twin settles, the subscribers are told, and a restart that was called for comes (R64,
R513). -/

namespace Sys2Proof.Machine

/-! ## What settles with no standby -/

/-- A chip that is not standby, and holds no reply for its twin, settles by no longer counting since when its Barometer is clear. -/
theorem State.settle_eq {u : State} (noReplies : u.proto.held = []) (notStandby : u.standby = false) :
    u.settle = { u with twin := { u.twin with clearSince := none } } := by
  have released : (if u.mirroring || u.proto.held.isEmpty then u else u.releaseAllHeld) = u := by simp [noReplies]
  have watched : u.watchBarometer = { u with twin := { u.twin with clearSince := none } } := by
    unfold State.watchBarometer
    cases h : u.twin.clearSince with
    | none => simp [notStandby, ← h]
    | some c => simp [notStandby]
  have standbyStill : ({ u with twin := { u.twin with clearSince := none } } : State).standby = false := notStandby
  rw [State.settle, released, watched, State.comeBehind, standbyStill]
  simp

theorem State.restartDue_of_none {u : State} (h : u.power.due = none) : u.restartDue = u := by
  rw [State.restartDue, h]

theorem State.notify_of_no_subs {s u : State} (h : u.proto.subs = []) : u.notify s = u := by
  rw [State.notify, h]
  rfl

/-! ## What the subscribers' news changes -/

theorem State.get_count_other (s : State) {k k' : Key} (h : k' ≠ k) (n w : Nat) : (s.count k n w).get k' = s.get k' := by
  rw [State.count, State.setN, State.get_set, if_neg h]

/-- `b` differs from `a` neither in its power nor in its objects, but for those of the sessions' family. -/
def TellsOnly (a b : State) : Prop := b.power = a.power ∧ ∀ k : Key, k.fam ≠ 0x1010 → b.get k = a.get k

theorem TellsOnly.refl (a : State) : TellsOnly a a := ⟨rfl, fun _ _ => rfl⟩

theorem TellsOnly.trans {a b c : State} (h : TellsOnly a b) (k : TellsOnly b c) : TellsOnly a c :=
  ⟨k.1.trans h.1, fun key other => (k.2 key other).trans (h.2 key other)⟩

theorem SaysOnly.tells {a b : State} (h : SaysOnly a b) : TellsOnly a b := ⟨h.power, fun k _ => h.get k⟩

theorem State.count_lost_tells (s : State) (slot : Nat) : TellsOnly s (s.count (O.slot_events_lost slot)) :=
  ⟨rfl, fun k other => s.get_count_other (fun e => other (by rw [e])) ..⟩

/-- A queued change counts a lost object where the queue is full (R64). -/
theorem State.queueEvent_tells (s : State) (u : Sub) (k : Key) : TellsOnly s (s.queueEvent u k) := by
  unfold State.queueEvent
  split
  · exact .refl s
  · split
    · exact (s.modSession_says ..).tells
    · split
      · exact (s.modSession_says ..).tells.trans (State.count_lost_tells ..)
      · exact (s.modSession_says ..).tells

theorem State.queueChanges_tells (s s0 : State) (u : Sub) : TellsOnly s (s.queueChanges s0 u) := by
  unfold State.queueChanges
  split
  · exact .refl s
  · split
    · exact .refl s
    · exact List.foldlRecOn _ _ (.refl s) fun st told k _ => told.trans (st.queueEvent_tells u k)

theorem State.notify_tells (s s0 : State) : TellsOnly s (s.notify s0) := by
  unfold State.notify
  split
  · exact .refl s
  · have queued : TellsOnly s (s.proto.subs.foldl (fun st u => st.queueChanges s0 u) s) :=
      List.foldlRecOn _ _ (.refl s) fun st told u _ => told.trans (st.queueChanges_tells s0 u)
    exact List.foldlRecOn _ _ queued fun st told u _ => told.trans (st.flushNow_says u).tells

/-- Settles O9: what settles is no object (`State.settle_eq`), and the news of the subscribers are objects of family 1010h alone. -/
theorem commandsEndInTheirOwnEffect : Obligations.CommandsEndInTheirOwnEffect := by
  unfold Obligations.CommandsEndInTheirOwnEffect
  constructor
  · intro s u noSubs noReplies notStandby noClear noRestart
    have settled : u.settle = u := by
      rw [State.settle_eq noReplies notStandby, ← noClear]
    rw [State.closed, settled, State.notify_of_no_subs noSubs, State.restartDue_of_none noRestart]
  · intro s u k other noReplies notStandby noRestart
    have settled : TellsOnly u u.settle := by
      rw [State.settle_eq noReplies notStandby]
      exact .refl u
    obtain ⟨power, objects⟩ := settled.trans (u.settle.notify_tells s)
    rw [State.closed, State.restartDue_of_none (power ▸ noRestart)]
    exact objects k other

end Sys2Proof.Machine
end

section
/-! A good message of an open session is carried out as its type names (R41, R42, R46, R51 to R55, R538). -/

namespace Sys2Proof.Machine

/-- What a session's slot shows stands in family 1010h. -/
theorem State.get_showSlot (s : State) (x : Session) {k : Key} (other : k.fam ≠ 0x1010) : (s.showSlot x).get k = s.get k := by
  have apart (i sub : Nat) : k ≠ ⟨0x1010, i, sub⟩ := fun e => other (by rw [e])
  simp only [State.showSlot, State.get_setN, State.get_setB, if_neg (apart _ _)]

/-- A session that takes a message up leaves the chip's ID as it was. -/
theorem State.chipId_heard (s : State) (via : Via) (raw : Bytes) (x : Session) : (s.heard via raw x).chipId = s.chipId := by
  have shown : (s.heard via raw x).get O.id_chip_id = s.get O.id_chip_id :=
    (State.get_showSlot _ _ (by decide)).trans ((s.modSession_says ..).get _)
  rw [State.chipId, State.nat, shown, State.chipId, State.nat]

/-- A request for this chip whose header is right is served (R41, R42, R51). -/
theorem State.request_of_target {s : State} {tk : Ticket} {raw : Bytes} (header : judgeHeader raw = 0)
    (target : tk.target = 1023 ∨ tk.target = s.chipId) :
    s.request tk raw = (s.serve tk (field raw 5 1) (messageBody raw)).endRekeyed := by
  have here : ¬(tk.target ≠ 1023 ∧ tk.target ≠ s.chipId) := fun ⟨hall, hchip⟩ => target.elim hall hchip
  simp only [State.request, header]
  rw [if_neg here]
  rfl

/-- A fresh message of an open session is taken up under the session's key and slot (R54, R55). -/
theorem State.takeUp_of_session {s : State} {via : Via} {raw key : Bytes} {x : Session} (ident : field raw 8 4 ≠ 0)
    (seq : field raw 12 8 ≠ 0) (session : s.sessionOf (field raw 7 1) (field raw 8 4) = some x)
    (fresh : s.freshSeq x (field raw 12 8) = true) :
    s.takeUp via raw key = (s.heard via raw x).request (heardTicket via raw x) raw := by
  simp only [State.takeUp, ticketOf, if_neg ident, if_neg seq, session, fresh, if_true]
  rfl

/-- A message that a session hears arrives at its session (R46, R47, R50, R52, R53). -/
theorem State.arrive_of_hears {s : State} {via : Via} {raw : Bytes} {x : Session} (h : s.hears via raw x) :
    s.arrive via raw.length raw =
      ((s.heard via raw x).serve (heardTicket via raw x) (field raw 5 1) (messageBody raw)).endRekeyed := by
  obtain ⟨ready, spi, short, whole, magic, key, tag, epoch, ident, seq, session, fresh, header, target⟩ := h
  have notDropped : ¬((via.path ≠ .spi ∧ 1400 < raw.length) ∨ (via.path = .spi ∧ s.natNow O.sec_spi_enable ≠ 1)) := by
    rintro (⟨-, long⟩ | ⟨overSpi, off⟩)
    · omega
    · exact off (spi overSpi)
  have notCut : ¬raw.length < 32 := by omega
  have notLong : ¬1400 < raw.length := by omega
  have notMalformed : ¬(raw.length ≠ 32 + field raw 30 2 + 32 ∨ raw.length ≠ raw.length) := by simp [whole]
  have keyed : ¬(s.roleKey (field raw 7 1)).isEmpty = true := by simp [key]
  have taken : s.arrive via raw.length raw = s.takeUp via raw (s.roleKey (field raw 7 1)) := by
    simp only [State.arrive]
    rw [if_neg notDropped, if_neg notCut, if_neg (by simp [ready]), if_neg notLong, if_neg (not_not.2 magic),
      if_neg notMalformed, if_neg keyed, if_neg (not_not.2 tag), if_neg (not_not.2 epoch)]
  rw [taken, State.takeUp_of_session ident seq session fresh]
  refine State.request_of_target header ?_
  rw [State.chipId_heard]
  exact target

theorem exec_spiSendMessage (t len : Nat) (raw : Bytes) (s : State) :
    exec (.spiSendMessage t len raw) s = execSpiSendMessage t len raw s := rfl

theorem messageOf_spiSendMessage (t len : Nat) (raw : Bytes) :
    messageOf (.spiSendMessage t len raw) = if len = raw.length then some (t, ⟨.spi, [], 0⟩, raw) else none := rfl

/-- Each command that brings a message has it arrive, at its instant, on its path. -/
theorem exec_of_messageOf {c : Instr} {t : Nat} {via : Via} {raw : Bytes} (h : messageOf c = some (t, via, raw)) {s : State}
    (spi : via.path = .spi → s.natNow O.sec_spi_enable = 1) :
    exec c s = .next (s.closed ((s.advance t).arrive via raw.length raw)) := by
  cases c with
  | spiSendMessage t' len raw' =>
    rw [messageOf_spiSendMessage] at h
    split at h
    · next whole =>
      cases h
      have on : (s.advance t).spiOn = true := by
        rw [State.spiOn, beq_iff_eq]
        exact spi rfl
      simp only [exec_spiSendMessage, execSpiSendMessage, on, if_true, whole]
      rfl
    · cases h
  | _ => cases h <;> rfl

/-- Settles O52: the command's message arrives, passes every check that `State.hears` names, and is served. -/
theorem messageIsCarriedOut : Obligations.MessageIsCarriedOut := by
  unfold Obligations.MessageIsCarriedOut
  rintro c t via raw s _ x rfl hc heard
  have ⟨_, spi, _⟩ := heard
  rw [exec_of_messageOf (s := s) hc spi, State.arrive_of_hears heard]

end Sys2Proof.Machine
end

section
/-! READ, WRITE and WRITE_TXN (R38, R43, R45, R47, R60). -/

namespace Sys2Proof.Machine

/-! ## READ -/

/-- A READ record that the checks let through, of the object's type and without a value, is answered with the object's value. -/
theorem State.readRec1_of_readable {s : State} {role : Nat} {r : Rec} {d : Desc} (checks : s.judgeRead role false r.k = 0)
    (map : descOf r.k = some d) (type : r.ty = d.ty.code) (reserved : r.reserved = 0) (bare : r.value = []) :
    s.readRec1 role false r = s.valueRecord r.k := by
  simp [State.readRec1, checks, map, type, reserved, bare]

theorem State.readRec1_of_refused {s : State} {role : Nat} {describe : Bool} {r : Rec}
    (refused : s.judgeRead role describe r.k ≠ 0) : s.readRec1 role describe r = r.answer (s.judgeRead role describe r.k) := by
  unfold State.readRec1
  split
  · next passed => exact absurd passed refused
  · rfl

/-- `b` differs from `a` in the account of the protocol, in what has left the chip and in the lowest readings of pace monitors
alone (Table 20.13). -/
def ReadsOnly (a b : State) : Prop :=
  (∀ k : Key, ¬(k.fam = 0x1400 ∧ 32 ≤ k.inst ∧ k.sub = 1) → b.get k = a.get k) ∧
    b.mem = a.mem ∧ b.sw = a.sw ∧ b.placer = a.placer

theorem SaysOnly.reads {a b : State} (h : SaysOnly a b) : ReadsOnly a b := ⟨fun k _ => h.get k, h.mem, h.sw, h.placer⟩

theorem ReadsOnly.trans {a b c : State} (h : ReadsOnly a b) (k : ReadsOnly b c) : ReadsOnly a c := by
  obtain ⟨get, mem, sw, placer⟩ := h
  obtain ⟨get', mem', sw', placer'⟩ := k
  exact ⟨fun key other => (get' key other).trans (get key other), mem'.trans mem, sw'.trans sw, placer'.trans placer⟩

theorem State.afterRead_reads (s : State) (k : Key) : ReadsOnly s (s.afterRead k) := by
  unfold State.afterRead
  split
  · next lowest =>
    refine ⟨fun k' other => ?_, rfl, rfl, rfl⟩
    rw [State.get_set, if_neg]
    rintro rfl
    exact other lowest
  · exact (SaysOnly.refl s).reads

theorem State.serveRead_reads (s : State) (tk : Ticket) (describe : Bool) (recs : List Rec) :
    ReadsOnly s (s.serveRead tk describe recs) := by
  unfold State.serveRead
  split
  · exact (s.reply_says ..).reads
  · exact List.foldlRecOn _ _ (s.reply_says ..).reads fun st reads r _ => reads.trans (st.afterRead_reads r.k)

/-- A READ of either form, well formed or not. -/
theorem State.serve_read_reads (s : State) {tk : Ticket} (read : tk.typ = 1) (flags : Nat) (body : Bytes) :
    ReadsOnly s (s.serve tk flags body) := by
  simp only [State.serve, read]
  split
  · exact s.serveRead_reads ..
  · exact (s.refuse_says ..).reads

/-! ## WRITE and WRITE_TXN -/

/-- The last record is judged on what those before it have left (R60). -/
theorem State.writeRecs_append (s : State) (w : Writer) (ovr : List Nat) (l : List Rec) (r : Rec) :
    s.writeRecs w ovr (l ++ [r]) = ((s.writeRecs w ovr l).1 ++ [((s.writeRecs w ovr l).2.writeRec w ovr r).1],
      ((s.writeRecs w ovr l).2.writeRec w ovr r).2) := by
  simp only [State.writeRecs, List.foldl_append, List.foldl_cons, List.foldl_nil]

/-- A record that checks 1 to 7 let through puts its value (R538). -/
theorem State.writeRec_of_admitted {s : State} {w : Writer} {r : Rec} {d : Desc} {v : Val} (ovr : List Nat)
    (checks : s.judgeWrite w r.k = 0) (map : descOf r.k = some d) (type : r.ty = d.ty.code) (reserved : r.reserved = 0)
    (unlocked : s.lockedHere r.k = false) (short : r.value.length ≤ 1024) (decoded : decVal d.ty r.value = some v) :
    s.writeRec w ovr r = s.putValue w ovr r.k v := by
  have fits : ¬1024 < r.value.length := by omega
  simp [State.writeRec, checks, map, type, reserved, unlocked, fits, decoded]

/-- A WRITE leaves each object as its records do. -/
theorem State.serveWrite_get (s : State) (tk : Ticket) (recs : List Rec) (k : Key) :
    (s.serveWrite tk recs).get k = (s.writeRecs tk.writer [] recs).2.get k :=
  (State.replyMirrored_says ..).get k

/-- The first code that refuses is found where there is one. -/
theorem find_refusal_isSome {codes : List Nat} (h : ∃ c ∈ codes, c ≠ 0) :
    ((codes.zip (List.range codes.length)).find? (fun e => e.1 ≠ 0)).isSome = true := by
  obtain ⟨c, mem, refused⟩ := h
  obtain ⟨i, bound, rfl⟩ := List.getElem_of_mem mem
  rw [List.find?_isSome]
  refine ⟨(codes[i], i), ?_, by simpa using refused⟩
  rw [List.mem_iff_getElem]
  exact ⟨i, by simpa using bound, by simp⟩

theorem find_refusal_eq_none {codes : List Nat} (h : ∀ c ∈ codes, c = 0) :
    (codes.zip (List.range codes.length)).find? (fun e => e.1 ≠ 0) = none := by
  rw [List.find?_eq_none]
  intro e mem
  simpa using h e.1 (List.of_mem_zip mem).1

/-- A transaction of which a record is refused only answers (R60). -/
theorem State.serveTxn_refused_says {s : State} {tk : Ticket} {recs : List Rec}
    (refused : ∃ c ∈ (s.writeRecs tk.writer (overrides recs) recs).1, c ≠ 0) : SaysOnly s (s.serveTxn tk recs) := by
  unfold State.serveTxn
  split
  · exact s.refuse_says ..
  · obtain ⟨e, found⟩ := Option.isSome_iff_exists.1 (find_refusal_isSome refused)
    simp only [found]
    exact s.reply_says ..

/-- A transaction whose records are all accepted leaves each object as they do (R60). -/
theorem State.serveTxn_accepted_get {s : State} {tk : Ticket} {recs : List Rec} (nonempty : recs ≠ []) (few : recs.length ≤ 64)
    (accepted : ∀ c ∈ (s.writeRecs tk.writer (overrides recs) recs).1, c = 0) (k : Key) :
    (s.serveTxn tk recs).get k = (s.writeRecs tk.writer (overrides recs) recs).2.get k := by
  have sized : ¬(recs.isEmpty = true ∨ 64 < recs.length) := by
    rintro (empty | many)
    · exact nonempty (List.isEmpty_iff.1 empty)
    · omega
  unfold State.serveTxn
  rw [if_neg sized]
  simp only [find_refusal_eq_none accepted]
  exact (State.replyMirrored_says ..).get k

/-- Settles O54: a READ only answers, but for the lowest pace (`State.serve_read_reads`); a WRITE folds over its records, and a
transaction keeps what they leave only where none is refused. -/
theorem readsAndTransactions : Obligations.ReadsAndTransactions := by
  unfold Obligations.ReadsAndTransactions
  refine ⟨⟨fun b role r d => State.readRec1_of_readable, fun b role describe r => State.readRec1_of_refused,
      fun b tk flags body read => b.serve_read_reads read flags body⟩,
    fun b w ovr r l => b.writeRecs_append w ovr l r, fun b tk recs refused => ?_, fun b tk recs => State.serveTxn_accepted_get,
    State.serveWrite_get, fun b w ovr r d v => State.writeRec_of_admitted ovr⟩
  have said := State.serveTxn_refused_says refused
  exact ⟨said.get, said.mem, said.sw⟩

end Sys2Proof.Machine
end

section
/-! SUBSCRIBE, and the timers of the protocol and of SPI (R48, R49, R56, R63 to R66). -/

namespace Sys2Proof.Machine

/-! ## SUBSCRIBE (R63) -/

section
variable {s : State} {tk : Ticket} {body : Bytes}

theorem State.serveSubscribe_of_no_operation (whole : body.length = 12) (reserved : field body 11 1 = 0)
    (op : field body 0 1 = 0 ∨ 3 < field body 0 1) : s.serveSubscribe tk body = s.refuse tk C.range := by
  rw [State.serveSubscribe, if_neg (not_not.2 whole), if_neg (not_not.2 reserved)]
  split
  · omega
  · omega
  · omega
  · rfl

theorem State.serveSubscribe_of_remove (whole : body.length = 12) (reserved : field body 11 1 = 0)
    (op : field body 0 1 = 2) : s.serveSubscribe tk body =
      if (s.subsOf tk.slot).any (fun u => u.num = field body 4 2) then
        (s.unsubscribe tk.slot (fun n => n == field body 4 2)).refuse tk C.ok
      else s.refuse tk C.range := by
  rw [State.serveSubscribe, if_neg (not_not.2 whole), if_neg (not_not.2 reserved), op]
  rfl

theorem State.serveSubscribe_of_remove_all (whole : body.length = 12) (reserved : field body 11 1 = 0)
    (op : field body 0 1 = 3) :
    s.serveSubscribe tk body = (s.unsubscribe tk.slot (fun _ => true)).refuse tk C.ok := by
  rw [State.serveSubscribe, if_neg (not_not.2 whole), if_neg (not_not.2 reserved), op]
  rfl

/-- The slot has a subscription of the number. -/
theorem State.subsOf_any (s : State) (slot n : Nat) :
    (s.subsOf slot).any (fun u => u.num = n) = true ↔ ∃ u ∈ s.proto.subs, u.slot = slot ∧ u.num = n := by
  simp [State.subsOf]

/-- What is left once subscriptions of a slot have ended and the request is answered. -/
theorem State.mem_subs_unsubscribe (s : State) (slot : Nat) (p : Nat → Bool) (tk : Ticket) (code : Nat) (v : Sub) :
    v ∈ ((s.unsubscribe slot p).refuse tk code).proto.subs ↔ v ∈ s.proto.subs ∧ ¬(v.slot = slot ∧ p v.num = true) := by
  have kept : ((s.unsubscribe slot p).refuse tk code).proto.subs = s.proto.subs.filter (fun u => !(u.slot == slot && p u.num)) := by
    unfold State.refuse State.reply State.sendReply State.sendOn
    split
    · rfl
    · rfl
  rw [kept, List.mem_filter]
  simp [imp_iff_not_or]

theorem State.subscribe_of_bad_mode (fam inst sub : Nat) {mode interval : Nat}
    (bad : 2 < mode ∨ (1 ≤ mode ∧ (interval < 10 ∨ 60000 < interval))) :
    s.subscribe tk mode interval fam inst sub = s.refuse tk C.range := by
  rw [State.subscribe, if_pos]
  omega

theorem State.subscribe_of_no_room {mode fam inst sub : Nat} (atOnce : mode = 0)
    (judged : s.judgePattern tk.role fam inst sub = 0) (full : 256 ≤ (s.subsOf tk.slot).length ∨ 4096 ≤ s.proto.subs.length) :
    s.subscribe tk mode 0 fam inst sub = s.refuse tk C.busy := by
  have inRange : ¬(2 < mode ∨ (mode ≠ 0 ∧ ((0 : Nat) < 10 ∨ 60000 < (0 : Nat)))) := by omega
  rw [State.subscribe, if_neg inRange, judged]
  exact if_pos (full.elim .inl (fun many => .inr (.inl many)))

end

/-! ## The arms of the timers and of SPI -/

theorem exec_eventInterval (t slot sub : Nat) (s : State) :
    exec (.eventInterval t slot sub) s = execEventInterval t slot sub s := rfl

theorem exec_periodicReport (t slot sub unsent : Nat) (s : State) :
    exec (.periodicReport t slot sub unsent) s = execPeriodicReport t slot sub unsent s := rfl

theorem exec_bulkHandleTimeout (t handle : Nat) (s : State) :
    exec (.bulkHandleTimeout t handle) s = execBulkHandleTimeout t handle s := rfl

theorem exec_sessionIdleTimeout (t slot : Nat) (s : State) :
    exec (.sessionIdleTimeout t slot) s = execSessionIdleTimeout t slot s := rfl

theorem exec_spiFetch (t : Nat) (s : State) :
    exec (.spiFetch t) s = execSpiFetch t s := rfl

theorem exec_spiWaitTimeout (t : Nat) (raw : Bytes) (s : State) :
    exec (.spiWaitTimeout t raw) s = execSpiWaitTimeout t raw s := rfl

/-! ## Timers (R56, R64 to R66) -/

section
variable {s : State} (t : Nat)

theorem exec_eventInterval_of_sub {slot sub : Nat} {u : Sub} (h : (s.advance t).subOf slot sub = some u) :
    exec (.eventInterval t slot sub) s =
      .next (s.closed (if u.mode = 2 then (s.advance t).flushSub slot sub else s.advance t)) := by
  simp only [exec_eventInterval, execEventInterval, h, done_closed]

theorem exec_periodicReport_of_sub {slot sub unsent role : Nat} {u : Sub} (h : (s.advance t).subOf slot sub = some u)
    (mode : u.mode = 1) (sessionRole : (s.advance t).subRole u = some role) :
    exec (.periodicReport t slot sub unsent) s = .next (s.closed
      ((s.advance t).sendEvents u.slot u.num unsent ((s.advance t).tbNow 0) ((s.advance t).matched role u))) := by
  simp only [exec_periodicReport, execPeriodicReport, h, mode, State.periodic, sessionRole, if_true, done_closed]

theorem exec_eventInterval_of_none {slot sub : Nat} (h : (s.advance t).subOf slot sub = none) :
    exec (.eventInterval t slot sub) s = .next (s.closed (s.advance t)) := by
  simp only [exec_eventInterval, execEventInterval, h, done_closed]

theorem exec_periodicReport_of_none {slot sub : Nat} (unsent : Nat) (h : (s.advance t).subOf slot sub = none) :
    exec (.periodicReport t slot sub unsent) s = .next (s.closed (s.advance t)) := by
  simp only [exec_periodicReport, execPeriodicReport, h, done_closed]

theorem exec_bulkHandleTimeout_of_open {h : Nat} {x : Bulk}
    (found : (s.advance t).proto.bulks.find? (fun x => x.handle = h) = some x) :
    exec (.bulkHandleTimeout t h) s = .next (s.closed
      (if x.lastAt + 10000000000 ≤ (s.advance t).now then (s.advance t).retire h false else s.advance t)) := by
  simp only [exec_bulkHandleTimeout, execBulkHandleTimeout, found, done_closed]
  rfl

theorem exec_bulkHandleTimeout_of_none {h : Nat} (nothing : ∀ x ∈ (s.advance t).proto.bulks, x.handle ≠ h) :
    exec (.bulkHandleTimeout t h) s = .next (s.closed (s.advance t)) := by
  have found : (s.advance t).proto.bulks.find? (fun x => x.handle = h) = none := by simpa using nothing
  simp only [exec_bulkHandleTimeout, execBulkHandleTimeout, found, done_closed]

theorem exec_sessionIdleTimeout_of_open {slot : Nat} {x : Session} (h : (s.advance t).session slot = some x) :
    exec (.sessionIdleTimeout t slot) s = .next (s.closed
      (if x.lastAt + (s.advance t).nat O.sec_idle_timeout * 1000000000 ≤ (s.advance t).now then (s.advance t).endSession slot
        else s.advance t)) := by
  simp only [exec_sessionIdleTimeout, execSessionIdleTimeout, h, done_closed]

theorem exec_sessionIdleTimeout_of_none {slot : Nat} (h : (s.advance t).session slot = none) :
    exec (.sessionIdleTimeout t slot) s = .next (s.closed (s.advance t)) := by
  simp only [exec_sessionIdleTimeout, execSessionIdleTimeout, h, done_closed]

end

theorem State.mem_bulks_retire {s : State} {h : Nat} {committed : Bool} {x : Bulk} (mem : x ∈ (s.retire h committed).proto.bulks) :
    x.handle ≠ h := by
  have kept : x ∈ s.proto.bulks.filter (fun x => x.handle ≠ h) := mem
  simpa using (List.mem_filter.1 kept).2

/-! ## SPI (R48, R49) -/

section
variable {s : State} (t : Nat) (on : (s.advance t).spiOn = true)
include on

theorem exec_spiFetch_of_pending {m : Bytes} {l : List Bytes} (h : (s.advance t).proto.spiOut = m :: l) :
    exec (.spiFetch t) s = .next (s.closed
      (({ s.advance t with proto := { (s.advance t).proto with spiOut := l } } : State).emit (.msg ⟨.spi, [], 0⟩ m))) := by
  have nothing : (s.advance t).spiEvents = s.advance t := by simp only [State.spiEvents, h]; rfl
  simp only [exec_spiFetch, execSpiFetch, on, if_true, nothing, State.spiPop, h, done_closed]

theorem exec_spiFetch_of_empty (h : (s.advance t).proto.spiOut = []) (noSubs : (s.advance t).proto.subs = []) :
    exec (.spiFetch t) s = .next (s.closed ((s.advance t).emit (.msg ⟨.spi, [], 0⟩ []))) := by
  have nothing : (s.advance t).spiEvents = s.advance t := by simp only [State.spiEvents, h, noSubs]; rfl
  simp only [exec_spiFetch, execSpiFetch, on, if_true, nothing, State.spiPop, h, done_closed]

end

/-- The status of a message stands in its seventh byte (Table 2.5). -/
theorem State.message_status (s : State) (path : Path) (key : Bytes) (typ flags status role ident seq target : Nat) (body : Bytes) :
    field (s.message path key typ flags status role ident seq target body) 6 1 = status % 256 := by
  simp [State.message, header, field, slice, beBytes, beNat]

/-- With no session open, a refusal over SPI waits for a fetch, and nothing else changes (R48). -/
theorem State.refuse_over_spi {s : State} {tk : Ticket} (code : Nat) (spi : tk.via.path = .spi)
    (noSession : s.proto.sessions = []) : s.refuse tk code =
      { s with proto := { s.proto with spiOut := s.proto.spiOut ++ [s.replyBytes tk code []] } } := by
  have unmarked (f : Session → Session) : s.modSession tk.slot f = s := by
    have same : s.proto.sessions.map (fun x => if x.slot = tk.slot then f x else x) = s.proto.sessions := by
      rw [noSession, List.map_nil]
    rw [State.modSession, same]
  rw [State.refuse, State.reply, State.sendReply, unmarked, State.sendOn, if_pos spi]

/-- The message given up on SPI is answered BUSY, or NOT_READY before Ready (R49, R50). -/
theorem State.spiGivesUp_answers {s : State} (raw : Bytes) (noSession : s.proto.sessions = []) :
    ∃ m, s.spiGivesUp raw = { s with proto := { s.proto with spiOut := s.proto.spiOut ++ [m] } } ∧
      field m 6 1 = (if s.ready then C.busy else C.notReady) := by
  refine ⟨_, State.refuse_over_spi _ rfl noSession, ?_⟩
  rw [State.replyBytes, State.message_status]
  split <;> rfl

theorem exec_spiWaitTimeout_of_on {s : State} {t : Nat} (raw : Bytes) (on : (s.advance t).spiOn = true) :
    exec (.spiWaitTimeout t raw) s = .next (s.closed ((s.advance t).spiGivesUp raw)) := by
  simp only [exec_spiWaitTimeout, execSpiWaitTimeout, on, if_true, done_closed]

/-- Settles O55: SUBSCRIBE by its operation; each timer by whether what it names is still there. -/
theorem subscriptionAndProtocolTimerRules : Obligations.SubscriptionAndProtocolTimerRules := by
  unfold Obligations.SubscriptionAndProtocolTimerRules
  refine ⟨⟨?noOperation, ?badMode, ?noRoom, ?removeUnknown, ?remove, ?removeAll⟩, ?interval, ?period, ?noSub, ?bulkTimeout, ?noBulk,
    ?retired, ?idle, ?noSession, ?fetch, ?fetchNothing, ?giveUp⟩
  case noOperation => exact fun b tk body => State.serveSubscribe_of_no_operation
  case badMode => exact fun b tk mode interval fam inst sub => State.subscribe_of_bad_mode fam inst sub
  case noRoom => exact fun b tk mode fam inst sub => State.subscribe_of_no_room
  case removeUnknown =>
    intro b tk body whole reserved op unknown
    rw [State.serveSubscribe_of_remove whole reserved op, if_neg]
    rw [State.subsOf_any]
    rintro ⟨u, mem, mine, num⟩
    exact unknown u mem mine num
  case remove =>
    intro b tk body u whole reserved op mem mine num v
    have found := (b.subsOf_any tk.slot (field body 4 2)).2 ⟨u, mem, mine, num⟩
    rw [State.serveSubscribe_of_remove whole reserved op, if_pos found, State.mem_subs_unsubscribe, beq_iff_eq]
  case removeAll =>
    intro b tk body whole reserved op v
    rw [State.serveSubscribe_of_remove_all whole reserved op, State.mem_subs_unsubscribe]
    simp
  case interval =>
    rintro s _ t slot sub u rfl
    exact exec_eventInterval_of_sub t
  case period =>
    rintro s _ t slot sub unsent role u rfl
    exact exec_periodicReport_of_sub t
  case noSub =>
    rintro s _ t slot sub unsent rfl none
    exact ⟨exec_eventInterval_of_none t none, exec_periodicReport_of_none t unsent none⟩
  case bulkTimeout =>
    rintro s _ t h x rfl
    exact exec_bulkHandleTimeout_of_open t
  case noBulk =>
    rintro s _ t h rfl
    exact exec_bulkHandleTimeout_of_none t
  case retired => exact fun b h x => State.mem_bulks_retire
  case idle =>
    rintro s _ t slot x rfl
    exact exec_sessionIdleTimeout_of_open t
  case noSession =>
    rintro s _ t slot rfl
    exact exec_sessionIdleTimeout_of_none t
  case fetch =>
    rintro s _ t m l rfl on
    exact exec_spiFetch_of_pending t on
  case fetchNothing =>
    rintro s _ t rfl on
    exact exec_spiFetch_of_empty t on
  case giveUp =>
    rintro s _ t raw rfl on - noSession
    obtain ⟨m, answered, status⟩ := State.spiGivesUp_answers raw noSession
    exact ⟨m, by rw [exec_spiWaitTimeout_of_on raw on, answered], status⟩

end Sys2Proof.Machine
end

section
/-! TAKE and the salvo messages (R61, R62, R126, R127, R130, R138, R141, R144). -/

namespace Sys2Proof.Machine

/-! ## TAKE -/

section
variable {s : State} {tk : Ticket} {body : Bytes} (whole : body.length = 24) (reserved : field body 22 2 = 0)
include whole reserved

theorem State.serveTake_of_viewer (prio : Bool) (viewer : tk.role = 0) : s.serveTake tk prio body = s.refuse tk C.denied := by
  simp [State.serveTake, whole, reserved, viewer]

theorem State.serveTake_of_standby (prio : Bool) (operator : 1 ≤ tk.role) (standby : s.standby = true) :
    s.serveTake tk prio body = s.refuse tk C.locked := by
  have allowed : ¬tk.role < 1 := by omega
  simp only [State.serveTake]
  rw [if_neg (not_not.2 whole), if_neg (not_not.2 reserved), if_neg allowed, if_pos standby]

theorem State.serveTake_of_full_priority (operator : 1 ≤ tk.role) (notStandby : s.standby = false)
    (full : 16 ≤ s.proto.priority.length) :
    s.serveTake tk true body = (s.count O.sec_priority_overflows).refuse tk C.busy := by
  have allowed : ¬tk.role < 1 := by omega
  simp only [State.serveTake]
  rw [if_neg (not_not.2 whole), if_neg (not_not.2 reserved), if_neg allowed, if_neg (by simp [notStandby]), if_pos ⟨trivial, full⟩]

theorem State.serveTake_of_admitted {d : Dst} {slot : Nat} (operator : 1 ≤ tk.role) (notStandby : s.standby = false)
    (awake : s.inLull = false) (judged : s.judgeTake (takeEntryOf body).1 (takeInstant body) = .ok d)
    (unbarred : s.takeBarred d = false) (room : s.queued < 256) (next : s.nextSlot = some slot) :
    s.serveTake tk false body = s.admitTake tk slot d (takeEntryOf body).1 false := by
  have allowed : ¬tk.role < 1 := by omega
  have notFull : ¬256 ≤ s.queued := by omega
  simp [State.serveTake, whole, reserved, allowed, notStandby, awake, judged, unbarred, notFull, next]

end

/-! ## A take's slot (Table 5.6) -/

/-- The result of a take slot is OK by default (Table 5.6). -/
theorem dflt_take_result {slot : Nat} (low : 1 ≤ slot) (high : slot ≤ 4096) : dflt (O.take_result slot) = .n 0 := by
  have map : rowsOf 0x3200 slot = rowsTake := by
    rw [rowsOf, if_neg (by omega), if_pos high]
  have row : descOf (O.take_result slot) = rowsTake.find? (fun d => d.sub = 9) := by rw [← map]; rfl
  have own : dfltAt (O.take_result slot) = none := rfl
  rw [dflt, own, row]
  rfl

theorem State.nat_with_sw (s : State) (x : Switching) (k : Key) : ({ s with sw := x } : State).nat k = s.nat k := rfl

/-- What a filled slot shows of its take. -/
theorem State.fillSlot_shows (s : State) (tk : Ticket) (slot : Nat) (e : TakeEntry) (inst : Option Nat) (prio : Bool)
    (low : 1 ≤ slot) (high : slot ≤ 4096) :
    (s.fillSlot slot tk e inst prio).nat (O.take_state slot) = 1 ∧
    (s.fillSlot slot tk e inst prio).nat (O.take_destination slot) = s.normId e.dst ∧
    (s.fillSlot slot tk e inst prio).nat (O.take_source slot) = s.normId e.src ∧
    (s.fillSlot slot tk e inst prio).nat (O.take_session slot) = tk.ident ∧
    (s.fillSlot slot tk e inst prio).nat (O.take_result slot) = 0 := by
  have cleared : (s.clearSlot slot).nat (O.take_result slot) = 0 := by
    rw [State.clearSlot, if_neg (by omega), State.nat, State.get_foldl_dflt, if_pos (by simp), dflt_take_result low high]
    rfl
  simp only [State.fillSlot, State.nat_with_sw]
  simp [State.nat_setN, cleared]

/-! ## Salvo messages -/

section
variable {s : State} {tk : Ticket} {n : Nat} {body : Bytes} (whole : body.length = n) (f : State → Nat → Nat × State)
include whole

theorem State.salvoRequest_of_viewer (viewer : tk.role = 0) : s.salvoRequest tk body n f = s.refuse tk C.denied := by
  simp [State.salvoRequest, whole, viewer]

theorem State.salvoRequest_of_standby (operator : 1 ≤ tk.role) (standby : s.standby = true) :
    s.salvoRequest tk body n f = s.refuse tk C.locked := by
  have allowed : ¬tk.role < 1 := by omega
  rw [State.salvoRequest, if_neg (not_not.2 whole), if_neg allowed, if_pos standby]

theorem State.salvoRequest_of_refused {k : Nat} (operator : 1 ≤ tk.role) (notStandby : s.standby = false)
    (named : s.salvoNamed (field body 0 4) = some k) (refused : (f s k).1 ≠ 0) :
    s.salvoRequest tk body n f = s.refuse tk (f s k).1 := by
  have allowed : ¬tk.role < 1 := by omega
  simp [State.salvoRequest, whole, allowed, notStandby, named, refused]

end

section
variable {s : State} {k tb lead e : Nat}

theorem State.prepareSalvo_of_bad (bad : s.nat (O.salvo_state k) ≠ 1 ∨ 3 < tb ∨ (lead ≠ 0 ∧ (lead < 5 ∨ 60000 < lead)) ∨
    (lead ≠ 0 ∧ e ≠ 0 ∧ e < s.tbNow tb + 1000000 + 1000000 * lead)) : s.prepareSalvo k tb lead e = (C.range, s) := by
  simp only [State.prepareSalvo]
  by_cases loaded : s.nat (O.salvo_state k) ≠ 1
  · exact if_pos loaded
  by_cases base : 3 < tb
  · rw [if_neg loaded, if_pos base]
  have given : lead ≠ 0 := by omega
  rw [if_neg loaded, if_neg base, if_neg given]
  by_cases range : lead < 5 ∨ 60000 < lead
  · exact if_pos range
  have soon : e ≠ 0 ∧ e < s.tbNow tb + 1000000 + 1000000 * lead := by omega
  rw [if_neg range, if_pos soon]

theorem State.prepareSalvo_of_held (loaded : s.nat (O.salvo_state k) = 1) (base : tb ≤ 3) (low : 5 ≤ lead) (high : lead ≤ 60000)
    (ahead : e = 0 ∨ s.tbNow tb + 1000000 + 1000000 * lead ≤ e) (held : s.listHeld k = true ∨ 16 ≤ s.salvos.own.length) :
    s.prepareSalvo k tb lead e = (C.busy, s) := by
  have given : lead ≠ 0 := by omega
  simp only [State.prepareSalvo]
  rw [if_neg (not_not.2 loaded), if_neg (by omega), if_neg given, if_neg (by omega), if_neg (by omega)]
  by_cases list : s.listHeld k = true
  · exact if_pos list
  · rw [if_neg list, if_pos (.inl (held.resolve_left list))]

end

section
variable {s : State} {k : Nat}

/-- SALVO_POUR by the salvo's state (R141). -/
theorem State.askPour_by_state : (s.nat (O.salvo_state k) = 4 → s.askPour k = (0, s)) ∧
    (s.nat (O.salvo_state k) = 2 → s.askPour k = (C.busy, s)) ∧
    (s.nat (O.salvo_state k) ≤ 1 ∨ 5 ≤ s.nat (O.salvo_state k) → s.askPour k = (C.range, s)) := by
  refine ⟨fun poured => ?_, fun preparing => ?_, fun idle => ?_⟩
  · simp only [State.askPour, poured]
  · simp only [State.askPour, preparing]
  · unfold State.askPour
    split
    · omega
    · omega
    · omega
    · rfl

theorem State.askPour_of_prepared {x : Salvo} (prepared : s.nat (O.salvo_state k) = 3) (salvo : s.salvo k = some x)
    (undecided : x.decided = none) : s.askPour k = (0, s.pourSalvo k) := by
  simp [State.askPour, prepared, salvo, undecided]

theorem State.askDrop_of_prepared {x : Salvo} (prepared : s.nat (O.salvo_state k) = 3) (salvo : s.salvo k = some x)
    (undecided : x.decided = none) : s.askDrop k = (0, s.dropSalvo k 1 []) := by
  simp [State.askDrop, prepared, salvo, undecided]

/-- SALVO_DROP by the salvo's state (R144). -/
theorem State.askDrop_by_state : (s.nat (O.salvo_state k) = 1 → s.askDrop k = (0, s)) ∧
    (s.nat (O.salvo_state k) = 2 → s.askDrop k = (0, s.dropSalvo k 1 [])) ∧
    (s.nat (O.salvo_state k) = 4 ∨ s.nat (O.salvo_state k) = 5 → s.askDrop k = (C.tooLate, s)) ∧
    (s.nat (O.salvo_state k) = 0 → s.askDrop k = (C.range, s)) := by
  refine ⟨fun loaded => ?_, fun preparing => ?_, fun gone => ?_, fun empty => ?_⟩
  · simp only [State.askDrop, loaded]
  · simp only [State.askDrop, preparing]
  · rcases gone with poured | past
    · simp only [State.askDrop, poured]
    · simp only [State.askDrop, past]
  · simp only [State.askDrop, empty]

end

/-- Settles O56: each clause is the rule of its operation. -/
theorem takeAndSalvoMessageRules : Obligations.TakeAndSalvoMessageRules := by
  unfold Obligations.TakeAndSalvoMessageRules
  exact ⟨fun _ _ prio _ whole reserved => State.serveTake_of_viewer whole reserved prio,
    fun _ _ prio _ whole reserved => State.serveTake_of_standby whole reserved prio,
    fun _ _ _ => State.serveTake_of_full_priority,
    fun _ _ _ _ _ whole reserved => State.serveTake_of_admitted whole reserved,
    State.fillSlot_shows,
    fun _ _ _ _ f whole => State.salvoRequest_of_viewer whole f,
    fun _ _ _ _ f whole => State.salvoRequest_of_standby whole f,
    fun _ _ _ _ _ f whole => State.salvoRequest_of_refused whole f,
    fun _ _ _ _ _ => State.prepareSalvo_of_bad,
    fun _ _ _ _ _ => State.prepareSalvo_of_held,
    fun _ _ => State.askPour_by_state,
    fun _ _ _ prepared salvo undecided =>
      ⟨State.askPour_of_prepared prepared salvo undecided, State.askDrop_of_prepared prepared salvo undecided⟩,
    fun _ _ => State.askDrop_by_state⟩

end Sys2Proof.Machine
end

section
/-! Bulk transfers (R65, R66). -/

namespace Sys2Proof.Machine

/-! ## The value that pieces make -/

theorem length_zeros (n : Nat) : (zeros n).length = n := List.length_replicate

/-- One piece that covers the whole is the value. -/
theorem gather_one (v : Bytes) : gather v.length [(0, v)] = some v := by
  simp [gather, sortBy, insertBy, length_zeros]

/-- Two pieces that meet are the value that they make. -/
theorem gather_two (v w : Bytes) : gather (v.length + w.length) [(0, v), (v.length, w)] = some (v ++ w) := by
  have order : sortBy (fun (a b : Nat × Nat) => a.1 < b.1) [(0, v.length), (v.length, v.length + w.length)] =
      [(0, v.length), (v.length, v.length + w.length)] := by
    simp [sortBy, insertBy]
  simp [gather, order, length_zeros]

/-! ## Closing a transfer (R65, R66) -/

section
variable {s : State} {tk : Ticket} {x : Bulk} {hash v : Bytes}

theorem State.commitBulk_of_gap (gap : gather x.total x.pieces = none) :
    s.commitBulk tk x hash = (s.retire x.handle false).refuse tk C.range := by
  rw [State.commitBulk, gap]

theorem State.commitBulk_of_other_hash (whole : gather x.total x.pieces = some v) (other : sha256 v ≠ hash) :
    s.commitBulk tk x hash = (s.retire x.handle false).refuse tk C.range := by
  rw [State.commitBulk, whole]
  exact if_pos other

/-- A close that commits leaves each object as the write of its data does. -/
theorem State.commitBulk_get (whole : gather x.total x.pieces = some v) (write : x.write = true) (k : Key) :
    (s.commitBulk tk x (sha256 v)).get k = (s.writeObject tk.writer [] x.key (.b v)).2.get k := by
  simp only [State.commitBulk, whole, write]
  rw [if_neg (not_not.2 rfl), if_neg (by simp)]
  exact ((State.retire_says ..).trans (State.replyMirrored_says ..)).get k

end

theorem State.reply_bulks (s : State) (tk : Ticket) (status : Nat) (body : Bytes) :
    (s.reply tk status body).proto.bulks = s.proto.bulks := by
  unfold State.reply State.sendReply State.sendOn
  split
  · rfl
  · rfl

theorem State.refuse_bulks (s : State) (tk : Ticket) (code : Nat) : (s.refuse tk code).proto.bulks = s.proto.bulks :=
  s.reply_bulks ..

section
variable {s : State} {tk : Ticket} {body : Bytes} (whole : body.length = 36) (reserved : field body 3 1 = 0)
include whole reserved

theorem State.serveBulkClose_of_abort {x : Bulk} (abort : field body 2 1 = 1)
    (found : s.proto.bulks.find? (fun x => x.handle = field body 0 2 ∧ x.slot = tk.slot) = some x) :
    s.serveBulkClose tk body = (s.retire (field body 0 2) false).refuse tk C.ok := by
  simp only [State.serveBulkClose]
  rw [if_neg (not_not.2 whole), if_neg (not_not.2 reserved), if_neg (by omega), found]
  exact if_pos abort

theorem State.serveBulkClose_of_retired {r : Retired} (known : field body 2 1 ≤ 1)
    (closed : s.proto.bulks.find? (fun x => x.handle = field body 0 2 ∧ x.slot = tk.slot) = none)
    (found : s.proto.retired.find? (fun r => r.handle = field body 0 2 ∧ s.now < r.until') = some r) :
    s.serveBulkClose tk body = s.refuse tk (if r.committed then C.tooLate else C.range) := by
  simp only [State.serveBulkClose]
  rw [if_neg (not_not.2 whole), if_neg (not_not.2 reserved), if_neg (by omega), closed, found]

end

theorem State.mem_bulks_of_retire_refused {s : State} {h code : Nat} {committed : Bool} {tk : Ticket} {y : Bulk}
    (mem : y ∈ ((s.retire h committed).refuse tk code).proto.bulks) : y.handle ≠ h := by
  rw [State.refuse_bulks] at mem
  have kept : y ∈ s.proto.bulks.filter (fun x => x.handle ≠ h) := mem
  simpa using (List.mem_filter.1 kept).2

/-! ## Pieces, and opening (R65) -/

/-- A chunk that lies in its transfer is kept as its last piece, at the present instant. -/
theorem State.serveBulkChunk_keeps_piece {s : State} {tk : Ticket} {body : Bytes} {x y : Bulk} (long : 8 < body.length)
    (short : body.length ≤ 1032) (reserved : field body 2 2 = 0)
    (found : s.proto.bulks.find? (fun x => x.handle = field body 0 2 ∧ x.slot = tk.slot) = some x) (write : x.write = true)
    (inside : field body 4 4 + (body.drop 8).length ≤ x.total) (mem : y ∈ (s.serveBulkChunk tk body).proto.bulks)
    (same : y.handle = x.handle) : (field body 4 4, body.drop 8) ∈ y.pieces ∧ y.lastAt = s.now := by
  have size : (body.drop 8).length = body.length - 8 := List.length_drop
  have accepted : ¬((body.drop 8).isEmpty = true ∨ 1024 < (body.drop 8).length ∨ x.total < field body 4 4 + (body.drop 8).length) := by
    rw [List.isEmpty_iff_length_eq_zero]
    omega
  simp only [State.serveBulkChunk] at mem
  rw [if_neg (by omega), if_neg (not_not.2 reserved), found] at mem
  simp only [write, if_true] at mem
  rw [if_neg accepted, State.refuse_bulks] at mem
  obtain ⟨z, -, rfl⟩ := List.mem_map.1 mem
  by_cases own : z.handle = x.handle
  · simp [own]
  · rw [if_neg own] at same
    exact absurd same own

/-- A write that opens stands among the transfers, with no piece yet. -/
theorem State.openBulk_opens (s : State) (tk : Ticket) (k : Key) (total : Nat) :
    ∃ x ∈ (s.openBulk tk k true total).proto.bulks, x.key = k ∧ x.slot = tk.slot ∧ x.write = true ∧ x.total = total ∧
      x.pieces = [] := by
  refine ⟨⟨s.freeHandle, tk.slot, k, true, total, [], s.now⟩, ?_, rfl, rfl, rfl, rfl, rfl⟩
  simp only [State.openBulk, State.reply_bulks]
  exact List.mem_append_right _ (List.mem_singleton.2 rfl)

/-- A read opens on an OCTETS object alone. -/
theorem State.serveBulkOpen_of_type {s : State} {tk : Ticket} {body : Bytes} {d : Desc} (whole : body.length = 10)
    (read : field body 5 1 = 0) (checks : s.judgeRead tk.role false ⟨field body 0 2, field body 2 2, field body 4 1⟩ = 0)
    (map : descOf ⟨field body 0 2, field body 2 2, field body 4 1⟩ = some d) (type : d.ty ≠ .oct) :
    s.serveBulkOpen tk body = s.refuse tk C.type := by
  simp [State.serveBulkOpen, whole, read, checks, map, type]

/-- Settles O57: closes by `State.commitBulk` and `State.serveBulkClose`, whose replies write no object; pieces by their places. -/
theorem bulkTransferRules : Obligations.BulkTransferRules := by
  unfold Obligations.BulkTransferRules
  refine ⟨fun _ _ _ _ => State.commitBulk_of_gap, fun _ _ _ _ _ => State.commitBulk_of_other_hash,
    fun _ _ _ _ => State.commitBulk_get, fun v _ => gather_one v, gather_two, ?abort,
    fun _ _ _ _ whole reserved => State.serveBulkClose_of_retired whole reserved, fun _ _ _ _ long short reserved found write inside _ =>
      State.serveBulkChunk_keeps_piece long short reserved found write inside, State.openBulk_opens, ?type⟩
  case abort =>
    intro b tk body x whole reserved abort found
    rw [State.serveBulkClose_of_abort whole reserved abort found]
    exact ⟨((State.retire_says ..).trans (State.refuse_says ..)).get, fun y => State.mem_bulks_of_retire_refused⟩
  case type =>
    rintro b tk body d _ rfl
    exact State.serveBulkOpen_of_type

end Sys2Proof.Machine
end

section
/-! Writes of sessions, keys, takes, lists, hints and routes (R57, R129, R136, R137, R151, R170, R171, R193). -/

namespace Sys2Proof.Machine

/-! ## The rule of a family that Lull does not refuse (R514) -/

section
variable (s : State) (w : Writer) (v : Val) (i sub : Nat)

theorem State.familyWrite_session : s.familyWrite w [] ⟨0x1010, i, sub⟩ v = s.writeSession ⟨0x1010, i, sub⟩ v := by
  simp [State.familyWrite, State.lullRefuses]

theorem State.familyWrite_source : s.familyWrite w [] ⟨0x3000, i, sub⟩ v = s.writeSource ⟨0x3000, i, sub⟩ v := by
  simp [State.familyWrite, State.lullRefuses]

theorem State.familyWrite_switching {fam : Nat} (h : fam = 0x3200 ∨ fam = 0x3300 ∨ fam = 0x3400) :
    s.familyWrite w [] ⟨fam, i, sub⟩ v = s.writeSwitching ⟨fam, i, sub⟩ v := by
  rcases h with rfl | rfl | rfl <;> simp [State.familyWrite, State.lullRefuses]

end

/-! ## Sessions and keys (R56, R57, R275, R540) -/

section
variable (s : State) (w : Writer)

theorem State.familyWrite_slot_close {slot : Nat} (h : slot ≠ 0) :
    s.familyWrite w [] (O.slot_close slot) (.n 1) = some (0, s.endSession slot) := by
  simp [State.familyWrite_session, State.writeSession, h, Val.int]

theorem State.familyWrite_key {role : Nat} (key : Bytes) (h : role < 4) :
    s.familyWrite w [] ⟨0x1010, 0, 5 + role⟩ (.b key) =
      some (if key.all (fun x => x = 0) then (C.range, s) else (0, s.setB ⟨0x1010, 0, 5 + role⟩ key)) := by
  have roleKey : 5 ≤ 5 + role ∧ 5 + role ≤ 8 := by omega
  rw [State.familyWrite_session, State.writeSession, if_pos rfl, if_pos roleKey]
  rfl

end

/-- Layers that are released change family 3900h alone. -/
theorem State.releaseLayers_frame (s : State) (session : Nat) :
    (s.releaseLayers session).proto = s.proto ∧
      ∀ k : Key, k.fam ≠ 0x3900 → (s.releaseLayers session).get k = s.get k := by
  unfold State.releaseLayers
  split
  · exact ⟨rfl, fun _ _ => rfl⟩
  · refine List.foldlRecOn (motive := fun st : State => st.proto = s.proto ∧ ∀ k : Key, k.fam ≠ 0x3900 → st.get k = s.get k)
      _ _ ⟨rfl, fun _ _ => rfl⟩ fun st ⟨proto, objects⟩ l _ => ?_
    split
    · refine ⟨proto, fun k other => ?_⟩
      have apart : k ≠ O.layer_owner_session l := fun e => other (by rw [e])
      rw [State.get_setN, if_neg apart, objects k other]
    · exact ⟨proto, objects⟩

/-- A session that ends leaves its slot free and no subscription (R56). -/
theorem State.endSession_closes {s : State} {slot : Nat} {x : Session} (found : s.session slot = some x) :
    (s.endSession slot).session slot = none ∧ (s.endSession slot).nat (O.slot_session slot) = 0 ∧
      ∀ u ∈ (s.endSession slot).proto.subs, u.slot ≠ slot := by
  have ended : s.endSession slot = (s.closeSession slot).releaseLayers x.ident := by rw [State.endSession, found]
  have isOpen : ¬(s.session slot).isNone = true := by simp [found]
  obtain ⟨proto, objects⟩ := (s.closeSession slot).releaseLayers_frame x.ident
  have sessions : (s.closeSession slot).proto.sessions = s.proto.sessions.filter (fun x => x.slot ≠ slot) := by
    rw [State.closeSession, if_neg isOpen]
    rfl
  have subs : (s.closeSession slot).proto.subs = s.proto.subs.filter (fun u => u.slot ≠ slot) := by
    rw [State.closeSession, if_neg isOpen]
    rfl
  have shown : (s.closeSession slot).get (O.slot_session slot) = .n 0 := by
    rw [State.closeSession, if_neg isOpen]
    simp [State.showSessions, State.get_setN, State.get_setB]
  rw [ended]
  refine ⟨?_, ?_, fun u mem => ?_⟩
  · simp [State.session, proto, sessions]
  · rw [State.nat, objects _ (by simp), shown]
    rfl
  · rw [proto, subs] at mem
    exact of_decide_eq_true (List.mem_filter.1 mem).2

/-! ## Takes (R129) -/

section
variable {s : State} (w : Writer) {slot : Nat}

/-- The cancel object of a take slot, by what `State.cancelTake` answers. -/
theorem State.familyWrite_take_cancel : s.familyWrite w [] (O.take_cancel slot) (.n 1) =
    some (match s.cancelTake slot with | .error c => (c, s) | .ok st => (0, st)) := by
  rw [State.familyWrite_switching _ _ _ _ _ (.inl rfl)]
  rfl

theorem State.cancelTake_of_empty (h : s.nat (O.take_state slot) = 0) : s.cancelTake slot = .error C.range := by
  simp [State.cancelTake, h]

theorem State.cancelTake_of_armed (h : s.nat (O.take_state slot) = 4 ∨ s.nat (O.take_state slot) = 5) :
    s.cancelTake slot = .error C.tooLate := by
  rcases h with h | h <;> simp [State.cancelTake, h]

theorem State.cancelTake_of_final (low : 6 ≤ s.nat (O.take_state slot)) (high : s.nat (O.take_state slot) ≤ 8) :
    s.cancelTake slot = .ok s := by
  have state : s.nat (O.take_state slot) = 6 ∨ s.nat (O.take_state slot) = 7 ∨ s.nat (O.take_state slot) = 8 := by omega
  rcases state with h | h | h <;> simp [State.cancelTake, h]

theorem State.cancelTake_of_waiting {r : TakeRec} (low : 1 ≤ s.nat (O.take_state slot)) (high : s.nat (O.take_state slot) ≤ 3)
    (found : s.sw.takes.find? (fun r => r.slot = slot) = some r) :
    s.cancelTake slot = .ok (((s.answerTake r s.twin.seq).finishTake slot 7).abandonTake r.num).retryShort := by
  have state : s.nat (O.take_state slot) = 1 ∨ s.nat (O.take_state slot) = 2 ∨ s.nat (O.take_state slot) = 3 := by omega
  rcases state with h | h | h <;> simp [State.cancelTake, h, found]

end

/-! ## Salvo slots (R136, R137, R151) -/

section
variable {s : State} (w : Writer) {k : Nat}

theorem State.familyWrite_take_list (list : Bytes) :
    s.familyWrite w [] (O.salvo_take_list k) (.b list) = some (s.writeTakeList k list) := by
  rw [State.familyWrite_switching _ _ _ _ _ (.inr (.inl rfl))]
  rfl

theorem State.writeTakeList_of_refused {code i : Nat} {list : Bytes} (judged : s.judgeList [] 0 (takePieces list) = some (code, i)) :
    s.writeTakeList k list = (code, s.setN (O.salvo_refusal_index k) i) := by
  rw [State.writeTakeList, judged]

/-- A list without an offending entry is held, and the slot loaded under a new generation. -/
theorem State.writeTakeList_of_good {list : Bytes} (judged : s.judgeList [] 0 (takePieces list) = none) :
    ∃ u, s.writeTakeList k list = (0, u) ∧ u.get (O.salvo_take_list k) = .b list ∧
      u.nat (O.salvo_take_count k) = list.length / 24 ∧ u.nat (O.salvo_state k) = 1 ∧
      u.nat (O.salvo_generation k) = (s.nat (O.salvo_generation k) + 1) % 65536 := by
  refine ⟨_, by rw [State.writeTakeList, judged], ?_, ?_, ?_, ?_⟩
  · simp [State.get_setN, State.get_setB]
  · simp [State.nat_setN]
  · simp
  · simp [State.nat_setN]

theorem State.familyWrite_salvo_release : s.familyWrite w [] (O.salvo_release k) (.n 1) = some (s.releaseSalvo k) := by
  rw [State.familyWrite_switching _ _ _ _ _ (.inr (.inl rfl))]
  rfl

theorem State.releaseSalvo_of_busy (busy : s.salvoIdle k = false) : s.releaseSalvo k = (C.busy, s) := by
  simp [State.releaseSalvo, busy]

/-- State and take count of a salvo slot are 0 by default (Table 5.9). -/
theorem dflt_salvo_slot {k : Nat} (low : 1 ≤ k) (high : k ≤ 256) :
    dflt (O.salvo_state k) = .n 0 ∧ dflt (O.salvo_take_count k) = .n 0 := by
  have map : rowsOf 0x3300 k = rowsSalvo := by
    rw [rowsOf, if_neg (by omega), if_pos high]
  have row (sub : Nat) : descOf ⟨0x3300, k, sub⟩ = rowsSalvo.find? (fun d => d.sub = sub) := by rw [← map]; rfl
  constructor
  · have own : dfltAt (O.salvo_state k) = none := rfl
    rw [dflt, own, row]
    rfl
  · have own : dfltAt (O.salvo_take_count k) = none := rfl
    rw [dflt, own, row]
    rfl

/-- An idle slot that is released reads empty; its generation and label stay. -/
theorem State.releaseSalvo_of_idle (low : 1 ≤ k) (high : k ≤ 256) (idle : s.salvoIdle k = true) :
    ∃ u, s.releaseSalvo k = (0, u) ∧ u.nat (O.salvo_state k) = 0 ∧ u.nat (O.salvo_take_count k) = 0 ∧
      u.nat (O.salvo_generation k) = s.nat (O.salvo_generation k) ∧ u.get (O.salvo_label k) = s.get (O.salvo_label k) := by
  obtain ⟨state, count⟩ := dflt_salvo_slot low high
  refine ⟨_, by rw [State.releaseSalvo, if_pos idle], ?_, ?_, ?_, ?_⟩
  · rw [State.nat, State.get_foldl_dflt, if_pos (by simp), state]
    rfl
  · rw [State.nat, State.get_foldl_dflt, if_pos (by simp), count]
    rfl
  · rw [State.nat, State.get_foldl_dflt, if_neg (by simp), State.nat]
  · rw [State.get_foldl_dflt, if_neg (by simp)]

end

/-! ## Hints and re-optimisation (R170, R171) -/

section
variable {s : State} (w : Writer) {h : Nat}

theorem State.familyWrite_hint_enable (v : Int) (one : h ≠ 0) :
    s.familyWrite w [] (O.hint_enable h) (.n v) = some (s.writeHint h (v = 1)) := by
  rw [State.familyWrite_switching _ _ _ _ _ (.inr (.inr rfl))]
  simp only [State.writeSwitching, if_neg one]
  rfl

/-- A require hint that another on its subject contradicts. -/
theorem State.writeHint_of_contradicted {g : Nat} (require : s.nat (O.hint_action h) = 0)
    (mem : g ∈ s.hints (s.nat (O.hint_kind h)) [s.normId (s.nat (O.hint_subject h))]) (other : g ≠ h)
    (too : s.nat (O.hint_action g) = 0) (differs : s.nat (O.hint_value g) ≠ s.nat (O.hint_value h)) :
    s.writeHint h true = (C.busy, s) := by
  refine if_pos ⟨rfl, require, List.any_eq_true.2 ⟨g, mem, ?_⟩⟩
  simp [other, too, differs]

theorem State.writeHint_on_of_no_require (h1 : s.nat (O.hint_action h) ≠ 0) :
    s.writeHint h true = (0, s.setN (O.hint_enable h) 1) := by
  simp only [State.writeHint]
  rw [if_neg fun ⟨_, require, _⟩ => h1 require]
  rfl

theorem State.writeHint_off : s.writeHint h false = (0, (s.setN (O.hint_enable h) 0).setN (O.hint_state h) 0) := by
  simp only [State.writeHint]
  rw [if_neg (by simp)]
  rfl

theorem State.familyWrite_reoptimise : s.familyWrite w [] O.placer_reoptimise (.n 1) =
    some (if 256 ≤ s.queued then (C.busy, s) else (0, s.enqueue .reoptimise)) := by
  rw [State.familyWrite_switching _ _ _ _ _ (.inr (.inr rfl))]
  rfl

end

/-! ## Recirculated sources (R193) -/

section
variable {s : State} (w : Writer) {x dst : Nat}

theorem State.familyWrite_recirc : s.familyWrite w [] (O.src_recirc_of x) (.n dst) = some (s.writeRecirc x dst) := by
  rw [State.familyWrite_source]
  rfl

theorem State.writeRecirc_of_bad_id {code : Nat} (given : dst ≠ none32) (judged : s.judgeDst dst = .error code) :
    s.writeRecirc x dst = (code, s) := by
  simp only [State.writeRecirc, if_neg given, judged]

theorem State.writeRecirc_of_other_essence {d : Dst} (given : dst ≠ none32) (judged : s.judgeDst dst = .ok d) (ess : d.ess ≠ .video) :
    s.writeRecirc x dst = (C.type, s) := by
  simp only [State.writeRecirc, if_neg given, judged]
  rw [if_pos (.inl ess), if_pos ess]

theorem State.writeRecirc_of_loop {d : Dst} {r : Route} (given : dst ≠ none32) (judged : s.judgeDst dst = .ok d) (ess : d.ess = .video)
    (route : s.route d = some r) (loop : idIdx r.pl.src = x) : s.writeRecirc x dst = (C.range, s) := by
  simp only [State.writeRecirc, if_neg given, judged, ess, route]
  by_cases window : 3072 ≤ d.idx
  · simp [window]
  · simp [window, loop]

/-- With no destination the source carries nothing, and its store is gone. -/
theorem State.writeRecirc_none (s : State) (x : Nat) : ∃ u, s.writeRecirc x none32 = (0, u) ∧
    u.nat (O.src_recirc_of x) = none32 ∧ ∀ y ∈ u.sw.stores, ¬(y.purpose = 1 ∧ y.src = s.srcId 0 x) := by
  refine ⟨_, by simp only [State.writeRecirc, if_true]; rfl, ?_, fun y mem => ?_⟩
  · exact State.nat_setN_same ..
  · rw [State.setN_sw] at mem
    exact of_decide_eq_true (List.mem_filter.1 mem).2

end

/-- Settles O35: each write is handed to its rule, and each clause is what that rule answers. -/
theorem switchingWriteRules : Obligations.SwitchingWriteRules := by
  unfold Obligations.SwitchingWriteRules
  refine ⟨?close, ?closed, ?zeroKey, ?key, ?cancelEmpty, ?cancelLate, ?cancelFinal, ?cancel, ?listRefused, ?list, ?releaseBusy,
    ?release, ?hintBusy, ?hintOn, ?hintOff, ?reoptimise, ?recircId, ?recircType, ?recircLoop, ?recircNone⟩
  case close => exact fun b w slot => b.familyWrite_slot_close w
  case closed => exact fun b slot x => State.endSession_closes
  case zeroKey =>
    intro b w role key known zero
    rw [b.familyWrite_key w key known, if_pos zero]
  case key =>
    intro b w role key known nonzero
    rw [b.familyWrite_key w key known, if_neg (Bool.eq_false_iff.1 nonzero)]
  case cancelEmpty =>
    intro b w slot empty
    rw [State.familyWrite_take_cancel, State.cancelTake_of_empty empty]
  case cancelLate =>
    intro b w slot armed
    rw [State.familyWrite_take_cancel, State.cancelTake_of_armed armed]
  case cancelFinal =>
    intro b w slot low high
    rw [State.familyWrite_take_cancel, State.cancelTake_of_final low high]
  case cancel =>
    intro b w slot r low high found
    rw [State.familyWrite_take_cancel, State.cancelTake_of_waiting low high found]
  case listRefused =>
    intro b w k code i list judged
    rw [State.familyWrite_take_list, State.writeTakeList_of_refused judged]
  case list =>
    intro b w k list judged
    simpa only [State.familyWrite_take_list, Option.some.injEq] using State.writeTakeList_of_good judged
  case releaseBusy =>
    intro b w k busy
    rw [State.familyWrite_salvo_release, State.releaseSalvo_of_busy busy]
  case release =>
    intro b w k low high idle
    simpa only [State.familyWrite_salvo_release, Option.some.injEq] using State.releaseSalvo_of_idle low high idle
  case hintBusy =>
    intro b w h g one require mem other too differs
    rw [State.familyWrite_hint_enable w 1 one]
    exact congrArg some (State.writeHint_of_contradicted require mem other too differs)
  case hintOn =>
    intro b w h one free
    rw [State.familyWrite_hint_enable w 1 one]
    exact congrArg some (State.writeHint_on_of_no_require free)
  case hintOff =>
    intro b w h one
    rw [State.familyWrite_hint_enable w 0 one]
    exact congrArg some State.writeHint_off
  case reoptimise => exact fun b w => State.familyWrite_reoptimise w
  case recircId =>
    intro b w x dst code given judged
    rw [State.familyWrite_recirc, State.writeRecirc_of_bad_id given judged]
  case recircType =>
    intro b w x dst d given judged ess
    rw [State.familyWrite_recirc, State.writeRecirc_of_other_essence given judged ess]
  case recircLoop =>
    intro b w x dst d r given judged ess route loop
    rw [State.familyWrite_recirc, State.writeRecirc_of_loop given judged ess route loop]
  case recircNone =>
    intro b w x
    simpa only [State.familyWrite_recirc, Option.some.injEq] using b.writeRecirc_none x

end Sys2Proof.Machine
end

section
/-! What a fault that latches, follows its condition or ends leaves alone (R442, R443, R447 to R454). -/

namespace Sys2Proof.Machine

/-! ## Objects that faults do not reach -/

/-- The object stands neither among the fault objects of the chip nor among those of identity, firmware and twin, which
reactions may write (R442, R450, R497). -/
def besideReactions (k : Key) : Bool :=
  !(k.fam == 0x1000 || k.fam == 0x1200 || k.fam == 0x1300 || (k.fam == 0x1100 && k.inst == 0))

/-- Neither the source nor the reactions of its fault write the object. -/
def besideFault (src : Nat) (k : Key) : Bool := besideReactions k && !(k.fam == 0x1100 && k.inst == src + 1)

theorem besideReactions_of_besideFault {src : Nat} {k : Key} (h : besideFault src k = true) : besideReactions k = true :=
  (Bool.and_eq_true_iff.1 h).1

theorem besideFault_own (src sub : Nat) : besideFault src ⟨0x1100, src + 1, sub⟩ = false := by
  simp [besideFault]

/-- `b` differs from `a` in what has left the chip, in the accounts of the twin, of faults and of firmware, in the restart that
is due, and in objects other than those that `p` selects. -/
def FaultsOnly (p : Key → Bool) (a b : State) : Prop :=
  (∃ objs out twin faults fw due, b =
    { a with objs := objs, out := out, twin := twin, faults := faults, fw := fw, power := { a.power with due := due } }) ∧
  ∀ k : Key, p k = true → b.get k = a.get k

namespace FaultsOnly

variable {p : Key → Bool} {a b c s : State}

theorem refl (a : State) : FaultsOnly p a a := ⟨⟨_, _, _, _, _, _, rfl⟩, fun _ _ => rfl⟩

theorem trans (h : FaultsOnly p a b) (k : FaultsOnly p b c) : FaultsOnly p a c := by
  obtain ⟨⟨_, _, _, _, _, _, rfl⟩, get⟩ := h
  obtain ⟨⟨_, _, _, _, _, _, rfl⟩, get'⟩ := k
  exact ⟨⟨_, _, _, _, _, _, rfl⟩, fun key other => (get' key other).trans (get key other)⟩

theorem mono {q : Key → Bool} (h : FaultsOnly p a b) (fewer : ∀ k, q k = true → p k = true) : FaultsOnly q a b :=
  ⟨h.1, fun k other => h.2 k (fewer k other)⟩

theorem set (h : FaultsOnly p a s) {k : Key} (reached : p k = false) (v : Val) : FaultsOnly p a (s.set k v) := by
  refine h.trans ⟨⟨_, _, _, _, _, _, rfl⟩, fun k' other => ?_⟩
  have apart : k' ≠ k := by
    rintro rfl
    exact Bool.false_ne_true (reached.symm.trans other)
  rw [State.get_set, if_neg apart]

theorem setFaults (h : FaultsOnly p a s) (f : Faults) : FaultsOnly p a { s with faults := f } :=
  h.trans ⟨⟨_, _, _, _, _, _, rfl⟩, fun _ _ => rfl⟩

theorem setFwFaults (h : FaultsOnly p a s) (w : Firmware) (f : Faults) : FaultsOnly p a { s with fw := w, faults := f } :=
  h.trans ⟨⟨_, _, _, _, _, _, rfl⟩, fun _ _ => rfl⟩

theorem setTwin (h : FaultsOnly p a s) (t : Twin) : FaultsOnly p a { s with twin := t } :=
  h.trans ⟨⟨_, _, _, _, _, _, rfl⟩, fun _ _ => rfl⟩

theorem get (h : FaultsOnly p a b) {k : Key} (other : p k = true) : b.get k = a.get k := h.2 k other

theorem nat (h : FaultsOnly p a b) {k : Key} (other : p k = true) : b.nat k = a.nat k := by
  rw [State.nat, h.get other, State.nat]

theorem oct (h : FaultsOnly p a b) {k : Key} (other : p k = true) : b.oct k = a.oct k := by
  rw [State.oct, h.get other, State.oct]

theorem power (h : FaultsOnly p a b) : ∃ due, b.power = { a.power with due := due } := by
  obtain ⟨⟨_, _, _, _, _, due, rfl⟩, -⟩ := h
  exact ⟨due, rfl⟩

theorem stripes (h : FaultsOnly p a b) : b.stripes = a.stripes := by
  obtain ⟨⟨_, _, _, _, _, _, rfl⟩, -⟩ := h
  rfl

end FaultsOnly

/-! ## Reactions (R442, R450 to R452, R497) -/

section
variable (s : State)

theorem State.dropSide_faults : FaultsOnly besideReactions s s.dropSide :=
  List.foldlRecOn _ _ (.refl s) fun _ h _ _ => h.set rfl _

theorem State.claimSide_faults : FaultsOnly besideReactions s s.claimSide := by
  unfold State.claimSide
  split
  · exact List.foldlRecOn _ _ (.refl s) fun _ h _ _ => h.set rfl _
  · exact .refl s

theorem State.tellTwin_faults (n : Notice) : FaultsOnly besideReactions s (s.tellTwin n) := by
  unfold State.tellTwin
  split
  · exact .refl s
  · exact ⟨⟨_, _, _, _, _, _, rfl⟩, fun _ _ => rfl⟩

theorem State.loseService_faults : FaultsOnly besideReactions s s.loseService :=
  ((((((FaultsOnly.refl s).set rfl _).set rfl _).set rfl _).set rfl _).set rfl _).setTwin _

theorem State.enterSafe_faults : FaultsOnly besideReactions s s.enterSafe := by
  have dropped : FaultsOnly besideReactions s (((s.setF O.fault_safe_state true).count O.fault_safe_entries).dropSide.tellTwin .safeState) :=
    ((((FaultsOnly.refl s).set rfl _).set rfl _).trans (State.dropSide_faults _)).trans (State.tellTwin_faults ..)
  unfold State.enterSafe
  split
  · exact .refl s
  · dsimp only
    split
    · exact dropped.trans (State.loseService_faults _)
    · exact dropped

theorem State.askRestart_faults (cause : Nat) : FaultsOnly besideReactions s (s.askRestart cause) := by
  unfold State.askRestart
  dsimp only
  split
  · exact s.enterSafe_faults
  · exact s.enterSafe_faults.trans ⟨⟨_, _, _, _, _, _, rfl⟩, fun _ _ => rfl⟩

theorem State.flipSlot_faults : FaultsOnly besideReactions s s.flipSlot := by
  unfold State.flipSlot
  exact ((((FaultsOnly.refl s).set rfl _).set rfl _).set rfl _).set rfl _

theorem State.failProbation_faults : FaultsOnly besideReactions s s.failProbation := by
  have failed : FaultsOnly besideReactions s ((s.flipSlot.setN O.fw_image_state 0).setN O.fw_activation_state 6) :=
    (s.flipSlot_faults.set rfl _).set rfl _
  exact failed.setFwFaults ..

theorem State.appendLog_faults (fr : Bytes) : FaultsOnly besideReactions s (s.appendLog fr) :=
  ((FaultsOnly.refl s).set rfl _).set rfl _

theorem State.captureFirst_faults (fr : Bytes) : FaultsOnly besideReactions s (s.captureFirst fr) := by
  unfold State.captureFirst
  split
  · exact ((FaultsOnly.refl s).set rfl _).set rfl _
  · exact ((FaultsOnly.refl s).set rfl _).set rfl _

theorem State.react_faults (src unit : Nat) (fr : Bytes) : FaultsOnly besideReactions s (s.react src unit fr) := by
  have safe : FaultsOnly besideReactions s (if s.bringsSafe src then s.enterSafe else s) := by
    split
    · exact s.enterSafe_faults
    · exact .refl s
  have logged {u : State} (h : FaultsOnly besideReactions s u) (c : Bool) :
      FaultsOnly besideReactions s (if c then u.appendLog fr else u) := by
    split
    · exact h.trans (u.appendLog_faults fr)
    · exact h
  have noted {u : State} (h : FaultsOnly besideReactions s u) (c : Bool) :
      FaultsOnly besideReactions s
        (if c then { u with faults := { u.faults with resets := u.faults.resets ++ [(src, unit)] } } else u) := by
    split
    · exact h.setFaults _
    · exact h
  unfold State.react
  dsimp only
  split
  · exact (noted (logged safe _) _).trans (State.askRestart_faults ..)
  · exact noted (logged safe _) _

theorem State.leaveSafe_faults : FaultsOnly besideReactions s s.leaveSafe := by
  have left : FaultsOnly besideReactions s (s.setF O.fault_safe_state false) := (FaultsOnly.refl s).set rfl _
  unfold State.leaveSafe
  split
  · dsimp only
    split
    · exact left.setFaults _
    · exact (left.trans (State.claimSide_faults _)).setFaults _
  · exact .refl s

theorem State.reviewSafe_faults : FaultsOnly besideReactions s s.reviewSafe := by
  unfold State.reviewSafe
  split
  · exact .refl s
  · exact s.leaveSafe_faults

end

/-! ## A source latches, and ends (R447, R448) -/

section
variable (s : State) (src unit detail : Nat)

/-- A source that exists latches where the chip is not held down: its own objects are noted, it reads active, and reactions
follow. -/
theorem State.latch_reacts {s : State} {src : Nat} (exist : (faultKindOf src).isSome = true)
    (present : s.fusedOff ⟨0x1100, src + 1, 0⟩ = false) (up : s.heldDown = false) :
    ∃ m, FaultsOnly (besideFault src) s m ∧ m.nat (O.fsrc_state (src + 1)) = 1 ∧
      FaultsOnly besideReactions m (s.latch src unit detail) := by
  have judged : ¬((faultKindOf src).isNone = true ∨ s.fusedOff ⟨0x1100, src + 1, 0⟩ = true) := by
    simpa [present, Option.isSome_iff_ne_none] using exist
  have active : FaultsOnly (besideFault src) s ((s.count (O.fsrc_count (src + 1))).setN (O.fsrc_state (src + 1)) 1) :=
    ((FaultsOnly.refl s).set (besideFault_own ..) _).set (besideFault_own ..) _
  rw [State.latch, if_neg judged, up, if_neg Bool.false_ne_true]
  have probation {m u : State} (h : FaultsOnly besideReactions m u) (c : Bool) :
      FaultsOnly besideReactions m (if c then u.failProbation.askRestart 4 else u) := by
    split
    · exact (h.trans u.failProbation_faults).trans (State.askRestart_faults ..)
    · exact h
  have noted := (active.set (besideFault_own src 6) (.n (s.tbNow 0))).set (besideFault_own src 7) (.n (contextWord unit detail))
  by_cases was : s.nat (O.fsrc_state (src + 1)) = 0
  · rw [if_neg (not_not.2 was)]
    refine ⟨_, noted, ?_, ?_⟩
    · simp [State.nat_set]
    · exact probation ((State.captureFirst_faults ..).trans (State.react_faults ..)) _
  · rw [if_pos was]
    exact ⟨_, active, State.nat_setN_same .., .refl _⟩

theorem State.latch_state {s : State} {src : Nat} (exist : (faultKindOf src).isSome = true)
    (present : s.fusedOff ⟨0x1100, src + 1, 0⟩ = false) (up : s.heldDown = false) :
    (s.latch src unit detail).nat (O.fsrc_state (src + 1)) = 1 := by
  obtain ⟨m, -, active, reacted⟩ := State.latch_reacts unit detail exist present up
  have beside : besideReactions (O.fsrc_state (src + 1)) = true := by simp [besideReactions]
  rw [reacted.nat beside, active]

theorem State.latch_faults : FaultsOnly (besideFault src) s (s.latch src unit detail) := by
  by_cases refused : (faultKindOf src).isNone = true ∨ s.fusedOff ⟨0x1100, src + 1, 0⟩ = true
  · rw [State.latch, if_pos refused]
    exact .refl s
  · by_cases down : s.heldDown = true
    · rw [State.latch, if_neg refused, if_pos down]
      exact (FaultsOnly.refl s).setFaults _
    · obtain ⟨exist, present⟩ := not_or.1 refused
      obtain ⟨m, noted, -, reacted⟩ := s.latch_reacts (src := src) unit detail
        (by simpa [Option.isSome_iff_ne_none] using exist) (by simpa using present) (by simpa using down)
      exact noted.trans (reacted.mono fun k => besideReactions_of_besideFault)

theorem State.endFault_faults : FaultsOnly (besideFault src) s (s.endFault src) := by
  have ended {u : State} (h : FaultsOnly (besideFault src) s u) : FaultsOnly (besideFault src) s
      (if u.isActive src then
        if u.flag (O.fsrc_auto_clear (src + 1)) && faultClass src ≤ 2 then u.unlatch src else u.setN (O.fsrc_state (src + 1)) 2
      else u) := by
    split
    · split
      · exact (h.set (besideFault_own ..) _).trans ((State.reviewSafe_faults _).mono fun k => besideReactions_of_besideFault)
      · exact h.set (besideFault_own ..) _
    · exact h
  refine ended ?_
  split
  · exact .refl s
  · exact (FaultsOnly.refl s).setFaults _

theorem State.follow_faults (cond : Bool) : FaultsOnly (besideFault src) s (s.follow src unit detail cond) := by
  unfold State.follow
  split
  · split
    · exact .refl s
    · exact s.latch_faults src unit detail
  · exact s.endFault_faults src

theorem State.followShared_faults (cond others : Bool) :
    FaultsOnly (besideFault src) s (s.followShared src unit detail cond others) := by
  unfold State.followShared
  split
  · exact s.follow_faults src unit detail true
  · split
    · exact .refl s
    · exact s.endFault_faults src

/-- A source that is neither active nor to latch at Ready has nothing to end. -/
theorem State.endFault_of_inactive {s : State} {src : Nat} (inactive : s.isActive src = false) (nothing : s.faults.relatch = []) :
    s.endFault src = s := by
  simp [State.endFault, nothing, inactive]

theorem State.follow_of_inactive {s : State} {src : Nat} (inactive : s.isActive src = false) :
    s.follow src unit detail true = s.latch src unit detail := by
  simp [State.follow, inactive]

end

end Sys2Proof.Machine
end

section
/-! Voltage loops, pace monitors and regulators (R72 to R80), and supply monitors with their brown-outs (R508). -/

namespace Sys2Proof.Machine

/-! ## The arms -/

section
variable (s : State) (t die rail vout status mv lowest tile pace : Nat)

theorem exec_voltageLoopPeriod : exec (.voltageLoopPeriod t die) s = .next (s.closed ((s.advance t).voltageLoop die)) := rfl

theorem exec_paceMarginTimeout : exec (.paceMarginTimeout t die) s = .next (s.closed ((s.advance t).paceTimeout die)) := rfl

theorem exec_paceMonitorWindow :
    exec (.paceMonitorWindow t tile pace) s = .next (s.closed ((s.advance t).paceWindow tile pace)) := rfl

theorem exec_regulatorPoll (ack : Bool) :
    exec (.regulatorPoll t die ack vout status) s = .next (s.closed ((s.advance t).pollRegulator die ack vout status)) := rfl

theorem exec_railMonitorTrip (high : Bool) :
    exec (.railMonitorTrip t rail high mv) s = .next (s.closed ((s.advance t).railTrip rail high mv)) := rfl

theorem exec_undervoltTrip : exec (.undervoltTrip t die mv) s = .next (s.closed ((s.advance t).undervolt die mv)) := rfl

theorem exec_brownoutEnd : exec (.brownoutEnd t rail lowest) s = .next (s.closed ((s.advance t).brownEnd rail lowest)) := rfl

theorem exec_brownoutRingWrite : exec (.brownoutRingWrite t) s = .next (s.closed (s.advance t).writeRing) := rfl

end

/-! ## What faults leave of the supplies -/

theorem besideFault_supplies (src i sub : Nat) : besideFault src ⟨0x1400, i, sub⟩ = true := by
  simp [besideFault, besideReactions]

section
variable {a b : State} {src die : Nat} (h : FaultsOnly (besideFault src) a b)
include h

theorem FaultsOnly.loopRuns : b.loopRuns die = a.loopRuns die := by
  obtain ⟨due, power⟩ := h.power
  have state : b.nat (O.die_loop_state (1 + die)) = a.nat (O.die_loop_state (1 + die)) := h.nat (besideFault_supplies ..)
  simp only [State.loopRuns, State.ready, power, state]

theorem FaultsOnly.margin : b.power.margin = a.power.margin := by
  obtain ⟨due, power⟩ := h.power
  rw [power]

theorem FaultsOnly.brown : b.power.brown = a.power.brown := by
  obtain ⟨due, power⟩ := h.power
  rw [power]

theorem FaultsOnly.paceLost : b.paceLost die = a.paceLost die := by
  have pace : b.diePace die = a.diePace die := by
    simp only [State.diePace, fun i => h.nat (k := O.pace_last i) (besideFault_supplies ..)]
  rw [State.paceLost, State.paceLost, pace, h.stripes]

end

/-- Where no margin is lost and no pace is short, there is nothing to take back (R76). -/
theorem State.reviewPace_of_none {s : State} (margin : s.power.margin = []) (short : s.power.short = []) (die : Nat) :
    s.reviewPace die = s := by
  simp [State.reviewPace, margin, short]

/-- The part of the review that clears PACE_MARGIN. -/
def State.reviewMargin (s : State) (die : Nat) : State :=
  if s.power.margin.contains die && !s.marginLost die then
    ({ s with power := { s.power with margin := s.power.margin.filter (fun d => d ≠ die) } } : State).followShared F.paceMargin die 0
      false (!(s.power.margin.filter (fun d => d ≠ die)).isEmpty)
  else s

/-- The part of the review that clears PACE_SHORT. -/
def State.reviewShort (s : State) (die : Nat) : State :=
  if s.power.short.contains die && !s.paceLost die then
    ({ s with power := { s.power with short := s.power.short.filter (fun d => d ≠ die) } } : State).followShared F.paceShort die 0
      false (!(s.power.short.filter (fun d => d ≠ die)).isEmpty)
  else s

theorem State.reviewPace_eq (s : State) (die : Nat) : s.reviewPace die = (s.reviewMargin die).reviewShort die := rfl

/-- The review of a die's pace writes no object of the supplies. -/
theorem State.reviewPace_nat (s : State) (die i sub : Nat) : (s.reviewPace die).nat ⟨0x1400, i, sub⟩ = s.nat ⟨0x1400, i, sub⟩ := by
  have margin (u : State) : (u.reviewMargin die).nat ⟨0x1400, i, sub⟩ = u.nat ⟨0x1400, i, sub⟩ := by
    unfold State.reviewMargin
    split
    · exact (State.followShared_faults ..).nat (besideFault_supplies ..)
    · rfl
  have short (u : State) : (u.reviewShort die).nat ⟨0x1400, i, sub⟩ = u.nat ⟨0x1400, i, sub⟩ := by
    unfold State.reviewShort
    split
    · exact (State.followShared_faults ..).nat (besideFault_supplies ..)
    · rfl
  rw [State.reviewPace_eq, short, margin]

/-! ## The voltage loop (R73, R74) -/

/-- What a pass of the loop does after the setpoint leaves the setpoint. -/
theorem State.setpoint_after_send (s : State) (die : Nat) :
    (((s.sendVout die).showLoop die).reviewPace die).nat (O.die_setpoint (1 + die)) = s.nat (O.die_setpoint (1 + die)) := by
  have shown : ((s.sendVout die).showLoop die).nat (O.die_setpoint (1 + die)) = (s.sendVout die).nat (O.die_setpoint (1 + die)) :=
    State.nat_setN_other _ _ (by simp)
  rw [State.reviewPace_nat, shown]
  unfold State.sendVout
  dsimp only
  split
  · rfl
  · rfl

section
variable {s : State} {die : Nat}

theorem State.voltageLoop_of_stopped (stopped : s.loopRuns die = false) : s.voltageLoop die = s := by
  simp [State.voltageLoop, stopped]

theorem State.setpoint_voltageLoop_of_low (runs : s.loopRuns die = true) (low : 100 * s.lowPace die < 125 * s.loopDemand die) :
    (s.voltageLoop die).nat (O.die_setpoint (1 + die)) =
      max (s.nat (O.die_v_min (1 + die))) (min (s.nat (O.die_v_max (1 + die))) (s.nat (O.die_setpoint (1 + die)) + 10)) := by
  have going : ¬(!s.loopRuns die) = true := by simp [runs]
  rw [State.voltageLoop, if_neg going]
  dsimp only
  rw [State.setpoint_after_send, State.nat_setN_same, if_pos low]

/-- Above the target for 10 ms the setpoint steps down by 5 mV, where the regulator answers. -/
theorem State.setpoint_voltageLoop_of_high {since : Nat} (runs : s.loopRuns die = true)
    (enough : 125 * s.loopDemand die ≤ 100 * s.lowPace die)
    (high : (s.nat (O.die_target (1 + die)) + 5) * s.loopDemand die < 100 * s.lowPace die)
    (above : kfind s.power.above die = some since) (long : since + 10000000 ≤ s.now) (answers : s.power.badReg = []) :
    (s.voltageLoop die).nat (O.die_setpoint (1 + die)) =
      max (s.nat (O.die_v_min (1 + die))) (min (s.nat (O.die_v_max (1 + die))) (s.nat (O.die_setpoint (1 + die)) - 5)) := by
  have going : ¬(!s.loopRuns die) = true := by simp [runs]
  rw [State.voltageLoop, if_neg going]
  dsimp only
  rw [State.setpoint_after_send, State.nat_setN_same, if_neg (not_lt.2 enough), if_pos (by simp [high, above, long, answers])]

/-! ## Pace (R72, R76) -/

theorem State.paceWindow_of_none {tile : Nat} (pace : Nat) (present : tile < s.tiles) (margin : s.power.margin = [])
    (short : s.power.short = []) :
    s.paceWindow tile pace = (s.setN (O.pace_last (32 + tile)) pace).setN (O.pace_lowest (32 + tile))
      (if s.nat (O.pace_lowest (32 + tile)) = 0 then pace else min (s.nat (O.pace_lowest (32 + tile))) pace) := by
  rw [State.paceWindow, if_neg (not_le.2 present)]
  refine State.reviewPace_of_none ?_ ?_ _
  · simpa using margin
  · simpa using short

theorem State.paceTimeout_of_stopped (stopped : s.loopRuns die = false) : s.paceTimeout die = s := by
  simp [State.paceTimeout, stopped]

/-- The part of the time-out that raises PACE_MARGIN. -/
def State.raiseMargin (s : State) (die : Nat) : State :=
  if s.marginLost die && s.nat (O.die_setpoint (1 + die)) == s.nat (O.die_v_max (1 + die)) then
    ({ s with power := { s.power with margin := nub (s.power.margin ++ [die]) } } : State).follow F.paceMargin die (s.lowPace die) true
  else s

/-- The part of the time-out that raises PACE_SHORT. -/
def State.raiseShort (s : State) (die : Nat) : State :=
  if s.paceLost die then
    ({ s with power := { s.power with short := nub (s.power.short ++ [die]) } } : State).follow F.paceShort die (s.lowPace die) true
  else s

theorem State.paceTimeout_of_running (runs : s.loopRuns die = true) : s.paceTimeout die = (s.raiseMargin die).raiseShort die :=
  if_neg (by simp [runs])

theorem State.raiseShort_of_met (met : s.paceLost die = false) : s.raiseShort die = s :=
  if_neg (by simp [met])

theorem State.raiseMargin_of_lost (lost : s.marginLost die = true)
    (top : s.nat (O.die_setpoint (1 + die)) = s.nat (O.die_v_max (1 + die))) (margin : s.power.margin = []) :
    s.raiseMargin die =
      ({ s with power := { s.power with margin := [die] } } : State).follow F.paceMargin die (s.lowPace die) true := by
  have alone : nub (s.power.margin ++ [die]) = [die] := by simp [margin, nub]
  rw [State.raiseMargin, if_pos (by simp [lost, top]), alone]

section
variable (runs : s.loopRuns die = true) (lost : s.marginLost die = true) (met : s.paceLost die = false)
  (top : s.nat (O.die_setpoint (1 + die)) = s.nat (O.die_v_max (1 + die))) (margin : s.power.margin = [])
include runs lost met top margin

/-- With the margin lost at v_max, and the booked demand still met, PACE_MARGIN alone is raised. -/
theorem State.paceTimeout_of_margin_lost : s.paceTimeout die =
    ({ s with power := { s.power with margin := [die] } } : State).follow F.paceMargin die (s.lowPace die) true := by
  rw [State.paceTimeout_of_running runs, State.raiseMargin_of_lost lost top margin]
  exact State.raiseShort_of_met ((State.follow_faults ..).paceLost.trans met)

theorem State.paceTimeout_raises_margin : (s.paceTimeout die).power.margin = [die] ∧
    (s.isActive F.paceMargin = false → s.heldDown = false → (s.paceTimeout die).nat (O.fsrc_state (F.paceMargin + 1)) = 1) := by
  rw [State.paceTimeout_of_margin_lost runs lost met top margin]
  constructor
  · exact (State.follow_faults ..).margin
  · intro inactive up
    have latched := State.follow_of_inactive die (s.lowPace die) (s := { s with power := { s.power with margin := [die] } }) inactive
    rw [latched]
    exact State.latch_state _ _ rfl rfl up

end

/-! ## Regulators (R74, R78) -/

/-- What a regulator that acknowledges shows. -/
def State.regulatorReads (s : State) (die : Nat) (ack : Bool) (vout status : Nat) : State :=
  if ack then (s.setN (O.die_vout_read (1 + die)) vout).setN (O.die_regulator_status (1 + die)) status else s

/-- A reading lies more than 20 mV off the setpoint. -/
def State.voutOff (s : State) (die vout : Nat) : Bool :=
  s.nat (O.die_setpoint (1 + die)) != 0 &&
    (decide (s.nat (O.die_setpoint (1 + die)) + 20 < vout) || decide (vout + 20 < s.nat (O.die_setpoint (1 + die))))

/-- AVS_REGULATOR follows a regulator, with `l` the dies whose regulators have failed. -/
def State.followRegulators (s : State) (die vout : Nat) (bad : Bool) (l : List Nat) : State :=
  ({ s with power := { s.power with badReg := l } } : State).followShared F.avsRegulator die vout bad (!l.isEmpty)

/-- The loop state shows where the loop runs. -/
def State.showRunningLoop (s : State) (die : Nat) : State := if s.loopRuns die then s.showLoop die else s

theorem State.pollRegulator_of_known (ack : Bool) (vout status : Nat) (known : die < 2) :
    s.pollRegulator die ack vout status = ((s.regulatorReads die ack vout status).followRegulators die vout (!ack || s.voutOff die vout)
      (s.power.badReg.filter (fun d => d ≠ die) ++ if (!ack || s.voutOff die vout) then [die] else [])).showRunningLoop die :=
  if_neg (not_le.2 known)

theorem State.showRunningLoop_of_stopped (stopped : s.loopRuns die = false) : s.showRunningLoop die = s :=
  if_neg (by simp [stopped])

theorem State.followRegulators_of_good (vout : Nat) (answered : s.power.badReg = []) (inactive : s.isActive F.avsRegulator = false)
    (nothing : s.faults.relatch = []) : s.followRegulators die vout false [] = s := by
  have same : ({ s with power := { s.power with badReg := [] } } : State) = s := by rw [← answered]
  rw [State.followRegulators, same]
  exact State.endFault_of_inactive inactive nothing

/-- A regulator of a die whose loop does not run answers with the setpoint: its readings show, and nothing else changes. -/
theorem State.pollRegulator_of_good {vout : Nat} (status : Nat) (known : die < 2) (stopped : s.loopRuns die = false)
    (set : s.nat (O.die_setpoint (1 + die)) = vout) (answered : s.power.badReg = []) (inactive : s.isActive F.avsRegulator = false)
    (nothing : s.faults.relatch = []) :
    s.pollRegulator die true vout status = (s.setN (O.die_vout_read (1 + die)) vout).setN (O.die_regulator_status (1 + die)) status := by
  have good : (!true || s.voutOff die vout) = false := by simp [State.voutOff, set]
  have reads : s.regulatorReads die true vout status =
      (s.setN (O.die_vout_read (1 + die)) vout).setN (O.die_regulator_status (1 + die)) status := rfl
  rw [State.pollRegulator_of_known _ _ _ known, good, answered, reads]
  generalize shown : (s.setN (O.die_vout_read (1 + die)) vout).setN (O.die_regulator_status (1 + die)) status = u
  have quiet : u.followRegulators die vout false [] = u := by
    refine State.followRegulators_of_good vout ?_ ?_ ?_
    · simpa [← shown] using answered
    · simpa [← shown, State.isActive, State.nat_setN] using inactive
    · simpa [← shown] using nothing
  have still : u.loopRuns die = false := by simpa [← shown, State.loopRuns, State.ready, State.nat_setN] using stopped
  exact (congrArg (State.showRunningLoop · die) quiet).trans (State.showRunningLoop_of_stopped still)

/-- A regulator of a die whose loop does not run does not acknowledge: AVS_REGULATOR latches, and nothing else changes. -/
theorem State.pollRegulator_of_silent (vout status : Nat) (known : die < 2) (stopped : s.loopRuns die = false)
    (answered : s.power.badReg = []) (inactive : s.isActive F.avsRegulator = false) :
    s.pollRegulator die false vout status =
      ({ s with power := { s.power with badReg := [die] } } : State).latch F.avsRegulator die vout := by
  have followed : s.followRegulators die vout true [die] =
      ({ s with power := { s.power with badReg := [die] } } : State).latch F.avsRegulator die vout :=
    State.follow_of_inactive _ _ inactive
  have still : (s.followRegulators die vout true [die]).loopRuns die = false :=
    (State.followShared_faults ..).loopRuns.trans stopped
  rw [State.pollRegulator_of_known _ _ _ known, answered]
  exact (State.showRunningLoop_of_stopped still).trans followed

/-! ## Supply monitors (R80, R508) -/

/-- A rail's monitor trips: its reading and its state show, and its fault follows. -/
def State.railFails (s : State) (rail f mv level : Nat) : State :=
  ((s.railReads rail mv).setN (O.rail_state (16 + rail)) level).follow f rail mv true

/-- A brown-out of a rail begins. -/
def State.openBrown (s : State) (b : Brownout) : State := { s with power := { s.power with brown := s.power.brown ++ [b] } }

theorem State.openBrown_nat (s : State) (b : Brownout) (k : Key) : (s.openBrown b).nat k = s.nat k := rfl

theorem State.openBrown_oct (s : State) (b : Brownout) (k : Key) : (s.openBrown b).oct k = s.oct k := rfl

section
variable {rail f : Nat} (mv : Nat)

theorem State.railTrip_of_high (fault : railFault rail true = some f) (not6 : rail ≠ 6) (not7 : rail ≠ 7) :
    s.railTrip rail true mv = s.railFails rail f mv 2 := by
  have unit : (if rail = 6 ∨ rail = 7 then rail - 6 else rail) = rail := if_neg (by simp [not6, not7])
  rw [State.railTrip, fault, unit]
  exact if_pos (.inl rfl)

theorem State.railTrip_of_low (fault : railFault rail false = some f) (not6 : rail ≠ 6) (not7 : rail ≠ 7) (brown : s.power.brown = []) :
    s.railTrip rail false mv = ((s.railFails rail f mv 1).openBrown ⟨rail, s.now, s.tbNow 0⟩).addBrown
      (brownRecord rail 1 mv 0xFFFFFFFF (s.tbNow 0)) := by
  have unit : (if rail = 6 ∨ rail = 7 then rail - 6 else rail) = rail := if_neg (by simp [not6, not7])
  rw [State.railTrip, fault, unit]
  exact if_neg (by simp [brown])

/-- The fault of a rail writes no object of the supplies. -/
theorem State.railFails_nat (level i sub : Nat) : (s.railFails rail f mv level).nat ⟨0x1400, i, sub⟩ =
    ((s.railReads rail mv).setN (O.rail_state (16 + rail)) level).nat ⟨0x1400, i, sub⟩ :=
  (State.follow_faults ..).nat (besideFault_supplies ..)

end

end

/-! ## Brown-out records (Table 20.3) -/

theorem length_beBytes (n v : Nat) : (beBytes n v).length = n := by
  induction n generalizing v with
  | zero => rfl
  | succ n ih => rw [beBytes, List.length_append, ih, List.length_singleton]

theorem length_brownRecord (rail cause lowest duration tb : Nat) : (brownRecord rail cause lowest duration tb).length = 20 := by
  simp [brownRecord, time80, length_beBytes]

theorem brownRecord_trip (rail cause lowest duration tb : Nat) :
    (brownRecord rail cause lowest duration tb).take 2 = [BitVec.ofNat 8 rail, BitVec.ofNat 8 cause] ∧
      slice (brownRecord rail cause lowest duration tb) 8 10 = time80 tb := ⟨rfl, rfl⟩

/-- An octet string of one record holds that record. -/
theorem records_of_one {n : Nat} {bs : Bytes} (one : bs.length = n) (some : n ≠ 0) : records n bs = [bs] := by
  subst one
  obtain ⟨m, hm⟩ := Nat.exists_eq_succ_of_ne_zero some
  have rest : wordsOf bs.length m [] = [] := by cases m <;> simp [wordsOf, hm]
  rw [records, hm, wordsOf, ← hm]
  simp [some, rest]

section
variable {s : State}

/-- A record joins a ring that is empty. -/
theorem State.addBrown_ring_of_empty {r : Bytes} (empty : s.oct O.pow_brownout_ring = []) (one : r.length ≤ 320) :
    (s.addBrown r).oct O.pow_brownout_ring = r := by
  have short : ¬320 < r.length := not_lt.2 one
  simp [State.addBrown, State.count, State.setN, State.setB, State.oct_set, empty, short, Val.oct]

theorem State.addBrown_nat (s : State) (r : Bytes) {i : Nat} (sub : Nat) (unit : i ≠ 0) :
    (s.addBrown r).nat ⟨0x1400, i, sub⟩ = s.nat ⟨0x1400, i, sub⟩ := by
  simp [State.addBrown, State.count, State.setB, State.nat_setN, State.nat_set, unit]

/-- A trip below the monitor, with no brown-out open: it shows, and a record of unknown duration begins. -/
theorem State.railTrip_records {rail f : Nat} (mv : Nat) (fault : railFault rail false = some f) (not6 : rail ≠ 6) (not7 : rail ≠ 7)
    (brown : s.power.brown = []) :
    (s.railTrip rail false mv).nat (O.rail_state (16 + rail)) = 1 ∧ (s.railTrip rail false mv).nat (O.rail_reading (16 + rail)) = mv ∧
      (s.railTrip rail false mv).power.brown = [⟨rail, s.now, s.tbNow 0⟩] ∧
      (s.oct O.pow_brownout_ring = [] →
        (s.railTrip rail false mv).oct O.pow_brownout_ring = brownRecord rail 1 mv 0xFFFFFFFF (s.tbNow 0)) := by
  have unit : 16 + rail ≠ 0 := by omega
  have failed := State.follow_faults ((s.railReads rail mv).setN (O.rail_state (16 + rail)) 1) f rail mv true
  rw [State.railTrip_of_low mv fault not6 not7 brown]
  refine ⟨?_, ?_, ?_, fun empty => State.addBrown_ring_of_empty ?_ (by simp [length_brownRecord])⟩
  · rw [State.addBrown_nat _ _ _ unit, State.openBrown_nat, State.railFails_nat, State.nat_setN_same]
  · rw [State.addBrown_nat _ _ _ unit, State.openBrown_nat, State.railFails_nat]
    simp [State.railReads, State.nat_setN]
  · have before : (s.railFails rail f mv 1).power.brown = [] := failed.brown.trans (by simpa [State.railReads] using brown)
    simp [State.addBrown, State.openBrown, before]
  · have ring : (s.railFails rail f mv 1).oct O.pow_brownout_ring =
        ((s.railReads rail mv).setN (O.rail_state (16 + rail)) 1).oct O.pow_brownout_ring := failed.oct (besideFault_supplies ..)
    have others : ((s.railReads rail mv).setN (O.rail_state (16 + rail)) 1).oct O.pow_brownout_ring = [] := by
      simpa [State.railReads, State.setN, State.oct_set] using empty
    rw [State.openBrown_oct, ring, others]

/-! ## The end of a brown-out (R508) -/

/-- The ring with the duration and the lowest reading of a brown-out. -/
def State.brownRing (s : State) (rail lowest : Nat) (b : Brownout) : Bytes :=
  (records 20 (s.oct O.pow_brownout_ring)).flatMap (fun x =>
    if x.take 2 = [BitVec.ofNat 8 rail, 1] ∧ slice x 8 10 = time80 b.time then
      brownRecord rail 1 lowest (ceilDiv (s.now - b.since) 1000) b.time
    else x)

/-- The brown-out of a rail is over, and the ring is as given. -/
def State.closeBrown (s : State) (rail : Nat) (ring : Bytes) : State :=
  { (s.setB O.pow_brownout_ring ring).setN (O.rail_state (16 + rail)) 0 with
    power := { s.power with brown := s.power.brown.filter (fun x => x.rail ≠ rail) } }

theorem State.brownEnd_of_none {rail : Nat} (lowest : Nat) (none : s.power.brown = []) : s.brownEnd rail lowest = s := by
  rw [State.brownEnd, none]
  rfl

/-- A brown-out ends whose fault is not active any more. -/
theorem State.brownEnd_of_inactive {rail f : Nat} {b : Brownout} (lowest : Nat)
    (found : s.power.brown.find? (fun b => b.rail = rail) = some b) (fault : railFault rail false = some f)
    (inactive : s.isActive f = false) (nothing : s.faults.relatch = []) :
    s.brownEnd rail lowest = s.closeBrown rail (s.brownRing rail lowest b) := by
  have closed (ring : Bytes) : (s.closeBrown rail ring).endFault f = s.closeBrown rail ring := by
    have still : (s.closeBrown rail ring).nat (O.fsrc_state (f + 1)) = s.nat (O.fsrc_state (f + 1)) := by
      have objects : (s.closeBrown rail ring).nat (O.fsrc_state (f + 1)) =
        ((s.setB O.pow_brownout_ring ring).setN (O.rail_state (16 + rail)) 0).nat (O.fsrc_state (f + 1)) := rfl
      simp [objects, State.setB, State.nat_setN, State.nat_set]
    refine State.endFault_of_inactive ?_ nothing
    rw [State.isActive, still]
    exact inactive
  rw [State.brownEnd, found, fault]
  exact (congrArg _ (closed _)).trans (ite_self _)

/-- The ring's one record gets its duration, in µs rounded up, and its lowest reading. -/
theorem State.brownRing_of_one {rail mv since tb : Nat} (lowest : Nat)
    (ring : s.oct O.pow_brownout_ring = brownRecord rail 1 mv 0xFFFFFFFF tb) :
    s.brownRing rail lowest ⟨rail, since, tb⟩ = brownRecord rail 1 lowest ((s.now - since + 999) / 1000) tb := by
  have one : records 20 (brownRecord rail 1 mv 0xFFFFFFFF tb) = [brownRecord rail 1 mv 0xFFFFFFFF tb] :=
    records_of_one (length_brownRecord ..) (by decide)
  rw [State.brownRing, ring, one, List.flatMap_singleton]
  exact if_pos (brownRecord_trip ..)

theorem State.brownEnd_closes {rail mv since tb f : Nat} (lowest : Nat) (fault : railFault rail false = some f)
    (brown : s.power.brown = [⟨rail, since, tb⟩]) (ring : s.oct O.pow_brownout_ring = brownRecord rail 1 mv 0xFFFFFFFF tb)
    (inactive : s.isActive f = false) (nothing : s.faults.relatch = []) :
    (s.brownEnd rail lowest).power.brown = [] ∧ (s.brownEnd rail lowest).nat (O.rail_state (16 + rail)) = 0 ∧
      (s.brownEnd rail lowest).oct O.pow_brownout_ring = brownRecord rail 1 lowest ((s.now - since + 999) / 1000) tb := by
  rw [State.brownEnd_of_inactive (b := ⟨rail, since, tb⟩) lowest (by simp [brown]) fault inactive nothing,
    State.brownRing_of_one lowest ring]
  refine ⟨by simp [State.closeBrown, brown], State.nat_setN_same .., ?_⟩
  have objects (r : Bytes) : (s.closeBrown rail r).oct O.pow_brownout_ring =
    ((s.setB O.pow_brownout_ring r).setN (O.rail_state (16 + rail)) 0).oct O.pow_brownout_ring := rfl
  simp [objects, State.setN, State.setB, State.oct_set, Val.oct]

end

/-- Settles O28: each event is handed to its operation, and each clause is what the operation does where its hypotheses hold; that
a fault writes no object of the supplies is `FaultsOnly.nat`. -/
theorem voltageAndSupplyEventsComplete : Obligations.VoltageAndSupplyEventsComplete := by
  unfold Obligations.VoltageAndSupplyEventsComplete
  refine ⟨⟨?stopped, ?stepUp, ?stepDown, ?window, ?margin, ?good, ?silent⟩, ?high, ?low, ?core, ?noBrown, ?brownEnd, ?ring⟩
  case stopped =>
    rintro s _ t die rfl stopped
    rw [exec_voltageLoopPeriod, exec_paceMarginTimeout, State.voltageLoop_of_stopped stopped, State.paceTimeout_of_stopped stopped]
    exact ⟨rfl, rfl⟩
  case stepUp =>
    rintro s _ t die rfl runs low
    exact ⟨_, exec_voltageLoopPeriod .., State.setpoint_voltageLoop_of_low runs low⟩
  case stepDown =>
    rintro s _ t die since rfl runs enough high above long answers
    exact ⟨_, exec_voltageLoopPeriod .., State.setpoint_voltageLoop_of_high runs enough high above long answers⟩
  case window =>
    rintro s _ t tile pace rfl present margin short
    rw [exec_paceMonitorWindow, State.paceWindow_of_none pace present margin short]
  case margin =>
    rintro s _ t die rfl runs lost met top margin
    exact ⟨_, exec_paceMarginTimeout .., State.paceTimeout_raises_margin runs lost met top margin⟩
  case good =>
    rintro s _ t die vout status rfl known stopped set answered inactive nothing
    rw [exec_regulatorPoll, State.pollRegulator_of_good status known stopped set answered inactive nothing]
  case silent =>
    rintro s _ t die vout status rfl known stopped answered inactive
    rw [exec_regulatorPoll, State.pollRegulator_of_silent vout status known stopped answered inactive]
  case high =>
    rintro s _ t rail mv f rfl fault not6 not7
    rw [exec_railMonitorTrip, State.railTrip_of_high mv fault not6 not7, State.railFails]
  case low =>
    rintro s _ t rail mv f rfl fault not6 not7 brown
    exact ⟨_, exec_railMonitorTrip .., State.railTrip_records mv fault not6 not7 brown⟩
  case core =>
    rintro s _ t mv rfl
    exact ⟨exec_undervoltTrip .., exec_undervoltTrip .., exec_undervoltTrip ..⟩
  case noBrown =>
    rintro s _ t rail lowest rfl none
    rw [exec_brownoutEnd, State.brownEnd_of_none lowest none]
  case brownEnd =>
    rintro s _ t rail mv lowest since tb f rfl _ fault brown ring inactive nothing
    exact ⟨_, exec_brownoutEnd .., State.brownEnd_closes lowest fault brown ring inactive nothing⟩
  case ring =>
    rintro s _ t rfl
    exact exec_brownoutRingWrite ..

end Sys2Proof.Machine
end

section
/-! Frames of sources, and the lines of outputs (R83, R106, R107, R187, R207 to R210, R450). -/

namespace Sys2Proof.Machine

/-! ## The arms -/

theorem exec_sourceFrameStart (t x skew : Nat) (s : State) :
    exec (.sourceFrameStart t x skew) s = execSourceFrameStart t x skew s := rfl

theorem exec_sourceAbsent (t x : Nat) (s : State) : exec (.sourceAbsent t x) s = execSourceAbsent t x s := rfl

theorem exec_linePlayout (t d line : Nat) (onTime : Bool) (s : State) :
    exec (.linePlayout t d line onTime) s = execLinePlayout t d line onTime s := rfl

/-! ## Sources (R106, R107) -/

section
variable {s : State} (t : Nat) {x : Nat}

theorem exec_sourceFrameStart_of_running (skew : Nat) (known : x < 4096) (present : (s.advance t).fusedOff ⟨0x3000, x, 0⟩ = false)
    (runs : (s.advance t).vsrcRuns x = true) :
    exec (.sourceFrameStart t x skew) s = .next (s.closed ((s.advance t).frameStart x skew)) := by
  have judged : ¬(4096 ≤ x ∨ (s.advance t).fusedOff ⟨0x3000, x, 0⟩ = true ∨ (!(s.advance t).vsrcRuns x) = true) := by
    simp [known, present, runs]
  rw [exec_sourceFrameStart, execSourceFrameStart, done_closed, if_neg judged]

theorem exec_sourceFrameStart_of_none (skew : Nat)
    (none : 4096 ≤ x ∨ (s.advance t).fusedOff ⟨0x3000, x, 0⟩ = true ∨ (s.advance t).vsrcRuns x = false) :
    exec (.sourceFrameStart t x skew) s = .next (s.closed (s.advance t)) := by
  have judged : 4096 ≤ x ∨ (s.advance t).fusedOff ⟨0x3000, x, 0⟩ = true ∨ (!(s.advance t).vsrcRuns x) = true := by
    simpa using none
  rw [exec_sourceFrameStart, execSourceFrameStart, done_closed, if_pos judged]

/-- A source is absent: its record is dropped, and its stores write nothing. -/
def State.loseSource (s : State) (x : Nat) : State :=
  ({ s.setN (O.src_timing_state x) 0 with sw := { s.sw with timing := s.sw.timing.filter (fun r => r.s ≠ x) } } : State).stopStores
    (s.srcId 0 x)

theorem exec_sourceAbsent_of_timed {r : SrcTiming} (timed : (s.advance t).srcTiming x = some r) :
    exec (.sourceAbsent t x) s = .next (s.closed
      (if (s.advance t).now < r.last + 2 * framePeriod ((s.advance t).vsrcFormat x) then s.advance t
        else (s.advance t).loseSource x)) := by
  rw [exec_sourceAbsent, execSourceAbsent, timed]
  rfl

theorem exec_sourceAbsent_of_untimed (untimed : (s.advance t).srcTiming x = none) :
    exec (.sourceAbsent t x) s = .next (s.closed (s.advance t)) := by
  rw [exec_sourceAbsent, execSourceAbsent, untimed]
  rfl

/-- No store that is stopped writes. -/
theorem State.stopStores_writing {s : State} {src : Nat} {y : StoreRec} (mem : y ∈ (s.stopStores src).sw.stores) (own : y.src = src) :
    y.writing = none := by
  obtain ⟨z, -, rfl⟩ := List.mem_map.1 mem
  by_cases h : z.src = src
  · simp [h]
  · rw [if_neg h] at own
    exact absurd own h

theorem State.loseSource_drops (s : State) (x : Nat) :
    (s.loseSource x).nat (O.src_timing_state x) = 0 ∧ (s.loseSource x).srcTiming x = none ∧
      ∀ y ∈ (s.loseSource x).sw.stores, y.src = s.srcId 0 x → y.writing = none := by
  refine ⟨State.nat_setN_same .., ?_, fun y => State.stopStores_writing⟩
  have records : (s.loseSource x).sw.timing = s.sw.timing.filter (fun r => r.s ≠ x) := rfl
  simp [State.srcTiming, records]

end

/-! ## What a line holds -/

section
variable {s : State} {d : Nat} (line : Nat)

/-- A line in safe state (Table 17.4). -/
theorem State.safeLine_of_sdi (sdi : d < 1024) : s.safeLine d line =
    if s.nat (O.dst_safe_content d) = 1 then ⟨.nothing, 0, false, .none, 0⟩
    else ⟨.black, s.ownPayloadId d line, false, .none, s.sentGroups d⟩ := by
  rw [State.safeLine, State.lateLine, if_pos sdi]

/-- A line without a route (R208). -/
theorem State.unroutedLine_of_sdi (sdi : d < 1024) : s.unroutedLine d line =
    if s.nat (O.sdi_unrouted_content d) = 1 then ⟨.nothing, 0, false, .none, 0⟩
    else ⟨.black, s.ownPayloadId d line, s.edhOn d line, .none, s.sentGroups d⟩ := by
  rw [State.unroutedLine, State.lateLine, if_pos sdi]

theorem State.plainLine_of_sdi (l : LineOut) (sdi : d < 1024) (ready : s.ready = true) (lane : s.laneExists d = true)
    (kind : s.isSdi d = true) : s.plainLine d line l = s.emit (.line d line l) :=
  if_pos ⟨sdi, ready, lane, kind⟩

theorem State.plainLine_of_other (l : LineOut) (other : 1024 ≤ d) : s.plainLine d line l = s :=
  if_neg fun ⟨sdi, _⟩ => absurd sdi (not_lt.2 other)

/-- Timecode is generated on its lines (R210). -/
theorem State.codeOn_of_generated (has : Bool) (mode : s.natNow (O.sdi_tc_mode d) = 1)
    (on : line ∈ (insertLines (s.natNow (O.dst_format d))).2.2) : s.codeOn d line has =
      .generated (s.codeFrames d) (pulled (s.natNow (O.dst_format d)) && s.natNow (O.sdi_tc_drop d) == 1) := by
  simp [State.codeOn, mode, on]

theorem State.dataLine_code (pl : Placement) (sdi : d < 1024) :
    (s.dataLine d line pl).code = s.codeOn d line (!s.sourceSilent pl) := by
  rw [State.dataLine, if_neg (not_le.2 sdi)]

/-- A line of a store whose source is absent gives black, or data of its last frame, as loss_action says (R187). -/
theorem State.dataLine_content_of_silent {pl : Placement} (store : pl.store ≠ none) (silent : s.sourceSilent pl = true) :
    (s.dataLine d line pl).content = if s.nat O.fsync_loss_action = 1 then .black else .data := by
  have stored : pl.store.isSome = true := Option.isSome_iff_ne_none.2 store
  unfold State.dataLine
  simp only [silent, stored, true_and]
  split
  · rfl
  · rfl

end

/-! ## Lines after the first of a frame (R83, R187, R450) -/

section
variable {s : State} (t : Nat) {d line : Nat} (later : line ≠ 1)
include later

theorem exec_linePlayout_of_safe (onTime : Bool) (safe : (s.advance t).safe = true) :
    exec (.linePlayout t d line onTime) s =
      .next (s.closed ((s.advance t).plainLine d line ((s.advance t).safeLine d line))) := by
  rw [exec_linePlayout, execLinePlayout, done_closed]
  simp only [if_neg later, safe, if_true]
  split
  · rfl
  · rfl

theorem exec_linePlayout_of_unrouted (onTime : Bool) (safe : (s.advance t).safe = false) (route : (s.advance t).route ⟨.video, d⟩ = none) :
    exec (.linePlayout t d line onTime) s =
      .next (s.closed ((s.advance t).plainLine d line ((s.advance t).unroutedLine d line))) := by
  rw [exec_linePlayout, execLinePlayout, done_closed]
  simp only [if_neg later, route, safe]
  rfl

variable {r : Route} (route : (s.advance t).route ⟨.video, d⟩ = some r) (safe : (s.advance t).safe = false)
include route safe

theorem exec_linePlayout_of_late : exec (.linePlayout t d line false) s = .next (s.closed ((s.advance t).fillLine d line)) := by
  rw [exec_linePlayout, execLinePlayout, done_closed]
  simp only [if_neg later, route, safe]
  rfl

theorem exec_linePlayout_of_on_time (whole : (s.advance t).broken r.pl = false) (steady : (s.advance t).outputResets d r.pl = false)
    (format : (s.advance t).formatClash d r.pl = false)
    (aligned : (s.advance t).realigning ((s.advance t).nat (O.dst_time_base d)) ((s.advance t).nat (O.dst_format d))
      ((s.advance t).int (O.dst_timing_offset d)) = false)
    (filled : Machine.bit ((s.advance t).mark d) 0 = true) :
    exec (.linePlayout t d line true) s =
      .next (s.closed ((s.advance t).emit (.line d line ((s.advance t).dataLine d line r.pl)))) := by
  rw [exec_linePlayout, execLinePlayout, done_closed]
  simp only [if_neg later, route, safe, whole, steady, format, aligned, filled]
  rfl

end

/-- Settles O40: a source by its timing record; a line after the first by whether the output is in safe state, has a route and is
on time; what a data line holds by `State.dataLine`. -/
theorem sourceEventsComplete : Obligations.SourceEventsComplete := by
  unfold Obligations.SourceEventsComplete
  refine ⟨?frame, ?noFrame, ?inTime, ?absent, ?untimed, ?notSdi, ?plain, ?late, ?onTime, ?code, ?silent⟩
  case frame =>
    rintro s _ t x skew rfl
    exact exec_sourceFrameStart_of_running t skew
  case noFrame =>
    rintro s _ t x skew rfl
    exact exec_sourceFrameStart_of_none t skew
  case inTime =>
    rintro s _ t x r rfl timed early
    rw [exec_sourceAbsent_of_timed t timed, if_pos early]
  case absent =>
    rintro s _ t x r rfl timed long
    rw [exec_sourceAbsent_of_timed t timed, if_neg (not_lt.2 long)]
    exact ⟨_, rfl, State.loseSource_drops ..⟩
  case untimed =>
    rintro s _ t x rfl
    exact exec_sourceAbsent_of_untimed t
  case notSdi =>
    rintro s _ t d line onTime rfl later idle other
    cases safe : (s.advance t).safe with
    | true => rw [exec_linePlayout_of_safe t later onTime safe, State.plainLine_of_other _ _ other]
    | false =>
      have unrouted : (s.advance t).route ⟨.video, d⟩ = none := idle.resolve_right (Bool.eq_false_iff.1 safe)
      rw [exec_linePlayout_of_unrouted t later onTime safe unrouted, State.plainLine_of_other _ _ other]
  case plain =>
    rintro s _ t d line onTime rfl later sdi ready lane kind
    constructor
    · intro safe
      rw [exec_linePlayout_of_safe t later onTime safe, State.plainLine_of_sdi _ _ sdi ready lane kind, State.safeLine_of_sdi _ sdi]
    · intro safe unrouted
      rw [exec_linePlayout_of_unrouted t later onTime safe unrouted, State.plainLine_of_sdi _ _ sdi ready lane kind,
        State.unroutedLine_of_sdi _ sdi]
  case late =>
    rintro s _ t d line r rfl later route safe
    exact exec_linePlayout_of_late t later route safe
  case onTime =>
    rintro s _ t d line r rfl later route safe
    exact exec_linePlayout_of_on_time t later route safe
  case code =>
    intro a d line pl sdi _ mode on
    rw [State.dataLine_code _ _ sdi, State.codeOn_of_generated _ _ mode on]
  case silent => exact fun a d line pl => State.dataLine_content_of_silent line

end Sys2Proof.Machine
end

section
/-! Where the switch instants of a destination lie (R102, R103, R109, R112; log entry 7 for the rounding of instants). -/

namespace Sys2Proof.Machine

/-! ## Alignment instants (R102) -/

theorem frameRate_pos {f : Nat} (low : 1 ≤ f) (high : f ≤ 29) : 0 < (frameRate f).1 ∧ 0 < (frameRate f).2 := by
  have listed : ∀ g < 30, 1 ≤ g → 0 < (frameRate g).1 ∧ 0 < (frameRate g).2 := by decide
  exact listed f (by omega) low

/-- Frame `k` begins at or before an instant exactly where it comes no later than the last frame that does. -/
theorem alignAt_gc {f : Nat} (low : 1 ≤ f) (high : f ≤ 29) : GaloisConnection (alignAt f) (frameIndex f) := by
  intro k u
  obtain ⟨frames, seconds⟩ := frameRate_pos low high
  have period : 0 < nsPerSec * (frameRate f).2 := Nat.mul_pos (by decide) seconds
  calc alignAt f k ≤ u
      ↔ (k * nsPerSec * (frameRate f).2) ⌈/⌉ (frameRate f).1 ≤ u := by rw [alignAt, if_neg frames.ne']; rfl
    _ ↔ k * (nsPerSec * (frameRate f).2) ≤ u * (frameRate f).1 := by
      rw [ceilDiv_le_iff_le_mul frames, Nat.mul_assoc, Nat.mul_comm u]
    _ ↔ k ≤ frameIndex f u := (Nat.le_div_iff_mul_le period).symm

/-! ## Switch instants (R103, R112) -/

/-- The switch instants of a format with an offset that come no earlier than `t`, by the frames that they stand in. -/
def switchInstantsFrom (f : Nat) (off : Int) (t : Nat) : Set Int :=
  { x | (t : Int) ≤ x ∧ ∃ k : Nat, x = alignAt f k + off + switchOffset f }

/-- The instant chosen is the least: its frame is the last one that begins in time, or the next. -/
theorem switchAtOrAfter_isLeast {f : Nat} (low : 1 ≤ f) (high : f ≤ 29) (off : Int) (t : Nat) :
    IsLeast (switchInstantsFrom f off t) (switchAtOrAfter f off t) := by
  have gc := alignAt_gc low high
  generalize hu : ((t : Int) - (off + switchOffset f)).toNat = u
  generalize hn : frameIndex f u = n
  have begun : alignAt f n ≤ u := hn ▸ gc.l_u_le u
  have next : u < alignAt f (n + 1) := not_le.1 fun h => absurd ((gc _ _).1 h) (by omega)
  have chosen : (switchAtOrAfter f off t : Int) =
      if (t : Int) ≤ alignAt f n + (off + switchOffset f) then alignAt f n + (off + switchOffset f)
      else alignAt f (n + 1) + (off + switchOffset f) := by
    unfold switchAtOrAfter
    simp only [hu, hn]
    split
    · omega
    · rw [if_pos (by omega)]
      omega
  rw [chosen]
  split
  · refine ⟨⟨by omega, n, by omega⟩, ?_⟩
    rintro x ⟨late, k, rfl⟩
    omega
  · refine ⟨⟨by omega, n + 1, by omega⟩, ?_⟩
    rintro x ⟨late, k, rfl⟩
    have after : n + 1 ≤ k := by
      by_contra before
      have := gc.monotone_l (show k ≤ n by omega)
      omega
    have := gc.monotone_l after
    omega

/-- Settles O36: the instant chosen is the least of those from t on, and the eligible one is chosen after the arm and the delay. -/
theorem switchInstantIsTheFirstOnTheGrid : Obligations.SwitchInstantIsTheFirstOnTheGrid := by
  unfold Obligations.SwitchInstantIsTheFirstOnTheGrid
  refine ⟨?first, ?later⟩
  case first =>
    intro f t off low high
    obtain ⟨⟨late, frame⟩, least⟩ := switchAtOrAfter_isLeast low high off t
    exact ⟨frame, Int.ofNat_le.1 late, fun k from_t => least ⟨from_t, k, rfl⟩⟩
  case later =>
    intro b arm delay video low high
    have late := (switchAtOrAfter_isLeast low high b.off (arm + delay + 1)).1.1
    rw [Beat.eligible, if_pos video]
    exact Int.ofNat_le.1 late

end Sys2Proof.Machine
end

section
/-! Takes and stores after updates, and what arming leaves alone (R108 to R114). -/

namespace Sys2Proof.Machine

/-! ## One record of a list changed -/

/-- A search for what a change picks out and keeps so finds what it found, changed. -/
theorem find?_map_ite {α : Type} {p : α → Prop} [DecidablePred p] {g : α → α} (keeps : ∀ x, p x → p (g x)) (l : List α) :
    (l.map (fun x => if p x then g x else x)).find? (fun x => decide (p x)) = (l.find? (fun x => decide (p x))).map g := by
  induction l with
  | nil => rfl
  | cons x rest ih =>
    by_cases picked : p x
    · simp [picked, keeps x picked]
    · simpa [picked] using ih

theorem State.takeOf_modTake (s : State) (num : Nat) {f : TakeRec → TakeRec} (keeps : ∀ r, (f r).num = r.num) :
    (s.modTake num f).takeOf num = (s.takeOf num).map f :=
  find?_map_ite (fun r own => (keeps r).trans own) s.sw.takes

theorem State.storeOf_modStore (s : State) (i : Nat) {f : StoreRec → StoreRec} (keeps : ∀ x, (f x).i = x.i) :
    (s.modStore i f).storeOf i = (s.storeOf i).map f :=
  find?_map_ite (fun x own => (keeps x).trans own) s.sw.stores

/-! ## What an item to the twin and a shown state leave alone -/

theorem State.mirror_eq (s : State) (i : MirrorItem) : s.mirror i = { s with out := (s.mirror i).out, twin := (s.mirror i).twin } := by
  unfold State.mirror
  split
  · rfl
  · rfl

@[simp] theorem State.mirror_sw (s : State) (i : MirrorItem) : (s.mirror i).sw = s.sw := by rw [State.mirror_eq]

@[simp] theorem State.showTake_sw (s : State) (slot st : Nat) : (s.showTake slot st).sw = s.sw := by
  unfold State.showTake
  split
  · rfl
  · rfl

@[simp] theorem State.modTake_routes (s : State) (num : Nat) (f : TakeRec → TakeRec) : (s.modTake num f).sw.routes = s.sw.routes := rfl

@[simp] theorem State.arm_routes (s : State) (num : Nat) : (s.arm num).sw.routes = s.sw.routes := by
  unfold State.arm
  split
  · rfl
  · split
    · rfl
    · simp

/-- A take whose path is ready waits all the same: for 1 ms before its instant, or for the pour of its salvo (R112, R143). -/
def State.mustWait (s : State) (r : TakeRec) : Bool :=
  (match r.inst with | some inst => decide (s.tbNow (s.beat r.dst).tb + 1000000 < inst) | none => false) ||
    (match r.part with | some (coord, slot, _) => !s.partPoured coord slot | none => false)

theorem State.pathReady_of_take {s : State} {num : Nat} {r : TakeRec} (found : s.takeOf num = some r) : s.pathReady num =
    if s.mustWait r then (s.modTake num (fun r => { r with state := 3 })).showTake r.slot 3 else s.arm num := by
  rw [State.pathReady, found]
  rfl

@[simp] theorem State.pathReady_routes (s : State) (num : Nat) : (s.pathReady num).sw.routes = s.sw.routes := by
  cases found : s.takeOf num with
  | none => rw [State.pathReady, found]
  | some r =>
    rw [State.pathReady_of_take found]
    split
    · simp
    · simp

end Sys2Proof.Machine
end

section
/-! Frame stores (R108, R111, R183, R184), words of cells and of stacks, scrubs and refresh (R98, R195, R196, R198). -/

namespace Sys2Proof.Machine

/-! ## A store is primed (R108, R111) -/

/-- A store that holds a complete frame is declared so (R108). -/
def State.primeStore (s : State) (i : Nat) : State := s.modStore i (fun x => { x with state := 2 })

/-- What waits for a store goes on once it is primed: takes arm, and unaligned routes move to it. -/
def State.storeServes (s : State) (i : Nat) : State :=
  let s2 := (s.sw.takes.filter (fun r => r.state = 2 ∧ r.pl.bind (fun p => p.store) = some i)).foldl
    (fun st r => st.pathReady r.num) s
  (s2.sw.routes.filter (fun r => r.pl.path = 4 ∧ r.pl.store = some i ∧ !r.follows)).foldl (fun st r =>
    st.startRepl r.dst { r.pl with path := 2, stripes := r.pl.stripes.filter (fun x => x.feed ≠ r.pl.src) }) s2

theorem State.storeServes_of_none {s : State} (i : Nat) (noTakes : s.sw.takes = []) (aligned : ∀ r ∈ s.sw.routes, r.pl.path ≠ 4) :
    s.storeServes i = s := by
  have noRoutes : s.sw.routes.filter (fun r => r.pl.path = 4 ∧ r.pl.store = some i ∧ !r.follows) = [] :=
    List.filter_eq_nil_iff.2 fun r mem waits => aligned r mem (of_decide_eq_true waits).1
  simp only [State.storeServes, noTakes, List.filter_nil, List.foldl_nil, noRoutes]

theorem State.storeServes_of_one {s : State} {i : Nat} {r : TakeRec} (takes : s.sw.takes = [r]) (waits : r.state = 2)
    (reads : r.pl.bind (fun p => p.store) = some i) (noRoutes : s.sw.routes = []) : s.storeServes i = s.pathReady r.num := by
  have one : s.sw.takes.filter (fun r => r.state = 2 ∧ r.pl.bind (fun p => p.store) = some i) = [r] := by
    simp [takes, waits, reads]
  simp only [State.storeServes, one, List.foldl_cons, List.foldl_nil, State.pathReady_routes, noRoutes, List.filter_nil]

section
variable {s : State} (t : Nat) {i : Nat} {x : StoreRec}

theorem exec_storePrimed (i : Nat) (s : State) : exec (.storePrimed t i) s = execStorePrimed t i s := rfl

theorem exec_storePrimed_of_unknown (unknown : (s.advance t).storeOf i = none) :
    exec (.storePrimed t i) s = .next (s.closed (s.advance t)) := by
  rw [exec_storePrimed, execStorePrimed, unknown]
  rfl

theorem exec_storePrimed_of_unready (found : (s.advance t).storeOf i = some x) (unready : x.state ≠ 1 ∨ x.frames = []) :
    exec (.storePrimed t i) s = .next (s.closed (s.advance t)) := by
  have judged : x.state ≠ 1 ∨ x.frames.isEmpty = true := by simpa using unready
  rw [exec_storePrimed, execStorePrimed]
  simp only [found, if_pos judged, done_closed]

theorem exec_storePrimed_of_whole (found : (s.advance t).storeOf i = some x) (priming : x.state = 1) (whole : x.frames ≠ []) :
    exec (.storePrimed t i) s = .next (s.closed (((s.advance t).primeStore i).storeServes i)) := by
  have judged : ¬(x.state ≠ 1 ∨ x.frames.isEmpty = true) := by simp [priming, whole]
  rw [exec_storePrimed, execStorePrimed]
  simp only [found, if_neg judged, done_closed]
  rfl

end

theorem State.storeReady_of_primed {s : State} {i : Nat} {x : StoreRec} (found : s.storeOf i = some x) :
    (s.primeStore i).storeReady i = true := by
  have primed : (s.primeStore i).storeOf i = (s.storeOf i).map (fun x => { x with state := 2 }) :=
    State.storeOf_modStore s i (by simp)
  rw [State.storeReady, primed, found]
  rfl

/-! ## Reads, and deeper stores (R183, R184) -/

theorem exec_storeReadInstant (t d : Nat) (s : State) :
    exec (.storeReadInstant t d) s = .next (s.closed ((s.advance t).readInstant d)) := rfl

section
variable {s : State} {d i : Nat} {r : Route} {x : StoreRec} (route : s.route ⟨.video, d⟩ = some r) (store : r.pl.store = some i)
  (found : s.storeOf i = some x)
include route store found

theorem State.readInstant_of_store : s.readInstant d =
    if (r.pl.path = 2 ∨ r.pl.path = 3) ∧ x.state ≠ 1 then s.readStore d r x else s := by
  simp only [State.readInstant, route, store, Option.bind_some, found]

end

section
variable {s : State} (t : Nat) {i : Nat} {x : StoreRec}

theorem exec_storeDeepenReady (i : Nat) (s : State) : exec (.storeDeepenReady t i) s = execStoreDeepenReady t i s := rfl

theorem exec_storeDeepenReady_of_unknown (unknown : (s.advance t).storeOf i = none) :
    exec (.storeDeepenReady t i) s = .next (s.closed (s.advance t)) := by
  rw [exec_storeDeepenReady, execStoreDeepenReady, unknown]
  rfl

theorem exec_storeDeepenReady_of_alone (found : (s.advance t).storeOf i = some x) (alone : x.deeper = none) :
    exec (.storeDeepenReady t i) s = .next (s.closed (s.advance t)) := by
  rw [exec_storeDeepenReady, execStoreDeepenReady, found]
  simp only [alone, Option.bind_none, done_closed]

theorem exec_storeDeepenReady_of_primed {j : Nat} {y : StoreRec} (found : (s.advance t).storeOf i = some x) (heir : x.deeper = some j)
    (deeper : (s.advance t).storeOf j = some y) (whole : y.frames ≠ []) (primed : y.state ≠ 1) :
    exec (.storeDeepenReady t i) s =
      .next (s.closed (((s.advance t).readers i).foldl (fun st d => st.askReplace d) (s.advance t))) := by
  have holds : ¬y.frames.isEmpty = true := by simpa using whole
  rw [exec_storeDeepenReady, execStoreDeepenReady, found]
  simp only [heir, Option.bind_some, deeper, if_neg holds, if_neg primed, done_closed]

end

/-! ## Words of cells and of stacks (R98, R195) -/

theorem State.withInjection_of_none {s : State} (unarmed : s.faults.inject = none) (target unit word : Nat) (f : State → Nat → State) :
    s.withInjection target unit word f = f s word := by
  rw [State.withInjection, unarmed]

section
variable {s : State} (t plane inTile outTile word d : Nat) (kind3 : Bool)

theorem exec_fabricCellError (s : State) : exec (.fabricCellError t plane inTile outTile word kind3 d) s =
    execFabricCellError t plane inTile outTile word kind3 d s := rfl

theorem exec_fabricCellError_of_unarmed (unarmed : (s.advance t).faults.inject = none) :
    exec (.fabricCellError t plane inTile outTile word kind3 d) s =
      .next (s.closed ((s.advance t).cellWord plane outTile d kind3 word)) := by
  rw [exec_fabricCellError, execFabricCellError, done_closed, State.withInjection_of_none unarmed]

variable {word d} {kind3}

theorem State.cellWord_of_good (good : decodeWord word = .good) : s.cellWord plane outTile d false word = s := by
  simp [State.cellWord, good]

theorem State.cellWord_of_corrected {j : Nat} (corrected : decodeWord word = .corrected j) :
    s.cellWord plane outTile d false word = s.strike (F.fabricCorrected outTile) plane d := by
  simp [State.cellWord, corrected]

theorem State.cellWord_of_lost (lost : kind3 = true ∨ decodeWord word = .uncorrectable) (video : d < 3072) :
    s.cellWord plane outTile d kind3 word = ((s.strike (F.fabricDiscard outTile) plane d).noteDiscard plane).fillLine d 0 := by
  rw [State.cellWord, if_pos lost]
  exact if_pos video

end

section
variable {s : State} (t k addr word use d : Nat)

theorem exec_hbmWordError : exec (.hbmWordError t k addr word use d) s = .next (s.closed (if 4 ≤ k then s.advance t else
    (s.advance t).withInjection 2 k word (fun st w => st.hbmWord k addr use d w))) := rfl

theorem exec_hbmWordError_of_absent (absent : 4 ≤ k) :
    exec (.hbmWordError t k addr word use d) s = .next (s.closed (s.advance t)) := by
  rw [exec_hbmWordError, if_pos absent]

theorem exec_hbmWordError_of_unarmed (known : k < 4) (unarmed : (s.advance t).faults.inject = none) :
    exec (.hbmWordError t k addr word use d) s = .next (s.closed ((s.advance t).hbmWord k addr use d word)) := by
  rw [exec_hbmWordError, if_neg (not_le.2 known), State.withInjection_of_none unarmed]

variable {word}

theorem State.hbmWord_of_good (good : decodeWord word = .good) : s.hbmWord k addr use d word = s := by
  rw [State.hbmWord, good]

theorem State.hbmWord_of_corrected {j : Nat} (corrected : decodeWord word = .corrected j) :
    s.hbmWord k addr use d word = (s.count (O.hbm_corrected k)).strike F.hbmCorrected k addr := by
  rw [State.hbmWord, corrected]

end

/-! ## Scrubs and refresh (R196, R198) -/

/-- A stack's temperature, and the refresh mode that it asks for. -/
def State.setRefresh (s : State) (k : Nat) (temp : Int) : State :=
  (s.setI (O.hbm_temperature k) temp).setN (O.hbm_refresh_mode k) (b01 (85 < temp))

section
variable (s : State) (t k : Nat) (temp : Int)

theorem exec_hbmScrubPeriod : exec (.hbmScrubPeriod t k) s = .next (s.closed (if 4 ≤ k then s.advance t else
    (s.advance t).setN (O.hbm_scrub_progress k) 0)) := rfl

theorem exec_refreshModeChange : exec (.refreshModeChange t k temp) s = .next (s.closed (if 4 ≤ k then s.advance t else
    (s.advance t).setRefresh k temp)) := rfl

theorem State.get_setRefresh (key : Key) : (s.setRefresh k temp).get key =
    if key = O.hbm_refresh_mode k then .n (b01 (85 < temp)) else if key = O.hbm_temperature k then .n temp else s.get key := by
  rw [State.setRefresh, State.get_setN, State.setI, State.get_set]

theorem State.setRefresh_shows : (s.setRefresh k temp).int (O.hbm_temperature k) = temp ∧
    (s.setRefresh k temp).nat (O.hbm_refresh_mode k) = (if 85 < temp then 1 else 0) ∧
    ∀ key, key ≠ O.hbm_temperature k → key ≠ O.hbm_refresh_mode k → (s.setRefresh k temp).get key = s.get key := by
  refine ⟨?_, ?_, fun key other apart => ?_⟩
  · simp [State.int, State.get_setRefresh, Val.int]
  · rw [State.setRefresh, State.nat_setN_same, b01]
    simp
  · rw [State.get_setRefresh, if_neg apart, if_neg other]

end

/-- Settles O41: each event is handed to its operation, by whether the store, the stack or the injection that it names is there. -/
theorem storeEventsComplete : Obligations.StoreEventsComplete := by
  unfold Obligations.StoreEventsComplete
  refine ⟨⟨?unready, ?nothingWaits, ?oneWaits, ?reads, ?readsStore, ?readsNothing, ?deepens, ?alone, ?unknown⟩,
    ?goodCell, ?correctedCell, ?lostCell, ?goodWord, ?correctedWord, ?noWord, ?scrub, ?refresh, ?noStack⟩
  case unready =>
    rintro s _ t i x rfl
    exact exec_storePrimed_of_unready t
  case nothingWaits =>
    rintro s _ t i x rfl found priming whole noTakes aligned
    rw [exec_storePrimed_of_whole t found priming whole, State.storeServes_of_none (s := (s.advance t).primeStore i) i noTakes aligned]
    exact ⟨rfl, State.storeReady_of_primed found⟩
  case oneWaits =>
    rintro s _ t i x r rfl found priming whole takes waits reads noRoutes
    rw [exec_storePrimed_of_whole t found priming whole,
      State.storeServes_of_one (s := (s.advance t).primeStore i) takes waits reads noRoutes]
    rfl
  case reads =>
    rintro s _ t d rfl
    exact exec_storeReadInstant t d s
  case readsStore =>
    intro a d i r x route store found path primed
    rw [State.readInstant_of_store route store found, if_pos ⟨.inl path, primed⟩]
  case readsNothing =>
    intro a d i r x route store found priming
    rw [State.readInstant_of_store route store found, if_neg fun ⟨_, primed⟩ => primed priming]
  case deepens =>
    rintro s _ t i j x y rfl
    exact exec_storeDeepenReady_of_primed t
  case alone =>
    rintro s _ t i x rfl
    exact exec_storeDeepenReady_of_alone t
  case unknown =>
    rintro s _ t i rfl unknown
    exact ⟨exec_storePrimed_of_unknown t unknown, exec_storeDeepenReady_of_unknown t unknown⟩
  case goodCell =>
    rintro s _ t plane inTile outTile word d rfl unarmed good
    rw [exec_fabricCellError_of_unarmed _ _ _ _ _ _ _ unarmed, State.cellWord_of_good _ _ good]
  case correctedCell =>
    rintro s _ t plane inTile outTile word d j rfl unarmed corrected
    rw [exec_fabricCellError_of_unarmed _ _ _ _ _ _ _ unarmed, State.cellWord_of_corrected _ _ corrected]
  case lostCell =>
    rintro s _ t plane inTile outTile word d kind3 rfl unarmed lost video
    rw [exec_fabricCellError_of_unarmed _ _ _ _ _ _ _ unarmed, State.cellWord_of_lost _ _ lost video]
  case goodWord =>
    rintro s _ t k addr word use d rfl known unarmed good
    rw [exec_hbmWordError_of_unarmed _ _ _ _ _ _ known unarmed, State.hbmWord_of_good _ _ _ _ good]
  case correctedWord =>
    rintro s _ t k addr word use d j rfl known unarmed corrected
    rw [exec_hbmWordError_of_unarmed _ _ _ _ _ _ known unarmed, State.hbmWord_of_corrected _ _ _ _ corrected]
  case noWord =>
    rintro s _ t k addr word use d rfl
    exact exec_hbmWordError_of_absent t k addr word use d
  case scrub =>
    rintro s _ t k rfl known
    rw [exec_hbmScrubPeriod, if_neg (not_le.2 known)]
  case refresh =>
    rintro s _ t k temp rfl known
    rw [exec_refreshModeChange, if_neg (not_le.2 known)]
    exact ⟨_, rfl, State.setRefresh_shows ..⟩
  case noStack =>
    rintro s _ t k temp rfl absent
    rw [exec_hbmScrubPeriod, exec_refreshModeChange, if_pos absent, if_pos absent]
    exact ⟨rfl, rfl⟩

end Sys2Proof.Machine
end

section
/-! The placer, and takes on their way to the switch (R109, R112, R143, R152, R165, R167). -/

namespace Sys2Proof.Machine

/-! ## The placer takes up a task, and completes it (R152, R167) -/

section
variable {s : State} (t : Nat)

theorem exec_placerTaskStart (s : State) : exec (.placerTaskStart t) s = execPlacerTaskStart t s := rfl

theorem exec_placerTaskStart_of_free {task : Task} (free : (s.advance t).placer.running = none) (chooses : (s.advance t).standby = false)
    (next : (s.advance t).nextTask = some task) :
    exec (.placerTaskStart t) s = .next (s.closed ((s.advance t).startHeaded task)) := by
  rw [exec_placerTaskStart, execPlacerTaskStart]
  simp only [free, chooses, next, Bool.false_eq_true, if_false, done_closed]

theorem exec_placerTaskStart_of_busy (busy : (s.advance t).placer.running ≠ none) :
    exec (.placerTaskStart t) s = .next (s.closed (s.advance t)) := by
  obtain ⟨task, running⟩ := Option.ne_none_iff_exists'.1 busy
  rw [exec_placerTaskStart, execPlacerTaskStart]
  simp only [running, done_closed]

theorem exec_placerTaskStart_of_idle (idle : (s.advance t).standby = true ∨ (s.advance t).nextTask = none) :
    exec (.placerTaskStart t) s = .next (s.closed (s.advance t)) := by
  have nothing : (if (s.advance t).standby then none else (s.advance t).nextTask) = none := by
    rcases idle with standby | empty
    · rw [if_pos standby]
    · rw [empty, ite_self]
  rw [exec_placerTaskStart, execPlacerTaskStart]
  simp only [nothing, done_closed]
  cases (s.advance t).placer.running with
  | none => rfl
  | some _ => rfl

theorem exec_placementComplete (s : State) : exec (.placementComplete t) s = execPlacementComplete t s := rfl

theorem exec_placementComplete_of_running {task : Task} {v : Verdict} (running : (s.advance t).placer.running = some (task, v)) :
    exec (.placementComplete t) s = .next (s.closed (((s.advance t).completeHeaded task v).reviewMembers)) := by
  rw [exec_placementComplete, execPlacementComplete]
  simp only [running, done_closed]

theorem exec_placementComplete_of_free (free : (s.advance t).placer.running = none) :
    exec (.placementComplete t) s = .next (s.closed (s.advance t)) := by
  rw [exec_placementComplete, execPlacementComplete]
  simp only [free, done_closed]

end

theorem State.completeHeaded_of_refused_take {s : State} {n : Nat} {r : TakeRec} (code detail i : Nat)
    (found : s.taskOver.takeOf n = some r) :
    s.completeHeaded (.take n) (.refused code detail i) = s.taskOver.refuseTake r (code, detail) := by
  simp only [State.completeHeaded, State.completeTask, State.completeRefused, found]

/-- A task that is taken up runs, and waits no more; only a restoration may run as another (R173, R176). -/
theorem State.startTask_runs (s : State) {task : Task} (notRestore : ∀ d, task ≠ .restore d) :
    ∃ v, (s.startTask task).placer.running = some (task, v) ∧ task ∉ (s.startTask task).placer.queue := by
  have same (u : State) : u.restoreTask task = (u, task) := by
    cases task with
    | restore d => exact absurd rfl (notRestore d)
    | _ => rfl
  unfold State.startTask
  simp only [same]
  refine List.foldlRecOn _ _ (motive := fun st : State =>
    ∃ v, st.placer.running = some (task, v) ∧ task ∉ st.placer.queue) ⟨_, rfl, by simp⟩ fun st runs r _ => ?_
  split
  · exact runs
  · split
    · split
      · exact runs
      · exact runs
    · exact runs

/-! ## Arming (R112, R143) -/

theorem exec_timedTakeArm (t slot : Nat) (s : State) : exec (.timedTakeArm t slot) s = .next (s.closed
    (((s.advance t).sw.takes.filter (fun r => r.slot = slot ∧ r.state = 3)).foldl (fun st r => st.pathReady r.num) (s.advance t))) := rfl

theorem State.pathReady_of_timed {s : State} {num inst : Nat} {r : TakeRec} (found : s.takeOf num = some r) (single : r.part = none)
    (timed : r.inst = some inst) : s.pathReady num = if s.tbNow (s.beat r.dst).tb + 1000000 < inst
      then (s.modTake num (fun r => { r with state := 3 })).showTake r.slot 3 else s.arm num := by
  have wait : s.mustWait r = decide (s.tbNow (s.beat r.dst).tb + 1000000 < inst) := by simp [State.mustWait, single, timed]
  rw [State.pathReady_of_take found, wait]
  simp only [decide_eq_true_eq]

theorem State.takeOf_congr {a b : State} (same : a.sw = b.sw) (num : Nat) : a.takeOf num = b.takeOf num := by
  rw [State.takeOf, State.takeOf, same]

theorem State.takeOf_arm {s : State} {num : Nat} {r : TakeRec} {pl : Placement} (found : s.takeOf num = some r)
    (placed : r.pl = some pl) (noScaler : ¬(r.dst.ess = .video ∧ 3072 ≤ r.dst.idx)) :
    (s.arm num).takeOf num = some { r with state := 4, switchAt := some (s.switchInstantFor r pl) } := by
  unfold State.arm
  simp only [found, placed, if_neg noScaler]
  rw [State.takeOf_congr ((State.mirror_sw ..).trans (State.showTake_sw ..)), State.takeOf_modTake s num (by simp), found]
  simp [placed]

/-! ## Switching (R109, R175) -/

theorem exec_switchInstant (t : Nat) (d : Dst) (s : State) :
    exec (.switchInstant t d) s = .next (s.closed (((s.advance t).switchInstant d).reviewDones.reviewMembers)) := rfl

theorem putRoute_of_new {l : List Route} {r : Route} (new : l.find? (fun x => x.dst = r.dst) = none) : putRoute l r = l ++ [r] := by
  have absent : l.any (fun x => x.dst = r.dst) = false := by simpa using new
  rw [putRoute, absent]
  rfl

theorem State.route_changeOver_of_new {s : State} {d : Dst} (pl : Placement) (unrouted : s.route d = none) :
    (s.changeOver d pl).route d = some ⟨d, pl, [], false, false⟩ := by
  have routes : (s.changeOver d pl).sw.routes = s.sw.routes ++ [⟨d, pl, [], false, false⟩] := by
    unfold State.changeOver
    simp only [unrouted]
    exact putRoute_of_new unrouted
  have before : s.sw.routes.find? (fun r => r.dst = d) = none := unrouted
  simp [State.route, routes, List.find?_append, before]

end Sys2Proof.Machine
end

section
/-! Parts of cross-chip routes at a chip (R173, R174), and what a head does for such a route (R153, R173; log entry 76). -/

namespace Sys2Proof.Machine

/-! ## Reserves (R173, R174) -/

@[simp] theorem State.showAsrc_placer (s : State) (a : AsrcBook) (inUse : Bool) : (s.showAsrc a inUse).placer = s.placer := by
  unfold State.showAsrc
  split
  · simp only [State.setN_placer]
  · simp only [State.setN_placer]

theorem State.sweepAsrc_reserves (s : State) : s.sweepAsrc.placer.reserves = s.placer.reserves :=
  List.foldlRecOn _ _ (motive := fun st : State => st.placer.reserves = s.placer.reserves) rfl
    fun _ kept _ _ => (congrArg Placer.reserves (State.showAsrc_placer ..)).trans kept

theorem State.sweep_reserves (s : State) : s.sweep.placer.reserves = s.placer.reserves :=
  List.foldlRecOn _ _ (motive := fun st : State => st.placer.reserves = s.placer.reserves) s.sweepStores.sweepAsrc_reserves
    fun _ kept _ _ => List.foldlRecOn _ _ (motive := fun st : State => st.placer.reserves = s.placer.reserves) kept fun _ kept _ _ => kept

@[simp] theorem State.enqueue_reserves (s : State) (task : Task) : (s.enqueue task).placer.reserves = s.placer.reserves := by
  unfold State.enqueue
  split
  · rfl
  · rfl

theorem State.retryLost_reserves (s : State) : s.retryLost.placer.reserves = s.placer.reserves :=
  List.foldlRecOn _ _ (motive := fun st : State => st.placer.reserves = s.placer.reserves) rfl
    fun _ kept _ _ => (State.enqueue_reserves ..).trans kept

theorem State.reserveOf_congr {a b : State} (same : a.placer.reserves = b.placer.reserves) (head ident : Nat) :
    a.reserveOf head ident = b.reserveOf head ident := by
  rw [State.reserveOf, State.reserveOf, same]

theorem State.reserveOf_dropReserve (s : State) (head ident : Nat) : (s.dropReserve head ident).reserveOf head ident = none :=
  List.find?_eq_none.2 fun _ kept own => of_decide_eq_true (List.mem_filter.1 kept).2 (of_decide_eq_true own)

theorem State.releaseReserve_of_none {s : State} {head ident : Nat} (unheld : s.reserveOf head ident = none) :
    s.releaseReserve head ident = s := by
  rw [State.releaseReserve, unheld]
  rfl

theorem State.reserveOf_releaseReserve (s : State) (head ident : Nat) : (s.releaseReserve head ident).reserveOf head ident = none := by
  cases held : s.reserveOf head ident with
  | none => rw [State.releaseReserve_of_none held, held]
  | some r =>
    rw [State.releaseReserve, held]
    exact (State.reserveOf_congr ((State.retryLost_reserves _).trans (State.sweep_reserves _)) head ident).trans
      (State.reserveOf_dropReserve ..)

theorem State.mem_queue_enqueue {s : State} (task : Task) (chooses : s.standby = false) : task ∈ (s.enqueue task).placer.queue := by
  unfold State.enqueue
  rw [chooses, Bool.false_or]
  split
  · exact List.contains_iff_mem.1 ‹_›
  · simp

/-- The placement of a part, with the lanes by which the route comes and leaves. -/
def State.meshPart (s : State) (part : Placement) (meshIn meshOut mbps : Nat) : Placement :=
  { part with dst := s.normId part.dst, src := s.normId part.src,
              lanes := ([meshIn, meshOut].filter (fun l => l < 1024)).map (fun l => (l, mbps)) }

section
variable {s : State} (t head ident : Nat)

theorem exec_crossChipReserve (part : Placement) (meshIn meshOut mbps : Nat) :
    exec (.crossChipReserve t head ident part meshIn meshOut mbps) s = .next (s.closed
      (if 256 ≤ (s.advance t).queued then (s.advance t).answerReserve head ident (C.busy, 0)
        else (s.advance t).enqueue (.reserve head ident ((s.advance t).meshPart part meshIn meshOut mbps)))) := rfl

theorem State.meshPart_lanes_of_end {meshIn meshOut : Nat} (part : Placement) (mbps : Nat) (arrives : meshIn < 1024)
    (ends : 1024 ≤ meshOut) : (s.meshPart part meshIn meshOut mbps).lanes = [(meshIn, mbps)] := by
  simp [State.meshPart, arrives, ends]

theorem exec_reserveConfirm (confirm : Bool) : exec (.reserveConfirm t head ident confirm) s = .next (s.closed
    (if confirm then ((s.advance t).confirmReserve head ident).reviewParts else (s.advance t).releaseReserve head ident)) := rfl

theorem exec_reserveTimeout (s : State) : exec (.reserveTimeout t head ident) s = execReserveTimeout t head ident s := rfl

theorem exec_reserveTimeout_of_held {r : Reserve} (held : (s.advance t).reserveOf head ident = some r) :
    exec (.reserveTimeout t head ident) s = .next (s.closed (if r.confirmed = false ∧ r.since + 10000000 ≤ (s.advance t).now
      then (s.advance t).releaseReserve head ident else s.advance t)) := by
  rw [exec_reserveTimeout, execReserveTimeout]
  simp only [held, Bool.not_eq_true', done_closed]

theorem exec_reserveTimeout_of_none (unheld : (s.advance t).reserveOf head ident = none) :
    exec (.reserveTimeout t head ident) s = .next (s.closed (s.advance t)) := by
  rw [exec_reserveTimeout, execReserveTimeout]
  simp only [unheld, done_closed]

end

/-! ## Paths over the mesh (R153) -/

/-- The hops lead from one chip to another: each leaves the chip that the one before it comes to. -/
def Leads (target : Nat) : Nat → List MeshHop → Prop
  | a, [] => a = target
  | a, h :: rest => h.chip = a ∧ Leads target h.next rest

theorem Leads.head_chip {target a : Nat} {p : List MeshHop} (leads : Leads target a p) (nonempty : 1 ≤ p.length) :
    p.head?.map (fun h => h.chip) = some a := by
  cases p with
  | nil => simp at nonempty
  | cons h rest => simp [leads.1]

theorem Leads.last_next {target a : Nat} {p : List MeshHop} (leads : Leads target a p) (nonempty : 1 ≤ p.length) :
    p.getLast?.map (fun h => h.next) = some target := by
  induction p generalizing a with
  | nil => simp at nonempty
  | cons h rest ih =>
    cases rest with
    | nil => simpa [Leads] using leads.2
    | cons k more => simpa using ih leads.2 (by simp)

/-- A walk of n hops leads to its target over hops that the search offers. -/
theorem meshWalks_leads {chips : List Nat} {hop : Nat → Nat → Option MeshHop} {target : Nat}
    (ends : ∀ a b h, hop a b = some h → h.chip = a ∧ h.next = b) {n a : Nat} {seen : List Nat} {p : List MeshHop}
    (walk : p ∈ meshWalks chips hop target n a seen) :
    p.length = n ∧ Leads target a p ∧ ∀ h ∈ p, hop h.chip h.next = some h := by
  induction n generalizing a seen p with
  | zero =>
    by_cases there : a = target
    · simp only [meshWalks, if_pos there, List.mem_singleton] at walk
      subst walk
      exact ⟨rfl, there, by simp⟩
    · simp [meshWalks, there] at walk
  | succ n ih =>
    by_cases there : a = target
    · simp [meshWalks, there] at walk
    · simp only [meshWalks, if_neg there, List.mem_flatMap] at walk
      obtain ⟨b, -, walk⟩ := walk
      split at walk
      · simp at walk
      · split at walk
        · simp at walk
        · next h offered =>
          obtain ⟨rest, onward, rfl⟩ := List.mem_map.1 walk
          obtain ⟨rfl, rfl⟩ := ends _ _ _ offered
          obtain ⟨length, leads, offers⟩ := ih onward
          exact ⟨by simp [length], ⟨rfl, leads⟩, List.forall_mem_cons.2 ⟨offered, offers⟩⟩

theorem mem_of_minBy {α : Type} {f : α → Nat} {l : List α} {x : α} (least : minBy f l = some x) : x ∈ l := by
  induction l with
  | nil => simp [minBy] at least
  | cons y rest ih =>
    rw [minBy] at least
    split at least
    · simp_all
    · next z found =>
      split at least
      · cases least
        exact .tail _ (ih found)
      · cases least
        exact .head _

/-- A hop leaves over a matched link of its chip that has room. -/
theorem State.hopOver_spec {s : State} {mbps a b : Nat} {h : MeshHop} (hop : s.hopOver mbps a b = some h) :
    (h.chip = a ∧ h.next = b) ∧ s.hopMatched h.chip h.out h.next h.inn = true ∧ (h.out, h.next, h.inn) ∈ s.linksOf h.chip ∧
      (s.laneLedger h.chip h.out).1 + mbps ≤ (s.laneLedger h.chip h.out).2 := by
  obtain ⟨x, least, rfl⟩ := Option.map_eq_some_iff.1 hop
  obtain ⟨link, fits⟩ := List.mem_filter.1 (mem_of_minBy least)
  obtain ⟨rfl, matched, room⟩ := of_decide_eq_true fits
  exact ⟨⟨rfl, rfl⟩, matched, link, room⟩

theorem State.mem_meshPaths {s : State} {g mbps limit src dst : Nat} {p : List MeshHop} (path : p ∈ s.meshPaths g mbps limit src dst) :
    ∃ n < limit, p ∈ meshWalks (s.groupChips g) (s.hopOver mbps) dst (n + 1) src [src] := by
  dsimp only [State.meshPaths] at path
  split at path
  · obtain ⟨n, short, walk⟩ := List.mem_flatMap.1 (List.mem_of_mem_take path)
    exact ⟨n, List.mem_range.1 short, walk⟩
  · simp at path

theorem State.length_meshPaths_le (s : State) (g mbps limit src dst : Nat) : (s.meshPaths g mbps limit src dst).length ≤ 8 := by
  dsimp only [State.meshPaths]
  split
  · exact List.length_take_le ..
  · simp

/-! ## The head's exchange (R173) -/

theorem State.foldl_emit {α : Type} (f : α → Out) (l : List α) (s : State) :
    l.foldl (fun st x => st.emit (f x)) s = { s with out := s.out ++ l.map f } := by
  induction l generalizing s with
  | nil => simp
  | cons x rest ih =>
    rw [List.foldl_cons, ih]
    simp [State.emit]

theorem State.coordinate_of_other_head {s : State} (asker dst src mbps limit : Nat)
    (other : ∀ g, s.commonGroup (pairOf (idChip dst)) (pairOf (idChip src)) = some g → s.headOf g ≠ s.chipId) :
    s.coordinate asker dst src mbps limit = s.refuseRoute asker dst (C.busy, 12) := by
  unfold State.coordinate
  split
  · rfl
  · next g common => exact if_pos (other g common)

section
variable {s : State} {chip ident : Nat} {r : HeadRoute} {parts : List RoutePart} {rest : List (List RoutePart)} {p : RoutePart}

theorem State.askPart_of_part (cands : r.cands = parts :: rest) (next : parts[r.got]? = some p) : s.askPart r =
    s.emit (.notice p.chip (.routeReserve s.chipId r.ident r.dst r.src p.inn p.out r.mbps (parts.length - 1))) := by
  simp only [State.askPart, cands, next]

theorem State.refuseRoute_of_far {asker : Nat} (dst : Nat) (why : Refuse) (far : asker ≠ s.chipId) :
    s.refuseRoute asker dst why = s.emit (.notice asker (.routeResult dst why.1 why.2)) :=
  if_neg far

/-- The last candidate fails: what it had reserved is released, and the asker learns why. -/
theorem State.nextCandidate_of_last (why : Refuse) (cands : r.cands = [parts]) (far : r.asker ≠ s.chipId) :
    s.nextCandidate r why = { s.dropHeadRoute r.ident with
      out := s.out ++ (parts.take r.got).map (fun q => .notice q.chip (.routeConfirm s.chipId r.ident false)) ++
        [.notice r.asker (.routeResult r.dst why.1 why.2)] } := by
  simp only [State.nextCandidate, cands, List.drop_succ_cons, List.drop_zero]
  rw [State.foldl_emit (fun p : RoutePart => .notice p.chip (.routeConfirm s.chipId r.ident false))]
  exact State.refuseRoute_of_far _ _ far

variable (found : s.headRoute ident = some r) (cands : r.cands = parts :: rest) (asked : parts[r.got]? = some p) (own : p.chip = chip)
include found cands asked own

/-- The answer of the chip that was asked. -/
theorem State.partAnswered_of_asked (why : Refuse) : s.partAnswered chip ident why =
    if why.1 ≠ 0 then s.nextCandidate r why
    else if r.got + 1 = parts.length then
      parts.foldl (fun st p => st.emit (.notice p.chip (.routeConfirm s.chipId ident true))) (s.dropHeadRoute ident)
    else (s.putHeadRoute { r with got := r.got + 1 }).askPart { r with got := r.got + 1 } := by
  have answers : ¬(parts[r.got]?).map (fun p => p.chip) ≠ some chip := by simp [asked, own]
  simp only [State.partAnswered, found, cands, if_neg answers]

theorem State.partAnswered_asks_next (detail : Nat) (more : r.got + 1 < parts.length) :
    ∃ q, parts[r.got + 1]? = some q ∧ s.partAnswered chip ident (0, detail) = (s.putHeadRoute { r with got := r.got + 1 }).emit
      (.notice q.chip (.routeReserve s.chipId r.ident r.dst r.src q.inn q.out r.mbps (parts.length - 1))) := by
  have next := List.getElem?_eq_getElem more
  refine ⟨_, next, ?_⟩
  rw [State.partAnswered_of_asked found cands asked own, if_neg (by simp), if_neg more.ne]
  exact State.askPart_of_part cands next

theorem State.partAnswered_confirms (detail : Nat) (all : r.got + 1 = parts.length) : s.partAnswered chip ident (0, detail) =
    { s.dropHeadRoute ident with out := s.out ++ parts.map (fun q => .notice q.chip (.routeConfirm s.chipId ident true)) } := by
  rw [State.partAnswered_of_asked found cands asked own, if_neg (by simp), if_pos all]
  exact State.foldl_emit (fun q : RoutePart => .notice q.chip (.routeConfirm s.chipId ident true)) ..

end

/-! ## A chip that is its own head (R173) -/

theorem State.startHeaded_of_local {s : State} {task : Task}
    (near : ∀ r ∈ (s.startTask task).startedTakes, (s.startTask task).idHere r.src = true) : s.startHeaded task = s.startTask task :=
  List.foldlRecOn _ _ (motive := fun st => st = s.startTask task) rfl fun st same r mem => by
    subst same
    exact if_neg fun ⟨_, far⟩ => by simp [near r mem] at far

theorem State.completeHeaded_of_other {s : State} {task : Task} (v : Verdict)
    (other : ∀ ident pl, task ≠ .reserve (s.completeTask task v).chipId ident pl) :
    s.completeHeaded task v = s.completeTask task v := by
  cases task with
  | reserve head ident pl => exact if_neg fun own => other ident pl (by rw [← own])
  | _ => rfl

/-- Settles O37: each event by whether what it names is there; paths by the walks that the search collects; the head's answers by
how many parts are reserved. -/
theorem takeAndCrossChipEventsComplete : Obligations.TakeAndCrossChipEventsComplete := by
  unfold Obligations.TakeAndCrossChipEventsComplete
  refine ⟨⟨?starts, ?idles, ?runs, ?completes, ?refuses, ?nothing, ?timed, ?ready, ?arms, ?switches, ?changes⟩,
    ⟨?full, ?joins, ?confirm, ?released, ?timeout, ?noReserve⟩,
    ?paths, ?eight, ?notHead, ?asks, ?confirms, ?fails, ?near, ?others⟩
  case starts =>
    rintro s _ t task rfl
    exact exec_placerTaskStart_of_free t
  case idles =>
    rintro s _ t rfl (busy | idle)
    · exact exec_placerTaskStart_of_busy t busy
    · exact exec_placerTaskStart_of_idle t idle
  case runs => exact fun a task => a.startTask_runs
  case completes =>
    rintro s _ t task v rfl
    exact exec_placementComplete_of_running t
  case refuses =>
    rintro s _ t n code detail i r rfl running found
    rw [exec_placementComplete_of_running t running, State.completeHeaded_of_refused_take code detail i found]
  case nothing =>
    rintro s _ t rfl
    exact exec_placementComplete_of_free t
  case timed =>
    rintro s _ t slot rfl
    exact exec_timedTakeArm t slot s
  case ready => exact fun a num inst r => State.pathReady_of_timed
  case arms => exact fun a num r pl => State.takeOf_arm
  case switches =>
    rintro s _ t d rfl
    exact exec_switchInstant t d s
  case changes => exact fun a d src pl unrouted _ => State.route_changeOver_of_new pl unrouted
  case full =>
    rintro s _ t head ident meshIn meshOut mbps part rfl full
    rw [exec_crossChipReserve, if_pos full, State.answerReserve]
    split
    · next own => rw [own]
    · rfl
  case joins =>
    rintro s _ t head ident meshIn meshOut mbps part rfl room chooses arrives ends
    rw [exec_crossChipReserve, if_neg (not_le.2 room)]
    exact ⟨_, _, rfl, State.mem_queue_enqueue _ chooses, State.meshPart_lanes_of_end part mbps arrives ends, rfl⟩
  case confirm =>
    rintro s _ t head ident rfl
    exact ⟨rfl, rfl⟩
  case released => exact State.reserveOf_releaseReserve
  case timeout =>
    rintro s _ t head ident r rfl
    exact exec_reserveTimeout_of_held t head ident
  case noReserve =>
    rintro s _ t head ident rfl unheld
    refine ⟨exec_reserveTimeout_of_none t head ident unheld, ?_⟩
    rw [exec_reserveConfirm, State.releaseReserve_of_none unheld]
    rfl
  case paths =>
    intro a g mbps limit src dst p path
    obtain ⟨n, short, walk⟩ := State.mem_meshPaths path
    obtain ⟨length, leads, hops⟩ := meshWalks_leads (fun _ _ _ hop => (State.hopOver_spec hop).1) walk
    have nonempty : 1 ≤ p.length := by omega
    exact ⟨nonempty, by omega, leads.head_chip nonempty, leads.last_next nonempty, fun h mem => (State.hopOver_spec (hops h mem)).2⟩
  case eight => exact State.length_meshPaths_le
  case notHead => exact fun a asker dst src mbps limit => State.coordinate_of_other_head asker dst src mbps limit
  case asks =>
    intro a chip ident detail r parts rest p found cands asked own
    exact State.partAnswered_asks_next found cands asked own detail
  case confirms =>
    intro a chip ident detail r parts rest p found cands asked own
    exact State.partAnswered_confirms found cands asked own detail
  case fails =>
    rintro a chip _ code detail r parts p found rfl cands asked own refused far
    rw [State.partAnswered_of_asked found cands asked own, if_pos refused, State.nextCandidate_of_last _ cands far]
  case near => exact fun a task => State.startHeaded_of_local
  case others => exact fun a task v => State.completeHeaded_of_other v

end Sys2Proof.Machine
end

section
/-! Parts of salvos at a member: how they arrive, are poured, dropped, and lost contact with (R139, R143, R144, R148). -/

namespace Sys2Proof.Machine

section
variable (t coord slot : Nat)

theorem exec_salvoPartArrival (gen : Nat) (es : List (TakeEntry × Nat)) (s : State) :
    exec (.salvoPartArrival t coord slot gen es) s = execSalvoPartArrival t coord slot gen es s := rfl

theorem exec_pourNotice (e tb : Nat) (s : State) : exec (.pourNotice t coord slot e tb) s =
    .next (s.closed (((s.advance t).pourPart coord slot e tb).reviewDones)) := rfl

theorem exec_salvoDropNotice (s : State) : exec (.salvoDropNotice t coord slot) s = execSalvoDropNotice t coord slot s := rfl

theorem exec_salvoMemberQuery (s : State) : exec (.salvoMemberQuery t coord slot) s = execSalvoMemberQuery t coord slot s := rfl

theorem exec_salvoOrphan (s : State) : exec (.salvoOrphan t coord slot) s = execSalvoOrphan t coord slot s := rfl

end

/-! ## A part arrives (R139) -/

section
variable {s : State} {t coord slot gen : Nat} {es : List (TakeEntry × Nat)}

theorem exec_salvoPartArrival_of_turned_away (away : (s.advance t).standby = true ∨ ((s.advance t).part coord slot).isSome = true) :
    exec (.salvoPartArrival t coord slot gen es) s = .next (s.closed (s.advance t)) := by
  rw [exec_salvoPartArrival, execSalvoPartArrival]
  simp only [Bool.or_eq_true, if_pos away, done_closed]

theorem exec_salvoPartArrival_of_free (chooses : (s.advance t).standby = false) (new : (s.advance t).part coord slot = none)
    (free : ∀ e ∈ es, (s.advance t).salvoHeld ⟨essOf (idEss e.1.dst), idIdx e.1.dst⟩ = false) :
    exec (.salvoPartArrival t coord slot gen es) s = .next (s.closed (if (s.advance t).partFits es.length
      then (s.advance t).makePart coord slot gen es else (s.advance t).reportPart coord slot C.busy 0)) := by
  have noneHeld : (es.zip (List.range es.length)).find? (fun e =>
      (s.advance t).salvoHeld ⟨essOf (idEss e.1.1.dst), idIdx e.1.1.dst⟩) = none :=
    List.find?_eq_none.2 fun e mem => Bool.eq_false_iff.1 (free e.1 (List.of_mem_zip mem).1)
  rw [exec_salvoPartArrival, execSalvoPartArrival]
  simp only [chooses, new, noneHeld, Option.isSome_none, Bool.or_self, Bool.false_eq_true, if_false, done_closed]

end

/-! ## A part is torn down (R144) -/

/-- A search for what a filter took out finds nothing. -/
theorem find?_filter_not {α : Type} {p : α → Prop} [DecidablePred p] (l : List α) :
    (l.filter (fun x => ¬p x)).find? (fun x => p x) = none :=
  List.find?_eq_none.2 fun _ kept own => of_decide_eq_true (List.mem_filter.1 kept).2 (of_decide_eq_true own)

theorem State.dropPart_of_none {s : State} {coord slot : Nat} (unheld : s.part coord slot = none) : s.dropPart coord slot = s := by
  rw [State.dropPart, unheld]

theorem State.part_removePart (s : State) (coord slot : Nat) : (s.removePart coord slot).part coord slot = none :=
  find?_filter_not (p := fun p : Part => p.coord = coord ∧ p.slot = slot) s.salvos.parts

theorem State.part_dropPart (s : State) (coord slot : Nat) : (s.dropPart coord slot).part coord slot = none := by
  cases held : s.part coord slot with
  | none => rw [State.dropPart_of_none held, held]
  | some p =>
    rw [State.dropPart, held]
    exact State.part_removePart ..

/-! ## Notices, questions and lost contact, by the part (R144, R148) -/

section
variable {s : State} {t coord slot : Nat}

/-- What is said of a part that is not held changes nothing. -/
theorem exec_part_events_of_none (unheld : (s.advance t).part coord slot = none) :
    exec (.salvoDropNotice t coord slot) s = .next (s.closed (s.advance t)) ∧
    exec (.salvoMemberQuery t coord slot) s = .next (s.closed (s.advance t)) ∧
    exec (.salvoOrphan t coord slot) s = .next (s.closed (s.advance t)) := by
  rw [exec_salvoDropNotice, exec_salvoMemberQuery, exec_salvoOrphan, execSalvoDropNotice, execSalvoMemberQuery, execSalvoOrphan]
  simp only [unheld, done_closed, and_self]

variable {p : Part} (held : (s.advance t).part coord slot = some p)
include held

theorem exec_salvoDropNotice_of_held : exec (.salvoDropNotice t coord slot) s =
    .next (s.closed (if p.state = 2 then s.advance t else (s.advance t).dropPart coord slot)) := by
  rw [exec_salvoDropNotice, execSalvoDropNotice]
  simp only [held, done_closed]

/-- The twin of a coordinator of even chip ID is the chip after it. -/
theorem exec_salvoMemberQuery_of_prepared (prepared : p.state = 1) (even : coord % 2 = 0) :
    exec (.salvoMemberQuery t coord slot) s = .next (s.closed
      (((s.advance t).emit (.notice coord (.query coord slot))).emit (.notice (coord + 1) (.query coord slot)))) := by
  rw [exec_salvoMemberQuery, execSalvoMemberQuery]
  simp only [held, if_pos prepared, if_pos even, done_closed]

theorem exec_salvoOrphan_of_prepared (prepared : p.state = 1) :
    exec (.salvoOrphan t coord slot) s = .next (s.closed
      ((((s.advance t).dropPart coord slot).strike F.salvoOrphan coord slot).emit (.notice coord (.partDone coord slot
        ((List.range p.entries.length).map (fun i => (i, 5 * 65536))))))) := by
  rw [exec_salvoOrphan, execSalvoOrphan]
  simp only [held, if_pos prepared, done_closed]

end

end Sys2Proof.Machine
end

section
/-! Salvos at their coordinator: reports of parts, the pour, drops, results and retention (R139, R141 to R144, R147). -/

namespace Sys2Proof.Machine

/-! ## What the operations leave of salvos and objects -/

@[simp] theorem State.mirror_salvos (s : State) (i : MirrorItem) : (s.mirror i).salvos = s.salvos := by rw [State.mirror_eq]

@[simp] theorem State.nat_mirror (s : State) (i : MirrorItem) (k : Key) : (s.mirror i).nat k = s.nat k := by
  rw [State.mirror_eq]
  rfl

theorem State.nat_with_salvos (s : State) (x : Salvos) (k : Key) : ({ s with salvos := x } : State).nat k = s.nat k := rfl

@[simp] theorem State.showResults_salvos (s : State) (k : Nat) (res : List (Nat × Nat)) : (s.showResults k res).salvos = s.salvos :=
  State.setB_salvos ..

theorem State.nat_showResults_other (s : State) {k : Nat} {key : Key} (res : List (Nat × Nat)) (other : key ≠ O.salvo_results k) :
    (s.showResults k res).nat key = s.nat key := by
  rw [State.showResults, State.setB, State.nat_set, if_neg other]

theorem State.nat_count_other (s : State) {k k' : Key} (n w : Nat) (other : k' ≠ k) : (s.count k n w).nat k' = s.nat k' :=
  State.nat_setN_other _ _ other

/-- A slot whose records are taken out of the open salvos has no open salvo. -/
theorem State.salvo_of_closed {s : State} {l : List Salvo} {k : Nat} (closed : s.salvos.own = l.filter (fun y => y.slot ≠ k)) :
    s.salvo k = none := by
  rw [State.salvo, closed]
  exact find?_filter_not (p := fun y : Salvo => y.slot = k) l

/-! ## Reports of parts (R139) -/

theorem exec_salvoPartReport (t slot pair code index : Nat) (s : State) : exec (.salvoPartReport t slot pair code index) s =
    .next (s.closed ((s.advance t).partReported slot pair code index)) := rfl

/-- The last part reports itself prepared: so is the salvo. -/
theorem State.partReported_of_last {s : State} {k pair : Nat} {x : Salvo} (index : Nat) (found : s.salvo k = some x)
    (waits : (pair, 0) ∈ x.parts) (others : ∀ p ∈ x.parts, p.1 ≠ pair → p.2 ≠ 0) :
    (s.partReported k pair 0 index).nat (O.salvo_state k) = 3 := by
  have asked : x.parts.any (fun p => p.1 = pair ∧ p.2 = 0) = true := List.any_eq_true.2 ⟨_, waits, by simp⟩
  have all : (x.parts.map (fun p => if p.1 = pair then (pair, 1) else p)).all (fun p => p.2 ≠ 0) = true := by
    simp only [List.all_map, List.all_eq_true, Function.comp_apply, decide_eq_true_eq]
    intro p mem
    split
    · simp
    · next other => exact others p mem other
  simp only [State.partReported, found, asked, all, Bool.not_true, Bool.false_eq_true, if_false, if_true]
  rw [State.nat_setN_other _ _ (by simp), State.nat_setN_same]

/-! ## The pour (R141, R142) -/

theorem exec_pourInstant (t slot : Nat) (s : State) : exec (.pourInstant t slot) s = execPourInstant t slot s := rfl

theorem exec_pourDecisionAck (t slot : Nat) (s : State) : exec (.pourDecisionAck t slot) s = execPourDecisionAck t slot s := rfl

theorem exec_pourAckTimeout (t slot : Nat) (s : State) : exec (.pourAckTimeout t slot) s = execPourAckTimeout t slot s := rfl

theorem State.pourDue_of_undecided {s : State} {k : Nat} {x : Salvo} (found : s.salvo k = some x) (undecided : x.decided = none)
    (unpoured : s.nat (O.salvo_state k) ≠ 4) :
    s.pourDue k = if x.parts.all (fun p => p.2 ≠ 0) then s.pourSalvo k else s.dropSalvo k 3 [] := by
  simp only [State.pourDue, found, undecided, unpoured, Option.isSome_none, Bool.false_eq_true, or_self, if_false]

section
variable {s : State} {t slot : Nat}

/-- The instants of a pour change nothing where the slot has no open salvo. -/
theorem exec_pour_events_of_none (closed : (s.advance t).salvo slot = none) :
    exec (.pourInstant t slot) s = .next (s.closed (s.advance t)) ∧
    exec (.pourDecisionAck t slot) s = .next (s.closed (s.advance t)) ∧
    exec (.pourAckTimeout t slot) s = .next (s.closed (s.advance t)) := by
  rw [exec_pourInstant, exec_pourDecisionAck, exec_pourAckTimeout, execPourInstant, execPourDecisionAck, execPourAckTimeout]
  simp only [closed, done_closed, and_self]

variable {x : Salvo} (found : (s.advance t).salvo slot = some x)
include found

theorem exec_pourInstant_of_open : exec (.pourInstant t slot) s = .next (s.closed
    (if x.onCommand ∨ (s.advance t).tbNow x.tb < x.p then s.advance t else (s.advance t).pourDue slot)) := by
  rw [exec_pourInstant, execPourInstant]
  simp only [found, done_closed]

theorem exec_pourDecisionAck_of_open : exec (.pourDecisionAck t slot) s = .next (s.closed
    (if x.decided.isSome then (s.advance t).finishPour slot true else s.advance t)) := by
  rw [exec_pourDecisionAck, execPourDecisionAck]
  simp only [found, done_closed]

theorem exec_pourAckTimeout_of_decided {at' : Nat} (decided : x.decided = some at') : exec (.pourAckTimeout t slot) s = .next (s.closed
    (if at' + 5000 ≤ (s.advance t).now then (s.advance t).finishPour slot false else s.advance t)) := by
  rw [exec_pourAckTimeout, execPourAckTimeout]
  simp only [found, decided, done_closed]

theorem exec_pourAckTimeout_of_undecided (undecided : x.decided = none) :
    exec (.pourAckTimeout t slot) s = .next (s.closed (s.advance t)) := by
  rw [exec_pourAckTimeout, execPourAckTimeout]
  simp only [found, undecided, done_closed]

end

/-! ## Drops (R144) -/

/-- A salvo whose parts are all this pair's, with none held here, goes back to loaded with the cause of the drop. -/
theorem State.dropSalvo_of_unheld {s : State} {k cause : Nat} {x : Salvo} (res : List (Nat × Nat)) (found : s.salvo k = some x)
    (near : ∀ p ∈ x.parts, p.1 = s.pairId) (unheld : s.part s.chipId k = none) (notLate : cause ≠ 3) :
    (s.dropSalvo k cause res).nat (O.salvo_state k) = 1 ∧ (s.dropSalvo k cause res).nat (O.salvo_drop_cause k) = cause ∧
    (s.dropSalvo k cause res).salvo k = none := by
  have nobody : x.parts.filter (fun p => p.1 ≠ s.pairId) = [] := by simpa [List.filter_eq_nil_iff] using near
  simp only [State.dropSalvo, found, nobody, List.foldl_nil, State.dropPart_of_none unheld, if_neg notLate]
  refine ⟨?state, ?cause, ?gone⟩
  case state =>
    rw [State.nat_showResults_other _ _ (by simp), State.nat_mirror, State.nat_count_other _ _ _ (by simp),
      State.nat_setN_other _ _ (by simp), State.nat_setN_same]
  case cause =>
    rw [State.nat_showResults_other _ _ (by simp), State.nat_mirror, State.nat_count_other _ _ _ (by simp), State.nat_setN_same]
  case gone =>
    refine State.salvo_of_closed (l := s.salvos.own) ?_
    simp only [State.showResults_salvos, State.mirror_salvos, State.count_salvos, State.setN_salvos]

/-! ## Results (R143) and retention (R147) -/

theorem exec_salvoPartDone (t slot pair : Nat) (res : List (Nat × Nat)) (s : State) : exec (.salvoPartDone t slot pair res) s =
    .next (s.closed (if (s.advance t).nat (O.salvo_state slot) = 4 then (s.advance t).partDone slot pair res else s.advance t)) := rfl

/-- The results of the only part end the salvo. -/
theorem State.partDone_of_only {s : State} {k pair st : Nat} {x : Salvo} (res : List (Nat × Nat)) (found : s.salvo k = some x)
    (only : x.parts = [(pair, st)]) : (s.partDone k pair res).nat (O.salvo_state k) = 5 ∧ (s.partDone k pair res).salvo k = none := by
  have all : (x.parts.map (fun p => if p.1 = pair then (pair, 2) else p)).all (fun p => p.2 = 2) = true := by simp [only]
  simp only [State.partDone, found, all, if_true]
  constructor
  · rw [State.nat_with_salvos, State.nat_setN_same]
  · exact State.salvo_of_closed rfl

theorem exec_salvoRetentionExpiry (t slot : Nat) (s : State) : exec (.salvoRetentionExpiry t slot) s = .next (s.closed
    (if (s.advance t).salvos.kept.any (fun e => e.1 = slot ∧ e.2 ≤ (s.advance t).now) then (s.advance t).forgetSalvo slot
      else s.advance t)) := rfl

theorem State.kept_forgetSalvo (s : State) (slot : Nat) : (s.forgetSalvo slot).salvos.kept = s.salvos.kept.filter (fun e => e.1 ≠ slot) := by
  unfold State.forgetSalvo
  dsimp only
  split
  · rfl
  · rfl

/-- Settles O38: each event by the salvo or the part that it names, and what a report, a drop or the last results leave of the
slot by the objects that they set. -/
theorem salvoEventsComplete : Obligations.SalvoEventsComplete := by
  unfold Obligations.SalvoEventsComplete
  refine ⟨?away, ?arrives, ?report, ?prepared, ?early, ?due, ?dropped, ?ack, ?timeout, ?undecided, ?noSalvo, ?notice, ?done,
    ?lastDone, ?keeps, ?drops, ?query, ?orphan, ?noPart, ?expiry⟩
  case away =>
    rintro s _ t coord slot gen es rfl
    exact exec_salvoPartArrival_of_turned_away
  case arrives =>
    rintro s _ t coord slot gen es rfl
    exact exec_salvoPartArrival_of_free
  case report =>
    rintro s _ t slot pair code index rfl
    exact exec_salvoPartReport t slot pair code index s
  case prepared => exact fun a k pair index x => State.partReported_of_last index
  case early =>
    rintro s _ t slot x rfl found wait
    rw [exec_pourInstant_of_open found, if_pos wait]
  case due =>
    rintro s _ t slot x rfl found timed reached undecided unpoured
    have due : ¬(x.onCommand = true ∨ (s.advance t).tbNow x.tb < x.p) := by simp [timed, reached]
    rw [exec_pourInstant_of_open found, if_neg due, State.pourDue_of_undecided found undecided unpoured]
  case dropped => exact fun a k cause x res found near unheld notLate _ => State.dropSalvo_of_unheld res found near unheld notLate
  case ack =>
    rintro s _ t slot x rfl
    exact exec_pourDecisionAck_of_open
  case timeout =>
    rintro s _ t slot at' x rfl found
    exact exec_pourAckTimeout_of_decided found
  case undecided =>
    rintro s _ t slot x rfl
    exact exec_pourAckTimeout_of_undecided
  case noSalvo =>
    rintro s _ t slot rfl
    exact exec_pour_events_of_none
  case notice =>
    rintro s _ t coord slot e tb rfl
    exact exec_pourNotice t coord slot e tb s
  case done =>
    rintro s _ t slot pair res rfl
    exact exec_salvoPartDone t slot pair res s
  case lastDone => exact fun a k pair x => State.partDone_of_only []
  case keeps =>
    rintro s _ t coord slot p rfl held poured
    rw [exec_salvoDropNotice_of_held held, if_pos poured]
  case drops =>
    rintro s _ t coord slot p rfl held unpoured
    rw [exec_salvoDropNotice_of_held held, if_neg unpoured]
    exact ⟨rfl, State.part_dropPart ..⟩
  case query =>
    rintro s _ t coord slot p rfl
    exact exec_salvoMemberQuery_of_prepared
  case orphan =>
    rintro s _ t coord slot p rfl
    exact exec_salvoOrphan_of_prepared
  case noPart =>
    rintro s _ t coord slot rfl
    exact exec_part_events_of_none
  case expiry =>
    rintro s _ t slot until' rfl kept
    rw [exec_salvoRetentionExpiry, State.kept_forgetSalvo, kept]
    simp

end Sys2Proof.Machine
end

section
/-! The frame that a frame store gives at a read instant (R184). -/

namespace Sys2Proof.Machine

/-! ## The least element by a measure -/

theorem minBy_eq_none_iff {α : Type} {f : α → Nat} {l : List α} : minBy f l = none ↔ l = [] := by
  cases l with
  | nil => simp [minBy]
  | cons x rest =>
    rw [minBy]
    split
    · simp
    · split <;> simp

theorem minBy_le {α : Type} {f : α → Nat} {l : List α} {x y : α} (least : minBy f l = some x) (mem : y ∈ l) : f x ≤ f y := by
  induction l generalizing x with
  | nil => simp at mem
  | cons z rest ih =>
    rw [minBy] at least
    split at least
    · next empty =>
      cases least
      simp only [minBy_eq_none_iff.1 empty, List.mem_singleton] at mem
      simp [mem]
    · next w found =>
      have tail : y ∈ rest → f w ≤ f y := ih found
      split at least
      all_goals
        cases least
        rcases List.mem_cons.1 mem with rfl | mem
        · omega
        · have := tail mem
          omega

/-- An element that every other one of a list exceeds is the least. -/
theorem minBy_eq_some_of_least {α : Type} {f : α → Nat} {l : List α} {c : α} (mem : c ∈ l) (least : ∀ x ∈ l, f x ≤ f c → x = c) :
    minBy f l = some c := by
  cases found : minBy f l with
  | none =>
    rw [minBy_eq_none_iff.1 found] at mem
    simp at mem
  | some x => rw [least x (mem_of_minBy found) (minBy_le found mem)]

/-! ## The choice, by the newest frame that is old enough (R184) -/

section
variable {frames : List (Nat × Nat)} {r guard : Nat} (hyst : Nat) {last : Nat} (begun : last ≠ 0)
include begun

theorem chooseFrame_of_none_old (young : ∀ f ∈ frames, r < f.2 + guard) : chooseFrame frames r guard hyst last = some last := by
  have noneOld : frames.filter (fun f => f.2 + guard ≤ r) = [] := by simpa [List.filter_eq_nil_iff] using young
  simp only [chooseFrame, minBy_eq_none_iff.2 noneOld, if_neg begun]

/-- The counts lie below 2^32, so that the measure by which the newest is found tells them apart. -/
theorem chooseFrame_of_newest {c : Nat × Nat} (counts : ∀ f ∈ frames, f.1 < 4294967296)
    (distinct : ∀ f ∈ frames, ∀ g ∈ frames, f.1 = g.1 → f = g) (held : c ∈ frames) (old : c.2 + guard ≤ r)
    (newest : ∀ f ∈ frames, f.2 + guard ≤ r → f.1 ≤ c.1) :
    chooseFrame frames r guard hyst last =
      if c.1 ≤ last then some last
      else if c.1 = last + 1 then some c.1
      else if c.1 = last + 2 ∧ r < c.2 + guard + hyst then some (last + 1)
      else some c.1 := by
  have found : minBy (fun f => 4294967296 - f.1) (frames.filter (fun f => f.2 + guard ≤ r)) = some c := by
    refine minBy_eq_some_of_least (by simp [held, old]) fun f mem newer => ?_
    obtain ⟨kept, aged⟩ : f ∈ frames ∧ f.2 + guard ≤ r := by simpa using mem
    have below := newest f kept aged
    have bound := counts f kept
    exact distinct f kept c held (by omega)
  simp only [chooseFrame, found, if_neg begun]

end

/-- Settles O39: the frame is chosen by the newest that is old enough, and each clause is one branch of that choice. -/
theorem frameSelectionFollowsTheProcedure : Obligations.FrameSelectionFollowsTheProcedure := by
  unfold Obligations.FrameSelectionFollowsTheProcedure
  intro frames r guard hyst last begun counts distinct
  refine ⟨chooseFrame_of_none_old hyst begun, fun c held old newest => ?_⟩
  rw [chooseFrame_of_newest hyst begun counts distinct held old newest]
  refine ⟨?notNewer, ?next, ?heldOff, ?dropsOne, ?dropsMore⟩
  case notNewer => exact fun notNewer => if_pos notNewer
  case next =>
    intro gap
    rw [if_neg (by omega), if_pos gap, gap]
  case heldOff =>
    intro gap early
    rw [if_neg (by omega), if_neg (by omega), if_pos ⟨gap, early⟩]
  case dropsOne =>
    intro gap late
    rw [if_neg (by omega), if_neg (by omega), if_neg (by omega)]
  case dropsMore =>
    intro gap
    rw [if_neg (by omega), if_neg (by omega), if_neg (by omega)]

end Sys2Proof.Machine
end

section
/-! Inputs of SDI ports (R203, R204, R206, R217), and the ancillary packets of filters and slots (R211, R212). -/

namespace Sys2Proof.Machine

/-! ## The arms -/

section
variable (s : State) (t p : Nat)

theorem exec_sdiLaneLocked (rate : Nat) : exec (.sdiLaneLocked t p rate) s = execSdiLaneLocked t p rate s := rfl

theorem exec_sdiFormatDetected (det : SdiDetect) : exec (.sdiFormatDetected t p det) s = execSdiFormatDetected t p det s := rfl

theorem exec_sdiLossOfSignal : exec (.sdiLossOfSignal t p) s = .next (s.closed
    (if (s.advance t).sdiPort p then (s.advance t).sdiLost p else s.advance t)) := rfl

theorem exec_sdiCheckError (kind : Nat) : exec (.sdiCheckError t p kind) s = .next (s.closed
    (if (s.advance t).sdiPort p then (s.advance t).sdiError p kind else s.advance t)) := rfl

theorem exec_ancPacketExtract (pkt : AncPacket) : exec (.ancPacketExtract t p pkt) s = .next (s.closed
    (if (s.advance t).sdiPort p then (s.advance t).extract p pkt else s.advance t)) := rfl

theorem exec_ancPacketInsert (j : Nat) (pkt : AncPacket) (room : List Nat) :
    exec (.ancPacketInsert t j pkt room) s = execAncPacketInsert t j pkt room s := rfl

end

/-! ## Objects after a count and after a change of the inputs' records -/

/-- A counter of 32 bits below its largest value. -/
theorem State.nat_count_of_room {s : State} {k : Key} (room : s.nat k + 1 < 4294967296) : (s.count k).nat k = s.nat k + 1 := by
  have fits : s.nat k + 1 < 2 ^ 32 := by simpa only [Nat.reducePow] using room
  rw [State.count, State.nat_setN_same, countUp, if_pos fits]

theorem State.nat_with_sdi (s : State) (x : Sdi) (k : Key) : ({ s with sdi := x } : State).nat k = s.nat k := rfl

/-! ## Lock and detection (R203, R204, Table 14.2) -/

section
variable {s : State} (t : Nat) {p : Nat}

theorem exec_sdiLaneLocked_of_searched {rate : Nat} (port : (s.advance t).sdiPort p = true) (searched : rate ∈ (s.advance t).searched p)
    (unlocked : (s.advance t).nat (O.sdi_rx_state p) = 0) :
    exec (.sdiLaneLocked t p rate) s = .next (s.closed (({ (s.advance t).setN (O.sdi_rx_state p) 1 with
      sdi := { (s.advance t).sdi with rate := kput (s.advance t).sdi.rate p rate } } : State).laneLocked p)) := by
  have taken : ((s.advance t).sdiPort p && ((s.advance t).searched p).contains rate) = true := by simp [port, searched]
  rw [exec_sdiLaneLocked, execSdiLaneLocked, done_closed, if_pos taken, if_pos unlocked]

theorem exec_sdiLaneLocked_of_foreign {rate : Nat} (foreign : (s.advance t).sdiPort p = false ∨ rate ∉ (s.advance t).searched p) :
    exec (.sdiLaneLocked t p rate) s = .next (s.closed (s.advance t)) := by
  have ignored : ¬((s.advance t).sdiPort p && ((s.advance t).searched p).contains rate) = true := by
    rcases foreign with noPort | unsearched
    · simp [noPort]
    · simp [unsearched]
  rw [exec_sdiLaneLocked, execSdiLaneLocked, done_closed, if_neg ignored]

theorem exec_sdiFormatDetected_of_locked (det : SdiDetect) (port : (s.advance t).sdiPort p = true)
    (locked : (s.advance t).nat (O.sdi_rx_state p) ≠ 0) :
    exec (.sdiFormatDetected t p det) s = .next (s.closed ((s.advance t).detected p det)) := by
  have taken : ((s.advance t).sdiPort p && (s.advance t).nat (O.sdi_rx_state p) != 0) = true := by
    rw [port, Bool.true_and]
    exact bne_iff_ne.2 locked
  rw [exec_sdiFormatDetected, execSdiFormatDetected, done_closed, if_pos taken]

theorem exec_sdiFormatDetected_of_unlocked (det : SdiDetect)
    (unlocked : (s.advance t).sdiPort p = false ∨ (s.advance t).nat (O.sdi_rx_state p) = 0) :
    exec (.sdiFormatDetected t p det) s = .next (s.closed (s.advance t)) := by
  have ignored : ¬((s.advance t).sdiPort p && (s.advance t).nat (O.sdi_rx_state p) != 0) = true := by
    rcases unlocked with foreign | unlocked
    · simp [foreign]
    · simp [unlocked]
  rw [exec_sdiFormatDetected, execSdiFormatDetected, done_closed, if_neg ignored]

theorem State.detectFormat_of_no_pid {det : SdiDetect} (noPid : det.pid = none) :
    s.detectFormat p det = (if s.nat (O.src_format_expected p) ≠ 0 ∧
      (s.nat (O.src_format_expected p) = det.format ∨ s.nat (O.src_format_expected p) = det.psf)
      then s.nat (O.src_format_expected p) else det.format) := by
  have unread : ¬(det.pid.isSome = true ∧ (!det.pidContradicts) = true) := by simp [noPid]
  rw [State.detectFormat, if_neg unread]

end

section
variable {s : State} {l : Nat}

/-- An equaliser that stands by its own settings takes the lock alone. -/
theorem State.laneLocked_of_fixed (fixed : 2 ≤ s.nat (O.eq_eq_mode l)) : s.laneLocked l = s.setN (O.lane_rx_lock l) 1 :=
  if_pos fixed

/-- An equaliser that adapts writes its code and taps, and then holds or goes on by its mode. -/
theorem State.laneLocked_of_adapting (adapting : s.nat (O.eq_eq_mode l) < 2) : ∃ taps, s.laneLocked l =
    (((s.setN (O.lane_rx_lock l) 1).setN (O.eq_ctle_code l) (s.freeNat 99 % 32)).setB (O.eq_dfe_taps l) taps).setN
      (O.eq_adapt_state l) (if s.nat (O.eq_eq_mode l) = 0 then 2 else 4) :=
  ⟨_, if_neg (not_le.2 adapting)⟩

theorem State.laneLocked_locks (s : State) (l : Nat) : (s.laneLocked l).nat (O.lane_rx_lock l) = 1 := by
  rcases Nat.lt_or_ge (s.nat (O.eq_eq_mode l)) 2 with adapting | fixed
  · obtain ⟨taps, adapted⟩ := State.laneLocked_of_adapting adapting
    rw [adapted, State.nat_setN_other _ _ (by simp), State.setB, State.nat_set, if_neg (by simp),
      State.nat_setN_other _ _ (by simp), State.nat_setN_same]
  · rw [State.laneLocked_of_fixed fixed, State.nat_setN_same]

theorem State.laneLocked_adapts (adapting : s.nat (O.eq_eq_mode l) < 2) :
    (s.laneLocked l).nat (O.eq_adapt_state l) = if s.nat (O.eq_eq_mode l) = 0 then 2 else 4 := by
  obtain ⟨taps, adapted⟩ := State.laneLocked_of_adapting adapting
  rw [adapted, State.nat_setN_same]

end

/-! ## Loss of signal (R217) -/

theorem State.sdiClear_reads (s : State) (p : Nat) : (s.sdiClear p).nat (O.sdi_rx_mode p) = 0 ∧
    (s.sdiClear p).nat (O.sdi_rx_state p) = 0 ∧ (s.sdiClear p).nat (O.sdi_rx_payload_id p) = 0 ∧
    (s.sdiClear p).nat (O.sdi_audio_present p) = 0 ∧ (s.sdiClear p).nat (O.src_format_detected p) = 0 := by
  simp [State.sdiClear, State.nat_setN]

/-! ## Failed checks (R206) -/

section
variable {s : State} {p : Nat}

/-- The checks of EDH are those of an SD input alone. -/
theorem State.sdiError_of_edh {kind : Nat} (edh : kind = 1 ∨ kind = 2) (notSd : s.nat (O.sdi_rx_mode p) ≠ 1) :
    s.sdiError p kind = s :=
  if_pos ⟨edh, notSd⟩

/-- A CRC error of a second that has erred before is counted, and the second is not counted again. -/
theorem State.sdiError_of_same_second {last : Nat} (before : kfind s.sdi.errAt p = some last)
    (same : last / 1000000000 = s.now / 1000000000) :
    s.sdiError p 0 = { s.count (O.sdi_crc_errors p) with sdi := { s.sdi with errAt := kput s.sdi.errAt p s.now } } := by
  have notEdh : ¬(((0 : Nat) = 1 ∨ (0 : Nat) = 2) ∧ s.nat (O.sdi_rx_mode p) ≠ 1) := fun ⟨edh, _⟩ => absurd edh (by decide)
  have erred : (kfind s.sdi.errAt p).map (fun a => a / nsPerSec) = some (s.now / nsPerSec) := by
    rw [before, Option.map_some, same]
  unfold State.sdiError
  rw [if_neg notEdh]
  exact if_pos erred

end

/-! ## Filters and slots of ancillary packets (R211, R212) -/

section
variable {s : State} {p : Nat} {pkt : AncPacket}

theorem State.extract_of_no_timecode (plain : isTimecode pkt = false) : s.extract p pkt = if heldBack pkt then s
    else ((s.portFilters p).filter (fun i => s.filterMatches i pkt)).foldl (fun st i =>
      st.count (if pkt.checksumOk then O.ancx_packets i else O.ancx_checksum_errors i)) s := by
  have unread : ¬(isTimecode pkt = true ∧ pkt.checksumOk = true) := by simp [plain]
  rw [State.extract, if_neg unread]

end

/-- The first line with room for a packet is the one that has it while those before have not. -/
theorem findIdx?_of_first_room {room : List Nat} {span k w size : Nat} (line : (room.take span)[k]? = some w) (fits : size ≤ w)
    (filled : ∀ v ∈ room.take k, v < size) : (room.take span).findIdx? (fun w => size ≤ w) = some k := by
  obtain ⟨inSpan, here⟩ := List.getElem?_eq_some_iff.1 line
  refine List.findIdx?_eq_some_iff_getElem.2 ⟨inSpan, by simpa [here] using fits, fun i before => ?_⟩
  have within : i < room.length := (before.trans inSpan).trans_le (List.length_take_le' ..)
  have earlier : room[i] ∈ room.take k := List.mem_take_iff_getElem.2 ⟨i, lt_min before within, rfl⟩
  simpa using filled _ earlier

section
variable {s : State} {j : Nat} {pkt : AncPacket} {room : List Nat}

theorem State.insert_of_room {k w : Nat} (line : (room.take (s.natNow (O.anci_line_span (2048 + j))))[k]? = some w) (fits : pkt.size ≤ w)
    (filled : ∀ v ∈ room.take k, v < pkt.size) :
    s.insert j pkt room = (s.count (O.anci_packets (2048 + j))).emit (s.placedAnc j pkt k) := by
  rw [State.insert, findIdx?_of_first_room line fits filled]

theorem State.insert_of_full (full : ∀ w ∈ room.take (s.natNow (O.anci_line_span (2048 + j))), w < pkt.size) :
    s.insert j pkt room = (({ s with sdi := { s.sdi with ovfAt := kput s.sdi.ovfAt (s.nat (O.anci_port (2048 + j))) s.now } } : State).count
      (O.anci_overflows (2048 + j))).strike (F.ancOverflow (s.nat (O.anci_port (2048 + j)) / 64)) j pkt.size := by
  have noLine : (room.take (s.natNow (O.anci_line_span (2048 + j)))).findIdx? (fun w => pkt.size ≤ w) = none :=
    List.findIdx?_eq_none_iff.2 fun w mem => decide_eq_false (not_le.2 (full w mem))
  rw [State.insert, noLine]

variable (t : Nat)

theorem exec_ancPacketInsert_of_routed (slot : j < 2048) (routed : ((s.advance t).route ⟨.anc, j⟩).isSome = true)
    (sends : (s.advance t).safe = false) :
    exec (.ancPacketInsert t j pkt room) s = .next (s.closed ((s.advance t).insert j pkt room)) := by
  rw [exec_ancPacketInsert, execAncPacketInsert, done_closed, if_pos ⟨slot, routed, by simp [sends]⟩]

theorem exec_ancPacketInsert_of_unsent
    (unsent : 2048 ≤ j ∨ (s.advance t).route ⟨.anc, j⟩ = none ∨ (s.advance t).safe = true) :
    exec (.ancPacketInsert t j pkt room) s = .next (s.closed (s.advance t)) := by
  have ignored : ¬(j < 2048 ∧ ((s.advance t).route ⟨.anc, j⟩).isSome = true ∧ (!(s.advance t).safe) = true) := by
    rintro ⟨slot, routed, sends⟩
    rcases unsent with absent | unrouted | safe
    · exact absurd slot (not_lt.2 absent)
    · simp [unrouted] at routed
    · simp [safe] at sends
  rw [exec_ancPacketInsert, execAncPacketInsert, done_closed, if_neg ignored]

end

/-- Settles O42: each event by whether its port or its slot takes it; a packet of a slot by the first line of the span with room. -/
theorem sdiEventsComplete : Obligations.SdiEventsComplete := by
  unfold Obligations.SdiEventsComplete
  refine ⟨?locks, ?foreignLock, ?adapts, ?detects, ?undetected, ?noPid, ?loses, State.sdiClear_reads, ?edh, ?sameSecond, ?noPort,
    ?extracts, ?inserts, ?overflows, ?unsent⟩
  case locks =>
    rintro s _ t p rate rfl
    exact exec_sdiLaneLocked_of_searched t
  case foreignLock =>
    rintro s _ t p rate rfl
    exact exec_sdiLaneLocked_of_foreign t
  case adapts =>
    refine fun a l => ⟨a.laneLocked_locks l, fun once => ?_, fun onward => ?_⟩
    · rw [State.laneLocked_adapts (by omega), if_pos once]
    · rw [State.laneLocked_adapts (by omega), if_neg (by omega)]
  case detects =>
    rintro s _ t p det rfl
    exact exec_sdiFormatDetected_of_locked t det
  case undetected =>
    rintro s _ t p det rfl
    exact exec_sdiFormatDetected_of_unlocked t det
  case noPid => exact fun a p det => State.detectFormat_of_no_pid
  case loses =>
    rintro s _ t p rfl port
    rw [exec_sdiLossOfSignal, if_pos port]
  case edh =>
    rintro s _ t p kind rfl port edh notSd
    rw [exec_sdiCheckError, if_pos port, State.sdiError_of_edh edh notSd]
  case sameSecond =>
    rintro s _ t p last rfl port before same
    rw [exec_sdiCheckError, if_pos port, State.sdiError_of_same_second before same]
    refine ⟨_, rfl, fun room => ?_, ?_⟩
    · rw [State.nat_with_sdi, State.nat_count_of_room room]
    · rw [State.nat_with_sdi, State.nat_count_other _ _ _ (by simp)]
  case noPort =>
    rintro s _ t p kind rfl foreign
    have ignored : ¬(s.advance t).sdiPort p = true := by simp [foreign]
    rw [exec_sdiCheckError, exec_sdiLossOfSignal, if_neg ignored, if_neg ignored]
    exact ⟨rfl, rfl⟩
  case extracts =>
    rintro s _ t p pkt rfl port plain
    rw [exec_ancPacketExtract, if_pos port, State.extract_of_no_timecode plain]
  case inserts =>
    rintro s _ t j k w pkt room rfl slot routed sends line fits filled
    rw [exec_ancPacketInsert_of_routed t slot routed sends, State.insert_of_room line fits filled]
    rfl
  case overflows =>
    rintro s _ t j pkt room rfl slot routed sends full
    rw [exec_ancPacketInsert_of_routed t slot routed sends, State.insert_of_full full]
  case unsent =>
    rintro s _ t j pkt room rfl
    exact exec_ancPacketInsert_of_unsent t

end Sys2Proof.Machine
end

section
/-! Writes of flows, groups and the channels of audio flows (R225, R227, R228, R252, R514). -/

namespace Sys2Proof.Machine

/-! ## The rules of flows and groups, where Lull does not refuse (R514) -/

section
variable {s : State} (w : Writer)

theorem State.familyWrite_packet {inst sub : Nat} {v : Val} (allowed : s.lullRefuses ⟨0x3700, inst, sub⟩ v = false) :
    s.familyWrite w [] ⟨0x3700, inst, sub⟩ v = s.writePacket ⟨0x3700, inst, sub⟩ v := by
  simp [State.familyWrite, allowed]

theorem State.familyWrite_flow {fam inst sub : Nat} {v : Val} (flow : fam = 0x3700 ∧ 8192 ≤ inst ∨ fam = 0x7000 ∧ 4096 ≤ inst)
    (allowed : s.lullRefuses ⟨fam, inst, sub⟩ v = false) :
    s.familyWrite w [] ⟨fam, inst, sub⟩ v = s.writeFlow ⟨fam, inst, sub⟩ v := by
  rcases flow with ⟨rfl, media⟩ | ⟨rfl, anc⟩
  · rw [State.familyWrite_packet w allowed, State.writePacket, if_pos media]
  · have ofFlow : ¬inst < 4096 := by omega
    simp [State.familyWrite, allowed, ofFlow]

theorem State.lullRefuses_of_awake (awake : s.inLull = false) (k : Key) (v : Val) : s.lullRefuses k v = false := by
  simp [State.lullRefuses, awake]

theorem State.lullRefuses_zero (k : Key) : s.lullRefuses k (.n 0) = false := by
  simp [State.lullRefuses, Val.int]

theorem State.familyWrite_flow_enable_of_lull {fam inst : Nat} (flow : fam = 0x3700 ∧ 8192 ≤ inst ∨ fam = 0x7000 ∧ 4096 ≤ inst)
    (lull : s.inLull = true) : s.familyWrite w [] (O.flow_enable fam inst) (.n 1) = some (C.busy, s) := by
  have refused : s.lullRefuses (O.flow_enable fam inst) (.n 1) = true := by
    rcases flow with ⟨rfl, media⟩ | ⟨rfl, anc⟩
    · have unit : 2048 ≤ inst := by omega
      simp [State.lullRefuses, lull, Val.int, unit]
    · simp [State.lullRefuses, lull, Val.int, anc]
  rw [State.familyWrite, if_pos refused]

/-- The enable object of a flow, by what `State.writeFlowEnable` answers. -/
theorem State.familyWrite_flow_enable {fam inst : Nat} {v : Int} (flow : fam = 0x3700 ∧ 8192 ≤ inst ∨ fam = 0x7000 ∧ 4096 ≤ inst)
    (allowed : s.lullRefuses (O.flow_enable fam inst) (.n v) = false) :
    s.familyWrite w [] (O.flow_enable fam inst) (.n v) = some (s.writeFlowEnable fam inst (v.toNat = 1)) := by
  rw [State.familyWrite_flow w flow allowed]
  rfl

/-- The enable object of a group, by what `State.writeGroup` answers. -/
theorem State.familyWrite_grp_enable {inst : Nat} {v : Int} (low : 2048 ≤ inst) (high : inst < 8192)
    (allowed : s.lullRefuses (O.grp_enable inst) (.n v) = false) :
    s.familyWrite w [] (O.grp_enable inst) (.n v) = some (s.writeGroup inst (v.toNat = 1)) := by
  rw [State.familyWrite_packet w allowed, State.writePacket, if_neg (not_le.2 high), if_pos low]
  rfl

/-- The count of channels of an audio flow, by what `State.writeChannels` answers. -/
theorem State.familyWrite_aflow_channels {inst : Nat} (n : Nat) (audio : 12288 ≤ inst) :
    s.familyWrite w [] (O.aflow_channels 0x3700 inst) (.n n) = some (s.writeChannels inst n) := by
  have allowed : s.lullRefuses (O.aflow_channels 0x3700 inst) (.n n) = false := by simp [State.lullRefuses]
  rw [State.familyWrite_flow w (.inl ⟨rfl, by omega⟩) allowed]
  exact if_pos ⟨rfl, audio⟩

end

/-! ## Flows enabled and disabled (R225, R227) -/

section
variable {s : State} {fam inst : Nat}

theorem State.writeFlowEnable_of_same {on : Bool} (same : s.flag (O.flow_enable fam inst) = on) :
    s.writeFlowEnable fam inst on = (0, s) :=
  if_pos same.symm

theorem State.writeFlowEnable_off (enabled : s.flag (O.flow_enable fam inst) = true) :
    s.writeFlowEnable fam inst false = (0, s.disableFlow fam inst) := by
  simp [State.writeFlowEnable, enabled]

/-- A member video flow of a group is enabled by its group alone (R227). -/
theorem State.writeFlowEnable_of_alone (disabled : s.flag (O.flow_enable 0x3700 inst) = false) (video : inst < 12288)
    (alone : 2048 ≤ s.flowGroup 0x3700 inst) : s.writeFlowEnable 0x3700 inst true = (C.range, s) := by
  simp [State.writeFlowEnable, disabled, video, alone]

theorem State.writeFlowEnable_of_enabled {u : State} (disabled : s.flag (O.flow_enable 0x3700 inst) = false) (audio : 12288 ≤ inst)
    (enabled : s.enableFlow 0x3700 inst = .ok u) : s.writeFlowEnable 0x3700 inst true = (0, u) := by
  have notVideo : ¬inst < 12288 := not_lt.2 audio
  simp [State.writeFlowEnable, disabled, notVideo, enabled]

theorem State.writeFlowEnable_of_refused {e : Refuse} (disabled : s.flag (O.flow_enable 0x3700 inst) = false) (audio : 12288 ≤ inst)
    (refused : s.enableFlow 0x3700 inst = .error e) : s.writeFlowEnable 0x3700 inst true = (e.1, s) := by
  have notVideo : ¬inst < 12288 := not_lt.2 audio
  simp [State.writeFlowEnable, disabled, notVideo, refused]

theorem State.enableFlow_of_bad_leg {l : Nat} (leg : l ∈ s.legs fam inst) (bad : s.legOk fam inst l = false) :
    s.enableFlow fam inst = .error (C.range, 0) := by
  refine if_pos ?_
  simpa using ⟨l, leg, bad⟩

/-- A flow that is enabled stands on Ethernet ports of the chip whose lanes are in use. -/
theorem State.legs_of_enableFlow {u : State} (enabled : s.enableFlow fam inst = .ok u) :
    (∀ l ∈ s.legs fam inst, s.legOk fam inst l = true) ∧ ∀ l ∈ s.legs fam inst, s.portOpen (s.legPort fam inst l) = true := by
  unfold State.enableFlow at enabled
  split at enabled
  · cases enabled
  · rename_i placed
    split at enabled
    · cases enabled
    · rename_i opened
      exact ⟨by simpa using placed, by simpa using opened⟩

end

/-! ## What the end of a fault leaves alone (R448, R452) -/

/-- The end of a fault writes the state of its source (sub 04), and where it ends safe state that state (sub 02) and the SIDE
lines (sub 01): objects of other subindices stay. -/
def besideEnd (k : Key) : Bool := !(k.sub == 0x01 || k.sub == 0x02 || k.sub == 0x04)

theorem State.leaveSafe_end (s : State) : FaultsOnly besideEnd s s.leaveSafe := by
  have left : FaultsOnly besideEnd s (s.setF O.fault_safe_state false) := (FaultsOnly.refl s).set rfl _
  have claimed (u : State) : FaultsOnly besideEnd u u.claimSide := by
    unfold State.claimSide
    split
    · exact List.foldlRecOn _ _ (.refl u) fun _ h _ _ => h.set rfl _
    · exact .refl u
  unfold State.leaveSafe
  split
  · dsimp only
    split
    · exact left.setFaults _
    · exact (left.trans (claimed _)).setFaults _
  · exact .refl s

theorem State.unlatch_end (s : State) (src : Nat) : FaultsOnly besideEnd s (s.unlatch src) := by
  have cleared : FaultsOnly besideEnd s (s.setN (O.fsrc_state (src + 1)) 0) := (FaultsOnly.refl s).set rfl _
  unfold State.unlatch State.reviewSafe
  split
  · exact cleared
  · exact cleared.trans (State.leaveSafe_end _)

theorem State.endFault_end (s : State) (src : Nat) : FaultsOnly besideEnd s (s.endFault src) := by
  have ended {u : State} (h : FaultsOnly besideEnd s u) : FaultsOnly besideEnd s
      (if u.isActive src then
        if u.flag (O.fsrc_auto_clear (src + 1)) && faultClass src ≤ 2 then u.unlatch src else u.setN (O.fsrc_state (src + 1)) 2
      else u) := by
    split
    · split
      · exact h.trans (u.unlatch_end src)
      · exact h.set rfl _
    · exact h
  refine ended ?_
  split
  · exact .refl s
  · exact (FaultsOnly.refl s).setFaults _

theorem State.reviewLegs_end (s : State) (tile : Nat) : FaultsOnly besideEnd s (s.reviewLegs tile) := by
  have legs : FaultsOnly besideEnd s
      (if s.packet.rx.any (fun r => s.flowTile r.fam r.inst == tile && (r.downA || r.downB)) then s else s.endFault (F.legDown tile)) := by
    split
    · exact .refl s
    · exact s.endFault_end _
  unfold State.reviewLegs
  dsimp only
  split
  · exact legs
  · exact legs.trans (State.endFault_end ..)

theorem FaultsOnly.packet {p : Key → Bool} {a b : State} (h : FaultsOnly p a b) : b.packet = a.packet := by
  obtain ⟨⟨_, _, _, _, _, _, rfl⟩, -⟩ := h
  rfl

/-- A flow that is disabled reads disabled and has no receive record. -/
theorem State.disableFlow_reads (s : State) (fam inst : Nat) : (s.disableFlow fam inst).nat (O.flow_enable fam inst) = 0 ∧
    (s.disableFlow fam inst).nat (O.flow_state fam inst) = 0 ∧ (s.disableFlow fam inst).rxOf fam inst = none := by
  unfold State.disableFlow
  dsimp only
  refine ⟨?_, ?_, ?_⟩
  · rw [(State.reviewLegs_end ..).nat rfl]
    show (((s.leaveFlow fam inst).setN (O.flow_enable fam inst) 0).setN (O.flow_state fam inst) 0).nat _ = 0
    simp [State.nat_setN]
  · rw [(State.reviewLegs_end ..).nat rfl]
    exact State.nat_setN_same ..
  · rw [State.rxOf, (State.reviewLegs_end ..).packet]
    exact List.find?_eq_none.2 fun r mem here =>
      of_decide_eq_true (List.mem_filter.1 mem).2 (of_decide_eq_true here)

/-! ## Groups (R225, R227) -/

section
variable {s : State} {inst : Nat}

theorem State.writeGroup_of_same {on : Bool} (same : s.flag (O.grp_enable inst) = on) : s.writeGroup inst on = (0, s) :=
  if_pos same.symm

/-- A transmit group that is disabled takes its members with it. -/
theorem State.writeGroup_off_of_tx (tx : 4096 ≤ inst) (enabled : s.flag (O.grp_enable inst) = true) :
    s.writeGroup inst false = (0, (s.groupMembers true (inst - 4096)).foldl (fun st m => st.disableFlow m.1 m.2)
      (s.setN (O.grp_enable inst) 0)) := by
  have off : s.setF (O.grp_enable inst) false = s.setN (O.grp_enable inst) 0 := rfl
  simp [State.writeGroup, enabled, tx, off]

theorem State.writeGroup_of_unfit (tx : 4096 ≤ inst) (disabled : s.flag (O.grp_enable inst) = false)
    (unfit : s.groupFits true (inst - 4096) = false ∨ s.groupFormat true (inst - 4096) = 0) :
    s.writeGroup inst true = (C.range, s) := by
  simp [State.writeGroup, disabled, tx, unfit]

end

/-! ## Channels (R228, R252) -/

/-- The block that is found for the channels of a flow lies in the range of flow channels and meets no other's. -/
theorem State.freeBlock_is_free {s : State} {inst n x : Nat} (found : s.freeBlock inst n = some x) :
    32768 ≤ x ∧ x + n ≤ 61440 ∧ ∀ e ∈ s.channelBlocks inst, x + n ≤ e.1 ∨ e.1 + e.2 ≤ x := by
  have fits := (List.mem_filter.1 (mem_of_minBy found)).2
  simpa [and_assoc] using fits

section
variable {s : State} {inst n : Nat}

theorem State.writeChannels_of_unfit (unfit : channelsOk (s.nat (O.aflow_encoding 0x3700 inst))
    (s.nat (O.aflow_sample_rate 0x3700 inst)) (s.nat (O.aflow_packet_time 0x3700 inst)) n = false) :
    s.writeChannels inst n = (C.range, s) := by
  simp [State.writeChannels, unfit]

theorem State.writeChannels_zero : s.writeChannels inst 0 =
    (0, (s.setN (O.aflow_channels 0x3700 inst) 0).setN (O.aflow_channel_base 0x3700 inst) none16) := by
  simp [State.writeChannels, channelsOk]

theorem State.writeChannels_of_fit (counts : n ≠ 0) (fit : channelsOk (s.nat (O.aflow_encoding 0x3700 inst))
    (s.nat (O.aflow_sample_rate 0x3700 inst)) (s.nat (O.aflow_packet_time 0x3700 inst)) n = true) :
    (s.freeBlock inst n = none → s.writeChannels inst n = (C.busy, s)) ∧
      ∀ x, s.freeBlock inst n = some x → s.writeChannels inst n =
        (0, (s.setN (O.aflow_channels 0x3700 inst) n).setN (O.aflow_channel_base 0x3700 inst) x) := by
  constructor
  · intro full
    simp [State.writeChannels, fit, counts, full]
  · intro x found
    simp [State.writeChannels, fit, counts, found]

end

/-- Settles O33: each enable object and each count of channels by the rule of its family, and the rule by its branches. -/
theorem flowWriteRules : Obligations.FlowWriteRules := by
  unfold Obligations.FlowWriteRules
  refine ⟨?enabledFlow, ?lull, ?groupAlone, ?granted, ?refused, fun b fam inst l => State.enableFlow_of_bad_leg,
    fun b u fam inst => State.legs_of_enableFlow, State.disableFlow_reads, ?enabledGroup, ?groupOff, ?groupUnfit, ?unfit, ?released,
    ?channels, fun b inst n x => State.freeBlock_is_free⟩
  case enabledFlow =>
    intro b w fam inst flow enabled awake
    rw [State.familyWrite_flow_enable w flow (State.lullRefuses_of_awake awake ..),
      State.familyWrite_flow_enable w flow (State.lullRefuses_zero _)]
    exact ⟨congrArg some (State.writeFlowEnable_of_same enabled), congrArg some (State.writeFlowEnable_off enabled)⟩
  case lull => exact fun b w fam inst => State.familyWrite_flow_enable_of_lull w
  case groupAlone =>
    intro b w inst low video disabled awake alone
    rw [State.familyWrite_flow_enable w (.inl ⟨rfl, low⟩) (State.lullRefuses_of_awake awake ..)]
    exact congrArg some (State.writeFlowEnable_of_alone disabled video alone)
  case granted =>
    intro b u w inst audio disabled awake enabled
    rw [State.familyWrite_flow_enable w (.inl ⟨rfl, by omega⟩) (State.lullRefuses_of_awake awake ..)]
    exact congrArg some (State.writeFlowEnable_of_enabled disabled audio enabled)
  case refused =>
    intro b w inst code detail audio disabled awake refused
    rw [State.familyWrite_flow_enable w (.inl ⟨rfl, by omega⟩) (State.lullRefuses_of_awake awake ..)]
    exact congrArg some (State.writeFlowEnable_of_refused disabled audio refused)
  case enabledGroup =>
    intro b w inst low high awake enabled
    rw [State.familyWrite_grp_enable w low high (State.lullRefuses_of_awake awake ..)]
    exact congrArg some (State.writeGroup_of_same enabled)
  case groupOff =>
    intro b w inst tx high enabled
    rw [State.familyWrite_grp_enable w (by omega) high (State.lullRefuses_zero _)]
    exact congrArg some (State.writeGroup_off_of_tx tx enabled)
  case groupUnfit =>
    intro b w inst tx high awake disabled unfit
    rw [State.familyWrite_grp_enable w (by omega) high (State.lullRefuses_of_awake awake ..)]
    exact congrArg some (State.writeGroup_of_unfit tx disabled unfit)
  case unfit =>
    intro b w inst n audio unfit
    rw [State.familyWrite_aflow_channels w n audio, State.writeChannels_of_unfit unfit]
  case released =>
    intro b w inst audio
    exact (State.familyWrite_aflow_channels w 0 audio).trans (congrArg some State.writeChannels_zero)
  case channels =>
    intro b w inst n audio counts fit
    obtain ⟨busy, held⟩ := State.writeChannels_of_fit counts fit
    rw [State.familyWrite_aflow_channels w n audio]
    cases found : b.freeBlock inst n with
    | none => exact congrArg some (busy found)
    | some x => exact congrArg some (held x found)

end Sys2Proof.Machine
end

section
/-! Interfaces, neighbours and memberships of packet video (R222, R223, R246 to R249; log entries 58 and 77). -/

namespace Sys2Proof.Machine

/-! ## The arms -/

section
variable (s : State) (t p fam inst leg : Nat)

theorem exec_ethLinkChange (up : Bool) : exec (.ethLinkChange t p up) s = execEthLinkChange t p up s := rfl

theorem exec_addressResolveTimeout : exec (.addressResolveTimeout t fam inst leg) s = execAddressResolveTimeout t fam inst leg s := rfl

theorem exec_arpNdEchoFrameRx (f : NeighbourFrame) : exec (.arpNdEchoFrameRx t p f) s = execArpNdEchoFrameRx t p f s := rfl

theorem exec_mcastQuery (v6 : Bool) (group : Bytes) : exec (.mcastQuery t p v6 group) s = execMcastQuery t p v6 group s := rfl

theorem exec_unsolicitedReport : exec (.unsolicitedReport t fam inst leg) s = execUnsolicitedReport t fam inst leg s := rfl

theorem exec_leaveHoldExpiry : exec (.leaveHoldExpiry t fam inst) s = execLeaveHoldExpiry t fam inst s := rfl

theorem exec_mcastCompatEnter (v6 : Bool) : exec (.mcastCompatEnter t p v6) s = execMcastCompatEnter t p v6 s := rfl

theorem exec_mcastCompatExpiry (v6 : Bool) : exec (.mcastCompatExpiry t p v6) s = execMcastCompatExpiry t p v6 s := rfl

theorem exec_nmosRegistration (found : Bool) : exec (.nmosRegistration t found) s = .next (s.closed
    (if (s.advance t).natNow O.pk_nmos_enable ≠ 1 then (s.advance t).setN O.pk_nmos_state 0
    else if (s.advance t).standby then (s.advance t).setN O.pk_nmos_state 3
    else if found then ((s.advance t).setN O.pk_nmos_state 2).emit (s.advance t).nmosNode
    else (s.advance t).setN O.pk_nmos_state 1)) := rfl

end

/-! ## Objects of packet video after a fault and after a count -/

/-- A fault leaves the objects of packet video alone. -/
theorem besideFault_packet {src inst sub : Nat} : besideFault src ⟨0x3700, inst, sub⟩ = true := by
  simp [besideFault, besideReactions]

theorem State.oct_count_other (s : State) {k k' : Key} (n w : Nat) (other : k' ≠ k) : (s.count k n w).oct k' = s.oct k' := by
  rw [State.oct, State.get_count_other _ other, State.oct]

/-! ## Interfaces and neighbours (R222, R223) -/

theorem State.ethLink_shows (s : State) (p : Nat) (up : Bool) :
    (s.ethLink p up).nat (O.eth_link_state (1 + p)) = if up then 1 else 0 := by
  rw [State.ethLink, (State.followShared_faults ..).nat besideFault_packet, State.nat_setN_same, b01]

/-- A frame that asks for the interface's own IPv4 address is counted and answered. -/
theorem State.neighbour_of_own_arp {s : State} {p : Nat} (addressed : s.nat (O.eth_ipv4_address (1 + p)) ≠ 0) :
    (s.count (O.eth_rx_frames (1 + p)) 1 64).neighbour p (.arpRequest (s.nat (O.eth_ipv4_address (1 + p)))) =
      (s.count (O.eth_rx_frames (1 + p)) 1 64).emit
        (.neighbour p 0 (s.oct (O.eth_mac (1 + p)) ++ beBytes 4 (s.nat (O.eth_ipv4_address (1 + p))))) := by
  have address := s.nat_count_other (k := O.eth_rx_frames (1 + p)) (k' := O.eth_ipv4_address (1 + p)) 1 64 (by simp)
  have mac := s.oct_count_other (k := O.eth_rx_frames (1 + p)) (k' := O.eth_mac (1 + p)) 1 64 (by simp)
  rw [State.neighbour, address, mac]
  exact if_pos ⟨rfl, addressed⟩

section
variable {s a : State} {t p : Nat} (now : a = s.advance t)
include now

theorem exec_ethLinkChange_of_eth (up : Bool) (lane : a.laneExists p = true) (eth : a.isEth p = true) :
    exec (.ethLinkChange t p up) s = .next (s.closed (a.ethLink p up)) := by
  rw [exec_ethLinkChange, execEthLinkChange, done_closed, ← now, if_pos (by simp [lane, eth])]

theorem exec_ethLinkChange_of_foreign (up : Bool) (foreign : a.isEth p = false) :
    exec (.ethLinkChange t p up) s = .next (s.closed a) := by
  rw [exec_ethLinkChange, execEthLinkChange, done_closed, ← now, if_neg (by simp [foreign])]

theorem exec_addressResolveTimeout_of_waiting {fam inst leg since : Nat}
    (waiting : a.packet.resolves = [⟨fam, inst, leg, since, none⟩]) :
    exec (.addressResolveTimeout t fam inst leg) s = .next (s.closed
      (if since + 1000000000 ≤ a.now then a.setN (O.flow_state fam inst) 4 else a)) := by
  rw [exec_addressResolveTimeout, execAddressResolveTimeout, done_closed, ← now, waiting]
  simp [nsPerSec]

/-- A frame at an interface is counted by whether its FCS is right, and a right one is answered or learnt from. -/
theorem exec_arpNdEchoFrameRx_of_eth (f : NeighbourFrame) (lane : a.laneExists p = true) (eth : a.isEth p = true) :
    exec (.arpNdEchoFrameRx t p f) s = .next (s.closed
      (if f = .badFcs then a.count (O.eth_rx_fcs_errors (1 + p)) else (a.count (O.eth_rx_frames (1 + p)) 1 64).neighbour p f)) := by
  rw [exec_arpNdEchoFrameRx, execArpNdEchoFrameRx, done_closed, ← now, if_pos (by simp [lane, eth])]

theorem exec_arpNdEchoFrameRx_of_foreign (f : NeighbourFrame) (foreign : a.isEth p = false) :
    exec (.arpNdEchoFrameRx t p f) s = .next (s.closed a) := by
  rw [exec_arpNdEchoFrameRx, execArpNdEchoFrameRx, done_closed, ← now, if_neg (by simp [foreign])]

end

/-! ## Memberships (R246 to R248) -/

section
variable {s a : State} {t : Nat} (now : a = s.advance t)
include now

theorem exec_mcastQuery_of_no_member {p : Nat} (group : Bytes) (lane : a.laneExists p = true) (eth : a.isEth p = true)
    (noMember : a.packet.members = []) :
    exec (.mcastQuery t p false group) s = .next (s.closed
      (if a.nat (O.eth_igmp_querier (1 + p)) = 0 then a.setN (O.eth_igmp_querier (1 + p)) 1 else a)) := by
  rw [exec_mcastQuery, execMcastQuery, done_closed, ← now, if_neg (by simp [lane, eth]), noMember]
  rfl

theorem exec_unsolicitedReport_of_no_member {fam inst leg : Nat} (noMember : a.packet.members = []) :
    exec (.unsolicitedReport t fam inst leg) s = .next (s.closed a) := by
  rw [exec_unsolicitedReport, execUnsolicitedReport, done_closed, ← now, if_neg (by simp [noMember])]

theorem exec_leaveHoldExpiry_of_no_member {fam inst : Nat} (noMember : a.packet.members = []) :
    exec (.leaveHoldExpiry t fam inst) s = .next (s.closed a) := by
  rw [exec_leaveHoldExpiry, execLeaveHoldExpiry, done_closed, ← now, if_neg (by simp [noMember])]

theorem exec_unsolicitedReport_of_member {m : Member} (only : a.packet.members = [m]) (left : 0 < m.reports) :
    exec (.unsolicitedReport t m.fam m.inst m.leg) s = .next (s.closed
      (({ a with packet := { a.packet with members := [{ m with reports := m.reports - 1 }] } } : State).emit
        (.membership (a.legPort m.fam m.inst m.leg) (a.legAddress m.fam m.inst m.leg) true))) := by
  rw [exec_unsolicitedReport, execUnsolicitedReport, done_closed, ← now, if_pos (by simp [only, left]), only]
  simp

theorem exec_leaveHoldExpiry_of_due {m : Member} {at' : Nat} (only : a.packet.members = [m]) (leaving : m.leaveAt = some at')
    (due : at' ≤ a.now) :
    exec (.leaveHoldExpiry t m.fam m.inst) s = .next (s.closed (a.leaveFlow m.fam m.inst)) := by
  rw [exec_leaveHoldExpiry, execLeaveHoldExpiry, done_closed, ← now, if_pos (by simp [only, leaving, due])]

theorem exec_mcastCompatEnter_of_eth {p : Nat} (v6 : Bool) (lane : a.laneExists p = true) (eth : a.isEth p = true) :
    exec (.mcastCompatEnter t p v6) s = .next (s.closed
      ((a.setN (if v6 then O.eth_mld_querier (1 + p) else O.eth_igmp_querier (1 + p)) 2).follow
        (F.mcastCompat (p / 64)) p (b01 v6) true)) := by
  rw [exec_mcastCompatEnter, execMcastCompatEnter, done_closed, ← now, if_neg (by simp [lane, eth])]

theorem exec_mcastCompatExpiry_of_newer {p : Nat} (newer : a.nat (O.eth_igmp_querier (1 + p)) ≠ 2) :
    exec (.mcastCompatExpiry t p false) s = .next (s.closed a) := by
  rw [exec_mcastCompatExpiry, execMcastCompatExpiry, done_closed, ← now, if_neg Bool.false_ne_true, if_neg newer]

theorem exec_mcastCompatExpiry_of_older {p : Nat} (older : a.nat (O.eth_igmp_querier (1 + p)) = 2) :
    ∃ u, exec (.mcastCompatExpiry t p false) s = .next (s.closed u) ∧ u.nat (O.eth_igmp_querier (1 + p)) = 0 := by
  rw [exec_mcastCompatExpiry, execMcastCompatExpiry, done_closed, ← now, if_neg Bool.false_ne_true, if_pos older]
  refine ⟨_, rfl, ?_⟩
  rw [(State.followShared_faults ..).nat besideFault_packet, State.nat_setN_same]

end

end Sys2Proof.Machine
end

section
/-! Reception, merging, release and activation of packet video (R235 to R243, R251). -/

namespace Sys2Proof.Machine

/-! ## The arms -/

section
variable (s : State) (t fam inst leg : Nat)

theorem exec_rxPacket (pkt : RxPacket) : exec (.rxPacket t fam inst leg pkt) s = execRxPacket t fam inst leg pkt s := rfl

theorem exec_mergeLostDeclare (seq : Nat) : exec (.mergeLostDeclare t fam inst seq) s = execMergeLostDeclare t fam inst seq s := rfl

theorem exec_standaloneRelease (seq : Nat) : exec (.standaloneRelease t fam inst seq) s = execStandaloneRelease t fam inst seq s := rfl

theorem exec_legDown : exec (.legDown t fam inst leg) s = execLegDown t fam inst leg s := rfl

theorem exec_mergeSkewCheck : exec (.mergeSkewCheck t fam inst) s = execMergeSkewCheck t fam inst s := rfl

theorem exec_frameRelease (g : Nat) : exec (.frameRelease t g) s = execFrameRelease t g s := rfl

theorem exec_is05Activation (legs : List Is05Leg) (sched : Option Nat) :
    exec (.is05Activation t fam inst legs sched) s = execIs05Activation t fam inst legs sched s := rfl

theorem exec_is05ScheduledActivation :
    exec (.is05ScheduledActivation t fam inst) s = execIs05ScheduledActivation t fam inst s := rfl

end

/-! ## Packets of legs (R235) -/

section
variable {s a : State} {t : Nat} (now : a = s.advance t)
include now

theorem exec_rxPacket_of_no_flow {fam inst leg : Nat} {pkt : RxPacket} (lane : a.laneExists pkt.port = true)
    (eth : a.isEth pkt.port = true) (noFlow : a.packet.rx = []) :
    exec (.rxPacket t fam inst leg pkt) s = .next (s.closed (a.count (O.eth_rx_frames (1 + pkt.port)) 1 64)) := by
  have unheard : (a.count (O.eth_rx_frames (1 + pkt.port)) 1 64).rxOf fam inst = none := by simp [State.rxOf, noFlow]
  rw [exec_rxPacket, execRxPacket, done_closed, ← now, if_pos (by simp [lane, eth])]
  dsimp only
  rw [unheard]

theorem exec_rxPacket_of_leg {fam inst leg : Nat} {pkt : RxPacket} {r : RxFlow} (foreign : a.isEth pkt.port = false)
    (flow : a.rxOf fam inst = some r) (has : leg ∈ a.legs fam inst) :
    exec (.rxPacket t fam inst leg pkt) s = .next (s.closed (a.receive r leg pkt)) := by
  rw [exec_rxPacket, execRxPacket, done_closed, ← now, if_neg (by simp [foreign])]
  simp [flow, has]

end

/-- A packet of a leg with another payload type is rejected and counted. -/
theorem State.receive_of_other_type {s : State} {r : RxFlow} {leg : Nat} {pkt : RxPacket}
    (reaches : s.legMatches r.fam r.inst leg pkt = true) (other : pkt.payloadType ≠ s.nat (O.flow_payload_type r.fam r.inst)) :
    s.receive r leg pkt = s.count O.pk_rejected_packets := by
  rw [State.receive, if_neg (by simp [reaches]), if_pos (.inl other)]

/-! ## Flows that are not received -/

section
variable {s a : State} {t fam inst : Nat} (now : a = s.advance t) (noFlow : a.rxOf fam inst = none)
include now noFlow

theorem exec_mergeLostDeclare_of_no_flow (seq : Nat) : exec (.mergeLostDeclare t fam inst seq) s = .next (s.closed a) := by
  rw [exec_mergeLostDeclare, execMergeLostDeclare, done_closed, ← now, noFlow]
  rfl

theorem exec_standaloneRelease_of_no_flow (seq : Nat) : exec (.standaloneRelease t fam inst seq) s = .next (s.closed a) := by
  rw [exec_standaloneRelease, execStandaloneRelease, done_closed, ← now, noFlow]

theorem exec_mergeSkewCheck_of_no_flow : exec (.mergeSkewCheck t fam inst) s = .next (s.closed a) := by
  rw [exec_mergeSkewCheck, execMergeSkewCheck, done_closed, ← now, noFlow]

theorem exec_legDown_of_no_flow (leg : Nat) : exec (.legDown t fam inst leg) s = .next (s.closed a) := by
  rw [exec_legDown, execLegDown, done_closed, ← now, noFlow]

end

/-! ## Sequences lost and late, legs down and the skew of legs (R239, R241 to R243) -/

section
variable {s a : State} {t fam inst : Nat} {r : RxFlow} (now : a = s.advance t) (flow : a.rxOf fam inst = some r)
include now flow

theorem exec_mergeLostDeclare_of_due {seq at' : Nat} (missing : r.missing = [(seq, at')])
    (due : at' + a.nat (O.flow_merge_window fam inst) ≤ a.now) :
    exec (.mergeLostDeclare t fam inst seq) s = .next (s.closed ((a.modRx fam inst (fun r =>
      { r with missing := r.missing.filter (fun x => x ≠ (seq, at')), lost := r.lost ++ [seq] })).count (O.flow_lost fam inst))) := by
  rw [exec_mergeLostDeclare, execMergeLostDeclare, done_closed, ← now, flow]
  simp [missing, due]

theorem exec_standaloneRelease_of_late {seq : Nat} (audio : fam = 0x3700) (empty : r.held = []) :
    exec (.standaloneRelease t fam inst seq) s = .next (s.closed (a.count (O.flow_late fam inst) (a.aflowSamples inst))) := by
  rw [exec_standaloneRelease, execStandaloneRelease, done_closed, ← now, flow]
  simp [empty, audio]

theorem exec_legDown_of_absent {leg : Nat} (absent : leg ∉ a.legs fam inst) :
    exec (.legDown t fam inst leg) s = .next (s.closed a) := by
  rw [exec_legDown, execLegDown, done_closed, ← now, flow]
  simp [absent]

/-- Leg A goes down while leg B does not: the flow goes on by leg B. -/
theorem exec_legDown_of_one {at' : Nat} (two : a.legs fam inst = [0, 1]) (last : r.lastA = some at')
    (due : at' + 10000000 ≤ a.now) (other : r.downB = false) :
    exec (.legDown t fam inst 0) s = .next (s.closed (((a.modRx fam inst (fun r => { r with downA := true })).follow
      (F.legDown (a.flowTile fam inst)) (a.legPort fam inst 0) inst true).showFlow fam inst)) := by
  have silent : ¬a.now < at' + 10000000 := not_lt.2 due
  rw [exec_legDown, execLegDown, done_closed, ← now, flow]
  simp [two, last, silent, other]

/-- Without differences between its legs a flow has no skew, and where it is the only one its tile's fault ends. -/
theorem exec_mergeSkewCheck_of_no_difference (only : a.packet.rx = [r]) (equal : r.diffs = []) :
    exec (.mergeSkewCheck t fam inst) s = .next (s.closed (((a.setI (O.flow_path_diff fam inst) 0).modRx fam inst
      (fun r => { r with skewSince := none })).endFault (F.mergeSkew (a.flowTile fam inst)))) := by
  rw [exec_mergeSkewCheck, execMergeSkewCheck, done_closed, ← now, flow]
  simp [equal, only, meanDiff, State.followShared]

end

/-! ## Frames of receive groups (R237, R238) -/

section
variable {s : State} {g : Nat}

theorem State.releaseFrame_of_whole {v : Nat} {r : RxFlow} (members : s.groupMembers false g = [(0x3700, v)])
    (video : s.groupVideo false g = [v]) (flow : s.rxOf 0x3700 v = some r) (whole : r.complete = true) :
    s.releaseFrame g = (s.modRx 0x3700 v RxFlow.dropFrame).frameStart (1024 + g) 0 := by
  simp [State.releaseFrame, members, video, flow, whole]

theorem State.releaseFrame_of_absent (members : s.groupMembers false g = []) (video : s.groupVideo false g = [])
    (absent : s.nat (O.src_timing_state (1024 + g)) = 0) : s.releaseFrame g = s := by
  simp [State.releaseFrame, members, video, absent]

variable {a : State} {t : Nat} (now : a = s.advance t)
include now

theorem exec_frameRelease_of_disabled (disabled : a.flag (O.grp_enable (2048 + g)) = false) :
    exec (.frameRelease t g) s = .next (s.closed a) := by
  rw [exec_frameRelease, execFrameRelease, done_closed, ← now, if_neg (by simp [disabled])]

theorem exec_frameRelease_of_enabled (group : g < 2048) (enabled : a.flag (O.grp_enable (2048 + g)) = true) :
    exec (.frameRelease t g) s = .next (s.closed (a.releaseFrame g)) := by
  rw [exec_frameRelease, execFrameRelease, done_closed, ← now, if_pos ⟨group, enabled⟩]

end

/-! ## Activations (R251) -/

section
variable {s a : State} {t fam inst : Nat} {legs : List Is05Leg} (now : a = s.advance t)
include now

theorem exec_is05Activation_of_denied (sched : Option Nat) (denied : a.nmosWrites = false) :
    exec (.is05Activation t fam inst legs sched) s = .next (s.closed (a.emit (.result (O.flow_enable fam inst) C.denied))) := by
  rw [exec_is05Activation]
  unfold execIs05Activation
  rw [done_closed, ← now, if_pos (by simp [denied])]

theorem exec_is05Activation_of_instant {at' : Nat} (allowed : a.nmosWrites = true) (empty : a.packet.is05 = []) :
    exec (.is05Activation t fam inst legs (some at')) s =
      .next (s.closed { a with packet := { a.packet with is05 := [⟨fam, inst, legs, at'⟩] } }) := by
  rw [exec_is05Activation, execIs05Activation, done_closed, ← now, if_neg (by simp [allowed]), empty]
  rfl

theorem exec_is05Activation_of_now (allowed : a.nmosWrites = true) :
    exec (.is05Activation t fam inst legs none) s = .next (s.closed ((a.activateIs05 fam inst legs).2.emit
      (.result (O.flow_enable fam inst) (a.activateIs05 fam inst legs).1))) := by
  rw [exec_is05Activation, execIs05Activation, done_closed, ← now, if_neg (by simp [allowed])]

theorem exec_is05ScheduledActivation_of_early {at' : Nat} (staged : a.packet.is05 = [⟨fam, inst, legs, at'⟩])
    (early : a.tbNow 0 < at') : exec (.is05ScheduledActivation t fam inst) s = .next (s.closed a) := by
  rw [exec_is05ScheduledActivation, execIs05ScheduledActivation, done_closed, ← now, staged]
  simp [early]

theorem exec_is05ScheduledActivation_of_applied {u : State} {at' : Nat} (staged : a.packet.is05 = [⟨fam, inst, legs, at'⟩])
    (due : at' ≤ a.tbNow 0) (applied : a.activateIs05 fam inst legs = (0, u)) (kept : u.packet.is05 = a.packet.is05) :
    exec (.is05ScheduledActivation t fam inst) s =
      .next (s.closed (({ u with packet := { u.packet with is05 := [] } } : State).emit (.result (O.flow_enable fam inst) 0))) := by
  rw [exec_is05ScheduledActivation, execIs05ScheduledActivation, done_closed, ← now, staged]
  simp [due, applied, kept, staged]

end

/-- Settles O34: each event by the lemma about it for the state of its arrival. That a PAUSE frame is counted in rx_frames is log
entry 77, and that an interface goes back to the newest version log entry 58. -/
theorem interfaceAndReceptionEventsComplete : Obligations.InterfaceAndReceptionEventsComplete := by
  unfold Obligations.InterfaceAndReceptionEventsComplete
  refine ⟨⟨?links, ?noLink, ?resolves, ?arp, ?frames, ?foreignFrame, ?queries, ?noMember, ?reports, ?leaves, ?enters, ?newer, ?older,
    ?registers⟩, ?counted, ?rejected, ?noFlow, ?lost, ?late, ?noLeg, ?legDown, ?noSkew, ?disabled, ?releases, ?whole, ?absent, ?denied,
    ?staged, ?atOnce, ?early, ?applied⟩
  case links => exact fun s a t p up now lane eth => ⟨_, exec_ethLinkChange_of_eth now up lane eth, a.ethLink_shows p up⟩
  case noLink => exact fun s a t p up now => exec_ethLinkChange_of_foreign now up
  case resolves => exact fun s a t fam inst leg since now => exec_addressResolveTimeout_of_waiting now
  case arp =>
    rintro s a t p _ now lane eth rfl addressed
    rw [exec_arpNdEchoFrameRx_of_eth now _ lane eth, if_neg (by simp), State.neighbour_of_own_arp addressed]
  case frames =>
    exact fun s a t p now lane eth =>
      ⟨exec_arpNdEchoFrameRx_of_eth now .badFcs lane eth, exec_arpNdEchoFrameRx_of_eth now .pause lane eth⟩
  case foreignFrame => exact fun s a t p f now => exec_arpNdEchoFrameRx_of_foreign now f
  case queries => exact fun s a t p group now => exec_mcastQuery_of_no_member now group
  case noMember =>
    exact fun s a t fam inst leg now noMember =>
      ⟨exec_unsolicitedReport_of_no_member now noMember, exec_leaveHoldExpiry_of_no_member now noMember⟩
  case reports => exact fun s a t m now => exec_unsolicitedReport_of_member now
  case leaves => exact fun s a t at' m now => exec_leaveHoldExpiry_of_due now
  case enters =>
    exact fun s a t p now lane eth =>
      ⟨exec_mcastCompatEnter_of_eth now false lane eth, exec_mcastCompatEnter_of_eth now true lane eth⟩
  case newer => exact fun s a t p now => exec_mcastCompatExpiry_of_newer now
  case older => exact fun s a t p now => exec_mcastCompatExpiry_of_older now
  case registers =>
    rintro s _ t found rfl
    exact exec_nmosRegistration s t found
  case counted => exact fun s a t fam inst leg pkt now => exec_rxPacket_of_no_flow now
  case rejected =>
    rintro s a t _ _ leg pkt r now foreign flow has rfl rfl reaches other
    rw [exec_rxPacket_of_leg now foreign flow has, State.receive_of_other_type reaches other]
  case noFlow =>
    exact fun s a t fam inst seq now noFlow => ⟨exec_mergeLostDeclare_of_no_flow now noFlow seq,
      exec_standaloneRelease_of_no_flow now noFlow seq, exec_mergeSkewCheck_of_no_flow now noFlow, exec_legDown_of_no_flow now noFlow⟩
  case lost => exact fun s a t inst seq at' r now flow => exec_mergeLostDeclare_of_due now flow
  case late => exact fun s a t inst seq r now flow => exec_standaloneRelease_of_late now flow rfl
  case noLeg => exact fun s a t fam inst leg r now flow => exec_legDown_of_absent now flow
  case legDown => exact fun s a t fam inst at' r now flow => exec_legDown_of_one now flow
  case noSkew => exact fun s a t fam inst r now flow only _ _ => exec_mergeSkewCheck_of_no_difference now flow only
  case disabled => exact fun s a t g now => exec_frameRelease_of_disabled now
  case releases => exact fun s a t g now => exec_frameRelease_of_enabled now
  case whole => exact fun a g v r => State.releaseFrame_of_whole
  case absent =>
    intro s a t g now group enabled members video absent
    rw [exec_frameRelease_of_enabled now group enabled, State.releaseFrame_of_absent members video absent]
  case denied => exact fun s a t fam inst legs sched now => exec_is05Activation_of_denied now sched
  case staged => exact fun s a t fam inst at' legs now => exec_is05Activation_of_instant now
  case atOnce => exact fun s a t fam inst legs now => exec_is05Activation_of_now now
  case early => exact fun s a t fam inst at' legs now => exec_is05ScheduledActivation_of_early now
  case applied => exact fun s a u t fam inst at' legs now => exec_is05ScheduledActivation_of_applied now

end Sys2Proof.Machine
end

section
/-! Writes of composition: fences, layers, commit groups, images, heads and scalers (R256, R258, R268, R270 to R273, R275, R277, R278). -/

namespace Sys2Proof.Machine

/-! ## The rule of each object -/

section
variable {s : State} (w : Writer)

theorem State.familyWrite_composition {fam : Nat} (h : fam = 0x3800 ∨ fam = 0x3900 ∨ fam = 0x3A00 ∨ fam = 0x3B00) (inst sub : Nat)
    (v : Val) : s.familyWrite w [] ⟨fam, inst, sub⟩ v = s.writeComposition w ⟨fam, inst, sub⟩ v := by
  rcases h with rfl | rfl | rfl | rfl <;> simp [State.familyWrite, State.lullRefuses]

theorem State.familyWrite_fence_value (f v : Nat) : s.familyWrite w [] (O.fence_value f) (.n v) = some (s.raiseFence f v) :=
  State.familyWrite_composition w (by decide) ..

theorem State.familyWrite_fence_reset (f : Nat) : s.familyWrite w [] (O.fence_reset f) (.n 1) = some (s.resetFence f true) :=
  State.familyWrite_composition w (by decide) ..

theorem State.familyWrite_head_class (h cls : Nat) : s.familyWrite w [] (O.head_class h) (.n cls) = some (s.writeClass h cls) :=
  State.familyWrite_composition w (by decide) ..

theorem State.familyWrite_head_out_port (h p : Nat) : s.familyWrite w [] (O.head_out_port h) (.n p) = some (s.bindPort h p) :=
  State.familyWrite_composition w (by decide) ..

theorem State.familyWrite_scaler_pair_with (n m : Nat) : s.familyWrite w [] (O.scaler_pair_with n) (.n m) = some (s.writePair n m) :=
  State.familyWrite_composition w (by decide) ..

theorem State.familyWrite_cgroup_commit {g : Nat} (group : 2048 ≤ g) :
    s.familyWrite w [] (O.cgroup_commit g) (.n 1) = some (s.writeGroupCommit w g true) :=
  (State.familyWrite_composition w (by decide) ..).trans (if_neg (not_lt.2 group))

section
variable {l : Nat} (layer : l < 2048)
include layer

theorem State.familyWrite_layer (sub : Nat) (v : Val) : s.familyWrite w [] ⟨0x3900, l, sub⟩ v = s.writeLayer w l sub v :=
  (State.familyWrite_composition w (by decide) ..).trans (if_pos layer)

theorem State.familyWrite_layer_claim (v : Nat) : s.familyWrite w [] (O.layer_claim l) (.n v) = some (s.claimLayer w l v) :=
  State.familyWrite_layer w layer ..

theorem State.familyWrite_layer_group (g : Nat) : s.familyWrite w [] (O.layer_group l) (.n g) = some (s.writeGroup10 l g) :=
  State.familyWrite_layer w layer ..

/-- The objects marked "owner" are not written by a session that may not (R275). -/
theorem State.familyWrite_layer_of_not_owner {sub : Nat} (v : Val) (owner : ownerSub sub = true) (barred : s.mayWriteLayer w l sub = false) :
    s.familyWrite w [] ⟨0x3900, l, sub⟩ v = some (C.notOwner, s) :=
  (State.familyWrite_layer w layer ..).trans (if_pos (by simp [owner, barred]))

theorem State.familyWrite_layer_commit (mine : s.mayWriteLayer w l 0x14 = true) :
    s.familyWrite w [] (O.layer_commit l) (.n 1) = some (s.writeCommit l true) :=
  (State.familyWrite_layer w layer ..).trans (if_neg (by simp [mine]))

theorem State.familyWrite_layer_image (image : Bytes) (mine : s.mayWriteLayer w l 0x15 = true) :
    s.familyWrite w [] (O.layer_image l) (.b image) = some (s.writeImage l image) :=
  (State.familyWrite_layer w layer ..).trans (if_neg (by simp [mine]))

theorem State.familyWrite_layer_elements (els : Bytes) (mine : s.mayWriteLayer w l 0x16 = true) :
    s.familyWrite w [] (O.layer_elements l) (.b els) = some (s.writeElements l els) :=
  (State.familyWrite_layer w layer ..).trans (if_neg (by simp [mine]))

end

end

/-! ## Fences (R272) -/

section
variable {s : State} {f v : Nat}

theorem State.raiseFence_of_lower (lower : v < s.nat (O.fence_value f)) : s.raiseFence f v = (C.range, s) := if_pos lower

theorem State.raiseFence_frees (given : f ≠ none16) (rises : s.nat (O.fence_value f) ≤ v) : ∃ u, s.raiseFence f v = (0, u) ∧
    u.nat (O.fence_value f) = v ∧ u.comp.commits.length = s.comp.commits.length ∧ (∀ c ∈ u.comp.commits, c.fence = f → v < c.value) ∧
    ∀ k, k ≠ O.fence_value f → u.get k = s.get k := by
  refine ⟨_, if_neg (not_lt.2 rises), s.nat_setN_same .., List.length_map _, fun c mem waits => ?_, fun k other => ?_⟩
  · obtain ⟨old, -, rfl⟩ := List.mem_map.1 mem
    by_cases reached : old.fence = f ∧ old.value ≤ v
    · simp only [if_pos reached] at waits
      exact absurd waits.symm given
    · simp only [if_neg reached] at waits ⊢
      exact not_le.1 fun low => reached ⟨waits, low⟩
  · exact (s.get_setN ..).trans (if_neg other)

theorem State.resetFence_on (s : State) (f : Nat) :
    s.resetFence f true = if s.fenceWaiters f = 0 then (0, s.setN (O.fence_value f) 0) else (C.busy, s) := by
  simp [State.resetFence]

end

/-! ## Ownership of layers (R275) -/

section
variable {s : State} {w : Writer} {l : Nat}

theorem State.claimLayer_of_free (free : s.layerOwner l = 0 ∨ (s.layerOwner l = 1 ∧ s.nat (O.layer_owner_session l) = 0) ∨ w.role = 3 ∨
    w.role = 4) : s.claimLayer w l 1 = (0, (s.setN (O.layer_owner l) 1).setN (O.layer_owner_session l) w.session) :=
  if_pos (by simpa [or_assoc] using free)

theorem State.claimLayer_of_twins (twins : s.layerOwner l = 2) (role : w.role < 3) : s.claimLayer w l 1 = (C.busy, s) := by
  have notSenior : w.role ≠ 3 ∧ w.role ≠ 4 := by omega
  exact if_neg (by simp [twins, notSenior])

theorem State.claimLayer_release (s : State) (w : Writer) (l : Nat) : s.claimLayer w l 2 =
    if s.ownsLayer w l ∨ 2 ≤ w.role then (0, (s.setN (O.layer_owner l) 0).setN (O.layer_owner_session l) 0) else (C.notOwner, s) := by
  simp [State.claimLayer]

theorem State.claimLayer_to_renderer (s : State) (w : Writer) (l : Nat) : s.claimLayer w l 3 =
    if s.ownsLayer w l then (0, (s.setN (O.layer_owner l) 1).setN (O.layer_owner_session l) 0) else (C.notOwner, s) := rfl

end

/-! ## Commit groups (R273) -/

section
variable {s : State} {l g : Nat}

theorem State.layerGroup_of_none16 (alone : s.nat (O.layer_group l) = none16) : s.layerGroup l = none := if_pos alone

theorem State.writeGroup10_of_foreign (given : g ≠ none16) (foreign : ¬(2048 + 16 * (l / 128) ≤ g ∧ g < 2064 + 16 * (l / 128))) :
    s.writeGroup10 l g = (C.range, s) := if_pos ⟨given, foreign⟩

theorem State.writeGroup10_leave (alone : s.nat (O.layer_group l) = none16) :
    s.writeGroup10 l none16 = (0, s.setN (O.layer_group l) none16) := by
  simp [State.writeGroup10, State.layerGroup_of_none16 alone]

theorem State.writeGroup10_join (alone : s.nat (O.layer_group l) = none16) (low : 2048 + 16 * (l / 128) ≤ g)
    (high : g < 2064 + 16 * (l / 128)) (idle : s.groupPending g = none) (head : s.nat (O.cgroup_head g) = s.nat (O.layer_head l))
    (marks : ∀ m ∈ s.commitMembers g, s.flag (O.layer_mirror m) = s.flag (O.layer_mirror l)) :
    s.writeGroup10 l g = (0, s.setN (O.layer_group l) g) := by
  simpa [State.writeGroup10, State.layerGroup_of_none16 alone, low, high, idle, head] using fun _ m mem _ => marks m mem

end

/-! ## Commits (R270, R273) -/

section
variable {s : State} {w : Writer} {l g h : Nat}

theorem State.writeCommit_of_grouped (grouped : (s.layerGroup l).isSome = true) : s.writeCommit l true = (C.busy, s) := if_pos grouped

theorem State.writeCommit_of_lone (lone : s.layerGroup l = none) (head : s.flipHead l = some h) (free : s.layerSteeps l = false) :
    s.writeCommit l true = (0, { s with comp := { s.comp with
      commits := s.comp.commits ++ [⟨l, s.firstFlip h, (s.fenceAt l).1, (s.fenceAt l).2⟩] } }) := by
  simp [State.writeCommit, State.commitLayer, lone, head, free]

theorem State.writeGroupCommit_of_barred {m : Nat} (mem : m ∈ s.commitMembers g) (barred : s.mayWriteLayer w m 0x14 = false) :
    s.writeGroupCommit w g true = (C.notOwner, s) := if_pos (by simpa using ⟨m, mem, barred⟩)

/-- A commit of a group that has one pending replaces it (log entry 15). -/
theorem State.writeGroupCommit_of_members {ls : List Nat} (members : s.commitMembers g = l :: ls)
    (mine : ∀ m ∈ l :: ls, s.mayWriteLayer w m 0x14 = true) (head : s.flipHead l = some h) :
    s.writeGroupCommit w g true = (0, { s with comp := { s.comp with groups := s.comp.groups.filter (fun c => c.group ≠ g) ++
      [⟨g, s.firstFlip h, (l :: ls).map (fun m => (m, s.fenceAt m))⟩] } }) := by
  have allMine : (l :: ls).all (fun m => s.mayWriteLayer w m 0x14) = true := List.all_eq_true.2 mine
  simp [State.writeGroupCommit, members, allMine, head]

end

/-! ## Images and element lists (R277, R278) -/

section
variable {s : State} {l : Nat}

theorem State.writeImage_of_refused {code : Nat} {image : Bytes} (judged : s.judgeImage l image = .error code) :
    s.writeImage l image = (code, s) := by
  simp only [State.writeImage, judged]

theorem State.writeImage_of_unmarked {image palette : Bytes} {r : ImageRect} (judged : s.judgeImage l image = .ok (r, palette))
    (unmarked : s.flag (O.layer_mirror l) = false) : s.writeImage l image = (0, (s.putImage { s.imageOf l with
      back := (s.imageOf l).back.filter (fun x => !r.covers x) ++ [r], palette := palette }).autoCommit l) := by
  have stillUnmarked (i : LayerImage) : (s.putImage i).flag (O.layer_mirror l) = false := unmarked
  simp [State.writeImage, judged, stillUnmarked]

theorem State.writeElements_eq (s : State) (l : Nat) (els : Bytes) : s.writeElements l els =
    if els.length % 32 = 0 ∧ els.length / 32 ≤ 64 ∧ (records 32 els).all elementOk
      then (0, (s.setLater (O.layer_elements l) (.b els)).autoCommit l) else (C.busy, s) := by
  by_cases fit : els.length % 32 = 0 ∧ els.length / 32 ≤ 64 ∧ (records 32 els).all elementOk
  · obtain ⟨whole, few, good⟩ := fit
    rw [if_pos ⟨whole, few, good⟩]
    exact if_neg (by simp [whole, few, good])
  · rw [if_neg fit]
    refine if_pos ?_
    by_contra sound
    simp only [not_or, not_not, not_lt, Bool.not_eq_true', Bool.not_eq_false] at sound
    exact fit sound

end

/-! ## Heads and scalers (R256, R258, R268) -/

section
variable {s : State} {h p n m o : Nat}

theorem State.writeClass_eq (s : State) (h cls : Nat) : s.writeClass h cls =
    if s.fanout (s.srcId 0 (3072 + h)) = [] then (0, s.setN (O.head_class h) cls) else (C.busy, s) := by
  simp [State.writeClass]

theorem State.bindPort_none (s : State) (h : Nat) : s.bindPort h none16 = (0, s.setN (O.head_out_port h) none16) := if_pos rfl

theorem State.bindPort_of_other_tile (given : p ≠ none16) (other : p / 64 ≠ h / 4) : s.bindPort h p = (C.range, s) := by
  rw [State.bindPort, if_neg given, if_pos (.inl other)]

theorem State.writePair_of_itself (given : m ≠ none8) (itself : 64 * (n / 64) + m = n) : s.writePair n m = (C.range, s) := by
  rw [State.writePair, if_neg given]
  exact if_pos itself

theorem State.writePair_of_unpaired (alone : s.pairWith n = none) : s.writePair n none8 = (0, s) := by
  simp [State.writePair, alone]

theorem State.writePair_of_alone (given : m ≠ none8) (partner : o = 64 * (n / 64) + m) (other : o ≠ n) (alone : s.pairWith n = none)
    (partnerAlone : s.pairWith o = none) : s.writePair n m =
      (0, [n, o].foldl (fun st i => (st.setN (O.scaler_allocation i) (max (s.needNow n) (s.needNow o))).reviewScaler i)
        ((s.setN (O.scaler_pair_with n) m).setN (O.scaler_pair_with o) (n % 64))) := by
  subst partner
  rw [State.writePair, if_neg given]
  simp only [if_neg other, alone, partnerAlone, Option.isSome_none, Bool.false_eq_true, or_self, if_false]

end

/-- Settles O13: each write is handed to its operation, and each clause is what the operation does where its hypotheses hold. That a
group's commit replaces a pending one is log entry 15. -/
theorem compositionWriteRules : Obligations.CompositionWriteRules := by
  unfold Obligations.CompositionWriteRules
  refine ⟨⟨?lower, ?raised, ?reset, ?claimed, ?twins, ?released, ?given, ?left, ?foreignGroup, ?joined⟩,
    ?lone, ?notOwner, ?grouped, ?group, ?notOwners, ?badImage, ?image, ?elements, ?headClass, ?unbound, ?otherTile, ?itself, ?unpaired,
    ?paired⟩
  case lower => exact fun b w f v lower => (b.familyWrite_fence_value w f v).trans (congrArg some (State.raiseFence_of_lower lower))
  case raised =>
    intro b w f v given rises
    simpa only [State.familyWrite_fence_value, Option.some.injEq] using State.raiseFence_frees given rises
  case reset => exact fun b w f => (b.familyWrite_fence_reset w f).trans (congrArg some (b.resetFence_on f))
  case claimed =>
    intro b w l layer free
    rw [← State.claimLayer_of_free free]
    exact State.familyWrite_layer_claim w layer 1
  case twins =>
    intro b w l layer twins role
    rw [← State.claimLayer_of_twins twins role]
    exact State.familyWrite_layer_claim w layer 1
  case released =>
    intro b w l layer
    rw [← State.claimLayer_release]
    exact State.familyWrite_layer_claim w layer 2
  case given =>
    intro b w l layer
    rw [← State.claimLayer_to_renderer]
    exact State.familyWrite_layer_claim w layer 3
  case left =>
    intro b w l layer alone
    rw [State.familyWrite_layer_group w layer, State.writeGroup10_leave alone]
  case foreignGroup =>
    intro b w l g layer _ given foreign
    rw [State.familyWrite_layer_group w layer, State.writeGroup10_of_foreign given foreign]
  case joined =>
    intro b w l g layer alone low high idle head marks
    rw [State.familyWrite_layer_group w layer, State.writeGroup10_join alone low high idle head marks]
  case lone =>
    intro b w l h layer mine lone head free
    rw [State.familyWrite_layer_commit w layer mine, State.writeCommit_of_lone lone head free]
  case notOwner => exact fun b w l layer barred => State.familyWrite_layer_of_not_owner w layer _ rfl barred
  case grouped =>
    intro b w l layer mine grouped
    rw [State.familyWrite_layer_commit w layer mine, State.writeCommit_of_grouped grouped]
  case group =>
    intro b w g l h ls group members mine head
    rw [State.familyWrite_cgroup_commit w group, State.writeGroupCommit_of_members members mine head]
  case notOwners =>
    intro b w g m group mem barred
    rw [State.familyWrite_cgroup_commit w group, State.writeGroupCommit_of_barred mem barred]
  case badImage =>
    intro b w l code image layer mine judged
    rw [State.familyWrite_layer_image w layer image mine, State.writeImage_of_refused judged]
  case image =>
    intro b w l image palette r layer mine judged unmarked
    rw [State.familyWrite_layer_image w layer image mine, State.writeImage_of_unmarked judged unmarked]
  case elements =>
    intro b w l els layer mine
    rw [State.familyWrite_layer_elements w layer els mine, State.writeElements_eq]
  case headClass => exact fun b w h cls => (b.familyWrite_head_class w h cls).trans (congrArg some (b.writeClass_eq h cls))
  case unbound => exact fun b w h => (b.familyWrite_head_out_port w h none16).trans (congrArg some (b.bindPort_none h))
  case otherTile =>
    intro b w h p given other
    rw [State.familyWrite_head_out_port, State.bindPort_of_other_tile given other]
  case itself =>
    intro b w n m given itself
    rw [State.familyWrite_scaler_pair_with, State.writePair_of_itself given itself]
  case unpaired =>
    intro b w n alone
    rw [State.familyWrite_scaler_pair_with, State.writePair_of_unpaired alone]
  case paired =>
    intro b w n m o need given partner other alone partnerAlone booked
    rw [State.familyWrite_scaler_pair_with, State.writePair_of_alone given partner other alone partnerAlone, booked]

end Sys2Proof.Machine
end

section
/-! Events of composition: read instants, window frames, flip points, deadlines of groups, redraws and the twin's acknowledgements
(R262, R267, R270, R271, R273, R276, R278). -/

namespace Sys2Proof.Machine

/-! ## The arms -/

section
variable (s : State) (t i : Nat)

theorem exec_headReadInstant : exec (.headReadInstant t i) s = execHeadReadInstant t i s := rfl

theorem exec_flipPoint : exec (.flipPoint t i) s = execFlipPoint t i s := rfl

theorem exec_scalerFrameWrite : exec (.scalerFrameWrite t i) s = execScalerFrameWrite t i s := rfl

theorem exec_commitTimeout : exec (.commitTimeout t i) s = execCommitTimeout t i s := rfl

theorem exec_rendererRedraw (finished : Bool) : exec (.rendererRedraw t i finished) s = .next (s.closed
    (if i < 2048 ∧ (s.advance t).nat (O.layer_content i) = 3 ∧ finished then (s.advance t).autoCommit i else s.advance t)) := rfl

theorem exec_mirrorImageAck : exec (.mirrorImageAck t i) s = .next (s.closed
    { s.advance t with comp := { (s.advance t).comp with waits := (s.advance t).comp.waits.filter (fun e => e.1 ≠ i) } }) := rfl

theorem exec_mirrorFlipAlone : exec (.mirrorFlipAlone t i) s = execMirrorFlipAlone t i s := rfl

end

/-! ## Heads (R262, R271) -/

section
variable {s a : State} {t h : Nat}

theorem State.headRead_of_monitor (monitor : a.nat (O.head_class h) = 0) : a.headRead h = a := if_pos (.inl monitor)

theorem State.headRead_of_bare (composed : a.nat (O.head_class h) = 1)
    (aligned : a.realigning (a.vsrcOffset (3072 + h)).2 (a.nat (O.head_format h)) (a.vsrcOffset (3072 + h)).1 = false)
    (bare : a.stackNow h = []) :
    a.headRead h = (a.count (O.head_frames h)).emit (.composed h (a.natNow (O.head_background h)) []) := by
  simp [State.headRead, composed, aligned, bare]

variable (now : a = s.advance t)
include now

theorem exec_head_events_of_head (head : h < 64) :
    exec (.headReadInstant t h) s = .next (s.closed (a.headRead h)) ∧ exec (.flipPoint t h) s = .next (s.closed (a.flipPoint h)) := by
  rw [exec_headReadInstant, execHeadReadInstant, exec_flipPoint, execFlipPoint, done_closed, done_closed, ← now,
    if_neg (not_le.2 head), if_neg (not_le.2 head)]
  exact ⟨rfl, rfl⟩

theorem exec_head_events_of_none (noHead : 64 ≤ h) :
    exec (.headReadInstant t h) s = .next (s.closed a) ∧ exec (.flipPoint t h) s = .next (s.closed a) := by
  rw [exec_headReadInstant, execHeadReadInstant, exec_flipPoint, execFlipPoint, done_closed, done_closed, ← now,
    if_pos noHead, if_pos noHead]
  exact ⟨rfl, rfl⟩

end

/-! ## Scalers and the renderer (R262, R278) -/

section
variable {s a : State} {t i : Nat} (now : a = s.advance t)
include now

theorem exec_scalerFrameWrite_of_writing (writing : (a.scalerRec i).writing = true) :
    exec (.scalerFrameWrite t i) s = .next (s.closed ((a.putScaler { a.scalerRec i with
      writing := false, newest := (a.scalerRec i).newest + 1 }).count (O.scaler_frames_written i))) := by
  rw [exec_scalerFrameWrite, execScalerFrameWrite, done_closed, ← now, if_pos writing]

theorem exec_scalerFrameWrite_of_idle (idle : (a.scalerRec i).writing = false) :
    exec (.scalerFrameWrite t i) s = .next (s.closed a) := by
  rw [exec_scalerFrameWrite, execScalerFrameWrite, done_closed, ← now, if_neg (by simp [idle])]

theorem exec_rendererRedraw_of_finished (layer : i < 2048) (overlay : a.nat (O.layer_content i) = 3) :
    exec (.rendererRedraw t i true) s = .next (s.closed (a.autoCommit i)) := by
  rw [exec_rendererRedraw, ← now, if_pos ⟨layer, overlay, rfl⟩]

theorem exec_rendererRedraw_of_not (finished : Bool) (not : ¬(i < 2048 ∧ a.nat (O.layer_content i) = 3 ∧ finished = true)) :
    exec (.rendererRedraw t i finished) s = .next (s.closed a) := by
  rw [exec_rendererRedraw, ← now, if_neg not]

end

/-! ## Deadlines of groups (R273) -/

section
variable {s a : State} {t g : Nat} (now : a = s.advance t)
include now

theorem exec_commitTimeout_of_none (idle : a.groupPending (2048 + g) = none) :
    exec (.commitTimeout t g) s = .next (s.closed a) := by
  rw [exec_commitTimeout, execCommitTimeout, done_closed, ← now, idle]

variable {h : Nat} {c : GroupCommit} (pending : a.groupPending (2048 + g) = some c)
  (head : (c.members.head?).bind (fun m => a.flipHead m.1) = some h)
include pending head

theorem exec_commitTimeout_of_early (early : a.tbNow (a.nat (O.head_time_base h)) < a.groupDeadline c h) :
    exec (.commitTimeout t g) s = .next (s.closed a) := by
  rw [exec_commitTimeout, execCommitTimeout, done_closed, ← now, pending]
  simp only [head, if_pos (Or.inl early)]

theorem exec_commitTimeout_of_steeping (due : a.groupDeadline c h ≤ a.tbNow (a.nat (O.head_time_base h)))
    (steeping : ∃ m ∈ c.members, a.steeps m.1 m.2.1 m.2.2 = true) :
    exec (.commitTimeout t g) s = .next (s.closed ((({ a with comp := { a.comp with
      groups := a.comp.groups.filter (fun x => x.group ≠ 2048 + g) } } : State).count (O.cgroup_drops (2048 + g))).strike
        (F.commitDropped (g / 16)) (2048 + g) c.members.length)) := by
  have dropped : ¬(a.tbNow (a.nat (O.head_time_base h)) < a.groupDeadline c h ∨
      (!c.members.any (fun m => a.steeps m.1 m.2.1 m.2.2)) = true) := by
    simpa [due] using steeping
  rw [exec_commitTimeout, execCommitTimeout, done_closed, ← now, pending]
  simp only [head, if_neg dropped]

end

/-! ## The twin's acknowledgements (R276) -/

section
variable {s a : State} {t l : Nat}

theorem State.awaitsTwin_of_no_waits (a : State) (l : Nat) :
    ({ a with comp := { a.comp with waits := a.comp.waits.filter (fun e => e.1 ≠ l) } } : State).awaitsTwin l = false := by
  simp [State.awaitsTwin]

variable (now : a = s.advance t)
include now

theorem exec_mirrorFlipAlone_of_not_waiting (acknowledged : a.awaitsTwin l = false) :
    exec (.mirrorFlipAlone t l) s = .next (s.closed a) := by
  have noWait : a.comp.waits.find? (fun e => e.1 = l) = none := by
    simpa [State.awaitsTwin] using acknowledged
  rw [exec_mirrorFlipAlone, execMirrorFlipAlone, done_closed, ← now, noWait]

variable {h item since : Nat} (only : a.comp.waits = [(l, item, since)]) (head : a.flipHead l = some h)
include only head

theorem exec_mirrorFlipAlone_of_early (mirroring : a.mirroring = true)
    (early : a.now < since + 2 * framePeriod (a.nat (O.head_format h))) : exec (.mirrorFlipAlone t l) s = .next (s.closed a) := by
  rw [exec_mirrorFlipAlone, execMirrorFlipAlone, done_closed, ← now]
  simp [only, head, mirroring, early]

theorem exec_mirrorFlipAlone_of_due (due : a.mirroring = false ∨ since + 2 * framePeriod (a.nat (O.head_format h)) ≤ a.now) :
    exec (.mirrorFlipAlone t l) s = .next (s.closed (({ a with comp := { a.comp with waits := [] } } : State).strike
      (F.mirrorFlipAlone (l / 128)) l 0)) := by
  have passed : ¬(a.mirroring = true ∧ a.now < since + 2 * framePeriod (a.nat (O.head_format h))) := by
    rintro ⟨mirroring, early⟩
    exact due.elim (by simp [mirroring]) (not_le.2 early)
  rw [exec_mirrorFlipAlone, execMirrorFlipAlone, done_closed, ← now]
  simp [only, head, passed]

end

/-- Settles O43: each event by the lemma about it for the state of its arrival. -/
theorem compositionEventsComplete : Obligations.CompositionEventsComplete := by
  unfold Obligations.CompositionEventsComplete
  refine ⟨fun s a t h => exec_head_events_of_head, fun s a t h => exec_head_events_of_none, fun a h => State.headRead_of_monitor,
    fun a h => State.headRead_of_bare, fun s a t n => exec_scalerFrameWrite_of_writing, fun s a t n => exec_scalerFrameWrite_of_idle,
    fun s a t g => exec_commitTimeout_of_none, fun s a t g h c now => exec_commitTimeout_of_early now,
    fun s a t g h c now => exec_commitTimeout_of_steeping now, ?redraws, ?notDrawn, ?acknowledged, ?early, ?alone,
    fun s a t l => exec_mirrorFlipAlone_of_not_waiting⟩
  case redraws =>
    exact fun s a t l now layer overlay =>
      ⟨exec_rendererRedraw_of_finished now layer overlay, exec_rendererRedraw_of_not now false (by simp)⟩
  case notDrawn =>
    intro s a t l finished now other
    refine exec_rendererRedraw_of_not now finished ?_
    rintro ⟨layer, overlay, -⟩
    exact other.elim (not_le.2 layer) (· overlay)
  case acknowledged =>
    rintro s _ t l rfl
    exact ⟨_, exec_mirrorImageAck s t l, State.awaitsTwin_of_no_waits _ l, rfl, rfl, rfl⟩
  case early =>
    intro s a t l h since e now entry only head
    exact exec_mirrorFlipAlone_of_early now (only.trans (congrArg (fun x => [x]) entry)) head
  case alone =>
    intro s a t l h since e now entry only head
    exact exec_mirrorFlipAlone_of_due now (only.trans (congrArg (fun x => [x]) entry)) head

end Sys2Proof.Machine
end

section
/-! Writes of the objects of audio (R290, R299, R300, R305, R306). -/

namespace Sys2Proof.Machine

/-! ## The rule of each object -/

section
variable {s : State} (w : Writer)

theorem State.familyWrite_audio {fam : Nat} (h : fam = 0x4100 ∨ fam = 0x4200 ∨ fam = 0x4500) (inst sub : Nat) (v : Val) :
    s.familyWrite w [] ⟨fam, inst, sub⟩ v = s.writeAudio ⟨fam, inst, sub⟩ v := by
  rcases h with rfl | rfl | rfl <;> simp [State.familyWrite, State.lullRefuses]

theorem State.familyWrite_level {sub : Nat} (low : 3 ≤ sub) (high : sub ≤ 5) (d : Nat) (v : Int) :
    s.familyWrite w [] ⟨0x4100, d, sub⟩ (.n v) = some (0, (s.ramp d sub).setI ⟨0x4100, d, sub⟩ v) :=
  (State.familyWrite_audio w (by decide) ..).trans (if_pos (by dsimp only; omega))

theorem State.familyWrite_adest_delay (d us : Nat) :
    s.familyWrite w [] (O.adest_delay d) (.n us) = some (s.writeDelay d us) :=
  State.familyWrite_audio w (by decide) ..

theorem State.familyWrite_sapAll_arm : s.familyWrite w [] O.sapAll_arm (.n 1) = some s.armStart :=
  State.familyWrite_audio w (by decide) ..

theorem State.familyWrite_sapAll_disarm : s.familyWrite w [] O.sapAll_arm (.n 0) = some s.disarmStart :=
  State.familyWrite_audio w (by decide) ..

theorem State.familyWrite_sap_run {dir : Nat} (one : 1 ≤ dir) (run : Bool) :
    s.familyWrite w [] (O.sap_run dir) (.n (b01 run)) = some (s.writeRun dir run) := by
  have rule : s.writeAudio (O.sap_run dir) (.n (b01 run)) = some (s.writeRun dir (decide (b01 run = 1))) :=
    if_neg (Nat.ne_of_gt one)
  rw [State.familyWrite_audio w (by decide), rule]
  cases run <;> rfl

theorem State.familyWrite_loud_enable (g : Nat) (on : Bool) :
    s.familyWrite w [] (O.loud_enable g) (.n (b01 on)) = some (s.enableLoud g on) := by
  rw [State.familyWrite_audio w (by decide)]
  cases on <;> rfl

theorem State.familyWrite_loud_reset (g : Nat) : s.familyWrite w [] (O.loud_reset g) (.n 1) =
    some (0, { s with audio := { s.audio with resets := nub (s.audio.resets ++ [g]) } }) :=
  State.familyWrite_audio w (by decide) ..

end

/-! ## Delay (R194, R290) -/

section
variable {s : State} {d us : Nat}

theorem State.writeDelay_of_booked {st : State}
    (booked : s.rebook 0x4100 d (s.adstTile d / 8) (s.delayBook d us).1 (s.delayBook d us).2 = .ok st) :
    s.writeDelay d us = (0, (st.ramp d 6).setN (O.adest_delay d) us) := by
  simp only [State.writeDelay, booked]

theorem State.writeDelay_of_refused {e : Refuse}
    (refused : s.rebook 0x4100 d (s.adstTile d / 8) (s.delayBook d us).1 (s.delayBook d us).2 = .error e) :
    s.writeDelay d us = (C.hbmBw, s) := by
  simp only [State.writeDelay, refused]

end

/-! ## Records of serial audio directions -/

theorem State.sap_putSap_same (s : State) (r : SapRec) : (s.putSap r).sap r.dir = some r := by
  have gone := find?_filter_not (p := fun x : SapRec => x.dir = r.dir) s.audio.saps
  simp only [State.putSap, State.sap, List.find?_append, ne_eq, gone]
  simp

theorem State.sap_putSap_other (s : State) {r : SapRec} {dir : Nat} (other : dir ≠ r.dir) : (s.putSap r).sap dir = s.sap dir := by
  have kept : (fun x : SapRec => !decide (x.dir = r.dir) && decide (x.dir = dir)) = fun x => decide (x.dir = dir) := by
    funext x
    by_cases own : x.dir = dir
    · simp [own, other]
    · simp [own]
  simp [State.putSap, State.sap, List.find?_append, List.find?_filter, kept, other.symm]

theorem State.sap_setN (s : State) (k : Key) (v dir : Nat) : (s.setN k v).sap dir = s.sap dir := rfl

/-- What one direction of the start set becomes when the set is armed (R299). -/
def State.armDir (now : Nat) (s : State) (dir : Nat) : State :=
  (s.putSap ⟨dir, none, none, 0, now, 0, false, [], 0⟩).setN (O.sap_state dir) 1

/-- A direction reads armed, and waits for the start of its set. -/
def State.Armed (s : State) (dir : Nat) : Prop := s.nat (O.sap_state dir) = 1 ∧ s.inArmedSet dir = true

theorem State.armed_armDir (now : Nat) (s : State) (dir : Nat) : (s.armDir now dir).Armed dir := by
  refine ⟨State.nat_setN_same .., ?_⟩
  rw [State.inArmedSet, State.armDir, State.sap_setN, State.sap_putSap_same s ⟨dir, none, none, 0, now, 0, false, [], 0⟩]
  rfl

theorem State.Armed.armDir {s : State} {dir : Nat} (armed : s.Armed dir) (now e : Nat) : (s.armDir now e).Armed dir := by
  by_cases own : dir = e
  · exact own ▸ State.armed_armDir ..
  · obtain ⟨state, waits⟩ := armed
    refine ⟨(State.nat_setN_other _ _ (by simp [own])).trans state, ?_⟩
    rw [State.inArmedSet, State.armDir, State.sap_setN, State.sap_putSap_other s own]
    exact waits

theorem State.armed_foldl_armDir (now : Nat) {l : List Nat} {s : State} {dir : Nat} (h : dir ∈ l ∨ s.Armed dir) :
    (l.foldl (State.armDir now) s).Armed dir := by
  induction l generalizing s with
  | nil => exact h.resolve_left List.not_mem_nil
  | cons e rest ih =>
    refine ih ?_
    rcases h with mem | armed
    · rcases List.mem_cons.1 mem with rfl | mem
      · exact .inr (State.armed_armDir ..)
      · exact .inl mem
    · exact .inr (armed.armDir now e)

/-! ## The start set (R299) -/

section
variable {s : State}

theorem State.armStart_of_empty (empty : s.startSet = []) : s.armStart = (C.range, s) := if_pos (by simp [empty])

theorem State.armStart_of_running {d : Nat} (mem : d ∈ s.startSet) (runs : s.nat (O.sap_state d) ≠ 0) :
    s.armStart = (C.busy, s) := by
  rw [State.armStart, if_neg (by simpa using List.ne_nil_of_mem mem), if_pos (by simpa using ⟨d, mem, runs⟩)]

theorem State.armStart_of_stopped (given : s.startSet ≠ []) (stopped : ∀ d ∈ s.startSet, s.nat (O.sap_state d) = 0) :
    s.armStart = (0, (s.startSet.foldl (State.armDir s.now) s).setN O.sapAll_trigger_state 1) := by
  rw [State.armStart, if_neg (by simpa using given), if_neg (by simpa using stopped)]
  rfl

theorem State.disarmStart_of_started (started : s.nat O.sapAll_trigger_state = 2) : s.disarmStart = (C.tooLate, s) := by
  simp only [State.disarmStart, started]

theorem State.disarmStart_of_waiting (waits : s.nat O.sapAll_trigger_state = 1) : s.disarmStart = (0,
    ((s.audio.saps.filter (fun r => r.grid.isNone)).foldl (fun st r => st.stopSap r.dir) s).setN O.sapAll_trigger_state 0) := by
  simp only [State.disarmStart, waits]

end

/-! ## A direction alone (R300) -/

section
variable {s : State} {dir : Nat}

theorem State.writeRun_of_stopped (stopped : s.sap dir = none) : s.writeRun dir true =
    (0, ((s.putSap ⟨dir, some (gridAtOrAfter (s.sapHz dir) (s.tbNow 0)), none, 0, s.now, 0, false, [], 0⟩).setN
      (O.sap_state dir) 1).setF (O.sap_run dir) true) := by
  simp [State.writeRun, State.inArmedSet, stopped]

theorem State.writeRun_off_of_running {r : SapRec} (runs : s.sap dir = some r) (started : r.grid.isSome = true)
    (framed : r.first.isSome = true) (clocked : s.nat (O.sap_state dir) ≠ 3) :
    s.writeRun dir false = (0, (s.putSap { r with stopping := true }).setF (O.sap_run dir) false) := by
  have alone : s.inArmedSet dir = false := by simpa [State.inArmedSet, runs] using started
  have ends : ¬(r.first.isNone = true ∨ s.nat (O.sap_state dir) = 3) := by simp [clocked, Option.ne_none_iff_isSome.2 framed]
  simp only [State.writeRun, alone, runs, if_neg ends, Bool.false_eq_true, if_false]

end

/-! ## Loudness groups (R305) -/

section
variable {s : State} {g : Nat}

theorem State.enableLoud_off (s : State) (g : Nat) : s.enableLoud g false = (0, s.setF (O.loud_enable g) false) := rfl

/-- A group whose members are all present, on one clock and at one rate, is enabled. -/
theorem State.enableLoud_of_one_clock {c : Nat × Nat} {l : List (Option (Nat × Nat))}
    (members : (loudMembers (s.oct (O.loud_members g))).map (fun m => s.memberClock m.1) = some c :: l) (one : ∀ x ∈ l, x = some c) :
    s.enableLoud g true = (0, s.setF (O.loud_enable g) true) := by
  have present : l.any (fun m => m.isNone) = false := by
    simpa using fun x mem => Option.ne_none_iff_exists'.2 ⟨c, one x mem⟩
  simpa [State.enableLoud, members, present] using one

end

/-- Settles O12: each object's rule by `State.familyWrite_audio`, and what the rule does by its own lemmas. -/
theorem audioWriteRules : Obligations.AudioWriteRules := by
  unfold Obligations.AudioWriteRules
  refine ⟨fun b w d sub v low high => State.familyWrite_level w low high d v, ?booked, ?refused, ?arms, ?empty, ?busy,
    fun b w => ⟨?started, ?waiting⟩, ?runs, ?stops, fun b w g => State.familyWrite_loud_enable w g false, ?enables,
    fun b w g => State.familyWrite_loud_reset w g⟩
  case booked => exact fun b st w d us h => by rw [State.familyWrite_adest_delay, State.writeDelay_of_booked h]
  case refused => exact fun b w d us e h => by rw [State.familyWrite_adest_delay, State.writeDelay_of_refused h]
  case arms =>
    intro b w given stopped
    refine ⟨_, by rw [State.familyWrite_sapAll_arm, State.armStart_of_stopped given stopped], State.nat_setN_same .., fun d mem => ?_⟩
    obtain ⟨state, waits⟩ := State.armed_foldl_armDir b.now (s := b) (.inl mem)
    exact ⟨(State.nat_setN_other _ _ (by simp)).trans state, waits⟩
  case empty => exact fun b w h => by rw [State.familyWrite_sapAll_arm, State.armStart_of_empty h]
  case busy => exact fun b w d mem h => by rw [State.familyWrite_sapAll_arm, State.armStart_of_running mem h]
  case started => exact fun h => by rw [State.familyWrite_sapAll_disarm, State.disarmStart_of_started h]
  case waiting => exact fun h => by rw [State.familyWrite_sapAll_disarm, State.disarmStart_of_waiting h]
  case runs =>
    exact fun b w dir one h => (State.familyWrite_sap_run w one true).trans (congrArg some (State.writeRun_of_stopped h))
  case stops =>
    exact fun b w dir r one h started framed clocked =>
      (State.familyWrite_sap_run w one false).trans (congrArg some (State.writeRun_off_of_running h started framed clocked))
  case enables =>
    exact fun b w g c l members one =>
      (State.familyWrite_loud_enable w g true).trans (congrArg some (State.enableLoud_of_one_clock members one))

end Sys2Proof.Machine
end

section
/-! Events of serial audio directions (R296 to R299). -/

namespace Sys2Proof.Machine

/-! ## The arms -/

section
variable (s : State) (t dir : Nat)

theorem exec_tdmFrameStart (fits : Bool) : exec (.tdmFrameStart t dir fits) s = .next (s.closed ((s.advance t).tdmFrame dir fits)) := rfl

theorem exec_sapRateMeasure (mhz ppb : Nat) : exec (.sapRateMeasure t dir mhz ppb) s = .next (s.closed
    (if 1 ≤ dir ∧ dir ≤ 64 then (s.advance t).sapMeasure dir mhz ppb else s.advance t)) := rfl

theorem exec_sapClockLost : exec (.sapClockLost t dir) s = execSapClockLost t dir s := rfl

theorem exec_sapFsReturn : exec (.sapFsReturn t dir) s = execSapFsReturn t dir s := rfl

theorem exec_startTrigEdge (rising : Bool) : exec (.startTrigEdge t rising) s = execStartTrigEdge t rising s := rfl

theorem exec_startAtInstant : exec (.startAtInstant t) s = execStartAtInstant t s := rfl

end

/-! ## TDM frames (R296, R300) -/

theorem State.nat_putSap (s : State) (r : SapRec) (k : Key) : (s.putSap r).nat k = s.nat k := rfl

theorem State.dir_of_sap {s : State} {dir : Nat} {r : SapRec} (found : s.sap dir = some r) : r.dir = dir := by
  simpa using List.find?_some found

theorem State.nat_setF_other (s : State) {k k' : Key} (v : Bool) (other : k' ≠ k) : (s.setF k v).nat k' = s.nat k' :=
  State.nat_setN_other s _ other

section
variable {s : State} {dir : Nat}

theorem State.sap_stopSap (s : State) (dir : Nat) : (s.stopSap dir).sap dir = none :=
  find?_filter_not (p := fun x : SapRec => x.dir = dir) s.audio.saps

theorem State.stopSap_reads (s : State) (dir : Nat) :
    (s.stopSap dir).nat (O.sap_state dir) = 0 ∧ (s.stopSap dir).nat (O.sap_run dir) = 0 := by
  refine ⟨?_, State.nat_setN_same ..⟩
  rw [State.stopSap, State.nat_setF_other _ _ (by simp), State.nat_setN_other _ _ (by simp), State.nat_setN_same]

theorem State.tdmFrame_of_none (stopped : s.sap dir = none) (fits : Bool) : s.tdmFrame dir fits = s := by
  simp only [State.tdmFrame, stopped]

theorem State.tdmFrame_of_stopping {r : SapRec} (runs : s.sap dir = some r) (stopping : r.stopping = true) (fits : Bool) :
    s.tdmFrame dir fits = s.stopSap dir := by
  simp only [State.tdmFrame, runs, stopping, if_true]

/-- A running direction counts its frame; mask and packing written less than two slot times ago are not yet in force. -/
theorem State.tdmFrame_counts {first : Nat} {r : SapRec} (runs : s.sap dir = some r) (goesOn : r.stopping = false)
    (begun : r.first = some first) (started : r.grid ≠ none) (clocked : s.nat (O.sap_state dir) ≠ 3)
    (recent : s.now < r.wroteAt + s.twoSlots dir) :
    ∃ q, (s.tdmFrame dir true).sap dir = some q ∧ q.frames = r.frames + 1 ∧ q.first = some first ∧ q.latest = s.now ∧
      (s.tdmFrame dir true).nat (O.sap_state dir) = 2 := by
  obtain ⟨g, grid⟩ := Option.ne_none_iff_exists'.1 started
  have own : r.dir = dir := State.dir_of_sap runs
  have counted : ∃ q o, s.tdmFrame dir true = ((s.putSap q).setN (O.sap_state dir) 2).emit o ∧ q.dir = dir ∧
      q.frames = r.frames + 1 ∧ q.first = some first ∧ q.latest = s.now := by
    simp only [State.tdmFrame, runs, goesOn, grid, begun, clocked, not_le.2 recent, Option.isSome_some, Option.isNone_some,
      Bool.true_or, Bool.not_true, Bool.false_eq_true, or_self, if_false, if_true]
    exact ⟨_, _, rfl, own, rfl, rfl, rfl⟩
  obtain ⟨q, o, frame, rfl, frames, since, latest⟩ := counted
  exact ⟨q, frame ▸ State.sap_putSap_same s q, frames, since, latest, frame ▸ State.nat_setN_same ..⟩

end

/-! ## Rate and clock (R297, R298) -/

section
variable {s a : State} {t dir : Nat} (now : a = s.advance t)
include now

theorem exec_sapRateMeasure_of_direction (mhz ppb : Nat) (low : 1 ≤ dir) (high : dir ≤ 64) :
    exec (.sapRateMeasure t dir mhz ppb) s = .next (s.closed (a.sapMeasure dir mhz ppb)) := by
  rw [exec_sapRateMeasure, if_pos ⟨low, high⟩, ← now]

theorem exec_sapRateMeasure_of_none (mhz ppb : Nat) (noDir : dir = 0 ∨ 64 < dir) :
    exec (.sapRateMeasure t dir mhz ppb) s = .next (s.closed a) := by
  rw [exec_sapRateMeasure, if_neg (by omega), ← now]

/-- A running slave direction without frame sync for four frame periods. -/
theorem exec_sapClockLost_of_overdue {r : SapRec} (runs : a.sap dir = some r) (slave : a.nat (O.sap_clock_role dir) = 0)
    (running : a.nat (O.sap_state dir) = 2) (overdue : r.latest + 4 * (1000000000 / a.sapHz dir) ≤ a.now) :
    exec (.sapClockLost t dir) s = .next (s.closed ((a.setN (O.sap_state dir) 3).follow F.sapClock dir 0 true)) := by
  rw [exec_sapClockLost, execSapClockLost, done_closed, ← now, runs]
  dsimp only
  rw [if_neg (by simpa [slave, running, nsPerSec] using overdue)]

theorem exec_sapClockLost_of_other (other : a.sap dir = none ∨ a.nat (O.sap_clock_role dir) ≠ 0 ∨ a.nat (O.sap_state dir) ≠ 2) :
    exec (.sapClockLost t dir) s = .next (s.closed a) := by
  rw [exec_sapClockLost, execSapClockLost, done_closed, ← now]
  cases runs : a.sap dir with
  | none => rfl
  | some r =>
    have master : a.nat (O.sap_clock_role dir) ≠ 0 ∨ a.nat (O.sap_state dir) ≠ 2 := other.resolve_left (by simp [runs])
    dsimp only
    rw [if_pos (or_assoc.1 (.inl master))]

/-- Frame sync returns to the one direction that had lost it: the frame count goes on from the TB0 time elapsed. -/
theorem exec_sapFsReturn_of_lost {first : Nat} {r : SapRec} (runs : a.sap dir = some r) (lost : a.nat (O.sap_state dir) = 3)
    (begun : r.first = some first) (alone : ∀ i, i < 64 → 1 + i ≠ dir → a.nat (O.sap_state (1 + i)) ≠ 3) :
    exec (.sapFsReturn t dir) s = .next (s.closed (((a.putSap { r with
      frames := (a.tbNow 0 - first) * a.sapHz dir / 1000000000, latest := a.now }).setN (O.sap_state dir) 2).followShared
        F.sapClock dir 0 false false)) := by
  have others (q : SapRec) : (List.range 64).any
      (fun i => ((a.putSap q).setN (O.sap_state dir) 2).nat (O.sap_state (1 + i)) = 3) = false := by
    refine List.any_eq_false.2 fun i mem => ?_
    by_cases own : 1 + i = dir
    · rw [own, State.nat_setN_same]
      decide
    · rw [State.nat_setN_other _ _ (by simp [own]), State.nat_putSap]
      simpa using alone i (List.mem_range.1 mem) own
  rw [exec_sapFsReturn, execSapFsReturn, done_closed, ← now, runs]
  dsimp only
  rw [if_neg (not_not.2 lost), others, begun]
  rfl

theorem exec_sapFsReturn_of_other (other : a.sap dir = none ∨ a.nat (O.sap_state dir) ≠ 3) :
    exec (.sapFsReturn t dir) s = .next (s.closed a) := by
  rw [exec_sapFsReturn, execSapFsReturn, done_closed, ← now]
  cases runs : a.sap dir with
  | none => rfl
  | some r =>
    dsimp only
    rw [if_pos (other.resolve_left (by simp [runs]))]

end

/-! ## The start of the armed set (R299) -/

section
variable {s a : State} {t : Nat} (now : a = s.advance t)
include now

theorem exec_startTrigEdge_of_sense {rising : Bool} (armed : a.nat O.sapAll_trigger_state = 1)
    (sense : (a.nat O.sapAll_trigger_edge = 0) = (rising = true)) :
    exec (.startTrigEdge t rising) s =
      .next (s.closed ((a.setN O.sapAll_last_trigger (a.tbNow 0)).fireStart (a.tbNow 0))) := by
  rw [exec_startTrigEdge, execStartTrigEdge, done_closed, ← now, if_pos ⟨armed, sense⟩]

theorem exec_startTrigEdge_of_other {rising : Bool} (other : ¬(a.nat O.sapAll_trigger_state = 1 ∧
    (a.nat O.sapAll_trigger_edge = 0) = (rising = true))) :
    exec (.startTrigEdge t rising) s = .next (s.closed (a.setN O.sapAll_last_trigger (a.tbNow 0))) := by
  rw [exec_startTrigEdge, execStartTrigEdge, done_closed, ← now, if_neg other]

theorem exec_startAtInstant_of_set {x : Nat} (given : a.audio.startAt = some x) : exec (.startAtInstant t) s = .next (s.closed
    (if a.nat O.sapAll_trigger_state = 1 ∧ x ≤ a.tbNow 0 then a.fireStart x else a)) := by
  rw [exec_startAtInstant, execStartAtInstant, done_closed, ← now, given]

theorem exec_startAtInstant_of_unset (unset : a.audio.startAt = none) : exec (.startAtInstant t) s = .next (s.closed a) := by
  rw [exec_startAtInstant, execStartAtInstant, done_closed, ← now, unset]

end

/-- The fold that shows the companion group of a started set changes objects only. -/
theorem State.foldl_companion_audio (g : Nat) (l : List Nat) (s : State) :
    (l.foldl (fun st d => (st.setN (O.sap_companion d) g).setF (O.sap_run d) true) s).audio = s.audio := by
  induction l generalizing s with
  | nil => rfl
  | cons d rest ih => exact ih _

theorem State.fireStart_starts_all (s : State) (at' : Nat) : ∀ r ∈ (s.fireStart at').audio.saps, r.grid ≠ none := by
  intro r mem
  rw [State.fireStart, State.setN_audio, State.foldl_companion_audio] at mem
  obtain ⟨old, -, rfl⟩ := List.mem_map.1 mem
  split
  · exact Option.some_ne_none _
  · next started => simpa using started

/-- Settles O45: each event by the lemma about it for the state of its arrival. -/
theorem serialAudioEventsComplete : Obligations.SerialAudioEventsComplete := by
  unfold Obligations.SerialAudioEventsComplete
  refine ⟨?frame, fun a dir fits h => State.tdmFrame_of_none h fits, ?stops, fun a dir first r => State.tdmFrame_counts,
    fun s a t dir mhz ppb now => exec_sapRateMeasure_of_direction now mhz ppb,
    fun s a t dir mhz ppb now => exec_sapRateMeasure_of_none now mhz ppb, fun s a t dir r now => exec_sapClockLost_of_overdue now,
    fun s a t dir => exec_sapClockLost_of_other, fun s a t dir first r now => exec_sapFsReturn_of_lost now,
    fun s a t dir => exec_sapFsReturn_of_other, ?rising, ?unarmed, fun a at' => ⟨State.nat_setN_same .., a.fireStart_starts_all at'⟩,
    fun s a t x now => exec_startAtInstant_of_set now, fun s a t => exec_startAtInstant_of_unset⟩
  case frame =>
    rintro s _ t dir fits rfl
    exact exec_tdmFrameStart s t dir fits
  case stops =>
    intro a dir fits r runs stopping
    rw [State.tdmFrame_of_stopping runs stopping]
    exact ⟨a.sap_stopSap dir, a.stopSap_reads dir⟩
  case rising =>
    intro s a t now armed edge
    exact ⟨exec_startTrigEdge_of_sense now armed (by simp [edge]), exec_startTrigEdge_of_other now (by simp [edge])⟩
  case unarmed => exact fun s a t rising now idle => exec_startTrigEdge_of_other now (fun h => idle h.1)

end Sys2Proof.Machine
end

section
/-! Events of audio paths, ASRC channels, AES3 inputs and loudness (R285, R287, R288, R302, R303, R305). -/

namespace Sys2Proof.Machine

/-! ## The arms -/

section
variable (s : State) (t n : Nat)

theorem exec_audioClassChange : exec (.audioClassChange t n) s = execAudioClassChange t n s := rfl

theorem exec_audioSlip : exec (.audioSlip t n) s = execAudioSlip t n s := rfl

theorem exec_asrcRelock : exec (.asrcRelock t n) s = execAsrcRelock t n s := rfl

theorem exec_asrcAcquired (ratio : Int) : exec (.asrcAcquired t n ratio) s = execAsrcAcquired t n ratio s := rfl

theorem exec_aesLock (rate mhz : Nat) : exec (.aesLock t n rate mhz) s = execAesLock t n rate mhz s := rfl

theorem exec_aesLos : exec (.aesLos t n) s = execAesLos t n s := rfl

theorem exec_aesBlockComplete (block : Bytes) (ok : Bool) (bp pa : Nat) :
    exec (.aesBlockComplete t n block ok bp pa) s = execAesBlockComplete t n block ok bp pa s := rfl

theorem exec_loudnessUpdate (m : LoudMeas) : exec (.loudnessUpdate t n m) s = execLoudnessUpdate t n m s := rfl

end

/-! ## Audio paths (R287, R288) -/

/-- A path for which no ASRC channel is free stays as it is. -/
theorem State.giveAsrc_of_short {s : State} {r : Route} (short : s.freeAsrc true [s.dstId r.dst] [] (s.adstTile r.dst.idx) = none) :
    s.giveAsrc r = s := by
  simp only [State.giveAsrc, short, ite_self]

section
variable {s a : State} {t d : Nat} {r : Route} (now : a = s.advance t)
include now

theorem exec_audio_path_events_of_none (unrouted : a.route ⟨.audio, d⟩ = none) :
    exec (.audioClassChange t d) s = .next (s.closed a) ∧ exec (.audioSlip t d) s = .next (s.closed a) := by
  rw [exec_audioClassChange, execAudioClassChange, exec_audioSlip, execAudioSlip, done_closed, done_closed, ← now, unrouted]
  exact ⟨rfl, rfl⟩

section
variable (routed : a.route ⟨.audio, d⟩ = some r)
include routed

theorem exec_audioClassChange_of_following (follows : r.follows = true) :
    exec (.audioClassChange t d) s = .next (s.closed a) := by
  rw [exec_audioClassChange, execAudioClassChange, done_closed, ← now, routed]
  dsimp only
  rw [if_pos (.inl follows)]

/-- A path whose clocks have come together is placed again without its channel. -/
theorem exec_audioClassChange_of_related (alone : r.follows = false) (here : a.idHere r.pl.src = true) (given : r.pl.asrc ≠ [])
    (related : a.clocksRelated (idIdx r.pl.src) d = true) :
    exec (.audioClassChange t d) s = .next (s.closed (a.startRepl r.dst { r.pl with asrc := [] })) := by
  rw [exec_audioClassChange, execAudioClassChange, done_closed, ← now, routed]
  dsimp only
  rw [if_neg (by simp [alone, here]), if_neg (by simpa using given), if_pos related]

/-- A path that needs a channel and finds none runs short. -/
theorem exec_audioClassChange_of_short (alone : r.follows = false) (here : a.idHere r.pl.src = true) (bare : r.pl.asrc = [])
    (needed : a.asrcNeeded (idIdx r.pl.src) d = true) (steady : ∀ q ∈ a.sw.takes, q.repl = false)
    (short : a.freeAsrc true [a.dstId r.dst] [] (a.adstTile r.dst.idx) = none) :
    exec (.audioClassChange t d) s = .next (s.closed (a.follow (F.asrcShort (a.adstTile d)) (a.dstId r.dst) 0 true)) := by
  have unplaced : ¬a.sw.takes.any (fun q => q.dst = r.dst ∧ q.repl) = true := by
    simpa using fun q mem _ => steady q mem
  rw [exec_audioClassChange, execAudioClassChange, done_closed, ← now, routed]
  dsimp only
  rw [if_neg (by simp [alone, here]), if_pos (by simp [bare]), if_neg (by simp [needed]), State.giveAsrc_of_short short, if_neg unplaced]

theorem exec_audioSlip_of_unrelated (bare : r.pl.asrc = []) (here : a.idHere r.pl.src = true)
    (unrelated : a.clocksRelated (idIdx r.pl.src) d = false) :
    exec (.audioSlip t d) s = .next (s.closed
      (({ (a.count (O.adest_slips d)) with audio := { a.audio with slipAt := kput a.audio.slipAt d a.now } } : State).strike
        (F.audioSlip (a.adstTile d)) (a.dstId r.dst) 0)) := by
  rw [exec_audioSlip, execAudioSlip, done_closed, ← now, routed]
  dsimp only
  rw [if_neg (by simp [bare, here, unrelated])]

theorem exec_audioSlip_of_steady
    (steady : r.pl.asrc ≠ [] ∨ a.idHere r.pl.src = false ∨ a.clocksRelated (idIdx r.pl.src) d = true) :
    exec (.audioSlip t d) s = .next (s.closed a) := by
  rw [exec_audioSlip, execAudioSlip, done_closed, ← now, routed]
  dsimp only
  rw [if_pos (by simpa using steady)]

end

end

/-! ## ASRC channels (R302) -/

section
variable {s a : State} {t ch : Nat} (now : a = s.advance t)
include now

theorem exec_asrcRelock_of_booked {x : AsrcBook} (mem : x ∈ a.placer.asrc) (own : x.ch = ch) :
    exec (.asrcRelock t ch) s = .next (s.closed ((a.setN (O.asrc_state (1 + ch)) 1).count (O.asrc_relocks (1 + ch)))) := by
  rw [exec_asrcRelock, execAsrcRelock, done_closed, ← now, if_pos (by simpa using ⟨x, mem, own⟩)]

theorem exec_asrcRelock_of_unbooked (unbooked : ∀ x ∈ a.placer.asrc, x.ch ≠ ch) :
    exec (.asrcRelock t ch) s = .next (s.closed a) := by
  rw [exec_asrcRelock, execAsrcRelock, done_closed, ← now, if_neg (by simpa using unbooked)]

theorem exec_asrcAcquired_of_settled {ratio : Int} (acquires : a.nat (O.asrc_state (1 + ch)) = 1)
    (low : 45 * 4294967296 ≤ 100 * ratio) (high : 100 * ratio ≤ 225 * 4294967296) :
    ∃ u, exec (.asrcAcquired t ch ratio) s = .next (s.closed u) ∧
      u.nat (O.asrc_state (1 + ch)) = 2 ∧ u.int (O.asrc_ratio (1 + ch)) = ratio ∧
      ∀ k, k ≠ O.asrc_state (1 + ch) → k ≠ O.asrc_ratio (1 + ch) → u.get k = a.get k := by
  refine ⟨(a.setN (O.asrc_state (1 + ch)) 2).setI (O.asrc_ratio (1 + ch)) ratio, ?_, ?_, ?_, fun k state follows => ?_⟩
  · rw [exec_asrcAcquired, execAsrcAcquired, done_closed, ← now, if_pos ⟨acquires, low, high⟩]
  · rw [State.setI, State.nat_set, if_neg (by simp), State.nat_setN_same]
  · rw [State.setI, State.int_set, if_pos rfl]
    rfl
  · rw [State.setI, State.get_set, if_neg follows, State.get_setN, if_neg state]

theorem exec_asrcAcquired_of_unsettled {ratio : Int}
    (unsettled : a.nat (O.asrc_state (1 + ch)) ≠ 1 ∨ 100 * ratio < 45 * 4294967296 ∨ 225 * 4294967296 < 100 * ratio) :
    exec (.asrcAcquired t ch ratio) s = .next (s.closed a) := by
  rw [exec_asrcAcquired, execAsrcAcquired, done_closed, ← now, if_neg]
  rintro ⟨acquires, low, high⟩
  rcases unsettled with other | below | above
  · exact other acquires
  · exact not_lt.2 low below
  · exact not_lt.2 high above

end

/-! ## AES3 inputs (R303) -/

section
variable {s a : State} {t n : Nat} (now : a = s.advance t)
include now

theorem exec_aesLock_of_unknown {rate : Nat} (mhz : Nat) (unknown : 16 ≤ n ∨ rate = 0 ∨ 4 < rate) :
    exec (.aesLock t n rate mhz) s = .next (s.closed a) := by
  rw [exec_aesLock, execAesLock, done_closed, ← now, if_pos unknown]

/-- The loss ends with the lock of the one input that had lost its signal. -/
theorem exec_aesLock_of_last {rate : Nat} (mhz : Nat) (input : n < 16) (low : 1 ≤ rate) (high : rate ≤ 4)
    (last : ∀ i, i < 16 → i ≠ n → a.nat (O.aes_rx_state i) ≠ 0 ∨ a.nat (O.aes_measured_rate i) = 0) :
    exec (.aesLock t n rate mhz) s = .next (s.closed
      ((((a.setN (O.aes_rx_state n) 1).setN (O.aes_rx_rate n) rate).setN (O.aes_measured_rate n) mhz).followShared
        F.aesLos n 0 false false)) := by
  have others : (List.range 16).any (fun i => i ≠ n ∧ a.nat (O.aes_rx_state i) = 0 ∧ a.nat (O.aes_measured_rate i) ≠ 0) = false := by
    refine List.any_eq_false.2 fun i mem => ?_
    have kept := last i (List.mem_range.1 mem)
    simp only [decide_eq_true_eq]
    tauto
  rw [exec_aesLock, execAesLock, done_closed, ← now, if_neg (by omega), others]

theorem exec_aesLos_of_unlocked (unlocked : 16 ≤ n ∨ a.nat (O.aes_rx_state n) = 0) :
    exec (.aesLos t n) s = .next (s.closed a) := by
  rw [exec_aesLos, execAesLos, done_closed, ← now, if_pos unlocked]

theorem exec_aesLos_of_locked (input : n < 16) (locked : a.nat (O.aes_rx_state n) ≠ 0) :
    exec (.aesLos t n) s = .next (s.closed (((a.setN (O.aes_rx_state n) 0).setN (O.aes_rx_rate n) 0).latch F.aesLos n 0)) := by
  rw [exec_aesLos, execAesLos, done_closed, ← now, if_neg (by simp [input, locked])]

end

/-! ## Blocks of channel status (R285, R303) -/

theorem mem_nub {α : Type} [DecidableEq α] {x : α} {l : List α} : x ∈ nub l ↔ x ∈ l := by
  have gathered : ∀ acc : List α, x ∈ l.foldl (fun acc y => if y ∈ acc then acc else y :: acc) acc ↔ x ∈ acc ∨ x ∈ l := by
    induction l with
    | nil => simp
    | cons y rest ih =>
      intro acc
      rw [List.foldl_cons, ih]
      split
      · next known => grind
      · simp [or_assoc, or_left_comm]
  rw [nub, List.mem_reverse, gathered]
  simp

theorem State.reviewAsrc_of_unbooked {s : State} (unbooked : s.placer.asrc = []) (src : Nat) : s.reviewAsrc src = s := by
  simp [State.reviewAsrc, unbooked]

/-- A source's words are marked as non-PCM, or as PCM (R285). -/
def State.markNonPcm (s : State) (src : Nat) (on : Bool) : State :=
  { s with audio := { s.audio with
    nonAudio := if on then nub (s.audio.nonAudio ++ [src]) else s.audio.nonAudio.filter (fun x => x ≠ src) } }

theorem State.mem_nonAudio_markNonPcm (s : State) (src : Nat) (on : Bool) : src ∈ (s.markNonPcm src on).audio.nonAudio ↔ on = true := by
  cases on <;> simp [State.markNonPcm, mem_nub]

theorem State.aesErrors_of_aes {s : State} {src : Nat} (aes : 63488 ≤ src) (bp pa : Nat) : s.aesErrors src bp pa =
    (s.count (O.aes_biphase_errors ((src - 63488) / 2)) bp).count (O.aes_parity_errors ((src - 63488) / 2)) pa := if_pos aes

theorem State.get_aesErrors (s : State) (src bp pa : Nat) {k : Key} (other : k.fam ≠ 0x4400) :
    (s.aesErrors src bp pa).get k = s.get k := by
  have foreign {i sub : Nat} : k ≠ ⟨0x4400, i, sub⟩ := fun own => other (own ▸ rfl)
  unfold State.aesErrors
  split
  · rw [State.get_count_other _ foreign, State.get_count_other _ foreign]
  · rfl

theorem State.aesErrors_placer (s : State) (src bp pa : Nat) : (s.aesErrors src bp pa).placer = s.placer := by
  unfold State.aesErrors
  split
  · rw [State.count_placer, State.count_placer]
  · rfl

section
variable {s a : State} {t src : Nat} {block : Bytes} (now : a = s.advance t) (bp pa : Nat)
include now

theorem exec_aesBlockComplete_of_unknown (ok : Bool) (unknown : block.length ≠ 24 ∨ 63520 ≤ src) :
    exec (.aesBlockComplete t src block ok bp pa) s = .next (s.closed a) := by
  rw [exec_aesBlockComplete, execAesBlockComplete, done_closed, ← now, if_pos unknown]

/-- A professional block whose CRCC is wrong is stored and counted, and the non-PCM flag stays. -/
theorem exec_aesBlockComplete_of_bad_crc (whole : block.length = 24) (aes : 63488 ≤ src) (known : src < 63520)
    (professional : Machine.bit (block.headD 0).toNat 0 = true) :
    exec (.aesBlockComplete t src block false bp pa) s = .next (s.closed
      ((((a.setB (O.asource_channel_status src) block).count (O.aes_biphase_errors ((src - 63488) / 2)) bp).count
        (O.aes_parity_errors ((src - 63488) / 2)) pa).count (O.aes_crc_errors ((src - 63488) / 2)))) := by
  rw [exec_aesBlockComplete, execAesBlockComplete, done_closed, ← now, if_neg (by simp [whole, known]), if_pos (by simpa using professional),
    if_pos aes, State.aesErrors_of_aes aes]

theorem exec_aesBlockComplete_of_good (whole : block.length = 24) (known : src < 63520) :
    exec (.aesBlockComplete t src block true bp pa) s = .next (s.closed
      ((((a.setB (O.asource_channel_status src) block).aesErrors src bp pa).markNonPcm src
        (Machine.bit (block.headD 0).toNat 1)).reviewAsrc src)) := by
  rw [exec_aesBlockComplete, execAesBlockComplete, done_closed, ← now, if_neg (by simp [whole, known]), if_neg (by simp)]
  rfl

/-- A complete block is kept, and says whether its source's words are PCM. -/
theorem exec_aesBlockComplete_marks (whole : block.length = 24) (known : src < 63520) (unbooked : a.placer.asrc = []) :
    ∃ u, exec (.aesBlockComplete t src block true bp pa) s = .next (s.closed u) ∧
      u.get (O.asource_channel_status src) = .b block ∧
      (src ∈ u.audio.nonAudio ↔ Machine.bit (block.headD 0).toNat 1 = true) := by
  refine ⟨_, exec_aesBlockComplete_of_good now bp pa whole known, ?_⟩
  rw [State.reviewAsrc_of_unbooked]
  · refine ⟨?_, State.mem_nonAudio_markNonPcm ..⟩
    calc _ = (a.setB (O.asource_channel_status src) block).get (O.asource_channel_status src) := State.get_aesErrors _ _ _ _ (by simp)
      _ = .b block := by rw [State.get_setB, if_pos rfl]
  · exact (congrArg Placer.asrc (State.aesErrors_placer ..)).trans unbooked

end

/-! ## Loudness (R305) -/

/-- A group whose reset was asked for takes the two running measures and clears the others. -/
theorem State.loudUpdate_of_reset {s : State} {g : Nat} {m : LoudMeas} (reset : s.audio.resets.contains g = true) :
    ∃ u : State, s.loudUpdate g m = (((((u.setI (O.loud_momentary g) m.momentary).setI (O.loud_short_term g) m.shortTerm).setI
      (O.loud_integrated g) (-32768)).setN (O.loud_range g) 0).setI (O.loud_true_peak g) (-32768)).setN (O.loud_status g) 0 :=
  ⟨_, if_pos reset⟩

theorem State.loudUpdate_reads_of_reset {s : State} {g : Nat} (m : LoudMeas) (reset : s.audio.resets.contains g = true) :
    (s.loudUpdate g m).int (O.loud_momentary g) = m.momentary ∧ (s.loudUpdate g m).int (O.loud_short_term g) = m.shortTerm ∧
    (s.loudUpdate g m).int (O.loud_integrated g) = -32768 ∧ (s.loudUpdate g m).int (O.loud_true_peak g) = -32768 ∧
    (s.loudUpdate g m).nat (O.loud_range g) = 0 ∧ (s.loudUpdate g m).nat (O.loud_status g) = 0 := by
  obtain ⟨u, updated⟩ := State.loudUpdate_of_reset (m := m) reset
  simp [updated, State.setI, State.setN, State.int_set, State.nat_set, Val.int]

section
variable {s a : State} {t g : Nat} (now : a = s.advance t) (m : LoudMeas)
include now

theorem exec_loudnessUpdate_of_enabled (low : 1 ≤ g) (high : g ≤ 1024) (enabled : a.flag (O.loud_enable g) = true) :
    exec (.loudnessUpdate t g m) s = .next (s.closed (a.loudUpdate g m)) := by
  rw [exec_loudnessUpdate, execLoudnessUpdate, done_closed, ← now, if_pos ⟨low, high, enabled⟩]

theorem exec_loudnessUpdate_of_disabled (disabled : g = 0 ∨ 1024 < g ∨ a.flag (O.loud_enable g) = false) :
    exec (.loudnessUpdate t g m) s = .next (s.closed a) := by
  rw [exec_loudnessUpdate, execLoudnessUpdate, done_closed, ← now, if_neg]
  rintro ⟨low, high, enabled⟩
  rcases disabled with zero | many | off
  · omega
  · omega
  · exact absurd enabled (by simp [off])

end

/-- Settles O44: each event by the lemma about it for the state of its arrival. -/
theorem audioEventsComplete : Obligations.AudioEventsComplete := by
  unfold Obligations.AudioEventsComplete
  refine ⟨⟨fun s a t d => exec_audio_path_events_of_none, fun s a t d r now => exec_audioClassChange_of_following now,
      fun s a t d r now => exec_audioClassChange_of_related now, fun s a t d r now => exec_audioClassChange_of_short now,
      fun s a t d r now => exec_audioSlip_of_unrelated now, fun s a t d r now => exec_audioSlip_of_steady now,
      fun s a t ch x now => exec_asrcRelock_of_booked now, fun s a t ch => exec_asrcRelock_of_unbooked,
      fun s a t ch ratio now => exec_asrcAcquired_of_settled now, fun s a t ch ratio now => exec_asrcAcquired_of_unsettled now⟩,
    fun s a t n rate mhz now => exec_aesLock_of_unknown now mhz, fun s a t n rate mhz now => exec_aesLock_of_last now mhz,
    fun s a t n => exec_aesLos_of_unlocked, fun s a t n => exec_aesLos_of_locked,
    fun s a t src bp pa block ok now => exec_aesBlockComplete_of_unknown now bp pa ok,
    fun s a t src bp pa block now => exec_aesBlockComplete_of_bad_crc now bp pa,
    fun s a t src bp pa block now => exec_aesBlockComplete_marks now bp pa,
    fun s a t g m now => exec_loudnessUpdate_of_enabled now m, fun a g => State.loudUpdate_reads_of_reset,
    fun s a t g m now => exec_loudnessUpdate_of_disabled now m⟩

end Sys2Proof.Machine
end

section
/-! Writes of the objects of DPLLs, clock outputs and sync-word ports (R321, R325, R328, R334, R335, R337, R339). -/

namespace Sys2Proof.Machine

/-! ## The rule of each object -/

section
variable {s : State} (w : Writer)

theorem State.familyWrite_timing {fam : Nat} (h : fam = 0x5100 ∨ fam = 0x5200 ∨ fam = 0x5300) (inst sub : Nat) (v : Val) :
    s.familyWrite w [] ⟨fam, inst, sub⟩ v = s.writeTiming ⟨fam, inst, sub⟩ v := by
  rcases h with rfl | rfl | rfl <;> simp [State.familyWrite, State.lullRefuses]

theorem State.familyWrite_dpll {k : Nat} (four : k < 4) (sub : Nat) (v : Val) :
    s.familyWrite w [] ⟨0x5100, k, sub⟩ v = s.writeDpll k sub v :=
  (State.familyWrite_timing w (by decide) ..).trans (if_pos four)

theorem State.familyWrite_cko {o : Nat} (outputs : o < 24) (sub : Nat) (v : Val) :
    s.familyWrite w [] ⟨0x5200, o, sub⟩ v = s.writeCko o sub v :=
  (State.familyWrite_timing w (by decide) ..).trans (if_pos outputs)

theorem State.familyWrite_swp (n sub : Nat) (v : Val) : s.familyWrite w [] ⟨0x5300, n, sub⟩ v = s.writeSwp n sub v :=
  State.familyWrite_timing w (by decide) ..

end

/-! ## A DPLL's forced entry, steer and mode (R321, R325, R328) -/

section
variable (s : State) (k : Nat)

theorem State.writeDpll_force (e : Nat) : s.writeDpll k 0x0A (.n e) =
    if e ≠ none8 ∧ 16 ≤ e then some (C.range, s)
    else some (0, if e = none8 then (s.setN (O.dpll_force_entry k) e).runSelector k else s.setN (O.dpll_force_entry k) e) := rfl

/-- A forced entry only sets the object: the selector takes it up when it next runs. -/
theorem State.writeDpll_force_entry {e : Nat} (entry : e < 16) :
    s.writeDpll k 0x0A (.n e) = some (0, s.setN (O.dpll_force_entry k) e) := by
  have forces : e ≠ none8 := Nat.ne_of_lt (entry.trans (by decide))
  rw [State.writeDpll_force, if_neg fun refused => refused.2.not_gt entry, if_neg forces]

/-- Ending a forced entry runs the selector at once. -/
theorem State.writeDpll_force_none :
    s.writeDpll k 0x0A (.n none8) = some (0, (s.setN (O.dpll_force_entry k) none8).runSelector k) := by
  rw [State.writeDpll_force, if_neg fun refused => refused.1 rfl, if_pos rfl]

theorem State.writeDpll_steer (v : Int) : s.writeDpll k 0x09 (.n v) = some (0,
    if s.nat (O.dpll_mode k) = 2 then (s.setI (O.dpll_steer k) v).tuneTo k v else s.setI (O.dpll_steer k) v) := rfl

theorem State.writeDpllMode_of_setting {sub : Nat} (setting : sub ≠ 0) (v : Nat) : s.writeDpllMode k sub (.n v) =
    if (s.setN ⟨0x5100, k, sub⟩ v).dpllsFit then (0, s.setN ⟨0x5100, k, sub⟩ v) else (C.range, s) := by
  change (if !(s.setN ⟨0x5100, k, sub⟩ v).dpllsFit then (C.range, s)
    else if sub ≠ 0 then (0, s.setN ⟨0x5100, k, sub⟩ v) else _) = _
  rw [if_pos setting]
  cases (s.setN ⟨0x5100, k, sub⟩ v).dpllsFit <;> rfl

theorem State.writeDpll_mode {sub : Nat} (last : sub ≤ 4) (v : Val) : s.writeDpll k sub v = some (s.writeDpllMode k sub v) := by
  unfold State.writeDpll
  split
  iterate 4 omega
  exact if_pos last

end

/-! ## A DPLL's epoch (R334) -/

section
variable (s : State) (k : Nat)

theorem State.writeDpll_epoch_arm : s.writeDpll k 0x0F (.n 1) = some (s.armEpoch k) :=
  congrArg some (if_pos rfl)

theorem State.writeDpll_epoch_disarm : s.writeDpll k 0x0F (.n 0) = some (s.disarmEpoch k) :=
  congrArg some (if_neg Nat.zero_ne_one)

variable {s k}

theorem State.disarmEpoch_of_armed (armed : s.nat (O.dpll_epoch_state k) = 1) :
    s.disarmEpoch k = (0, (s.putDpll { s.dpll k with epoch := none }).setN (O.dpll_epoch_state k) 0) := by
  simp only [State.disarmEpoch, armed]

theorem State.disarmEpoch_of_run (ran : s.nat (O.dpll_epoch_state k) = 2) : s.disarmEpoch k = (C.tooLate, s) := by
  simp only [State.disarmEpoch, ran]

end

/-! ## A clock output (R335, R337) -/

section
variable {s : State} {o : Nat}

theorem State.writeCko_enable (s : State) (o : Nat) (on : Bool) :
    s.writeCko o 0x00 (.n (b01 on)) = some (0, s.enableUnit (O.cko_enable o) o on) := by
  cases on <;> rfl

theorem State.writeCko_phase_offset (s : State) (o : Nat) (v : Int) : s.writeCko o 0x05 (.n v) = some (s.writePhase o v) := rfl

theorem State.writePhase_of_far {v : Int} (far : s.ckoPeriod o < v.natAbs ∨ 1000000000000 < v.natAbs) :
    s.writePhase o v = (C.range, s) :=
  if_pos far

/-- An offset within one period and 1 s becomes the target, and the last record of movement is that of the output, from the
phase that it has. Nothing else of the objects changes. -/
theorem State.writePhase_of_near {v : Int} (period : v.natAbs ≤ s.ckoPeriod o) (second : v.natAbs ≤ 1000000000000) :
    ∃ u : State, s.writePhase o v = (0, u) ∧ u.get (O.cko_phase_offset o) = .n v ∧
      u.timing.glides.getLast? = some ⟨0, o, s.ckoPhase o, s.now⟩ ∧ ∀ k, k ≠ O.cko_phase_offset o → u.get k = s.get k := by
  have near : ¬(s.ckoPeriod o < v.natAbs ∨ 1000000000000 < v.natAbs) := by omega
  refine ⟨_, if_neg near, ?_, List.getLast?_concat, fun k other => ?_⟩
  · exact (State.get_set s _ (.n v) _).trans (if_pos rfl)
  · exact (State.get_set s _ (.n v) k).trans (if_neg other)

end

/-! ## A sync-word port (R339) -/

section
variable (s : State) (n : Nat)

theorem State.writeSwp_disable : s.writeSwp n 0x00 (.n 0) = some (0, s.enableUnit (O.swp_enable n) (64 + n) false) := rfl

theorem State.writeSwp_enable : s.writeSwp n 0x00 (.n 1) =
    some (if s.swpFits n then (0, s.enableUnit (O.swp_enable n) (64 + n) true) else (C.range, s)) := by
  change some (if 1 = 1 ∧ !s.swpFits n then (C.range, s) else (0, s.enableUnit (O.swp_enable n) (64 + n) true)) = _
  cases s.swpFits n <;> rfl

end

/-- Settles O10: the unit's rule by `State.familyWrite_dpll`, `State.familyWrite_cko` or `State.familyWrite_swp`, and what it does
by the lemma about the object. -/
theorem dpllAndClockOutputWriteRules : Obligations.DpllAndClockOutputWriteRules := by
  unfold Obligations.DpllAndClockOutputWriteRules
  refine ⟨⟨?forces, ?frees, ?steers, ?setting, ?arms, fun b w k four => ⟨?disarms, ?tooLate⟩⟩,
    fun b w o outputs => ⟨?enables, ?disables⟩, fun b w o v outputs => ⟨?far, ?near⟩, fun b w n => ⟨?stops, ?starts⟩⟩
  case forces => exact fun b w k e four entry => (b.familyWrite_dpll w four ..).trans (b.writeDpll_force_entry k entry)
  case frees => exact fun b w k four => (b.familyWrite_dpll w four ..).trans (b.writeDpll_force_none k)
  case steers => exact fun b w k v four => (b.familyWrite_dpll w four ..).trans (b.writeDpll_steer k v)
  case setting =>
    intro b w k sub v four first last
    rw [b.familyWrite_dpll w four, b.writeDpll_mode k last, b.writeDpllMode_of_setting k (Nat.ne_of_gt first)]
  case arms =>
    rintro b w k _ _ four rfl rfl
    exact (b.familyWrite_dpll w four ..).trans (b.writeDpll_epoch_arm k)
  case disarms =>
    intro armed
    rw [b.familyWrite_dpll w four, b.writeDpll_epoch_disarm, State.disarmEpoch_of_armed armed]
  case tooLate =>
    intro ran
    rw [b.familyWrite_dpll w four, b.writeDpll_epoch_disarm, State.disarmEpoch_of_run ran]
  case enables => exact (b.familyWrite_cko w outputs ..).trans (b.writeCko_enable o true)
  case disables => exact (b.familyWrite_cko w outputs ..).trans (b.writeCko_enable o false)
  case far =>
    intro far
    rw [b.familyWrite_cko w outputs, b.writeCko_phase_offset, State.writePhase_of_far far]
  case near =>
    intro period second
    simpa only [b.familyWrite_cko w outputs, b.writeCko_phase_offset, Option.some.injEq] using State.writePhase_of_near period second
  case stops => exact (b.familyWrite_swp w ..).trans (b.writeSwp_disable n)
  case starts => exact (b.familyWrite_swp w ..).trans (b.writeSwp_enable n)

end Sys2Proof.Machine
end

section
/-! What every command keeps: the queue, and the number of time bases; and how its arrival moves time (R346, log entries 1, 2 and
4). -/

namespace Sys2Proof.Machine

/-- The state that a command goes on to keeps what stood at its arrival (`exec_keeps`). -/
theorem keeps_of_exec {c : Instr} {s s' : State} (h : exec c s = .next s') : ∃ t, Keeps (s.advance t) s' := by
  obtain ⟨t, u, next, keeps⟩ := exec_keeps c s
  cases next.symm.trans h
  exact ⟨t, keeps⟩

/-- Settles O5: what `Keeps` says of the arrival, whose instant is the later of the state's and the command's. That the commands that
wait are the model's, that time does not run back and that each command has free values of its own are log entries 1, 2 and 4. -/
theorem commandsKeepQueueTimeAndTimeBases : Obligations.CommandsKeepQueueTimeAndTimeBases := by
  unfold Obligations.CommandsKeepQueueTimeAndTimeBases
  refine ⟨fun c s s' h => ?_, fun c s s' four h => ?_⟩
  · obtain ⟨t, pending, now, free, -⟩ := keeps_of_exec h
    exact ⟨pending, (Nat.le_max_left s.now t).trans now.ge, free⟩
  · obtain ⟨t, -, -, -, tbs, -⟩ := keeps_of_exec h
    exact tbs.trans four

end Sys2Proof.Machine
end

section
/-! Writes of the objects of a time base, of its timestamp queue and of the launch request (R357, R358, R362, R364). -/

namespace Sys2Proof.Machine

/-! ## The rule of each object -/

section
variable {s : State} (w : Writer) (n : Nat)

theorem State.familyWrite_timeBase {fam : Nat} (h : fam = 0x5400 ∨ fam = 0x5600 ∨ fam = 0x5700) (ovr : List Nat) (inst sub : Nat)
    (v : Val) : s.familyWrite w ovr ⟨fam, inst, sub⟩ v = s.writeTimeBase ovr ⟨fam, inst, sub⟩ v := by
  rcases h with rfl | rfl | rfl <;> simp [State.familyWrite, State.lullRefuses]

theorem State.familyWrite_tb_jump_accept (on : Nat) : s.familyWrite w [] (O.tb_jump_accept n) (.n on) =
    some (if on = 1 then s.acceptJump n else s.withdrawJump n) :=
  State.familyWrite_timeBase w (by decide) ..

theorem State.familyWrite_tb_time_set (ovr : List Nat) (reading : Nat) :
    s.familyWrite w ovr (O.tb_time_set n) (.n reading) = some (s.writeTime n reading (ovr.contains n)) :=
  State.familyWrite_timeBase w (by decide) ..

theorem State.familyWrite_tsq_release (seq : Nat) :
    s.familyWrite w [] (O.tsq_release n) (.n seq) = some (s.releaseStamps n seq) :=
  State.familyWrite_timeBase w (by decide) ..

theorem State.familyWrite_tsq_clear_overflow :
    s.familyWrite w [] (O.tsq_clear_overflow n) (.n 1) = some (0, s.setBit (O.tsq_status n) 0 false) :=
  State.familyWrite_timeBase w (by decide) ..

theorem State.familyWrite_launch_request (req : Bytes) :
    s.familyWrite w [] O.launch_request (.b req) = some (s.writeLaunch req) :=
  State.familyWrite_timeBase w (by decide) ..

end

/-! ## A pending step (R357) -/

section
variable {s : State} {n : Nat}

/-- A pending step is accepted for the instant written, or for 1 ms from now; not for one that lies nearer. -/
theorem State.acceptJump_of_pending {at' : Nat} (pending : s.nat (O.tb_jump_state n) = 1 ∨ s.nat (O.tb_jump_state n) = 2)
    (instant : at' = if s.nat (O.tb_jump_at n) = 0 then s.tbNow n + 1000000 else s.nat (O.tb_jump_at n)) :
    s.acceptJump n = if at' < s.tbNow n + 1000000 then (C.range, s)
      else (0, (s.putTb { s.tbRec n with accept := some at' }).setN (O.tb_jump_state n) 2) := by
  have pends : ¬(s.nat (O.tb_jump_state n) ≠ 1 ∧ s.nat (O.tb_jump_state n) ≠ 2) := by omega
  have near : at' < s.tbNow n + 1000000 ↔
      s.nat (O.tb_jump_at n) ≠ 0 ∧ s.nat (O.tb_jump_at n) < s.tbNow n + 1000000 := by
    by_cases unset : s.nat (O.tb_jump_at n) = 0
    · simp [instant, unset]
    · simp [instant, unset]
  rw [State.acceptJump, if_neg pends, instant]
  simp only [← near, instant]

theorem State.acceptJump_of_none (none : s.nat (O.tb_jump_state n) = 0 ∨ s.nat (O.tb_jump_state n) = 3) :
    s.acceptJump n = (C.range, s) :=
  if_pos (by omega)

theorem State.withdrawJump_of_accepted (accepted : s.nat (O.tb_jump_state n) = 2) :
    s.withdrawJump n = (0, (s.putTb { s.tbRec n with accept := none }).setN (O.tb_jump_state n) 1) := by
  simp only [State.withdrawJump, accepted]

theorem State.withdrawJump_of_made (made : s.nat (O.tb_jump_state n) = 3) : s.withdrawJump n = (C.tooLate, s) := by
  simp only [State.withdrawJump, made]

/-! ## A time that is set (R358) -/

theorem State.writeTime_of_own (reading : Nat) (ovr : List Nat) (own : s.nat (O.tb_role n) < 2) :
    s.writeTime n reading (ovr.contains n) =
      if s.nat (O.tb_jump_guard n) < ((reading : Int) - s.tbNow n).natAbs ∧ ¬ n ∈ ovr then (C.jump, s)
      else if reading = s.tbNow n then (0, s) else (0, s.stepTb n ((reading : Int) - s.tbNow n)) := by
  have still : (reading : Int) - s.tbNow n = 0 ↔ reading = s.tbNow n := by omega
  simp only [State.writeTime, if_neg (not_le.2 own), still, apply_ite (Prod.mk 0), Bool.not_eq_true', List.contains_eq_mem,
    decide_eq_false_iff_not]

theorem State.writeTime_of_following (reading : Nat) (override : Bool) (follows : 2 ≤ s.nat (O.tb_role n)) :
    s.writeTime n reading override = (C.busy, s) :=
  if_pos follows

/-! ## The timestamp queue (R362) -/

theorem State.releaseStamps_of_found {seq : Nat} {l : List Bytes}
    (found : dropStamps seq (records 20 (s.oct (O.tsq_entries n))) = some l) :
    s.releaseStamps n seq = (0, (s.setB (O.tsq_entries n) l.flatten).setN (O.tsq_count n) l.length) := by
  rw [State.releaseStamps, found]

theorem State.releaseStamps_of_missing {seq : Nat} (missing : dropStamps seq (records 20 (s.oct (O.tsq_entries n))) = none) :
    s.releaseStamps n seq = (C.range, s) := by
  rw [State.releaseStamps, missing]

/-! ## Launch requests (R364) -/

theorem State.writeLaunch_of_standby (req : Bytes) (standby : s.standby = true) : s.writeLaunch req = (C.locked, s) :=
  if_pos standby

/-- A request that is whole, for an instant from 2 µs to 1 s ahead and an interface that is up, joins those that wait. -/
theorem State.writeLaunch_of_good {req : Bytes} {i : Nat} (serving : s.standby = false) (least : 30 ≤ req.length)
    (most : req.length ≤ 1530) (base : field req 0 1 < 4) (flags : field req 1 1 < 2)
    (instant : s.launchInstant (field req 0 1) (slice req 6 10) = some i) (ahead : s.tbNow (field req 0 1) + 2000 ≤ i)
    (within : i ≤ s.tbNow (field req 0 1) + 1000000000) (up : s.ifaceUp (field req 2 2) = true) :
    s.writeLaunch req = if 64 ≤ s.clocks.launches.length then (C.busy, s)
      else (0, { s with clocks := { s.clocks with launches := s.clocks.launches ++
        [⟨field req 0 1, field req 1 1 == 1, field req 2 2, field req 4 2, i, req.drop 16⟩] } }) := by
  have serves : ¬s.standby = true := by simp [serving]
  have whole : ¬(req.length < 30 ∨ 1530 < req.length ∨ 4 ≤ field req 0 1 ∨ 2 ≤ field req 1 1) := by omega
  have timely : ¬(i < s.tbNow (field req 0 1) + 2000 ∨ s.tbNow (field req 0 1) + nsPerSec < i ∨ (!s.ifaceUp (field req 2 2)) = true) := by
    simp only [up, Bool.not_true, Bool.false_eq_true, or_false, nsPerSec]
    omega
  rw [State.writeLaunch, if_neg serves, if_neg whole, instant]
  exact if_neg timely

end

/-- Settles O11: each object's rule by `State.familyWrite_timeBase`, and what the rule does by its own lemmas. -/
theorem timeBaseAndLaunchWriteRules : Obligations.TimeBaseAndLaunchWriteRules := by
  unfold Obligations.TimeBaseAndLaunchWriteRules
  refine ⟨⟨?accepts, ?noStep, ?withdraws, ?sets, ?follows, ?releases, ?missing, ?clears⟩, ?standby, ?launches⟩
  case accepts =>
    intro b w n at' pending instant
    exact (b.familyWrite_tb_jump_accept w n 1).trans (congrArg some (State.acceptJump_of_pending pending instant))
  case noStep =>
    intro b w n none
    exact (b.familyWrite_tb_jump_accept w n 1).trans (congrArg some (State.acceptJump_of_none none))
  case withdraws =>
    refine fun b w n => ⟨fun accepted => ?_, fun made => ?_⟩
    · exact (b.familyWrite_tb_jump_accept w n 0).trans (congrArg some (State.withdrawJump_of_accepted accepted))
    · exact (b.familyWrite_tb_jump_accept w n 0).trans (congrArg some (State.withdrawJump_of_made made))
  case sets =>
    intro b w n reading ovr own
    rw [b.familyWrite_tb_time_set w, State.writeTime_of_own reading ovr own]
  case follows =>
    intro b w n reading ovr follows
    rw [b.familyWrite_tb_time_set w, State.writeTime_of_following reading _ follows]
  case releases =>
    intro b w n seq l found
    rw [b.familyWrite_tsq_release w, State.releaseStamps_of_found found]
  case missing =>
    intro b w n seq missing
    rw [b.familyWrite_tsq_release w, State.releaseStamps_of_missing missing]
  case clears => exact fun b w n => b.familyWrite_tsq_clear_overflow w n
  case standby =>
    intro b w req standby
    rw [b.familyWrite_launch_request w, State.writeLaunch_of_standby req standby]
  case launches =>
    rintro b w req _ i serving least most rfl base flags instant ahead within up
    rw [b.familyWrite_launch_request w, State.writeLaunch_of_good serving least most base flags instant ahead within up]

end Sys2Proof.Machine
end

section
/-! The events of PTP, of steps and of launch (R347, R350, R357, R359, R361, R363, R365). -/

namespace Sys2Proof.Machine

/-! ## The arms -/

section
variable (s : State) (t p tb iface delay : Nat)

theorem exec_ptpMessageRx (m : PtpMsg) : exec (.ptpMessageRx t p m) s = execPtpMessageRx t p m s := rfl

theorem exec_ptpMessageTx (kind : PtpSend) : exec (.ptpMessageTx t p kind) s = execPtpMessageTx t p kind s := rfl

theorem exec_announceTimeout : exec (.announceTimeout t p) s = execAnnounceTimeout t p s := rfl

theorem exec_ptpNoMasterCheck : exec (.ptpNoMasterCheck t tb) s = execPtpNoMasterCheck t tb s := rfl

theorem exec_stepInstant : exec (.stepInstant t tb) s = execStepInstant t tb s := rfl

theorem exec_packetLaunch : exec (.packetLaunch t iface delay) s = .next (s.closed ((s.advance t).launchNext iface delay)) := rfl

end

/-! ## PTP messages (R347, R350) -/

section
variable {s a : State} {t p : Nat} (now : a = s.advance t)
include now

theorem exec_ptpMessageRx_of_enabled (m : PtpMsg) (port : p < 64) (enabled : a.flag (O.ptp_enable p) = true) :
    exec (.ptpMessageRx t p m) s = .next (s.closed (a.ptpRx p m)) := by
  subst now
  rw [exec_ptpMessageRx, execPtpMessageRx, done_closed, if_pos ⟨port, enabled⟩]

theorem exec_ptpMessageRx_of_deaf (m : PtpMsg) (deaf : 64 ≤ p ∨ a.flag (O.ptp_enable p) = false) :
    exec (.ptpMessageRx t p m) s = .next (s.closed a) := by
  subst now
  have unheard : ¬(p < 64 ∧ (s.advance t).flag (O.ptp_enable p) = true) := by
    rintro ⟨port, enabled⟩
    rcases deaf with none | disabled
    · omega
    · simp [enabled] at disabled
  rw [exec_ptpMessageRx, execPtpMessageRx, done_closed, if_neg unheard]

omit now in
theorem State.ptpTx_of_silent {kind : PtpSend} (silent : a.maySend p kind = false) : a.ptpTx p kind = a :=
  if_neg (by simp [silent])

omit now in
/-- A message that is no Announce leaves over a management port without data of the clock, and without a frame counted. -/
theorem State.ptpTx_over_management {kind : PtpSend} (may : a.maySend p kind = true) (plain : kind ≠ .announce)
    (management : 1024 ≤ a.nat (O.ptp_interface p)) :
    a.ptpTx p kind = (a.count (O.ptp_tx_messages p)).emit (.ptp p kind 0 0 none) := by
  rw [State.ptpTx, if_pos may]
  simp only [if_neg (not_lt.2 management), if_neg plain]

theorem exec_ptpMessageTx_of_silent {kind : PtpSend} (silent : 64 ≤ p ∨ a.maySend p kind = false) :
    exec (.ptpMessageTx t p kind) s = .next (s.closed a) := by
  subst now
  rw [exec_ptpMessageTx, execPtpMessageTx, done_closed]
  rcases silent with none | silent
  · rw [if_neg (not_lt.2 none)]
  · rw [State.ptpTx_of_silent silent, ite_self]

theorem exec_ptpMessageTx_over_management {kind : PtpSend} (port : p < 64) (may : a.maySend p kind = true) (plain : kind ≠ .announce)
    (management : 1024 ≤ a.nat (O.ptp_interface p)) :
    exec (.ptpMessageTx t p kind) s = .next (s.closed ((a.count (O.ptp_tx_messages p)).emit (.ptp p kind 0 0 none))) := by
  subst now
  rw [exec_ptpMessageTx, execPtpMessageTx, done_closed, if_pos port, State.ptpTx_over_management may plain management]

end

/-! ## Masters that are not heard (R347, R365) -/

section
variable {s a : State} {t p : Nat} (now : a = s.advance t)
include now

theorem exec_announceTimeout_of_disabled (disabled : 64 ≤ p ∨ a.flag (O.ptp_enable p) = false) :
    exec (.announceTimeout t p) s = .next (s.closed a) := by
  subst now
  have off : (!decide (p < 64 ∧ (s.advance t).flag (O.ptp_enable p) = true)) = true := by
    rcases disabled with none | disabled
    · simp [none]
    · simp [disabled]
  rw [exec_announceTimeout, execAnnounceTimeout, done_closed]
  exact congrArg _ (congrArg _ (if_pos off))

/-- While every master that was heard is heard still, the port keeps them. -/
theorem exec_announceTimeout_of_live (port : p < 64) (enabled : a.flag (O.ptp_enable p) = true) (some : (a.ptp p).heard ≠ [])
    (live : ∀ e ∈ (a.ptp p).heard, a.now < e.2 + a.announceNs p) : exec (.announceTimeout t p) s = .next (s.closed a) := by
  subst now
  have on : ¬(!decide (p < 64 ∧ (s.advance t).flag (O.ptp_enable p) = true)) = true := by simp [port, enabled]
  have kept : (((s.advance t).ptp p).heard.filter (fun e => (s.advance t).now < e.2 + (s.advance t).announceNs p)) =
      ((s.advance t).ptp p).heard := List.filter_eq_self.2 fun e heard => decide_eq_true (live e heard)
  rw [exec_announceTimeout, execAnnounceTimeout, done_closed]
  refine congrArg _ (congrArg _ ((if_neg on).trans (if_pos ⟨by rw [kept], .inl ?_⟩)))
  simp [some]

/-- A port that has heard no master for its time-out runs the best master clock algorithm as timed out. -/
theorem exec_announceTimeout_of_none (port : p < 64) (enabled : a.flag (O.ptp_enable p) = true) (none : (a.ptp p).heard = [])
    (due : (a.ptp p).since + a.announceNs p ≤ a.now) (alone : (a.tbRec (a.nat (O.ptp_time_base p))).follows = Option.none) :
    exec (.announceTimeout t p) s = .next (s.closed
      ((a.putPtp { a.ptp p with heard := [], timedOut := true }).bmca (a.nat (O.ptp_time_base p)))) := by
  have on : ¬(!decide (p < 64 ∧ a.flag (O.ptp_enable p) = true)) = true := by simp [port, enabled]
  have overdue : ¬(a.now < (a.ptp p).since + a.announceNs p) := not_lt.2 due
  rw [exec_announceTimeout, execAnnounceTimeout, done_closed, ← now]
  refine congrArg _ (congrArg _ ((if_neg on).trans ?_))
  simp [none, alone, overdue]

end

/-! ## Steps (R357, R359) -/

section
variable {s a : State} {t tb : Nat} (now : a = s.advance t)
include now

theorem exec_stepInstant_of_none (none : 4 ≤ tb ∨ (a.tbRec tb).accept = .none) : exec (.stepInstant t tb) s = .next (s.closed a) := by
  subst now
  rw [exec_stepInstant, execStepInstant, done_closed]
  rcases none with beyond | none
  · rw [if_neg (not_lt.2 beyond)]
  · simp only [State.stepDue, none, ite_self]

theorem exec_stepInstant_of_accepted {at' : Nat} (four : tb < 4) (accepted : (a.tbRec tb).accept = some at') :
    exec (.stepInstant t tb) s = .next (s.closed (if a.tbNow tb < at' then a
      else if a.nat (O.tb_jump_guard tb) < (a.int (O.tb_jump_pending tb)).natAbs then
        (a.endPending tb 3).stepTb tb (a.int (O.tb_jump_pending tb)) false
      else a.endPending tb 0)) := by
  subst now
  rw [exec_stepInstant, execStepInstant, done_closed, if_pos four]
  simp only [State.stepDue, accepted]

end

/-! ## Launch (R363, R364) -/

section
variable {s : State} {iface delay : Nat}

theorem State.launchNext_of_idle (idle : s.ifaceUp iface = false ∨ s.nextLaunch iface = none) : s.launchNext iface delay = s := by
  rcases idle with down | none
  · simp [State.launchNext, down]
  · simp [State.launchNext, none]

/-- A scheduler that is up releases the launch request that is due next. -/
theorem State.launchNext_of_request {l : Launchable} {r : LaunchReq} (up : s.ifaceUp iface = true) (next : s.nextLaunch iface = some l)
    (request : l.what = .inr r) : s.launchNext iface delay = s.launchRequest r delay := by
  obtain ⟨overdue, place, num, what⟩ := l
  subst request
  simp [State.launchNext, up, next]

/-- A request that is not late, and asks for no stamp, leaves as its frame and waits no longer. -/
theorem State.launchRequest_in_time {r : LaunchReq} (inTime : delay ≤ s.frameTime r.iface) (unstamped : r.stamp = false) :
    .launch r.iface r.frame ∈ (s.launchRequest r delay).out ∧ r ∉ (s.launchRequest r delay).clocks.launches := by
  have notLate : ¬s.frameTime r.iface < delay := not_lt.2 inTime
  have left (u : State) : (u.frameLeaves r.iface delay).clocks = u.clocks := by
    unfold State.frameLeaves
    split
    · rfl
    · rfl
  simp [State.launchRequest, notLate, unstamped, left]

end

section
variable {s a : State} {t iface delay : Nat} (now : a = s.advance t)
include now

theorem exec_packetLaunch_of_idle (idle : a.ifaceUp iface = false ∨ a.nextLaunch iface = none) :
    exec (.packetLaunch t iface delay) s = .next (s.closed a) := by
  subst now
  rw [exec_packetLaunch, State.launchNext_of_idle idle]

theorem exec_packetLaunch_of_request {l : Launchable} {r : LaunchReq} (up : a.ifaceUp iface = true) (next : a.nextLaunch iface = some l)
    (request : l.what = .inr r) (inTime : delay ≤ a.frameTime r.iface) (unstamped : r.stamp = false) :
    ∃ b, exec (.packetLaunch t iface delay) s = .next (s.closed b) ∧ .launch r.iface r.frame ∈ b.out ∧ r ∉ b.clocks.launches := by
  subst now
  refine ⟨_, exec_packetLaunch .., ?_⟩
  rw [State.launchNext_of_request up next request]
  exact State.launchRequest_in_time inTime unstamped

end

/-- Settles O47: each event by the lemma about it for the state of its arrival. -/
theorem timeBaseEventsComplete : Obligations.TimeBaseEventsComplete := by
  unfold Obligations.TimeBaseEventsComplete
  refine ⟨fun s a t p m now => exec_ptpMessageRx_of_enabled now m, fun a p => rfl,
    fun s a t p m now => exec_ptpMessageRx_of_deaf now m, fun s a t p kind now => exec_ptpMessageTx_of_silent now,
    fun s a t p kind now => exec_ptpMessageTx_over_management now, fun s a t p now => exec_announceTimeout_of_disabled now,
    fun s a t p now => exec_announceTimeout_of_live now, fun s a t p now => exec_announceTimeout_of_none now, ?check,
    fun s a t tb now => exec_stepInstant_of_none now, fun s a t tb at' now => exec_stepInstant_of_accepted now,
    fun s a t iface delay now => exec_packetLaunch_of_idle now, fun s a t iface delay l r now => exec_packetLaunch_of_request now⟩
  case check =>
    rintro s _ t tb rfl
    exact exec_ptpNoMasterCheck ..

end Sys2Proof.Machine
end

section
/-! Writes of a lane's set state, of its equaliser's restart and of its test (R378, R383, R384, R387, R389, R390, R514). -/

namespace Sys2Proof.Machine

/-- A lookup after a key is set. -/
theorem kfind_kput {κ α : Type} [DecidableEq κ] (l : List (κ × α)) (k : κ) (v : α) (k' : κ) :
    kfind (kput l k v) k' = if k' = k then some v else kfind l k' := by
  induction l with
  | nil => simp only [kput, kfind, eq_comm]
  | cons x r ih =>
    obtain ⟨a, b⟩ := x
    by_cases here : a = k
    · subst here
      by_cases sought : k' = a
      · simp [kput, kfind, sought]
      · simp [kput, kfind, sought, Ne.symm sought]
    · by_cases sought : a = k'
      · subst sought
        simp [kput, kfind, here]
      · simp [kput, kfind, here, sought, ih]

theorem State.get_with_lanes (s : State) (x : Lanes) (k : Key) : ({ s with lanes := x } : State).get k = s.get k := rfl

/-! ## The rule of each object -/

section
variable {s : State} (w : Writer)

/-- Lull refuses the start of a lane test alone among the writes of lanes, equalisers and tests. -/
theorem State.familyWrite_lanes {fam : Nat} (h : fam = 0x2000 ∨ fam = 0x2100 ∨ fam = 0x2200) (inst : Nat) {sub : Nat} (v : Val)
    (admitted : sub = 0x07 → s.inLull = false) : s.familyWrite w [] ⟨fam, inst, sub⟩ v = s.writeLanes ⟨fam, inst, sub⟩ v := by
  have awake : s.lullRefuses ⟨fam, inst, sub⟩ v = false := by
    by_cases starts : sub = 0x07
    · exact State.lullRefuses_of_awake (admitted starts) ..
    · rcases h with rfl | rfl | rfl <;> simp [State.lullRefuses, starts]
  rcases h with rfl | rfl | rfl <;> simp [State.familyWrite, awake]

theorem State.familyWrite_lane_state {l : Nat} (lane : l < 1024) (v : Nat) :
    s.familyWrite w [] (O.lane_state l) (.n v) = some (s.writeLaneState l v) := by
  have started : (0x00 : Nat) = 0x07 → s.inLull = false := nofun
  exact (State.familyWrite_lanes w (.inl rfl) l (.n v) started).trans (if_pos lane)

theorem State.familyWrite_eq_restart (l : Nat) : s.familyWrite w [] (O.eq_restart l) (.n 1) =
    some (if 2 ≤ s.nat (O.eq_eq_mode l) then (C.busy, s)
      else (0, ((s.setN (O.eq_ctle_code l) 0).setB (O.eq_dfe_taps l) (zeros 15)).setN (O.eq_adapt_state l) 1)) :=
  State.familyWrite_lanes w (by decide) _ _ nofun

theorem State.familyWrite_ltest_start (l : Nat) (awake : s.inLull = false) :
    s.familyWrite w [] (O.ltest_start l) (.n 1) = some (s.startTest l) :=
  State.familyWrite_lanes w (by decide) _ _ fun _ => awake

theorem State.familyWrite_ltest_start_of_lull (l : Nat) (lull : s.inLull = true) :
    s.familyWrite w [] (O.ltest_start l) (.n 1) = some (C.busy, s) :=
  if_pos (by simp [State.lullRefuses, lull, Val.int])

theorem State.familyWrite_ltest_stop (l : Nat) : s.familyWrite w [] (O.ltest_stop l) (.n 1) =
    some (if s.testRuns l then (0, s.abortTest l) else if s.nat (O.ltest_state l) = 3 then (C.tooLate, s) else (0, s)) :=
  State.familyWrite_lanes w (by decide) _ _ nofun

theorem State.familyWrite_ltest_finish (l : Nat) : s.familyWrite w [] (O.ltest_finish l) (.n 1) =
    some (if s.testRuns l then (0, s.finalCount l) else (C.range, s)) :=
  State.familyWrite_lanes w (by decide) _ _ nofun

theorem State.familyWrite_ltest_inject_single (l n : Nat) : s.familyWrite w [] (O.ltest_inject_single l) (.n n) =
    some (if !s.testRuns l then (C.busy, s) else (0, if n = 1 then s.count (O.ltest_injected l) else s)) :=
  State.familyWrite_lanes w (by decide) _ _ nofun

theorem State.familyWrite_ltest_inject_burst (l n : Nat) : s.familyWrite w [] (O.ltest_inject_burst l) (.n n) =
    some (if !s.testRuns l then (C.busy, s) else (0, s.count (O.ltest_injected l) n)) :=
  State.familyWrite_lanes w (by decide) _ _ nofun

end

/-! ## Lane states (R382 to R384) -/

/-- A source that is gone reads its timing state as none, and no other object changes. -/
theorem State.get_sourceGone (s : State) (x : Nat) (k : Key) :
    (s.sourceGone x).get k = if k = O.src_timing_state x then .n 0 else s.get k :=
  s.get_set ..

theorem State.nat_sourceGone_other (s : State) (x : Nat) {k : Key} (other : k ≠ O.src_timing_state x) :
    (s.sourceGone x).nat k = s.nat k := by
  rw [State.nat, s.get_sourceGone, if_neg other, State.nat]

/-- A lane that sleeps reads Dormant, without lock, and its equaliser idle. -/
theorem State.laneSleeps_reads (s : State) (l : Nat) : (s.laneSleeps l).nat (O.lane_state_now l) = 2 ∧
    (s.laneSleeps l).nat (O.lane_rx_lock l) = 0 ∧ (s.laneSleeps l).nat (O.eq_adapt_state l) = 0 := by
  unfold State.laneSleeps
  refine ⟨?_, ?_, ?_⟩
  · rw [State.nat_sourceGone_other _ _ (by simp)]
    simp [State.nat_setN]
  · rw [State.nat_sourceGone_other _ _ (by simp)]
    simp [State.nat_setN]
  · rw [State.nat_sourceGone_other _ _ (by simp), State.nat_setN_same]

section
variable {s : State} {l : Nat}

/-- Active and Idle are reached at once, but from Dormant through waking; a lane that wakes goes on to wake. -/
theorem State.laneTo_of_awake {v : Nat} (awake : v ≠ 2) : s.laneTo l v =
    if s.nat (O.lane_state_now l) = 2 then s.setN (O.lane_state_now l) 3
    else if s.nat (O.lane_state_now l) = 3 then s else s.setN (O.lane_state_now l) v :=
  if_neg awake

theorem State.laneTo_dormant (other : s.nat (O.lane_state_now l) ≠ 2) : s.laneTo l 2 = s.laneSleeps l := by
  rw [State.laneTo, if_pos rfl, if_neg other]

theorem State.writeLaneState_of_allowed {v : Nat} (allowed : v = 0 ∨ (v = 1 ∧ s.mayIdle (s.ownerPort l) = true)) :
    s.writeLaneState l v = (0, if s.nat (O.lane_state_now l) = 2 then (s.setN (O.lane_state l) v).setN (O.lane_state_now l) 3
      else if s.nat (O.lane_state_now l) = 3 then s.setN (O.lane_state l) v
      else (s.setN (O.lane_state l) v).setN (O.lane_state_now l) v) := by
  have granted : ¬((v = 1 ∧ (!s.mayIdle (s.ownerPort l)) = true) ∨ (v = 2 ∧ (!s.mayDormant (s.ownerPort l)) = true)) := by
    rcases allowed with rfl | ⟨rfl, idle⟩
    · simp
    · simp [idle]
  have awake : v ≠ 2 := by omega
  have stays : (s.setN (O.lane_state l) v).nat (O.lane_state_now l) = s.nat (O.lane_state_now l) :=
    State.nat_setN_other _ _ (by simp)
  rw [State.writeLaneState, if_neg granted, State.laneTo_of_awake awake, stays]

theorem State.writeLaneState_idle_of_use (used : s.mayIdle (s.ownerPort l) = false) : s.writeLaneState l 1 = (C.busy, s) :=
  if_pos (.inl ⟨rfl, by simp [used]⟩)

theorem State.writeLaneState_dormant_of_use (used : s.mayDormant (s.ownerPort l) = false) : s.writeLaneState l 2 = (C.busy, s) :=
  if_pos (.inr ⟨rfl, by simp [used]⟩)

theorem State.writeLaneState_dormant (unused : s.mayDormant (s.ownerPort l) = true) (other : s.nat (O.lane_state_now l) ≠ 2) :
    s.writeLaneState l 2 = (0, (s.setN (O.lane_state l) 2).laneSleeps l) := by
  have stays : (s.setN (O.lane_state l) 2).nat (O.lane_state_now l) ≠ 2 := by
    rwa [State.nat_setN_other _ _ (by simp)]
  rw [State.writeLaneState, if_neg (by simp [unused]), State.laneTo_dormant stays]

/-! ## Lane tests (R387, R389) -/

/-- The counts of a lane test, and its checker's lock, read 0. -/
def State.clearTest (s : State) (l : Nat) : State :=
  ((((s.setN (O.ltest_bits l) 0).setN (O.ltest_errors l) 0).setN (O.ltest_injected l) 0).setN (O.ltest_relocks l) 0).setN
    (O.ltest_checker_lock l) 0

/-- A test runs on the lane from now on, settling first where it checks. -/
def State.runTest (s : State) (l : Nat) : State :=
  { (s.clearTest l).setN (O.ltest_state l) (if s.flag (O.ltest_checker l) then 1 else 2) with
    lanes := { s.lanes with tests := kput s.lanes.tests l s.now } }

theorem State.startTest_of_use
    (used : s.nat (O.lane_state_now l) ≠ 0 ∨ s.testRuns l = true ∨ s.mayIdle (s.ownerPort l) = false) :
    s.startTest l = (C.busy, s) :=
  if_pos (by simpa using used)

/-- At an SDI rate, which needs no group of the lane-reference PLL, a test starts on an Active lane that nothing uses. -/
theorem State.startTest_of_free (active : s.nat (O.lane_state_now l) = 0) (untested : s.testRuns l = false)
    (unused : s.mayIdle (s.ownerPort l) = true) (sdi : rateGroup (s.testRate l) = some 0) : s.startTest l = (0, s.runTest l) := by
  have free : ¬(s.nat (O.lane_state_now l) ≠ 0 ∨ s.testRuns l = true ∨ (!s.mayIdle (s.ownerPort l)) = true) := by
    simp [active, untested, unused]
  rw [State.startTest, sdi, if_neg free]
  exact (if_neg (by simp)).trans (if_neg (by simp))

theorem State.get_runTest (s : State) (l : Nat) (k : Key) : (s.runTest l).get k =
    ((s.clearTest l).setN (O.ltest_state l) (if s.flag (O.ltest_checker l) then 1 else 2)).get k :=
  State.get_with_lanes ..

theorem State.nat_runTest (s : State) (l : Nat) (k : Key) : (s.runTest l).nat k =
    ((s.clearTest l).setN (O.ltest_state l) (if s.flag (O.ltest_checker l) then 1 else 2)).nat k := by
  rw [State.nat, s.get_runTest, State.nat]

theorem State.get_endTest (s : State) (l st : Nat) (k : Key) : (s.endTest l st).get k =
    ((s.setN (O.ltest_state l) st).setN (O.ltest_checker_lock l) 0).get k :=
  State.get_with_lanes ..

theorem State.nat_endTest (s : State) (l st : Nat) (k : Key) : (s.endTest l st).nat k =
    ((s.setN (O.ltest_state l) st).setN (O.ltest_checker_lock l) 0).nat k := by
  rw [State.nat, s.get_endTest, State.nat]

theorem State.runTest_reads (s : State) (l : Nat) : (s.runTest l).nat (O.ltest_bits l) = 0 ∧ (s.runTest l).nat (O.ltest_errors l) = 0 ∧
    (s.runTest l).nat (O.ltest_injected l) = 0 ∧ (s.runTest l).nat (O.ltest_relocks l) = 0 ∧
    (s.runTest l).nat (O.ltest_checker_lock l) = 0 ∧
    (s.runTest l).nat (O.ltest_state l) = (if s.flag (O.ltest_checker l) then 1 else 2) := by
  simp [State.nat_runTest, State.clearTest, State.nat_setN]

theorem State.runTest_began (s : State) (l : Nat) : kfind (s.runTest l).lanes.tests l = some s.now := by
  simp [State.runTest, kfind_kput]

/-- An object of another family or lane than the test's is none that the test writes. -/
theorem ne_of_not_test {k : Key} {l : Nat} (apart : k.fam ≠ 0x2200 ∨ k.inst ≠ l) (sub : Nat) : k ≠ ⟨0x2200, l, sub⟩ := by
  rintro rfl
  simp at apart

theorem State.get_runTest_other (s : State) {k : Key} (apart : k.fam ≠ 0x2200 ∨ k.inst ≠ l) : (s.runTest l).get k = s.get k := by
  simp [State.get_runTest, State.clearTest, State.get_setN, ne_of_not_test apart]

theorem State.abortTest_reads (s : State) (l : Nat) : (s.abortTest l).nat (O.ltest_state l) = 4 ∧
    (s.abortTest l).nat (O.ltest_bits l) = 0 ∧ (s.abortTest l).nat (O.ltest_errors l) = 0 ∧
    (s.abortTest l).nat (O.ltest_final_bits l) = s.nat (O.ltest_final_bits l) ∧
    (s.abortTest l).nat (O.ltest_final_errors l) = s.nat (O.ltest_final_errors l) := by
  simp [State.abortTest, State.nat_endTest, State.nat_setN]

theorem State.get_abortTest_other (s : State) {k : Key} (apart : k.fam ≠ 0x2200 ∨ k.inst ≠ l) : (s.abortTest l).get k = s.get k := by
  simp [State.abortTest, State.get_endTest, State.get_setN, ne_of_not_test apart]

theorem State.finalCount_reads (s : State) (l : Nat) : (s.finalCount l).nat (O.ltest_state l) = 3 ∧
    (s.finalCount l).nat (O.ltest_final_bits l) = s.nat (O.ltest_bits l) ∧
    (s.finalCount l).nat (O.ltest_final_errors l) = s.nat (O.ltest_errors l) := by
  simp [State.finalCount, State.nat_endTest, State.nat_setN]

theorem State.get_finalCount_other (s : State) {k : Key} (apart : k.fam ≠ 0x2200 ∨ k.inst ≠ l) : (s.finalCount l).get k = s.get k := by
  simp [State.finalCount, State.get_endTest, State.get_setN, ne_of_not_test apart]

end

/-- Settles O15: each write is handed to its rule, and each clause is what the rule does where its hypotheses hold. That a lane's state
changes at acceptance, and that a finish is accepted for a test with a duration, is log entry 60. -/
theorem laneStateAndTestWriteRules : Obligations.LaneStateAndTestWriteRules := by
  unfold Obligations.LaneStateAndTestWriteRules
  refine ⟨⟨?allowed, ?idleUsed, ?dormantUsed, ?dormant, State.laneSleeps_reads⟩, fun b w l => b.familyWrite_eq_restart w l,
    ?used, fun b w l lull => b.familyWrite_ltest_start_of_lull w l lull, ?starts, ?stops, ?finishes, ?late, ?none⟩
  case allowed =>
    intro b w l v lane allowed
    rw [b.familyWrite_lane_state w lane, State.writeLaneState_of_allowed allowed]
  case idleUsed =>
    intro b w l lane used
    exact (b.familyWrite_lane_state w lane 1).trans (congrArg some (State.writeLaneState_idle_of_use used))
  case dormantUsed =>
    intro b w l lane used
    exact (b.familyWrite_lane_state w lane 2).trans (congrArg some (State.writeLaneState_dormant_of_use used))
  case dormant =>
    intro b w l lane unused other
    exact (b.familyWrite_lane_state w lane 2).trans (congrArg some (State.writeLaneState_dormant unused other))
  case used =>
    intro b w l awake used
    rw [b.familyWrite_ltest_start w l awake, State.startTest_of_use used]
  case starts =>
    intro b w l awake active untested unused sdi
    obtain ⟨bits, errors, injected, relocks, lock, state⟩ := b.runTest_reads l
    refine ⟨b.runTest l, ?_, bits, errors, injected, relocks, lock, state, b.runTest_began l, fun k => b.get_runTest_other⟩
    rw [b.familyWrite_ltest_start w l awake, State.startTest_of_free active untested unused sdi]
  case stops =>
    intro b w l runs
    obtain ⟨state, bits, errors, finalBits, finalErrors⟩ := b.abortTest_reads l
    refine ⟨b.abortTest l, ?_, state, bits, errors, finalBits, finalErrors, fun k => b.get_abortTest_other⟩
    rw [b.familyWrite_ltest_stop w l, if_pos runs]
  case finishes =>
    intro b w l runs
    obtain ⟨state, finalBits, finalErrors⟩ := b.finalCount_reads l
    refine ⟨b.finalCount l, ?_, state, finalBits, finalErrors, fun k => b.get_finalCount_other⟩
    rw [b.familyWrite_ltest_finish w l, if_pos runs]
  case late =>
    intro b w l stopped counted
    rw [b.familyWrite_ltest_stop w l, if_neg (by simp [stopped]), if_pos counted]
  case none =>
    intro b w l stopped
    rw [b.familyWrite_ltest_finish w l, if_neg (by simp [stopped])]

/-! ## Bits injected (R390) -/

/-- A counter of 32 bits that has room counts what is added. -/
theorem State.nat_count_of_sum {s : State} {k : Key} {n : Nat} (room : s.nat k + n < 4294967296) :
    (s.count k n).nat k = s.nat k + n := by
  have fits : s.nat k + n < 2 ^ 32 := by simpa only [Nat.reducePow] using room
  rw [State.count, State.nat_setN_same, countUp, if_pos fits]

/-- A burst that a write admits lies within the range of its object. -/
theorem State.burst_of_admits {s : State} {w : Writer} {l n : Nat} (admitted : s.admits w (O.ltest_inject_burst l) (.n n) = true) :
    2 ≤ n ∧ n ≤ 80 := by
  obtain ⟨-, -, -, d, found, fits, -⟩ := State.admits_parts admitted
  have lane : l ≤ 1023 := by
    by_contra beyond
    have absent : rowsOf 0x2200 l = [] := if_neg beyond
    rw [descOf, absent] at found
    cases found
  have map : rowsOf 0x2200 l = rowsLtest := if_pos lane
  have row : descOf (O.ltest_inject_burst l) = rowsLtest.find? (fun d => d.sub = 0x11) := by rw [← map]; rfl
  have range : d.rng = .iv 2 80 := by
    rw [row] at found
    cases found
    rfl
  simpa [range, Rng.holds] using (Bool.and_eq_true_iff.1 fits).2

/-- Settles O16: the two objects' rules count while a test runs, and the burst's range is that of its object. -/
theorem injectedBitsAreCounted : Obligations.InjectedBitsAreCounted := by
  unfold Obligations.InjectedBitsAreCounted
  refine ⟨fun b w l runs => ?single, fun b w l n runs => ?burst, fun b l n => State.nat_count_of_sum,
    fun b w l n stopped => ⟨?_, ?_⟩, fun b w l n => State.burst_of_admits⟩
  case single => exact (b.familyWrite_ltest_inject_single w l 1).trans (by simp [runs])
  case burst => exact (b.familyWrite_ltest_inject_burst w l n).trans (by simp [runs])
  · exact (b.familyWrite_ltest_inject_single w l n).trans (by simp [stopped])
  · exact (b.familyWrite_ltest_inject_burst w l n).trans (by simp [stopped])

end Sys2Proof.Machine
end

section
/-! The events of serial lanes (R375, R376, R381, R384, R388, R389, R391). -/

namespace Sys2Proof.Machine

/-! ## The arms -/

section
variable (s : State) (t l tile pll bits errors : Nat) (disparity locked : Bool) (ppb : Int)

theorem exec_laneExitDone : exec (.laneExitDone t l) s = execLaneExitDone t l s := rfl

theorem exec_laneUnlock : exec (.laneUnlock t l) s = execLaneUnlock t l s := rfl

theorem exec_laneCodeError : exec (.laneCodeError t l disparity) s = execLaneCodeError t l disparity s := rfl

theorem exec_txpllUnlock : exec (.txpllUnlock t tile pll) s = execTxpllUnlock t tile pll s := rfl

theorem exec_txpllRelock : exec (.txpllRelock t tile pll) s = execTxpllRelock t tile pll s := rfl

theorem exec_refMismatchCheck : exec (.refMismatchCheck t l ppb) s = execRefMismatchCheck t l ppb s := rfl

theorem exec_laneTestDurationEnd : exec (.laneTestDurationEnd t l) s = execLaneTestDurationEnd t l s := rfl

theorem exec_checkerLock : exec (.checkerLock t l locked bits errors) s = execCheckerLock t l locked bits errors s := rfl

end

/-! ## Receivers (R381, R384, R391) -/

section
variable {s a : State} {t l : Nat} (now : a = s.advance t)
include now

theorem exec_laneExitDone_of_waking (lane : l < 1024) (waking : a.nat (O.lane_state_now l) = 3) :
    exec (.laneExitDone t l) s = .next (s.closed ((a.setN (O.lane_state_now l) (a.nat (O.lane_state l))).laneLocked l)) := by
  subst now
  rw [exec_laneExitDone, execLaneExitDone, done_closed, if_pos ⟨lane, waking⟩]

theorem exec_laneExitDone_of_other (other : 1024 ≤ l ∨ a.nat (O.lane_state_now l) ≠ 3) :
    exec (.laneExitDone t l) s = .next (s.closed a) := by
  subst now
  rw [exec_laneExitDone, execLaneExitDone, done_closed, if_neg (by omega)]

theorem exec_laneUnlock_of_inactive (inactive : 1024 ≤ l ∨ a.nat (O.lane_state_now l) ≠ 0) :
    exec (.laneUnlock t l) s = .next (s.closed a) := by
  subst now
  rw [exec_laneUnlock, execLaneUnlock, done_closed, if_pos inactive]

/-- The loss of a lock is counted and struck; an equaliser that stands by its own settings does not adapt anew. -/
theorem exec_laneUnlock_of_fixed (lane : l < 1024) (active : a.nat (O.lane_state_now l) = 0) (fixed : 2 ≤ a.nat (O.eq_eq_mode l)) :
    exec (.laneUnlock t l) s = .next (s.closed
      (((a.setN (O.lane_rx_lock l) 0).count (O.lane_lock_losses l)).strike (F.laneUnlock (l / 64)) l 0)) := by
  subst now
  have stays : ¬(s.advance t).nat (O.eq_eq_mode l) ≤ 1 := by omega
  rw [exec_laneUnlock, execLaneUnlock, done_closed, if_neg (by omega)]
  simp only [if_neg stays]

theorem exec_laneCodeError_of_foreign (disparity : Bool) (foreign : 1024 ≤ l ∨ a.portKind l ≠ 5) :
    exec (.laneCodeError t l disparity) s = .next (s.closed a) := by
  subst now
  rw [exec_laneCodeError, execLaneCodeError, done_closed, if_pos foreign]

/-- A code error of lane `l` counted, with its instant held. -/
def State.codeErred (s : State) (l : Nat) (disparity : Bool) : State :=
  let u := s.count (if disparity then O.lane_disparity_errors l else O.lane_code_violations l)
  { u with lanes := { u.lanes with codeAt := kput u.lanes.codeAt l s.now } }

omit now in
theorem State.kfind_codeErred (disparity : Bool) : kfind (a.codeErred l disparity).lanes.codeAt l = some a.now :=
  (kfind_kput ..).trans (if_pos rfl)

/-- An error within a second of the last one is counted, and its instant held; it strikes no fault. -/
theorem exec_laneCodeError_of_recent {at' : Nat} (disparity : Bool) (lane : l < 1024) (mesh : a.portKind l = 5)
    (last : kfind a.lanes.codeAt l = some at') (recent : a.now ≤ at' + 1000000000) :
    ∃ u, exec (.laneCodeError t l disparity) s = .next (s.closed u) ∧
      u.objs = (a.count (if disparity then O.lane_disparity_errors l else O.lane_code_violations l)).objs ∧
      kfind u.lanes.codeAt l = some a.now := by
  subst now
  refine ⟨(s.advance t).codeErred l disparity, ?_, rfl, State.kfind_codeErred disparity⟩
  rw [exec_laneCodeError, execLaneCodeError, done_closed, if_neg (by omega)]
  simp only [last, nsPerSec, if_pos recent]
  rfl

end

/-! ## Transmit PLLs and references (R375, R376) -/

/-- A bit stays when the other of bits 2 and 3 is set. -/
theorem bit_withBit_pll {v pll : Nat} (two : pll < 2) (other : bit v (3 - pll) = true) :
    bit (withBit v (2 + pll) true) (3 - pll) = true := by
  have which : pll = 0 ∨ pll = 1 := by omega
  unfold withBit
  split
  · exact other
  · rename_i unset
    rcases which with rfl | rfl
    · simp only [bit, Nat.reducePow, Nat.reduceAdd, Nat.reduceSub, beq_iff_eq, beq_true, if_true] at unset other ⊢
      omega
    · simp only [bit, Nat.reducePow, Nat.reduceAdd, Nat.reduceSub, beq_iff_eq, beq_true, if_true] at unset other ⊢
      omega

section
variable {s a : State} {t tile pll : Nat} (now : a = s.advance t)
include now

theorem exec_txpll_events_of_none (none : a.tiles ≤ tile ∨ 2 ≤ pll) :
    exec (.txpllUnlock t tile pll) s = .next (s.closed a) ∧ exec (.txpllRelock t tile pll) s = .next (s.closed a) := by
  subst now
  constructor
  · rw [exec_txpllUnlock, execTxpllUnlock, done_closed, if_pos none]
  · rw [exec_txpllRelock, execTxpllRelock, done_closed, if_pos none]

theorem exec_txpllUnlock_of_pll (present : tile < a.tiles) (two : pll < 2) : exec (.txpllUnlock t tile pll) s = .next (s.closed
    ((a.setBit (O.tile_pll_status (1024 + tile)) (2 + pll) false).follow (F.txpllUnlock tile) pll 0 true)) := by
  subst now
  rw [exec_txpllUnlock, execTxpllUnlock, done_closed, if_neg (by omega)]

/-- Where the tile's other PLL is locked, the fault that the two share ends. -/
theorem exec_txpllRelock_of_pll (present : tile < a.tiles) (two : pll < 2)
    (other : a.bit (O.tile_pll_status (1024 + tile)) (3 - pll) = true) : exec (.txpllRelock t tile pll) s = .next (s.closed
      ((a.setBit (O.tile_pll_status (1024 + tile)) (2 + pll) true).followShared (F.txpllUnlock tile) pll 0 false false)) := by
  subst now
  have locked : ((s.advance t).setBit (O.tile_pll_status (1024 + tile)) (2 + pll) true).bit (O.tile_pll_status (1024 + tile)) (3 - pll) =
      true := by
    rw [State.bit, State.setBit, State.nat_setN_same]
    exact bit_withBit_pll two other
  rw [exec_txpllRelock, execTxpllRelock, done_closed, if_neg (by omega)]
  simp only [locked, Bool.not_true]

end

section
variable {s a : State} {t l : Nat} (now : a = s.advance t) (ppb : Int)
include now

theorem exec_refMismatchCheck_of_foreign (foreign : 1024 ≤ l ∨ a.portKind l ≠ 5) :
    exec (.refMismatchCheck t l ppb) s = .next (s.closed a) := by
  subst now
  rw [exec_refMismatchCheck, execRefMismatchCheck, done_closed, if_pos foreign]

/-- On the one mesh lane of its tile the offset alone decides, against 20 ppm. -/
theorem exec_refMismatchCheck_of_only (lane : l < 1024) (mesh : a.portKind l = 5)
    (only : ∀ i, i < 64 → 64 * (l / 64) + i ≠ l → a.portKind (64 * (l / 64) + i) ≠ 5) :
    exec (.refMismatchCheck t l ppb) s = .next (s.closed
      (((a.setI (O.lane_rx_offset l) ppb).setBit (O.tile_pll_status (1024 + l / 64)) 4 (20000 < ppb.natAbs)).followShared
        (F.laneRefMismatch (l / 64)) l ppb.natAbs (20000 < ppb.natAbs) false)) := by
  have kinds (q : Nat) : (a.setI (O.lane_rx_offset l) ppb).portKind q = a.portKind q := by
    rw [State.portKind, State.setI, State.nat_set, if_neg (by simp), State.portKind]
  have offset : (a.setI (O.lane_rx_offset l) ppb).int (O.lane_rx_offset l) = ppb := by
    rw [State.setI, State.int_set, if_pos rfl, Val.int]
  have others : (List.range 64).any (fun i => decide (64 * (l / 64) + i ≠ l ∧
      (a.portKind (64 * (l / 64) + i) == 5 && decide (20000 < ((a.setI (O.lane_rx_offset l) ppb).int
        (O.lane_rx_offset (64 * (l / 64) + i))).natAbs)) = true)) = false := by
    refine List.any_eq_false.2 fun i mem => ?_
    have tile := List.mem_range.1 mem
    simpa using fun apart kind => absurd kind (only i tile apart)
  rw [exec_refMismatchCheck, execRefMismatchCheck, done_closed, ← now, if_neg (by omega)]
  simp only [kinds, others, mesh, offset, beq_self_eq_true, Bool.true_and, Bool.or_false]

end

/-! ## Lane tests (R388, R389) -/

section
variable {s a : State} {t l : Nat} (now : a = s.advance t)
include now

theorem exec_laneTestDurationEnd_of_timed {began : Nat} (found : kfind a.lanes.tests l = some began) (runs : a.testRuns l = true)
    (timed : a.nat (O.ltest_duration l) ≠ 0) : exec (.laneTestDurationEnd t l) s = .next (s.closed
      (if began + a.nat (O.ltest_duration l) * 1000000000 ≤ a.now then a.finalCount l else a)) := by
  subst now
  rw [exec_laneTestDurationEnd, execLaneTestDurationEnd, done_closed, found]
  simp only [runs, timed, ne_eq, not_false_eq_true, true_and, nsPerSec]

theorem exec_laneTestDurationEnd_of_untimed (untimed : kfind a.lanes.tests l = none ∨ a.nat (O.ltest_duration l) = 0) :
    exec (.laneTestDurationEnd t l) s = .next (s.closed a) := by
  subst now
  rw [exec_laneTestDurationEnd, execLaneTestDurationEnd, done_closed]
  rcases untimed with none | untimed
  · rw [none]
  · split
    · rw [if_neg fun ended => ended.2.1 untimed]
    · rfl

theorem exec_checkerLock_of_unchecked {bits errors : Nat} {locked : Bool}
    (unchecked : 1024 ≤ l ∨ a.testRuns l = false ∨ a.flag (O.ltest_checker l) = false) :
    exec (.checkerLock t l locked bits errors) s = .next (s.closed a) := by
  subst now
  rw [exec_checkerLock, execCheckerLock, done_closed, if_pos (by simpa using unchecked)]

section
variable {bits errors : Nat} (lane : l < 1024) (runs : a.testRuns l = true) (checks : a.flag (O.ltest_checker l) = true)
include lane runs checks

/-- While the checker has no lock nothing is counted. -/
theorem exec_checkerLock_of_unlocked (unlocked : a.flag (O.ltest_checker_lock l) = false) :
    exec (.checkerLock t l true bits errors) s = .next (s.closed ((a.setN (O.ltest_checker_lock l) 1).setN (O.ltest_state l) 2)) ∧
    exec (.checkerLock t l false bits errors) s = .next (s.closed (a.setN (O.ltest_checker_lock l) 0)) := by
  subst now
  have on : ¬(1024 ≤ l ∨ (!(s.advance t).testRuns l) = true ∨ (!(s.advance t).flag (O.ltest_checker l)) = true) := by
    simp [lane, runs, checks]
  constructor
  · rw [exec_checkerLock, execCheckerLock, done_closed, if_neg on, unlocked]
    rfl
  · rw [exec_checkerLock, execCheckerLock, done_closed, if_neg on, unlocked]
    rfl

/-- The loss of its lock ends a span that counts, and is a relock. -/
theorem exec_checkerLock_of_lost (locked : a.flag (O.ltest_checker_lock l) = true) :
    exec (.checkerLock t l false bits errors) s = .next (s.closed
      ((((a.count (O.ltest_bits l) bits 64).count (O.ltest_errors l) errors 64).setN (O.ltest_checker_lock l) 0).count
        (O.ltest_relocks l))) := by
  subst now
  have on : ¬(1024 ≤ l ∨ (!(s.advance t).testRuns l) = true ∨ (!(s.advance t).flag (O.ltest_checker l)) = true) := by
    simp [lane, runs, checks]
  rw [exec_checkerLock, execCheckerLock, done_closed, if_neg on, locked]
  rfl

end

end

/-- Settles O48: each event by the lemma about it for the state of its arrival. -/
theorem laneEventsComplete : Obligations.LaneEventsComplete := by
  unfold Obligations.LaneEventsComplete
  exact ⟨fun s a t l now => exec_laneExitDone_of_waking now, fun s a t l now => exec_laneExitDone_of_other now,
    fun s a t l now => exec_laneUnlock_of_inactive now, fun s a t l now => exec_laneUnlock_of_fixed now,
    fun s a t l disparity now => exec_laneCodeError_of_foreign now disparity,
    fun s a t l at' disparity now => exec_laneCodeError_of_recent now disparity,
    fun s a t tile pll now => exec_txpll_events_of_none now,
    fun s a t tile pll now present two => ⟨exec_txpllUnlock_of_pll now present two, exec_txpllRelock_of_pll now present two⟩,
    fun s a t l ppb now => exec_refMismatchCheck_of_foreign now ppb, fun s a t l ppb now => exec_refMismatchCheck_of_only now ppb,
    fun s a t l began now => exec_laneTestDurationEnd_of_timed now, fun s a t l now => exec_laneTestDurationEnd_of_untimed now,
    fun s a t l bits errors locked now => exec_checkerLock_of_unchecked now,
    fun s a t l bits errors now => exec_checkerLock_of_unlocked now, fun s a t l bits errors now => exec_checkerLock_of_lost now⟩

end Sys2Proof.Machine
end

section
/-! Writes of a mesh link's admin object and of the domain plan (R396, R405). -/

namespace Sys2Proof.Machine

section
variable {s : State} (w : Writer)

theorem State.familyWrite_mesh (inst sub : Nat) (v : Val) : s.familyWrite w [] ⟨0x2400, inst, sub⟩ v = s.writeMesh ⟨0x2400, inst, sub⟩ v := by
  simp [State.familyWrite, State.lullRefuses]

theorem State.familyWrite_mlink_admin (l on : Nat) :
    s.familyWrite w [] (O.mlink_admin (1 + l)) (.n on) = some (s.writeLinkAdmin l ((on : Int) = 1)) := by
  rw [State.familyWrite_mesh, State.writeMesh, if_neg (by simp), if_neg (by simp)]
  exact congrArg (fun i => some (s.writeLinkAdmin i _)) (Nat.add_sub_cancel_left 1 l)

theorem State.familyWrite_mesh_plan (plan : Bytes) : s.familyWrite w [] O.mesh_plan (.b plan) = some (s.writePlan plan) :=
  State.familyWrite_mesh w ..

end

/-! ## What a link held down keeps (R396, R404, R407) -/

/-- Neither a flood nor a judgement of the links' symmetry writes the object. -/
def besideJudgement (k : Key) : Bool := besideFault F.meshUnmatched k && !(k.fam == 0x2400 && (k.inst == 0 || k.sub == 0x06))

theorem besideFault_of_besideJudgement {k : Key} (h : besideJudgement k = true) : besideFault F.meshUnmatched k = true :=
  (Bool.and_eq_true_iff.1 h).1

theorem State.flood_judgement (s : State) (n : Notice) : FaultsOnly besideJudgement s (s.flood n) := by
  refine List.foldlRecOn _ _ (.refl s) fun u h l _ => ?_
  have counted : FaultsOnly besideJudgement s (u.count O.mesh_control_sent) := h.set rfl _
  exact counted.trans ⟨⟨_, _, _, _, _, _, rfl⟩, fun _ _ => rfl⟩

theorem State.judgeLinks_judgement (s : State) : FaultsOnly besideJudgement s s.judgeLinks := by
  have judged : FaultsOnly besideJudgement s
      (s.upLanes.foldl (fun st l => st.setN (O.mlink_symmetry (1 + l)) (if s.linkMatched l then 1 else 2)) s) :=
    List.foldlRecOn _ _ (.refl s) fun u h l _ => h.set (by simp [besideJudgement]) _
  unfold State.judgeLinks
  dsimp only
  split
  · exact judged.trans ((State.follow_faults ..).mono fun _ => besideFault_of_besideJudgement)
  · exact judged.trans ((State.endFault_faults ..).mono fun _ => besideFault_of_besideJudgement)

section
variable {s : State} {l : Nat}

theorem State.writeLinkAdmin_of_booked (booked : s.meshBooked l ≠ 0) : s.writeLinkAdmin l false = (C.busy, s) := by
  rw [State.writeLinkAdmin, if_neg Bool.false_ne_true, if_pos booked]

theorem State.writeLinkAdmin_of_closed (unbooked : s.meshBooked l = 0) (closed : s.nat (O.mlink_state (1 + l)) = 0) :
    s.writeLinkAdmin l false = (0, (s.setN (O.mlink_admin (1 + l)) 0).linkForget l) := by
  rw [State.writeLinkAdmin, if_neg Bool.false_ne_true, if_neg (not_not.2 unbooked)]
  exact if_pos closed

/-- Objects of a link that its forgetting leaves. -/
theorem State.nat_linkForget {k : Key} (other : k ∉ [O.mlink_peer_chip (1 + l), O.mlink_peer_lane (1 + l), O.mlink_peer_serial (1 + l),
    O.mlink_link_version (1 + l), O.mlink_delay (1 + l), O.mlink_symmetry (1 + l)]) : (s.linkForget l).nat k = s.nat k := by
  simp only [List.mem_cons, List.not_mem_nil, or_false, not_or] at other
  obtain ⟨chip, lane, serial, version, delay, symmetry⟩ := other
  have frame (u : State) (x : Mesh) : State.nat { u with mesh := x } k = u.nat k := rfl
  rw [State.linkForget]
  dsimp only
  rw [frame, State.nat_setN_other _ _ symmetry, State.nat_setN_other _ _ delay, State.nat_setN_other _ _ version, State.setB,
    State.nat_set, if_neg serial, State.nat_setN_other _ _ lane, State.nat_setN_other _ _ chip]

/-- A link that was up goes down, and is held there. -/
theorem State.writeLinkAdmin_of_up (unbooked : s.meshBooked l = 0) (up : s.nat (O.mlink_state (1 + l)) = 3) :
    ∃ u, s.writeLinkAdmin l false = (0, u) ∧ u.nat (O.mlink_state (1 + l)) = 1 ∧ u.nat (O.mlink_admin (1 + l)) = 0 := by
  have open' : ¬s.nat (O.mlink_state (1 + l)) = 0 := by omega
  rw [State.writeLinkAdmin, if_neg Bool.false_ne_true, if_neg (not_not.2 unbooked)]
  dsimp only
  rw [if_neg open', if_pos up]
  refine ⟨_, rfl, ?_, ?_⟩
  · rw [(State.judgeLinks_judgement _).nat (by simp [besideJudgement, besideFault, besideReactions]),
      (State.flood_judgement ..).nat (by simp [besideJudgement, besideFault, besideReactions]), State.nat_setN_same]
  · rw [(State.judgeLinks_judgement _).nat (by simp [besideJudgement, besideFault, besideReactions]),
      (State.flood_judgement ..).nat (by simp [besideJudgement, besideFault, besideReactions]), State.nat_setN_other _ _ (by simp),
      State.nat_linkForget (by simp)]
    exact State.nat_setN_same ..

end

/-! ## The plan (R405) -/

section
variable {s : State} {plan : Bytes}

theorem State.writePlan_of_refused (refused : field plan 0 4 ≤ s.nat O.mesh_plan_revision ∨ planFits plan = false ∨
    ∃ e ∈ planPairs plan, ∃ a ∈ s.admittedSerials, (a.1 = e.serialA ∨ a.1 = e.serialB) ∧ pairOf a.2 ≠ e.pair) :
    s.writePlan plan = (C.range, s) :=
  if_pos (by simpa using refused)

theorem State.writePlan_of_higher (higher : s.nat O.mesh_plan_revision < field plan 0 4) (fits : planFits plan = true)
    (keeps : ∀ e ∈ planPairs plan, ∀ a ∈ s.admittedSerials, a.1 = e.serialA ∨ a.1 = e.serialB → pairOf a.2 = e.pair) :
    s.writePlan plan = (0, s.adoptPlan plan) := by
  refine if_neg ?_
  rintro (old | unfit | moves)
  · omega
  · simp [fits] at unfit
  · simp only [List.any_eq_true, decide_eq_true_eq] at moves
    obtain ⟨e, planned, a, admitted, same, moved⟩ := moves
    exact moved (keeps e planned a admitted same)

end

/-- Settles O17: each write by the lemma about its rule. -/
theorem meshWriteRules : Obligations.MeshWriteRules := by
  unfold Obligations.MeshWriteRules
  refine ⟨fun b w l => b.familyWrite_mlink_admin w l 1, fun b w l booked => ?_, fun b w l unbooked closed => ?_,
    fun b w l unbooked up => ?_, fun b w plan refused => ?_, fun b w plan higher fits keeps => ?_⟩
  · exact (b.familyWrite_mlink_admin w l 0).trans (congrArg some (State.writeLinkAdmin_of_booked booked))
  · exact (b.familyWrite_mlink_admin w l 0).trans (congrArg some (State.writeLinkAdmin_of_closed unbooked closed))
  · obtain ⟨u, written, down, held⟩ := State.writeLinkAdmin_of_up unbooked up
    exact ⟨u, (b.familyWrite_mlink_admin w l 0).trans (congrArg some written), down, held⟩
  · rw [b.familyWrite_mesh_plan w, State.writePlan_of_refused refused]
  · rw [b.familyWrite_mesh_plan w, State.writePlan_of_higher higher fits keeps]

end Sys2Proof.Machine
end

section
/-! The events of the domain, and who is elected head (R405 to R407, R409, R410). -/

namespace Sys2Proof.Machine

/-! ## The arms -/

section
variable (s : State) (t l lvl chip : Nat) (plan : Bytes) (cands : List (Nat × Nat)) (complete : Bool) (m : CtlMsg)

theorem exec_meshHeartbeat : exec (.meshHeartbeat t) s = .next (s.closed ((s.advance t).flood .heartbeat)) := rfl

theorem exec_linkListFlood : exec (.linkListFlood t) s =
    .next (s.closed ((s.advance t).flood (.linkList (s.advance t).linkList (s.advance t).ledgerReport))) := rfl

theorem exec_chipLost : exec (.chipLost t chip) s = .next (s.closed
    (if (s.advance t).chipGone chip then ((s.advance t).loseChip chip).routesLose chip else s.advance t)) := rfl

theorem exec_planReceived : exec (.planReceived t plan) s = .next (s.closed ((s.advance t).planHeard plan)) := rfl

theorem exec_domainAdmission : exec (.domainAdmission t) s = .next (s.closed (s.advance t).joinPermit) := rfl

theorem exec_headElection : exec (.headElection t lvl cands) s = .next (s.closed ((s.advance t).elect lvl cands)) := rfl

theorem exec_headPriorityHold : exec (.headPriorityHold t lvl cands) s = execHeadPriorityHold t lvl cands s := rfl

theorem exec_meshControlMessage : exec (.meshControlMessage t l complete m) s = execMeshControlMessage t l complete m s := rfl

end

/-! ## Floods and plans (R405, R407) -/

section
variable {s : State} {plan : Bytes}

theorem State.flood_of_alone (alone : s.upLanes = []) (n : Notice) : s.flood n = s := by
  rw [State.flood, alone, List.foldl_nil]

theorem State.planHeard_of_stale (stale : planFits plan = false ∨ field plan 0 4 < s.nat O.mesh_plan_revision ∨ plan = s.oct O.mesh_plan) :
    s.planHeard plan = s :=
  if_pos (by simpa using stale)

section
variable (fits : planFits plan = true) (other : plan ≠ s.oct O.mesh_plan)
include fits other

theorem State.planHeard_of_higher (higher : s.nat O.mesh_plan_revision < field plan 0 4) : s.planHeard plan = s.adoptPlan plan := by
  have fresh : ¬((!planFits plan) = true ∨ field plan 0 4 < s.nat O.mesh_plan_revision ∨ plan = s.oct O.mesh_plan) := by
    simp only [fits, other, Bool.not_true, Bool.false_eq_true, false_or, or_false]
    omega
  exact (if_neg fresh).trans (if_pos higher)

/-- Of two plans of one revision the one of the higher hash stands, and the conflict is struck. -/
theorem State.planHeard_of_conflict (level : field plan 0 4 = s.nat O.mesh_plan_revision)
    (hash : beNat (sha256 (s.oct O.mesh_plan)) < beNat (sha256 plan)) :
    s.planHeard plan = (s.strike F.planConflict (field plan 0 4) 0).adoptPlan plan := by
  have fresh : ¬((!planFits plan) = true ∨ field plan 0 4 < s.nat O.mesh_plan_revision ∨ plan = s.oct O.mesh_plan) := by
    simp [fits, other, level]
  exact (if_neg fresh).trans ((if_neg (by omega)).trans (if_pos hash))

end

/-! ## Admission (R406) -/

theorem State.joinPermit_of_unready (unready : s.plannedId = none ∨ s.ready = false) : s.joinPermit = s := by
  rcases unready with unplanned | unready
  · simp only [State.joinPermit, unplanned]
  · rw [State.joinPermit]
    split
    · rfl
    · simp [unready]

/-- The first chip of a domain chooses the highest version of its range. -/
theorem State.joinPermit_of_first {id : Nat} (planned : s.plannedId = some id) (ready : s.ready = true) (first : s.admittedLinks = [])
    (range : s.nat O.mesh_version_min ≤ s.nat O.mesh_version_max) : s.joinPermit =
      ((((s.endFault F.meshVersion).setChipId id).setN O.mesh_domain_state 2).setN O.id_mesh_version (s.nat O.mesh_version_max)).showLevels := by
  have held : s.versionHeld (s.nat O.mesh_version_max) = true := by simp [State.versionHeld, range]
  have awake : ¬(!s.ready) = true := by simp [ready]
  have fits : ¬(!s.versionHeld (s.nat O.mesh_version_max)) = true := by simp [held]
  simp only [State.joinPermit, planned, first, if_neg awake, if_neg fits]

end

/-! ## Elections (R409, R410) -/

section
variable {s : State} {lvl : Nat} (cands : List (Nat × Nat))

theorem State.elect_of_outside (outside : s.chipId = 1023 ∨ s.nat (O.mgroup_kind (2048 + lvl)) < 2) : s.elect lvl cands = s :=
  if_pos outside.symm

theorem State.elect_of_no_quorum (plan : 2 ≤ s.nat (O.mgroup_kind (2048 + lvl))) (admitted : s.chipId ≠ 1023)
    (short : s.quorum (s.nat (O.mgroup_plan_group (2048 + lvl))) = false) : s.elect lvl cands =
      (s.setN (O.mgroup_head (2048 + lvl)) 1023).follow F.domainNoQuorum (s.nat (O.mgroup_plan_group (2048 + lvl))) lvl true :=
  (if_neg (by omega)).trans (if_pos (by simp [short]))

end

section
variable {s a : State} {t lvl p : Nat} {cands : List (Nat × Nat)} (now : a = s.advance t)
  (head : (a.candidates cands).find? (fun c => c.1 = a.nat (O.mgroup_head (2048 + lvl))) = some (a.nat (O.mgroup_head (2048 + lvl)), p))
include now head

theorem exec_headPriorityHold_of_topped (topped : ∀ c ∈ a.candidates cands, c.2 ≤ p) :
    exec (.headPriorityHold t lvl cands) s = .next (s.closed a) := by
  have none : ¬(a.candidates cands).any (fun c => decide (p < c.2)) = true := by simpa using fun x y mem => topped (x, y) mem
  rw [exec_headPriorityHold, execHeadPriorityHold, done_closed, ← now]
  simp only [head, Option.map_some, Option.getD_some, if_neg none]

theorem exec_headPriorityHold_of_higher {c q : Nat} (candidate : (c, q) ∈ a.candidates cands) (higher : p < q) :
    exec (.headPriorityHold t lvl cands) s = .next (s.closed (a.elect lvl cands)) := by
  have some : (a.candidates cands).any (fun c => decide (p < c.2)) = true :=
    List.any_eq_true.2 ⟨(c, q), candidate, decide_eq_true higher⟩
  rw [exec_headPriorityHold, execHeadPriorityHold, done_closed, ← now]
  simp only [head, Option.map_some, Option.getD_some, if_pos some]

end

/-! ## Control messages (R408) -/

section
variable {s a : State} {t l : Nat} (m : CtlMsg) (now : a = s.advance t)
include now

theorem exec_meshControlMessage_of_down (complete : Bool) (down : 1024 ≤ l ∨ a.nat (O.mlink_state (1 + l)) ≠ 3) :
    exec (.meshControlMessage t l complete m) s = .next (s.closed a) := by
  subst now
  rw [exec_meshControlMessage, execMeshControlMessage, done_closed, if_pos down]

theorem exec_meshControlMessage_of_up (lane : l < 1024) (up : a.nat (O.mlink_state (1 + l)) = 3) :
    exec (.meshControlMessage t l false m) s = .next (s.closed (a.count O.mesh_control_discarded)) ∧
    exec (.meshControlMessage t l true m) s = .next (s.closed ((a.count O.mesh_control_received).hearControl m)) := by
  subst now
  constructor
  · rw [exec_meshControlMessage, execMeshControlMessage, done_closed, if_neg (by omega)]
    rfl
  · rw [exec_meshControlMessage, execMeshControlMessage, done_closed, if_neg (by omega)]
    rfl

end

/-- Settles O50: each event by the lemma about its operation on the state of its arrival. -/
theorem domainEventsComplete : Obligations.DomainEventsComplete := by
  unfold Obligations.DomainEventsComplete
  refine ⟨?beats, fun a n alone => State.flood_of_alone alone n, ?lost, ?stale, ?higher, ?conflict, ?unready, ?first, ?elections,
    fun a lvl cands => State.elect_of_no_quorum cands, fun s a t lvl p cands now head => exec_headPriorityHold_of_topped now head,
    fun s a t lvl p q c cands now head => exec_headPriorityHold_of_higher now head,
    fun s a t l complete m now => exec_meshControlMessage_of_down m now complete,
    fun s a t l m now => exec_meshControlMessage_of_up m now⟩
  case beats =>
    rintro s _ t rfl
    exact ⟨exec_meshHeartbeat s t, exec_linkListFlood s t⟩
  case lost =>
    rintro s _ t chip rfl
    exact exec_chipLost s t chip
  case stale =>
    rintro s _ t plan rfl stale
    rw [exec_planReceived, State.planHeard_of_stale stale]
  case higher =>
    rintro s _ t plan rfl fits higher other
    rw [exec_planReceived, State.planHeard_of_higher fits other higher]
  case conflict =>
    rintro s _ t plan rfl fits level other hash
    rw [exec_planReceived, State.planHeard_of_conflict fits other level hash]
  case unready =>
    rintro s _ t rfl unready
    rw [exec_domainAdmission, State.joinPermit_of_unready unready]
  case first =>
    rintro s _ t id rfl planned ready first range
    rw [exec_domainAdmission, State.joinPermit_of_first planned ready first range]
  case elections =>
    rintro s _ t lvl cands rfl
    exact ⟨exec_headElection s t lvl cands, State.elect_of_outside cands⟩

/-! ## The winner of an election (R409) -/

theorem maxBy_foldl_ge {α : Type} (f : α → Nat) (l : List α) (m : Nat) :
    m ≤ l.foldl (fun a x => max a (f x)) m ∧ ∀ x ∈ l, f x ≤ l.foldl (fun a x => max a (f x)) m := by
  induction l generalizing m with
  | nil => simp
  | cons y rest ih =>
    obtain ⟨start, each⟩ := ih (max m (f y))
    simp only [List.foldl_cons, List.mem_cons, forall_eq_or_imp]
    exact ⟨by omega, by omega, each⟩

theorem le_maxBy {α : Type} {f : α → Nat} {l : List α} {x : α} (mem : x ∈ l) : f x ≤ maxBy f l := (maxBy_foldl_ge f l 0).2 x mem

theorem foldl_max_mem {α : Type} (f : α → Nat) (l : List α) (m : Nat) :
    l.foldl (fun a x => max a (f x)) m = m ∨ ∃ x ∈ l, f x = l.foldl (fun a x => max a (f x)) m := by
  induction l generalizing m with
  | nil => exact .inl rfl
  | cons y rest ih =>
    simp only [List.foldl_cons, List.mem_cons, exists_eq_or_imp]
    rcases ih (max m (f y)) with start | found
    · rw [start]
      omega
    · exact .inr (.inr found)

/-- The greatest measure of a list with an element is that of one of its elements. -/
theorem exists_maxBy {α : Type} {f : α → Nat} {l : List α} {x : α} (mem : x ∈ l) : ∃ y ∈ l, f y = maxBy f l := by
  rcases foldl_max_mem f l 0 with zero | found
  · have most := le_maxBy (f := f) mem
    have none : maxBy f l = 0 := zero
    exact ⟨x, mem, by omega⟩
  · exact found

/-- The candidates of the highest priority among those that have one. -/
def bestCandidates (cands : List (Nat × Nat)) : List Nat :=
  ((cands.filter (fun c => c.2 ≠ 0)).filter (fun c => c.2 = maxBy (fun c => c.2) (cands.filter (fun c => c.2 ≠ 0)))).map (fun c => c.1)

/-- The winner is the sitting head where that is one of the best, and otherwise the least of them. -/
theorem electHead_eq (sitting : Nat) (cands : List (Nat × Nat)) : electHead sitting cands =
    if (bestCandidates cands).contains sitting then sitting else (minBy (fun c => c) (bestCandidates cands)).getD 1023 := rfl

section
variable {sitting : Nat} {cands : List (Nat × Nat)}

theorem mem_bestCandidates {c : Nat} : c ∈ bestCandidates cands ↔ ∃ p, (c, p) ∈ cands ∧ p ≠ 0 ∧ ∀ x ∈ cands, x.2 ≤ p := by
  simp only [bestCandidates, List.mem_map, List.mem_filter, decide_eq_true_eq]
  constructor
  · rintro ⟨⟨c, p⟩, ⟨⟨mem, stands⟩, top⟩, rfl⟩
    refine ⟨p, mem, stands, fun x other => ?_⟩
    by_cases none : x.2 = 0
    · omega
    · exact (le_maxBy (f := fun c : Nat × Nat => c.2) (List.mem_filter.2 ⟨other, decide_eq_true none⟩)).trans top.ge
  · rintro ⟨p, mem, stands, top⟩
    have kept : (c, p) ∈ cands.filter (fun c => c.2 ≠ 0) := List.mem_filter.2 ⟨mem, decide_eq_true stands⟩
    obtain ⟨y, other, most⟩ := exists_maxBy (f := fun c : Nat × Nat => c.2) kept
    refine ⟨(c, p), ⟨⟨mem, stands⟩, le_antisymm (le_maxBy (f := fun c : Nat × Nat => c.2) kept) ?_⟩, rfl⟩
    exact most.ge.trans (top y (List.mem_of_mem_filter other))

theorem bestCandidates_ne_nil (stands : ∃ c ∈ cands, c.2 ≠ 0) : bestCandidates cands ≠ [] := by
  obtain ⟨c, mem, stands⟩ := stands
  have kept : c ∈ cands.filter (fun c => c.2 ≠ 0) := List.mem_filter.2 ⟨mem, decide_eq_true stands⟩
  obtain ⟨y, found, most⟩ := exists_maxBy (f := fun c : Nat × Nat => c.2) kept
  exact List.ne_nil_of_mem (List.mem_map.2 ⟨y, List.mem_filter.2 ⟨found, decide_eq_true most⟩, rfl⟩)

theorem electHead_of_sitting {p : Nat} (mem : (sitting, p) ∈ cands) (stands : p ≠ 0) (top : ∀ c ∈ cands, c.2 ≤ p) :
    electHead sitting cands = sitting := by
  rw [electHead_eq, if_pos (List.contains_iff_mem.2 (mem_bestCandidates.2 ⟨p, mem, stands, top⟩))]

theorem electHead_of_none (none : ∀ c ∈ cands, c.2 = 0) : electHead sitting cands = 1023 := by
  have empty : cands.filter (fun c => c.2 ≠ 0) = [] := List.filter_eq_nil_iff.2 fun c mem => by simp [none c mem]
  rw [electHead_eq, bestCandidates, empty]
  rfl

theorem electHead_best (stands : ∃ c ∈ cands, c.2 ≠ 0) :
    ∃ p, (electHead sitting cands, p) ∈ cands ∧ p ≠ 0 ∧ (∀ c ∈ cands, c.2 ≤ p) ∧
      (electHead sitting cands ≠ sitting → ∀ c ∈ cands, c.2 = p → electHead sitting cands ≤ c.1) := by
  rw [electHead_eq]
  split
  · rename_i sits
    obtain ⟨p, seated, stands, top⟩ := mem_bestCandidates.1 (List.contains_iff_mem.1 sits)
    exact ⟨p, seated, stands, top, fun other => absurd rfl other⟩
  · obtain ⟨w, least⟩ := Option.ne_none_iff_exists'.1 (mt minBy_eq_none_iff.1 (bestCandidates_ne_nil stands))
    rw [least, Option.getD_some]
    obtain ⟨p, won, stands, top⟩ := mem_bestCandidates.1 (mem_of_minBy least)
    exact ⟨p, won, stands, top, fun _ c mem equal => minBy_le least (mem_bestCandidates.2 ⟨p, equal ▸ mem, stands, top⟩)⟩

end

theorem State.mem_candidates {a : State} {cands : List (Nat × Nat)} {c : Nat × Nat} :
    c ∈ a.candidates cands ↔ (c ∈ cands ∧ c.1 ≠ a.chipId) ∨ c = (a.chipId, a.nat O.mesh_head_priority) := by
  simp only [State.candidates, List.mem_append, List.mem_filter, decide_eq_true_eq, List.mem_singleton]

/-- Settles O51: the best candidates are those of the highest priority (`mem_bestCandidates`), and of them the sitting head or the least wins. -/
theorem electionRule : Obligations.ElectionRule := by
  unfold Obligations.ElectionRule
  exact ⟨fun _ _ => electHead_best, fun _ _ _ => electHead_of_sitting, fun _ _ => electHead_of_none, fun _ _ _ => State.mem_candidates⟩

end Sys2Proof.Machine
end

section
/-! The symbol code of cells, SRAM, HBM and headers (R457, R458): its symbols form a field, no three of its columns are linearly
dependent over it, and so one symbol in error is corrected and two are reported. -/

namespace Sys2Proof.Machine

/-! ## GF(16) -/

/-- A four-bit symbol of a word. -/
def Symbol : Type := Fin 16 deriving DecidableEq, Fintype

/-- The field of the symbols (R457): their sums are exclusive ors, their products those of `gfMul`, and the fourteenth power inverts. -/
@[reducible] def symbolField : Field Symbol :=
  letI : Add Symbol := ⟨fun a b => ⟨(a.1 ^^^ b.1) % 16, Nat.mod_lt _ (by decide)⟩⟩
  letI : Mul Symbol := ⟨fun a b => ⟨gfMul a.1 b.1 % 16, Nat.mod_lt _ (by decide)⟩⟩
  letI : Neg Symbol := ⟨fun a => a⟩
  letI : Zero Symbol := ⟨⟨0, by decide⟩⟩
  letI : One Symbol := ⟨⟨1, by decide⟩⟩
  letI : Inv Symbol := ⟨fun a => a * a * (a * a * (a * a)) * (a * a * (a * a * (a * a)) * (a * a))⟩
  Field.ofMinimalAxioms Symbol (by decide +kernel) (by decide +kernel) (by decide +kernel) (by decide +kernel) (by decide +kernel)
    (by decide +kernel) (by decide +kernel) (by decide +kernel) (by decide +kernel) (by decide +kernel)

theorem gfMul_lt {a b : Nat} (ha : a < 16) (hb : b < 16) : gfMul a b < 16 := by
  have below : ∀ a < 16, ∀ b < 16, gfMul a b < 16 := by decide +kernel
  exact below a ha b hb

theorem gfMul_one {a : Nat} (ha : a < 16) : gfMul a 1 = a := by
  have same : ∀ a < 16, gfMul a 1 = a := by decide +kernel
  exact same a ha

/-- A reading of symbols in a field, in which the form x² + xy + λy² of the columns is 0 at (0, 0) alone. -/
structure SymbolReading (F : Type) [Field F] where
  sym : Nat → F
  xor : ∀ a b, sym (a ^^^ b) = sym a + sym b
  mul : ∀ {a b}, a < 16 → b < 16 → sym (gfMul a b) = sym a * sym b
  inj : ∀ {a b}, a < 16 → b < 16 → sym a = sym b → a = b
  form : ∀ {a b}, a < 16 → b < 16 → sym a * sym a + sym a * sym b + sym 8 * (sym b * sym b) = 0 → a = 0 ∧ b = 0

theorem symbol_form : letI := symbolField; ∀ a b : Symbol, a * a + a * b + ⟨8, by decide⟩ * (b * b) = 0 → a = 0 ∧ b = 0 := by
  decide +kernel

/-- The reading in the field of the symbols. -/
def symbolReading : letI := symbolField; SymbolReading Symbol :=
  letI := symbolField
  { sym := fun a => ⟨a % 16, Nat.mod_lt _ (by decide)⟩
    xor := fun a b => Fin.ext (by
      show (a ^^^ b) % 16 = (a % 16 ^^^ b % 16) % 16
      rw [Nat.xor_mod_two_pow (n := 4), Nat.mod_eq_of_lt (Nat.xor_lt_two_pow (n := 4) (Nat.mod_lt _ (by decide)) (Nat.mod_lt _ (by decide)))])
    mul := fun {a b} ha hb => Fin.ext (by
      show gfMul a b % 16 = gfMul (a % 16) (b % 16) % 16
      rw [Nat.mod_eq_of_lt ha, Nat.mod_eq_of_lt hb])
    inj := fun {a b} ha hb same => by
      have equal : a % 16 = b % 16 := congrArg Fin.val same
      omega
    form := fun {a b} ha hb zero => by
      obtain ⟨x, y⟩ := symbol_form _ _ zero
      have left : a % 16 = 0 := congrArg Fin.val x
      have right : b % 16 = 0 := congrArg Fin.val y
      omega }

/-! ## Dependent columns -/

section
variable {F : Type} [Field F] {l a b c x₁ x₂ x₃ y₁ y₂ y₃ : F}

/-- The form of the columns' last component (R457). -/
def columnForm (l x y : F) : F := x * x + x * y + l * (y * y)

/-- Of three columns with a vanishing combination, two that take part in it have a difference at which the form is 0. -/
theorem columnForm_of_dependent (sum : a + b + c = 0) (first : a * x₁ + b * x₂ + c * x₃ = 0) (second : a * y₁ + b * y₂ + c * y₃ = 0)
    (last : a * columnForm l x₁ y₁ + b * columnForm l x₂ y₂ + c * columnForm l x₃ y₃ = 0) :
    b * c * columnForm l (x₂ - x₃) (y₂ - y₃) = 0 := by
  have hx : a * (x₁ - x₃) + b * (x₂ - x₃) = 0 := by linear_combination first - x₃ * sum
  have hy : a * (y₁ - y₃) + b * (y₂ - y₃) = 0 := by linear_combination second - y₃ * sum
  have hq : a * columnForm l (x₁ - x₃) (y₁ - y₃) + b * columnForm l (x₂ - x₃) (y₂ - y₃) = 0 := by
    unfold columnForm at last ⊢
    linear_combination last - (x₃ * x₃ + x₃ * y₃ + l * (y₃ * y₃)) * sum - (2 * x₃ + y₃) * hx - (x₃ + 2 * l * y₃) * hy
  unfold columnForm at hq ⊢
  linear_combination b * ((x₂ - x₃) * (x₂ - x₃) + (x₂ - x₃) * (y₂ - y₃) + l * ((y₂ - y₃) * (y₂ - y₃))) * sum - a * hq -
    (b * (x₂ - x₃) - a * (x₁ - x₃) - a * (y₁ - y₃)) * hx - (b * (x₂ - x₃) + l * (b * (y₂ - y₃) - a * (y₁ - y₃))) * hy

/-- Two columns with a vanishing combination that they take part in are equal. -/
theorem eq_zero_of_two_dependent (apart : columnForm l (x₁ - x₂) (y₁ - y₂) ≠ 0) (sum : a + b = 0) (first : a * x₁ + b * x₂ = 0)
    (second : a * y₁ + b * y₂ = 0) : a = 0 ∧ b = 0 := by
  have hx : a * (x₁ - x₂) = 0 := by linear_combination first - x₂ * sum
  have hy : a * (y₁ - y₂) = 0 := by linear_combination second - y₂ * sum
  have zero : a * columnForm l (x₁ - x₂) (y₁ - y₂) = 0 := by
    unfold columnForm
    linear_combination ((x₁ - x₂) + (y₁ - y₂)) * hx + l * (y₁ - y₂) * hy
  have none : a = 0 := (mul_eq_zero.1 zero).resolve_right apart
  exact ⟨none, by rw [← sum, none, zero_add]⟩

end

/-! ## The columns of the code -/

/-- Component `m` of the column of symbol `i`. -/
def columnPart (m i : Nat) : Nat :=
  match m with | 0 => (gfColumn i).1 | 1 => (gfColumn i).2.1 | 2 => (gfColumn i).2.2.1 | _ => (gfColumn i).2.2.2

theorem columnPart_lt (m : Nat) {i : Nat} (lt : i < 36) : columnPart m i < 16 := by
  have below : ∀ i < 36, (gfColumn i).1 < 16 ∧ (gfColumn i).2.1 < 16 ∧ (gfColumn i).2.2.1 < 16 ∧ (gfColumn i).2.2.2 < 16 := by decide +kernel
  obtain ⟨first, second, third, last⟩ := below i lt
  unfold columnPart
  split
  · exact first
  · exact second
  · exact third
  · exact last

section
variable {F : Type} [Field F] (φ : SymbolReading F)

namespace SymbolReading

theorem sym_zero : φ.sym 0 = 0 := by
  simpa using φ.xor 0 0

theorem sym_sub (a b : Nat) : φ.sym (a ^^^ b) = φ.sym a - φ.sym b := by
  have cancels := φ.xor b b
  rw [Nat.xor_self, φ.sym_zero] at cancels
  rw [φ.xor]
  linear_combination -cancels

theorem sym_one : φ.sym 1 = 1 := by
  have square : φ.sym (gfMul 1 1) = φ.sym 1 * φ.sym 1 := φ.mul (by decide) (by decide)
  have some : φ.sym 1 ≠ 0 := fun zero => absurd (φ.inj (by decide) (by decide) (zero.trans φ.sym_zero.symm)) (by decide)
  rw [gfMul_one (by decide)] at square
  exact mul_left_cancel₀ some (by rw [← square, mul_one])

theorem sym_first (i : Nat) : φ.sym (columnPart 0 i) = 1 := φ.sym_one

theorem sym_last {i : Nat} (lt : i < 36) :
    φ.sym (columnPart 3 i) = columnForm (φ.sym 8) (φ.sym (columnPart 1 i)) (φ.sym (columnPart 2 i)) := by
  have ha : i % 16 < 16 := by omega
  have hb : i / 16 < 16 := by omega
  simp only [columnPart, gfColumn, columnForm, φ.xor, φ.mul ha ha, φ.mul ha hb, φ.mul hb hb, φ.mul (by decide : 8 < 16) (gfMul_lt hb hb)]

/-- The form is not 0 at the difference of two columns. -/
theorem form_ne_zero {i j : Nat} (hi : i < 36) (hj : j < 36) (apart : i ≠ j) : columnForm (φ.sym 8)
    (φ.sym (columnPart 1 i) - φ.sym (columnPart 1 j)) (φ.sym (columnPart 2 i) - φ.sym (columnPart 2 j)) ≠ 0 := by
  rw [← φ.sym_sub, ← φ.sym_sub]
  intro zero
  have below {a b : Nat} (ha : a < 16) (hb : b < 16) : a ^^^ b < 16 := Nat.xor_lt_two_pow (n := 4) ha hb
  obtain ⟨left, right⟩ := φ.form (below (columnPart_lt 1 hi) (columnPart_lt 1 hj)) (below (columnPart_lt 2 hi) (columnPart_lt 2 hj)) zero
  have low : i % 16 = j % 16 := Nat.xor_eq_zero_iff.1 left
  have high : i / 16 = j / 16 := Nat.xor_eq_zero_iff.1 right
  omega

section
variable {i j k : Nat} {a b c : F} (hi : i < 36) (hj : j < 36) (hk : k < 36)
include hi hj

theorem independent_two (apart : i ≠ j) (dependent : ∀ m, a * φ.sym (columnPart m i) + b * φ.sym (columnPart m j) = 0) :
    a = 0 ∧ b = 0 :=
  eq_zero_of_two_dependent (φ.form_ne_zero hi hj apart) (by simpa only [φ.sym_first, mul_one] using dependent 0) (dependent 1) (dependent 2)

include hk

theorem mul_eq_zero_of_dependent (apart : j ≠ k)
    (dependent : ∀ m, a * φ.sym (columnPart m i) + b * φ.sym (columnPart m j) + c * φ.sym (columnPart m k) = 0) : b * c = 0 := by
  have sum := dependent 0
  have last := dependent 3
  rw [φ.sym_first, φ.sym_first, φ.sym_first, mul_one, mul_one, mul_one] at sum
  rw [φ.sym_last hi, φ.sym_last hj, φ.sym_last hk] at last
  exact (mul_eq_zero.1 (columnForm_of_dependent sum (dependent 1) (dependent 2) last)).resolve_right (φ.form_ne_zero hj hk apart)

/-- No three columns are linearly dependent (R457). -/
theorem independent_three (ij : i ≠ j) (jk : j ≠ k) (ik : i ≠ k)
    (dependent : ∀ m, a * φ.sym (columnPart m i) + b * φ.sym (columnPart m j) + c * φ.sym (columnPart m k) = 0) :
    a = 0 ∧ b = 0 ∧ c = 0 := by
  have bc : b * c = 0 := φ.mul_eq_zero_of_dependent hi hj hk jk dependent
  have ca : c * a = 0 := φ.mul_eq_zero_of_dependent (a := b) hj hk hi ik.symm fun m => by linear_combination dependent m
  have ab : a * b = 0 := φ.mul_eq_zero_of_dependent (a := c) hk hi hj ij fun m => by linear_combination dependent m
  have sum := dependent 0
  rw [φ.sym_first, φ.sym_first, φ.sym_first, mul_one, mul_one, mul_one] at sum
  have square {x : F} (zero : x * x = 0) : x = 0 := mul_self_eq_zero.1 zero
  exact ⟨square (by linear_combination a * sum - ab - ca), square (by linear_combination b * sum - ab - bc),
    square (by linear_combination c * sum - ca - bc)⟩

end

end SymbolReading

end

/-! ## Syndromes -/

/-- Component `m` of the syndrome of a word, of its first `n` symbols. -/
def syndromePart (m w n : Nat) : Nat := (List.range n).foldl (fun s i => s ^^^ gfMul (w / 2 ^ (4 * i) % 16) (columnPart m i)) 0

theorem syndromePart_succ (m w n : Nat) :
    syndromePart m w (n + 1) = syndromePart m w n ^^^ gfMul (w / 2 ^ (4 * n) % 16) (columnPart m n) := by
  rw [syndromePart, List.range_succ, List.foldl_append]
  rfl

theorem syndrome_eq_parts (w : Nat) : syndrome w = (syndromePart 0 w 36, syndromePart 1 w 36, syndromePart 2 w 36, syndromePart 3 w 36) := by
  unfold syndrome
  generalize 36 = n
  induction n with
  | zero => rfl
  | succ n ih =>
    have below : w / 2 ^ (4 * n) % 16 < 16 := Nat.mod_lt _ (by decide)
    have first : (gfColumn n).1 = 1 := rfl
    rw [List.range_succ, List.foldl_append, ih]
    simp only [syndromePart_succ, columnPart, first, gfMul_one below]
    rfl

/-- One symbol changed adds to that symbol alone. -/
theorem symbolAt_xor {e : Nat} (w i j : Nat) (lt : e < 16) :
    (w ^^^ (e <<< (4 * j))) / 2 ^ (4 * i) % 16 = (w / 2 ^ (4 * i) % 16) ^^^ (if i = j then e else 0) := by
  have own : (e <<< (4 * j)) / 2 ^ (4 * i) % 2 ^ 4 = if i = j then e else 0 := by
    refine Nat.eq_of_testBit_eq fun n => ?_
    rw [← Nat.shiftRight_eq_div_pow, Nat.testBit_mod_two_pow, Nat.testBit_shiftRight, Nat.testBit_shiftLeft]
    have high {n : Nat} (four : 4 ≤ n) : e.testBit n = false :=
      Nat.testBit_lt_two_pow (lt.trans_le (Nat.pow_le_pow_right (by decide) four : 2 ^ 4 ≤ 2 ^ n))
    split
    · subst i
      by_cases four : n < 4
      · simp [four]
      · simp [four, high (not_lt.1 four)]
    · by_cases reached : 4 * j ≤ 4 * i + n ∧ n < 4
      · rw [high (by omega)]
        simp
      · have missed : n < 4 → ¬4 * j ≤ 4 * i + n := fun four le => reached ⟨le, four⟩
        simpa using fun four le => absurd le (missed four)
  rw [← own, ← Nat.shiftRight_eq_div_pow, Nat.shiftRight_xor_distrib, Nat.shiftRight_eq_div_pow, Nat.shiftRight_eq_div_pow,
    Nat.xor_mod_two_pow (n := 4)]

theorem syndromePart_lt (m w n : Nat) (le : n ≤ 36) : syndromePart m w n < 16 := by
  induction n with
  | zero => exact (by decide : 0 < 16)
  | succ n ih =>
    rw [syndromePart_succ]
    exact Nat.xor_lt_two_pow (n := 4) (ih (by omega)) (gfMul_lt (Nat.mod_lt _ (by decide)) (columnPart_lt m (by omega)))

section
variable {F : Type} [Field F] (φ : SymbolReading F) {e : Nat} (w : Nat)

theorem SymbolReading.sym_syndromePart_xor {e j : Nat} (m n : Nat) (lt : e < 16) (le : n ≤ 36) :
    φ.sym (syndromePart m (w ^^^ (e <<< (4 * j))) n) =
      φ.sym (syndromePart m w n) + if j < n then φ.sym e * φ.sym (columnPart m j) else 0 := by
  induction n with
  | zero => simp [syndromePart, φ.sym_zero]
  | succ n ih =>
    have below : w / 2 ^ (4 * n) % 16 < 16 := Nat.mod_lt _ (by decide)
    have column : columnPart m n < 16 := columnPart_lt m (by omega)
    rw [syndromePart_succ, syndromePart_succ, φ.xor, φ.xor, ih (by omega), symbolAt_xor w n j lt]
    by_cases here : n = j
    · subst n
      rw [if_pos rfl, if_neg (lt_irrefl j), if_pos j.lt_succ_self, φ.mul (Nat.xor_lt_two_pow (n := 4) below lt) column,
        φ.mul below column, φ.xor]
      ring
    · rw [if_neg here, Nat.xor_zero]
      have same : j < n + 1 ↔ j < n := by omega
      simp only [same]
      ring

end

/-! ## The decoder (R458) -/

theorem exists_symbolReading : ∃ (F : Type) (_ : Field F), Nonempty (SymbolReading F) := ⟨Symbol, symbolField, ⟨symbolReading⟩⟩

/-- A syndrome is a multiple of the column of symbol `j`. -/
abbrev namesSymbol (s : Nat × Nat × Nat × Nat) (j : Nat) : Prop :=
  s.2.1 = gfMul s.1 (gfColumn j).2.1 ∧ s.2.2.1 = gfMul s.1 (gfColumn j).2.2.1 ∧ s.2.2.2 = gfMul s.1 (gfColumn j).2.2.2

section
variable {w : Nat}

theorem namesSymbol_iff {j : Nat} :
    namesSymbol (syndrome w) j ↔ ∀ m, syndromePart m w 36 = gfMul (syndromePart 0 w 36) (columnPart m j) := by
  have first : syndromePart 0 w 36 = gfMul (syndromePart 0 w 36) (columnPart 0 j) := (gfMul_one (syndromePart_lt 0 w 36 le_rfl)).symm
  rw [syndrome_eq_parts]
  refine ⟨fun ⟨second, third, last⟩ m => ?_, fun parts => ⟨parts 1, parts 2, parts 3⟩⟩
  match m with
  | 0 => exact first
  | 1 => exact second
  | 2 => exact third
  | _ + 3 => exact last

theorem syndrome_eq_zero_iff : syndrome w = (0, 0, 0, 0) ↔ ∀ m, syndromePart m w 36 = 0 := by
  rw [syndrome_eq_parts]
  simp only [Prod.mk.injEq]
  refine ⟨fun ⟨first, second, third, last⟩ m => ?_, fun parts => ⟨parts 0, parts 1, parts 2, parts 3⟩⟩
  match m with
  | 0 => exact first
  | 1 => exact second
  | 2 => exact third
  | _ + 3 => exact last

/-- A syndrome is a multiple of one column at most. -/
theorem symbol_unique {i j : Nat} (hi : i < 36) (hj : j < 36) (nonzero : syndromePart 0 w 36 ≠ 0)
    (left : namesSymbol (syndrome w) i) (right : namesSymbol (syndrome w) j) : i = j := by
  obtain ⟨F, _, ⟨φ⟩⟩ := exists_symbolReading
  by_contra apart
  have lt : syndromePart 0 w 36 < 16 := syndromePart_lt 0 w 36 le_rfl
  have none : φ.sym (syndromePart 0 w 36) = 0 := (φ.independent_two (b := -φ.sym (syndromePart 0 w 36)) hi hj apart fun m => by
    rw [neg_mul, ← φ.mul lt (columnPart_lt m hi), ← φ.mul lt (columnPart_lt m hj), ← namesSymbol_iff.1 left m, ← namesSymbol_iff.1 right m,
      add_neg_cancel]).1
  exact nonzero (φ.inj lt (by decide) (none.trans φ.sym_zero.symm))

theorem decodeWord_good_iff : decodeWord w = .good ↔ syndrome w = (0, 0, 0, 0) := by
  refine ⟨fun good => ?_, fun zero => if_pos zero⟩
  unfold decodeWord at good
  dsimp only at good
  split at good
  · assumption
  · split at good
    · cases good
    · split at good <;> cases good

theorem decodeWord_corrected_iff {j : Nat} :
    decodeWord w = .corrected j ↔ j < 36 ∧ (syndrome w).1 ≠ 0 ∧ namesSymbol (syndrome w) j := by
  constructor
  · intro corrected
    unfold decodeWord at corrected
    dsimp only at corrected
    split at corrected
    · cases corrected
    · split at corrected
      · cases corrected
      · next nonzero =>
        split at corrected
        · next k found =>
          cases corrected
          exact ⟨List.mem_range.1 (List.mem_of_find?_eq_some found), nonzero, by simpa using List.find?_some found⟩
        · cases corrected
  · rintro ⟨lt, nonzero, names⟩
    have error : syndrome w ≠ (0, 0, 0, 0) := fun zero => nonzero (by rw [zero])
    obtain ⟨k, found⟩ := Option.isSome_iff_exists.1 (List.find?_isSome.2
      ⟨j, List.mem_range.2 lt, decide_eq_true names⟩ : ((List.range 36).find? fun j => decide (namesSymbol (syndrome w) j)).isSome)
    have same : k = j := symbol_unique (List.mem_range.1 (List.mem_of_find?_eq_some found)) lt
      (by rwa [syndrome_eq_parts] at nonzero) (by simpa using List.find?_some found) names
    unfold decodeWord
    dsimp only
    rw [if_neg error, if_neg nonzero, found, same]

theorem correctWord_of_good (good : decodeWord w = .good) : correctWord w = w := by
  rw [correctWord, good]

theorem correctWord_of_corrected {j : Nat} (corrected : decodeWord w = .corrected j) :
    correctWord w = w ^^^ ((syndrome w).1 <<< (4 * j)) := by
  rw [correctWord, corrected]

theorem decodeWord_of_unnamed (error : syndrome w ≠ (0, 0, 0, 0))
    (unnamed : ∀ j, j < 36 → (syndrome w).1 ≠ 0 → ¬namesSymbol (syndrome w) j) : decodeWord w = .uncorrectable := by
  cases decoded : decodeWord w with
  | good => exact absurd (decodeWord_good_iff.1 decoded) error
  | corrected j =>
    obtain ⟨lt, nonzero, names⟩ := decodeWord_corrected_iff.1 decoded
    exact absurd names (unnamed j lt nonzero)
  | uncorrectable => rfl

end

/-! ## Errors in one symbol and in two -/

section
variable {w i j e f : Nat} (correct : syndrome w = (0, 0, 0, 0)) (hi : i < 36) (hj : j < 36) (he : e < 16) (hf : f < 16)
include correct hj he

theorem syndromePart_single (m : Nat) : syndromePart m (w ^^^ (e <<< (4 * j))) 36 = gfMul e (columnPart m j) := by
  obtain ⟨F, _, ⟨φ⟩⟩ := exists_symbolReading
  refine φ.inj (syndromePart_lt m _ 36 le_rfl) (gfMul_lt he (columnPart_lt m hj)) ?_
  rw [φ.sym_syndromePart_xor w m 36 he le_rfl, syndrome_eq_zero_iff.1 correct m, φ.sym_zero, if_pos hj, zero_add,
    φ.mul he (columnPart_lt m hj)]

/-- An error in one symbol is named and taken back. -/
theorem decodeWord_single (error : 1 ≤ e) :
    decodeWord (w ^^^ (e <<< (4 * j))) = .corrected j ∧ correctWord (w ^^^ (e <<< (4 * j))) = w := by
  have first : syndromePart 0 (w ^^^ (e <<< (4 * j))) 36 = e := (syndromePart_single correct hj he 0).trans (gfMul_one he)
  have shown : (syndrome (w ^^^ (e <<< (4 * j)))).1 = e := by rw [syndrome_eq_parts, first]
  have corrected : decodeWord (w ^^^ (e <<< (4 * j))) = .corrected j := decodeWord_corrected_iff.2
    ⟨hj, by omega, namesSymbol_iff.2 fun m => by rw [first, syndromePart_single correct hj he m]⟩
  refine ⟨corrected, ?_⟩
  rw [correctWord_of_corrected corrected, shown, Nat.xor_assoc, Nat.xor_self, Nat.xor_zero]

include hi hf

theorem SymbolReading.sym_syndromePart_double {F : Type} [Field F] (φ : SymbolReading F) (m : Nat) :
    φ.sym (syndromePart m (w ^^^ (e <<< (4 * j)) ^^^ (f <<< (4 * i))) 36) =
      φ.sym e * φ.sym (columnPart m j) + φ.sym f * φ.sym (columnPart m i) := by
  rw [φ.sym_syndromePart_xor _ m 36 hf le_rfl, if_pos hi, syndromePart_single correct hj he m, φ.mul he (columnPart_lt m hj)]

/-- An error in two symbols is reported: its syndrome is neither 0 nor a multiple of a column, as no three columns are dependent. -/
theorem decodeWord_double (apart : j ≠ i) (error : 1 ≤ e) (error' : 1 ≤ f) :
    decodeWord (w ^^^ (e <<< (4 * j)) ^^^ (f <<< (4 * i))) = .uncorrectable := by
  obtain ⟨F, _, ⟨φ⟩⟩ := exists_symbolReading
  have nonzero {x : Nat} (lt : x < 16) (some : 1 ≤ x) : φ.sym x ≠ 0 := fun zero =>
    absurd (φ.inj lt (by decide) (zero.trans φ.sym_zero.symm)) (by omega)
  have double := φ.sym_syndromePart_double correct hi hj he hf
  refine decodeWord_of_unnamed (fun zero => ?_) fun k hk _ names => ?_
  · refine nonzero he error (φ.independent_two (b := φ.sym f) hj hi apart fun m => ?_).1
    rw [← double m, syndrome_eq_zero_iff.1 zero m, φ.sym_zero]
  · generalize w ^^^ (e <<< (4 * j)) ^^^ (f <<< (4 * i)) = word at double names
    have lt : syndromePart 0 word 36 < 16 := syndromePart_lt 0 word 36 le_rfl
    have multiple (m : Nat) : φ.sym e * φ.sym (columnPart m j) + φ.sym f * φ.sym (columnPart m i) +
        -φ.sym (syndromePart 0 word 36) * φ.sym (columnPart m k) = 0 := by
      rw [← double m, namesSymbol_iff.1 names m, φ.mul lt (columnPart_lt m hk)]
      ring
    by_cases left : k = j
    · subst k
      exact nonzero hf error' (φ.independent_two (a := φ.sym e - φ.sym (syndromePart 0 word 36)) hj hi apart fun m => by
        linear_combination multiple m).2
    · by_cases right : k = i
      · subst k
        exact nonzero he error (φ.independent_two (b := φ.sym f - φ.sym (syndromePart 0 word 36)) hj hi apart fun m => by
          linear_combination multiple m).1
      · exact nonzero he error (φ.independent_three hj hi hk apart (Ne.symm right) (Ne.symm left) multiple).1

end

/-- No three columns are dependent, in the terms of the symbols themselves. -/
theorem gfColumn_independent {i j k a b c : Nat} (ij : i < j) (jk : j < k) (hk : k < 36) (ha : a < 16) (hb : b < 16) (hc : c < 16)
    (dependent : ∀ m, gfMul a (columnPart m i) ^^^ gfMul b (columnPart m j) ^^^ gfMul c (columnPart m k) = 0) : a = 0 ∧ b = 0 ∧ c = 0 := by
  obtain ⟨F, _, ⟨φ⟩⟩ := exists_symbolReading
  have zero {x : Nat} (lt : x < 16) (none : φ.sym x = 0) : x = 0 := φ.inj lt (by decide) (none.trans φ.sym_zero.symm)
  have hi : i < 36 := by omega
  have hj : j < 36 := by omega
  obtain ⟨first, second, third⟩ := φ.independent_three (a := φ.sym a) (b := φ.sym b) (c := φ.sym c) hi hj hk (by omega) (by omega) (by omega)
    fun m => by rw [← φ.mul ha (columnPart_lt m hi), ← φ.mul hb (columnPart_lt m hj), ← φ.mul hc (columnPart_lt m hk), ← φ.xor, ← φ.xor,
      dependent m, φ.sym_zero]
  exact ⟨zero ha first, zero hb second, zero hc third⟩

/-- Settles O58: the decoder's answers by `decodeWord_good_iff` and `decodeWord_corrected_iff`; of errors in one symbol and in two by
the linear independence of any three columns over the field of the symbols. -/
theorem symbolCodeCorrectsOneAndDetectsTwo : Obligations.SymbolCodeCorrectsOneAndDetectsTwo := by
  unfold Obligations.SymbolCodeCorrectsOneAndDetectsTwo
  refine ⟨fun i => rfl, ?independent, fun w zero => ?zero, fun w j lt nonzero second third last => ?one,
    fun w error unnamed => decodeWord_of_unnamed error ?none, fun w j e correct hj error he => decodeWord_single correct hj he error,
    fun w i j e f correct hi hj apart error he error' hf => decodeWord_double correct hj hi he hf apart error error'⟩
  case independent =>
    rintro i j k a b c ij jk hk ha hb hc some ⟨first, second, third, last⟩
    obtain ⟨noA, noB, noC⟩ := gfColumn_independent ij jk hk ha hb hc fun m =>
      match m with
      | 0 => by simpa only [columnPart, gfColumn, gfMul_one ha, gfMul_one hb, gfMul_one hc] using first
      | 1 => second
      | 2 => third
      | _ + 3 => last
    simp [noA, noB, noC] at some
  case zero => exact ⟨decodeWord_good_iff.2 zero, correctWord_of_good (decodeWord_good_iff.2 zero)⟩
  case one =>
    have corrected : decodeWord w = .corrected j := decodeWord_corrected_iff.2 ⟨lt, nonzero, second, third, last⟩
    exact ⟨corrected, correctWord_of_corrected corrected⟩
  case none =>
    rintro j lt nonzero ⟨second, third, last⟩
    rcases unnamed j lt with zero | other | other | other
    · exact nonzero zero
    · exact other second
    · exact other third
    · exact other last

end Sys2Proof.Machine
end

section
/-! A source latches and counts (R447), and what its latching does to the first-error record, the log and safe state (R442, R443, R454). -/

namespace Sys2Proof.Machine

/-! ## Safe state is entered (R450) -/

/-- Neither identity objects nor the twin's are those of the chip-wide faults: no object of families 1000h and 1300h. -/
def besideTwin (k : Key) : Bool := !(k.fam == 0x1000 || k.fam == 0x1300)

section
variable (s : State)

theorem FaultsOnly.flag {p : Key → Bool} {a b : State} (h : FaultsOnly p a b) {k : Key} (other : p k = true) : b.flag k = a.flag k := by
  rw [State.flag, h.get other, State.flag]

theorem State.dropSide_twin : FaultsOnly besideTwin s s.dropSide :=
  List.foldlRecOn _ _ (.refl s) fun _ h _ _ => h.set rfl _

theorem State.tellTwin_any (p : Key → Bool) (n : Notice) : FaultsOnly p s (s.tellTwin n) := by
  unfold State.tellTwin
  split
  · exact .refl s
  · exact ⟨⟨_, _, _, _, _, _, rfl⟩, fun _ _ => rfl⟩

theorem State.loseService_twin : FaultsOnly besideTwin s s.loseService :=
  ((((((FaultsOnly.refl s).set rfl _).set rfl _).set rfl _).set rfl _).set rfl _).setTwin _

theorem State.enterSafe_of_safe {s : State} (safe : s.safe = true) : s.enterSafe = s := if_pos safe

theorem State.safe_enterSafe : s.enterSafe.safe = true := by
  by_cases safe : s.safe = true
  · rw [State.enterSafe_of_safe safe, safe]
  · have marked : ((s.setF O.fault_safe_state true).count O.fault_safe_entries).safe = true := by
      rw [State.safe, State.count, State.flag, State.get_setN, if_neg (by simp), State.setF, State.get_set, if_pos rfl]
      rfl
    have told : FaultsOnly besideTwin ((s.setF O.fault_safe_state true).count O.fault_safe_entries)
        (((s.setF O.fault_safe_state true).count O.fault_safe_entries).dropSide.tellTwin .safeState) :=
      (State.dropSide_twin _).trans (State.tellTwin_any ..)
    rw [State.enterSafe, if_neg safe]
    dsimp only
    split
    · exact ((told.trans (State.loseService_twin _)).flag rfl).trans marked
    · exact (told.flag rfl).trans marked

theorem State.safe_askRestart (cause : Nat) : (s.askRestart cause).safe = true := by
  unfold State.askRestart
  dsimp only
  split
  · exact s.safe_enterSafe
  · exact s.safe_enterSafe

end

/-! ## Latching (R447) -/

section
variable (s : State) (src unit detail : Nat)

/-- What a latching notes at its source: the count, the state, the time and the context. -/
def State.noteLatch : State :=
  (((s.count (O.fsrc_count (src + 1))).setN (O.fsrc_state (src + 1)) 1).setN (O.fsrc_last_time (src + 1)) (s.tbNow 0)).setN
    (O.fsrc_last_context (src + 1)) (contextWord unit detail)

variable {s src} (exist : (faultKindOf src).isSome = true) (present : s.fusedOff ⟨0x1100, src + 1, 0⟩ = false)
  (up : s.heldDown = false)
include exist present up

theorem State.latch_of_clear (clear : s.nat (O.fsrc_state (src + 1)) = 0) :
    FaultsOnly besideReactions (s.noteLatch src unit detail) (s.latch src unit detail) := by
  have judged : ¬((faultKindOf src).isNone = true ∨ s.fusedOff ⟨0x1100, src + 1, 0⟩ = true) := by
    simpa [present, Option.isSome_iff_ne_none] using exist
  have probation {m u : State} (h : FaultsOnly besideReactions m u) (c : Bool) :
      FaultsOnly besideReactions m (if c then u.failProbation.askRestart 4 else u) := by
    split
    · exact (h.trans u.failProbation_faults).trans (State.askRestart_faults ..)
    · exact h
  rw [State.latch, if_neg judged, up, if_neg Bool.false_ne_true]
  dsimp only
  rw [if_neg (not_not.2 clear)]
  exact probation ((State.captureFirst_faults ..).trans (State.react_faults ..)) _

theorem State.latch_of_latched (latched : s.nat (O.fsrc_state (src + 1)) ≠ 0) :
    s.latch src unit detail = (s.count (O.fsrc_count (src + 1))).setN (O.fsrc_state (src + 1)) 1 := by
  have judged : ¬((faultKindOf src).isNone = true ∨ s.fusedOff ⟨0x1100, src + 1, 0⟩ = true) := by
    simpa [present, Option.isSome_iff_ne_none] using exist
  rw [State.latch, if_neg judged, up, if_neg Bool.false_ne_true]
  exact if_pos latched

theorem State.latch_reads (clear : s.nat (O.fsrc_state (src + 1)) = 0) (room : s.nat (O.fsrc_count (src + 1)) + 1 < 4294967296) :
    (s.latch src unit detail).nat (O.fsrc_state (src + 1)) = 1 ∧
    (s.latch src unit detail).nat (O.fsrc_count (src + 1)) = s.nat (O.fsrc_count (src + 1)) + 1 ∧
    (s.latch src unit detail).nat (O.fsrc_last_time (src + 1)) = s.tbNow 0 ∧
    (s.latch src unit detail).nat (O.fsrc_last_context (src + 1)) = contextWord unit detail := by
  have reacted := State.latch_of_clear unit detail exist present up clear
  have own (sub : Nat) : (s.latch src unit detail).nat ⟨0x1100, src + 1, sub⟩ = (s.noteLatch src unit detail).nat ⟨0x1100, src + 1, sub⟩ :=
    reacted.nat (by simp [besideReactions])
  refine ⟨?_, ?_, ?_, ?_⟩
  · rw [own, State.noteLatch, State.nat_setN_other _ _ (by simp), State.nat_setN_other _ _ (by simp), State.nat_setN_same]
  · rw [own, State.noteLatch, State.nat_setN_other _ _ (by simp), State.nat_setN_other _ _ (by simp), State.nat_setN_other _ _ (by simp),
      State.nat_count_of_room room]
  · rw [own, State.noteLatch, State.nat_setN_other _ _ (by simp), State.nat_setN_same]
  · rw [own, State.noteLatch, State.nat_setN_same]

end

/-! ## A condition ends, and a clear (R448) -/

section
variable {s : State} {src : Nat}

section
variable (nothing : s.faults.relatch = []) (active : s.isActive src = true)
include nothing active

theorem State.endFault_of_held (held : s.flag (O.fsrc_auto_clear (src + 1)) = false) :
    s.endFault src = s.setN (O.fsrc_state (src + 1)) 2 := by
  simp [State.endFault, nothing, active, held]

theorem State.endFault_of_auto (auto : s.flag (O.fsrc_auto_clear (src + 1)) = true) (cls : faultClass src ≤ 2) :
    s.endFault src = s.unlatch src := by
  simp [State.endFault, nothing, active, auto, cls]

end

theorem State.unlatch_state : (s.unlatch src).nat (O.fsrc_state (src + 1)) = 0 := by
  rw [State.unlatch, (State.reviewSafe_faults _).nat (by simp [besideReactions]), State.nat_setN_same]

end

/-- Settles O18: the objects that a latching notes by `State.latch_reads`; the others by the branch of the latch or of its end. -/
theorem faultSourcesLatchAndCount : Obligations.FaultSourcesLatchAndCount := by
  unfold Obligations.FaultSourcesLatchAndCount
  exact ⟨fun s src unit detail => State.latch_reads unit detail, fun s src unit detail => State.latch_of_latched unit detail,
    fun s src => State.endFault_of_held, fun s src nothing inactive => State.endFault_of_inactive inactive nothing,
    fun s src => State.endFault_of_auto, fun s src => State.unlatch_state⟩

/-! ## Reactions (R442, R443, R454) -/

section
variable {s : State} {src : Nat} (unit : Nat) (fr : Bytes)

theorem State.captureFirst_of_empty (empty : s.flag O.fault_first_valid = false) :
    (s.captureFirst fr).oct O.fault_first_record = fr ∧ (s.captureFirst fr).flag O.fault_first_valid = true := by
  rw [State.captureFirst, empty, if_neg Bool.false_ne_true]
  refine ⟨?_, ?_⟩
  · rw [State.setF, State.oct_set, if_neg (by simp), State.setB, State.oct_set, if_pos rfl, Val.oct]
  · rw [State.setF, State.flag, State.get_set, if_pos rfl]
    rfl

theorem State.captureFirst_of_filled (filled : s.flag O.fault_first_valid = true) (room : s.nat O.fault_overflow_count + 1 < 4294967296) :
    (s.captureFirst fr).oct O.fault_first_record = s.oct O.fault_first_record ∧ (s.captureFirst fr).flag O.fault_overflow = true ∧
    (s.captureFirst fr).nat O.fault_overflow_count = s.nat O.fault_overflow_count + 1 := by
  have same : (s.setF O.fault_overflow true).nat O.fault_overflow_count = s.nat O.fault_overflow_count := by
    rw [State.setF, State.nat_set, if_neg (by simp)]
  rw [State.captureFirst, filled, if_pos rfl]
  refine ⟨?_, ?_, ?_⟩
  · rw [State.count, State.setN, State.oct_set, if_neg (by simp), State.setF, State.oct_set, if_neg (by simp)]
  · rw [State.count, State.flag, State.get_setN, if_neg (by simp), State.setF, State.get_set, if_pos rfl]
    rfl
  · rw [State.nat_count_of_room (by rw [same]; exact room), same]

/-- A reaction set without the safe_state bit, by which the source does not bring safe state, asks for no restart. -/
theorem State.react_of_mild (mild : s.bringsSafe src = false) (reset : Machine.bit (s.reactionsOf src) 2 = false) :
    s.react src unit fr = if Machine.bit (s.reactionsOf src) 1 then s.appendLog fr else s := by
  have stays : Machine.bit (s.reactionsOf src) 3 = false := (Bool.or_eq_false_iff.1 mild).2
  simp only [State.react, mild, reset, stays, Bool.false_and, Bool.false_eq_true, if_false]

/-- Where the source brings safe state, whatever else its reactions do leaves the chip in safe state. -/
theorem State.react_of_safe (brings : s.bringsSafe src = true) : (s.react src unit fr).safe = true := by
  have logged : (if Machine.bit (s.reactionsOf src) 1 then s.enterSafe.appendLog fr else s.enterSafe).safe = true := by
    split
    · have kept : FaultsOnly (fun k => k == O.fault_safe_state) s.enterSafe (s.enterSafe.appendLog fr) :=
        ((FaultsOnly.refl _).set rfl _).set rfl _
      exact (kept.flag rfl).trans s.safe_enterSafe
    · exact s.safe_enterSafe
  have noted {u : State} (safe : u.safe = true) (c : Bool) :
      (if c then { u with faults := { u.faults with resets := u.faults.resets ++ [(src, unit)] } } else u).safe = true := by
    split
    · exact safe
    · exact safe
  rw [State.react, brings, if_pos rfl]
  by_cases restarts : Machine.bit (s.reactionsOf src) 3 = true
  · exact (congrArg State.safe (if_pos restarts)).trans (State.safe_askRestart ..)
  · exact (congrArg State.safe (if_neg restarts)).trans (noted logged _)

/-- The log keeps its last 1 024 records, of which the newest is the last. -/
theorem State.oct_appendLog : (s.appendLog fr).oct O.fault_log = (s.oct O.fault_log ++ fr).drop ((s.oct O.fault_log ++ fr).length - 24576) := by
  have kept : (if (s.oct O.fault_log ++ fr).length > 24576 then (s.oct O.fault_log ++ fr).drop ((s.oct O.fault_log ++ fr).length - 24576)
      else s.oct O.fault_log ++ fr) = (s.oct O.fault_log ++ fr).drop ((s.oct O.fault_log ++ fr).length - 24576) := by
    split
    · rfl
    · next short => rw [Nat.sub_eq_zero_of_le (not_lt.1 short), List.drop_zero]
  rw [State.appendLog, kept, State.setN, State.oct_set, if_neg (by simp), State.setB, State.oct_set, if_pos rfl, Val.oct]

theorem State.appendLog_reads {fr : Bytes} (record : fr.length = 24) :
    ((s.appendLog fr).oct O.fault_log).length ≤ 24576 ∧
      ((s.appendLog fr).oct O.fault_log).drop (((s.appendLog fr).oct O.fault_log).length - 24) = fr := by
  rw [State.oct_appendLog]
  have length := List.length_append (as := s.oct O.fault_log) (bs := fr)
  refine ⟨by rw [List.length_drop]; omega, ?_⟩
  rw [List.drop_drop, List.length_drop, length, record]
  exact List.drop_left' (by omega)

end

/-- Settles O19: the first-error record, the log and safe state by the lemmas about `captureFirst`, `appendLog` and `react`. -/
theorem latchingReacts : Obligations.LatchingReacts := by
  unfold Obligations.LatchingReacts
  refine ⟨fun s fr => State.captureFirst_of_empty fr, fun s fr => State.captureFirst_of_filled fr,
    fun s src unit fr => State.react_of_safe unit fr, fun s src unit fr mild trap reset => ?_, fun s src unit fr mild quiet reset => ?_,
    fun s fr record _ _ => State.appendLog_reads record⟩
  · rw [State.react_of_mild unit fr mild reset, if_pos trap]
  · rw [State.react_of_mild unit fr mild reset, quiet, if_neg Bool.false_ne_true]

end Sys2Proof.Machine
end

section
/-! The events of the fault collector (R439, R444, R447, R448, R456). -/

namespace Sys2Proof.Machine

section
variable {s : State} {src unit detail l : Nat}

theorem State.faultLatch_of_plain (plain : excludes src (unit / 268435456) (unit % 268435456) = false) :
    s.faultLatch src unit detail = s.latch src unit detail :=
  if_neg (by simp [plain])

theorem State.faultLatch_of_excluding (excluding : excludes src (unit / 268435456) (unit % 268435456) = true) :
    s.faultLatch src unit detail = (s.latch src unit detail).excludeUnit (unit / 268435456) (unit % 268435456) :=
  if_pos excluding

/-! ## Block resets (R444) -/

theorem State.resetOver_of_none (none : ∀ e ∈ s.faults.resets, e.1 ≠ src) : s.resetOver src = s := by
  have missing : s.faults.resets.find? (fun e => e.1 = src) = Option.none := List.find?_eq_none.2 fun e mem => by simpa using none e mem
  rw [State.resetOver, missing]

/-- The block reset of a lane, the one under way, ends. -/
theorem State.resetOver_of_lane (one : s.faults.resets = [(src, l)]) (lane : blockOf src l = .lane l) (present : s.laneExists l = true) :
    s.resetOver src = if s.nat (O.lane_state l) ≠ 2
      then (({ s with faults := { s.faults with resets := [] } } : State).laneSleeps l).laneTo l (s.nat (O.lane_state l))
      else { s with faults := { s.faults with resets := [] } } := by
  have found : s.faults.resets.find? (fun e => e.1 = src) = some (src, l) := by simp [one]
  have emptied : s.faults.resets.filter (fun x => x ≠ (src, l)) = [] := by simp [one]
  rw [State.resetOver, found]
  dsimp only
  rw [lane, emptied]
  exact if_congr (and_iff_right present) rfl rfl

/-! ## The check of the fault tree (R439) -/

theorem State.treeCheck_of_good : s.treeCheck true = (s.count O.fault_tree_checks).endFault F.faultTreeCheck := rfl

theorem State.treeCheck_of_bad (inactive : s.isActive F.faultTreeCheck = false) : s.treeCheck false = s.latch F.faultTreeCheck 0 0 :=
  State.follow_of_inactive 0 0 inactive

end

section
variable (s : State) (t src unit detail : Nat)

theorem exec_faultLatch : exec (.faultLatch t src unit detail) s = .next (s.closed ((s.advance t).faultLatch src unit detail)) := rfl

theorem exec_blockResetDone : exec (.blockResetDone t src) s = .next (s.closed ((s.advance t).resetOver src)) := rfl

theorem exec_faultConditionEnd : exec (.faultConditionEnd t src) s = .next (s.closed ((s.advance t).endFault src)) := rfl

theorem exec_faultTreeSelfCheck (ok : Bool) :
    exec (.faultTreeSelfCheck t ok) s = .next (s.closed ((s.advance t).treeCheck ok)) := rfl

end

/-- Settles O20: each event by the lemma about its operation on the state of its arrival. That a record names its block as `blockOf`
says is log entry 29. -/
theorem faultEventsComplete : Obligations.FaultEventsComplete := by
  unfold Obligations.FaultEventsComplete
  refine ⟨?plain, ?excluding, ?dormant, ?none, ?lane, ?ends, ?tree⟩
  case plain =>
    rintro s _ t src unit detail rfl plain
    rw [exec_faultLatch, State.faultLatch_of_plain plain]
  case excluding =>
    rintro s _ t src unit detail rfl excluding
    rw [exec_faultLatch, State.faultLatch_of_excluding excluding]
  case dormant =>
    rintro s _ t src l rfl one lane present dormant
    rw [exec_blockResetDone, State.resetOver_of_lane one lane present, if_neg (not_not.2 dormant)]
  case none =>
    rintro s _ t src rfl none
    rw [exec_blockResetDone, State.resetOver_of_none none]
  case lane =>
    rintro s _ t src l rfl one lane present awake
    rw [exec_blockResetDone, State.resetOver_of_lane one lane present, if_pos awake]
  case ends =>
    rintro s _ t src rfl nothing active held
    rw [exec_faultConditionEnd, State.endFault_of_held nothing active held]
  case tree =>
    rintro s _ t rfl
    refine ⟨?_, fun inactive => ?_⟩
    · rw [exec_faultTreeSelfCheck, State.treeCheck_of_good]
    · rw [exec_faultTreeSelfCheck, State.treeCheck_of_bad inactive]

end Sys2Proof.Machine
end

section
/-! Clears, reaction sets, the first-error record, inclusions and injections as they are written (R441, R448, R449, R454, R456, R459). -/

namespace Sys2Proof.Machine

/-! ## The rule of each object -/

section
variable {s : State} (w : Writer) (src : Nat)

theorem State.familyWrite_fault (inst sub : Nat) (v : Val) :
    s.familyWrite w [] ⟨0x1100, inst, sub⟩ v = s.writeFaults w ⟨0x1100, inst, sub⟩ v := by
  simp [State.familyWrite, State.lullRefuses]

theorem State.familyWrite_fsrc (sub : Nat) (v : Val) : s.familyWrite w [] ⟨0x1100, src + 1, sub⟩ v =
    match sub with
    | 0x02 => some (s.writeReactions src v.int.toNat)
    | 0x08 => some (if v.int = 1 then s.clearFault w.role src else (0, s))
    | 0x09 => some (s.writeAutoClear src (v.int != 0))
    | _ => none :=
  s.familyWrite_fault w ..

theorem State.familyWrite_fsrc_clear :
    s.familyWrite w [] (O.fsrc_clear (src + 1)) (.n 1) = some (s.clearFault w.role src) := s.familyWrite_fsrc w ..

theorem State.familyWrite_fsrc_auto_clear (on : Nat) :
    s.familyWrite w [] (O.fsrc_auto_clear (src + 1)) (.n on) = some (s.writeAutoClear src ((on : Int) != 0)) := s.familyWrite_fsrc w ..

theorem State.familyWrite_fsrc_reactions (set : Nat) :
    s.familyWrite w [] (O.fsrc_reactions (src + 1)) (.n set) = some (s.writeReactions src set) := s.familyWrite_fsrc w ..

theorem State.familyWrite_fault_clear_all : s.familyWrite w [] O.fault_clear_all (.n 1) = some s.clearAll := s.familyWrite_fault w ..

theorem State.familyWrite_fault_rearm : s.familyWrite w [] O.fault_rearm (.n 1) = some s.rearm := s.familyWrite_fault w ..

theorem State.familyWrite_fault_include (entry : Bytes) :
    s.familyWrite w [] O.fault_include (.b entry) = some (s.includeUnit entry) := s.familyWrite_fault w ..

theorem State.familyWrite_fault_inject_arm (on : Nat) : s.familyWrite w [] O.fault_inject_arm (.n on) =
    some (if (on : Int) = 1 then s.armInjection else s.disarmInjection) := s.familyWrite_fault w ..

end

/-! ## Clears (R448, R449, R454) -/

section
variable {s : State} {role src : Nat}

theorem State.clearFault_of_normal (three : faultClass src = 3) (normal : s.serviceMode = false) : s.clearFault role src = (C.locked, s) :=
  if_pos ⟨three, by simp [normal]⟩

theorem State.clearFault_of_low (three : faultClass src = 3) (service : s.serviceMode = true) (low : role < 3) :
    s.clearFault role src = (C.denied, s) :=
  (if_neg (by simp [service])).trans (if_pos ⟨three, low⟩)

theorem State.clearFault_of_allowed (allowed : faultClass src ≠ 3 ∨ s.serviceMode = true ∧ 3 ≤ role) :
    s.clearFault role src = if s.isActive src then (C.busy, s) else (0, if s.isLatched src then s.unlatch src else s) := by
  have unlocked : ¬(faultClass src = 3 ∧ (!s.serviceMode) = true) := by
    rintro ⟨three, normal⟩
    rcases allowed with other | ⟨service, -⟩
    · exact other three
    · simp [service] at normal
  have maintained : ¬(faultClass src = 3 ∧ role < 3) := by
    rintro ⟨three, low⟩
    rcases allowed with other | ⟨-, high⟩
    · exact other three
    · omega
  exact (if_neg unlocked).trans (if_neg maintained)

theorem State.clearAll_of_normal (normal : s.serviceMode = false) : s.clearAll = (C.locked, s) := if_pos (by simp [normal])

theorem State.clearAll_of_service (service : s.serviceMode = true) {ended : List Nat}
    (these : s.latchedList.filter (fun x => !s.isActive x) = ended) : s.clearAll = (0, ended.foldl (fun st x => st.unlatch x) s) := by
  rw [State.clearAll, these]
  exact if_neg (by simp [service])

/-! ## Settings (R441, R448) -/

theorem State.writeAutoClear_of_three (three : faultClass src = 3) : s.writeAutoClear src true = (C.range, s) :=
  if_pos ⟨rfl, by omega⟩

theorem State.writeAutoClear_off : s.writeAutoClear src false = (0, s.setN (O.fsrc_auto_clear (src + 1)) 0) := by
  simp [State.writeAutoClear, State.setF, State.setN, b01]

/-- A latched source whose condition has ended clears with the setting. -/
theorem State.writeAutoClear_of_ended (cls : faultClass src ≤ 2) (ended : s.nat (O.fsrc_state (src + 1)) = 2) :
    s.writeAutoClear src true = (0, (s.setN (O.fsrc_auto_clear (src + 1)) 1).unlatch src) := by
  have settable : ¬(true = true ∧ 2 < faultClass src) := by omega
  have still : true = true ∧ (s.setF (O.fsrc_auto_clear (src + 1)) true).nat (O.fsrc_state (src + 1)) = 2 := by
    refine ⟨rfl, ?_⟩
    rw [State.setF, State.nat_set, if_neg (by simp), ended]
  exact (if_neg settable).trans (congrArg (Prod.mk 0) (if_pos still))

theorem State.writeReactions_of_unfit {set : Nat}
    (unfit : set &&& s.nat (O.fsrc_offered (src + 1)) ≠ set ∨ faultClass src = 3 ∧ tempestKeeps set = false) :
    s.writeReactions src set = (C.range, s) :=
  if_pos (by simpa using unfit)

theorem State.writeReactions_of_offered {set : Nat} (offered : set &&& s.nat (O.fsrc_offered (src + 1)) = set)
    (other : faultClass src ≠ 3) : s.writeReactions src set = (0, (s.setN (O.fsrc_reactions (src + 1)) set).reviewSafe) :=
  if_neg (by simp [offered, other])

theorem State.rearm_eq : s.rearm = if s.tempest = true ∧ s.serviceMode = false then (C.locked, s)
    else (0, ((s.setN O.fault_first_valid 0).setN O.fault_overflow 0).setN O.fault_overflow_count 0) :=
  if_congr (by simp) rfl rfl

end

/-! ## Exclusion entries (Table 17.9) -/

theorem beNat_append_one (bs : Bytes) (x : Byte) : beNat (bs ++ [x]) = beNat bs * 256 + x.toNat := by
  simp [beNat]

theorem beNat_lt (bs : Bytes) : beNat bs < 256 ^ bs.length := by
  induction bs using List.reverseRecOn with
  | nil => simp [beNat]
  | append_singleton rest x ih =>
    have low := x.isLt
    rw [beNat_append_one, List.length_append, List.length_singleton, pow_succ]
    omega

theorem beNat_beBytes (n v : Nat) : beNat (beBytes n v) = v % 256 ^ n := by
  induction n generalizing v with
  | zero => simp [beBytes, beNat, Nat.mod_one]
  | succ n ih =>
    rw [beBytes, beNat_append_one, ih, pow_succ', Nat.mod_mul, BitVec.toNat_ofNat]
    ring

theorem field_lt (bs : Bytes) (o n : Nat) : field bs o n < 256 ^ n := by
  have short : (slice bs o n).length ≤ n := by
    rw [slice, List.length_take]
    omega
  exact (beNat_lt _).trans_le (Nat.pow_le_pow_right (by decide) short)

theorem wordsOf_nil (n f : Nat) : wordsOf n f [] = [] := by
  have none : ([] : Bytes).length < n ∨ n = 0 := by
    rw [List.length_nil]
    omega
  cases f with
  | zero => rfl
  | succ f => rw [wordsOf, if_pos (by simpa using none)]

/-- Fuel for every byte is enough. -/
theorem wordsOf_fuel {n f g : Nat} {bs : Bytes} (hf : bs.length ≤ f) (hg : bs.length ≤ g) : wordsOf n f bs = wordsOf n g bs := by
  induction f generalizing bs g with
  | zero => rw [List.length_eq_zero_iff.1 (Nat.le_zero.1 hf), wordsOf_nil, wordsOf_nil]
  | succ f ih =>
    cases g with
    | zero => rw [List.length_eq_zero_iff.1 (Nat.le_zero.1 hg), wordsOf_nil, wordsOf_nil]
    | succ g =>
      rw [wordsOf, wordsOf]
      split
      · rfl
      · next whole =>
        have cut : ¬(bs.length < n ∨ n = 0) := by simpa using whole
        have rest := List.length_drop (i := n) (l := bs)
        rw [ih (by omega) (by omega : (bs.drop n).length ≤ g)]

theorem records_append {n : Nat} {a : Bytes} (bs : Bytes) (one : a.length = n) (some : n ≠ 0) : records n (a ++ bs) = a :: records n bs := by
  obtain ⟨m, hm⟩ := Nat.exists_eq_succ_of_ne_zero some
  have length : (a ++ bs).length = bs.length + m + 1 := by
    rw [List.length_append]
    omega
  have whole : ¬((a ++ bs).length < n ∨ n = 0) := by omega
  rw [records, length, wordsOf, if_neg (by simpa using whole), List.take_left' one, List.drop_left' one, records,
    wordsOf_fuel (by omega) le_rfl]

theorem length_exclusionEntry (kind unit : Nat) : (exclusionEntry kind unit).length = 8 := rfl

theorem exclusionEntry_fields (kind unit : Nat) : field (exclusionEntry kind unit) 0 2 = kind % 65536 ∧
    field (exclusionEntry kind unit) 2 4 = unit % 4294967296 :=
  ⟨beNat_beBytes 2 kind, beNat_beBytes 4 unit⟩

section
variable {s : State} {kind unit : Nat}

theorem State.exclusions_bounded {e : Nat × Nat} (mem : e ∈ s.exclusions) : e.1 < 65536 ∧ e.2 < 4294967296 := by
  obtain ⟨r, -, rfl⟩ := List.mem_map.1 mem
  exact ⟨field_lt r 0 2, field_lt r 2 4⟩

theorem State.exclusions_setExclusions {l : List (Nat × Nat)} (bounded : ∀ e ∈ l, e.1 < 65536 ∧ e.2 < 4294967296) :
    (s.setExclusions l).exclusions = l := by
  rw [State.exclusions, State.setExclusions, State.setB, State.oct_set, if_pos rfl, Val.oct]
  induction l with
  | nil => rfl
  | cons e rest ih =>
    obtain ⟨kinds, units⟩ := bounded e List.mem_cons_self
    obtain ⟨kind, unit⟩ := exclusionEntry_fields e.1 e.2
    rw [List.flatMap_cons, records_append _ (length_exclusionEntry ..) (by decide), List.map_cons,
      ih fun x mem => bounded x (List.mem_cons_of_mem e mem), kind, unit, Nat.mod_eq_of_lt kinds, Nat.mod_eq_of_lt units]

theorem State.exclusions_markUnit (out : Bool) : (s.markUnit kind unit out).exclusions = s.exclusions := by
  have kept : (s.markUnit kind unit out).oct O.fault_exclusions = s.oct O.fault_exclusions := by
    unfold State.markUnit
    split
    · rw [State.setN, State.oct_set, if_neg (by simp), State.setN, State.oct_set, if_neg (by simp)]
    · rw [State.setN, State.oct_set, if_neg (by simp)]
    · rw [State.setF, State.oct_set, if_neg (by simp)]
    · rfl
  rw [State.exclusions, kept, State.exclusions]

theorem State.exclusions_include : (s.include kind unit).exclusions.contains (kind, unit) = false := by
  have left : (s.include kind unit).exclusions = s.exclusions.filter (fun e => e ≠ (kind, unit)) := by
    rw [State.include, State.exclusions_markUnit,
      State.exclusions_setExclusions fun e mem => State.exclusions_bounded (List.mem_of_mem_filter mem)]
  rw [left]
  simp

/-! ## Inclusions and injections (R456, R459) -/

theorem State.includeUnit_of_entry {entry : Bytes} (length : entry.length = 8) (reserved : field entry 6 2 = 0)
    (exist : unitExists (field entry 0 2) (field entry 2 4) = true) : s.includeUnit entry =
      if s.exclusions.contains (field entry 0 2, field entry 2 4) = false then (0, s)
      else if (excludingSources (field entry 0 2)).any s.isLatched then (C.busy, s)
      else (0, (s.include (field entry 0 2) (field entry 2 4)).retryLost) := by
  have fits : ¬(entry.length ≠ 8 ∨ field entry 6 2 ≠ 0 ∨ (!unitExists (field entry 0 2) (field entry 2 4)) = true) := by
    simp [length, reserved, exist]
  exact (if_neg fits).trans (if_congr (by simp) rfl rfl)

theorem State.includeUnit_of_other_length {entry : Bytes} (other : entry.length ≠ 8) : s.includeUnit entry = (C.range, s) :=
  if_pos (.inl other)

theorem State.armInjection_of_other_mode (other : s.mode ≠ 2) : s.armInjection = (C.locked, s) := if_pos other

section
variable (service : s.mode = 2)
include service

theorem State.armInjection_of_armed (armed : s.faults.inject.isSome = true) : s.armInjection = (C.busy, s) :=
  (if_neg (not_not.2 service)).trans (if_pos armed)

variable (free : s.faults.inject = none)
include free

theorem State.armInjection_of_missing (missing : s.injectable (s.nat O.fault_inject_target) (s.nat O.fault_inject_unit) = false) :
    s.armInjection = (C.range, s) :=
  (if_neg (not_not.2 service)).trans ((if_neg (by simp [free])).trans (if_pos (by simp [missing])))

theorem State.armInjection_of_unit (exist : s.injectable (s.nat O.fault_inject_target) (s.nat O.fault_inject_unit) = true)
    (unforced : s.nat O.fault_inject_target ≠ 6) : s.armInjection = (0, { (s.setN O.fault_inject_arm 1).setN O.fault_inject_state 1 with
      faults := { s.faults with
        inject := some (s.nat O.fault_inject_target, s.nat O.fault_inject_unit, s.nat O.fault_inject_symbols) } }) :=
  (if_neg (not_not.2 service)).trans ((if_neg (by simp [free])).trans ((if_neg (by simp [exist])).trans (if_neg unforced)))

end

end

/-- Settles O21: each object's write by the lemma about its rule. The codes BUSY of a second arm, RANGE of a unit that does not exist
and LOCKED of clear_all in normal service are log entry 65. -/
theorem faultWriteRules : Obligations.FaultWriteRules := by
  unfold Obligations.FaultWriteRules
  refine ⟨⟨?clearNormal, ?clearLow, ?clearAllowed, ?allNormal, ?allNone, ?allOne, ?autoThree, ?autoOff, ?autoOn, ?unfit, ?offered, ?rearm⟩,
    ?includes, ?length, fun b kind unit => State.exclusions_include, ?mode, ?armed, ?missing, ?arms, ?disarms⟩
  case clearNormal =>
    intro b w src three normal
    rw [b.familyWrite_fsrc_clear w, State.clearFault_of_normal three normal]
  case clearLow =>
    intro b w src three service low
    rw [b.familyWrite_fsrc_clear w, State.clearFault_of_low three service low]
  case clearAllowed =>
    intro b w src allowed
    rw [b.familyWrite_fsrc_clear w, State.clearFault_of_allowed allowed]
  case allNormal =>
    intro b w normal
    rw [b.familyWrite_fault_clear_all w, State.clearAll_of_normal normal]
  case allNone =>
    intro b w service none
    rw [b.familyWrite_fault_clear_all w, State.clearAll_of_service service none, List.foldl_nil]
  case allOne =>
    intro b w x service one
    rw [b.familyWrite_fault_clear_all w, State.clearAll_of_service service one, List.foldl_cons, List.foldl_nil]
  case autoThree =>
    intro b w src three
    exact (b.familyWrite_fsrc_auto_clear w src 1).trans (congrArg some (State.writeAutoClear_of_three three))
  case autoOff =>
    intro b w src
    exact (b.familyWrite_fsrc_auto_clear w src 0).trans (congrArg some State.writeAutoClear_off)
  case autoOn =>
    intro b w src cls ended
    exact (b.familyWrite_fsrc_auto_clear w src 1).trans (congrArg some (State.writeAutoClear_of_ended cls ended))
  case unfit =>
    intro b w src set unfit
    rw [b.familyWrite_fsrc_reactions w, State.writeReactions_of_unfit unfit]
  case offered =>
    intro b w src set offered other
    rw [b.familyWrite_fsrc_reactions w, State.writeReactions_of_offered offered other]
  case rearm =>
    intro b w
    rw [b.familyWrite_fault_rearm w, State.rearm_eq]
  case includes =>
    rintro b w _ _ entry length reserved rfl rfl exist
    rw [b.familyWrite_fault_include w, State.includeUnit_of_entry length reserved exist]
  case length =>
    intro b w entry other
    rw [b.familyWrite_fault_include w, State.includeUnit_of_other_length other]
  case mode =>
    intro b w other
    exact (b.familyWrite_fault_inject_arm w 1).trans (congrArg some (State.armInjection_of_other_mode other))
  case armed =>
    intro b w service armed
    exact (b.familyWrite_fault_inject_arm w 1).trans (congrArg some (State.armInjection_of_armed service armed))
  case missing =>
    rintro b w _ _ service free rfl rfl missing
    exact (b.familyWrite_fault_inject_arm w 1).trans (congrArg some (State.armInjection_of_missing service free missing))
  case arms =>
    rintro b w _ _ service free rfl rfl exist unforced
    exact (b.familyWrite_fault_inject_arm w 1).trans (congrArg some (State.armInjection_of_unit service free exist unforced))
  case disarms => exact fun b w => b.familyWrite_fault_inject_arm w 0

end Sys2Proof.Machine
end

section
/-! Hand-overs as they are asked for and aborted (R433, R435), and what keeps a chip's role in its pair: faults and their reactions do,
while no standby can take over from it (R429). -/

namespace Sys2Proof.Machine

/-! ## Writes of a hand-over (R433, R435) -/

section
variable {s : State} (w : Writer)

theorem State.familyWrite_twin (sub : Nat) (v : Val) : s.familyWrite w [] ⟨0x1300, 0, sub⟩ v = s.writeTwin w ⟨0x1300, 0, sub⟩ v := by
  simp [State.familyWrite, State.lullRefuses]

theorem State.familyWrite_twin_handover : s.familyWrite w [] O.twin_handover (.n 1) =
    some (s.askHandover (if w.slot = 0 then (if s.fw.act.isSome then 6 else 5) else 4) false) :=
  s.familyWrite_twin w ..

theorem State.familyWrite_twin_handover_abort : s.familyWrite w [] O.twin_handover_abort (.n 1) = some s.abortHandover :=
  s.familyWrite_twin w ..

end

section
variable {s : State} {cause : Nat} {restart : Bool}

theorem State.askHandover_of_other (other : s.primary = false) : s.askHandover cause restart = (C.locked, s) := if_pos (by simp [other])

section
variable (primary : s.primary = true)
include primary

theorem State.askHandover_of_running (running : s.nat O.twin_handover_state = 1 ∨ s.nat O.twin_handover_state = 2) :
    s.askHandover cause restart = (C.busy, s) :=
  (if_neg (by simp [primary])).trans (if_pos running)

variable (ready : s.nat O.twin_handover_state ≠ 1) (ready' : s.nat O.twin_handover_state ≠ 2)
include ready ready'

theorem State.askHandover_of_stale (stale : s.nat O.twin_mirror_state = 3 ∨ s.nat O.twin_mirror_state = 4) :
    s.askHandover cause restart = (C.stale, s) :=
  (if_neg (by simp [primary])).trans ((if_neg (not_or.2 ⟨ready, ready'⟩)).trans (if_pos stale))

variable (current : s.nat O.twin_mirror_state ≠ 3) (current' : s.nat O.twin_mirror_state ≠ 4)
include current current'

theorem State.askHandover_of_unfit (unfit : s.twinFit = false) : s.askHandover cause restart = (C.notReady, s) :=
  (if_neg (by simp [primary])).trans ((if_neg (not_or.2 ⟨ready, ready'⟩)).trans ((if_neg (not_or.2 ⟨current, current'⟩)).trans
    (if_pos (by simp [unfit]))))

theorem State.askHandover_of_fit (fit : s.twinFit = true) : s.askHandover cause restart = (0, { s.setN O.twin_handover_state 1 with
    twin := { s.twin with hand := some ⟨cause, s.commitPoint.1, s.commitPoint.2, restart⟩ } }) :=
  (if_neg (by simp [primary])).trans ((if_neg (not_or.2 ⟨ready, ready'⟩)).trans ((if_neg (not_or.2 ⟨current, current'⟩)).trans
    (if_neg (by simp [fit]))))

end

theorem State.abortHandover_of_asked (asked : s.nat O.twin_handover_state = 1) :
    s.abortHandover = (0, { s.setN O.twin_handover_state 4 with twin := { s.twin with hand := none } }) := by
  simp only [State.abortHandover, asked]

theorem State.abortHandover_of_committed (committed : s.nat O.twin_handover_state = 2 ∨ s.nat O.twin_handover_state = 3) :
    s.abortHandover = (C.tooLate, s) := by
  rcases committed with committed | done
  · simp only [State.abortHandover, committed]
  · simp only [State.abortHandover, done]

end

/-- Settles O22: the refusals in the order of R433, and an abort by the state of the hand-over. -/
theorem handoverWriteRules : Obligations.HandoverWriteRules := by
  unfold Obligations.HandoverWriteRules
  refine ⟨fun b w other => ?_, fun b w primary running => ?_, fun b w primary ready ready' stale => ?_,
    fun b w primary ready ready' current current' unfit => ?_, fun b w session primary ready ready' current current' fit => ?_,
    fun b w asked => ?_, fun b w committed => ?_⟩
  · rw [b.familyWrite_twin_handover w, State.askHandover_of_other other]
  · rw [b.familyWrite_twin_handover w, State.askHandover_of_running primary running]
  · rw [b.familyWrite_twin_handover w, State.askHandover_of_stale primary ready ready' stale]
  · rw [b.familyWrite_twin_handover w, State.askHandover_of_unfit primary ready ready' current current' unfit]
  · rw [b.familyWrite_twin_handover w, State.askHandover_of_fit primary ready ready' current current' fit, if_neg (by omega)]
  · rw [b.familyWrite_twin_handover_abort w, State.abortHandover_of_asked asked]
  · rw [b.familyWrite_twin_handover_abort w, State.abortHandover_of_committed committed]

/-! ## What keeps a chip's role -/

/-- The objects of the pair: the chip's role, and the chip-wide objects of the twin. -/
def pairKey (k : Key) : Bool := k == O.id_pair_role || (k.fam == 0x1300 && k.inst == 0)

/-- A state has the account of the twin and the objects of the pair of another. -/
def RoleKept (z s : State) : Prop := s.twin = z.twin ∧ ∀ k, pairKey k = true → s.get k = z.get k

namespace RoleKept

variable {z s : State}

theorem refl (z : State) : RoleKept z z := ⟨rfl, fun _ _ => rfl⟩

theorem set (h : RoleKept z s) {k : Key} (other : pairKey k = false) (v : Val) : RoleKept z (s.set k v) := by
  refine ⟨h.1, fun k' pair => ?_⟩
  have apart : k' ≠ k := by
    rintro rfl
    exact Bool.false_ne_true (other.symm.trans pair)
  rw [State.get_set, if_neg apart]
  exact h.2 k' pair

theorem nat (h : RoleKept z s) {k : Key} (pair : pairKey k = true) : s.nat k = z.nat k := by
  rw [State.nat, h.2 k pair, State.nat]

/-- A change beside the objects and the account of the twin. -/
theorem beside {u : State} (h : RoleKept z s) (twin : u.twin = s.twin) (get : ∀ k, u.get k = s.get k) : RoleKept z u :=
  ⟨twin.trans h.1, fun k pair => (get k).trans (h.2 k pair)⟩

theorem setFwFaults (h : RoleKept z s) (w : Firmware) (f : Faults) : RoleKept z { s with fw := w, faults := f } :=
  h.beside rfl fun _ => rfl

theorem foldl {α : Type} (h : RoleKept z s) (f : State → α → State) (l : List α) (step : ∀ u x, RoleKept z u → RoleKept z (f u x)) :
    RoleKept z (l.foldl f s) :=
  List.foldlRecOn _ _ h fun u kept x _ => step u x kept

theorem ite {u : State} {c : Prop} [Decidable c] (h : RoleKept z s) (h' : RoleKept z u) : RoleKept z (if c then s else u) := by
  split
  · exact h
  · exact h'

theorem twinTakes (h : RoleKept z s) : s.twinTakes = z.twinTakes := by
  have role : s.nat O.id_pair_role = z.nat O.id_pair_role := h.nat rfl
  have link : s.nat O.twin_twin_link = z.nat O.twin_twin_link := h.nat rfl
  rw [State.twinTakes, State.primary, State.linkIsUp, State.bit, role, link, h.1]
  rfl

/-! ## Safe state and reactions (R442, R450) -/

theorem dropSide (h : RoleKept z s) : RoleKept z s.dropSide :=
  h.foldl _ _ fun _ _ kept => kept.set (by simp [pairKey]) _

theorem claimSide (h : RoleKept z s) : RoleKept z s.claimSide :=
  (h.foldl _ _ fun _ _ kept => kept.set (by simp [pairKey]) _).ite h

theorem tellTwin (h : RoleKept z s) (n : Notice) : RoleKept z (s.tellTwin n) := h.ite (h.beside rfl fun _ => rfl)

theorem leaveSafe (h : RoleKept z s) : RoleKept z s.leaveSafe := by
  have left : RoleKept z (s.setF O.fault_safe_state false) := h.set rfl _
  have claimed : RoleKept z (if (s.setF O.fault_safe_state false).standby then s.setF O.fault_safe_state false
      else (s.setF O.fault_safe_state false).claimSide) := left.ite left.claimSide
  unfold State.leaveSafe
  split
  · exact claimed.beside rfl fun _ => rfl
  · exact h

theorem reviewSafe (h : RoleKept z s) : RoleKept z s.reviewSafe := h.ite h.leaveSafe

theorem unlatch (h : RoleKept z s) (src : Nat) : RoleKept z (s.unlatch src) := (h.set (by simp [pairKey]) _).reviewSafe

theorem endFault (h : RoleKept z s) (src : Nat) : RoleKept z (s.endFault src) := by
  have ended {u : State} (kept : RoleKept z u) : RoleKept z (if u.isActive src then
      if u.flag (O.fsrc_auto_clear (src + 1)) && faultClass src ≤ 2 then u.unlatch src else u.setN (O.fsrc_state (src + 1)) 2 else u) :=
    ((kept.unlatch src).ite (kept.set (by simp [pairKey]) _)).ite kept
  refine ended ?_
  split
  · exact h
  · exact h.beside rfl fun _ => rfl

theorem flipSlot (h : RoleKept z s) : RoleKept z s.flipSlot := by
  unfold State.flipSlot
  exact (((h.set (by simp [pairKey]) _).set (by simp [pairKey]) _).set rfl _).set rfl _

theorem failProbation (h : RoleKept z s) : RoleKept z s.failProbation := by
  have failed : RoleKept z ((s.flipSlot.setN O.fw_image_state 0).setN O.fw_activation_state 6) := (h.flipSlot.set rfl _).set rfl _
  unfold State.failProbation
  exact failed.setFwFaults ..

theorem captureFirst (h : RoleKept z s) (fr : Bytes) : RoleKept z (s.captureFirst fr) :=
  ((h.set rfl _).set rfl _).ite ((h.set rfl _).set rfl _)

section
variable (h : RoleKept z s) (alone : z.twinTakes = false)
include h alone

theorem enterSafe : RoleKept z s.enterSafe := by
  have marked : RoleKept z ((s.setF O.fault_safe_state true).count O.fault_safe_entries) := (h.set rfl _).set rfl _
  have stays : ¬s.twinTakes = true := by simp [h.twinTakes, alone]
  unfold State.enterSafe
  dsimp only
  rw [if_neg stays]
  exact h.ite (marked.dropSide.tellTwin _)

theorem askRestart (cause : Nat) : RoleKept z (s.askRestart cause) :=
  (h.enterSafe alone).ite ((h.enterSafe alone).beside rfl fun _ => rfl)

theorem react (src unit : Nat) (fr : Bytes) : RoleKept z (s.react src unit fr) := by
  have safe : RoleKept z (if s.bringsSafe src then s.enterSafe else s) := (h.enterSafe alone).ite h
  have logged {u : State} (kept : RoleKept z u) (c : Bool) : RoleKept z (if c then u.appendLog fr else u) :=
    RoleKept.ite ((kept.set rfl _).set rfl _) kept
  have noted {u : State} (kept : RoleKept z u) (c : Bool) :
      RoleKept z (if c then { u with faults := { u.faults with resets := u.faults.resets ++ [(src, unit)] } } else u) := by
    split
    · exact kept.beside rfl fun _ => rfl
    · exact kept
  exact ((noted (logged safe _) _).askRestart alone 2).ite (noted (logged safe _) _)

theorem latch (src unit detail : Nat) : RoleKept z (s.latch src unit detail) := by
  have active : RoleKept z ((s.count (O.fsrc_count (src + 1))).setN (O.fsrc_state (src + 1)) 1) :=
    (h.set (by simp [pairKey]) _).set (by simp [pairKey]) _
  have noted : RoleKept z ((((s.count (O.fsrc_count (src + 1))).setN (O.fsrc_state (src + 1)) 1).setN (O.fsrc_last_time (src + 1))
      (s.tbNow 0)).setN (O.fsrc_last_context (src + 1)) (contextWord unit detail)) :=
    (active.set (by simp [pairKey]) _).set (by simp [pairKey]) _
  have reacted (fr fr' : Bytes) := (noted.captureFirst fr).react alone src unit fr'
  unfold State.latch
  dsimp only
  split
  · exact h
  · split
    · exact h.beside rfl fun _ => rfl
    · exact active.ite (((reacted ..).failProbation.askRestart alone 4).ite (reacted ..))

theorem strike (src unit detail : Nat) : RoleKept z (s.strike src unit detail) := (h.latch alone src unit detail).endFault src

theorem follow (src unit detail : Nat) (cond : Bool) : RoleKept z (s.follow src unit detail cond) :=
  (h.ite (h.latch alone src unit detail)).ite (h.endFault src)

theorem followShared (src unit detail : Nat) (cond others : Bool) : RoleKept z (s.followShared src unit detail cond others) :=
  (h.follow alone src unit detail true).ite (h.ite (h.endFault src))

end

end RoleKept

end Sys2Proof.Machine
end

section
/-! The events of the twin link and of the mirror (R412, R413, R415, R417 to R420). -/

namespace Sys2Proof.Machine

/-! ## The arms -/

section
variable (s : State) (t n seq : Nat)

theorem exec_twinHandshake (h : TwinHello) : exec (.twinHandshake t h) s = .next (s.closed ((s.advance t).handshake h)) := rfl

theorem exec_twinHandshakeTimeout : exec (.twinHandshakeTimeout t) s = .next (s.closed (s.advance t).handshakeTimeout) := rfl

theorem exec_twinHeartbeat : exec (.twinHeartbeat t) s = .next (s.closed (s.advance t).twinBeat) := rfl

theorem exec_twinLaneDown : exec (.twinLaneDown t n) s = .next (s.closed ((s.advance t).twinLaneDown n)) := rfl

theorem exec_twinLaneUp : exec (.twinLaneUp t n) s = .next (s.closed ((s.advance t).twinLaneUp n)) := rfl

theorem exec_twinLinkDown : exec (.twinLinkDown t) s = .next (s.closed (s.advance t).twinLinkDown) := rfl

theorem exec_mirrorItemRx (i : MirrorItem) :
    exec (.mirrorItemRx t seq i) s = .next (s.closed ((s.advance t).mirrorItem seq i).reviewDones) := rfl

theorem exec_catchUpComplete : exec (.catchUpComplete t) s = .next (s.closed (s.advance t).catchUpDone) := rfl

theorem exec_mirrorAck : exec (.mirrorAck t seq) s = .next (s.closed ((s.advance t).mirrorAcked seq)) := rfl

end

/-! ## The handshake (R412, R413) -/

section
variable {s : State}

theorem State.handshake_of_service (service : s.serviceMode = true) (h : TwinHello) : s.handshake h = s := if_pos service

theorem State.resumeActivation_of_none (none : s.fw.act = Option.none) : s.resumeActivation = s := by
  rw [State.resumeActivation, none]

/-- A chip that is not at Ready stands down before a twin that is, and is no standby. -/
theorem State.handshake_of_starting {l : State} {h : TwinHello} (normal : s.serviceMode = false) (ready : h.ready = true) (role : h.role = 0)
    (trained : l = ({ s with twin := { s.twin with hello := some h, probe := 0 } } : State).linkTrained h) (starting : l.ready = false)
    (epoch : h.epoch < l.nat O.twin_role_epoch) (idle : ((l.standDown false).rejoin h).fw.act = none) :
    s.handshake h = (l.standDown false).rejoin h := by
  have own : (decide (l.nat O.twin_role_epoch < h.epoch) || (l.nat O.twin_role_epoch == h.epoch && !l.lowerSerial)) = false := by
    have later : ¬l.nat O.twin_role_epoch < h.epoch := by omega
    have other : l.nat O.twin_role_epoch ≠ h.epoch := by omega
    simp [later, other]
  have serves : (h.ready && h.role != 1) = true := by simp [ready, role]
  rw [State.handshake, normal, if_neg Bool.false_ne_true, ← trained]
  dsimp only
  rw [own, if_neg Bool.false_ne_true, starting, serves, Bool.false_and, Bool.false_and, if_neg Bool.false_ne_true, if_neg Bool.false_ne_true,
    if_pos rfl]
  exact State.resumeActivation_of_none idle

theorem State.handshakeTimeout_of_trained (up : s.linkIsUp = true) : s.handshakeTimeout = s := if_pos up

theorem State.handshakeTimeout_of_unpaired (down : s.linkIsUp = false) (alone : s.planEntry (s.oct O.id_serial_number) = none)
    (unpaired : s.nat O.id_pair_role = 2) :
    s.handshakeTimeout = ((s.setN O.twin_twin_state 0).setN O.twin_mirror_state 0).showLevels := by
  simp [State.handshakeTimeout, down, alone, unpaired]

/-! ## The link (R417, R418) -/

theorem State.twinBeat_of_trained (up : s.power.resetN = true) (free : s.power.tap = false) (trained : s.nat O.twin_twin_link % 16 ≠ 0) :
    s.twinBeat = s.tellTwin .twinHeartbeat :=
  if_pos ⟨up, by simp [free], trained⟩

theorem State.twinBeat_of_down (down : s.nat O.twin_twin_link % 16 = 0) : s.twinBeat = s := if_neg fun up => up.2.2 down

theorem State.twinLaneDown_of_up {n : Nat} (lane : n < 4) (up : s.bit O.twin_twin_link n = true) :
    s.twinLaneDown n = (s.setBit O.twin_twin_link n false).latch F.twinLaneDown n 0 :=
  if_neg (by simp [lane, up])

theorem State.twinLaneUp_of_lane {n : Nat} (lane : n < 4) : s.twinLaneUp n =
    if (s.setBit O.twin_twin_link n true).nat O.twin_twin_link % 16 = 15 then (s.setBit O.twin_twin_link n true).endFault F.twinLaneDown
    else s.setBit O.twin_twin_link n true :=
  if_neg (not_le.2 lane)

theorem State.twinLinkDown_of_down (down : s.paired = false ∨ s.bit O.twin_twin_link 5 = true) : s.twinLinkDown = s :=
  if_pos (by simpa using down)

theorem RoleKept.both {z s : State} (h : RoleKept z s) (k : Key) (v : Val) : RoleKept (z.set k v) (s.set k v) := by
  refine ⟨h.1, fun k' pair => ?_⟩
  rw [State.get_set, State.get_set, h.2 k' pair]

/-- The standby's report goes with the link, and a standby sends a mesh probe where a mesh path is up. -/
def State.reportLost (s : State) : State :=
  let s' : State := { s with twin := { s.twin with report := none, probe := 0 } }
  if s'.standby && s'.meshToTwin then
    ({ s' with twin := { s'.twin with probe := 1 } } : State).emit (.notice (twinOf s'.chipId) .probe)
  else s'

theorem State.reportLost_reads : (∀ k, s.reportLost.get k = s.get k) ∧ s.reportLost.twin.report = none := by
  unfold State.reportLost
  dsimp only
  split
  · exact ⟨fun _ => rfl, rfl⟩
  · exact ⟨fun _ => rfl, rfl⟩

/-- The mirror of `s` halts, shown in the objects of `z`. -/
def State.haltMirror (s z : State) : State :=
  (if s.nat O.twin_mirror_state = 1 ∨ s.nat O.twin_mirror_state = 2 then z.setN O.twin_mirror_state 3 else z).setN O.twin_twin_state 5

theorem RoleKept.haltMirror {z u : State} (h : RoleKept z u) (s : State) : RoleKept (s.haltMirror z) (s.haltMirror u) := by
  unfold State.haltMirror
  split
  · exact (h.both ..).both ..
  · exact h.both ..

/-- The objects of the pair as the loss of the link leaves them. -/
def State.linkLost (s : State) : State := s.haltMirror (s.setN O.twin_twin_link 32)

theorem State.linkLost_reads : s.linkLost.nat O.twin_twin_link = 32 ∧ s.linkLost.nat O.twin_twin_state = 5 ∧
    (s.nat O.twin_mirror_state = 1 ∨ s.nat O.twin_mirror_state = 2 → s.linkLost.nat O.twin_mirror_state = 3) ∧
    s.linkLost.nat O.id_pair_role = s.nat O.id_pair_role := by
  unfold State.linkLost State.haltMirror
  refine ⟨?_, State.nat_setN_same .., fun mirrored => ?_, ?_⟩
  · rw [State.nat_setN_other _ _ (by simp)]
    split
    · rw [State.nat_setN_other _ _ (by simp), State.nat_setN_same]
    · exact State.nat_setN_same ..
  · rw [State.nat_setN_other _ _ (by simp), if_pos mirrored, State.nat_setN_same]
  · rw [State.nat_setN_other _ _ (by simp)]
    split
    · rw [State.nat_setN_other _ _ (by simp), State.nat_setN_other _ _ (by simp)]
    · exact State.nat_setN_other _ _ (by simp)

/-- No reaction to the loss of the link takes the chip's role: over a link that is down its twin cannot take over. -/
theorem State.twinLinkDown_of_up (paired : s.paired = true) (up : s.bit O.twin_twin_link 5 = false) :
    ∃ m, RoleKept s.linkLost m ∧ (∀ k, s.twinLinkDown.get k = m.get k) ∧ s.twinLinkDown.twin.report = none := by
  have alone : (s.setN O.twin_twin_link 32).twinTakes = false := by
    simp [State.twinTakes, State.linkIsUp]
  have raised : RoleKept (s.setN O.twin_twin_link 32) ((s.setN O.twin_twin_link 32).follow F.twinLinkDown 0 0 true) :=
    (RoleKept.refl _).follow alone ..
  have mirror : ((s.setN O.twin_twin_link 32).follow F.twinLinkDown 0 0 true).nat O.twin_mirror_state = s.nat O.twin_mirror_state := by
    rw [raised.nat rfl, State.nat_setN_other _ _ (by simp)]
  have lost : ¬((!s.paired) = true ∨ s.bit O.twin_twin_link 5 = true) := by simp [paired, up]
  obtain ⟨get, report⟩ := State.reportLost_reads
    (s := (s.haltMirror ((s.setN O.twin_twin_link 32).follow F.twinLinkDown 0 0 true)).endFault F.catchingUp)
  rw [State.twinLinkDown, if_neg lost]
  dsimp only
  rw [mirror]
  exact ⟨_, (raised.haltMirror s).endFault F.catchingUp, get, report⟩

/-! ## The mirror (R415, R419, R420) -/

theorem State.mirrorItem_of_standby {seq : Nat} (i : MirrorItem) (role : s.primary = false) (standby : s.standby = true)
    (up : s.linkIsUp = true) (current : s.nat O.twin_mirror_state = 1) (some : seq ≠ 0) :
    s.mirrorItem seq i = (s.followItem i).emit (.mirrorAck seq) := by
  rw [State.mirrorItem, role, if_neg Bool.false_ne_true, if_pos ⟨standby, up, .inl current⟩]
  exact if_neg some

theorem State.mirrorItem_of_report {seq : Nat} (ready safe : Bool) (fs : List Finding) (primary : s.primary = true)
    (current : s.nat O.twin_mirror_state = 1) : s.mirrorItem seq (.barometer ready safe fs) =
      { s with twin := { s.twin with report := some ⟨ready, safe, fs⟩ } } := by
  rw [State.mirrorItem, primary, if_pos rfl]
  simp [State.hearStandby, current]

theorem State.mirrorItem_of_unpaired {seq : Nat} (i : MirrorItem) (role : s.primary = false) (other : s.standby = false) :
    s.mirrorItem seq i = s := by
  rw [State.mirrorItem, role, if_neg Bool.false_ne_true]
  exact if_neg (by simp [other])

theorem State.catchUpDone_of_catching (catching : s.nat O.twin_mirror_state = 2) : s.catchUpDone =
    (((if s.standby then s.discardOwn else s).setN O.twin_mirror_state 1).setN O.twin_twin_state 4).endFault F.catchingUp :=
  if_neg (not_not.2 catching)

/-- The mirror's account after an acknowledgement. -/
def State.noteAck (s : State) (seq : Nat) : State :=
  { s with twin := { s.twin with
    acked := max s.twin.acked (min seq (s.twin.seq - 1)),
    sent := s.twin.sent.filter (fun e => seq < e.1),
    lags := s.twin.lags.filter (fun e => s.now < e.1 + nsPerSec) ++
      (s.twin.sent.filter (fun e => e.1 ≤ seq)).map (fun e => (s.now, s.now - e.2)) } }

theorem State.releaseHeld_of_none (none : s.proto.held = []) (acked : Nat) :
    s.releaseHeld acked = { s with proto := { s.proto with held := [] } } := by
  rw [State.releaseHeld, none]
  rfl

/-- With no reply that waits, outside the wait for Lull, an acknowledgement is noted and nothing follows. -/
theorem State.mirrorAcked_of_none {seq : Nat} (awake : s.nat O.pow_lull_state ≠ 1) (none : s.proto.held = []) :
    s.mirrorAcked seq = { s.noteAck seq with proto := { s.proto with held := [] } } := by
  have released : (s.noteAck seq).releaseHeld seq = { s.noteAck seq with proto := { s.proto with held := [] } } :=
    State.releaseHeld_of_none (s := s.noteAck seq) none seq
  have waits : ¬(({ s.noteAck seq with proto := { s.proto with held := [] } } : State).nat O.pow_lull_state = 1 ∧
      ({ s.noteAck seq with proto := { s.proto with held := [] } } : State).twin.sent.isEmpty = true) := fun lull => awake lull.1
  unfold State.mirrorAcked
  exact (congrArg (fun u : State => if u.nat O.pow_lull_state = 1 ∧ u.twin.sent.isEmpty then u.enterLull else u) released).trans (if_neg waits)

end

/-- Settles O23: each event by the lemma about its operation on the state of its arrival. -/
theorem twinLinkAndMirrorEventsComplete : Obligations.TwinLinkAndMirrorEventsComplete := by
  unfold Obligations.TwinLinkAndMirrorEventsComplete
  refine ⟨⟨?service, ?starting, ?trained, ?unpaired, ?beat, ?still, ?laneDown, ?laneUp, ?allUp, ?down, ?lost⟩,
    ?follows, ?report, ?foreign, ?primary, ?standby, ?acked⟩
  case service =>
    rintro s _ t h rfl service
    rw [exec_twinHandshake, State.handshake_of_service service]
  case starting =>
    rintro s _ l t h rfl normal ready role trained starting epoch idle
    rw [exec_twinHandshake, State.handshake_of_starting normal ready role trained starting epoch idle]
  case trained =>
    rintro s _ t rfl up
    rw [exec_twinHandshakeTimeout, State.handshakeTimeout_of_trained up]
  case unpaired =>
    rintro s _ t rfl down alone unpaired
    rw [exec_twinHandshakeTimeout, State.handshakeTimeout_of_unpaired down alone unpaired]
  case beat =>
    rintro s _ t rfl up free trained
    rw [exec_twinHeartbeat, State.twinBeat_of_trained up free trained]
  case still =>
    rintro s _ t rfl down
    rw [exec_twinHeartbeat, State.twinBeat_of_down down]
  case laneDown =>
    rintro s _ t n rfl lane up
    rw [exec_twinLaneDown, State.twinLaneDown_of_up lane up]
  case laneUp =>
    rintro s _ t n rfl lane some
    rw [exec_twinLaneUp, State.twinLaneUp_of_lane lane, if_neg some]
  case allUp =>
    rintro s _ t n rfl lane all
    rw [exec_twinLaneUp, State.twinLaneUp_of_lane lane, if_pos all]
  case down =>
    rintro s _ t rfl down
    rw [exec_twinLinkDown, State.twinLinkDown_of_down down]
  case lost =>
    rintro s _ t rfl paired up
    obtain ⟨m, kept, same, report⟩ := State.twinLinkDown_of_up paired up
    have reads {k : Key} (pair : pairKey k = true) : (s.advance t).twinLinkDown.nat k = (s.advance t).linkLost.nat k := by
      rw [State.nat, same, ← State.nat, kept.nat pair]
    obtain ⟨link, state, mirror, role⟩ := (s.advance t).linkLost_reads
    exact ⟨_, exec_twinLinkDown s t, (reads rfl).trans link, (reads rfl).trans state, report,
      fun mirrored => (reads rfl).trans (mirror mirrored), (reads rfl).trans role⟩
  case follows =>
    rintro s _ t seq i rfl role standby up current some
    rw [exec_mirrorItemRx, State.mirrorItem_of_standby i role standby up current some]
  case report =>
    rintro s _ t seq ready safe fs rfl primary current
    rw [exec_mirrorItemRx, State.mirrorItem_of_report ready safe fs primary current]
  case foreign =>
    rintro s _ t seq i rfl role other
    rw [exec_mirrorItemRx, State.mirrorItem_of_unpaired i role other]
  case primary =>
    rintro s _ t rfl catching other
    rw [exec_catchUpComplete, State.catchUpDone_of_catching catching, other, if_neg Bool.false_ne_true]
  case standby =>
    rintro s _ t rfl catching standby
    rw [exec_catchUpComplete, State.catchUpDone_of_catching catching, standby, if_pos rfl]
  case acked =>
    rintro s _ t seq rfl awake none
    exact ⟨_, (exec_mirrorAck s t seq).trans (congrArg _ (congrArg _ (State.mirrorAcked_of_none awake none))), rfl, rfl, fun _ => rfl⟩

end Sys2Proof.Machine
end

section
/-! The events of fail-over, of hand-overs and of the standby's comparisons and tests (R423 to R426, R429, R430, R434, R436). -/

namespace Sys2Proof.Machine

/-! ## The arms -/

section
variable (s : State) (t : Nat)

theorem exec_primaryDeath : exec (.primaryDeath t) s = .next (s.closed (s.advance t).primaryDeath) := rfl

theorem exec_safeStateNoticeRx : exec (.safeStateNoticeRx t) s = .next (s.closed (s.advance t).safeNotice) := rfl

theorem exec_powerFailNoticeRx : exec (.powerFailNoticeRx t) s = .next (s.closed (s.advance t).powerNotice) := rfl

theorem exec_pfWarnings (a b : Bool) : exec (.pfWarnings t a b) s = .next (s.closed ((s.advance t).powerWarnings a b)) := rfl

theorem exec_handoverCommit : exec (.handoverCommit t) s = .next (s.closed (s.advance t).commitHandover) := rfl

theorem exec_handoverDone : exec (.handoverDone t) s = .next (s.closed (s.advance t).handoverDone) := rfl

theorem exec_takeback : exec (.takeback t) s = .next (s.closed (s.advance t).takeback) := rfl

theorem exec_signatureCompare (f : SigFrame) : exec (.signatureCompare t f) s = .next (s.closed ((s.advance t).compareFrame f)) := rfl

theorem exec_backgroundBist (kind unit : Nat) (fail : Option Nat) :
    exec (.backgroundBist t kind unit fail) s = .next (s.closed ((s.advance t).bistRun kind unit fail)) := rfl

theorem exec_backgroundLoopback (l errors : Nat) :
    exec (.backgroundLoopback t l errors) s = .next (s.closed ((s.advance t).loopbackRun l errors)) := rfl

end

/-! ## Triggers of fail-over (R429, R430) -/

section
variable {s : State}

theorem State.primaryDeath_of_alone (may : s.mayTakeOver = true) (down : s.bit O.twin_twin_link 5 = true)
    (unheard : s.twin.probe ≠ 2 ∨ s.meshToTwin = false) : s.primaryDeath = s.failOver 1 := by
  have gone : (s.twin.probe != 2 || !s.meshToTwin) = true := by simpa using unheard
  exact if_pos (by rw [may, down, gone]; rfl)

theorem State.triggers_of_unable (unable : s.mayTakeOver = false) : s.primaryDeath = s ∧ s.safeNotice = s :=
  ⟨if_neg (by simp [unable]), if_neg (by simp [unable])⟩

theorem State.powerWarnings_of_none :
    s.powerWarnings false false = (s.setN O.twin_pf_state (s.nat O.twin_pf_state / 4 * 4)).endFault F.pfSingle := rfl

/-- A primary that meets both warnings, which it had not, hands its service to a standby that can take it. -/
theorem State.powerWarnings_of_both {p : State} (fresh : s.nat O.twin_pf_state % 4 ≠ 3) (up : s.heldDown = false)
    (warned : p = (s.setN O.twin_pf_state (s.nat O.twin_pf_state / 4 * 4 + 3)).follow F.pfSingle 0 3 true) (primary : p.primary = true)
    (fit : p.twinFit = true) (unwarned : p.twinUnwarned = true) :
    s.powerWarnings true true = ((p.dropSide.tellTwin .powerFail).loseService).seal := by
  have both : (true && true && s.nat O.twin_pf_state % 4 != 3 && !s.heldDown) = true := by simp [fresh, up]
  have serves : (p.primary && p.twinFit && p.twinUnwarned) = true := by rw [primary, fit, unwarned]; rfl
  subst warned
  exact (if_pos both).trans (if_pos serves)

end

/-! ## Hand-over (R434, R436) -/

section
variable {s : State}

theorem State.commitHandover_of_fit (primary : s.primary = true) (asked : s.nat O.twin_handover_state = 1) (fit : s.twinFit = true) :
    s.commitHandover = (({ (((s.shedWork 4).standDown true).setN O.twin_handover_state 2) with
      twin := { (((s.shedWork 4).standDown true).setN O.twin_handover_state 2).twin with hand := s.twin.hand } } : State).beginCatchUp.tellTwin
        .handoverCommit) :=
  (if_pos (by simp [primary, asked])).trans (if_neg (by simp [fit]))

theorem State.commitHandover_of_unfit (primary : s.primary = true) (asked : s.nat O.twin_handover_state = 1) (unfit : s.twinFit = false) :
    s.commitHandover = { s.setN O.twin_handover_state 4 with twin := { s.twin with hand := none } } := by
  refine ((if_pos (by simp [primary, asked])).trans (if_pos (by simp [unfit]))).trans ?_
  simp only [State.abortHandover, asked]

theorem State.dropSide_twin_eq (s : State) : s.dropSide.twin = s.twin :=
  List.foldlRecOn (motive := fun u : State => u.twin = s.twin) _ _ rfl fun _ h _ _ => h

theorem State.standby_setN {k : Key} (other : k ≠ O.id_pair_role) (v : Nat) : (s.setN k v).standby = s.standby := by
  rw [State.standby, State.nat_setN_other _ _ other.symm, State.standby]

theorem State.handoverDone_of_other (committed : s.nat O.twin_handover_state = 2) (other : s.standby = false) :
    s.handoverDone = s.setN O.twin_handover_state 3 :=
  (if_neg (not_not.2 committed)).trans (if_pos (by rw [State.standby_setN (by simp), other]; rfl))

/-- A former primary drops its SIDE lines, and forgets the hand-over. -/
theorem State.handoverDone_of_standby (committed : s.nat O.twin_handover_state = 2) (standby : s.standby = true) (plain : s.twin.hand = none) :
    s.handoverDone = { (s.setN O.twin_handover_state 3).dropSide with
      twin := { (s.setN O.twin_handover_state 3).dropSide.twin with hand := none } } := by
  have lost : ¬(!(s.setN O.twin_handover_state 3).standby) = true := by simp [State.standby_setN, standby]
  have none : (s.setN O.twin_handover_state 3).twin.hand = Option.none := plain
  rw [State.handoverDone, if_neg (not_not.2 committed), if_neg lost, State.dropSide_twin_eq]
  simp only [none]

theorem State.takeback_of_clear {since : Nat} (standby : s.standby = true) (home : s.isHome = true) (fit : s.fit = true)
    (up : s.linkIsUp = true) (current : s.nat O.twin_mirror_state = 1) (settled : s.onProbation = false)
    (clear : s.twin.clearSince = some since) (held : since + s.nat O.twin_hold_time * 1000000000 ≤ s.now) :
    s.takeback = ({ s with twin := { s.twin with hand := some ⟨5, 0, 0, false⟩ } } : State).tellTwin (.handoverRequest 5) := by
  have long : since + s.nat O.twin_hold_time * nsPerSec ≤ s.now := held
  rw [State.takeback, clear]
  exact if_pos (by simp [standby, home, fit, up, current, settled, long])

theorem State.takeback_of_unfit (unfit : s.standby = false ∨ s.isHome = false ∨ s.fit = false ∨ s.twin.clearSince = none) :
    s.takeback = s := by
  refine if_neg fun all => ?_
  simp only [Bool.and_eq_true] at all
  obtain ⟨⟨⟨⟨⟨⟨standby, home⟩, fit⟩, held⟩, -⟩, -⟩, -⟩ := all
  rcases unfit with other | away | unfit | none
  · exact Bool.false_ne_true (other.symm.trans standby)
  · exact Bool.false_ne_true (away.symm.trans home)
  · exact Bool.false_ne_true (unfit.symm.trans fit)
  · rw [none] at held
    exact Bool.false_ne_true held

end

/-! ## Comparisons and tests of a standby (R423 to R426) -/

section
variable {s : State} {f : SigFrame}

theorem State.compareFrame_of_other (other : s.standby = false) : s.compareFrame f = s := if_pos (by simp [other])

theorem State.compareFrame_of_behind (standby : s.standby = true) (video : f.dst < 3072) (behind : s.nat O.twin_mirror_state ≠ 1) :
    s.compareFrame f = { s.count O.twin_sig_excluded with twin := { s.twin with skip := s.twin.skip.filter (fun d => d ≠ f.dst) } } :=
  (if_neg (by simp [standby, video])).trans (if_pos (.inl behind))

/-- A frame that matches is counted, and adds nothing to the runs of its destination. -/
theorem State.compareFrame_of_match (standby : s.standby = true) (video : f.dst < 3072) (current : s.nat O.twin_mirror_state = 1)
    (own : f.ownFill = false) (twin : f.twinFill = false) (safe : f.twinSafe = false) (safe' : s.safe = false)
    (marked : s.showsUnmarked f.dst = false) (kept : s.twin.skip.contains f.dst = false) (same : f.video = f.ownVideo) (silent : f.audio = []) :
    s.compareFrame f = ((s.count O.twin_sig_compared).sigStep f.dst false false).sigStep f.dst true false := by
  have taken : ¬((!s.standby) = true ∨ 3072 ≤ f.dst) := by simp [standby, video]
  have compared : ¬(s.nat O.twin_mirror_state ≠ 1 ∨ f.ownFill = true ∨ f.twinFill = true ∨ f.twinSafe = true ∨ s.safe = true ∨
      s.showsUnmarked f.dst = true ∨ s.twin.skip.contains f.dst = true) := by
    simp only [current, own, twin, safe, safe', marked, kept, ne_eq, not_true_eq_false, Bool.false_eq_true, or_self, not_false_eq_true]
  rw [State.compareFrame, if_neg taken, if_neg compared]
  simp [same, silent]

theorem State.bistRun_of_good {unit : Nat} (standby : s.standby = true) (testable : s.bistable 2 unit = true) :
    s.bistRun 2 unit none = s.setN (O.bank_last_bist unit) (s.tbNow 0) := by
  simp [State.bistRun, standby, testable]

theorem State.bistRun_of_bad {unit addr : Nat} (standby : s.standby = true) (testable : s.bistable 3 unit = true) :
    s.bistRun 3 unit (some addr) = (({ s with twin := { s.twin with bist := (3, unit) :: s.twin.bist } } : State).strike F.bistFail
      (805306368 + unit) addr).exclude 3 unit :=
  if_neg (by simp [standby, testable])

theorem State.loopbackRun_of_other {l errors : Nat} (other : s.standby = false) : s.loopbackRun l errors = s := if_pos (by simp [other])

theorem State.loopbackRun_of_bad {l errors : Nat} (standby : s.standby = true) (present : s.laneExists l = true)
    (active : s.nat (O.lane_state_now l) = 0) (unused : s.mayDormant (s.ownerPort l) = true) (some : errors ≠ 0) :
    s.loopbackRun l errors = ({ s.setN (O.twt_loopback_lane (1 + l / 64)) l with
      twin := { s.twin with loops := s.twin.loops.filter (fun x => x ≠ l) ++ [l] } } : State).follow (F.loopbackFail (l / 64)) l errors true := by
  have runs : ¬((!s.standby) = true ∨ (!s.laneExists l) = true ∨ s.nat (O.lane_state_now l) ≠ 0 ∨ (!s.mayDormant (s.ownerPort l)) = true) := by
    simp [standby, present, active, unused]
  have bad : (errors != 0) = true := by simp [some]
  rw [State.loopbackRun, if_neg runs]
  dsimp only
  rw [if_neg some, bad]
  rfl

end

/-! ## The role of a chip that takes over (R429, R431) -/

namespace RoleKept

variable {z s : State}

theorem tuneTo (h : RoleKept z s) (k : Nat) (target : Int) : RoleKept z (s.tuneTo k target) := h.beside rfl fun _ => rfl

theorem putDpll (h : RoleKept z s) (r : DpllRec) : RoleKept z (s.putDpll r) := h.beside rfl fun _ => rfl

theorem correctTb (h : RoleKept z s) (n : Nat) (corr : Int) (slew : Nat) : RoleKept z (s.correctTb n corr slew) := by
  unfold State.correctTb State.modTb
  split
  · exact h.beside rfl fun _ => rfl
  · exact h

theorem retryLost (h : RoleKept z s) : RoleKept z s.retryLost :=
  h.foldl _ _ fun _ _ kept => kept.ite (kept.beside rfl fun _ => rfl)

theorem showLevels (h : RoleKept z s) : RoleKept z s.showLevels :=
  h.foldl _ _ fun _ _ kept => kept.ite (((kept.set (by simp [pairKey]) _).set (by simp [pairKey]) _).set (by simp [pairKey]) _)

theorem reportAll (h : RoleKept z s) : RoleKept z s.reportAll := by
  have numbered : RoleKept z { s with packet := { s.packet with
      members := s.packet.members.map (fun m => { m with reports := s.nat O.pk_robustness - 1 }) } } := h.beside rfl fun _ => rfl
  exact numbered.foldl _ _ fun _ _ kept => kept.beside rfl fun _ => rfl

section
variable (h : RoleKept z s) (alone : z.twinTakes = false)
include h alone

theorem setDpllState (k st : Nat) : RoleKept z (s.setDpllState k st) := by
  have counted : RoleKept z ((s.setN (O.dpll_state k) st).count (O.dpll_transitions k)) :=
    (h.set (by simp [pairKey]) _).set (by simp [pairKey]) _
  unfold State.setDpllState
  split
  · exact h.tuneTo ..
  · refine RoleKept.tuneTo (RoleKept.ite ?_ (RoleKept.followShared ?_ alone ..)) ..
    · exact ((counted.putDpll _).foldl _ _ fun _ _ kept => (kept.correctTb ..).ite kept).followShared alone ..
    · exact ((counted.putDpll _).foldl _ _ fun _ _ kept => (kept.correctTb ..).ite kept).followShared alone ..

theorem runSelector (k : Nat) : RoleKept z (s.runSelector k) := by
  have conflict (src unit detail : Nat) (c : Bool) : RoleKept z (if c then s.follow src unit detail true else s) :=
    (h.follow alone src unit detail true).ite h
  have free {u : State} (kept : RoleKept z u) : RoleKept z (u.setN (O.dpll_selected k) none8) := kept.set (by simp [pairKey]) _
  unfold State.runSelector
  dsimp only
  split
  · exact h
  · split
    · next e _ =>
      unfold State.moveTo
      dsimp only
      exact (conflict ..).ite ((((conflict ..).set (by simp [pairKey]) _).putDpll _).setDpllState alone ..)
    · exact ((free (conflict ..)).setDpllState alone ..).ite (free (conflict ..))

end

end RoleKept

section
variable (s : State)

theorem State.noteRole_role (cause : Nat) : (s.noteRole cause).nat O.id_pair_role = s.nat O.id_pair_role := by
  unfold State.noteRole
  dsimp only
  split
  · rw [State.nat_setN_other _ _ (by simp), State.nat_count_other _ _ _ (by simp)]
  · rw [State.nat_setN_other _ _ (by simp), State.nat_setN_other _ _ (by simp), State.nat_count_other _ _ _ (by simp)]

theorem State.dropFindings_role : s.dropFindings.nat O.id_pair_role = s.nat O.id_pair_role := by
  have ended : RoleKept s ((List.range 16).foldl (fun st t =>
      ((st.endFault (F.sigVideo t)).endFault (F.sigAudio t)).endFault (F.loopbackFail t)) s) :=
    (RoleKept.refl s).foldl _ _ fun _ _ kept => ((kept.endFault _).endFault _).endFault _
  unfold State.dropFindings
  generalize (List.range 16).foldl _ s = u at ended ⊢
  dsimp only
  rw [((RoleKept.refl _).endFault F.catchingUp).nat rfl, ((RoleKept.refl _).endFault F.stale).nat rfl]
  exact ended.nat rfl

/-- No standby of the chip has reported, and no probe of it is out. -/
def State.forgetTwin : State := { s with twin := { s.twin with behind := false, report := none, probe := 0 } }

theorem State.forgetTwin_nat (k : Key) : s.forgetTwin.nat k = s.nat k := rfl

/-- What becoming primary does after the role is taken: references, memberships, NMOS, levels, lost routes and SIDE. -/
def State.beginCharge (wasStandby : Bool) : State :=
  let s5 := (List.range 4).foldl (fun st k => st.runSelector k) s
  let s6 := if s5.nat O.pk_nmos_state = 3 then s5.setN O.pk_nmos_state 1 else s5
  let s7 := (if wasStandby then s6.reportAll else s6).showLevels.retryLost
  if s7.safe then s7 else s7.claimSide

theorem State.takeCharge_parts (cause : Nat) : ∃ u : State, s.takeCharge cause =
    (((u.setN O.id_pair_role 0).count O.twin_role_epoch).noteRole cause).dropFindings.forgetTwin.beginCharge s.standby :=
  ⟨_, rfl⟩

theorem RoleKept.beginCharge {z s : State} (h : RoleKept z s) (alone : z.twinTakes = false) (wasStandby : Bool) :
    RoleKept z (s.beginCharge wasStandby) := by
  have selected : RoleKept z ((List.range 4).foldl (fun st k => st.runSelector k) s) := h.foldl _ _ fun _ k kept => kept.runSelector alone k
  unfold State.beginCharge
  generalize (List.range 4).foldl _ s = u at selected ⊢
  dsimp only
  have registered : RoleKept z (if u.nat O.pk_nmos_state = 3 then u.setN O.pk_nmos_state 1 else u) := (selected.set rfl _).ite selected
  generalize (if u.nat O.pk_nmos_state = 3 then u.setN O.pk_nmos_state 1 else u) = v at registered ⊢
  have shown : RoleKept z (if wasStandby then v.reportAll else v).showLevels.retryLost :=
    (registered.reportAll.ite registered).showLevels.retryLost
  exact shown.ite shown.claimSide

/-- A chip that takes charge is primary, and no standby can take over from it yet. -/
theorem State.takeCharge_role (cause : Nat) : (s.takeCharge cause).nat O.id_pair_role = 0 ∧ (s.takeCharge cause).twinTakes = false := by
  obtain ⟨u, parts⟩ := s.takeCharge_parts cause
  rw [parts]
  have role : (((u.setN O.id_pair_role 0).count O.twin_role_epoch).noteRole cause).dropFindings.forgetTwin.nat O.id_pair_role = 0 := by
    rw [State.forgetTwin_nat, State.dropFindings_role, State.noteRole_role, State.nat_count_other _ _ _ (by simp), State.nat_setN_same]
  generalize (((u.setN O.id_pair_role 0).count O.twin_role_epoch).noteRole cause).dropFindings = v at role ⊢
  have alone : v.forgetTwin.twinTakes = false := by simp [State.twinTakes, State.forgetTwin]
  have kept := (RoleKept.refl v.forgetTwin).beginCharge alone s.standby
  exact ⟨(kept.nat rfl).trans role, kept.twinTakes.trans alone⟩

theorem State.failOver_role (cause : Nat) : (s.failOver cause).nat O.id_pair_role = 0 := by
  obtain ⟨role, alone⟩ := s.inheritSalvos.takeCharge_role cause
  have struck := (RoleKept.refl (s.inheritSalvos.takeCharge cause)).strike alone F.failover cause 0
  have goesOn (u : State) : u.activationGoesOn.nat O.id_pair_role = u.nat O.id_pair_role := by
    unfold State.activationGoesOn
    split
    · split
      · rfl
      · rfl
    · rfl
  unfold State.failOver
  dsimp only
  rw [goesOn]
  split
  · rw [State.nat_setN_other _ _ (by simp), State.nat_setN_other _ _ (by simp), struck.nat rfl, role]
  · rw [struck.nat rfl, role]

end

/-- Settles O24: each event by the lemma about its operation on the state of its arrival; the role of a chip that takes over by
`State.failOver_role`. That a primary aborts at C where its standby is no longer fit is log entry 27, the model's choice. -/
theorem failOverAndStandbyEventsComplete : Obligations.FailOverAndStandbyEventsComplete := by
  unfold Obligations.FailOverAndStandbyEventsComplete
  refine ⟨⟨?death, ?safe, ?power, ?unable, fun s cause _ => s.failOver_role cause, ?none, ?both⟩,
    ⟨?commit, ?abort, ?doneOther, ?doneStandby, ?takeback, ?stays⟩,
    ?behind, ?compared, ?compareOther, ?bistGood, ?bistBad, ?loopback, ?loopbackOther⟩
  case death =>
    rintro s _ t rfl may down unheard
    rw [exec_primaryDeath, State.primaryDeath_of_alone may down unheard]
  case safe =>
    rintro s _ t rfl may
    exact (exec_safeStateNoticeRx s t).trans (congrArg _ (congrArg _ (if_pos may)))
  case power =>
    rintro s _ _ t rfl rfl may
    exact (exec_powerFailNoticeRx s t).trans (congrArg _ (congrArg _ (if_pos may)))
  case unable =>
    rintro s _ t rfl unable
    obtain ⟨death, safe⟩ := State.triggers_of_unable unable
    exact ⟨by rw [exec_primaryDeath, death], by rw [exec_safeStateNoticeRx, safe]⟩
  case none =>
    rintro s _ t rfl
    rw [exec_pfWarnings, State.powerWarnings_of_none]
  case both =>
    rintro s _ p t rfl fresh up warned primary fit unwarned
    rw [exec_pfWarnings, State.powerWarnings_of_both fresh up warned primary fit unwarned]
  case commit =>
    rintro s _ t rfl primary asked fit
    rw [exec_handoverCommit, State.commitHandover_of_fit primary asked fit]
  case abort =>
    rintro s _ t rfl primary asked unfit
    rw [exec_handoverCommit, State.commitHandover_of_unfit primary asked unfit]
  case doneOther =>
    rintro s _ t rfl committed other
    rw [exec_handoverDone, State.handoverDone_of_other committed other]
  case doneStandby =>
    rintro s _ t rfl committed standby plain
    rw [exec_handoverDone, State.handoverDone_of_standby committed standby plain]
  case takeback =>
    rintro s _ t since rfl standby home fit up current settled clear held
    rw [exec_takeback, State.takeback_of_clear standby home fit up current settled clear held]
  case stays =>
    rintro s _ t rfl unfit
    rw [exec_takeback, State.takeback_of_unfit unfit]
  case behind =>
    rintro s _ t f rfl standby video behind
    rw [exec_signatureCompare, State.compareFrame_of_behind standby video behind]
  case compared =>
    rintro s _ t f rfl standby video current own twin safe safe' marked kept same silent
    rw [exec_signatureCompare, State.compareFrame_of_match standby video current own twin safe safe' marked kept same silent]
  case compareOther =>
    rintro s _ t f rfl other
    rw [exec_signatureCompare, State.compareFrame_of_other other]
  case bistGood =>
    rintro s _ t unit rfl standby testable
    rw [exec_backgroundBist, State.bistRun_of_good standby testable]
  case bistBad =>
    rintro s _ t unit addr rfl standby testable
    rw [exec_backgroundBist, State.bistRun_of_bad standby testable]
  case loopback =>
    rintro s _ t l errors rfl standby present active unused some
    rw [exec_backgroundLoopback, State.loopbackRun_of_bad standby present active unused some]
  case loopbackOther =>
    rintro s _ t l errors rfl other
    rw [exec_backgroundLoopback, State.loopbackRun_of_other other]

end Sys2Proof.Machine
end

section
/-! The events of an activation and of the carry-over journal (R494, R496, R497, R500). -/

namespace Sys2Proof.Machine

section
variable (s : State) (t : Nat)

theorem exec_activationPrepareRx (coord twinActive : Nat) (act : Bytes) (peers : List (Nat × Nat)) :
    exec (.activationPrepareRx t coord act twinActive peers) s = .next (s.closed ((s.advance t).prepareRx coord act twinActive peers)) := rfl

theorem exec_activationReportRx (chip code : Nat) :
    exec (.activationReportRx t chip code) s = .next (s.closed ((s.advance t).actReport chip code)) := rfl

theorem exec_activationReportDeadline : exec (.activationReportDeadline t) s = .next (s.closed (s.advance t).actDeadline) := rfl

theorem exec_activationInstant : exec (.activationInstant t) s = .next (s.closed (s.advance t).actInstantAt) := rfl

theorem exec_probationEnd : exec (.probationEnd t) s = .next (s.closed (s.advance t).probationOver) := rfl

theorem exec_carryOverAppend : exec (.carryOverAppend t) s = .next (s.closed (s.advance t).programCarry) := rfl

theorem exec_carryOverRegionSwitch : exec (.carryOverRegionSwitch t) s = .next (s.closed (s.advance t).switchRegion) := rfl

end

/-! ## Prepares and reports (R494) -/

section
variable {s : State} {coord code chip twinActive : Nat} {act : Bytes} {peers : List (Nat × Nat)}

theorem State.prepareRx_of_refused (foreign : coord ≠ s.chipId) (judged : code = s.prepareCode act twinActive peers) (refused : code ≠ 0) :
    s.prepareRx coord act twinActive peers = s.emit (.notice coord (.activationReport coord code)) := by
  subst judged
  rw [State.prepareRx, if_neg refused]
  exact if_neg foreign

theorem State.prepareRx_of_prepared (foreign : coord ≠ s.chipId) (prepared : s.prepareCode act twinActive peers = 0) :
    s.prepareRx coord act twinActive peers =
      ({ s.setN O.fw_activation_state 1 with fw := { s.fw with act := some ⟨coord, act, false, 0, 0⟩ } } : State).emit
        (.notice coord (.activationReport coord 0)) := by
  rw [State.prepareRx, prepared, if_pos rfl]
  exact if_neg foreign

/-- The chip coordinates an activation whose chips report: its results are listed. -/
theorem State.not_reportless {results : Bytes} (preparing : s.nat O.fw_activation_state = 1) (coordinates : results ≠ []) :
    ¬(s.nat O.fw_activation_state ≠ 1 ∨ results.isEmpty = true) := by
  simp [preparing, coordinates]

theorem State.actReport_of_refused (preparing : s.nat O.fw_activation_state = 1) (coordinates : s.oct O.fw_activation_results ≠ [])
    (member : chip ∈ (actPairs (s.oct O.fw_activation)).flatMap s.chipsOfPair) (refused : code ≠ 0) :
    s.actReport chip code = s.dropActivation 5 7 code chip := by
  have awaited : ¬(s.nat O.fw_activation_state ≠ 1 ∨ (s.oct O.fw_activation_results).isEmpty = true ∨
      (!((actPairs (s.oct O.fw_activation)).flatMap s.chipsOfPair).contains chip) = true) := by
    rw [List.contains_iff_mem.2 member]
    simp [preparing, coordinates]
  exact (if_neg awaited).trans (if_pos refused)

theorem State.reports_of_other (other : s.nat O.fw_activation_state ≠ 1) : s.actReport chip code = s ∧ s.actDeadline = s :=
  ⟨if_pos (.inl other), if_pos (.inl other)⟩

theorem State.actDeadline_of_missing {missing : Nat} (preparing : s.nat O.fw_activation_state = 1)
    (coordinates : s.oct O.fw_activation_results ≠ [])
    (first : ((actPairs (s.oct O.fw_activation)).flatMap s.chipsOfPair).find? (fun c => (kfind s.fw.reports c).isNone) = some missing) :
    s.actDeadline = s.dropActivation 5 7 0 missing := by
  rw [State.actDeadline, if_neg (State.not_reportless preparing coordinates), first]
  rfl

end

/-! ## The instant and the probation (R496, R497) -/

section
variable {s : State} {x : Activation}

theorem State.actInstantAt_of_single (mine : s.fw.act = some x) (prepared : x.stage = 0) (member : x.coord ≠ s.chipId)
    (due : actInstant x.raw ≤ s.tbNow (actTb x.raw)) (follows : s.coordinates = false) (single : s.single = true) :
    s.actInstantAt = (s.setN O.fw_activation_state 3).actRestart x := by
  have reached : ¬(x.stage ≠ 0 ∨ s.tbNow (actTb x.raw) < actInstant x.raw ∨ (x.coord = s.chipId ∧ s.nat O.fw_activation_state ≠ 2)) := by
    simp only [prepared, member, not_lt.2 due, ne_eq, not_true_eq_false, false_and, or_self, not_false_eq_true]
  simp only [State.actInstantAt, mine, if_neg reached, follows, single, Bool.true_or, Bool.not_true, Bool.false_eq_true, if_false, or_true,
    if_true]

theorem State.actInstantAt_of_early (mine : s.fw.act = some x) (early : s.tbNow (actTb x.raw) < actInstant x.raw) : s.actInstantAt = s := by
  simp only [State.actInstantAt, mine]
  exact if_pos (.inr (.inl early))

theorem State.probationOver_of_passed (mine : s.fw.act = some x) (probation : x.stage = 2) (due : x.until' ≤ s.now)
    (serves : s.standby = false) :
    s.probationOver = ({ s.setN O.fw_image_state 0 with fw := { s.fw with newImage := false } } : State).actDone x := by
  have ended : ¬(x.stage ≠ 2 ∨ s.now < x.until') := by omega
  simp only [State.probationOver, mine, if_neg ended, serves, Bool.false_and, Bool.and_false, Bool.false_eq_true, if_false]

theorem State.probationOver_of_none (none : s.fw.act = Option.none) : s.probationOver = s := by
  rw [State.probationOver, none]

/-! ## The carry-over journal (R500) -/

theorem State.programCarry_of_ready (ready : s.ready = true) : s.programCarry =
    { s with fw := { s.fw with carry := s.carryNow, used := s.fw.used + sumBy CarryRec.size s.carryWaiting } } :=
  if_neg (by simp [ready])

theorem State.switchRegion_of_full (full : 7340032 < s.fw.used) : s.switchRegion = { s.count O.fw_carry_sequence with
    fw := { s.fw with carry := s.carryNow, used := sumBy CarryRec.size s.carryNow } } :=
  if_neg (not_le.2 full)

theorem State.switchRegion_of_room (room : s.fw.used ≤ 7340032) : s.switchRegion = s := if_pos room

end

/-- Settles O26: each event by the lemma about its operation on the state of its arrival. That a chip which reported prepared takes the
instant for armed is log entry 34, the model's choice. -/
theorem firmwareEventsComplete : Obligations.FirmwareEventsComplete := by
  unfold Obligations.FirmwareEventsComplete
  refine ⟨?refused, ?prepared, ?dropped, ?other, ?missing, ?single, ?early, ?passed, ?none, ?append, ?full, ?room⟩
  case refused =>
    rintro s _ t coord code twinActive act peers rfl foreign judged refused
    rw [exec_activationPrepareRx, State.prepareRx_of_refused foreign judged refused]
  case prepared =>
    rintro s _ t coord twinActive act peers rfl foreign prepared
    rw [exec_activationPrepareRx, State.prepareRx_of_prepared foreign prepared]
  case dropped =>
    rintro s _ t chip code rfl preparing coordinates member refused
    rw [exec_activationReportRx, State.actReport_of_refused preparing coordinates member refused]
  case other =>
    rintro s _ t chip code rfl other
    obtain ⟨report, deadline⟩ := State.reports_of_other (chip := chip) (code := code) other
    exact ⟨by rw [exec_activationReportRx, report], by rw [exec_activationReportDeadline, deadline]⟩
  case missing =>
    rintro s _ t missing rfl preparing coordinates first
    rw [exec_activationReportDeadline, State.actDeadline_of_missing preparing coordinates first]
  case single =>
    rintro s _ t x rfl mine prepared member due follows single
    rw [exec_activationInstant, State.actInstantAt_of_single mine prepared member due follows single]
  case early =>
    rintro s _ t x rfl mine early
    rw [exec_activationInstant, State.actInstantAt_of_early mine early]
  case passed =>
    rintro s _ t x rfl mine probation due serves
    rw [exec_probationEnd, State.probationOver_of_passed mine probation due serves]
  case none =>
    rintro s _ t rfl none
    rw [exec_probationEnd, State.probationOver_of_none none]
  case append =>
    rintro s _ t rfl ready
    rw [exec_carryOverAppend, State.programCarry_of_ready ready]
  case full =>
    rintro s _ t rfl full
    rw [exec_carryOverRegionSwitch, State.switchRegion_of_full full]
  case room =>
    rintro s _ t rfl room
    rw [exec_carryOverRegionSwitch, State.switchRegion_of_room room]

end Sys2Proof.Machine
end

section
/-! The events of SRAM banks (R463 to R470). -/

namespace Sys2Proof.Machine

section
variable (s : State) (t b addr word unit : Nat)

theorem exec_bankIdleTimer : exec (.bankIdleTimer t b) s = .next (s.closed ((s.advance t).bankTimer b)) := rfl

theorem exec_bankWake : exec (.bankWake t b) s = .next (s.closed ((s.advance t).wakeBank b)) := rfl

theorem exec_bankWakeDone : exec (.bankWakeDone t b) s = .next (s.closed ((s.advance t).bankAwake b)) := rfl

theorem exec_sramWordError : exec (.sramWordError t b addr word unit) s = execSramWordError t b addr word unit s := rfl

theorem exec_bankScrub : exec (.bankScrub t b) s = .next (s.closed ((s.advance t).scrubBank b)) := rfl

end

/-! ## Idle banks (R463 to R465) -/

section
variable {s : State} {b : Nat}

theorem State.bankTimer_of_busy (busy : s.nat (O.bank_policy b) ≠ 0 ∨ s.bankIdle b = false) : s.bankTimer b = s :=
  if_pos (by simpa using .inr busy)

theorem State.bankTimer_of_idle (present : s.bankExists b = true) (policy : s.nat (O.bank_policy b) = 0) (idle : s.bankIdle b = true) :
    s.bankTimer b = match s.nat (O.bank_state b) with
      | 0 => s.setN (O.bank_state b) 1
      | 1 => if bankUse b = 5 then { s.setN (O.bank_state b) 2 with mem := { s.mem with words := s.mem.words.filter (fun e => e.1.1 ≠ b) } }
        else s
      | _ => s :=
  if_neg (by simp [present, policy, idle])

theorem State.wakeBank_of_asleep (present : s.bankExists b = true) (asleep : s.nat (O.bank_state b) = 1 ∨ s.nat (O.bank_state b) = 2) :
    s.wakeBank b = (s.setN (O.bank_state b) 3).count (O.bank_wakes b) :=
  if_pos ⟨present, asleep⟩

/-- A bank that wakes for no access is on. -/
theorem State.bankAwake_of_idle (waking : s.nat (O.bank_state b) = 3) (none : s.mem.taken = []) : s.bankAwake b = s.setN (O.bank_state b) 0 := by
  have empty : (s.setN (O.bank_state b) 0).bankQueue b = [] := by
    rw [State.bankQueue, State.setN_mem, none]
    rfl
  rw [State.bankAwake, if_pos waking, State.serveBank, empty]
  rfl

/-! ## Words and scrubs (R469, R470) -/

theorem State.bankWord_of_good {addr unit word : Nat} (good : decodeWord word = .good) : s.bankWord b addr unit word = s := by
  rw [State.bankWord, good]

theorem State.bankWord_of_corrected {addr unit word x : Nat} (corrected : decodeWord word = .corrected x) :
    s.bankWord b addr unit word = (s.count (O.bank_corrected b)).strike F.sramCorrected b addr := by
  rw [State.bankWord, corrected]

theorem exec_sramWordError_of_unarmed {t addr word unit : Nat} (present : (s.advance t).bankExists b = true)
    (unarmed : (s.advance t).faults.inject = none) :
    exec (.sramWordError t b addr word unit) s = .next (s.closed ((s.advance t).bankWord b addr unit word)) := by
  rw [exec_sramWordError, execSramWordError, done_closed, if_neg (by simp [present]), State.withInjection_of_none unarmed]

theorem State.scrubBank_of_on (present : s.bankExists b = true) (on : s.nat (O.bank_state b) = 0) : s.scrubBank b =
    { s with mem := { s.mem with errs := s.mem.errs.filter (fun e => s.now < e.2 + 3600000000000) } } :=
  if_neg (by simp [present, on])

theorem State.scrubBank_of_off (off : s.nat (O.bank_state b) ≠ 0) : s.scrubBank b = s := if_pos (.inr off)

end

/-- Settles O31: each event by the lemma about its operation on the state of its arrival. When the general pool and the transfer buffers
are idle is log entry 30, the model's choice. -/
theorem bankEventsComplete : Obligations.BankEventsComplete := by
  unfold Obligations.BankEventsComplete
  refine ⟨?retention, ?off, ?busy, ?wake, ?awake, ?good, ?corrected, ?scrub, ?unscrubbed⟩
  case retention =>
    rintro s _ t b rfl present policy idle on
    rw [exec_bankIdleTimer, State.bankTimer_of_idle present policy idle]
    simp only [on]
  case off =>
    rintro s _ t b rfl present policy idle retained pool
    rw [exec_bankIdleTimer, State.bankTimer_of_idle present policy idle]
    simp only [retained, if_pos pool]
  case busy =>
    rintro s _ t b rfl busy
    rw [exec_bankIdleTimer, State.bankTimer_of_busy busy]
  case wake =>
    rintro s _ t b rfl present asleep
    rw [exec_bankWake, State.wakeBank_of_asleep present asleep]
  case awake =>
    rintro s _ t b rfl waking none
    rw [exec_bankWakeDone, State.bankAwake_of_idle waking none]
  case good =>
    rintro s _ t b addr word unit rfl present unarmed good
    rw [exec_sramWordError_of_unarmed present unarmed, State.bankWord_of_good good]
  case corrected =>
    rintro s _ t b addr word unit x rfl present unarmed corrected
    rw [exec_sramWordError_of_unarmed present unarmed, State.bankWord_of_corrected corrected]
  case scrub =>
    rintro s _ t b rfl present on
    rw [exec_bankScrub, State.scrubBank_of_on present on]
  case unscrubbed =>
    rintro s _ t b rfl off
    rw [exec_bankScrub, State.scrubBank_of_off off]

end Sys2Proof.Machine
end

section
/-! Restarts and Lull as they are written (R513, R514, R516). -/

namespace Sys2Proof.Machine

/-! ## The rule of each object -/

section
variable {s : State} (w : Writer)

theorem State.familyWrite_bring_restart (how : Nat) : s.familyWrite w [] O.bring_restart (.n how) = some (s.writeRestart how) := by
  simp [State.familyWrite, State.lullRefuses, State.writePower, Val.int]

theorem State.familyWrite_pow_lull (on : Nat) : s.familyWrite w [] O.pow_lull (.n on) = some (s.writeLull ((on : Int) != 0)) := by
  simp [State.familyWrite, State.lullRefuses, State.writePower, Val.int]

end

/-! ## Restarts (R513) -/

section
variable {s : State}

theorem State.enterSafe_power : s.enterSafe.power = s.power := by
  have dropped (u : State) : u.dropSide.power = u.power := List.foldlRecOn (motive := fun v : State => v.power = u.power) _ _ rfl fun _ h _ _ => h
  have told (u : State) (n : Notice) : (u.tellTwin n).power = u.power := by
    unfold State.tellTwin
    split
    · rfl
    · rfl
  have lost (u : State) : u.loseService.power = u.power := by
    simp only [State.loseService, State.setN_power, State.count_power]
  have marked : (((s.setF O.fault_safe_state true).count O.fault_safe_entries).dropSide.tellTwin .safeState).power = s.power := by
    rw [told, dropped, State.count_power, State.setF_power]
  unfold State.enterSafe
  dsimp only
  split
  · rfl
  · split
    · rw [lost, marked]
    · exact marked

/-- Where no restart waits, the one that is asked for does. -/
theorem State.askRestart_due (free : s.power.due = none) (cause : Nat) : (s.askRestart cause).power.due = some cause := by
  have still : ¬s.enterSafe.power.due.isSome = true := by simp [State.enterSafe_power, free]
  rw [State.askRestart, if_neg still]

theorem State.writeRestart_handover : s.writeRestart 1 = if s.primary then s.askHandover 4 true else (0, s.askRestart 3) := rfl

theorem State.writeRestart_plain : s.writeRestart 2 = (0, s.askRestart 3) := rfl

theorem State.writeRestart_copy_elsewhere (other : s.mode ≠ 3) : s.writeRestart 3 = (C.range, s) := if_pos other

theorem State.writeRestart_copy_in_recovery (recovery : s.mode = 3) : s.writeRestart 3 =
    (0, ({ s with fw := { s.fw with copyDue := s.nat O.fw_caddy_state == 2 } } : State).askRestart 3) :=
  if_neg (not_not.2 recovery)

/-! ## Lull (R514, R516) -/

theorem State.writeLull_of_barred (awake : s.nat O.pow_lull_state = 0) (barred : s.lullBarred = true) : s.writeLull true = (C.busy, s) := by
  simp [State.writeLull, awake, barred]

theorem State.writeLull_of_idle (awake : s.nat O.pow_lull_state = 0) (idle : s.lullBarred = false) : s.writeLull true =
    (0, if s.mirroring then (s.setN O.pow_lull 1).setN O.pow_lull_state 1 else (s.setN O.pow_lull 1).enterLull) := by
  rw [State.writeLull, if_pos rfl, if_neg (by simp [awake]), if_neg (by simp [awake, idle])]
  rfl

theorem State.writeLull_off_of_awake (awake : s.nat O.pow_lull_state = 0 ∨ s.nat O.pow_lull_state = 3) :
    s.writeLull false = (0, s.setN O.pow_lull 0) :=
  (if_neg Bool.false_ne_true).trans (if_neg (by omega))

theorem State.writeLull_off_of_lull (lull : s.nat O.pow_lull_state = 1 ∨ s.nat O.pow_lull_state = 2) :
    s.writeLull false = (0, (s.wakeLull 2).emit .wakeN) :=
  (if_neg Bool.false_ne_true).trans (if_pos lull)

/-- What a wake notes: its cause, the state, and that Lull is no longer asked for. -/
def State.noteWake (s : State) (cause : Nat) : State :=
  ((s.setN O.pow_lull_state 3).setN O.pow_wake_cause cause).setF O.pow_lull false

theorem State.noteWake_reads (cause : Nat) : (s.noteWake cause).nat O.pow_lull_state = 3 ∧ (s.noteWake cause).nat O.pow_wake_cause = cause ∧
    (s.noteWake cause).nat O.pow_lull = 0 := by
  refine ⟨?_, ?_, ?_⟩
  · rw [State.noteWake, State.setF, State.nat_set, if_neg (by simp), State.nat_setN_other _ _ (by simp), State.nat_setN_same]
  · rw [State.noteWake, State.setF, State.nat_set, if_neg (by simp), State.nat_setN_same]
  · rw [State.noteWake, State.setF, State.nat_set, if_pos rfl]
    rfl

/-- The stacks, the banks and the loops come back. -/
def State.wakeUnits (s : State) : State :=
  let s2 := (List.range 4).foldl (fun st k => if st.nat (O.hbm_state k) = 2 then st.setN (O.hbm_state k) 0 else st) s
  let s3 := (s2.banks.filter (fun b => s2.nat (O.bank_state b) = 1)).foldl (fun st b =>
    (st.setN (O.bank_state b) 0).count (O.bank_wakes b)) s2
  [0, 1].foldl (fun st d => st.showLoop d) s3

/-- The instant at which a wake began. -/
def State.noteWakeAt (s : State) : State := { s with power := { s.power with wakeAt := s.now } }

theorem State.noteWakeAt_nat (k : Key) : s.noteWakeAt.nat k = s.nat k := rfl

theorem State.wakeUnits_nat (sub : Nat) : s.wakeUnits.nat ⟨0x1400, 0, sub⟩ = s.nat ⟨0x1400, 0, sub⟩ := by
  have shown (u : State) : ((List.range 4).foldl (fun st k => if st.nat (O.hbm_state k) = 2 then st.setN (O.hbm_state k) 0 else st) u).nat
      ⟨0x1400, 0, sub⟩ = u.nat ⟨0x1400, 0, sub⟩ := by
    refine List.foldlRecOn (motive := fun v : State => v.nat ⟨0x1400, 0, sub⟩ = u.nat ⟨0x1400, 0, sub⟩) _ _ rfl fun v h k _ => ?_
    split
    · rw [State.nat_setN_other _ _ (by simp), h]
    · exact h
  have banks (u : State) (l : List Nat) : (l.foldl (fun st b => (st.setN (O.bank_state b) 0).count (O.bank_wakes b)) u).nat
      ⟨0x1400, 0, sub⟩ = u.nat ⟨0x1400, 0, sub⟩ :=
    List.foldlRecOn (motive := fun v : State => v.nat ⟨0x1400, 0, sub⟩ = u.nat ⟨0x1400, 0, sub⟩) _ _ rfl fun v h b _ => by
      rw [State.nat_count_other _ _ _ (by simp), State.nat_setN_other _ _ (by simp), h]
  have loop (u : State) (d : Nat) : (u.showLoop d).nat ⟨0x1400, 0, sub⟩ = u.nat ⟨0x1400, 0, sub⟩ := by
    have apart : (⟨0x1400, 0, sub⟩ : Key) ≠ O.die_loop_state (1 + d) := fun same => by
      have inst : 0 = 1 + d := congrArg Key.inst same
      omega
    rw [State.showLoop, State.nat_setN_other _ _ apart]
  unfold State.wakeUnits
  dsimp only
  rw [List.foldl_cons, List.foldl_cons, List.foldl_nil, loop, loop, banks, shown]

/-- Beside the objects of Lull, a wake brings its units back. -/
theorem State.wakeLull_nat (lull : s.nat O.pow_lull_state = 1 ∨ s.nat O.pow_lull_state = 2) (cause sub : Nat) :
    (s.wakeLull cause).nat ⟨0x1400, 0, sub⟩ = (s.noteWake cause).nat ⟨0x1400, 0, sub⟩ := by
  have waking : ¬(s.nat O.pow_lull_state ≠ 1 ∧ s.nat O.pow_lull_state ≠ 2) := by omega
  have woken : s.wakeLull cause = (s.noteWake cause).wakeUnits.noteWakeAt := by
    rw [State.wakeLull, if_neg waking]
    unfold State.noteWakeAt State.wakeUnits State.noteWake
    dsimp only
  rw [woken, State.noteWakeAt_nat, State.wakeUnits_nat]

end

/-- Settles O27: each write by the lemma about its rule; what a wake leaves in the objects of Lull by `State.wakeLull_nat`. -/
theorem powerWriteRules : Obligations.PowerWriteRules := by
  unfold Obligations.PowerWriteRules
  refine ⟨fun b w => ?_, fun b w => ?_, fun b w other => ?_, fun b w recovery => ?_,
    fun b cause free => ⟨State.askRestart_due free cause, b.safe_askRestart cause⟩, fun b w awake barred => ?_, fun b w awake idle => ?_,
    fun b w awake => ?_, fun b w lull => ?_⟩
  · exact (b.familyWrite_bring_restart w 1).trans (congrArg some State.writeRestart_handover)
  · exact (b.familyWrite_bring_restart w 2).trans (congrArg some State.writeRestart_plain)
  · exact (b.familyWrite_bring_restart w 3).trans (congrArg some (State.writeRestart_copy_elsewhere other))
  · exact (b.familyWrite_bring_restart w 3).trans (congrArg some (State.writeRestart_copy_in_recovery recovery))
  · exact (b.familyWrite_pow_lull w 1).trans (congrArg some (State.writeLull_of_barred awake barred))
  · exact (b.familyWrite_pow_lull w 1).trans (congrArg some (State.writeLull_of_idle awake idle))
  · exact (b.familyWrite_pow_lull w 0).trans (congrArg some (State.writeLull_off_of_awake awake))
  · obtain ⟨state, cause, off⟩ := b.noteWake_reads 2
    exact ⟨(b.familyWrite_pow_lull w 0).trans (congrArg some (State.writeLull_off_of_lull lull)),
      (State.wakeLull_nat lull 2 _).trans state, (State.wakeLull_nat lull 2 _).trans cause, (State.wakeLull_nat lull 2 _).trans off⟩

end Sys2Proof.Machine
end

section
/-! The events of resets and of the start of bring-up (R506 to R509, R511, R536). -/

namespace Sys2Proof.Machine

section
variable (s : State) (t : Nat)

theorem exec_resetNLow : exec (.resetNLow t) s = .next (s.closed (s.advance t).resetLow) := rfl

theorem exec_jtagExtest : exec (.jtagExtest t) s = .next (s.closed (s.advance t).extest) := rfl

theorem exec_pwrgdFall : exec (.pwrgdFall t) s = .next (s.closed (s.advance t).pwrgdFall) := rfl

theorem exec_bringupStart : exec (.bringupStart t) s = .next (s.closed (s.advance t).bringupStart) := rfl

theorem exec_tapReset : exec (.tapReset t) s = .next (s.closed (s.advance t).tapReset) := rfl

theorem exec_bringupOverrun : exec (.bringupOverrun t) s = .next (s.closed (s.advance t).bringupOverrun) := rfl

end

/-! ## Holding the chip in reset (R506 to R508, R536) -/

section
variable {s : State}

theorem State.resetLow_of_high (high : s.power.resetN = true) :
    s.resetLow = { s.wipe false with power := { (s.wipe false).power with resetN := false } } :=
  if_neg (by simp [high])

theorem State.extest_of_free (free : s.power.tap = false) (high : s.power.resetN = true) :
    s.extest = { s.wipe false with power := { (s.wipe false).power with tap := true } } := by
  rw [State.extest, free, if_neg Bool.false_ne_true, high]
  rfl

/-- With RESET_N low already, the loss of power is no brown-out of its own. -/
theorem State.pwrgdFall_of_low (good : s.power.pwrgd = true) (low : s.power.resetN = false) (unwarned : s.nat O.twin_pf_state % 4 ≠ 3) :
    s.pwrgdFall = { s.wipe true with power := { (s.wipe true).power with pwrgd := false } } := by
  simp only [State.pwrgdFall, good, low, Bool.not_true, Bool.false_eq_true, if_false, if_neg unwarned]

/-- What a wipe leaves of the part, whatever faults it goes on to note: no Ready, no routes, no salvos, no words. -/
theorem State.wipe_parts (lost : Bool) : (s.wipe lost).ready = false ∧ (s.wipe lost).sw = State.reset.sw ∧
    (s.wipe lost).salvos = State.reset.salvos ∧ (s.wipe lost).mem = State.reset.mem := by
  refine List.foldlRecOn (motive := fun u : State => u.ready = false ∧ u.sw = State.reset.sw ∧ u.salvos = State.reset.salvos ∧
    u.mem = State.reset.mem) _ _ ⟨rfl, rfl, rfl, rfl⟩ fun u h x _ => ?_
  split
  · exact h
  · exact h

/-! ## Bring-up begins (R509, R511, R536) -/

theorem State.bringupStart_of_held (free : s.power.tap = false) (held : s.power.pwrgd = false ∨ s.power.resetN = false) : s.bringupStart =
    ({ s with power := { s.power with pwrgd := true, resetN := true } } : State).startUp (if s.power.lost then 0 else 1) := by
  refine if_neg ?_
  rcases held with down | low
  · simp [free, down]
  · simp [free, low]

theorem State.tapReset_of_driven (driven : s.power.tap = true) (good : s.power.pwrgd = true) (high : s.power.resetN = true) :
    s.tapReset = ({ s with power := { s.power with tap := false } } : State).startUp 1 :=
  (if_neg (by simp [driven])).trans (if_pos ⟨good, high⟩)

theorem State.tapReset_of_free (free : s.power.tap = false) : s.tapReset = s := if_pos (by simp [free])

theorem State.bringupOverrun_of_first (starting : s.ready = false) (good : s.power.pwrgd = true) (high : s.power.resetN = true)
    (free : s.power.tap = false) (runs : s.power.stuck = false) (first : s.power.overrun = false) :
    s.bringupOverrun = ({ s with power := { s.power with overrun := true } } : State).restart 5 :=
  (if_neg (by simp [starting, good, high, free, runs])).trans (if_neg (by simp [first]))

end

/-- Settles O29: each event by the lemma about its operation on the state of its arrival. That a wipe takes the routes, the salvos and
the words of the banks to their reset values is log entries 23 and 31, the model's choice. -/
theorem resetEventsComplete : Obligations.ResetEventsComplete := by
  unfold Obligations.ResetEventsComplete
  refine ⟨?low, ?extest, ?power, fun b lost => State.wipe_parts lost, ?start, ?tap, ?free, ?overrun⟩
  case low =>
    rintro s _ t rfl high
    rw [exec_resetNLow, State.resetLow_of_high high]
  case extest =>
    rintro s _ t rfl free high
    rw [exec_jtagExtest, State.extest_of_free free high]
  case power =>
    rintro s _ t rfl good low unwarned
    rw [exec_pwrgdFall, State.pwrgdFall_of_low good low unwarned]
  case start =>
    rintro s _ t rfl free held
    rw [exec_bringupStart, State.bringupStart_of_held free held]
  case tap =>
    rintro s _ t rfl driven good high
    rw [exec_tapReset, State.tapReset_of_driven driven good high]
  case free =>
    rintro s _ t rfl free
    rw [exec_tapReset, State.tapReset_of_free free]
  case overrun =>
    rintro s _ t rfl starting good high free runs first
    rw [exec_bringupOverrun, State.bringupOverrun_of_first starting good high free runs first]

end Sys2Proof.Machine
end
